-- ==== Sys2Proof/Word.lean ====
section
/-! DEFINITION. The plain words of the module: bytes, register words, and the association list in which every
sparse store of the model (SRAM, stacked memory, tables, counters) is held. -/

namespace Sys2Proof

/-- One byte. -/
abbrev Byte := BitVec 8

/-- One 32-bit register word. -/
abbrev Word := BitVec 32

/-- A sparse store: number and value pairs. The canonical form (`Map.wf` of Machine/Maps.lean) lists the numbers
strictly rising and no value equal to what an unlisted number reads as. `Map Byte` is a list of `Host.Cell`. -/
abbrev Map (α : Type) := List (Nat × α)

end Sys2Proof
end

