-- ==== Sys2Proof/Types.lean ====
section
/-! DEFINITION. The names, enumerations and operand shapes that the commands of Syntax.lean and the state of
Machine/State.lean are written with. -/

namespace Sys2Proof

/-! ## Places on the wafer (R67) -/

abbrev FieldId := Fin 84
abbrev BlockId := Fin 53760
abbrev CoreIx := Fin 16
abbrev CtxIx := Fin 8
abbrev RegIx := Fin 32
abbrev StackId := Fin 32
abbrev PortId := Fin 8
abbrev MemberId := Fin 64
abbrev GroupId := Fin 16
abbrev UnitId := Fin 65536
abbrev JobCtx := Fin 64
/-- A lane of the beam ports, 16 × field + lane. -/
abbrev LaneId := Fin 1344

/-- A core: physical block and index within it (R67). -/
structure CoreRef where
  block : BlockId
  core : CoreIx
  deriving DecidableEq, Repr

/-! ## Numbers (chapter 05) -/

/-- The element formats of Table 5.2. -/
inductive Elem where
  | fp32 | bf16 | fp16 | e4m3 | e5m2 | e3m2 | e2m3 | e2m1
  deriving DecidableEq, Repr

/-- What a floating-point word stands for: `(-1)^neg · mag · 2^exp`, an infinity, or a NaN. -/
inductive Val where
  | fin (neg : Bool) (mag : Nat) (exp : Int)
  | inf (neg : Bool)
  | nan
  deriving DecidableEq, Repr

/-- The rounding of a narrowing conversion (R162): nearest even, or stochastic with the 24-bit draw given. -/
inductive Rounding where
  | nearest
  | stochastic (draw : Nat)
  deriving DecidableEq, Repr

/-- SPECIAL of an accumulator set (R152). -/
inductive Special where
  | none | pinf | ninf | nan
  deriving DecidableEq, Repr

/-- A format code resolved (Table 5.1). -/
inductive Fmt where
  | elem (e : Elem)
  | mx
  | t4
  deriving DecidableEq, Repr

/-- The structured formats of Table 6.1. -/
inductive Sparse where
  | dense | s24 | ts24 | s14 | s28
  deriving DecidableEq, Repr

/-- The PRUNE setting of a layer record (R183). -/
inductive Prune where
  | none | s24 | s14 | s28 | ts24
  deriving DecidableEq, Repr

/-! ## The group and the tick (chapters 01, 02) -/

/-- The roles of Table 1.2 and R17 to R20. The lead of group 0 is also the job lead. -/
inductive Role where
  | lead | standby | member
  deriving DecidableEq, Repr

/-- TICK.SLIP_POLICY (R56). -/
inductive SlipPolicy where
  | cont | pause
  deriving DecidableEq, Repr

/-- TICK.SOURCE (R62). -/
inductive TickSource where
  | internal | external
  deriving DecidableEq, Repr

/-- A tick message (Table 2.2), CHECK apart. -/
structure TickMsg where
  tickCount : Nat
  step : Nat
  slot : Nat
  epoch : Nat
  slip : Bool
  passBoundary : Bool
  stepBoundary : Bool
  hold : Bool
  external : Bool
  flywheel : Bool
  group : Nat
  deriving DecidableEq, Repr

/-- What a lead tells its standby lead at the end of a tick (R19): the barrier histories of its members and the members
that its slips recorded (its late-arrival statistics), the ramp allocation by member, and the rollback in progress. -/
structure LeadNews where
  late : List (Nat × List Bool) := []
  graceLate : List Nat := []
  grants : List (Nat × Int) := []
  rolling : Bool := false
  rollTarget : Nat := 0
  deriving DecidableEq, Repr

/-- What has come from the lead since the tick before and has no row of its own: roles relayed to the group, as lead and
standby lead (R22, R23), and lead state to the standby lead (R19). -/
structure TickNews where
  roles : Option (MemberId × Option MemberId) := none
  lead : Option LeadNews := none
  deriving DecidableEq, Repr

/-- The roles of another group as the job lead knows them, with the group's straps (R23). -/
structure GroupRoles where
  group : Nat
  lead : Nat
  standby : Option Nat
  straps : Nat
  deriving DecidableEq, Repr

/-- An overrun report held at the lead (R50, R51), with its arrival time. -/
structure Overrun where
  member : Nat
  unit : Nat
  slot : Nat
  at_ : Nat
  deriving DecidableEq, Repr

/-! ## The fabric (chapter 03) -/

/-- FIELD_STATE of Table 19.3. -/
inductive FieldState where
  | lit | shade | dark
  deriving DecidableEq, Repr

/-- The mesh directions of a field route table entry (R78). -/
inductive Dir where
  | e | w | n | s
  deriving DecidableEq, Repr

/-- The virtual channels of Table 3.3. -/
inductive Chan where
  | glint | control | request | response | escape
  deriving DecidableEq, Repr

/-- A router's output ports (Table 3.1); an edge router's outward port is its memory port. -/
inductive OutPort where
  | mesh (d : Dir)
  | local_
  | hub
  | memory
  deriving DecidableEq, Repr

/-- The small queues of Table 3.4 and of a router's input ports (R87), the beam lane receive queue (R230), and the other
queues of a beam port (Table 11.5). -/
inductive QueueId where
  | boundary (router : BlockId) (d : Dir) (c : Chan)
  | coreToRouter (block : BlockId) (c : Chan)
  | routerToCore (block : BlockId) (c : Chan)
  | hubToControl (f : FieldId)
  | controlToHub (f : FieldId)
  | routerToMemory (m : StackId) (port : Fin 16)
  | memoryToRouter (m : StackId) (port : Fin 16)
  | routerInput (router : BlockId) (d : Dir) (c : Chan)
  | beamReceive (lane : LaneId)
  | laneTransmit (lane : LaneId)
  | glintReceive (lane : LaneId)
  | linkManagement (lane : LaneId)
  deriving DecidableEq, Repr

/-- Which of a small queue's two counts crosses its synchroniser (R87, R88). -/
inductive QueueSide where
  | writeCount | readCount
  deriving DecidableEq, Repr

/-- A directed router link: the sending router and its port. -/
structure LinkRef where
  router : BlockId
  dir : Dir
  deriving DecidableEq, Repr

/-- A packet: the 128-bit header flit of Table 3.2 and its payload bytes, 16 a flit. -/
structure Flits where
  header : BitVec 128
  payload : List Byte
  deriving DecidableEq, Repr

/-- An entry of the unit map as written: identifier and the 64 bits of Table 3.5. -/
structure MapWrite where
  unit : UnitId
  entry : BitVec 64
  deriving DecidableEq, Repr

/-! ## Cores (chapter 04) -/

/-- What the checkers of a core find at an instruction (R168 to R175): nothing, a residue mismatch in a cell or lane,
or an SRAM parity error at an address, in data written by the task with the tag given where a task wrote it. -/
inductive CoreCheck where
  | ok
  | residue (cell : Nat)
  | parity (addr : Nat) (producer : Option Nat)
  deriving DecidableEq, Repr

/-- The context of a core on which an instruction issues, bit [23] of its word, "conditional on the context's
predicate" (chapter 04, Instructions), and what the checkers find at it. -/
structure Issue where
  block : BlockId
  core : CoreIx
  ctx : CtxIx
  pred : Bool
  chk : CoreCheck
  deriving DecidableEq, Repr

/-- The registers of GATHER's UNION option (R192): the destination of the union count, the source of LIMIT, the first
of the four rows, the first grain of the span, its length K, and the bytes of one row of B, the item size that the union
index list names. -/
structure UnionRegs where
  count : RegIx
  limit : RegIx
  row : RegIx
  first : RegIx
  span : RegIx
  item : RegIx
  deriving DecidableEq, Repr

/-- A parity mismatch on a read that no instruction makes (R122): the SRAM address, and the tag of the task that wrote the
word where one did. -/
structure ParityHit where
  addr : BitVec 16
  producer : Option (BitVec 16)
  deriving DecidableEq, Repr

/-- A (token group, block) pair of a predicted layer (chapter 06, Activation prediction). -/
structure PairRef where
  layer : BitVec 16
  group : BitVec 32
  block : BitVec 16
  deriving DecidableEq, Repr

/-- What an MMA is for where its layer is predicted (R204, R205, R210): nothing of prediction; the scores of the
`quad`-th four tokens of a group against four blocks, the blocks' biases, four FP32 words, at the address in a register; the shadow pass of a pair; or the work of
a pair, forward, made up or backward. -/
inductive MmaUse where
  | plain
  | score (first : PairRef) (quad : Fin 16) (bias : RegIx)
  | shadow (pair : PairRef)
  | pair (pair : PairRef)
  deriving DecidableEq, Repr

/-- A COPY between SRAM and a layer's block mask of the pass, one bit per pair (R210). -/
inductive MaskCopy where
  | store (layer : BitVec 16)
  | load (layer : BitVec 16)
  deriving DecidableEq, Repr

/-- DEST_KIND of a packet that a task sends (Table 3.2). -/
inductive DestKind where
  | core | hub | memory
  deriving DecidableEq, Repr

/-- A format of VCVT as its word names it: a code of Table 5.1, and the element code of an MX-scaled one. -/
structure CvtCode where
  code : Fin 16
  elem : Fin 16
  deriving DecidableEq, Repr

/-- The elementwise operations of VOP (R118). -/
inductive VecOp where
  | add | sub | mul | fma | min | max | abs | neg | cmpLt | cmpLe | cmpEq | select
  deriving DecidableEq, Repr

/-- The functions of VFN (R118). -/
inductive VecFn where
  | exp2 | log2 | recip | rsqrt
  deriving DecidableEq, Repr

/-- The reductions of VRED (R118): of each row, of each column, or of each lane pair, by sum, minimum or maximum. -/
inductive RedKind where
  | row | column | lanePair
  deriving DecidableEq, Repr

inductive RedOp where
  | sum | min | max
  deriving DecidableEq, Repr

/-- A format of VCVT: an element format, MX-scaled with its element type, or T4 (R161, R166, R167). -/
inductive CvtFmt where
  | elem (e : Elem)
  | mx (e : Elem)
  | t4
  deriving DecidableEq, Repr

/-- The grid that LATCH loads (Table 4.6). -/
inductive Grid where
  | la | lb
  deriving DecidableEq, Repr

/-- The engine of a core on which a multi-cycle instruction finishes (R109, R133). -/
inductive Engine where
  | tensor | vector | move | comm
  deriving DecidableEq, Repr

/-! ## The stream, memory and reduction (chapters 07, 08, 10) -/

/-- A 64-byte unit's data and check bits as one burst brought them (R259). -/
structure Burst where
  data : BitVec 512
  check : BitVec 16
  deriving DecidableEq, Repr

/-- The bursts of a packet's unit, counted from the packet's first, that brought other bits than the unit holds, in the order
of the reads; likewise those of SYSTEM's other copy (R259, R260). -/
structure UnitReads where
  unit : Nat
  bursts : List Burst := []
  copies : List Burst := []
  deriving DecidableEq, Repr

/-- What a stack showed its controller over a packet: bursts that brought other bits, commands repeated after a parity error,
reports of the on-die ECC (R250, R260). -/
structure MemFacts where
  units : List UnitReads := []
  ifRetries : Nat := 0
  odecc : Nat := 0
  deriving DecidableEq, Repr

/-- A memory packet at a controller: read or write at the place its ADDR names (R251, R252). -/
inductive MemReq where
  | read (addr : BitVec 32) (len : Nat) (facts : MemFacts)
  | write (addr : BitVec 32) (data : List Byte) (fromAccUnit : Bool) (facts : MemFacts)
  deriving DecidableEq, Repr

/-- A raise message (R317): the block's tensor home exponent, or BEXP 97 with NONFINITE. -/
structure RaiseMsg where
  block : Nat
  bexp : Int
  nonfinite : Bool
  deriving DecidableEq, Repr

/-! ## Beam links and collectives (chapter 11) -/

/-- A codeword at a lane's decoder (R341, R342): uncorrectable, or the symbol errors corrected, the 80-bit control
field of Table 11.3 and the 80 data words; `replay` tells the replay of a codeword that failed from what was already
on its way. -/
inductive Codeword where
  | bad (replay : Bool)
  | good (replay : Bool) (symbolErrors : Fin 13) (control : BitVec 80) (data : List (BitVec 64))
  deriving DecidableEq, Repr

/-- Where a glint packet stands (R368): at a field's combiner, at the member's root combiner, at ROOT's, at the job
lead's at job scope, or on its way back as the result. -/
inductive GlintStage where
  | field (f : FieldId)
  | moduleRoot
  | rootRoot
  | jobRoot
  | result
  deriving DecidableEq, Repr

/-- What a collective engine reads for a chunk of an all-gather (R287): bytes `first` to `first + count` of an owned
block's master in the layer's working format, for one destination at one position. -/
structure GatherForm where
  comm : Fin 64
  dest : MemberId
  position : BitVec 32
  block : Nat
  first : Nat
  count : Nat
  exponents : Bool := false
  deriving DecidableEq, Repr

/-- A place that the layout names for the data of a packet of an all-gather, and the arrival entry (R361). -/
structure GatherPlace where
  core : CoreRef
  addr : BitVec 16
  entry : Fin 64
  deriving DecidableEq, Repr

/-! ## Layout images (chapter 12). An image is held decoded, with what a check of its bytes would find. -/

/-- A scheduled task: slot, unit, and the 512-bit descriptor of Table 4.4 (section 0x0004). -/
structure SlotTask where
  slot : Nat
  unit : Nat
  desc : BitVec 512
  deriving DecidableEq, Repr

/-- One stream slot of a stream schedule: the consumer signals it lists and the window bytes it places (section
0x0005). -/
structure StreamSlot where
  signals : Nat
  bytes : Nat
  newEpoch : Bool := false
  deriving DecidableEq, Repr

/-- A schedule of an image (R376): its last slot, the slots on whose first tick a pass begins, which of them begin a
backward pass (R295), the tasks, the stream slots of one step, and those of a dual pass. -/
structure Schedule where
  lastSlot : Nat
  passStarts : List Nat
  tasks : List SlotTask
  stream : List StreamSlot
  dualStream : List StreamSlot
  backwardStarts : List Nat := []
  deriving DecidableEq, Repr

/-- A piece of a leaf's image: where it loads in the SRAM of each core of the leaf (section 0x0003). -/
structure LeafPiece where
  unit : Nat
  addr : Nat
  bytes : List Byte
  deriving DecidableEq, Repr

/-- POLICY of a predictor record (Table 6.8). -/
inductive PredPolicy where
  | makeup | record | off
  deriving DecidableEq, Repr

/-- A predictor record with the defaults of Table 6.7; THRESHOLD and ACT_EDGE are FP16 words. -/
structure PredictorRec where
  layer : Nat
  policy : PredPolicy := .record
  group : Nat := 16
  threshold : Nat := 0
  sampleK : Nat := 16
  actEdge : Nat := 0
  missBound : Nat := 1000
  deriving DecidableEq, Repr

/-- An entry of FALLBACK_DIR (section 0x000C). -/
structure FallbackEntry where
  kind : Nat
  outMask : Nat
  offset : Nat
  deriving DecidableEq, Repr

/-- An entry of CONTRIB_MAP (section 0x000A): an owned block, by tensor and number in it, with its owner and index at the owner,
the units that hold its pieces (R316), and where their RACC tables lie, as unit and SRAM address of each 16-byte entry. -/
structure ContribRec where
  tensor : Nat
  bn : Nat
  owner : Nat
  block : Nat
  units : List Nat
  racc : List (Nat × Nat)
  deriving DecidableEq, Repr

/-- A layout image (Tables 12.1 and 12.2). `digest` is the header's DIGEST and `digestOk` what the
SHA-384 check of its bytes finds. Raw records of
the tables other chapters define stay as their words. -/
structure LayoutImage where
  magic : Nat
  format : Nat
  kind : Nat
  field : Nat
  layoutId : Nat
  period : Nat
  split : Nat
  outMask : Nat
  minBlocks : Nat
  hbmMib : Nat
  digestOk : Bool
  digest : Nat
  library : Nat
  stashGib : Nat
  kvBytesToken : Nat
  unitMap : List MapWrite
  leaves : List LeafPiece
  primary : Option Schedule
  degraded : Schedule
  ingest : List (BitVec 256)
  stash : List (BitVec 256)
  layers : List (BitVec 512)
  owners : List (Nat × Nat)
  homes : List (Nat × Nat)
  blockRecords : List (Nat × BitVec 512)
  comms : List (BitVec 256)
  glintCounts : List (List Nat)
  contrib : List ContribRec
  predictors : List PredictorRec
  fallbacks : List FallbackEntry
  deriving DecidableEq, Repr

/-! ## Hosts and commands (chapter 13) -/

/-- Where a command packet came from: a submission ring, a datagram from a source address and port, the sideband
mailbox, or the job lead's distribution of a job-scope command (R409). -/
inductive Origin where
  | ring (n : Fin 1024)
  | datagram (source : Nat)
  | sideband
  | distributed
  deriving DecidableEq, Repr

/-- The header of a command packet (Table 13.4), with where it came from. CTX 0xFF is module level. -/
structure CmdHdr where
  origin : Origin
  ctx : BitVec 8
  seq : BitVec 32
  quiet : Bool
  fence : Bool
  deriving DecidableEq, Repr

/-- The body of SET_NET (Table 13.8). Addresses as numbers; prefixes of the allow list as (address, length). -/
structure NetSettings where
  port : Nat
  ipv4 : Nat
  ipv4Prefix : Nat
  ipv6 : Nat
  ipv6Prefix : Nat
  vlan : Nat
  mtu : Nat
  pfc : Nat
  allow : List (Nat × Nat)
  deriving DecidableEq, Repr

/-- The body of RING_CREATE (Table 13.8). -/
structure RingParams where
  ring : Nat
  kind : Nat
  order : Nat
  entryShift : Nat
  ctx : Nat
  cq : Nat
  notifyAddr : Nat
  notifyPort : Nat
  deriving DecidableEq, Repr

/-- The body of MR_REGISTER: region kind 0 DOORBELL, 1 RINGS, 2 INPUT, 3 OWNER (Table 13.2 in order). -/
structure MrParams where
  kind : Nat
  ctx : Nat
  read : Bool
  write : Bool
  offset : Nat
  length : Nat
  deriving DecidableEq, Repr

/-- The body of QP_CREATE. -/
structure QpParams where
  port : Nat
  gid : Nat
  qpn : Nat
  psn : Nat
  mtu : Nat
  deriving DecidableEq, Repr

/-- The body of JOB_CONFIGURE (Table 13.9). STANDBY 0xFFFF names none. `straps` is the mask of members whose
LEAD_SEL the module knows to be high. -/
structure JobParams where
  jobTag : Nat
  group : Nat
  member : Nat
  groups : Nat
  members : Nat
  lead : Nat
  standby : Nat
  period : Nat
  grace : Nat
  slipPause : Bool
  tickExternal : Bool
  split : Nat
  windowGib : Nat
  systemGib : Nat
  kvGib : Nat
  lateTicks : Nat
  initialEpoch : Nat
  straps : Nat
  deriving DecidableEq, Repr

/-- What the admission of JOB_START finds outside this module (R438, R339, R352): the first module refused at
admission, the first missing direct channel between other modules, the shadow owners of the group as SHADOW_SET named
them, (owner, shadow owner) (R499), the direct channels between pairs of other modules, as module, module and count (R350),
the roles of the other groups (R23), and on a module that the job lead starts the job lead's job-wide values (R543). -/
structure AdmissionFacts where
  refused : Option Nat
  missingPeer : Option Nat
  shadows : List (Nat × Nat)
  peerChannels : List (Nat × Nat × Nat)
  roles : List GroupRoles := []
  jobWide : List Nat := []
  deriving DecidableEq, Repr

/-- The kinds of a context (R405, CONTEXT_OPEN). -/
inductive CtxKind where
  | train | serve | eval
  deriving DecidableEq, Repr

/-- The settings of a serving context (Table 9.5). -/
structure ServeSettings where
  maxRequests : Nat
  passTokens : Nat
  maxNew : Nat
  kvPage : Nat
  stopTokens : List Nat
  deriving DecidableEq, Repr

/-- The body of CONTEXT_OPEN. -/
structure CtxParams where
  ctx : Nat
  kind : CtxKind
  inputMib : Nat
  serve : ServeSettings
  deriving DecidableEq, Repr

/-- The fields of SET_RULE. -/
inductive RuleField where
  | lr | wd | maskChurn | gscale | clipNorm | refreshSteps
  deriving DecidableEq, Repr

/-- The body of REQUEST (Table 13.9). -/
structure RequestParams where
  promptLen : Nat
  newLen : Nat
  sampled : Bool
  indirect : Bool
  seed : BitVec 32
  prompt : List Nat
  deriving DecidableEq, Repr

/-- Scope of a shutter (R508). -/
inductive ShutterScope where
  | module | group | job
  deriving DecidableEq, Repr

/-- The body of a command packet by opcode, Tables 13.8 to 13.16, parameters in table order. -/
inductive CmdBody where
  | identify
  | sizeTable
  | setNet (p : NetSettings)
  | ringCreate (p : RingParams)
  | ringDestroy (ring : Nat)
  | mrRegister (p : MrParams)
  | mrRevoke (rkey : Nat)
  | qpCreate (p : QpParams)
  | qpDestroy (qpn : Nat)
  | jobConfigure (p : JobParams)
  | jobStart (facts : AdmissionFacts)
  | jobPause
  | jobResume
  | jobEnd
  | nameLead (lead : Nat) (standby : Nat) (straps : Nat)
  | contextOpen (p : CtxParams)
  | contextClose
  | setRule (tensor : Nat) (field : RuleField) (value : Nat)
  | batchReady (step : Nat) (bytes : Nat)
  | request (p : RequestParams)
  | cancel (seq : BitVec 32)
  | epochSwitch (epoch : Nat)
  | epochWithdraw
  | streamLimits (dual : Nat) (rep : Nat)
  | streamStatus
  | layoutLoad (offset : Nat) (length : Nat)
  | layoutQuery
  | ownerLoaded
  | ownerExpose
  | selfTest (quick : Bool)
  | capSet (watts : Nat) (hard : Bool)
  | rampSet (rate : Nat)
  | heartbeat (id : BitVec 32)
  | safeCapSet (percent : Nat)
  | glowFloorSet (percent : Nat)
  | powerStatus
  | faultRead (first : Nat) (count : Nat)
  | faultClear (mask : Nat)
  | rollback
  | exclude (index : Nat)
  | shadowSet (member : Nat)
  | fieldReturn (field : Nat)
  | shutterFire (scope : ShutterScope)
  | snapshotRead (kind : Nat) (index : Nat) (offset : Nat) (length : Nat)
  | countersRead (first : Nat) (count : Nat)
  | journalRead (first : Nat) (count : Nat)
  | bootJournalRead (first : Nat) (count : Nat)
  | attest (nonce : List Byte)
  | flashWrite (slotB : Bool) (offset : Nat) (data : List Byte)
  | bundleVerify (slotB : Bool)
  | bundleActivate (slotB : Bool)
  | reset
  | regRead (addr : Nat) (count : Nat)
  | regWrite (pairs : List (Nat × Nat))
  | regRmw (addr : Nat) (mask : Nat) (value : Nat)
  deriving DecidableEq, Repr

/-- A command packet as it lies in an entry, datagram or mailbox: header fields of Table 13.4, the first non-zero
reserved byte of header and body, the required length where the body's length is wrong, and the body. A body of
`none` is an opcode no table lists. -/
structure Packet where
  opcode : BitVec 16
  flags : BitVec 8
  ctx : BitVec 8
  seq : BitVec 32
  length : BitVec 16
  reservedAt : Option Nat
  requiredLength : Option Nat
  body : Option CmdBody
  deriving DecidableEq, Repr

/-- The payload of an RDMA WRITE: bytes, a command packet into a submission entry, or a layout image into SYSTEM. -/
inductive RdmaData where
  | bytes (bs : List Byte)
  | packet (p : Packet)
  | image (i : LayoutImage)
  deriving DecidableEq, Repr

/-- The header facts of a RoCE request (Table 13.1): when it comes, queue pair, PSN, R_Key, offset in the region, an ECN CE
mark, and whether the ICRC holds and the opcode is one the module accepts. -/
structure RoceHdr where
  at_ : Nat
  ce : Bool
  qpn : Nat
  psn : Nat
  rkey : Nat
  offset : Nat
  icrcOk : Bool
  opcodeOk : Bool
  deriving DecidableEq, Repr

/-! ## Firmware and boot (chapter 14) -/

/-- The check of Table 14.7 that a bundle fails first, and what its DETAIL names. -/
inductive BundleFault where
  | format
  | keySlot
  | signature (ed : Bool) (mldsa : Bool)
  | stepping
  | image (i : Fin 4)
  deriving DecidableEq, Repr

/-- What cryptography finds on the bytes of a slot (R422, R423): the key slot's digest is that of the block's two public keys,
ED_SIG and MLDSA_SIG verify, and the first image whose SHA-384 differs from its DIGEST. -/
structure BundleChecks where
  keyMatches : Bool
  ed : Bool
  mldsa : Bool
  badImage : Option (Fin 4)
  deriving DecidableEq, Repr

/-- Which self-test a start runs (R428, R431). -/
inductive TestKind where
  | full | quick
  deriving DecidableEq, Repr

/-- What the tests of R100 find: pairs of neighbouring cores, tester and tested as 16 × block + core, where the tested
core's result differs from the expected one, the routers that fail, and the link wires that fail. -/
structure TestResult where
  mismatches : List (Nat × Nat)
  routers : List Nat
  wires : List (Nat × Nat)
  deriving DecidableEq, Repr

/-- What a start meets (R426, R427): the flash devices present, what cryptography finds on the slots' bytes, whether a step fails and
with which code, fields whose domain, PLL or control core fails, the self-test's findings, milliseconds at each step's
end. -/
structure StartFacts where
  checksA : BundleChecks
  checksB : BundleChecks
  devA : Bool
  devB : Bool
  contactFails : Bool
  failStep : Option (Nat × Nat)
  hangs : Option Nat
  darkFields : List Nat
  mapDigestOk : Bool
  test : TestResult
  repaired : List (Nat × Nat)
  lanes : List (Nat × Nat × BitVec 80)
  deriving DecidableEq, Repr

/-! ## Power and heat (chapter 15) -/

/-- What the sensors read in one 50 µs sample (R463), °C: the six junction sensors of each field, each stack, inlet and outlet. -/
structure SensorFacts where
  fieldsC : List (List Int)
  stacksC : List Int
  inlet : Int
  outlet : Int
  deriving DecidableEq, Repr

/-! ## Pins (chapter 18) -/

/-- The discrete inputs in pin bit order (R549). -/
inductive PinIn where
  | rstN | pwrGood | thrN | haltN | tempAlertN | shutterIn | tickIn | leadSel
  deriving DecidableEq, Repr

/-! ## Faults and rollback (chapter 16) -/

/-- A member's state (R479). -/
inductive MemberState where
  | active | draining | excluded | lost
  deriving DecidableEq, Repr

/-- A rollback notice (Table 16.2). -/
structure RollbackMsg where
  target : Nat
  roll : Nat
  cause : Nat
  source : Nat
  holdAfter : Bool
  members : Nat
  deriving DecidableEq, Repr

/-- A rollback request at the job lead (R485). -/
structure RollbackReq where
  cause : Nat
  source : Nat
  deriving DecidableEq, Repr

/-- An entry of a digest list (R491). -/
structure DigestEntry where
  tensor : Nat
  tcrc : Nat
  blocks : Nat
  nanBlocks : Nat
  deriving DecidableEq, Repr

/-- The mirror digest of a block at one replica (Table 16.4). -/
structure MirDigest where
  maxe : Nat
  nan : Bool
  crc : Nat
  proj : Int
  deriving DecidableEq, Repr

/-- One block in an OWNER or SHADOW bank: masters, two eight-bit moments with their FP16 scale per 128 elements,
position codes, error memories of class S, factors and roots of rule 5 (R258, R311, R323, R328). -/
structure OwnerBlock where
  master : Map Nat := []
  m1 : Map Nat := []
  m1Scale : Map Nat := []
  m2 : Map Nat := []
  m2Scale : Map Nat := []
  codes : Map Nat := []
  codesValid : Bool := false
  sendErr : Map Nat := []
  retErr : Map Nat := []
  factors : Map Byte := []
  deriving DecidableEq, Repr

/-- A piece of a contribution or total (R308): its header, its values (a sign bit each in mode 2), the block of the core
that sent it and the ACK_ENTRY in its header flit. -/
structure PieceData where
  header : BitVec 128
  values : List Int
  srcBlock : BlockId
  ackEntry : Fin 64
  deriving DecidableEq, Repr

end Sys2Proof
end

