-- ==== Sys2Proof/Syntax.lean ====
section
/-! DEFINITION. The commands: one constructor per row of spec/opcode_table.json, in the table's order. Operands are the
model's own (the table gives the rows no fields): what the row's rules say arrives with the event, and the physical
facts (a check that fails, a sensor's reading, a time) that the rules turn on. `t` is the module's own time in ns. -/

namespace Sys2Proof

/-- A command, bus operation or event (spec/opcode_table.json, 244 rows). -/
inductive Instr where
  -- The stream tick (chapters 01, 02)
  | issueTick (t : Nat)
  | tickReceived (t : Nat) (raw : BitVec 160) (news : TickNews)
  | graceExpired (t : Nat) (unit : UnitId)
  | overrunReport (t : Nat) (member : MemberId) (unit : UnitId) (slot : BitVec 24)
  | groupSlipForward (t : Nat) (group : GroupId)
  | tickMissed (t : Nat)
  | tickLoss (t : Nat)
  | nameStandby
  | tickInEdge (t : Nat)
  | flywheelTick (t : Nat)
  -- The fabric (chapter 03)
  | flitReceived (t : Nat) (link : LinkRef) (flit : BitVec 128) (parityOk : Bool)
  | flitResend (link : LinkRef)
  | packetForward (router : BlockId) (pkt : Flits) (partner : Option Flits) (checkOk : Bool)
  | linkRetrain (link : LinkRef)
  | linkRetrainDone (link : LinkRef) (wires : List (Fin 140)) (repaired : Bool)
  | fieldDark (f : FieldId) (cause : Fin 8)
  | routeTablesInstalled
  | fieldShade (f : FieldId) (cause : Fin 8)
  | queueItemWrite (q : QueueId) (item : BitVec 1040)
  | queueItemRead (q : QueueId)
  | unitMapChange (entries : List MapWrite) (digestsEqual : Bool)
  | taskSpread (unit : UnitId) (desc : BitVec 512) (parity : Option ParityHit)
  | taskDispatch (core : CoreRef)
  | scoreboardArrival (core : CoreRef) (entry : Fin 64) (n : BitVec 16)
  | lPortWrite (block : BlockId) (pkt : Flits) (parity : Option ParityHit)
  -- Core instructions (chapters 04 to 06)
  | nop (k : Issue) (op : BitVec 8)
  | endTask (k : Issue)
  | branch (k : Issue) (target : BitVec 16)
  | loop (k : Issue) (count : RegIx) (stop : BitVec 16)
  | arm (k : Issue) (entry : Fin 64) (target : RegIx)
  | signal (k : Issue) (unit : RegIx) (entry : Fin 64) (n : BitVec 16)
  | seed (k : Issue) (lo hi : RegIx)
  | spawn (k : Issue) (addr unit : RegIx) (makeup : Option PairRef)
  | copy (k : Issue) (dst src len : RegIx) (mask : Option MaskCopy)
  | gather (k : Issue) (dst src list : RegIx) (union : Option UnionRegs)
  | scatter (k : Issue) (dst src list : RegIx)
  | fill (k : Issue) (dst value len : RegIx)
  | latch (k : Issue) (src : RegIx) (grid : Grid)
  | mma (k : Issue) (word : BitVec 64) (use : MmaUse)
  | drain (k : Issue) (dst : RegIx) (set : Fin 2) (orient : Bool)
  | clear (k : Issue) (set : Fin 2)
  | vop (k : Issue) (op : VecOp) (dst a b c : RegIx) (count : Fin 4096)
  | vfn (k : Issue) (fn : VecFn) (dst a : RegIx) (count : Fin 4096)
  | vcvt (k : Issue) (dst src scale : RegIx) (from_ to_ : CvtCode) (sr sat : Bool) (count : Fin 4096)
  | vred (k : Issue) (kind : RedKind) (op : RedOp) (dst src : RegIx) (rows cols : Fin 4096)
  | send (k : Issue) (member : Option (Fin 1024)) (kind : DestKind) (block dst src len : RegIx) (tag : BitVec 16)
  | read (k : Issue) (member : Option (Fin 1024)) (kind : DestKind) (block dst src len : RegIx) (tag : BitVec 16)
  | racc (k : Issue) (table src : RegIx)
  | glint (k : Issue) (op : Fin 16) (src len : RegIx)
  | mmaRs (k : Issue) (word : BitVec 64) (dest : MemberId) (tile : BitVec 32) (last : Bool)
  | agMma (k : Issue) (word : BitVec 64) (chunks : List (Fin 64 × BitVec 16))
  | mmaRacc (k : Issue) (word : BitVec 64) (tile : Fin 32)
  | mmaSpill (k : Issue) (word : BitVec 64)
  -- Weight stream ingress (chapter 07)
  | frameArrival (t : Nat) (lane : LaneId) (raw : BitVec 256)
  | segmentIngest (t : Nat) (lane : LaneId) (header : BitVec 256) (payload : List Byte)
  | consumerSignal (seq : BitVec 48)
  | frameMissing (t : Nat) (lane : LaneId) (seq : BitVec 48)
  | laneSilent (t : Nat) (lane : LaneId)
  -- Stacked memory (chapter 08)
  | memoryRequest (stack : StackId) (req : MemReq)
  | hbmRefresh (stack : StackId) (hot : Bool)
  | stackUnreachable (stack : StackId)
  -- Reduction and update (chapter 10)
  | pieceArrival (stack : StackId) (piece : PieceData) (facts : MemFacts)
  | reRequest (group : GroupId) (owner : MemberId) (block : BitVec 32) (bexp : Int)
  | raiseMessage (msg : RaiseMsg)
  | blockUpdateDone (block : BitVec 32) (chk : Bool)
  | updateRegionSignal (tensor : BitVec 32)
  | outboundWorkingCopy (block : BitVec 32)
  | updateDoneReport (group : GroupId) (member : MemberId) (fromLead : Bool) (nonfinite : Option (BitVec 32))
      (norm : BitVec 32)
  | commitNotice (t : Nat) (step : BitVec 40) (roll : BitVec 8) (clip : BitVec 32)
  | reconcileCopy (block : BitVec 32) (bank : OwnerBlock)
  -- Beam links and collectives (chapter 11)
  | laneTraining (lane : LaneId) (delay : BitVec 16) (identity : BitVec 80) (ok : Bool)
  | codewordReceived (t : Nat) (lane : LaneId) (cw : Codeword)
  | nakReceived (lane : LaneId) (count : BitVec 16)
  | laneRetrain (t : Nat) (lane : LaneId)
  | laneRetrainDone (t : Nat) (lane : LaneId) (ok : Bool) (identity : BitVec 80)
  | laneSignalLoss (t : Nat) (lane : LaneId)
  | laneLoopbackDone (lane : LaneId) (enginePasses : Bool)
  | beamPacketArrival (f : FieldId) (header : BitVec 128) (inner : Flits)
  | retrainNotice (t : Nat) (source : Fin 1024) (begins : Bool)
  | chunkSend (f : FieldId) (form : Option GatherForm)
  | chunkPacketArrival (t : Nat) (f : FieldId) (header : BitVec 128) (values : List Int) (chk : Bool)
      (place : List GatherPlace)
  | chunkAck (f : FieldId) (comm : Fin 64) (dest : MemberId) (position : BitVec 32)
  | chunkRerequest (f : FieldId) (comm : Fin 64) (dest : MemberId) (position : BitVec 32)
  | lateBoundExpired (t : Nat) (comm : Fin 64) (source : MemberId)
  | suspectReport (t : Nat) (comm : Fin 64) (gather : Bool) (group : GroupId) (member : MemberId)
  | exclusionNotice (comm : Fin 64) (group : GroupId) (member : MemberId)
  | glintPacket (t : Nat) (stage : GlintStage) (header : BitVec 128) (data : List (BitVec 64))
  -- Placement (chapter 12)
  | coreFailedRebind (core : CoreRef)
  | replacementReady (t : Nat) (digestOk : Bool) (copiesEqual : Bool)
  | returnToPrimary
  -- The host interface (chapter 13)
  | doorbell (ring : Fin 2048) (value : BitVec 32)
  | rdmaWrite (h : RoceHdr) (data : RdmaData)
  | rdmaRead (h : RoceHdr) (len : BitVec 32)
  | commandDatagram (t : Nat) (port : PortId) (source : BitVec 160) (bytes : Fin 65536) (fragment : Bool) (pkt : Packet)
  | packetParse (t : Nat)
  | portDown (port : PortId)
  | ptpEventMessage (t : Nat) (port : PortId) (offset : Int) (locked : Bool) (rank : Nat)
  | ptpInstanceChange
  | identify (h : CmdHdr)
  | sizeTable (h : CmdHdr)
  | setNet (h : CmdHdr) (p : NetSettings)
  | ringCreate (h : CmdHdr) (p : RingParams)
  | ringDestroy (h : CmdHdr) (ring : BitVec 16)
  | mrRegister (h : CmdHdr) (p : MrParams)
  | mrRevoke (h : CmdHdr) (rkey : BitVec 32)
  | qpCreate (h : CmdHdr) (p : QpParams)
  | qpDestroy (h : CmdHdr) (qpn : BitVec 24)
  | jobConfigure (h : CmdHdr) (p : JobParams)
  | jobStart (h : CmdHdr) (facts : AdmissionFacts)
  | jobPause (h : CmdHdr)
  | jobResume (h : CmdHdr)
  | jobEnd (h : CmdHdr)
  | nameLead (h : CmdHdr) (lead standby : BitVec 8) (straps : BitVec 64)
  | contextOpen (h : CmdHdr) (p : CtxParams)
  | contextClose (h : CmdHdr)
  | setRule (h : CmdHdr) (tensor : BitVec 32) (f : RuleField) (value : BitVec 32)
  | batchReady (h : CmdHdr) (step : BitVec 40) (bytes : BitVec 64)
  | request (h : CmdHdr) (p : RequestParams)
  | cancel (h : CmdHdr) (seq : BitVec 32)
  | epochSwitch (h : CmdHdr) (epoch : BitVec 16)
  | epochWithdraw (h : CmdHdr)
  | streamLimits (h : CmdHdr) (dual rep : BitVec 8)
  | streamStatus (h : CmdHdr)
  | layoutLoad (h : CmdHdr) (offset length : BitVec 64)
  | layoutQuery (h : CmdHdr)
  | ownerLoaded (h : CmdHdr)
  | ownerExpose (h : CmdHdr)
  | selfTest (h : CmdHdr) (quick : Bool)
  | capSet (h : CmdHdr) (watts : BitVec 16) (hard : Bool)
  | rampSet (h : CmdHdr) (rate : BitVec 16)
  | heartbeat (h : CmdHdr) (id : BitVec 32)
  | safeCapSet (h : CmdHdr) (percent : BitVec 8)
  | glowFloorSet (h : CmdHdr) (percent : BitVec 8)
  | powerStatus (h : CmdHdr)
  | faultRead (h : CmdHdr) (first count : BitVec 16)
  | faultClear (h : CmdHdr) (mask : BitVec 256)
  | rollback (h : CmdHdr)
  | exclude (h : CmdHdr) (index : BitVec 16)
  | shadowSet (h : CmdHdr) (member : BitVec 8)
  | fieldReturn (h : CmdHdr) (f : BitVec 8)
  | shutterFire (h : CmdHdr) (scope : ShutterScope)
  | snapshotRead (h : CmdHdr) (kind : BitVec 8) (index offset length : BitVec 32)
  | countersRead (h : CmdHdr) (first count : BitVec 16)
  | journalRead (h : CmdHdr) (first : BitVec 40) (count : BitVec 16)
  | bootJournalRead (h : CmdHdr) (first : BitVec 32) (count : BitVec 16)
  | attest (h : CmdHdr) (nonce : List Byte)
  | flashWrite (h : CmdHdr) (slotB : Bool) (offset : BitVec 32) (data : List Byte)
  | flashStageDrain (ok : Bool)
  | bundleVerify (h : CmdHdr) (slotB : Bool)
  | bundleActivate (h : CmdHdr) (slotB : Bool)
  | resetCmd (h : CmdHdr)
  | regRead (h : CmdHdr) (addr : BitVec 32) (count : BitVec 16)
  | regWrite (h : CmdHdr) (pairs : List (Word × Word))
  | regRmw (h : CmdHdr) (addr mask value : BitVec 32)
  | registerWrite (addr value : BitVec 32)
  | capSoftWrite (value : BitVec 32)
  | capHardWrite (value : BitVec 32)
  | rearm
  | recordValidClear (ix : Fin 256)
  | heldClear (value : BitVec 32)
  | counterLowWordRead (addr : BitVec 32) (sideband : Bool)
  | sidebandCommandWrite (bytes : Fin 65536) (pkt : Packet)
  | sidebandReplyRead
  | sidebandRegRead (addr : BitVec 32)
  | sidebandRegWrite (addr value : BitVec 32)
  | entdaa (addr : BitVec 7)
  | i2cFallback
  -- Firmware and boot (chapter 14)
  | moduleStart (t : Nat) (facts : StartFacts)
  | startStepTimeout (t : Nat)
  | fieldControlWatchdog (f : FieldId)
  | fieldControlReloadDone (f : FieldId) (ok : Bool)
  | schedulerWatchdog (t : Nat)
  | powerMgmtWatchdog (t : Nat)
  | securityWatchdog (t : Nat)
  -- Power and heat (chapter 15)
  | powerControlRecompute (t : Nat) (mv w drawMin : BitVec 16)
  | rampWindow (t : Nat) (avg : BitVec 16) (excepted : Bool)
  | beaconsCollected (t : Nat)
  | rampAllocation (tick : BitVec 48) (grant : Int)
  | allocationMissing (tick : BitVec 48)
  | hardCapShade (draw : BitVec 16)
  | heartbeatTimeout (t : Nat)
  | undervoltageDim
  | dimRelease
  | undervoltageStop
  | overvoltageStop
  | supplyStopRecovery
  | regulatorDropout
  | sensorSample (t : Nat) (facts : SensorFacts)
  | throttleStep (t : Nat) (f : FieldId)
  | throttleShade (t : Nat) (f : FieldId)
  | heatReturn (t : Nat) (f : FieldId)
  | fieldProtectionTrip (f : FieldId)
  | protectionProbe (f : FieldId) (holds : Bool)
  | shoulderTrip (side : Fin 4)
  | controlTrip
  | refclkLost (t : Nat)
  -- Pins (chapter 18)
  | thrNAssert (t : Nat)
  | thrNRelease (t : Nat)
  | tempAlertAssert (t : Nat)
  | tempAlertRelease (t : Nat)
  | haltNAssert (t : Nat)
  | haltNRelease (t : Nat)
  | haltRequest (module_ : Fin 1024) (withdraw : Bool)
  | rstNAssert (t : Nat)
  | rstNRelease (t : Nat) (leadSel : Bool)
  | pwrGoodRise (t : Nat)
  | pwrGoodFall (t : Nat)
  | leadSelChange (t : Nat)
  | pinStuck (t : Nat) (pin : PinIn)
  -- Membership and rollback (chapter 16)
  | lanternBeacon (t : Nat) (raw : BitVec 384)
  | beaconSilence (t : Nat) (group : GroupId) (member : MemberId)
  | memberDrain (t : Nat) (member : MemberId)
  | drainTimeout (t : Nat) (member : MemberId)
  | memberJoin (member : MemberId) (gpe : BitVec 16) (layoutId : BitVec 64) (lanesOk : Bool)
  | rollbackRequest (t : Nat) (req : RollbackReq)
  | rollbackNotice (t : Nat) (msg : RollbackMsg)
  | digestList (group : GroupId) (entries : List DigestEntry)
  | blockDigests (tensor : BitVec 32) (rule : Fin 8) (replicas : List (Nat × List (Nat × MirDigest)))
  | recomputeDone (block : BitVec 32) (lowMatches highMatches : Bool)
  | shadowTotal (piece : PieceData)
  -- Shutter and diagnostics (chapter 17)
  | shutterInEdge (t : Nat)
  | faultShutter (t : Nat)
  | shutterRequest (t : Nat) (module_ : Fin 1024) (source : Fin 16)
  | glintShutter (t : Nat) (payload : BitVec 64)
  | bankLatchComplete (t : Nat)
  | tapBypass (tdi : Bool)
  | tapIdcode
  | tapSamplePreload (pins : BitVec 64)
  | tapExtest (value : BitVec 64)
  | tapSnapRead (kind : BitVec 32) (index offset : BitVec 32)
  -- Completions and physical events added by the table's last rows
  | selfTestDone (t : Nat) (result : TestResult)
  | layoutLoadDone (t : Nat) (copiesEqual : Bool)
  | bundleVerifyDone (t : Nat) (checks : BundleChecks)
  | fieldReturnComplete (f : FieldId) (ok : Bool)
  | totalAcknowledgement (block : BitVec 32) (group : GroupId) (fromShadow : Bool)
  | totalRerequest (block : BitVec 32) (group : GroupId) (piece : Fin 8)
  | portUp (port : PortId)
  | arpNdIcmpRequest (port : PortId) (target : BitVec 128) (echo : BitVec 64)
  | inputPowerPresent (t : Nat)
  | refclkPresent (t : Nat)
  | pinTransitionRejected (pin : PinIn)
  | fieldGovernorStep (f : FieldId) (draw share low : BitVec 16)
  | engineInstructionComplete (core : CoreRef) (engine : Engine)
  | grayPointerSync (q : QueueId) (side : QueueSide)
  deriving DecidableEq, Repr

end Sys2Proof
end

