-- ==== Sys2Proof/Decode.lean ====
section
/-! DEFINITION. The commands that a word of the table's bits spells: no row of spec/opcode_table.json gives bits
(every row's `fields` is empty), so no word spells a command. -/

namespace Sys2Proof

/-- No row of the table gives bits.
Log entry 8 (DESIGN CHOICE). -/
def decodeTableWord (_nbits _w : Nat) : Option Instr := none

end Sys2Proof
end

