-- ==== Sys2Proof/Machine/Bits.lean ====
section
/-! DEFINITION. Bit fields, little-endian byte order (R7) and the two check codes (R554). -/

namespace Sys2Proof.Machine

/-- Bits `[lo + len - 1 : lo]` of a number. -/
def field (w lo len : Nat) : Nat := w / 2 ^ lo % 2 ^ len

/-- One bit of a number. -/
def bitAt (w i : Nat) : Bool := w.testBit i

/-- 1 for true, 0 for false. -/
def b2n (b : Bool) : Nat := if b then 1 else 0

/-- Pack `(width, value)` fields, the first at bit 0; each value is cut to its width. -/
def pack : List (Nat × Nat) → Nat
  | [] => 0
  | (w, v) :: rest => v % 2 ^ w + 2 ^ w * pack rest

/-- The `n` bytes of a number, little-endian (R7). -/
def bytesLE : Nat → Nat → List Byte
  | 0, _ => []
  | n + 1, v => BitVec.ofNat 8 v :: bytesLE n (v / 256)

/-- The number that bytes spell, little-endian (R7). -/
def ofBytesLE : List Byte → Nat
  | [] => 0
  | b :: bs => b.toNat + 256 * ofBytesLE bs

/-- One step of the CRC-16 of R554 over a bit, most significant first. -/
def crc16Shift (crc : Nat) : Nat :=
  let sh := crc * 2 % 65536
  if crc / 32768 % 2 = 1 then Nat.xor sh 0x1021 else sh

/-- The CRC-16 of R554 after one more byte. -/
def crc16Byte (crc : Nat) (b : Byte) : Nat :=
  let c0 := Nat.xor crc (b.toNat * 256)
  crc16Shift (crc16Shift (crc16Shift (crc16Shift (crc16Shift (crc16Shift (crc16Shift (crc16Shift c0)))))))

/-- CRC-16 of R554: polynomial 0x1021, initial value 0xFFFF, not reflected, no final XOR. -/
def crc16 (bs : List Byte) : Nat := bs.foldl crc16Byte 0xFFFF

/-- One step of the reflected CRC-32 of R554. -/
def crc32Shift (crc : Nat) : Nat :=
  if crc % 2 = 1 then Nat.xor (crc / 2) 0xEDB88320 else crc / 2

/-- The CRC-32 register after one more byte. -/
def crc32Byte (crc : Nat) (b : Byte) : Nat :=
  let c0 := Nat.xor crc b.toNat
  crc32Shift (crc32Shift (crc32Shift (crc32Shift (crc32Shift (crc32Shift (crc32Shift (crc32Shift c0)))))))

/-- CRC-32 of R554: IEEE 802.3, reflected, initial value and final XOR 0xFFFF_FFFF. -/
def crc32 (bs : List Byte) : Nat := Nat.xor (bs.foldl crc32Byte 0xFFFFFFFF) 0xFFFFFFFF

/-- Ceiling division. -/
def ceilDiv (a b : Nat) : Nat := if b = 0 then 0 else (a + b - 1) / b

/-- A value held to the range `lo` to `hi` (R541).
Log entry 66 (DESIGN CHOICE). -/
def clamp (lo hi v : Nat) : Nat := if v < lo then lo else if hi < v then hi else v

/-- A number read as a two's-complement integer of `w` bits. -/
def toSigned (w v : Nat) : Int :=
  if v % 2 ^ w < 2 ^ (w - 1) then (v % 2 ^ w : Nat) else (v % 2 ^ w : Nat) - (2 ^ w : Nat)

/-- The two's-complement word of `w` bits of an integer. -/
def ofSigned (w : Nat) (i : Int) : Nat := (i % (2 ^ w : Nat)).toNat

/-- The `i`-th member of a list, `d` where there is none. -/
def nth {α : Type} (d : α) (l : List α) (i : Nat) : α := l.getD i d

/-- Ascending numbers `lo, lo + 1, …` below `hi`. -/
def rangeFrom (lo hi : Nat) : List Nat := (List.range (hi - lo)).map (lo + ·)

/-- Binary-reflected Gray code. -/
def toGray (n : Nat) : Nat := Nat.xor n (n / 2)

/-- The number a Gray code stands for, over `w` bits. -/
def fromGray : Nat → Nat → Nat
  | 0, _ => 0
  | w + 1, g => Nat.xor g (fromGray w (g / 2))

end Sys2Proof.Machine
end

