-- ==== Sys2Proof/Machine/Float.lean ====
section
/-! DEFINITION. Element formats, their exact values, the one rounding of a conversion, FP32 arithmetic and the
stochastic generator (R142 to R146, R159 to R165). -/

namespace Sys2Proof.Machine

/-! ## Formats (Table 5.2) -/

def elemExpBits : Elem → Nat
  | .fp32 | .bf16 => 8
  | .fp16 | .e5m2 => 5
  | .e4m3 => 4
  | .e3m2 => 3
  | .e2m3 | .e2m1 => 2

def elemManBits : Elem → Nat
  | .fp32 => 23
  | .bf16 => 7
  | .fp16 => 10
  | .e4m3 | .e2m3 => 3
  | .e5m2 | .e3m2 => 2
  | .e2m1 => 1

def elemBias : Elem → Nat
  | .fp32 | .bf16 => 127
  | .fp16 | .e5m2 => 15
  | .e4m3 => 7
  | .e3m2 => 3
  | .e2m3 | .e2m1 => 1

/-- Sign, exponent and mantissa together. -/
def elemBits (f : Elem) : Nat := 1 + elemExpBits f + elemManBits f

/-- The magnitude bits of max finite (Table 5.2). -/
def elemMaxBits : Elem → Nat
  | .fp32 => 0x7F7FFFFF
  | .bf16 => 0x7F7F
  | .fp16 => 0x7BFF
  | .e4m3 => 0x7E
  | .e5m2 => 0x7B
  | .e3m2 | .e2m3 => 0x1F
  | .e2m1 => 0x7

/-- The exponent of the largest normal value: emax of R166. -/
def elemEmax (f : Elem) : Int := (elemMaxBits f / 2 ^ elemManBits f : Nat) - (elemBias f : Int)

/-- Formats that have infinities (Table 5.2). -/
def elemHasInf : Elem → Bool
  | .fp32 | .bf16 | .fp16 | .e5m2 => true
  | _ => false

/-- The canonical NaN of a format (R146); +0 where the format has none (Table 5.4). -/
def elemNan : Elem → Nat
  | .fp32 => 0x7FC00000
  | .bf16 => 0x7FC0
  | .fp16 => 0x7E00
  | .e4m3 => 0x7F
  | .e5m2 => 0x7E
  | _ => 0

def elemHasNan (f : Elem) : Bool := decide (elemNan f ≠ 0)

/-- The element format of a code of Table 5.1. -/
def elemOfCode : Nat → Option Elem
  | 1 => some .fp32
  | 2 => some .bf16
  | 3 => some .fp16
  | 4 => some .e4m3
  | 5 => some .e5m2
  | 6 => some .e3m2
  | 7 => some .e2m3
  | 8 => some .e2m1
  | _ => none

/-- A resolved format code; 0x0, 0xB to 0xE and 0xF are not formats of an operand (R143). -/
def fmtOfCode (c : Nat) : Option Fmt :=
  if c = 9 then some .mx else if c = 10 then some .t4 else (elemOfCode c).map .elem

/-- The bytes one element takes in SRAM; a 4-bit element is half of its pair's byte (R111). -/
def elemBytes : Elem → Nat
  | .fp32 => 4
  | .bf16 | .fp16 => 2
  | _ => 1

/-- The weight exponent of a format's subnormal unit. -/
def elemMinExp (f : Elem) : Int := 1 - (elemBias f : Int) - (elemManBits f : Int)

/-- The value of a word of format `f`. -/
def decodeElem (f : Elem) (w : Nat) : Val :=
  let m := elemManBits f
  let e := field w m (elemExpBits f)
  let man := field w 0 m
  let s := bitAt w (m + elemExpBits f)
  if elemHasInf f && decide (e = 2 ^ elemExpBits f - 1) then (if man = 0 then .inf s else .nan)
  else if decide (f = .e4m3) && decide (field w 0 7 = 0x7F) then .nan
  else if e = 0 then .fin s man (elemMinExp f)
  else .fin s (2 ^ m + man) (elemMinExp f + ((e : Int) - 1))

/-- The word with a sign over magnitude bits. -/
def withSign (f : Elem) (s : Bool) (mag : Nat) : Nat := b2n s * 2 ^ (elemBits f - 1) + mag

/-- The exponent of the leading bit of `mag · 2^exp`, `mag` not zero. -/
def leadExp (mag : Nat) (exp : Int) : Int := (Nat.log2 mag : Int) + exp

/-- Is the quotient rounded up, given the dropped part `rem` out of `2^k` (R162, R164)? -/
def roundsUp (r : Rounding) (q rem k : Nat) : Bool :=
  match r with
  | .nearest => decide (2 ^ k < 2 * rem) || (decide (2 * rem = 2 ^ k) && decide (q % 2 = 1))
  | .stochastic u => decide (u < rem * 2 ^ 24 / 2 ^ k)

/-- The magnitude bits of `mag · 2^exp` rounded once to `f`, before the range check. -/
def roundMag (f : Elem) (r : Rounding) (mag : Nat) (exp : Int) : Nat :=
  if mag = 0 then 0 else
  let m := elemManBits f
  let qe := max (leadExp mag exp - (m : Int)) (elemMinExp f)
  let k := (qe - exp).toNat
  let q := if qe ≤ exp then mag * 2 ^ (exp - qe).toNat else mag / 2 ^ k
  let up := if qe ≤ exp then false else roundsUp r q (mag % 2 ^ k) k
  (qe - elemMinExp f).toNat * 2 ^ m + q + b2n up

/-- Is `mag · 2^exp` above the max finite value of `f`? -/
def aboveMax (f : Elem) (mag : Nat) (exp : Int) : Bool :=
  match decodeElem f (elemMaxBits f) with
  | .fin _ mm me =>
    let lo := min exp me
    decide (mm * 2 ^ (me - lo).toNat < mag * 2 ^ (exp - lo).toNat)
  | _ => false

/-- The outcome of converting one value: the word, whether it counts in SAT_COUNT, whether in NAN_LOST (R163). -/
structure Conv where
  word : Nat
  sat : Bool
  nanLost : Bool
  deriving DecidableEq, Repr

/-- A value converted to `f`, rounded once, with the out-of-range rules of Table 5.4. FP32 as a target follows the
rows of the formats that have infinities.
Log entry 31 (DEDUCED). -/
def convert (f : Elem) (r : Rounding) (sat : Bool) : Val → Conv
  | .nan => { word := elemNan f, sat := false, nanLost := !elemHasNan f }
  | .inf s =>
    if elemHasInf f && !sat then
      { word := withSign f s (elemMaxBits f / 2 ^ elemManBits f * 2 ^ elemManBits f + 2 ^ elemManBits f)
        sat := false, nanLost := false }
    else { word := withSign f s (elemMaxBits f), sat := true, nanLost := false }
  | .fin s mag exp =>
    let bits := roundMag f r mag exp
    if bits ≤ elemMaxBits f then
      { word := withSign f s bits
        sat := decide (bits = elemMaxBits f) && aboveMax f mag exp, nanLost := false }
    else if elemHasInf f && !sat then
      { word := withSign f s (elemMaxBits f / 2 ^ elemManBits f * 2 ^ elemManBits f + 2 ^ elemManBits f)
        sat := false, nanLost := false }
    else { word := withSign f s (elemMaxBits f), sat := true, nanLost := false }

/-! ## FP32 arithmetic (R159, R160) -/

def fpDec (w : Nat) : Val := decodeElem .fp32 w

/-- Round a value once to FP32, nearest even. -/
def fpEnc (v : Val) : Nat := (convert .fp32 .nearest false v).word

def fpNan : Nat := elemNan .fp32

/-- The exact signed sum of two finite values; an exact zero takes the sign `zs`. -/
def finAdd (zs : Bool) (s1 : Bool) (m1 : Nat) (e1 : Int) (s2 : Bool) (m2 : Nat) (e2 : Int) : Val :=
  let lo := min e1 e2
  let a : Int := (m1 * 2 ^ (e1 - lo).toNat : Nat)
  let b : Int := (m2 * 2 ^ (e2 - lo).toNat : Nat)
  let t := (if s1 then -a else a) + (if s2 then -b else b)
  if t = 0 then .fin zs 0 0 else .fin (decide (t < 0)) t.natAbs lo

/-- The exact sum; the sum of opposite infinities is invalid. -/
def valAdd : Val → Val → Val
  | .nan, _ => .nan
  | _, .nan => .nan
  | .inf a, .inf b => if a = b then .inf a else .nan
  | .inf a, .fin _ _ _ => .inf a
  | .fin _ _ _, .inf b => .inf b
  | .fin s1 m1 e1, .fin s2 m2 e2 => finAdd (decide (m1 = 0) && decide (m2 = 0) && s1 && s2) s1 m1 e1 s2 m2 e2

/-- The exact product; an infinity times zero is invalid. -/
def valMul : Val → Val → Val
  | .nan, _ => .nan
  | _, .nan => .nan
  | .inf a, .inf b => .inf (a != b)
  | .inf a, .fin s m _ => if m = 0 then .nan else .inf (a != s)
  | .fin s m _, .inf b => if m = 0 then .nan else .inf (s != b)
  | .fin s1 m1 e1, .fin s2 m2 e2 => .fin (s1 != s2) (m1 * m2) (e1 + e2)

def valNeg : Val → Val
  | .nan => .nan
  | .inf a => .inf (!a)
  | .fin s m e => .fin (!s) m e

/-- Is the first value below the second? A NaN is not ordered. -/
def valLt : Val → Val → Bool
  | .nan, _ => false
  | _, .nan => false
  | .inf a, .inf b => a && !b
  | .inf a, .fin _ _ _ => a
  | .fin _ _ _, .inf b => !b
  | .fin s1 m1 e1, .fin s2 m2 e2 =>
    let lo := min e1 e2
    let a : Int := (m1 * 2 ^ (e1 - lo).toNat : Nat)
    let b : Int := (m2 * 2 ^ (e2 - lo).toNat : Nat)
    decide ((if s1 then -a else a) < (if s2 then -b else b))

def valIsNan : Val → Bool
  | .nan => true
  | _ => false

def valIsZero : Val → Bool
  | .fin _ 0 _ => true
  | _ => false

/-- Stepping A0 flushes a subnormal FP32 result to zero of the same sign (R160). -/
def flushA0 (a0 : Bool) (w : Nat) : Nat :=
  if a0 && decide (field w 23 8 = 0) then field w 31 1 * 2 ^ 31 else w

def fpAdd (a0 : Bool) (x y : Nat) : Nat := flushA0 a0 (fpEnc (valAdd (fpDec x) (fpDec y)))
def fpSub (a0 : Bool) (x y : Nat) : Nat := flushA0 a0 (fpEnc (valAdd (fpDec x) (valNeg (fpDec y))))
def fpMul (a0 : Bool) (x y : Nat) : Nat := flushA0 a0 (fpEnc (valMul (fpDec x) (fpDec y)))
/-- `x · y + z`, rounded once. -/
def fpFma (a0 : Bool) (x y z : Nat) : Nat := flushA0 a0 (fpEnc (valAdd (valMul (fpDec x) (fpDec y)) (fpDec z)))

/-- Minimum and maximum of IEEE 754: a NaN operand gives a NaN, and −0 lies below +0. -/
def valMin (x y : Val) : Val :=
  if valIsNan x || valIsNan y then .nan
  else if valLt x y then x else if valLt y x then y
  else match x with | .fin true _ _ => x | .inf _ => x | _ => y

def valMax (x y : Val) : Val :=
  if valIsNan x || valIsNan y then .nan
  else if valLt x y then y else if valLt y x then x
  else match x with | .fin true _ _ => y | _ => x

def fpMin (x y : Nat) : Nat := fpEnc (valMin (fpDec x) (fpDec y))
def fpMax (x y : Nat) : Nat := fpEnc (valMax (fpDec x) (fpDec y))

/-- Absolute value; a NaN that the module produces is canonical (R146). -/
def fpAbs (x : Nat) : Nat := if valIsNan (fpDec x) then fpNan else field x 0 31
def fpNeg (x : Nat) : Nat := if valIsNan (fpDec x) then fpNan else Nat.xor (field x 0 32) 0x80000000

/-- Quotient rounded once to FP32: 70 quotient bits and a sticky bit decide the rounding. -/
def fpDiv (x y : Nat) : Nat :=
  match fpDec x, fpDec y with
  | .nan, _ => fpNan
  | _, .nan => fpNan
  | .inf _, .inf _ => fpNan
  | .inf s, .fin t _ _ => fpEnc (.inf (s != t))
  | .fin s _ _, .inf t => fpEnc (.fin (s != t) 0 0)
  | .fin s m e, .fin t n k =>
    if n = 0 then (if m = 0 then fpNan else fpEnc (.inf (s != t)))
    else
      let num := m * 2 ^ 100
      fpEnc (.fin (s != t) (2 * (num / n) + b2n (decide (num % n ≠ 0))) (e - k - 101))

/-- Square root rounded once to FP32; the root of a negative value is invalid. -/
def fpSqrt (x : Nat) : Nat :=
  match fpDec x with
  | .nan => fpNan
  | .inf true => fpNan
  | .inf false => fpEnc (.inf false)
  | .fin s m e =>
    if m = 0 then withSign .fp32 s 0
    else if s then fpNan
    else
      let odd := e % 2
      let n := m * 2 ^ (100 + odd.toNat)
      let r := Nat.sqrt n
      fpEnc (.fin false (2 * r + b2n (decide (r * r ≠ n))) ((e - odd - 100) / 2 - 1))

/-! ## The stochastic generator (R165) -/

/-- One advance of the xorshift generator with shifts 13, 7 and 17. -/
def xorshift (st : BitVec 64) : BitVec 64 :=
  let a := st ^^^ (st <<< 13)
  let b := a ^^^ (a >>> 7)
  b ^^^ (b <<< 17)

/-- The state that a seed loads; zero is replaced (R165). -/
def seedState (w : BitVec 64) : BitVec 64 := if w = 0 then 0x9E3779B97F4A7C15#64 else w

/-- The 24 bits [63:40] of the advanced state. -/
def drawOf (st : BitVec 64) : Nat := field (xorshift st).toNat 40 24

/-- The rounding of the next element under a generator: with `sr` false the state stays (R165). -/
def nextRounding (sr : Bool) (st : BitVec 64) : Rounding × BitVec 64 :=
  if sr then (.stochastic (drawOf st), xorshift st) else (.nearest, st)

/-! ## Block scales (R147 to R149) -/

/-- The value 2^(s − 127) of an E8M0 byte; 0xFF is NaN. -/
def e8m0 (s : Nat) : Val := if s = 0xFF then .nan else .fin false 1 ((s : Int) - 127)

/-- The scale of one half of a T4 block: 2^(X − 127) × (1 + t / 16), zero for X = 0 (R148, R149). -/
def t4Scale (x trim : Nat) : Val := if x = 0 then .fin false 0 0 else .fin false (16 + trim % 16) ((x : Int) - 131)

/-- ⌊log₂⌋ of a non-zero magnitude, the scale exponent of R166 before clamping. -/
def mxScaleByte (f : Elem) (mag : Nat) (exp : Int) : Nat :=
  if mag = 0 then 0 else (max 0 (min 254 (leadExp mag exp - elemEmax f + 127))).toNat

/-- X of R167: 127 + ⌊log₂(m / 6)⌋ clamped to 1 to 254; 0 for an all-zero block. -/
def t4ExpByte (mag : Nat) (exp : Int) : Nat :=
  if mag = 0 then 0 else
  -- floor(log2(mag/6)) is log2 mag − 2 when mag·2^-log2 ≥ 1.5, else log2 mag − 3
  let l := leadExp mag exp
  let ge := decide (3 * 2 ^ Nat.log2 mag ≤ 2 * mag)
  (max 1 (min 254 (l - (if ge then 2 else 3) + 127))).toNat

/-- The trim of a half: ⌈16 × (m_h / (6 × u) − 1)⌉ clamped to 0 to 15 (R167). -/
def t4Trim (x : Nat) (mag : Nat) (exp : Int) : Nat :=
  let lo := min exp ((x : Int) - 127)
  let num := 16 * mag * 2 ^ (exp - lo).toNat
  let den := 6 * 2 ^ ((x : Int) - 127 - lo).toNat
  min 15 (ceilDiv num den - 16)

/-- Compare finite magnitudes: the larger of two, as magnitude and exponent. -/
def magMax (a b : Nat × Int) : Nat × Int :=
  if valLt (.fin false a.1 a.2) (.fin false b.1 b.2) then b else a

/-- The magnitude of a value, zero for infinities and NaNs. -/
def finMag : Val → Nat × Int
  | .fin _ m e => (m, e)
  | _ => (0, 0)

/-- The largest finite magnitude of a list. -/
def maxFinMag (vs : List Val) : Nat × Int := vs.foldl (fun a v => magMax a (finMag v)) (0, 0)

/-- A value over a positive scale `sm · 2^se`, to 60 fraction bits and a sticky bit. -/
def valOver (sm : Nat) (se : Int) : Val → Val
  | .fin s m e =>
    if sm = 0 then .fin s 0 0
    else
      let num := m * 2 ^ 80
      .fin s (2 * (num / sm) + b2n (decide (num % sm ≠ 0))) (e - se - 81)
  | v => v

end Sys2Proof.Machine
end

