-- ==== Sys2Proof/Machine/Parts.lean ====
section
/-! DEFINITION. The parts of the machine's state, one structure per unit the spec describes, as plain data. Each
field's docstring or group comment names the rule that gives it; INVENTORY.md lists them all with reset values. -/

namespace Sys2Proof.Machine

/-! ## Cores (chapters 04, 05) -/

/-- One accumulator cell of a set (R152): SIG, LSBE, SPECIAL in two copies (R169), the set-valid flag, and the
carried residue of SIG (R168). -/
structure AccCell where
  sig : Int := 0
  lsbe : Int := 0
  special : Special := .none
  specialCopy : Special := .none
  valid : Bool := false
  res : Nat := 0
  deriving DecidableEq, Repr

/-- A task descriptor decoded (Table 4.4). -/
structure Desc where
  kernel : Nat := 0
  tag : Nat := 0
  slot : Nat := 0
  ctx : Nat := 0
  prio : Nat := 0
  slack : Bool := false
  keep : Bool := false
  spill : Bool := false
  fmtA : Nat := 0
  fmtB : Nat := 0
  fmtOut : Nat := 0
  spread : Nat := 0
  coreMask : Nat := 0
  wait0 : Option Nat := none
  wait1 : Option Nat := none
  signalUnit : Nat := 0
  signalEntry : Nat := 0
  comm : Nat := 0
  indexBase : Nat := 0
  indexCount : Nat := 0
  operands : List Nat := []
  args : List Nat := []
  reservedSet : Bool := false
  deriving DecidableEq, Repr

/-- A task copy in a core: its descriptor, r1 and r2 (Table 4.5), the register overrides of a row-spill piece
(R196), and the slot into which a SLACK task has been promoted (R128). -/
structure QTask where
  desc : Desc := {}
  r1 : Nat := 0
  r2 : Nat := 0
  extra : List (Nat × Nat) := []
  promoted : Option Nat := none
  deriving DecidableEq, Repr

/-- A LOOP in progress in a context: first instruction of the body, its end, and passes left. -/
structure LoopFrame where
  start : Nat
  stop : Nat
  left : Nat
  deriving DecidableEq, Repr

/-- A task that waits to run again in a context behind its producer (R174): the task, the generator state saved at
its dispatch, and the sends its abandoned run completed. -/
structure Rerun where
  task : QTask
  gen : BitVec 64
  sends : Nat
  deriving DecidableEq, Repr

/-- A hardware context (R129, R119, R174). -/
structure CtxS where
  task : Option QTask := none
  pc : Nat := 0
  regs : Map Word := []
  pred : Bool := false
  gen : BitVec 64 := 0#64
  savedGen : BitVec 64 := 0#64
  loops : List LoopFrame := []
  usedSets : List Nat := []
  sendsDone : Nat := 0
  suppress : Nat := 0
  rerun : List Rerun := []
  stopped : Bool := false
  waiting : Bool := false
  deriving DecidableEq, Repr

/-- State of a scoreboard entry (R130). -/
inductive SbState where
  | idle | armed | fired
  deriving DecidableEq, Repr

/-- A scoreboard entry (R130), with the task that armed it and the context in which that task still runs. -/
structure SbEntry where
  count : Nat := 0
  target : Nat := 0
  state : SbState := .idle
  armedBy : Option QTask := none
  armedIn : Option Nat := none
  deriving DecidableEq, Repr

/-- An entry of the replay list (R173, R174). -/
structure ReplayEntry where
  task : QTask
  gen : BitVec 64
  replays : Nat
  ended : Bool
  sends : Nat
  deriving DecidableEq, Repr

/-- One core (Table 4.1). `acc` is keyed 16 × set + 4 i + j, the latches 16 × buffer + 4 i + j; `racc` holds, by the
address of its RACC table entry, the drained elements of a piece not yet whole (R307); `xlat` is the translation cache of
at most 64 unit map entries, identifier and entry, latest last; `turn` is the context that issued last (R133). -/
structure CoreS where
  sram : Map Byte := []
  acc : Map AccCell := []
  la : Map (BitVec 16) := []
  lb : Map (BitVec 16) := []
  latchA : Nat := 0
  latchB : Nat := 0
  ctxs : Map CtxS := []
  sb : Map SbEntry := []
  queue : List QTask := []
  replay : List ReplayEntry := []
  racc : Map (List (Nat × Nat)) := []
  tensor : List Nat := []
  vector : Option Nat := none
  move : Option Nat := none
  comm : Option Nat := none
  turn : Nat := 7
  xlat : List (Nat × Nat) := []
  nanMade : Nat := 0
  satCount : Nat := 0
  nanLost : Nat := 0
  deriving DecidableEq, Repr

/-! ## The fabric (chapter 03) -/

/-- A queue (R85 to R90): the stages that hold items, head first; credits spent; the item a producer keeps in its
own stage; the two counts and what each side has seen of the other's; what the consumer last received; and the Gray-coded
counts in flight in the two synchronisers of three stages, oldest first (R87). -/
structure QueueS where
  items : List Nat := []
  spent : Nat := 0
  kept : Option Nat := none
  writeCount : Nat := 0
  readCount : Nat := 0
  seenWrite : Nat := 0
  returned : Nat := 0
  lastRead : Nat := 0
  writeSync : List Nat := []
  readSync : List Nat := []
  deriving DecidableEq, Repr

/-- A router link (R82 to R84): times of its parity errors within the last 1 ms, consecutive failed sends of the
flit in hand, a resend asked for, the replay buffer newest last, how many of its flits the receiving router has not taken,
retraining, wires moved to spares, retired. -/
structure LinkS where
  errors : List Nat := []
  failRun : Nat := 0
  resend : Bool := false
  replay : List Nat := []
  inFlight : Nat := 0
  retraining : Bool := false
  spares : Nat := 0
  retired : Bool := false
  deriving DecidableEq, Repr

/-- Packets that wait at a router's output port (R75): with the flits of each already sent, in order of arrival; the
channels owed one flit before GLINT resumes; and the turns left in the weighted round robin of Table 3.3. -/
structure PortArb where
  waiting : List (Flits × Nat) := []
  owed : List Nat := []
  turns : List Nat := []
  deriving DecidableEq, Repr

/-- A field of the engine: its state, its route table (84 entries of 3 bits, R78; empty until first built), its PLL
and field control core, whether a FIELD_RETURN is in progress, and whether its hub holds a copy of the unit map (the
copies are identical, R96: `FabricS.unitMap` is what each holds). -/
structure FieldS where
  state : FieldState := .lit
  routes : List Nat := []
  pllLocked : Bool := true
  controlRunning : Bool := true
  returning : Bool := false
  mapCopy : Bool := true
  portsDark : Nat := 0
  deriving DecidableEq, Repr

/-- The contents of the SIZE_TABLE page (Table 3.7, Table 19.3); FIELD_BLOCKS and FIELD_STATE per field. -/
structure SizeTable where
  generation : Nat := 0
  enabledBlocks : Nat := 0
  enabledCores : Nat := 0
  workingCores : Nat := 0
  sramBytes : Nat := 0
  fieldBufferBytes : Nat := 0
  hbmBytes : Nat := 0
  streamLanes : Nat := 4
  mapVersion : Nat := 0
  defectAge : Nat := 0
  defectQuick : Bool := false
  fieldBlocks : List Nat := []
  fieldStates : List Nat := []
  deriving DecidableEq, Repr

/-- A task an anchor is still delivering (R125), the state of its unit's task port (R91): the unit, the anchor's block,
whether the task is SLACK, and the copies that have not entered their core's queue, as core key and copy, in order. -/
structure SpreadS where
  unit : Nat
  anchor : Nat
  slack : Bool
  left : List (Nat × QTask)
  deriving DecidableEq, Repr

/-- The fabric, the unit map and the defect map. `ports` is keyed 8 × router + port; `outBlocks` lists the blocks outside the
enabled set (R68); `returnRebuild` tells a rebuild that waits for the step boundary (R108). -/
structure FabricS where
  fields : Map FieldS := []
  links : Map LinkS := []
  queues : Map QueueS := []
  unitMap : Map Nat := []
  outstanding : Map Nat := []
  unitError : Map Bool := []
  spreads : List SpreadS := []
  failedCores : List Nat := []
  failedRouters : List Nat := []
  failedWires : List (Nat × Nat) := []
  outBlocks : List Nat := []
  retireNext : List Nat := []
  rebuildPending : Bool := false
  returnRebuild : Bool := false
  ports : Map PortArb := []
  size : SizeTable := {}
  deriving DecidableEq, Repr

/-! ## The tick (chapters 01, 02) -/

/-- A unit's slot work on a member (R46 to R59): the last SLOT released, SLOTs held in order, and the end of the
grace timer with the SLOT it times. -/
structure UnitRun where
  released : Option Nat := none
  running : Option Nat := none
  held : List Nat := []
  grace : Option Nat := none
  deriving DecidableEq, Repr

/-- The TICK page (Table 19.3) and the member's side of the tick (R45 to R61). -/
structure TickS where
  period : Nat := 200
  grace : Nat := 10
  policy : SlipPolicy := .cont
  source : TickSource := .internal
  tickCount : Nat := 0
  step : Nat := 0
  slot : Nat := 0
  epoch : Nat := 0
  flags : Nat := 0
  ptpStamp : Nat := 0
  slipRun : Nat := 0
  lastValidAt : Option Nat := none
  missed : Nat := 0
  behind : Bool := false
  lossReported : Bool := false
  timingStep : Option Nat := none
  units : Map UnitRun := []
  tickOut : Nat := 0
  deriving DecidableEq, Repr

/-- The lead's side of the tick (R50 to R66): the last message issued and when, overrun reports held, a slip that a
group lead forwarded, the step to hold after, the expected time of the next external edge and the flywheel run, a group
lead's last TICK_IN edge (R66), and on a standby lead the lead state last received (R19). -/
structure LeadS where
  issued : Option TickMsg := none
  issuedAt : Nat := 0
  overruns : List Overrun := []
  groupSlip : List Nat := []
  expected : Nat := 0
  flyRun : Nat := 0
  restartStep : Bool := false
  graceLate : List Nat := []
  edgeAt : Option Nat := none
  news : LeadNews := {}
  deriving DecidableEq, Repr

/-! ## The weight stream (chapter 07) -/

/-- A frame header decoded (Table 7.2). -/
structure FrameHdr where
  tickCount : Nat := 0
  seq : Nat := 0
  version : Nat := 0
  kind : Nat := 0
  epoch : Nat := 0
  rank : Nat := 0
  segments : Nat := 0
  deriving DecidableEq, Repr

/-- A raw frame in the landing zone (R225, R228): header, and the segments that have landed, header and payload. -/
structure LandedFrame where
  hdr : FrameHdr
  segs : List (Nat × List Byte)
  deriving DecidableEq, Repr

/-- Where the segments of the frame now arriving on a lane go. -/
inductive FramePlace where
  | none | ingest | landing | discard
  deriving DecidableEq, Repr

/-- A stream lane's ingress side (R230, R236): repeat requests queued in order, repeats this step, the landing
frames (at most three), the next SEQ expected, the frame in hand with where it goes, its segments still to come and
whether one failed (`badData` where a data check did), the SEQs that already failed a data check on this lane, when the
last valid header came, silent, and the step whose late frame is reported plus 1. -/
structure StreamLaneS where
  repeats : List Nat := []
  repeatsStep : Nat := 0
  landing : List LandedFrame := []
  frame : FrameHdr := {}
  place : FramePlace := .none
  next : Nat := 0
  left : Nat := 0
  bad : Bool := false
  badData : Bool := false
  dataFailed : List Nat := []
  lastHeader : Option Nat := none
  silent : Bool := false
  lateStep : Option Nat := none
  later : List Nat := []
  deriving DecidableEq, Repr

/-- A stream slot of the window (R223): the lanes whose frame is ingested, the epoch of those frames, and consumer signals
that have come. -/
structure SlotS where
  lanes : List Nat := []
  epoch : Nat := 0
  signals : Nat := 0
  deriving DecidableEq, Repr

/-- A stream slot as its step runs it (R214, R243): what its schedule lists of it, and its epoch and role. -/
structure PlanSlot where
  signals : Nat := 0
  bytes : Nat := 0
  epoch : Nat := 0
  role : Nat := 0
  deriving DecidableEq, Repr

/-- Segments that have come of a tensor in a stream slot, each an offset and its bytes after decompression: what a block of
32 that spans segments is quantised from (R166, R167, R235). -/
structure PieceS where
  seq : Nat
  tensor : Nat
  role : Nat
  segs : List (Nat × List Byte) := []
  deriving DecidableEq, Repr

/-- The STREAM page and the stream's progress (R212 to R245, R555). `ranks` lists the stream lanes in rank order as of the
start or the last resume, `plan` and `prevPlan` the stream slots of this step and of the one before, `epochStep` the first
step run under the epoch, `turns` the lane whose queue each field's ingest unit served last. `copy` and `ingested` hold what
has streamed in of an owned tensor's working copy, and its segments' lengths, by 2^48 × tensor + offset, until its digest is
formed (R331). -/
structure StreamS where
  windowGib : Nat := 96
  slotBytes : Nat := 0
  repeatLimit : Nat := 16
  dualLimit : Nat := 1
  lanes : Map StreamLaneS := []
  slots : Map SlotS := []
  oldest : Nat := 0
  activeLanes : Nat := 0
  ranks : List Nat := []
  turns : Map Nat := []
  stop : Bool := true
  discard : Bool := false
  stopTick : Option Nat := none
  resuming : Bool := false
  resumeSeq : Nat := 0
  stepBase : Nat := 0
  prevBase : Nat := 0
  plan : List PlanSlot := []
  prevPlan : List PlanSlot := []
  pieces : List PieceS := []
  epochA : Nat := 0
  epochB : Nat := 0
  dual : Bool := false
  dualPasses : Nat := 0
  pending : Option Nat := none
  withdraw : Bool := false
  epochStep : Nat := 0
  copy : Map Byte := []
  ingested : Map Nat := []
  creditStep : Option Nat := none
  deriving DecidableEq, Repr

/-! ## Stacked memory (chapter 08) -/

/-- The MEMORY page, the contents of the stacks (keyed 2^36 × stack + in-stack address), the stripe set, excluded
spans, the defect list, reachability, and the accumulation caches, newest last (R246 to R265); the CRC-16 stored with each
64-byte unit plus 1 (R259), writes of less than a unit that wait for the rollback (Table 8.4), and the lanes that LANDING is sized
for. -/
structure MemS where
  systemGib : Nat := 8
  stashGib : Nat := 0
  kvGib : Nat := 0
  ownerCur : Bool := false
  bytes : Map Byte := []
  stripe : List Nat := []
  lost : List Nat := []
  lostNext : List Nat := []
  unmirrored : List Nat := []
  excluded : List (Nat × Nat) := []
  defects : List (Nat × Nat) := []
  doubleRefresh : List Nat := []
  refreshes : Map Nat := []
  cache : Map (List Nat) := []
  waitingWrites : List (Nat × Nat × List Byte) := []
  checks : Map Nat := []
  landLanes : Nat := 0
  deriving DecidableEq, Repr

/-! ## Reduction and update (chapter 10) -/

/-- STATE of a block record (Table 10.5). -/
inductive BlockState where
  | idle | open_ | sent | total | waitCommit | updating | updated
  deriving DecidableEq, Repr

/-- Where a member piece came from and where its acknowledgement goes (R308, R315). -/
structure Sender where
  member : Nat
  block : Nat
  core : Nat
  entry : Nat
  addr : Nat
  deriving DecidableEq, Repr

/-- A reduction block of an owner: the record of Table 10.5, its 4,096 accumulators, the pieces in from each group (a
clip notice counts as a whole sum), the acknowledgements of its total, the mode 3 pieces seen, the senders of its member
pieces (R311 to R320), the exponents that a restart (`stepBexp`) and this step (`openBexp`) begin with, failures of the
pipe, the step last updated plus 1, and the working-copy payloads by OUT_KIND that have not left. -/
structure BlockS where
  state : BlockState := .idle
  train : Nat := 0
  clip : Bool := false
  home : Bool := false
  raises : Nat := 0
  nonfinite : Bool := false
  bexp : Int := 0
  step : Nat := 0
  roll : Nat := 0
  maxb : Nat := 0
  count : Nat := 0
  target : Nat := 0
  carried : Nat := 0
  fails : Nat := 0
  idsum : Nat := 0
  idexp : Nat := 0
  rowMask : Nat := 0
  nextBexp : Int := 0
  driftE : Int := 0
  driftU : Nat := 0
  sumsq : Nat := 0
  acc : Map Int := []
  groups : Map Nat := []
  totalAcks : List Nat := []
  totalPieces : List Nat := []
  totalFails : Map Nat := []
  senders : List Sender := []
  stepBexp : Int := 0
  openBexp : Int := 0
  redone : Nat := 0
  shadowWait : Bool := false
  repairWait : Bool := false
  mark : Bool := false
  carryOnce : Nat := 0
  doneStep : Nat := 0
  outSegs : List (Nat × List Byte) := []
  deriving DecidableEq, Repr

/-- A layer record (Table 10.1). -/
structure LayerRec where
  tensor : Nat := 0
  k : Nat := 0
  n : Nat := 0
  firstBlock : Nat := 0
  rule : Nat := 1
  cls : Nat := 0
  part : Bool := false
  momSr : Bool := false
  wcSr : Bool := false
  wcFmt : Nat := 4
  wcElem : Nat := 0
  wcDelta : Bool := false
  prune : Prune := .none
  deltaElem : Nat := 8
  dEvery : Nat := 4
  churnLimit : Nat := 0
  maskChanges : Nat := 0
  updates : Nat := 0
  lr : Nat := 0
  p1 : Nat := 0
  p2 : Nat := 0
  eps : Nat := 0
  wd : Nat := 0
  updateUnit : Nat := 0xFFFF
  updateEntry : Nat := 0
  deriving DecidableEq, Repr

/-- A contribution piece that a core of this module holds until it is acknowledged (R307): its RACC entry, the
FP32 values, where the acknowledgement goes, and the deferral of a class D tensor apart. -/
structure HeldPiece where
  core : Nat
  block : Nat
  piece : Nat
  owner : Nat
  bexp : Int
  stack : Nat
  addr : Nat
  ackEntry : Nat
  ackAddr : Nat
  values : List Nat
  deriving DecidableEq, Repr

/-- What a step runs with from its boundary on, and its slips so far: GSCALE, the clipping factor and REFRESH_STEPS
(R322, R329), the step seed (R514) and the layer records' settings (R301). `norm2` adds up
SUMSQ of the step's blocks. -/
structure StepParams where
  gscale : Nat := 0x3F800000
  clip : Nat := 0x3F800000
  refresh : Nat := 16
  seed : Nat := 0
  layers : Map LayerRec := []
  slips : Nat := 0
  norm2 : Nat := 0
  deriving DecidableEq, Repr

/-- The REDUCE and UPDATE pages and the owner's state (chapter 10). `refreshForced` names tensors whose next working
copy is a REFRESH: 1 not yet bound to a step, step + 2 once bound; `reported` is the step last reported done plus 1;
`churnStep` and `churnOld` hold the step whose mask changes a tensor counts and its count before that step (R187); `updatedIn`
the layers updated, by step; `groupNorm` and `groupBad` add up the reports of the step in hand (R320, R322); `deferA` and `deferB`
the deferred values of class D tensors beside each bank, keyed by RACC entry. -/
structure ReduceS where
  headroom : Nat := 4
  nonfiniteSteps : Nat := 3
  pruneHold : Nat := 0
  gscale : Nat := 0x3F800000
  clipNorm : Nat := 0
  clipFactor : Nat := 0x3F800000
  refreshSteps : Nat := 16
  driftK : Nat := 8
  grossK : Nat := 64
  dExport : Bool := true
  roll : Nat := 0
  blocks : Map BlockS := []
  bankA : Map OwnerBlock := []
  bankB : Map OwnerBlock := []
  shadow : Map OwnerBlock := []
  shadowStep : Map Nat := []
  shadowBlocks : Map BlockS := []
  shadowLayers : Map LayerRec := []
  held : List HeldPiece := []
  refreshForced : Map Nat := []
  params : Map StepParams := []
  layers : Map LayerRec := []
  reports : List Nat := []
  groupReported : List Nat := []
  reported : Nat := 0
  mirrorDone : Bool := false
  committed : Nat := 0
  nonfiniteRun : Nat := 0
  nonfiniteStep : Nat := 0
  nonfiniteTensor : Option Nat := none
  churnStep : Map Nat := []
  churnOld : Map Nat := []
  updatedIn : List (Nat × Nat) := []
  groupNorm : Nat := 0
  groupBad : Option Nat := none
  deferA : Map (List Nat) := []
  deferB : Map (List Nat) := []
  deriving DecidableEq, Repr

/-! ## Beam links and collectives (chapter 11) -/

/-- The control chunks of one message that wait to be sent on a lane (R343): the message's place in the order of kinds, the
KIND of its chunks, whether its first has gone, and the CONTENT of those left. -/
structure TxGroup where
  rank : Nat
  kind : Nat
  begun : Bool := false
  chunks : List Nat
  deriving DecidableEq, Repr

/-- A beam lane (R337 to R357): trained, its delay and far identity, codewords received since training, the replay
awaited, items spent toward the far queues, times of uncorrectable codewords and of retrains, replays of one codeword,
retraining, retired, its loopback being tested, and a stream channel lost for good, with the hold that it
brings at the resume. What it is receiving: the control
chunk in hand, the segments whose payload is due (bytes left and FMT), the next item first of its segment, the assembly
register, and flits of the inner packet still to come. Packets that wait to leave: beam header and inner packet. What it
sends (R343, R345): control messages in the order of their kinds, credits still to be returned, 16-byte words of glint
packets still to leave, and the codewords kept for a replay, newest last, with the count of those sent. -/
structure LaneS where
  tx : List TxGroup := []
  creditOwed : Nat := 0
  glintOut : Nat := 0
  kept : List Nat := []
  sentCount : Nat := 0
  trained : Bool := false
  delay : Nat := 0
  identity : Nat := 0
  received : Nat := 0
  awaiting : Bool := false
  spent : Nat := 0
  glintSpent : Nat := 0
  uncorr : List Nat := []
  replays : Nat := 0
  retrains : List Nat := []
  retraining : Bool := false
  retired : Bool := false
  testing : Bool := false
  chanLost : Bool := false
  chanHeld : Bool := false
  chunkKind : Nat := 0
  chunk : List Byte := []
  segs : List (Nat × Nat) := []
  first : Bool := true
  assembly : List Byte := []
  innerLeft : Nat := 0
  waiting : List (Nat × Flits) := []
  deriving DecidableEq, Repr

/-- A communicator table entry decoded (Table 11.7). -/
structure CommRec where
  bulk : Bool := false
  glint : Bool := false
  scope : Nat := 0
  excludable : Bool := false
  add : Nat := 0
  weight : Nat := 1
  window : Nat := 4
  root : Nat := 0
  sources : Nat := 0
  dests : Nat := 0
  rootField : Nat := 0
  reservedSet : Bool := false
  deriving DecidableEq, Repr

/-- A chunk at its source engine (R360 to R363): its tiles by place in the chunk, how many it has once that is known,
held until acknowledged, and asked for again. A chunk of an all-gather is one tile of bytes. -/
structure ChunkS where
  field : Nat
  comm : Nat
  dest : Nat
  position : Nat
  gather : Bool
  tiles : Map (List Int)
  total : Option Nat
  held : Bool
  rerequested : Bool
  deriving DecidableEq, Repr

/-- A packet in a position's partial buffer: its source, the place of its first value, the values, its RES, and whether the
adder's check of it passed (R361). -/
structure PacketS where
  src : Nat
  first : Nat
  values : List Int
  res : Nat
  ok : Bool
  deriving DecidableEq, Repr

/-- A piece of an owned block that a reduce-scatter's positions bring tile by tile (R288, R314): its values, its tiles in, the
largest bit length that a source brought, and whether an adder overflowed. -/
structure ShardS where
  values : Map Int := []
  tiles : List Nat := []
  maxb : Nat := 0
  clip : Bool := false
  deriving DecidableEq, Repr

/-- A chunk position at its destination engine (R361, R362): packets in order of arrival, bytes in by source, the bytes that
each source's chunk has plus 1 once its last packet is in, failures of the position, and when one source became the only
one missing. -/
structure PositionS where
  packets : List PacketS := []
  got : Map Nat := []
  total : Map Nat := []
  fails : Nat := 0
  waitSince : Option Nat := none
  deriving DecidableEq, Repr

/-- A glint combine in progress (R368): contributions counted, the data, the members in, and when one source became
the only one missing. -/
structure CombineS where
  count : Nat := 0
  data : List Byte := []
  members : Nat := 0
  waitSince : Option Nat := none
  deriving DecidableEq, Repr

/-- A source whose late-bound count is stopped (R366): how many retrains are in progress, and since when. -/
structure PauseS where
  n : Nat := 0
  since : Nat := 0
  deriving DecidableEq, Repr

/-- The BEAM page, lanes, routes between modules, collectives and the glint path (chapter 11). `remap` gives a channel's
engine plus 1 where a remap is in force; `routes` the peer route table's entries; `far` the direct channels between
other modules; `credits` the chunks in flight by 64 × comm + destination; `rr` each engine's turn; `excluded` lists
64 × comm + member; `paused` is by module; `glintSeq` by 64 × core + comm; `passBankB` tells which bank was current at the
pass's first tick (R290); `shards` holds pieces of owned blocks not yet whole, by 8 × place among the owned blocks + piece. -/
structure BeamS where
  chunkCode : Nat := 4
  collMib : Nat := 8
  lateTicks : Nat := 3
  lanes : Map LaneS := []
  remap : Map Nat := []
  routes : Map Nat := []
  far : List (Nat × Nat × Nat) := []
  chunks : List ChunkS := []
  credits : Map Nat := []
  rr : Map Nat := []
  positions : Map PositionS := []
  combines : Map CombineS := []
  excluded : List Nat := []
  paused : Map PauseS := []
  glintSeq : Map Nat := []
  passBankB : Bool := false
  shards : Map ShardS := []
  deriving DecidableEq, Repr

/-! ## Activation prediction (chapter 06) -/

/-- A pair of a predicted layer in the current pass (R204 to R207): how many of its group's MMAs have scored it, whether it
is active, whether the shadow pass examined it and found it missed, and whether it was made up. -/
structure PairS where
  scored : Nat := 0
  active : Bool := false
  shadowed : Bool := false
  missed : Bool := false
  madeUp : Bool := false
  deriving DecidableEq, Repr

/-- Prediction: the records in force for the pass (R203), its pairs keyed 2^48 × layer + 2^16 × group + block, whether a
forward pass runs whose estimate is still to be formed (R208), the counters of Table 6.9 keyed 8 × layer + counter (R209),
and the layers whose predictor-miss event this step has raised. -/
structure PredictS where
  recs : List PredictorRec := []
  pairs : Map PairS := []
  running : Bool := false
  counts : Map Nat := []
  reported : List Nat := []
  deriving DecidableEq, Repr

/-! ## Placement (chapter 12) -/

/-- The layout set and re-placement (R375 to R388). -/
structure PlaceS where
  stored : List (Nat × LayoutImage) := []
  primary : Option LayoutImage := none
  set : List LayoutImage := []
  inForce : Option LayoutImage := none
  inForceIx : Nat := 0
  degraded : Bool := false
  loading : Option Nat := none
  replacing : Bool := false
  replacingStart : Nat := 0
  overrunReported : Bool := false
  returnDue : Bool := false
  needLayout : Bool := false
  predict : PredictS := {}
  deriving DecidableEq, Repr

/-! ## Hosts (chapter 13) -/

/-- A ring control block (Table 13.3). -/
structure RingS where
  kind : Nat := 0
  order : Nat := 0
  entryShift : Nat := 0
  ctx : Nat := 0
  cq : Nat := 0
  base : Nat := 0
  head : Nat := 0
  tail : Nat := 0
  notifyAddr : Nat := 0
  notifyPort : Nat := 0
  lost : Nat := 0
  notified : Option Nat := none
  noticeDue : Bool := false
  outstanding : Nat := 0
  reserved : Nat := 0
  deriving DecidableEq, Repr

/-- A port (R389 to R391): its settings, block lock down, and its kept address settings. -/
structure PortS where
  ipv4 : Nat := 0
  ipv4Prefix : Nat := 0
  ipv6 : Nat := 0
  ipv6Prefix : Nat := 0
  vlan : Nat := 0
  mtu : Nat := 9216
  pfc : Nat := 3
  down : Bool := false
  deriving DecidableEq, Repr

/-- A queue pair (R392, R393). -/
structure QpS where
  open_ : Bool := false
  port : Nat := 0
  gid : Nat := 0
  qpn : Nat := 0
  mtu : Nat := 0
  psn : Nat := 0
  modulePsn : Nat := 0
  cnpAt : Option Nat := none
  deriving DecidableEq, Repr

/-- A memory region grant (R392, Table 13.2), with OWNER_EXPOSE's grant on the current bank. -/
structure MrS where
  rkey : Nat
  kind : Nat
  ctx : Nat
  read : Bool
  write : Bool
  offset : Nat
  length : Nat
  exposed : Bool
  deriving DecidableEq, Repr

/-- A serving request admitted or waiting (R291 to R294): `share` is how many of its tokens the running pass computes,
`kvTokens` how many its cache holds, `held` its pages of the KV region. -/
structure RequestS where
  hdr : CmdHdr
  indirect : Bool
  prompt : List Nat
  promptLen : Nat
  newLen : Nat
  sampled : Bool
  seed : Nat
  epoch : Option Nat
  pages : Nat
  tokens : List Nat
  inBatch : Bool
  cancelled : Bool
  stopped : Bool
  kvLost : Bool
  share : Nat := 0
  kvTokens : Nat := 0
  held : List Nat := []
  deriving DecidableEq, Repr

/-- A context (CONTEXT_OPEN, Table 9.5): its kind and settings, its requests, the input told of by BATCH_READY, the epoch
to which that input is pinned (R27; 0 while none is open), and an EVAL batch that runs, with its epoch. -/
structure ContextS where
  kind : Option CtxKind := none
  inputMib : Nat := 0
  maxRequests : Nat := 4096
  passTokens : Nat := 16384
  maxNew : Nat := 256
  kvPage : Nat := 64
  stopTokens : List Nat := []
  requests : List RequestS := []
  ready : Option Nat := none
  readyBytes : Nat := 0
  inputEpoch : Nat := 0
  evalRuns : Bool := false
  runEpoch : Nat := 0
  deriving DecidableEq, Repr

/-- A deferred command whose FINAL reply is owed. -/
structure DeferredS where
  hdr : CmdHdr
  body : CmdBody
  deriving DecidableEq, Repr

/-- A reply kept for a datagram source (R396): source, SEQ, when executed, and the reply's entries. -/
structure KeptReply where
  source : Nat
  seq : Nat
  at_ : Nat
  reply : List (List Byte)
  deriving DecidableEq, Repr

/-- One IEEE 1588 clock instance (R397). -/
structure PtpS where
  locked : Bool := false
  rank : Nat := 0
  offset : Int := 0
  deriving DecidableEq, Repr

/-- The host interface (chapter 13) and the job it serves. `sourcePorts` holds the port that a source's last datagram came
through, by which its replies leave (R394). -/
structure HostS where
  ports : Map PortS := []
  allow : List (Nat × Nat) := []
  sourcePorts : Map Nat := []
  netLost : List Nat := []
  qps : Map QpS := []
  mrs : List MrS := []
  rings : Map RingS := []
  entries : Map (Option Packet) := []
  turn : Nat := 0
  contexts : Map ContextS := []
  deferred : List DeferredS := []
  kept : List KeptReply := []
  eventNumber : Nat := 0
  ptpA : PtpS := {}
  ptpB : PtpS := {}
  followB : Bool := false
  ruleWrites : List (Nat × RuleField × Nat) := []
  deriving DecidableEq, Repr

/-- The job (chapters 01, 13, 16): what JOB_CONFIGURE set, whether started, the holds in force, pauses pending. -/
structure JobS where
  configured : Bool := false
  started : Bool := false
  ending : Bool := false
  tag : Nat := 0
  group : Nat := 0
  member : Nat := 0
  groups : Nat := 1
  members : Nat := 1
  leadMember : Nat := 0
  standbyMember : Option Nat := none
  role : Role := .member
  split : Nat := 4
  initialEpoch : Nat := 0
  straps : Nat := 0
  holds : List Nat := []
  held : Bool := false
  pauseFor : List Nat := []
  haltPause : Bool := false
  hostPause : Bool := false
  ownersLoaded : Bool := false
  starveReported : Bool := false
  passRunning : Bool := false
  deriving DecidableEq, Repr

/-! ## Firmware and boot (chapter 14) -/

/-- BOOT.STATE (Table 19.6), and the module off or held in reset (R443). -/
inductive RunState where
  | off | reset | starting | ready | recovery
  deriving DecidableEq, Repr

/-- A boot journal entry (Table 14.9), CHECK apart; SEQ is its place in the journal. -/
structure JournalEntry where
  start : Nat
  step : Nat
  result : Nat
  slotB : Bool
  recovery : Bool
  code : Nat
  timeMs : Nat
  data : Nat
  deriving DecidableEq, Repr

/-- A FLASH_WRITE staged and not yet programmed (R418). -/
structure Staged where
  slotB : Bool
  offset : Nat
  data : List Byte
  deriving DecidableEq, Repr

/-- The module defect map (R102): failed cores as 16 × block + core, failed routers, failed wires by link, the time of the
test, whether it was quick, and the digest written with it. -/
structure DefectMap where
  cores : List Nat := []
  routers : List Nat := []
  wires : List (Nat × Nat) := []
  time : Nat := 0
  quick : Bool := false
  digest : Nat := 0
  deriving DecidableEq, Repr

/-- What survives RST_N: the two flash devices (R416), the fuses and the seed (R3, R434), and the flags that the standby
logic keeps of held pins, with a journal entry due, until the input is lost (R544, Table 18.4). -/
structure FlashS where
  bundleA : Map Byte := []
  bundleB : Map Byte := []
  journal : List JournalEntry := []
  journalBase : Nat := 0
  failedSectors : List (Bool × Nat) := []
  writtenUpTo : Map Nat := []
  outOfOrder : List Nat := []
  defectMap : DefectMap := {}
  defectStart : Nat := 0
  defectQuick : Bool := false
  memDefects : List (Nat × Nat) := []
  freshStarts : Nat := 32
  ports : Map PortS := []
  allow : List (Nat × Nat) := []
  rstHeld : Bool := false
  pgHeld : Bool := false
  heldDue : Bool := false
  watchdog : Bool := false
  stepping : Nat := 0xA1
  serial : Nat := 0
  mac : Nat := 0
  seed : Nat := 0
  keyFuses : Nat := 0xF
  deriving DecidableEq, Repr

/-- The BOOT page and a start in progress (R416 to R437). -/
structure BootS where
  state : RunState := .reset
  step : Nat := 0
  begunAt : Nat := 0
  startAt : Nat := 0
  lastStep : Nat := 0
  start : Nat := 0
  slotB : Bool := false
  quick : Bool := false
  failRun : Nat := 0
  devA : Bool := true
  devB : Bool := true
  meas : Map Nat := []
  gpe : Nat := 0
  version : Nat := 0
  iface : Nat := 0
  staging : List Staged := []
  reloading : List Nat := []
  refclk : Bool := true
  refclkWait : Bool := false
  startPending : Bool := true
  deriving DecidableEq, Repr

/-! ## Power and heat (chapter 15) -/

/-- A field's power side (R445, R464 to R471): the S asked for by dim, throttle, hard cap and the controller, glow,
TJ, throttled, when S reached 8 under throttle, since when below 90 °C, shaded for heat, shade due at the boundary. -/
structure FieldPowerS where
  sDim : Nat := 16
  sThrottle : Nat := 16
  sCap : Nat := 16
  sCtl : Nat := 16
  glow : Nat := 0
  tj : Int := 0
  throttled : Bool := false
  at8Since : Option Nat := none
  coolSince : Option Nat := none
  heatShaded : Bool := false
  heatDark : Bool := false
  shadeDue : Bool := false
  returnDue : Bool := false
  deriving DecidableEq, Repr

/-- A ramp allocation held for a tick (R449, R450). -/
structure Alloc where
  tick : Nat
  bound : Nat
  change : Int
  deriving DecidableEq, Repr

/-- The POWER and THERMAL pages and the power controller (chapter 15). `limitMw` and `glowMw` are the caps' limit and the glow
floor as the ramp has reached them (Table 15.4); `drawMinStep` the step DRAW_MIN was taken in (R455); `floorShortNs` what of a
millisecond below the glow floor is not counted yet (R452). -/
structure PowerS where
  present : Bool := true
  inputMv : Nat := 0
  inputW : Nat := 0
  ramp : Nat := 600
  rampNext : Option Nat := none
  groupRamp : Nat := 9600
  groupRampNext : Option Nat := none
  groupRampInUse : Nat := 9600
  capSoft : Nat := 24000
  capHard : Nat := 24000
  hardForced : Bool := false
  drawMin : Nat := 0
  safeCap : Nat := 70
  thrFloor : Nat := 50
  glowFloor : Nat := 0
  hbArmed : Bool := false
  hbId : Nat := 0
  hbAt : Nat := 0
  hbLost : Bool := false
  ceilingMw : Nat := 24000000
  floorMw : Nat := 0
  limitMw : Nat := 24000000
  glowMw : Nat := 0
  drawMinStep : Option Nat := none
  floorShortNs : Nat := 0
  controlAt : Nat := 0
  capLowReported : Bool := false
  shoulderProt : Nat := 0
  fieldProt : Nat := 0
  fieldLatched : Nat := 0
  dimmed : Bool := false
  stopCause : Nat := 0
  thr : Bool := false
  alert : Bool := false
  inletHot : Bool := false
  inletCold : Bool := false
  allocs : List Alloc := []
  requests : List (Nat × Int) := []
  windows : List Nat := []
  violStep : Option Nat := none
  fields : Map FieldPowerS := []
  throttleC : Nat := 95
  inletC : Int := 0
  outletC : Int := 0
  stackC : Map Int := []
  deriving DecidableEq, Repr

/-! ## Membership and rollback (chapter 16) -/

/-- What a lead keeps of one member (R478 to R484): state, last valid beacon, its STATE byte and OUT_MASK, READY and
input-complete since the last notice, late barriers, suspect, drain time, minority checks, JOIN pending. -/
structure MemberS where
  state : MemberState := .active
  beaconAt : Option Nat := none
  beaconState : Nat := 0
  outMask : Nat := 0
  ready : Bool := false
  late : List Bool := []
  suspect : Bool := false
  drainAt : Option Nat := none
  minority : List Nat := []
  joining : Bool := false
  halt : Bool := false
  inputComplete : Bool := false
  ramp : Int := 0
  deriving DecidableEq, Repr

/-- The group and the job's rollback (R476 to R502). `members` is keyed 64 × group + member; `roles` holds the other groups'
leads (R23); `totalKeep` the blocks with the totals that a recomputation starts from, by 2 × block + parity of the step
(R495). -/
structure GroupS where
  members : Map MemberS := []
  mask : Nat := 1
  owners : Map Nat := []
  suspectWindow : Nat := 1000
  suspectPct : Nat := 30
  reconcileSteps : Nat := 64
  reconcileNext : Option Nat := none
  requests : List (RollbackReq × Nat) := []
  rolling : Bool := false
  rollTarget : Nat := 0
  rollCause : Nat := 0
  rollSource : Nat := 0
  rollHold : Bool := false
  digests : List (Nat × List DigestEntry) := []
  disputed : List Nat := []
  verdicts : List (Nat × Bool) := []
  mirror : Map MirDigest := []
  totalKeep : Map BlockS := []
  repaired : Nat := 0
  marked : Nat := 0
  mirrorRollback : Bool := false
  standbyLost : Bool := false
  noLead : Bool := false
  shadowed : Option Nat := none
  shadowedBy : Option Nat := none
  shadows : List (Nat × Nat) := []
  roles : List GroupRoles := []
  newFaults : Nat := 0
  drainHold : Bool := false
  beaconSent : Option Nat := none
  rollAt : Nat := 0
  deriving DecidableEq, Repr

/-! ## Fault records, snapshots, journal, test access (chapters 17, 19) -/

/-- A fault record (Table 19.7). -/
structure FaultRec where
  valid : Bool := false
  overflow : Bool := false
  cls : Nat := 0
  code : Nat := 0
  tick : Nat := 0
  step : Nat := 0
  roll : Nat := 0
  time : Nat := 0
  block : Nat := 0xFFFF
  core : Nat := 0
  field : Nat := 0xFF
  unit : Nat := 0xFFFF
  tag : Nat := 0
  slot : Nat := 0
  addr : Nat := 0
  detail : Nat := 0
  deriving DecidableEq, Repr

/-- The FAULT page's records (R551): ring of 256, and the index of the newest. -/
structure FaultS where
  records : Map FaultRec := []
  head : Nat := 0xFFFF
  deriving DecidableEq, Repr

/-- A step journal entry (Table 17.5), CHECK apart. -/
structure StepEntry where
  step : Nat
  roll : Nat
  kind : Nat
  degraded : Bool
  fallback : Bool
  tick : Nat
  epoch : Nat
  time : Nat
  seed : Nat
  layoutId : Nat
  members : Nat
  field : Nat
  cause : Nat
  slips : Nat
  source : Nat
  repaired : Nat
  marked : Nat
  deriving DecidableEq, Repr

/-- What one shutter latched (Table 17.1): the state of every block at the shutter instant. -/
structure SnapImage where
  id : Nat := 0
  cores : Map CoreS := []
  fabric : FabricS := {}
  beam : BeamS := {}
  stream : StreamS := {}
  mem : MemS := {}
  blocks : Map BlockS := []
  tick : TickS := {}
  roll : Nat := 0
  rings : Map RingS := []
  ceiling : Nat := 0
  floor : Nat := 0
  stretch : List Nat := []
  counters : Map Nat := []
  deriving DecidableEq, Repr

/-- The SNAPSHOT page, the banks and the step journal (R506 to R515). `image` is what the last shutter latched; `older`
holds, by field, what the banks of a field that was dark at that shutter still hold. `requests` holds
a lead's shutter requests as (module, tick). -/
structure SnapS where
  sources : Nat := 0x1F
  armed : Bool := true
  rearmPending : Bool := false
  faultScopeGroup : Bool := true
  lastId : Nat := 0
  lastSource : Nat := 0
  lastTick : Nat := 0
  lastTime : Nat := 0
  journalEntries : Nat := 65536
  latching : Bool := false
  latchAt : Nat := 0
  image : Option SnapImage := none
  older : List (Nat × SnapImage) := []
  requests : List (Nat × Nat) := []
  journal : List StepEntry := []
  seed : Nat := 0
  deriving DecidableEq, Repr

/-- The instruction a test access port holds (Table 17.6). -/
inductive TapInstr where
  | bypass | idcode | sample | extest | snapRead
  deriving DecidableEq, Repr

/-- The test access port (R516, R536): instruction, bypass bit, boundary register, data register. -/
structure TapS where
  instr : TapInstr := .bypass
  bypassBit : Bool := false
  boundary : Nat := 0
  driven : Option Nat := none
  data : Nat := 0
  deriving DecidableEq, Repr

/-! ## Pins and sideband (chapter 18) -/

/-- The discrete inputs (R524 to R529): accepted levels as a mask of asserted inputs, when each was last accepted as
asserted (PWR_GOOD: as low), stuck inputs, the strap latched at RST_N release, whether the LEAD_SEL change is reported,
whether a halt request stands. -/
structure PinsS where
  asserted : Nat := 2
  since : Map Nat := []
  stuck : Nat := 0
  leadSel : Bool := false
  leadSelReported : Bool := false
  haltSent : Bool := false
  deriving DecidableEq, Repr

/-- The sideband (R533 to R535): dynamic address or I2C fallback, answering at all, the command in the mailbox until its
FINAL reply is read, the reply's entries and whether it is FINAL, what the last private read returned, the last access
refused with a NACK, in-band interrupts raised, events enabled. -/
structure SidebandS where
  dynAddr : Option Nat := none
  i2c : Bool := false
  answering : Bool := false
  mailbox : Option Packet := none
  reply : List (List Byte) := []
  replyReady : Bool := false
  read : List Byte := []
  nack : Bool := false
  irq : Nat := 0
  eventsOn : Bool := false
  deriving DecidableEq, Repr

/-! ## What leaves the module, and what crosses between its own parts -/

/-- A message the module has sent: to peers on the glint path and the beam, to weight servers on the stream lanes, to
hosts on Ethernet, and packets inside the wafer that no other part of the state records. Raw words are laid out by the
table each constructor cites. -/
inductive Msg where
  /-- A tick message (Table 2.2) to the group's members, or the job tick to the group leads (R24, R36), on each channel after
  its delay in ns (R371). -/
  | tick (raw : Nat) (delays : List (Nat × Nat))
  /-- Lead state to the standby lead at the end of a tick (R19). -/
  | leadState (news : LeadNews)
  /-- A tick marker (Table 7.1) on a lane. -/
  | marker (lane raw : Nat)
  /-- A stream-schedule notice on a lane (R384). -/
  | scheduleNotice (lane layoutId schedule : Nat)
  /-- An overrun report to the lead (R50). -/
  | overrun (member unit slot : Nat)
  /-- A group lead's slip to the job lead (R52). -/
  | slipForward (group : Nat)
  /-- A lantern beacon (Table 16.1). -/
  | beacon (raw : Nat)
  /-- A group lead's summary of its group's beacons to the job lead: member, STATE byte and OUT_MASK of each (R477). -/
  | beaconSummary (group : Nat) (members : List (Nat × Nat × Nat))
  /-- Input starvation to the lead (R272). -/
  | starvation (member : Nat)
  /-- A rollback request (R485). -/
  | rollbackRequest (cause source : Nat)
  /-- The rollback notice (Table 16.2), 24 bytes. -/
  | rollbackNotice (raw : Nat)
  /-- The membership mask and owner table (R298, R479). -/
  | membership (mask : Nat) (owners : List (Nat × Nat))
  /-- Roles relayed to the group (R22, R23). -/
  | roles (lead : Nat) (standby : Option Nat)
  /-- Roles that the job lead names for another group (R23). -/
  | groupRoles (group lead : Nat) (standby : Option Nat)
  /-- A module's halt request, or its withdrawal (R527). -/
  | halt (module_ : Nat) (withdraw : Bool)
  /-- A suspect reported to the lead (R365). -/
  | suspect (comm source : Nat) (gather : Bool)
  /-- An exclusion notice (R365). -/
  | exclusion (comm member : Nat)
  /-- The members last into a barrier, from a root that is not the lead (R372). -/
  | lastIn (comm mask : Nat)
  /-- A shutter request to the lead, and a glint SHUTTER packet (R510, R511). -/
  | shutterRequest (source : Nat)
  | shutterPacket (raw : Nat) (delays : List (Nat × Nat))
  /-- An update-done report to the lead, the group's to the job lead, and the commit notice (R332). -/
  | updateDone (step : Nat) (nonfinite : Option Nat) (norm : Nat)
  | groupDone (group step : Nat) (nonfinite : Option Nat)
  | commit (step roll clip : Nat)
  /-- A digest list, a request for block digests, and the digests (R491, R492). -/
  | digestList (entries : List DigestEntry)
  | digestRequest (tensor : Nat)
  | markBlocks (blocks : List Nat)
  | repairCopy (block fromGroup toGroup : Nat)
  | recompute (block : Nat)
  | reconcileCopy (block : Nat) (bank : OwnerBlock)
  /-- A job-scope command or job-wide settings distributed (R409, R543), and the step seed (R514). -/
  | distribute (hdr : CmdHdr) (body : CmdBody)
  | jobWide (values : List Nat)
  | stepSeed (seed : Nat)
  /-- The ramp allocations (R449). -/
  | grants (tick : Nat) (values : List (Nat × Int))
  /-- A contribution piece (Table 10.3) to an owner. -/
  | piece (owner stack addr header srcBlock entry : Nat) (values : List Int)
  /-- The acknowledgement of a piece to its sender's core (R315). -/
  | pieceAck (dest : Sender) (block step : Nat)
  /-- Re-request, raise, total acknowledgement and total re-request (R316 to R319). -/
  | reRequest (group owner block : Nat) (bexp : Int) (toOwners : Bool)
  | raise (block : Nat) (bexp : Int) (nonfinite : Bool)
  | totalAck (block : Nat)
  | totalRerequest (block piece : Nat)
  /-- An outbound segment: tensor, block, OUT_KIND of Table 10.7, version, payload (R329). -/
  | segment (tensor block kind version : Nat) (payload : List Byte)
  /-- A packet inside the wafer: the router, its output, the flits. -/
  | fabric (router : Nat) (port : OutPort) (pkt : Flits)
  /-- A task posted to a unit, and a signal to a unit's entry. -/
  | task (unit : Nat) (desc : Nat)
  | signal (unit entry n : Nat)
  /-- A beam packet: lane, beam header flit, inner packet (Table 11.4). -/
  | beam (lane header : Nat) (inner : Flits)
  /-- Link management on a lane: a NAK, a resend from a codeword count, the identity record, and
  a relay's notice to module `dest` of a retrain on its path to `module_` (R366). -/
  | nak (lane count : Nat)
  | resend (lane count : Nat)
  /-- The control field of a codeword sent on a lane (Table 11.3). -/
  | control (lane raw : Nat)
  | identity (lane record : Nat)
  | retrainNotice (dest module_ : Nat) (begins : Bool)
  /-- A module, or a channel, reported to the lead. -/
  | unreachable (module_ : Nat)
  /-- A packet of a chunk under its header flit (Table 11.8), the acknowledgement and re-request of a position (R361,
  R362). -/
  | chunk (dest header : Nat) (values : List Int)
  | chunkAck (comm source position : Nat)
  | chunkRerequest (comm source position : Nat)
  /-- A completed position of a reduce-scatter in FP32, to the unit that waits for it (R362). -/
  | delivered (comm position : Nat) (values : List Int)
  /-- A glint packet onward to a combiner of a module, `none` at `jobRoot` being the job lead; at `result` with `none`,
  a result delivered to the units (R368). -/
  | glint (stage : GlintStage) (dest : Option Nat) (header : Nat) (data : List Byte)
  /-- A link resend request to the sending router (R82). -/
  | flitResend (link : Nat)
  | flit (link : Nat) (flit : Nat)
  /-- A read response of a memory controller or a core. -/
  | memory (stack addr : Nat) (data : List Byte)
  /-- A datagram to a source, a ring notice (R403), a RoCE answer, an address or echo answer, a PTP-clock change. -/
  | datagram (source : Nat) (bytes : List Byte)
  | notice (ring tail : Nat)
  | roceData (qpn : Nat) (data : List Byte)
  | roceAck (qpn psn : Nat)
  | roceNak (qpn code : Nat)
  | cnp (qpn : Nat)
  | answer (port mac : Nat) (data : Nat)
  /-- The ready report to the lead after re-placement (R382). -/
  | ready (member : Nat)
  deriving DecidableEq, Repr

end Sys2Proof.Machine
end

