-- ==== Sys2Proof/Machine/Sparse.lean ====
section
/-! DEFINITION. Structured weight formats and their codes, the pruning unit's selection, ragged rows and the row
spill planner (R178 to R196). -/

namespace Sys2Proof.Machine

/-! ## Structured formats (Tables 6.1 to 6.3) -/

def sparseOfCode : Nat → Option Sparse
  | 0 => some .dense
  | 1 => some .s24
  | 2 => some .ts24
  | 3 => some .s14
  | 4 => some .s28
  | _ => none

/-- Positions of k in a group. -/
def sparseGroup : Sparse → Nat
  | .dense => 1
  | .s24 | .ts24 | .s14 => 4
  | .s28 => 8

/-- Kept elements per group. -/
def sparseKept : Sparse → Nat
  | .s14 | .dense => 1
  | _ => 2

/-- Bits of a position code. -/
def sparseCodeBits : Sparse → Nat
  | .dense => 0
  | .s24 | .ts24 => 4
  | .s14 => 2
  | .s28 => 6

/-- D of Table 6.3: dense positions per column that one value micro-tile covers; `per` elements in a slot. -/
def sparseD (sp : Sparse) (per : Nat) : Nat :=
  match sp with
  | .dense => 4 * per
  | .s24 | .ts24 => 8 * per
  | .s14 | .s28 => 16 * per

/-- C of Table 6.3: code bytes per value micro-tile. -/
def sparseC (sp : Sparse) (per : Nat) : Nat := 4 * (sparseD sp per / sparseGroup sp) * sparseCodeBits sp / 8

/-- The kept positions that a code names, ascending; none for a code outside its valid set (Table 6.2). -/
def codePositions (sp : Sparse) (code : Nat) : Option (List Nat) :=
  match sp with
  | .dense => some [0]
  | .s14 => some [code % 4]
  | .s24 | .ts24 => if code % 4 < code / 4 then some [code % 4, code / 4] else none
  | .s28 => if code % 8 < code / 8 then some [code % 8, code / 8] else none

/-- The six S24 codes of Table 6.2, ascending. -/
def s24Codes : List Nat := [0x4, 0x8, 0x9, 0xC, 0xD, 0xE]

/-- How often row `r` is named by four column codes. -/
def rowUses (cs : List Nat) (r : Nat) : Nat :=
  (cs.filter fun c => decide (c % 4 = r) || decide (c / 4 = r)).length

/-- A TS24 pattern: four S24 codes that name each row exactly twice. -/
def ts24Valid (cs : List Nat) : Bool :=
  cs.all (fun c => decide (c % 4 < c / 4)) && (List.range 4).all fun r => decide (rowUses cs r = 2)

/-- The 90 patterns, ascending by their 16-bit value, column 0 in bits [3:0]. -/
def ts24Patterns : List (List Nat) :=
  (s24Codes.flatMap fun c3 => s24Codes.flatMap fun c2 => s24Codes.flatMap fun c1 =>
    s24Codes.map fun c0 => [c0, c1, c2, c3]).filter ts24Valid

/-! ## The pruning unit (R185, R186). Magnitudes are exact, as integers over one common weight. -/

/-- The FP32 magnitude as an integer multiple of 2^-149; NaN and infinity count as the largest. -/
def fp32Mag (w : Nat) : Nat :=
  match fpDec w with
  | .fin _ m e => m * 2 ^ (e + 149).toNat
  | _ => 2 ^ 300

def sumAt (mags : List Nat) (ps : List Nat) : Nat := (ps.map fun p => nth 0 mags p).sum

/-- The score of a group code: the sum of its kept magnitudes. -/
def codeScore (sp : Sparse) (mags : List Nat) (code : Nat) : Nat :=
  match codePositions sp code with
  | some ps => sumAt mags ps
  | none => 0

/-- The best of a list by score, the earliest on a tie. -/
def bestBy {α : Type} (score : α → Nat) (d : α) : List α → α
  | [] => d
  | x :: xs => xs.foldl (fun b y => if score b < score y then y else b) x

/-- Codes of a group in the order in which ties are settled: lower positions first. -/
def groupCodes : Sparse → List Nat
  | .s24 | .ts24 => [0x4, 0x8, 0xC, 0x9, 0xD, 0xE]
  | .s14 => [0, 1, 2, 3]
  | .s28 => (List.range 8).flatMap fun a => (rangeFrom (a + 1) 8).map fun b => a + 8 * b
  | .dense => [0]

/-- The code that R185 selects for a group's magnitudes. -/
def selectCode (sp : Sparse) (mags : List Nat) : Nat := bestBy (codeScore sp mags) 0 (groupCodes sp)

/-- The score of a TS24 pattern over a 4 × 4 block, `mags[4 k + column]`. -/
def patternScore (mags : List Nat) (cs : List Nat) : Nat :=
  ((List.range 4).map fun j =>
    let c := nth 0 cs j
    nth 0 mags (4 * (c % 4) + j) + nth 0 mags (4 * (c / 4) + j)).sum

/-- The TS24 pattern that R185 selects. -/
def selectPattern (mags : List Nat) : List Nat := bestBy (patternScore mags) [] ts24Patterns

/-- Does the newly selected score displace the previous pattern under the hold h (R186)? -/
def displaces (hold new old : Nat) : Bool := decide ((64 + hold) * old < 64 * new)

/-- The group's code this step: the selected one, or the previous one under R186. -/
def holdCode (sp : Sparse) (hold : Nat) (prev : Option Nat) (mags : List Nat) : Nat :=
  let c := selectCode sp mags
  match prev with
  | none => c
  | some p => if displaces hold (codeScore sp mags c) (codeScore sp mags p) then c else p

/-- The TS24 block's pattern this step. -/
def holdPattern (hold : Nat) (prev : Option (List Nat)) (mags : List Nat) : List Nat :=
  let c := selectPattern mags
  match prev with
  | none => c
  | some p => if displaces hold (patternScore mags c) (patternScore mags p) then c else p

/-! ## Ragged rows (R190 to R192) -/

/-- The RR header of Table 6.4. -/
structure RrHeader where
  rows : Nat
  nnz : Nat
  fmt : Nat
  grain : Nat
  spill : Nat
  idx32 : Bool
  valOffset : Nat
  reservedSet : Bool
  deriving DecidableEq, Repr

def rrHeaderOf (w : Nat) : RrHeader :=
  { rows := field w 0 32, nnz := field w 32 32, fmt := field w 64 4, grain := field w 68 2
    spill := field w 72 8, idx32 := bitAt w 80, valOffset := field w 96 32
    reservedSet := decide (field w 70 2 ≠ 0) || decide (field w 81 15 ≠ 0) }

/-- An invalid FMT or a reserved header value (R191). -/
def rrHeaderOk (h : RrHeader) : Bool :=
  (fmtOfCode h.fmt).isSome && decide (h.grain ≠ 3) && decide (h.spill = 0 ∨ 4 ≤ h.spill) &&
    decide (1 ≤ h.rows) && decide (h.rows ≤ 65536) && decide (h.valOffset % 16 = 0) && !h.reservedSet

/-- Elements in one grain. -/
def grainElems (h : RrHeader) : Nat := if h.grain = 0 then 1 else if h.grain = 1 then 4 else 16

def ascending : List Nat → Bool
  | a :: b :: rest => decide (a < b) && ascending (b :: rest)
  | _ => true

def nondecreasing : List Nat → Bool
  | a :: b :: rest => decide (a ≤ b) && nondecreasing (b :: rest)
  | _ => true

/-- Insert into an ascending list without repeats. -/
def insertAsc (n : Nat) : List Nat → List Nat
  | [] => [n]
  | x :: xs => if n < x then n :: x :: xs else if n = x then x :: xs else x :: insertAsc n xs

/-- The union of index lists, ascending (R192). -/
def unionAsc (ls : List (List Nat)) : List Nat := ls.flatten.foldl (fun acc n => insertAsc n acc) []

/-! ## The spill planner (R195, R196) -/

/-- A piece of a row-spill task: first row, offset within it, index within its row and p, non-zeros. -/
structure Piece where
  row : Nat
  offset : Nat
  index : Nat
  parts : Nat
  count : Nat
  deriving DecidableEq, Repr

/-- T = max(1, ⌈SPILL_FACTOR × m / 4⌉), m = ⌈nnz / INDEX_COUNT⌉. -/
def spillThreshold (factor nnz rows : Nat) : Nat := max 1 (ceilDiv (factor * ceilDiv nnz rows) 4)

/-- The pieces of a row longer than T: min(64, ⌈n / T⌉); one with SPILL_FACTOR 0, with which no row spills. -/
def spillParts (factor th n : Nat) : Nat := if factor = 0 then 1 else min 64 (ceilDiv n th)

/-- Cut a row of length `n` into `p` pieces, the longer ones first. -/
def cutRow (row n p : Nat) : List Piece :=
  (List.range p).map fun i =>
    { row := row, offset := i * (n / p) + min i (n % p), index := i, parts := p
      count := n / p + b2n (decide (i < n % p)) }

/-- Close the packed piece in progress. -/
def closePacked : Option Piece → List Piece
  | none => []
  | some p => [p]

/-- The planner's loop over `(row, length)` pairs with the packed piece in progress (R195). -/
def planRows (factor th : Nat) : Option Piece → List (Nat × Nat) → List Piece
  | cur, [] => closePacked cur
  | cur, (row, n) :: rest =>
    if n = 0 then planRows factor th cur rest
    else if th < n then
      closePacked cur ++ cutRow row n (spillParts factor th n) ++ planRows factor th none rest
    else
      match cur with
      | none => planRows factor th (some { row := row, offset := 0, index := 0, parts := 1, count := n }) rest
      | some p =>
        if p.count + n ≤ th then planRows factor th (some { p with count := p.count + n }) rest
        else p :: planRows factor th (some { row := row, offset := 0, index := 0, parts := 1, count := n }) rest

end Sys2Proof.Machine
end

