-- ==== Sys2Proof/Machine/Operands.lean ====
section
/-! DEFINITION. The raw structures of the spec's layout tables, read and written field by field. Each definition names
its table; fields stand in the table's order. -/

namespace Sys2Proof.Machine

/-! ## Tick message, marker, beacon, rollback notice (Tables 2.2, 7.1, 16.1, 16.2) -/

/-- Bytes 0–17 of a tick message as a number (Table 2.2). -/
def tickHead (m : TickMsg) : Nat :=
  pack [(48, m.tickCount), (40, m.step), (24, m.slot), (16, m.epoch),
        (1, b2n m.slip), (1, b2n m.passBoundary), (1, b2n m.stepBoundary), (1, b2n m.hold), (1, b2n m.external),
        (1, b2n m.flywheel), (2, 0), (4, m.group), (4, 0)]

/-- The 20 bytes of a tick message, CHECK included. -/
def encodeTick (m : TickMsg) : Nat := tickHead m + 2 ^ 144 * crc16 (bytesLE 18 (tickHead m))

/-- Is CHECK the CRC-16 of bytes 0–17 (R36)? -/
def tickCheckOk (raw : Nat) : Bool := decide (field raw 144 16 = crc16 (bytesLE 18 (raw % 2 ^ 144)))

/-- The fields of a tick message; reserved bits are ignored (R36). -/
def decodeTick (raw : Nat) : TickMsg :=
  { tickCount := field raw 0 48, step := field raw 48 40, slot := field raw 88 24, epoch := field raw 112 16
    slip := bitAt raw 128, passBoundary := bitAt raw 129, stepBoundary := bitAt raw 130, hold := bitAt raw 131
    external := bitAt raw 132, flywheel := bitAt raw 133, group := field raw 136 4 }

/-- The FLAGS byte of a tick message. -/
def tickFlags (m : TickMsg) : Nat :=
  pack [(1, b2n m.slip), (1, b2n m.passBoundary), (1, b2n m.stepBoundary), (1, b2n m.hold), (1, b2n m.external),
        (1, b2n m.flywheel)]

/-- A tick marker (Table 7.1): the fields in order. -/
structure Marker where
  tickCount : Nat
  creditLimit : Nat
  resumeSeq : Nat
  repeatSeq : Nat
  step : Nat
  stop : Bool
  resume : Bool
  dual : Bool
  discard : Bool
  epochA : Nat
  epochB : Nat
  rank : Nat
  activeLanes : Nat
  deriving DecidableEq, Repr

def markerHead (m : Marker) : Nat :=
  pack [(48, m.tickCount), (48, m.creditLimit), (48, m.resumeSeq), (48, m.repeatSeq), (40, m.step),
        (1, b2n m.stop), (1, b2n m.resume), (1, b2n m.dual), (1, b2n m.discard), (4, 0),
        (16, m.epochA), (16, m.epochB), (16, m.rank), (16, m.activeLanes), (64, 0)]

/-- The 48 bytes of a tick marker. -/
def encodeMarker (m : Marker) : Nat := markerHead m + 2 ^ 368 * crc16 (bytesLE 46 (markerHead m))

/-- A lantern beacon (Table 16.1), CHECK apart. -/
structure Beacon where
  member : Nat
  group : Nat
  tickCount : Nat
  step : Nat
  roll : Nat
  state : Nat
  rampReq : Int
  outMask : Nat
  tjMax : Nat
  newFaults : Nat
  lastFault : Nat
  deriving DecidableEq, Repr

def beaconHead (b : Beacon) : Nat :=
  pack [(8, b.member % 64), (8, b.group % 16), (48, b.tickCount), (40, b.step), (8, b.roll), (8, b.state), (8, 0),
        (32, ofSigned 32 b.rampReq), (88, b.outMask % 2 ^ 84), (8, b.tjMax), (16, b.newFaults), (16, b.lastFault),
        (80, 0)]

def encodeBeacon (b : Beacon) : Nat := beaconHead b + 2 ^ 368 * crc16 (bytesLE 46 (beaconHead b))

def beaconCheckOk (raw : Nat) : Bool := decide (field raw 368 16 = crc16 (bytesLE 46 (raw % 2 ^ 368)))

def decodeBeacon (raw : Nat) : Beacon :=
  { member := field raw 0 6, group := field raw 8 4, tickCount := field raw 16 48, step := field raw 64 40
    roll := field raw 104 8, state := field raw 112 8, rampReq := toSigned 32 (field raw 128 32)
    outMask := field raw 160 84, tjMax := field raw 248 8, newFaults := field raw 256 16
    lastFault := field raw 272 16 }

/-- A rollback notice as its 24 bytes (Table 16.2). -/
def encodeRollback (m : RollbackMsg) : Nat :=
  pack [(40, m.target), (8, m.roll), (8, m.cause), (16, m.source), (1, b2n m.holdAfter), (7, 0), (48, 0),
        (64, m.members)]

/-! ## Fabric (Tables 3.2, 3.5) -/

/-- A header flit decoded (Table 3.2). -/
structure Flit where
  fmt : Nat
  type : Nat
  vc : Nat
  destBx : Nat
  destBy : Nat
  srcBx : Nat
  srcBy : Nat
  len : Nat
  destKind : Nat
  add : Bool
  esc : Bool
  addr : Nat
  tag : Nat
  ctx : Nat
  comm : Nat
  deriving DecidableEq, Repr

def decodeFlit (h : Nat) : Flit :=
  { fmt := field h 0 4, type := field h 4 4, vc := field h 8 3, destBx := field h 11 8, destBy := field h 19 9
    srcBx := field h 28 8, srcBy := field h 36 9, len := field h 45 9, destKind := field h 54 2
    add := bitAt h 56, esc := bitAt h 57, addr := field h 64 32, tag := field h 96 16, ctx := field h 112 6
    comm := field h 118 6 }

def encodeFlit (f : Flit) : Nat :=
  pack [(4, f.fmt), (4, f.type), (3, f.vc), (8, f.destBx), (9, f.destBy), (8, f.srcBx), (9, f.srcBy), (9, f.len),
        (2, f.destKind), (1, b2n f.add), (1, b2n f.esc), (6, 0), (32, f.addr), (16, f.tag), (6, f.ctx), (6, f.comm),
        (4, 0)]

/-- Discarded by the first router: LEN above 256, a reserved TYPE or DEST_KIND (R74). -/
def flitInvalid (f : Flit) : Bool :=
  decide (256 < f.len) || decide (f.type = 0) || decide (8 < f.type) || decide (f.destKind = 3)

/-- A unit map entry decoded (Table 3.5). -/
structure MapEntry where
  kind : Nat := 0
  level : Nat := 0
  parent : Nat := 0
  target : Nat := 0
  cw : Nat := 0
  ch : Nat := 0
  deriving DecidableEq, Repr

def decodeMapEntry (w : Nat) : MapEntry :=
  { kind := field w 0 2, level := field w 2 4, parent := field w 6 16, target := field w 22 16, cw := field w 38 6
    ch := field w 44 6 }

def encodeMapEntry (e : MapEntry) : Nat :=
  pack [(2, e.kind), (4, e.level), (16, e.parent), (16, e.target), (6, e.cw), (6, e.ch)]

/-! ## Tasks and the MMA word (Tables 4.4, 4.7) -/

def waitOf (b : Nat) : Option Nat := if bitAt b 6 then some (b % 64) else none

/-- A task descriptor (Table 4.4). -/
def decodeDesc (w : Nat) : Desc :=
  { kernel := field w 0 16, tag := field w 16 16, slot := field w 32 24, ctx := field w 56 6, prio := field w 62 2
    slack := bitAt w 64, keep := bitAt w 65, spill := bitAt w 66, fmtA := field w 72 4, fmtB := field w 76 4
    fmtOut := field w 80 4, spread := field w 88 2, coreMask := field w 96 16, wait0 := waitOf (field w 112 8)
    wait1 := waitOf (field w 120 8), signalUnit := field w 128 16, signalEntry := field w 144 6
    comm := field w 152 6, indexBase := field w 160 32, indexCount := field w 192 32
    operands := (List.range 4).map fun i => field w (224 + 32 * i) 32
    args := (List.range 5).map fun i => field w (352 + 32 * i) 32
    reservedSet := decide (field w 67 5 ≠ 0) || decide (field w 84 4 ≠ 0) || decide (field w 90 6 ≠ 0) ||
      bitAt w 119 || bitAt w 127 || decide (field w 150 2 ≠ 0) || decide (field w 158 2 ≠ 0) }

/-- The MMA word (Table 4.7). -/
structure MmaWord where
  op : Nat
  pred : Bool
  ra : Nat
  rb : Nat
  rc : Nat
  k : Nat
  orientA : Bool
  orientB : Bool
  set : Nat
  mode : Nat
  fmtA : Nat
  fmtB : Nat
  sparse : Nat
  reservedSet : Bool
  deriving DecidableEq, Repr

def decodeMma (w : Nat) : MmaWord :=
  { op := field w 0 8, pred := bitAt w 23, ra := field w 8 5, rb := field w 13 5, rc := field w 18 5, k := 4 * (field w 24 12 + 1), orientA := bitAt w 36
    orientB := bitAt w 37, set := field w 38 1, mode := field w 39 2, fmtA := field w 41 4, fmtB := field w 45 4
    sparse := field w 49 3, reservedSet := decide (field w 52 12 ≠ 0) }

/-! ## The stream (Tables 7.2, 7.3, 7.8) -/

def decodeFrame (raw : Nat) : FrameHdr :=
  { tickCount := field raw 0 48, seq := field raw 48 48, version := field raw 96 40, kind := field raw 136 2
    epoch := field raw 144 16, rank := field raw 160 16, segments := field raw 176 16 }

/-- Is CHECK the CRC-32 of bytes 0–27 (Table 7.2)? -/
def frameCheckOk (raw : Nat) : Bool := decide (field raw 224 32 = crc32 (bytesLE 28 (raw % 2 ^ 224)))

/-- A segment header (Table 7.3); OUT_KIND is byte 20 of an outbound header (R329). -/
structure SegHdr where
  tensor : Nat
  offset : Nat
  length : Nat
  fmt : Nat
  elem : Nat
  sparse : Nat
  comp : Nat
  dlen : Nat
  pcrc : Nat
  deriving DecidableEq, Repr

def decodeSeg (raw : Nat) : SegHdr :=
  { tensor := field raw 0 32, offset := field raw 32 48, length := field raw 80 16, fmt := field raw 96 4
    elem := field raw 100 4, sparse := field raw 104 3, comp := field raw 107 2, dlen := field raw 112 16 + 1
    pcrc := field raw 128 32 }

/-- An ingest table entry (Table 7.8). -/
structure IngestRec where
  tensor : Nat
  role : Nat
  outFmt : Nat
  outSparse : Nat
  quant : Nat
  shadow : Bool
  owned : Bool
  k : Nat
  n : Nat
  windowOffset : Nat
  shadowOffset : Nat
  arriveUnit : Nat
  arriveEntry : Nat
  deriving DecidableEq, Repr

def decodeIngest (w : Nat) : IngestRec :=
  { tensor := field w 0 32, role := field w 32 2, outFmt := field w 40 4, outSparse := field w 44 3
    quant := field w 48 2, shadow := bitAt w 50, owned := bitAt w 51, k := field w 64 32, n := field w 96 32
    windowOffset := field w 128 32, shadowOffset := field w 160 32, arriveUnit := field w 192 16
    arriveEntry := field w 208 6 }

/-! ## Stash, layer and block records (Tables 9.1, 10.1, 10.2, 10.3, 10.5) -/

/-- A stash table entry (Table 9.1). -/
structure StashRec where
  id : Nat
  layer : Nat
  kind : Nat
  mode : Nat
  masked : Bool
  fmt : Nat
  elem : Nat
  rows : Nat
  cols : Nat
  offset : Nat
  source : Nat
  lastSlot : Nat
  reservedSet : Bool
  deriving DecidableEq, Repr

def decodeStash (w : Nat) : StashRec :=
  { id := field w 0 32, layer := field w 32 16, kind := field w 48 2, mode := field w 50 2, masked := bitAt w 54
    fmt := field w 56 4, elem := field w 60 4, rows := field w 64 32, cols := field w 96 32
    offset := field w 128 64, source := field w 192 32, lastSlot := field w 224 24
    reservedSet := bitAt w 55 || decide (field w 248 8 ≠ 0) }

/-- Does an entry of an image with so many GiB of STASH keep Tables 9.1 and 9.2 (R273)? A stored one begins within STASH. -/
def stashOk (gib : Nat) (e : StashRec) : Bool :=
  decide (e.kind ≠ 3) && decide (e.mode ≤ 1) && !e.reservedSet && decide (e.offset % 4096 = 0) &&
  (if e.mode = 1 then decide (e.source ≠ 0xFFFFFFFF)
   else decide (e.source = 0xFFFFFFFF) && decide (e.offset < min 1152 gib * 2 ^ 30)) &&
  (if e.kind = 0 then
     (decide (1 ≤ e.fmt) && decide (e.fmt ≤ 8) && decide (e.elem = 0)) ||
     (decide (e.fmt = 9) && decide (4 ≤ e.elem) && decide (e.elem ≤ 8)) ||
     (decide (e.fmt = 10) && decide (e.elem = 0))
   else if e.kind = 1 then
     (decide (1 ≤ e.fmt) && decide (e.fmt ≤ 3) && decide (e.elem = 0)) || (decide (e.fmt = 9) && decide (e.elem = 5))
   else decide (e.fmt = 1) && decide (e.elem = 0))

/-- Does an entry keep Table 7.8? -/
def ingestOk (w : Nat) : Bool :=
  decide (field w 32 8 ≤ 2) && decide (field w 40 4 ≤ 10) && !bitAt w 47 && decide (field w 48 2 ≤ 2) &&
    decide (field w 52 12 = 0) && decide (field w 128 32 % 64 = 0) && decide (field w 214 10 = 0) && decide (field w 224 32 = 0)

/-- Does a record keep Table 10.1: TENSOR, no reserved code, no reserved bit? -/
def layerOk (w : Nat) : Bool :=
  decide (field w 0 32 < 2 ^ 31) && decide (1 ≤ field w 128 3) && decide (field w 128 3 ≤ 5) && decide (field w 131 2 ≤ 2) &&
    decide (1 ≤ field w 136 4) && decide (field w 136 4 ≤ 10) && decide (field w 145 3 ≤ 4) &&
    [4, 6, 7, 8].contains (field w 148 4) && decide (1 ≤ field w 152 8) && decide (field w 438 74 = 0)

/-- Does a record keep Table 6.7? -/
def predictorOk (p : PredictorRec) : Bool :=
  [4, 16, 64].contains p.group && decide (1 ≤ p.sampleK) && decide (p.sampleK ≤ 1024) && decide (p.missBound ≤ 1000000)

def pruneOfCode : Nat → Prune
  | 1 => .s24
  | 2 => .ts24
  | 3 => .s14
  | 4 => .s28
  | _ => .none

/-- A layer record (Table 10.1). -/
def decodeLayer (w : Nat) : LayerRec :=
  { tensor := field w 0 32, k := field w 32 32, n := field w 64 32, firstBlock := field w 96 32
    rule := field w 128 3, cls := field w 131 2, part := bitAt w 133, momSr := bitAt w 134, wcSr := bitAt w 135
    wcFmt := field w 136 4, wcElem := field w 140 4, wcDelta := bitAt w 144, prune := pruneOfCode (field w 145 3)
    deltaElem := field w 148 4, dEvery := field w 152 8, churnLimit := field w 160 32
    maskChanges := field w 192 32, updates := field w 224 32, lr := field w 256 32, p1 := field w 288 32
    p2 := field w 320 32, eps := field w 352 32, wd := field w 384 32, updateUnit := field w 416 16
    updateEntry := field w 432 6 }

/-- A RACC table entry (Table 10.2). -/
structure RaccRec where
  block : Nat
  owner : Nat
  piece : Nat
  bexp : Int
  addr : Nat
  stack : Nat
  ackEntry : Nat
  ackAddr : Nat
  deriving DecidableEq, Repr

def decodeRacc (w : Nat) : RaccRec :=
  { block := field w 0 32, owner := field w 32 6, piece := field w 40 3, bexp := toSigned 16 (field w 48 16)
    addr := field w 64 32, stack := field w 96 5, ackEntry := field w 104 6, ackAddr := field w 112 16 }

/-- A contribution header (Table 10.3). -/
structure ContribHdr where
  block : Nat
  piece : Nat
  mode : Nat
  clip : Bool
  nonfinite : Bool
  shift : Nat
  group : Nat
  member : Nat
  maxb : Nat
  step : Nat
  roll : Nat
  core : Nat
  res : Nat
  ackAddr : Nat
  deriving DecidableEq, Repr

def decodeContrib (h : Nat) : ContribHdr :=
  { block := field h 0 32, piece := field h 32 3, mode := field h 35 3, clip := bitAt h 38, nonfinite := bitAt h 39
    shift := field h 40 4, group := field h 44 4, member := field h 48 6, maxb := field h 56 6, step := field h 64 16
    roll := field h 80 8, core := field h 88 4, res := field h 96 16, ackAddr := field h 112 16 }

def encodeContrib (c : ContribHdr) : Nat :=
  pack [(32, c.block), (3, c.piece), (3, c.mode), (1, b2n c.clip), (1, b2n c.nonfinite), (4, c.shift), (4, c.group),
        (6, c.member), (2, 0), (6, c.maxb), (2, 0), (16, c.step), (8, c.roll), (4, c.core), (4, 0), (16, c.res),
        (16, c.ackAddr)]

/-- The code of a block's STATE (Table 10.5). -/
def blockStateCode : BlockState → Nat
  | .idle => 0
  | .open_ => 1
  | .sent => 2
  | .total => 3
  | .waitCommit => 4
  | .updating => 5
  | .updated => 6

/-- The 64 bytes of a block record (Table 10.5), with the mirror digest fields of Table 16.4 over bytes 34–35 and
52–63. -/
def encodeBlock (b : BlockS) (d : MirDigest) : Nat :=
  pack [(4, blockStateCode b.state), (2, b.train), (1, b2n b.clip), (1, b2n b.home), (2, b.raises),
        (1, b2n b.nonfinite), (5, 0), (16, ofSigned 16 b.bexp), (16, b.step), (8, b.roll), (6, b.maxb), (2, 0),
        (16, b.count), (16, b.target), (16, b.carried), (2, b.fails), (6, 0), (8, 0), (32, b.idsum), (32, b.idexp),
        (64, b.rowMask), (16, ofSigned 16 b.nextBexp), (8, d.maxe), (1, b2n d.nan), (1, b2n b.mark), (6, 0),
        (64, ofSigned 64 b.driftE), (32, b.driftU), (32, b.sumsq), (32, d.crc), (64, ofSigned 64 d.proj)]

/-! ## Beam and collectives (Tables 11.1, 11.3, 11.4, 11.7, 11.8, 11.9) -/

/-- An identity record (Table 11.1). -/
structure Identity where
  role : Nat
  module : Nat
  fieldIx : Nat
  lane : Nat
  jobTag : Nat
  gpe : Nat
  delay : Nat
  deriving DecidableEq, Repr

def decodeIdentity (w : Nat) : Identity :=
  { role := field w 0 2, module := field w 2 10, fieldIx := field w 12 7, lane := field w 19 4
    jobTag := field w 23 16, gpe := field w 39 16, delay := field w 55 16 }

def encodeIdentity (i : Identity) : Nat :=
  pack [(2, i.role), (10, i.module), (7, i.fieldIx), (4, i.lane), (16, i.jobTag), (16, i.gpe), (16, i.delay), (9, 0)]

/-- A beam header flit (Table 11.4). -/
structure BeamHdr where
  kind : Nat
  destMod : Nat
  srcMod : Nat
  relay : Nat
  flits : Nat
  jobTag : Nat
  deriving DecidableEq, Repr

def decodeBeamHdr (h : Nat) : BeamHdr :=
  { kind := field h 0 4, destMod := field h 4 10, srcMod := field h 14 10, relay := field h 24 2
    flits := field h 26 9, jobTag := field h 35 16 }

def encodeBeamHdr (b : BeamHdr) : Nat :=
  pack [(4, b.kind), (10, b.destMod), (10, b.srcMod), (2, b.relay), (9, b.flits), (16, b.jobTag)]

/-- A communicator table entry (Table 11.7). -/
def decodeComm (w : Nat) : CommRec :=
  { bulk := bitAt w 0, glint := bitAt w 1, scope := field w 2 2, excludable := bitAt w 4, add := field w 5 3
    weight := field w 8 4, window := field w 16 8, root := field w 24 6, sources := field w 32 64
    dests := field w 96 64, rootField := field w 160 7
    reservedSet := decide (field w 12 4 ≠ 0) || decide (field w 30 2 ≠ 0) || bitAt w 167 ||
      decide (field w 168 24 ≠ 0) || decide (field w 224 32 ≠ 0) }

/-- Does a used entry keep Table 11.7? -/
def commOk (c : CommRec) : Bool :=
  (!c.bulk && !c.glint) ||
  (decide (1 ≤ c.scope) && decide (c.add ≤ 3) && decide (1 ≤ c.weight) && decide (1 ≤ c.window) &&
    decide (c.window ≤ 16) && !c.reservedSet && decide (c.rootField < 84))

/-- A chunk header flit (Table 11.8). -/
structure ChunkHdr where
  comm : Nat
  op : Nat
  src : Nat
  dest : Nat
  position : Nat
  offset : Nat
  last : Bool
  roll : Nat
  step : Nat
  res : Nat
  deriving DecidableEq, Repr

def decodeChunk (h : Nat) : ChunkHdr :=
  { comm := field h 0 6, op := field h 6 2, src := field h 8 6, dest := field h 14 6, position := field h 20 32
    offset := field h 52 18, last := bitAt h 70, roll := field h 71 8, step := field h 79 16, res := field h 95 16 }

def encodeChunk (c : ChunkHdr) : Nat :=
  pack [(6, c.comm), (2, c.op), (6, c.src), (6, c.dest), (32, c.position), (18, c.offset), (1, b2n c.last), (8, c.roll)
        , (16, c.step), (16, c.res)]

/-- A glint header flit (Table 11.9). -/
structure GlintHdr where
  op : Nat
  comm : Nat
  seq : Nat
  piece : Nat
  pieces : Nat
  bytes : Nat
  scope : Nat
  count : Nat
  roll : Nat
  step : Nat
  deriving DecidableEq, Repr

def decodeGlint (h : Nat) : GlintHdr :=
  { op := field h 0 4, comm := field h 4 6, seq := field h 10 16, piece := field h 26 8, pieces := field h 34 8
    bytes := field h 42 12, scope := field h 54 2, count := field h 64 32, roll := field h 96 8
    step := field h 104 16 }

def encodeGlint (g : GlintHdr) : Nat :=
  pack [(4, g.op), (6, g.comm), (16, g.seq), (8, g.piece), (8, g.pieces), (12, g.bytes), (2, g.scope), (8, 0),
        (32, g.count), (8, g.roll), (16, g.step)]

/-! ## Hosts (Tables 13.3, 13.5) -/

/-- A status record (Table 13.5), 16 bytes. -/
structure StatusRec where
  status : Nat
  detail : Nat
  seq : Nat
  length : Nat
  ring : Nat
  event : Bool
  cont : Bool
  final : Bool
  ctx : Nat
  deriving DecidableEq, Repr

def encodeStatus (r : StatusRec) : List Byte :=
  bytesLE 16 (pack [(16, r.status), (16, r.detail), (32, r.seq), (32, r.length), (16, r.ring),
                    (1, b2n r.event), (1, b2n r.cont), (1, b2n r.final), (5, 0), (8, r.ctx)])

/-- A ring control block (Table 13.3), 64 bytes. -/
def encodeRcb (r : RingS) : List Byte :=
  bytesLE 64 (pack [(8, r.kind), (8, r.order), (8, r.entryShift), (8, r.ctx), (16, r.cq), (16, 0), (64, r.base),
                    (16, r.head), (16, r.tail), (128, r.notifyAddr), (16, r.notifyPort), (16, 0), (32, r.lost)])

/-! ## Journals and fault records (Tables 14.9, 17.5, 19.7) -/

/-- Bytes 0–11 and 16–63 of a boot journal entry, in order. -/
def bootEntryHead (seq : Nat) (e : JournalEntry) : List Byte :=
  bytesLE 12 (pack [(32, seq), (24, e.start), (8, e.step), (2, e.result), (1, b2n e.slotB), (1, b2n e.recovery),
                    (4, 0), (8, 0), (16, e.code)])

/-- A boot journal entry (Table 14.9), 64 bytes. CHECK covers bytes 0–11 and 16–63. -/
def encodeBootEntry (seq : Nat) (e : JournalEntry) : List Byte :=
  bootEntryHead seq e ++ bytesLE 2 (crc16 (bootEntryHead seq e ++ bytesLE 48 e.data)) ++
    bytesLE 2 (e.timeMs % 65536) ++ bytesLE 48 e.data

/-- Bytes 0–61 of a step journal entry (Table 17.5). -/
def stepEntryHead (e : StepEntry) : List Byte :=
  bytesLE 62 (pack [(40, e.step), (8, e.roll), (8, e.kind % 4), (1, b2n e.degraded), (1, b2n e.fallback), (6, 0),
                    (48, e.tick), (16, e.epoch), (64, e.time), (64, e.seed), (64, e.layoutId), (64, e.members),
                    (8, e.field), (8, e.cause), (16, min e.slips 0xFFFF), (16, e.source), (8, min e.repaired 0xFF),
                    (8, min e.marked 0xFF), (48, 0)])

def encodeStepEntry (e : StepEntry) : List Byte := stepEntryHead e ++ bytesLE 2 (crc16 (stepEntryHead e))

/-- A fault record as its 512 bits (Table 19.7). -/
def encodeFault (r : FaultRec) : Nat :=
  pack [(1, b2n r.valid), (1, b2n r.overflow), (6, 0), (8, r.cls), (16, r.code), (48, r.tick), (40, r.step),
        (8, r.roll), (64, r.time), (16, r.block), (4, r.core), (4, 0), (8, r.field), (16, r.unit), (16, r.tag),
        (24, r.slot), (8, 0), (32, r.addr), (64, r.detail)]

end Sys2Proof.Machine
end

