-- ==== Sys2Proof/Config.lean ====
section
/-! DEFINITION. What an implementation fixes and the spec leaves open: constants and free values. An opaque constant
has no body, so no proof can rest on its value. -/

namespace Sys2Proof

/-- A free value: the n-th value the spec leaves open, of whatever width the use cuts it to. `State.freeCtr` numbers
them. -/
opaque freeValue : Nat → Nat

namespace Config

/-- The byte offset in a command's body at which a parameter lies (opcode, parameter in table order): the spec gives
no byte layout of the bodies, so DETAIL of 0x0201 and 0x0102 is open there. -/
opaque paramOffset : Nat → Nat → Nat

/-- Where the values that a snapshot bank of a kind holds lie in it, byte by byte from byte 8: Table 17.1 names the
values and gives no layout.
Log entry 11 (DESIGN CHOICE). -/
opaque bankLayout : Nat → List Nat → Nat → Nat

/-- The bytes of the module defect map in flash: R102 names what it records and gives no layout.
Log entry 12 (DESIGN CHOICE). -/
opaque defectBytes : List Nat → List Byte

/-- SHA-384 of a byte string: a named standard (FIPS 180-4) that the spec does not restate.
Log entry 12 (DESIGN CHOICE). -/
opaque sha384 : List Byte → Nat

/-- The Ed25519 and ML-DSA-65 public keys and signatures made from the identity seed (R434, R435), as numbers. -/
opaque edPublic : Nat → Nat
opaque mldsaPublic : Nat → Nat
opaque edSign : Nat → List Byte → Nat
opaque mldsaSign : Nat → List Byte → Nat

/-- What a compare of the vector unit writes for true and false, and what a select takes as true (R118 names the
operations and not their encoding).
Log entry 10 (DESIGN CHOICE). -/
opaque compareWord : Bool → Nat
opaque selectTaken : Nat → Bool

/-- The state with which the sampling generator of a layer starts, from step seed and layer (R205).
Log entry 121 (DESIGN CHOICE). -/
opaque predictorSeed : Nat → Nat → BitVec 64

/-- A VFN result (R118 bounds its error): function number and operand word.
Log entry 10 (DESIGN CHOICE). -/
opaque vecFn : Nat → Nat → Nat

/-- What a body's bytes spell under an opcode: Tables 13.8 to 13.16 list the parameters and give them no byte layout. The first
non-zero reserved byte, the required length where it is another, and the body.
Log entry 43 (DESIGN CHOICE). -/
opaque bodyOf : Nat → List Byte → Option Nat × Option Nat × Option CmdBody
/-- The sections of a layout image whose bytes no table of the spec lays out, read from the image's bytes; and the reading of the
others, which Machine/Place.lean puts in place of these.
Log entry 43 (DESIGN CHOICE). -/
opaque imageSections : List Byte → Option LayoutImage
/-- The token of the greatest score, and the token that a draw selects, from the scores that a number stands for (R293).
Log entry 72 (DESIGN CHOICE). -/
opaque greatestToken : Nat → Nat
opaque sampledToken : Nat → Nat → Nat
/-- The chunks of a link-management message (R340, R342, R366), by its sort (1 a NAK, 2 an identity record) and value: the
spec gives them no layout.
Log entry 120 (DESIGN CHOICE). -/
opaque linkChunks : Nat → Nat → List (BitVec 64)

/-- The four chunks of an outbound segment's header, by tensor, block, OUT_KIND and version: R329 leaves its OFFSET and its
cut into segments open.
Log entry 120 (DESIGN CHOICE). -/
opaque outHeader : Nat → Nat → Nat → Nat → List (BitVec 64)

/-- The level of SHUTTER_IN (5) or TICK_IN (6) at a time: their falls have no command.
Log entry 68 (DESIGN CHOICE). -/
opaque pulseLevel : Nat → Nat → Bool

end Config

end Sys2Proof
end

