-- ==== Sys2Proof/Machine/Maps.lean ====
section
/-! DEFINITION. Reading and writing a sparse store kept in ONE canonical form: numbers strictly rising, no listed
value equal to the default `d` that an unlisted number reads as. -/

namespace Sys2Proof.Machine

/-- The value at `k`; `d` where nothing is listed. -/
def mapGet {α : Type} (d : α) : Map α → Nat → α
  | [], _ => d
  | (k, v) :: rest, n => if n = k then v else mapGet d rest n

/-- List `v` at `n`, keeping the order. -/
def mapPut {α : Type} : Map α → Nat → α → Map α
  | [], n, v => [(n, v)]
  | (k, w) :: rest, n, v =>
    if n < k then (n, v) :: (k, w) :: rest
    else if n = k then (k, v) :: rest
    else (k, w) :: mapPut rest n v

/-- Put `v` at `n`; a value equal to `d` removes what stands there. -/
def mapSet {α : Type} [DecidableEq α] (d : α) (m : Map α) (n : Nat) (v : α) : Map α :=
  if v = d then m.filter fun e => decide (e.1 ≠ n) else mapPut m n v

/-- Change the value at `n` by `f`. -/
def mapUpd {α : Type} [DecidableEq α] (d : α) (m : Map α) (n : Nat) (f : α → α) : Map α :=
  mapSet d m n (f (mapGet d m n))

/-- Every listed number is above `lo`, the numbers rise, and no listed value is `d`. -/
def mapWfFrom {α : Type} [DecidableEq α] (d : α) : Option Nat → Map α → Bool
  | _, [] => true
  | lo, (k, v) :: rest =>
    (match lo with | none => true | some l => decide (l < k)) && decide (v ≠ d) && mapWfFrom d (some k) rest

/-- The canonical form.
Log entry 7 (DESIGN CHOICE). -/
def mapWf {α : Type} [DecidableEq α] (d : α) (m : Map α) : Bool := mapWfFrom d none m

/-- Keep the entries whose number and value pass `p`. -/
def mapFilter {α : Type} (p : Nat → α → Bool) (m : Map α) : Map α := m.filter fun e => p e.1 e.2

/-- Write a list of values at rising numbers from `n`. -/
def mapSetList {α : Type} [DecidableEq α] (d : α) (m : Map α) (n : Nat) : List α → Map α
  | [] => m
  | v :: vs => mapSetList d (mapSet d m n v) (n + 1) vs

/-- Read `len` values at rising numbers from `n`. -/
def mapGetList {α : Type} (d : α) (m : Map α) (n len : Nat) : List α :=
  (List.range len).map fun i => mapGet d m (n + i)

end Sys2Proof.Machine
end

