-- ==== Sys2Proof/Machine/State.lean ====
section
/-! DEFINITION. The state of the module: every register, table, queue, counter and mode the spec gives it, as plain
data, the queue of waiting commands, and the two fields that are the model's own (`sent`, `freeCtr`). -/

namespace Sys2Proof.Machine

/-- The machine stops. -/
inductive Fault where
  /-- Raised by no meaning on an operand its rules admit: an operand outside the domain its type allows but the rule
  does not describe (a link that leaves the wafer). Safe: the machine stops and no claim follows. -/
  | noSuchPlace
  deriving DecidableEq, Repr

/-- No meaning for the command. -/
inductive Refusal where
  /-- Raised by Machine/Dispatch.lean alone, for a command not modelled. Safe. -/
  | notModelled (mnemonic : String)
  deriving DecidableEq, Repr

/-- The module. `now` is module-internal time in ns; `sent` lists what has left, oldest first; `freeCtr` numbers the
free values drawn so far (the model's own). -/
structure State where
  now : Nat := 0
  freeCtr : Nat := 0
  sent : List Msg := []
  pending : List Instr := []
  flash : FlashS := {}
  boot : BootS := {}
  pins : PinsS := {}
  side : SidebandS := {}
  power : PowerS := {}
  fault : FaultS := {}
  snap : SnapS := {}
  tap : TapS := {}
  tick : TickS := {}
  lead : LeadS := {}
  job : JobS := {}
  grp : GroupS := {}
  fabric : FabricS := {}
  cores : Map CoreS := []
  stream : StreamS := {}
  mem : MemS := {}
  red : ReduceS := {}
  beam : BeamS := {}
  place : PlaceS := {}
  host : HostS := {}
  counters : Map Nat := []
  cmdLatch : Option (Nat × Nat) := none
  sideLatch : Option (Nat × Nat) := none
  fieldWrites : List (Nat × Nat) := []
  deriving DecidableEq, Repr

/-- Right after reset: input present, PWR_GOOD high, RST_N just released and REFCLK running, so that the start
(MODULE_START) is next; every register at its reset value (R10, chapter 19).
Log entry 2 (DESIGN CHOICE). Log entry 22 (DESIGN CHOICE). -/
def State.reset : State := {}

end Sys2Proof.Machine
end

