-- ==== Sys2Proof/Machine/Ops.lean ====
section
/-! DEFINITION. The named operations every family shares: time, counters, messages, free values, accessors of the
keyed stores, stacked memory by region, and who this module is in its group. -/

namespace Sys2Proof.Machine

/-! ## Time, counters, messages, free values -/

/-- The module's own time reaches `t` ns.
Log entry 4 (DESIGN CHOICE). Log entry 92 (DESIGN CHOICE). -/
def atTime (t : Nat) (s : State) : State := { s with now := max s.now t }

/-- Add `n` to the counter of index `k` (Table 19.8). -/
def count (k n : Nat) (s : State) : State := { s with counters := mapUpd 0 s.counters k fun v => v + n }

/-- The counter of index `k`.
Log entry 14 (DESIGN CHOICE). -/
def counter (s : State) (k : Nat) : Nat := mapGet 0 s.counters k

/-- Set the counter of index `k`. -/
def setCounter (k v : Nat) (s : State) : State := { s with counters := mapSet 0 s.counters k v }

/-- A message leaves.
Log entry 5 (DESIGN CHOICE). Log entry 93 (DESIGN CHOICE). -/
def emit (m : Msg) (s : State) : State := { s with sent := s.sent ++ [m] }

/-- Messages leave in order. -/
def emitAll (ms : List Msg) (s : State) : State := { s with sent := s.sent ++ ms }

/-- The next free value, and the state that has drawn it.
Log entry 3 (DESIGN CHOICE). -/
def drawFree (s : State) : Nat × State := (freeValue s.freeCtr, { s with freeCtr := s.freeCtr + 1 })

/-- `f` while the module is READY; a command that finds it off, in reset, starting or in recovery has no effect
(R443).
Log entry 15 (DEDUCED). -/
def whenReady (f : State → State) (s : State) : State := if s.boot.state = .ready then f s else s

/-- `f` while the input is present (R443). -/
def whenPowered (f : State → State) (s : State) : State := if s.boot.state = .off then s else f s

/-- Fold an operation over a list. -/
def each {α : Type} (l : List α) (f : α → State → State) (s : State) : State := l.foldl (fun st a => f a st) s

/-! ## Pins (R524, R525) -/

/-- Add or drop bit `n` of a mask. -/
def putBit (n : Nat) (on : Bool) (m : Nat) : Nat :=
  if bitAt m n = on then m else if on then m + 2 ^ n else m - 2 ^ n

/-- A rising edge on an input whose falls have no command: it was released before, so it is not stuck. -/
def pulseAt (n : Nat) (s : State) : State :=
  { s with pins := { s.pins with since := mapSet 0 s.pins.since n (s.now + 1), stuck := putBit n false s.pins.stuck
                                 asserted := putBit n false s.pins.asserted } }

/-! ## Counter indices (Table 19.8) -/

def cTicks : Nat := 0
def cSlots : Nat := 1
def cSlip : Nat := 2
def cBadTick : Nat := 3
def cMissTick : Nat := 4
def cExtReject : Nat := 5
def cHeld : Nat := 6
def cDispatched : Nat := 7
def cSlackRun : Nat := 8
def cPromoted : Nat := 9
def cShutterMissed : Nat := 10
def cNanMade : Nat := 68
def cSatCount : Nat := 69
def cNanLost : Nat := 70
def cUnionGrains : Nat := 128
def cSpanGrains : Nat := 129
/-- The PRED_ totals, in the order of Table 6.9. -/
def cPred (i : Nat) : Nat := 130 + i
def cStreamBytes : Nat := 192
def cOutSegBytes : Nat := 193
def cLandingOverflow : Nat := 194
def cHdrErrors : Nat := 195
def cCrcErrors : Nat := 196
def cDataErrors : Nat := 197
def cMissing : Nat := 198
def cLateFrames : Nat := 199
def cCreditViol : Nat := 200
def cSilentLanes : Nat := 201
def cMemRead : Nat := 256
def cMemWritten : Nat := 257
def cIfRetry : Nat := 258
def cOdecc : Nat := 259
def cCrcRetried : Nat := 260
def cCrcPersist : Nat := 261
def cAccMisses : Nat := 262
def cPieces : Nat := 320
def cBlocksUpdated : Nat := 321
def cWidePieces : Nat := 322
def cStaleDrops : Nat := 323
def cResidueFail : Nat := 324
def cClip : Nat := 325
def cMaskChange : Nat := 326
def cRegionBusy : Nat := 327
def cDriftRefresh : Nat := 328
def cDriftGross : Nat := 329
def cNonfiniteBlocks : Nat := 330
def cPeerOut : Nat := 384
def cPeerIn : Nat := 385
def cChunksSent : Nat := 386
def cGlintOps : Nat := 387
def cBeamDrops : Nat := 388
def cFecCorr : Nat := 389
def cFecUncorr : Nat := 390
def cReplays : Nat := 391
def cRetrains : Nat := 392
def cStaleChunks : Nat := 393
def cGlintMerges : Nat := 394
def cBarriers : Nat := 395
def cGlintStale : Nat := 396
def cResidue : Nat := 448
def cParity : Nat := 449
def cReplay : Nat := 450
def cReplayFail : Nat := 451
def cPktDiscard : Nat := 452
def cLinkParity : Nat := 453
def cLinkRetrains : Nat := 454
def cUdpDenied : Nat := 455
def cDoorbellBad : Nat := 456
def cBeaconBad : Nat := 457
def cRollbacks : Nat := 458
def cMirReconciled : Nat := 459
def cMirRepairs : Nat := 460
def cMirRollbacks : Nat := 461
def cRegClamp : Nat := 462
def cRampViol : Nat := 463
def cFloorShort : Nat := 464
def cPinChatter : Nat := 465
def cFieldBase (f : Nat) : Nat := 512 + 16 * f

/-! ## Keyed stores -/

def fieldS (s : State) (f : Nat) : FieldS := mapGet {} s.fabric.fields f
def setField (f : Nat) (v : FieldS) (s : State) : State :=
  { s with fabric := { s.fabric with fields := mapSet {} s.fabric.fields f v } }
def fieldState (s : State) (f : Nat) : FieldState := (fieldS s f).state
def isLit (s : State) (f : Nat) : Bool := decide (fieldState s f = .lit)
def isDark (s : State) (f : Nat) : Bool := decide (fieldState s f = .dark)

/-- The fields that are lit, ascending. -/
def litFields (s : State) : List Nat := (List.range 84).filter fun f => isLit s f
/-- The fields that are not dark, ascending. -/
def poweredFields (s : State) : List Nat := (List.range 84).filter fun f => !isDark s f

/-- The fields shaded or dark as a mask, bit f for Ff. -/
def outMask (s : State) : Nat := ((List.range 84).map fun f => if isLit s f then 0 else 2 ^ f).sum

def coreKey (block core : Nat) : Nat := 16 * block + core
def coreS (s : State) (k : Nat) : CoreS := mapGet {} s.cores k
def setCore (k : Nat) (c : CoreS) (s : State) : State := { s with cores := mapSet {} s.cores k c }
def updCore (k : Nat) (f : CoreS → CoreS) (s : State) : State := setCore k (f (coreS s k)) s

def linkKey (l : LinkRef) : Nat := 4 * l.router.val + (match l.dir with | .e => 0 | .w => 1 | .n => 2 | .s => 3)
def linkS (s : State) (k : Nat) : LinkS := mapGet {} s.fabric.links k
def setLink (k : Nat) (v : LinkS) (s : State) : State :=
  { s with fabric := { s.fabric with links := mapSet {} s.fabric.links k v } }

def unitRun (s : State) (u : Nat) : UnitRun := mapGet {} s.tick.units u
def setUnitRun (u : Nat) (v : UnitRun) (s : State) : State :=
  { s with tick := { s.tick with units := mapSet {} s.tick.units u v } }

def laneS (s : State) (c : Nat) : LaneS := mapGet {} s.beam.lanes c
def setLane (c : Nat) (v : LaneS) (s : State) : State :=
  { s with beam := { s.beam with lanes := mapSet {} s.beam.lanes c v } }

def streamLane (s : State) (c : Nat) : StreamLaneS := mapGet {} s.stream.lanes c
def setStreamLane (c : Nat) (v : StreamLaneS) (s : State) : State :=
  { s with stream := { s.stream with lanes := mapSet {} s.stream.lanes c v } }

def slotS (s : State) (q : Nat) : SlotS := mapGet {} s.stream.slots q
def setSlot (q : Nat) (v : SlotS) (s : State) : State :=
  { s with stream := { s.stream with slots := mapSet {} s.stream.slots q v } }

def blockS (s : State) (b : Nat) : BlockS := mapGet {} s.red.blocks b
def setBlock (b : Nat) (v : BlockS) (s : State) : State :=
  { s with red := { s.red with blocks := mapSet {} s.red.blocks b v } }

/-- A block in the bank that holds the last committed master (R258). -/
def curBank (s : State) (b : Nat) : OwnerBlock :=
  if s.mem.ownerCur then mapGet {} s.red.bankB b else mapGet {} s.red.bankA b
/-- A block in the bank that was the current one at the first tick of the pass in hand (R290). -/
def passBank (s : State) (b : Nat) : OwnerBlock :=
  if s.beam.passBankB then mapGet {} s.red.bankB b else mapGet {} s.red.bankA b
/-- A block in the other bank. -/
def otherBank (s : State) (b : Nat) : OwnerBlock :=
  if s.mem.ownerCur then mapGet {} s.red.bankA b else mapGet {} s.red.bankB b
def setOther (b : Nat) (v : OwnerBlock) (s : State) : State :=
  if s.mem.ownerCur then { s with red := { s.red with bankA := mapSet {} s.red.bankA b v } }
  else { s with red := { s.red with bankB := mapSet {} s.red.bankB b v } }
def setCur (b : Nat) (v : OwnerBlock) (s : State) : State :=
  if s.mem.ownerCur then { s with red := { s.red with bankB := mapSet {} s.red.bankB b v } }
  else { s with red := { s.red with bankA := mapSet {} s.red.bankA b v } }

def memberS (s : State) (m : Nat) : MemberS := mapGet {} s.grp.members m
def setMember (m : Nat) (v : MemberS) (s : State) : State :=
  { s with grp := { s.grp with members := mapSet {} s.grp.members m v } }

def ringS (s : State) (n : Nat) : RingS := mapGet {} s.host.rings n
def portS (s : State) (n : Nat) : PortS := mapGet {} s.host.ports n
def setPort (n : Nat) (v : PortS) (s : State) : State :=
  { s with host := { s.host with ports := mapSet {} s.host.ports n v } }
def ctxOf (s : State) (n : Nat) : ContextS := mapGet {} s.host.contexts n
def setCtx (n : Nat) (v : ContextS) (s : State) : State :=
  { s with host := { s.host with contexts := mapSet {} s.host.contexts n v } }

def fieldPower (s : State) (f : Nat) : FieldPowerS := mapGet {} s.power.fields f
def setFieldPower (f : Nat) (v : FieldPowerS) (s : State) : State :=
  { s with power := { s.power with fields := mapSet {} s.power.fields f v } }

/-! ## Who this module is (chapter 01) -/

/-- The module index of this module, 64 × group + member (Table 11.1). -/
def selfIndex (s : State) : Nat := 64 * s.job.group + s.job.member

/-- Does this module hold its group's lead role? -/
def isLead (s : State) : Bool := decide (s.job.role = .lead)

/-- The lead of group 0 is the job lead. -/
def isJobLead (s : State) : Bool := isLead s && decide (s.job.group = 0)

/-- The member indices of this group. -/
def groupMembers (s : State) : List Nat := List.range s.job.members

/-- Members of this group that are ACTIVE. -/
def activeMembers (s : State) : List Nat :=
  (groupMembers s).filter fun m => decide ((memberS s (64 * s.job.group + m)).state = .active)

/-- The membership mask of the ACTIVE members (R479). -/
def activeMask (s : State) : Nat := ((activeMembers s).map fun m => 2 ^ m).sum

/-- Is the job held under R41, or not yet started? -/
def heldOrIdle (s : State) : Bool := !s.job.started || s.job.held

/-- Has the job a training context? -/
def hasTraining (s : State) : Bool :=
  (List.range 64).any fun c => decide ((ctxOf s c).kind = some .train)

/-- The schedule in force (R376, R383): the primary one of the primary image, else the degraded one. -/
def scheduleOf (s : State) : Option Schedule :=
  match s.place.inForce with
  | none => none
  | some i => if s.place.degraded then some i.degraded else (match i.primary with | some p => some p | none => some i.degraded)

/-- The seed of a step (R514). -/
def seedOf (s : State) (step : Nat) : Nat :=
  let id := match s.place.inForce with | some i => i.layoutId | none => 0
  Config.sha384 (bytesLE 8 id ++ bytesLE 5 step) % 2 ^ 64

/-- The tick period in ns. -/
def periodNs (s : State) : Nat := 1000 * s.tick.period

/-- "Three ticks or 2 ms, whichever is longer", in ns (R6). -/
def silenceBound (s : State) : Nat := max (3 * periodNs s) 2000000

/-! ## Module time (R398) -/

/-- The PTP instance followed. -/
def ptpFollowed (s : State) : PtpS := if s.host.followB then s.host.ptpB else s.host.ptpA

/-- Module time: the followed instance's time, or free running from its last locked value with bit 63 set. -/
def moduleTime (s : State) : Nat :=
  let p := ptpFollowed s
  let base := ((s.now : Int) + p.offset).toNat % 2 ^ 63
  if s.host.ptpA.locked || s.host.ptpB.locked then base else base + 2 ^ 63

/-! ## Stacked memory by region (R254 to R257) -/

/-- Bytes of one stack. -/
def stackBytes : Nat := 36 * 2 ^ 30

def memKey (stack addr : Nat) : Nat := 2 ^ 36 * stack + addr
def memByte (s : State) (stack addr : Nat) : Byte := mapGet 0#8 s.mem.bytes (memKey stack addr)
def setMemByte (stack addr : Nat) (b : Byte) (s : State) : State :=
  { s with mem := { s.mem with bytes := mapSet 0#8 s.mem.bytes (memKey stack addr) b } }
def memRead (s : State) (stack addr len : Nat) : List Byte :=
  mapGetList 0#8 s.mem.bytes (memKey stack addr) len
/-- The check bits of a 64-byte unit: CRC-16 over its data and the unit number (R259). -/
def unitCrc (unit : Nat) (data : List Byte) : Nat := crc16 (data ++ bytesLE 4 unit)

/-- A unit is written with its check bits, held plus 1; a unit that nothing has written has those of what it reads as.
Log entry 125 (DESIGN CHOICE). -/
def sealUnit (stack unit : Nat) (s : State) : State :=
  let crc := unitCrc unit (memRead s stack (64 * unit) 64)
  { s with mem := { s.mem with checks := mapSet 0 s.mem.checks (2 ^ 30 * stack + unit) (crc + 1) } }

/-- The units over which bytes lie. -/
def unitsOver (addr len : Nat) : List Nat := rangeFrom (addr / 64) (ceilDiv (addr + len) 64)

def memWrite (stack addr : Nat) (bs : List Byte) (s : State) : State :=
  each (unitsOver addr bs.length) (sealUnit stack)
    { s with mem := { s.mem with bytes := mapSetList 0#8 s.mem.bytes (memKey stack addr) bs } }

/-- Put a number into an ascending list without repeats. -/
def insertSpan (n : Nat) : List Nat → List Nat
  | [] => [n]
  | x :: xs => if n < x then n :: x :: xs else if n = x then x :: xs else x :: insertSpan n xs

/-- The 1 MiB spans excluded in any stack of the stripe set, ascending (R261). -/
def excludedSpans (s : State) : List Nat :=
  (s.mem.excluded.filter fun e => s.mem.stripe.contains e.1).foldl (fun l e => insertSpan e.2 l) []

/-- The in-stack address of a carved address: carving skips the excluded spans (R261). -/
def carvedAddr (s : State) (a : Nat) : Nat :=
  (excludedSpans s).foldl (fun n e => if e ≤ n then n + 1 else n) (a / 2 ^ 20) * 2 ^ 20 + a % 2 ^ 20

/-- The carved address of an in-stack address. -/
def uncarvedAddr (s : State) (a : Nat) : Nat :=
  a - 2 ^ 20 * ((excludedSpans s).filter fun e => decide (e < a / 2 ^ 20)).length

/-- The pair and in-stack address of a byte of SYSTEM, which is carved first and mirrored over the 16 pairs (R255). -/
def systemPlace (s : State) (o : Nat) : Nat × Nat := (o / 4096 % 16, carvedAddr s (o / 4096 / 16 * 4096 + o % 4096))

/-- Bytes of SYSTEM in both copies. -/
def systemBytes : Nat → List Byte → State → State
  | _, [], s => s
  | o, b :: bs, s =>
    let p := systemPlace s o
    systemBytes (o + 1) bs (setMemByte (p.1 + 16) p.2 b (setMemByte p.1 p.2 b s))

/-- Write bytes of SYSTEM to both copies (R255). -/
def systemWrite (o : Nat) (bs : List Byte) (s : State) : State :=
  each (unitsOver o bs.length) (fun k st =>
    let p := systemPlace st (64 * k)
    sealUnit (p.1 + 16) (p.2 / 64) (sealUnit p.1 (p.2 / 64) st)) (systemBytes o bs s)

/-- Is a stack out of service, or about to leave the stripe set? -/
def stackGone (s : State) (m : Nat) : Bool := s.mem.lost.contains m || s.mem.lostNext.contains m

/-- Read a byte of SYSTEM: the lower-numbered stack's copy, or the survivor's. -/
def systemByte (s : State) (o : Nat) : Byte :=
  let p := systemPlace s o
  if stackGone s p.1 then memByte s (p.1 + 16) p.2 else memByte s p.1 p.2

def systemRead (s : State) (o len : Nat) : List Byte := (List.range len).map fun i => systemByte s (o + i)

/-- The stack and in-stack address of a byte of a striped region based at `base` (R254). -/
def stripedPlace (s : State) (base o : Nat) : Nat × Nat :=
  let n := s.mem.stripe.length
  (nth 0 s.mem.stripe (o / 4096 % n), carvedAddr s (base + o / 4096 / n * 4096 + o % 4096))

/-- Seal the units of bytes `[o, o + len)` of a striped region. -/
def sealStriped (base o len : Nat) (s : State) : State :=
  each (unitsOver o len) (fun k st =>
    let p := stripedPlace st base (64 * k)
    sealUnit p.1 (p.2 / 64) st) s

/-- Bytes of a striped region. -/
def stripedBytes (base : Nat) : Nat → List Byte → State → State
  | _, [], s => s
  | o, b :: bs, s =>
    let p := stripedPlace s base o
    stripedBytes base (o + 1) bs (setMemByte p.1 p.2 b s)

/-- Write bytes of a striped region (R254). -/
def stripedWrite (base o : Nat) (bs : List Byte) (s : State) : State :=
  sealStriped base o bs.length (stripedBytes base o bs s)

/-- Round a size up to whole MiB (R257). -/
def toMib (bytes : Nat) : Nat := ceilDiv bytes (2 ^ 20)

/-- Bytes per stack that a striped region takes, in whole MiB. -/
def stripedShare (s : State) (bytes : Nat) : Nat := 2 ^ 20 * toMib (ceilDiv bytes s.mem.stripe.length)

/-- The landing zone's bytes: three frames on every lane active as the carve was made (R225). -/
def landingBytes (s : State) : Nat := 3 * 25000 * s.tick.period * s.mem.landLanes

/-- Blocks of a tensor (R299). -/
def blocksOfLayer (r : LayerRec) : Nat :=
  if r.n = 1 then ceilDiv r.k 4096 else ceilDiv r.k 64 * ceilDiv r.n 64

/-- Bytes of one block's position codes under a PRUNE setting (Table 6.2). -/
def codeBytes : Prune → Nat
  | .none => 0
  | .s24 | .ts24 => 512
  | .s14 => 256
  | .s28 => 384

/-- Bytes of one owned block in an OWNER bank: 24,704, the error memories of class S (R311), the factors and roots of
rule 5 (R328), and the codes under PRUNE (Table 8.2). -/
def ownerBytes (r : LayerRec) : Nat :=
  24704 + (if r.cls = 1 then 16384 else 0) + (if r.rule = 5 then 65536 else 0) + codeBytes r.prune

/-- The layer records of an image. -/
def layersOf (i : LayoutImage) : List LayerRec := i.layers.map fun w => decodeLayer w.toNat

/-- The record among `rs` that a block of the owned-block numbering belongs to, and the block's number in its tensor. -/
def layerIn (rs : List LayerRec) (b : Nat) : Option (LayerRec × Nat) :=
  (rs.find? fun r => decide (r.firstBlock ≤ b) && decide (b < r.firstBlock + blocksOfLayer r)).map fun r =>
    (r, b - r.firstBlock)

/-- The blocks of an image homed in one stack, ascending. -/
def homedIn (i : LayoutImage) (stack : Nat) : List Nat :=
  (i.homes.filter fun h => decide (h.2 = stack)).map (·.1)

/-- Bytes that a list of blocks takes in an OWNER bank. -/
def ownerSpan (i : LayoutImage) (bs : List Nat) : Nat :=
  (bs.map fun b => match layerIn (layersOf i) b with | some p => ownerBytes p.1 | none => 24704).sum

/-- The most bytes of an OWNER bank, or of REDUCE, that any stack is home to. -/
def maxOwner (s : State) : Nat :=
  match s.place.inForce with
  | none => 0
  | some i => (List.range 32).foldl (fun a m => max a (ownerSpan i (homedIn i m))) 0

def maxReduce (s : State) : Nat :=
  match s.place.inForce with
  | none => 0
  | some i => (List.range 32).foldl (fun a m => max a (24640 * (homedIn i m).length)) 0

/-- The home stack of an owned block (R256). -/
def homeStack (s : State) (b : Nat) : Nat :=
  match s.place.inForce with
  | none => 0
  | some i => match i.homes.find? fun h => decide (h.1 = b) with | some h => h.2 | none => 0

/-- The layer records of the tensors of the member that this one shadows. -/
def shadowRecords (s : State) : List LayerRec :=
  match s.grp.shadowed, s.place.inForce with
  | some k, some i => (layersOf i).filter fun l => i.owners.any fun e => decide (e.1 = l.tensor) && decide (e.2 = k)
  | _, _ => []

/-- The home stack of a shadowed block: the stripe set in rotation.
Log entry 124 (DESIGN CHOICE). -/
def shadowHome (s : State) (b : Nat) : Nat := nth 0 s.mem.stripe (b % max 1 s.mem.stripe.length)

/-- The shadowed blocks homed in one stack, ascending, and the bytes of each. -/
def shadowIn (s : State) (stack : Nat) : List (Nat × Nat) :=
  ((shadowRecords s).flatMap fun l => (rangeFrom l.firstBlock (l.firstBlock + blocksOfLayer l)).map fun b =>
    (b, ownerBytes l)).filter fun e => decide (shadowHome s e.1 = stack)

/-- The most bytes of SHADOW that any stack is home to. -/
def maxShadow (s : State) : Nat :=
  if s.grp.shadowed.isNone then 0
  else (List.range 32).foldl (fun a m => max a ((shadowIn s m).map (·.2)).sum) 0

/-- The regions of Table 8.2 in carve order, bytes per stack: SYSTEM, LANDING, WINDOW, STASH, KV, OWNER_A, OWNER_B,
REDUCE, SHADOW. -/
def regionShares (s : State) : List Nat :=
  [2 ^ 20 * toMib (ceilDiv (s.mem.systemGib * 2 ^ 30) 16), stripedShare s (landingBytes s),
   stripedShare s (s.stream.windowGib * 2 ^ 30), stripedShare s (s.mem.stashGib * 2 ^ 30),
   stripedShare s (s.mem.kvGib * 2 ^ 30), 2 ^ 20 * toMib (maxOwner s), 2 ^ 20 * toMib (maxOwner s),
   2 ^ 20 * toMib (maxReduce s), 2 ^ 20 * toMib (maxShadow s)]

/-- What the banks, SHADOW and REDUCE hold of blocks homed in some stacks is gone. -/
def loseHomed (gone : List Nat) (s : State) : State :=
  let stays (b : Nat) : Bool := !gone.contains (homeStack s b)
  { s with red := { s.red with
      bankA := mapFilter (fun b _ => stays b) s.red.bankA
      bankB := mapFilter (fun b _ => stays b) s.red.bankB
      shadow := mapFilter (fun b _ => !gone.contains (shadowHome s b)) s.red.shadow } }

/-- The carved base of region `i` of Table 8.2. -/
def regionBase (s : State) (i : Nat) : Nat := ((regionShares s).take i).sum

/-- The region in which an in-stack address lies; 9 beyond the carve. -/
def regionOf (s : State) (addr : Nat) : Nat :=
  ((List.range 9).filter fun i => decide (regionBase s (i + 1) ≤ uncarvedAddr s addr)).length

/-- The capacity that serves (R258, R261): 36 GiB per stack of the stripe set less the excluded spans. -/
def hbmBytes (s : State) : Nat :=
  s.mem.stripe.length * (stackBytes - 2 ^ 20 * (excludedSpans s).length)

/-- The whole carve in bytes. -/
def carveBytes (s : State) : Nat := (regionShares s).sum * s.mem.stripe.length

/-- GiB by which the carve exceeds HBM_BYTES, rounded up (0x0402); 0 where it fits. -/
def carveShort (s : State) : Nat := ceilDiv (carveBytes s - hbmBytes s) (2 ^ 30)

end Sys2Proof.Machine
end

