-- ==== Sys2Proof/Machine/Records.lean ====
section
/-! DEFINITION. What the module writes for others to read: fault records (R551), events (R408), ring entries and
replies (R400 to R407), boot and step journal entries (R429, R515); and the requests that start a hold or a rollback
(R41, R485). -/

namespace Sys2Proof.Machine

/-! ## Fault records (R551, Table 19.7) -/

/-- The record index after `head`, in ring order 0 to 255. -/
def nextRecord (head : Nat) : Nat := if head = 0xFFFF then 0 else (head + 1) % 256

/-- Write a fault record: the next index whether or not that record is still valid, OVERFLOW where it is. -/
def recordFault (r : FaultRec) (s : State) : State :=
  let i := nextRecord s.fault.head
  let old := mapGet {} s.fault.records i
  let rec' := { r with valid := true, overflow := old.valid, tick := s.tick.tickCount, step := s.tick.step
                       roll := s.red.roll, time := moduleTime s }
  { s with fault := { records := mapSet {} s.fault.records i rec', head := i }
           grp := { s.grp with newFaults := min 0xFFFF (s.grp.newFaults + 1) } }

/-- Records with VALID set (FAULT.VALID_COUNT). -/
def validCount (s : State) : Nat := (s.fault.records.filter fun e => e.2.valid).length

/-- Clear the VALID bit of a record (R551). -/
def clearRecord (i : Nat) (s : State) : State :=
  { s with fault := { s.fault with records := mapUpd {} s.fault.records i fun r => { r with valid := false } } }

/-! ## Ring entries (R399 to R406) -/

/-- Entries between HEAD and TAIL, modulo 2^16. -/
def ringHeld (r : RingS) : Nat := (r.tail + 65536 - r.head) % 65536

/-- Entries of a ring. -/
def ringSize (r : RingS) : Nat := 2 ^ r.order

/-- Entries neither held nor reserved. -/
def ringFree (r : RingS) : Nat := ringSize r - ringHeld r - r.reserved

/-- The SYSTEM offset of the RCB table: it stands first in SYSTEM.
Log entry 27 (DESIGN CHOICE). -/
def rcbOffset (n : Nat) : Nat := 64 * n

/-- Store a ring and write its control block (R400). -/
def setRing (n : Nat) (r : RingS) (s : State) : State :=
  systemWrite (rcbOffset n) (encodeRcb r) { s with host := { s.host with rings := mapSet {} s.host.rings n r } }

/-- Send the notice of R403 when one is due and the last is at least 10 µs old.
Log entry 13 (DESIGN CHOICE). -/
def ringNotice (n : Nat) (s : State) : State :=
  let r := ringS s n
  if r.notifyAddr = 0 then s else
  match r.notified with
  | none => emit (.notice n r.tail) (setRing n { r with notified := some s.now, noticeDue := false } s)
  | some t0 =>
    if t0 + 10000 ≤ s.now then
      emit (.notice n r.tail) (setRing n { r with notified := some s.now, noticeDue := false } s)
    else setRing n { r with noticeDue := true } s

/-- Write one entry at TAIL and advance TAIL. -/
def ringEntry (n : Nat) (bs : List Byte) (s : State) : State :=
  let r := ringS s n
  let s1 := systemWrite (r.base + r.tail % ringSize r * 2 ^ r.entryShift) (bs.take (2 ^ r.entryShift)) s
  setRing n { r with tail := (r.tail + 1) % 65536 } s1

/-- A status record and its body cut into entries of `size` bytes; continuations repeat the record with CONT set and
LENGTH giving what remains (R406). The first argument bounds the entries. -/
def cutReply (size : Nat) : Nat → StatusRec → List Byte → List (List Byte)
  | 0, _, _ => []
  | k + 1, r, body =>
    let room := size - 16
    (encodeStatus { r with length := body.length } ++ body.take room) ::
      (if body.length ≤ room then [] else cutReply size k { r with cont := true } (body.drop room))

/-- The entries of a reply or event on entries of `size` bytes. -/
def replyEntries (size : Nat) (r : StatusRec) (body : List Byte) : List (List Byte) :=
  cutReply size (body.length + 1) r body

/-- How many entries a body takes. -/
def entriesFor (shift bodyLen : Nat) : Nat := max 1 (ceilDiv bodyLen (2 ^ shift - 16))

/-- Write a reply's entries to a completion ring, then the notice. -/
def ringReply (n : Nat) (r : StatusRec) (body : List Byte) (s : State) : State :=
  ringNotice n (each (replyEntries (2 ^ (ringS s n).entryShift) r body) (ringEntry n) s)

/-! ## Events (R408, Table 13.7) -/

/-- The 24 bytes that every event body begins with. -/
def eventBody (s : State) : List Byte :=
  bytesLE 8 (moduleTime s) ++ bytesLE 6 s.tick.tickCount ++ bytesLE 5 s.tick.step ++ bytesLE 2 (selfIndex s) ++
    bytesLE 3 0

/-- Write an event to one event ring, or count it lost. -/
def eventToRing (r : StatusRec) (body : List Byte) (n : Nat) (s : State) : State :=
  let ring := ringS s n
  if entriesFor ring.entryShift body.length ≤ ringFree ring then ringReply n r body s
  else setRing n { ring with lost := ring.lost + 1 } s

/-- The event rings that take an event of context `ctx`: bound to it or to 0xFF. -/
def eventRings (s : State) (ctx : Nat) : List Nat :=
  (s.host.rings.filter fun e => decide (e.2.kind = 3) && (decide (e.2.ctx = ctx) || decide (e.2.ctx = 0xFF))).map
    (·.1)

/-- Raise an event of context `ctx` with a detail body (R408); the sideband signals it while events are enabled
(R535). -/
def eventCtx (ctx code detail : Nat) (body : List Byte) (s : State) : State :=
  let r : StatusRec := { status := code, detail := detail % 65536, seq := s.host.eventNumber % 2 ^ 32, length := 0
                         ring := 0xFFFF, event := true, cont := false, final := true, ctx := ctx }
  let s1 := each (eventRings s ctx) (eventToRing r (eventBody s ++ body)) s
  { s1 with host := { s1.host with eventNumber := s1.host.eventNumber + 1 }
            side := if s1.side.eventsOn && !s1.side.i2c then { s1.side with irq := s1.side.irq + 1 } else s1.side }

/-- A module-level event without detail body. -/
def event (code detail : Nat) (s : State) : State := eventCtx 0xFF code detail [] s

/-- When room returns on an event ring, one EVENTS_LOST event with the count, and LOST is cleared (R408). -/
def eventsLost (n : Nat) (s : State) : State :=
  let ring := ringS s n
  if ring.kind = 3 ∧ ring.lost ≠ 0 ∧ entriesFor ring.entryShift 24 ≤ ringFree ring then
    let r : StatusRec := { status := 0x8013, detail := min ring.lost 0xFFFF, seq := s.host.eventNumber % 2 ^ 32
                           length := 0, ring := 0xFFFF, event := true, cont := false, final := true, ctx := ring.ctx }
    let s1 := ringReply n r (eventBody s) (setRing n { ring with lost := 0 } s)
    { s1 with host := { s1.host with eventNumber := s1.host.eventNumber + 1 } }
  else s

/-- A fault record with its FAULT event (0x8012), whose DETAIL is the record's index. -/
def faultEvent (r : FaultRec) (s : State) : State :=
  let s1 := recordFault r s
  event 0x8012 s1.fault.head s1

/-- A POWER event with its cause, the field, stack or value concerned in the detail body (R473). -/
def powerEvent (cause what : Nat) (s : State) : State := eventCtx 0xFF 0x8010 cause (bytesLE 8 what) s

/-- A FIELD_STATE event: 256 × state + field, the cause byte in the detail body (R473). -/
def fieldEvent (state f cause : Nat) (s : State) : State := eventCtx 0xFF 0x800A (256 * state + f) (bytesLE 1 cause) s

/-- A MEMBERSHIP event naming 64 × group + member (R479). -/
def memberEvent (index : Nat) (s : State) : State := event 0x8014 index s

/-! ## Replies (R404 to R407) -/

/-- Drop the kept replies that R396 no longer holds for a source: beyond 32 or older than 60 s.
Log entry 44 (DESIGN CHOICE). -/
def keepReplies (now source : Nat) (ks : List KeptReply) : List KeptReply :=
  let live := ks.filter fun k => decide (now < k.at_ + 60000000000)
  let mine := live.filter fun k => decide (k.source = source)
  let others := live.filter fun k => decide (k.source ≠ source)
  others ++ mine.drop (mine.length - 31)

/-- Add entries to the kept reply of a source's SEQ (R396). -/
def keepReply (source seq : Nat) (es : List (List Byte)) (s : State) : State :=
  let old := (s.host.kept.find? fun k => decide (k.source = source) && decide (k.seq = seq))
  let entries := match old with | none => es | some k => k.reply ++ es
  let rest := s.host.kept.filter fun k => !(decide (k.source = source) && decide (k.seq = seq))
  { s with host := { s.host with
      kept := keepReplies s.now source rest ++ [{ source := source, seq := seq, at_ := s.now, reply := entries }] } }

/-- Is the network on which a datagram's source was last heard not lost (R391)? -/
def sourceHeard (s : State) (source : Nat) : Bool := !s.host.netLost.contains (mapGet 0 s.host.sourcePorts source / 4)

/-- Reply to a command (R406): to its ring's completion ring, its datagram's source, or the sideband mailbox. QUIET
drops a reply of status 0x0000. A FINAL reply ends the packet's place among the ring's outstanding ones; one for a ring
that is no more is lost. -/
def reply (h : CmdHdr) (status detail : Nat) (body : List Byte) (final : Bool) (s : State) : State :=
  let r : StatusRec := { status := status, detail := detail % 65536, seq := h.seq.toNat, length := 0
                         ring := match h.origin with | .ring n => n.val | _ => 0xFFFF
                         event := false, cont := false, final := final, ctx := h.ctx.toNat }
  let silent := h.quiet && decide (status = 0)
  match h.origin with
  | .ring n =>
    let ring := ringS s n.val
    let s1 := if final then setRing n.val { ring with outstanding := ring.outstanding - 1 } s else s
    if silent || decide (ring.kind ≠ 1) then s1 else ringReply ring.cq r body s1
  | .datagram source =>
    if silent then keepReply source h.seq.toNat [] s else
    let es := replyEntries 4096 r body
    let s1 := keepReply source h.seq.toNat es s
    if sourceHeard s source then emitAll (es.map fun e => Msg.datagram source e) s1 else s1
  | .sideband =>
    if silent then (if final then { s with side := { s.side with mailbox := none } } else s) else
    { s with side := { s.side with reply := replyEntries 4096 r body, replyReady := final
                                   irq := if s.side.i2c then s.side.irq else s.side.irq + 1 } }
  | .distributed => s

/-- An immediate command's one reply. -/
def done (h : CmdHdr) (body : List Byte) (s : State) : State := reply h 0 0 body true s

/-- A refusal: nothing takes effect, and the status is returned. -/
def refuse (h : CmdHdr) (status detail : Nat) (s : State) : State := reply h status detail [] true s

/-- A deferred command is accepted: 0x0001 without FINAL, and its FINAL reply is owed (R406). -/
def defer (h : CmdHdr) (b : CmdBody) (s : State) : State :=
  let s1 := reply h 1 0 [] false s
  { s1 with host := { s1.host with deferred := s1.host.deferred ++ [{ hdr := h, body := b }] } }

/-- Give the FINAL reply of every deferred command whose body `p` picks, and take them off the list. -/
def finish (p : CmdBody → Bool) (status detail : Nat) (body : List Byte) (s : State) : State :=
  let mine := s.host.deferred.filter fun d => p d.body
  let s1 := { s with host := { s.host with deferred := s.host.deferred.filter fun d => !p d.body } }
  each mine (fun d => reply d.hdr status detail body true) s1

/-! ## Measurements (R425) -/

/-- Extend a measurement register: SHA-384 of the register followed by the value. -/
def extendMeas (n : Nat) (value : List Byte) (s : State) : State :=
  let m := Config.sha384 (bytesLE 48 (mapGet 0 s.boot.meas n) ++ value) % 2 ^ 384
  { s with boot := { s.boot with meas := mapSet 0 s.boot.meas n m } }

/-! ## Journals (R429, R515) -/

/-- The entries that are written again at the head before the oldest sector is erased: the latest ACTIVATE, DEFECT and
RETRY, and per slot the latest VERIFIED and SLOT_WRITTEN, in journal order (R429). -/
def restated (js : List JournalEntry) : List JournalEntry :=
  let kinds : List (Nat × Option Bool) :=
    [(0x20, none), (0x21, some false), (0x21, some true), (0x22, some false), (0x22, some true), (0x23, none), (0x24, none)]
  let isKind (k : Nat × Option Bool) (e : JournalEntry) : Bool :=
    decide (e.step = k.1) && (match k.2 with | none => true | some b => decide (e.slotB = b))
  let lasts := kinds.filterMap fun k => (js.zipIdx.filter fun e => isKind k e.1).getLast?
  (js.zipIdx.filter fun e => lasts.contains e).map (·.1)

/-- Write an entry: the journal holds 65,536, and the oldest sector of 1,024 goes when there is no room. -/
def journalPush (e : JournalEntry) (s : State) : State :=
  let js := s.flash.journal
  if js.length + 8 ≤ 65536 then { s with flash := { s.flash with journal := js ++ [e] } }
  else { s with flash := { s.flash with journal := (js ++ restated js).drop 1024 ++ [e]
                                        journalBase := s.flash.journalBase + 1024 } }

/-- A journal entry of the start in hand. -/
def journalEntry (step result code : Nat) (slotB : Bool) (data : Nat) (s : State) : State :=
  journalPush { start := s.boot.start % 2 ^ 24, step := step, result := result, slotB := slotB
                recovery := decide (s.boot.state = .recovery), code := code
                timeMs := (s.now - s.boot.startAt) / 1000000 % 65536, data := data } s

/-- The latest journal entry of a step code.
Log entry 35 (DEDUCED). -/
def lastEntry (s : State) (step : Nat) : Option JournalEntry :=
  s.flash.journal.reverse.find? fun e => decide (e.step = step)

/-- Write a step journal entry (R515): the ring keeps the newest JOURNAL_ENTRIES. -/
def stepJournal (kind step cause source : Nat) (s : State) : State :=
  let e : StepEntry :=
    { step := step, roll := s.red.roll, kind := kind, degraded := s.place.degraded
      fallback := match s.place.inForce with | some i => decide (i.kind ≠ 0) | none => false
      tick := s.tick.tickCount, epoch := s.stream.epochA, time := moduleTime s, seed := (mapGet {} s.red.params step).seed
      layoutId := match s.place.inForce with | some i => i.layoutId | none => 0
      members := s.grp.mask, field := match s.place.inForce with | some i => i.field | none => 0xFF
      cause := cause, slips := (mapGet {} s.red.params step).slips, source := source, repaired := s.grp.repaired, marked := s.grp.marked }
  let all := s.snap.journal ++ [e]
  { s with snap := { s.snap with journal := all.drop (all.length - s.snap.journalEntries) } }

/-! ## Holds and rollback requests (R41, R412, R485) -/

/-- Put a hold cause in force and raise its HELD event (0x8004).
Log entry 77 (DEDUCED). -/
def holdFor (cause : Nat) (s : State) : State :=
  let s1 := { s with job := { s.job with holds := if s.job.holds.contains cause then s.job.holds
                                                  else s.job.holds ++ [cause], held := true } }
  event 0x8004 cause s1

/-- Request a rollback of a cause of Table 16.2 (R485): held at the job lead, sent to it from elsewhere. No job, no
rollback. -/
def requestRollback (cause : Nat) (s : State) : State :=
  if !s.job.started then s
  else if isJobLead s then
    { s with grp := { s.grp with requests := s.grp.requests ++ [({ cause := cause, source := selfIndex s }, s.now)] } }
  else emit (.rollbackRequest cause (selfIndex s)) s

/-- A fault that rolls the job back: the record, then the request. -/
def rollFault (r : FaultRec) (cause : Nat) (s : State) : State := requestRollback cause (faultEvent r s)

end Sys2Proof.Machine
end

