-- ==== Sys2Proof/Machine/Members.lean ====
section
/-! DEFINITION. The state of a member as its lead keeps it (R479 to R483), and the loss of a member (R478). -/

namespace Sys2Proof.Machine

/-- A change of a member's state, with its MEMBERSHIP event (R479). -/
def setMemberState (index : Nat) (st : MemberState) (s : State) : State :=
  let m := memberS s index
  if m.state = st then s else memberEvent index (setMember index { m with state := st } s)

/-- A standby lead that is lost or excluded leaves that role, which the lead reports as a fault, and the lead has another
named (R22, R480). -/
def leaveRoles (index : Nat) (s : State) : State :=
  if s.job.standbyMember.map (fun m => 64 * s.job.group + m) = some index then
    faultEvent { cls := 10, code := 2, detail := index } { s with grp := { s.grp with standbyLost := true } }
  else s

/-- A member is lost: the rollback of cause MODULE_LOST (R478). One that is out already stays as it is. -/
def loseMember (index : Nat) (s : State) : State :=
  match (memberS s index).state with
  | .active | .draining => requestRollback 1 (leaveRoles index (setMemberState index .lost s))
  | _ => s

/-- A member is excluded in the rollback of cause `cause` (R483). -/
def excludeMember (index cause : Nat) (s : State) : State :=
  match (memberS s index).state with
  | .active | .draining => requestRollback cause (leaveRoles index (setMemberState index .excluded s))
  | _ => s

end Sys2Proof.Machine
end

