-- ==== Sys2Proof/Machine/Peers.lean ====
section
/-! DEFINITION. Lanes in service, the routes between modules and what a lane takes to send (R337 to R340, R344, R349 to
R354). -/

namespace Sys2Proof.Machine

/-! ## Lanes (R337 to R340) -/

/-- The field of a channel. -/
def laneField (c : Nat) : Nat := c / 16

/-- A stream lane by its number: L00 and L01 always, L08 to L15 never (R339). -/
def isStreamLane (s : State) (c : Nat) : Bool :=
  decide (c % 16 < 2) || (decide (c % 16 < 8) && decide (c % 16 < s.fabric.size.streamLanes))

/-- Is a channel in service: trained, not retired, its field not dark? -/
def laneIn (s : State) (c : Nat) : Bool :=
  (laneS s c).trained && !(laneS s c).retired && !isDark s (laneField c)

/-- The far end of a channel. -/
def farEnd (s : State) (c : Nat) : Identity := decodeIdentity (laneS s c).identity

/-- Does a channel lead to a peer module? -/
def toPeer (s : State) (c m : Nat) : Bool :=
  !isStreamLane s c && decide ((farEnd s c).role ≤ 1) && decide ((farEnd s c).module = m)

/-- The peer channels to a module, ascending by field and lane; those in service only (R349). -/
def wiredTo (s : State) (m : Nat) : List Nat := (List.range 1344).filter fun c => toPeer s c m
def channelsTo (s : State) (m : Nat) : List Nat := (wiredTo s m).filter (laneIn s)

/-- The engine that drives a channel (R337, R356). -/
def engineOf (s : State) (c : Nat) : Nat :=
  match mapGet 0 s.beam.remap c with
  | 0 => c % 16
  | e + 1 => e

/-! ## Peer routes (R349, R350, R353) -/

/-- The modules of the job. -/
def jobModules (s : State) : List Nat :=
  (List.range s.job.groups).flatMap fun g => (List.range s.job.members).map fun m => 64 * g + m

/-- Direct channels between two other modules. -/
def farCount (s : State) (a b : Nat) : Nat :=
  match s.beam.far.find? fun e => (decide (e.1 = a) && decide (e.2.1 = b)) || (decide (e.1 = b) && decide (e.2.1 = a)) with
  | some e => e.2.2
  | none => 0

/-- The relay toward a module: direct channels to both ends, the most to the destination, then the lower index. -/
def relayFor (s : State) (direct : List (Nat × Nat)) (m : Nat) : Option (Nat × Nat) :=
  (direct.filter fun e => decide (0 < farCount s e.1 m)).foldl (fun best e =>
    match best with
    | none => some e
    | some b => if farCount s b.1 m < farCount s e.1 m then some e else best) none

/-- Channels between two modules of the job, either of which may be this one. -/
def linksOf (s : State) (a b : Nat) : Nat :=
  if a = selfIndex s then (channelsTo s b).length
  else if b = selfIndex s then (channelsTo s a).length else farCount s a b

/-- Does this module carry the path from `a` to `b`: no channel joins them, and it is the relay that R350 names? -/
def relays (s : State) (a b : Nat) : Bool :=
  let me := selfIndex s
  let mine := linksOf s me b
  decide (linksOf s a b = 0) && decide (0 < mine) && decide (0 < linksOf s me a) &&
    (jobModules s).all fun x =>
      decide (x = a) || decide (x = b) || decide (x = me) || decide (linksOf s a x = 0) || decide (linksOf s x b < mine) ||
        (decide (linksOf s x b = mine) && decide (me < x))

/-- The far ends of the paths over this module that reach or leave module `m`. -/
def pathEnds (s : State) (m : Nat) : List Nat :=
  (jobModules s).filter fun b =>
    decide (b ≠ m) && decide (b ≠ selfIndex s) && (relays s m b || relays s b m)

/-- An entry of the peer route table (R349). -/
def peerEntry (direct : Bool) (nextMod count : Nat) : Nat := pack [(1, 1), (1, b2n direct), (10, nextMod), (11, count)]

/-- The modules with channels in service, and how many, ascending. -/
def directModules (s : State) : List (Nat × Nat) :=
  (jobModules s).filterMap fun m =>
    let n := (channelsTo s m).length
    if m ≠ selfIndex s ∧ 0 < n then some (m, n) else none

/-- A module that cannot be reached goes to the lead; at the lead a member of its group is lost (R350, R478). -/
def reportUnreachable (m : Nat) (s : State) : State :=
  let s1 := faultEvent { cls := 10, code := 1, detail := m } s
  if isLead s1 then (if m / 64 = s1.job.group then loseMember m s1 else s1) else emit (.unreachable m) s1

/-- The entry for a module, given the modules with direct channels. -/
def entryTo (s : State) (direct : List (Nat × Nat)) (m : Nat) : Nat :=
  match direct.find? fun e => decide (e.1 = m) with
  | some e => peerEntry true m e.2
  | none => match relayFor s direct m with
    | some r => peerEntry false r.1 r.2
    | none => 0

/-- Build the peer route table; a module that has become unreachable is reported. -/
def buildPeerRoutes (s : State) : State :=
  if !s.job.started then s else
  let direct := directModules s
  let others := (jobModules s).filter fun m => decide (m ≠ selfIndex s)
  let routes : Map Nat := others.foldl (fun t m => mapSet 0 t m (entryTo s direct m)) []
  let lost := others.filter fun m => decide (mapGet 0 routes m = 0) && decide (mapGet 0 s.beam.routes m ≠ 0)
  each lost reportUnreachable { s with beam := { s.beam with routes := routes } }

/-- The channel that a packet to a module takes, by the inner header's source block and tag (R349). -/
def peerLane (s : State) (m srcBx srcBy tag : Nat) : Option Nat :=
  let e := mapGet 0 s.beam.routes m
  let cs := channelsTo s (field e 2 10)
  if !bitAt e 0 || cs.isEmpty then none else some (nth 0 cs ((srcBx + srcBy + tag) % min cs.length (max 1 (field e 12 11))))

/-- By how much the lead delays its send on each channel to a member or another group's module: the largest DELAY over the
group less the channel's own (R371). -/
def sendDelays (s : State) : List (Nat × Nat) :=
  if s.job.members ≤ 1 ∧ s.job.groups ≤ 1 then []
  else
    let cs := (List.range 1344).filter fun c => laneIn s c && !isStreamLane s c && decide ((farEnd s c).role ≤ 1)
    let most := (cs.filter fun c => decide ((farEnd s c).module / 64 = s.job.group)).foldl
      (fun m c => max m (laneS s c).delay) 0
    cs.map fun c => (c, most - (laneS s c).delay)

/-! ## Control fields sent (R231, R341, R343, R344, R346) -/

/-- A message's chunks wait for the lane. -/
def queueChunks (c rank kind : Nat) (chunks : List Nat) (s : State) : State :=
  if chunks.isEmpty then s
  else
    let l := laneS s c
    setLane c { l with tx := l.tx ++ [{ rank := rank, kind := kind, chunks := chunks }] } s

/-- A link-management message's chunks wait for the lane. -/
def queueManage (c sort v : Nat) (s : State) : State :=
  queueChunks c 0 4 ((Config.linkChunks sort v).map (·.toNat)) s

/-- A 48-byte marker's six chunks (R346). -/
def queueMarker (c raw : Nat) (s : State) : State :=
  queueChunks c 1 3 ((List.range 6).map fun i => field raw (64 * i) 64) s

/-- The group that the next chunk comes from (R343): link management, then the header or marker that has begun, then the
first kind in the order. -/
def nextGroup (tx : List TxGroup) : Option TxGroup :=
  match tx.find? fun g => decide (g.rank = 0) with
  | some g => some g
  | none => match tx.find? fun g => g.begun with
    | some g => some g
    | none => match tx.find? fun g => decide (g.rank = 1) with
      | some g => some g
      | none => match tx.find? fun g => decide (g.rank = 2) with
        | some g => some g
        | none => tx.head?

/-- The groups with one chunk of a group gone. -/
def dropChunk (g : TxGroup) : List TxGroup → List TxGroup
  | [] => []
  | x :: xs =>
    if x ≠ g then x :: dropChunk g xs
    else if x.chunks.length ≤ 1 then xs
    else { x with begun := true, chunks := x.chunks.drop 1 } :: xs

/-- A codeword leaves on a lane: its control field carries CREDIT, one chunk, and GLINT where its data are glint data
(Table 11.3).
Log entry 120 (DESIGN CHOICE). -/
def sendCodeword (c : Nat) (s : State) : State :=
  let l := laneS s c
  let credit := min 255 l.creditOwed
  let head (kind content : Nat) : Nat :=
    pack [(64, content), (8, credit), (4, 0), (3, kind), (1, b2n (decide (l.glintOut ≠ 0)))]
  let (w, tx) := match nextGroup l.tx with
    | none => (head 0 0, l.tx)
    | some g => (head g.kind (nth 0 g.chunks 0), dropChunk g l.tx)
  emit (.control c w) (setLane c { l with
    creditOwed := l.creditOwed - credit, glintOut := l.glintOut - 80, tx := tx, sentCount := l.sentCount + 1
    kept := (l.kept ++ [w]).drop (l.kept.length - 127) } s)

/-- The codewords that a NAK asks for: of the last 128, those from the one its count names on (R342). -/
def resendFrom (l : LaneS) (n : Nat) : List Nat :=
  l.kept.drop (l.kept.length - (l.sentCount + 65536 - n % 65536) % 65536)

/-! ## Sending on a lane (R86, R344, R354, R355) -/

/-- Items of the far queue that a packet takes: 128 bytes each, beam header included (R230).
Log entry 81 (DEDUCED). -/
def packetItems (p : Flits) : Nat := ceilDiv (32 + p.payload.length) 128

/-- 64-bit words of the far glint queue that a packet takes. -/
def packetWords (p : Flits) : Nat := 2 * (2 + ceilDiv p.payload.length 16)

def isGlintPacket (p : Flits) : Bool := decide ((decodeFlit p.header.toNat).type = 6)

/-- May a packet begin on the lane: in service, not retraining, a credit of its far queue left? -/
def laneFree (l : LaneS) (p : Flits) : Bool :=
  !l.retraining && !l.retired && (if isGlintPacket p then decide (l.glintSpent < 256) else decide (l.spent < 512))

/-- Put a packet on a lane. -/
def putOnLane (c header : Nat) (p : Flits) (s : State) : State :=
  let l := laneS s c
  let l1 := if isGlintPacket p then { l with glintSpent := l.glintSpent + packetWords p, glintOut := l.glintOut + packetWords p }
    else { l with spent := l.spent + packetItems p }
  count cPeerOut (32 + p.payload.length) (emit (.beam c header p) (setLane c l1 s))

/-- Send what waits on a lane while credits last. The first argument bounds the packets. -/
def drainLane (c : Nat) : Nat → State → State
  | 0, s => s
  | n + 1, s =>
    let l := laneS s c
    match l.waiting with
    | [] => s
    | (h, p) :: rest =>
      if laneFree l p then drainLane c n (putOnLane c h p (setLane c { l with waiting := rest } s)) else s

def drainAll (c : Nat) (s : State) : State := drainLane c (laneS s c).waiting.length s

/-- Send a packet on a lane behind what waits there. -/
def laneSend (c header : Nat) (p : Flits) (s : State) : State :=
  let l := laneS s c
  drainAll c (setLane c { l with waiting := l.waiting ++ [(header, p)] } s)

/-- The beam header of a packet to a module (R350: RELAY starts at 2). -/
def beamHeader (s : State) (dest relay : Nat) (p : Flits) : Nat :=
  encodeBeamHdr { kind := 1, destMod := dest, srcMod := selfIndex s, relay := relay
                  flits := 1 + ceilDiv p.payload.length 16, jobTag := s.job.tag }

end Sys2Proof.Machine
end

