-- ==== Sys2Proof/Machine/Units.lean ====
section
/-! DEFINITION. Units, tasks and contexts (chapters 03 to 05): the unit map and summaries, spreading a task to core
queues, dispatch, scoreboard arrivals, task faults, check errors and replay, and the clearing of a rollback. -/

namespace Sys2Proof.Machine

/-! ## The unit map (R91 to R97) -/

/-- The unit map entry of an identifier; 0xFFFF reads as unused (R96). -/
def entryOf (s : State) (u : Nat) : MapEntry :=
  if u = 0xFFFF then {} else decodeMapEntry (mapGet 0 s.fabric.unitMap u)

/-- The children of a composite, in row-major order (R91). -/
def childrenOf (e : MapEntry) : List Nat := rangeFrom e.target (e.target + (e.cw + 1) * (e.ch + 1))

/-- The physical blocks of a unit's leaves, children in row-major order. The first argument bounds the levels
(R91: at most 16). -/
def leavesIn (s : State) : Nat → Nat → List Nat
  | 0, _ => []
  | n + 1, u =>
    let e := entryOf s u
    if e.kind = 1 then [e.target]
    else if e.kind = 2 then (childrenOf e).flatMap (leavesIn s n) else []

def leavesOf (s : State) (u : Nat) : List Nat := leavesIn s 16 u

/-- The anchor block: first children down to a leaf (R92). -/
def anchorIn (s : State) : Nat → Nat → Option Nat
  | 0, _ => none
  | n + 1, u =>
    let e := entryOf s u
    if e.kind = 1 then some e.target else if e.kind = 2 then anchorIn s n e.target else none

def anchorOf (s : State) (u : Nat) : Option Nat := anchorIn s 16 u

/-- The leaf that names a physical block; 0xFFFF where none does. -/
def leafOf (s : State) (block : Nat) : Nat :=
  match s.fabric.unitMap.find? fun e => decide (field e.2 0 2 = 1) && decide (field e.2 22 16 = block) with
  | some e => e.1
  | none => 0xFFFF

/-- The identifiers in use, ascending. -/
def unitsOf (s : State) : List Nat := (s.fabric.unitMap.filter fun e => decide (field e.2 0 2 ≠ 0)).map (·.1)

/-! ## Scoreboard summaries (R93) -/

def leafOutstanding (s : State) (block : Nat) : Nat := mapGet 0 s.fabric.outstanding block

/-- OUTSTANDING of a unit: the sum over its leaves, saturating at 2^24 − 1. -/
def outstandingOf (s : State) (u : Nat) : Nat := min (2 ^ 24 - 1) ((leavesOf s u).map (leafOutstanding s)).sum

/-- DONE of a unit: OUTSTANDING is zero. -/
def doneOf (s : State) (u : Nat) : Bool := (leavesOf s u).all fun b => decide (leafOutstanding s b = 0)

/-- ERROR of a unit: any leaf has reported a mismatch or parity error in the current slot. -/
def errorOf (s : State) (u : Nat) : Bool := (leavesOf s u).any fun b => mapGet false s.fabric.unitError b

/-- Every unit's summary shows DONE with OUTSTANDING zero (R98). -/
def allDone (s : State) : Bool := s.fabric.outstanding.isEmpty

def addOutstanding (block n : Nat) (s : State) : State :=
  { s with fabric := { s.fabric with
      outstanding := mapUpd 0 s.fabric.outstanding block fun v => min (2 ^ 24 - 1) (v + n) } }

def subOutstanding (block n : Nat) (s : State) : State :=
  { s with fabric := { s.fabric with outstanding := mapUpd 0 s.fabric.outstanding block fun v => v - n } }

def setUnitError (block : Nat) (b : Bool) (s : State) : State :=
  { s with fabric := { s.fabric with unitError := mapSet false s.fabric.unitError block b } }

/-! ## Contexts and core queues -/

/-- Is a block in the enabled set (R68)? -/
def isEnabled (s : State) (b : Nat) : Bool := decide (b < 53760) && !s.fabric.outBlocks.contains b

/-- Does a core run: its field lit (Table 3.8), and its block enabled, else it is clock-gated and power-gated (R68)? -/
def coreOn (s : State) (key : Nat) : Bool := isLit s (key / 16 / 640) && isEnabled s (key / 16)

def ctxS (s : State) (key c : Nat) : CtxS := mapGet {} (coreS s key).ctxs c

def updCtx (key c : Nat) (f : CtxS → CtxS) (s : State) : State :=
  updCore key (fun o => { o with ctxs := mapUpd {} o.ctxs c f }) s

/-- A SLACK task that has not been promoted (R128). -/
def taskSlack (t : QTask) : Bool := t.desc.slack && t.promoted.isNone

/-- The slot a task counts in: the slot it was promoted into, else its descriptor's. -/
def taskSlot (t : QTask) : Nat := t.promoted.getD t.desc.slot

/-- Two copies of one task. -/
def sameTask (a b : QTask) : Bool :=
  decide (a.desc = b.desc) && decide (a.r1 = b.r1) && decide (a.r2 = b.r2) && decide (a.extra = b.extra)

/-- The tasks running on a core. -/
def runningTasks (o : CoreS) : List QTask := o.ctxs.filterMap fun e => e.2.task

/-- Does a core run glow load: its field has some, and no task is queued or running (R451)? -/
def coreGlows (s : State) (key : Nat) : Bool :=
  let o := coreS s key
  decide (0 < (fieldPower s (key / 16 / 640)).glow) && o.queue.isEmpty && (runningTasks o).isEmpty

/-- Enter a copy in its core's queue (R125): from then on it counts at its own leaf. A copy for a core that does not run is
discarded and counted (R106, R107).
Log entry 103 (DESIGN CHOICE). -/
def pushTask (key : Nat) (t : QTask) (s : State) : State :=
  if !coreOn s key then count cPktDiscard 1 s else
  let s1 := updCore key (fun o => { o with queue := o.queue ++ [t] }) s
  if taskSlack t then s1 else addOutstanding (key / 16) 1 s1

/-- Deliver the copies whose core holds a queue stage; the others stay, in order (R86, R126). -/
def deliverCopies : List (Nat × QTask) → State → State × List (Nat × QTask)
  | [], s => (s, [])
  | (key, t) :: rest, s =>
    if (coreS s key).queue.length < 32 then deliverCopies rest (pushTask key t s)
    else
      let r := deliverCopies rest s
      (r.1, (key, t) :: r.2)

/-- Go on with every spread in hand; a spread with no copy left stops counting at its anchor (R125). -/
def deliverSpreads : List SpreadS → State → State × List SpreadS
  | [], s => (s, [])
  | p :: rest, s =>
    let r := deliverCopies p.left s
    if r.2.isEmpty then
      deliverSpreads rest (if p.slack then r.1 else subOutstanding p.anchor 1 r.1)
    else
      let q := deliverSpreads rest r.1
      (q.1, { p with left := r.2 } :: q.2)

/-- Deliver what the queues take. -/
def deliverAll (s : State) : State :=
  let r := deliverSpreads s.fabric.spreads { s with fabric := { s.fabric with spreads := [] } }
  { r.1 with fabric := { r.1.fabric with spreads := r.2 } }

/-- An anchor takes a task with the copies it is to deliver (R125). -/
def startSpread (unit anchor : Nat) (slack : Bool) (copies : List (Nat × QTask)) (s : State) : State :=
  let s1 := if slack then s else addOutstanding anchor 1 s
  deliverAll { s1 with fabric := { s1.fabric with
    spreads := s1.fabric.spreads ++ [{ unit := unit, anchor := anchor, slack := slack, left := copies }] } }

/-! ## Task faults (R134) -/

/-- The causes of R134 in its order, then those other rules add: 1 opcode, 2 SRAM address, 3 K, 4 sparse operand,
5 scoreboard overflow, 6 format code (R143), 7 T4 exponent byte (R150), 8 scale table (R151), 9 NaN or infinity to T4
(R167), 10 replay list full (R173), 11 ragged rows (R191, R194). -/
def tfOpcode : Nat := 1
def tfAddress : Nat := 2
def tfK : Nat := 3
def tfSparse : Nat := 4
def tfScoreboard : Nat := 5
def tfFormat : Nat := 6
def tfT4 : Nat := 7
def tfScale : Nat := 8
def tfSource : Nat := 9
def tfReplay : Nat := 10
def tfRagged : Nat := 11

/-- The fault record of a task on a core. -/
def taskRecord (s : State) (cls code key pc : Nat) (t : Option QTask) (detail : Nat) : FaultRec :=
  { cls := cls, code := code, block := key / 16, core := key % 16, field := key / 16 / 640
    unit := leafOf s (key / 16), tag := (t.map (·.desc.tag)).getD 0, slot := (t.map taskSlot).getD 0, addr := pc
    detail := detail }

/-- A task fault in a context: the context stops, the fault is recorded, and the job rolls back and holds. -/
def taskFault (key c code : Nat) (s : State) : State :=
  let x := ctxS s key c
  rollFault (taskRecord s 2 code key x.pc x.task 0) 7 (updCtx key c (fun y => { y with stopped := true }) s)

/-- A task fault of a task that has no context: at dispatch, in the planner, or one no task armed.
Log entry 20 (DEDUCED). -/
def queueFault (key code : Nat) (t : Option QTask) (s : State) : State :=
  rollFault (taskRecord s 2 code key ((t.map (·.desc.kernel)).getD 0) t 0) 7 s

/-! ## Scoreboard (R130, R131) -/

/-- Add `n` to an entry; an ARMED entry that reaches TARGET fires. -/
def sbAdd (e : SbEntry) (n : Nat) : SbEntry :=
  let e1 := { e with count := e.count + n }
  if e1.state = .armed ∧ e1.target ≤ e1.count then { e1 with state := .fired } else e1

/-- ARM(e, T) by task `q` in context `c`. -/
def sbArm (e : SbEntry) (t c : Nat) (q : QTask) : SbEntry :=
  let e1 := if e.state = .fired then { e with count := e.count - e.target } else e
  { count := e1.count, target := t, state := if t ≤ e1.count then .fired else .armed, armedBy := some q, armedIn := some c }

/-- The task of context `c` no longer runs there: what it armed stays its own, in no context. -/
def disarm (c : Nat) (m : Map SbEntry) : Map SbEntry :=
  m.map fun e => (e.1, if e.2.armedIn = some c then { e.2 with armedIn := none } else e.2)

/-- Contexts that waited at issue try again. -/
def unwait (m : Map CtxS) : Map CtxS := m.foldl (fun m x => mapSet {} m x.1 { x.2 with waiting := false }) []

/-- An arrival of `n` at entry `i` of a core; what waited for the entry at issue tries again. A COUNT that would pass
0xFFFF is a task fault of the task that armed the entry, whose context stops where it still runs. -/
def arrive (key i n : Nat) (s : State) : State :=
  let o := coreS s key
  let e := mapGet {} o.sb i
  if 0xFFFF < e.count + n then
    match e.armedIn with
    | some c => taskFault key c tfScoreboard s
    | none => queueFault key tfScoreboard e.armedBy s
  else setCore key { o with sb := mapSet {} o.sb i (sbAdd e n), ctxs := unwait o.ctxs } s

/-! ## Dispatch (R127 to R132, R173) -/

def waitFired (o : CoreS) : Option Nat → Bool
  | none => true
  | some e => decide ((mapGet {} o.sb e).state = .fired)

/-- Does another task of the core hold `t` back: a non-SLACK one of an earlier slot (R127), or for a SLACK task any
non-SLACK one (R128)? -/
def heldBy (t other : QTask) : Bool :=
  !taskSlack other && (taskSlack t || decide (taskSlot other < taskSlot t))

/-- May task `t` of a core's queue start, a free context apart? -/
def taskReady (o : CoreS) (t : QTask) : Bool :=
  waitFired o t.desc.wait0 && waitFired o t.desc.wait1 &&
    (o.queue ++ runningTasks o).all fun q => !heldBy t q

/-- The place in the queue of the ready task of highest PRIO, the oldest among equals. -/
def pickTask (o : CoreS) : Option Nat :=
  (List.range o.queue.length).foldl (fun best i =>
    let t := nth {} o.queue i
    if !taskReady o t then best else
    match best with
    | none => some i
    | some b => if (nth {} o.queue b).desc.prio < t.desc.prio then some i else best) none

/-- The lowest context that runs no task. -/
def freeCtx (o : CoreS) : Option Nat := (List.range 8).find? fun c => (mapGet {} o.ctxs c).task.isNone

/-- The registers at dispatch (R129), with a row-spill piece's in place of them (R196). -/
def startRegs (core : Nat) (t : QTask) : Map Word :=
  let base : List (Nat × Nat) :=
    [(1, t.r1), (2, t.r2), (3, core)] ++ ((List.range 4).map fun i => (4 + i, nth 0 t.desc.operands i)) ++
      ((List.range 5).map fun i => (8 + i, nth 0 t.desc.args i)) ++ [(13, t.desc.tag)] ++ t.extra
  base.foldl (fun m e => mapSet 0#32 m e.1 (BitVec.ofNat 32 e.2)) []

/-- The context that runs `t` from its first instruction. -/
def startCtx (core : Nat) (t : QTask) (gen : BitVec 64) (suppress : Nat) (rerun : List Rerun) : CtxS :=
  { task := some t, pc := t.desc.kernel, regs := startRegs core t, gen := gen, savedGen := gen
    suppress := suppress, rerun := rerun }

/-- Dispatch on a core: the picked task starts in a free context; a KEEP task enters the replay list, and with that
list full is a task fault. The empty queue gives the dark word, and nothing is dispatched (R126). -/
def dispatchCore (key : Nat) (s : State) : State :=
  let o := coreS s key
  match pickTask o, freeCtx o with
  | some i, some c =>
    let t := nth {} o.queue i
    if t.desc.keep && decide (32 ≤ o.replay.length) then queueFault key tfReplay (some t) s
    else
      let gen := (mapGet {} o.ctxs c).gen
      let o1 := { o with queue := o.queue.eraseIdx i
                         ctxs := mapSet {} o.ctxs c (startCtx (key % 16) t gen 0 [])
                         replay := if t.desc.keep then
                             o.replay ++ [{ task := t, gen := gen, replays := 0, ended := false, sends := 0 }]
                           else o.replay }
      let s1 := count cDispatched 1 (setCore key o1 s)
      deliverAll (if taskSlack t then count cSlackRun 1 s1 else s1)
  | _, _ => s

/-! ## Translation (chapter 03, The unit map) -/

/-- Look a unit up from a core: a miss fills the translation cache from the field's copy, the oldest of 64 entries giving
way.
Log entry 104 (DESIGN CHOICE). -/
def translate (key u : Nat) (s : State) : State :=
  updCore key (fun o =>
    if o.xlat.any fun e => decide (e.1 = u) then o
    else { o with xlat := (o.xlat ++ [(u, mapGet 0 s.fabric.unitMap u)]).drop (o.xlat.length - 63) }) s

/-- Every core's translation cache is invalidated (R98). -/
def dropTranslations (s : State) : State :=
  { s with cores := s.cores.foldl (fun m e => mapSet {} m e.1 { e.2 with xlat := [] }) [] }

/-! ## Sends under replay (R174) -/

/-- A send or scoreboard signal of a context: suppressed while the abandoned run had completed it, else done; either
way it counts as completed. -/
def sendFrom (key c : Nat) (act : State → State) (s : State) : State :=
  let x := ctxS s key c
  let s1 := updCtx key c (fun y => { y with suppress := y.suppress - 1, sendsDone := y.sendsDone + 1 }) s
  if 0 < x.suppress then s1 else act s1

/-! ## The end of a task (R133) -/

/-- The next state of the replay list as task `t` ends: a SLACK task's entry is freed, another's marked ended. -/
def endReplay (t : QTask) (sends : Nat) (l : List ReplayEntry) : List ReplayEntry :=
  if t.desc.slack then l.filter fun e => !sameTask e.task t
  else l.map fun e => if sameTask e.task t then { e with ended := true, sends := sends } else e

/-- The context after its task has ended: the next rerun, or free with its generator kept. -/
def afterEnd (core : Nat) (x : CtxS) : CtxS :=
  match x.rerun with
  | [] => { gen := x.gen }
  | r :: rest => startCtx core r.task r.gen r.sends rest

/-- END in a context: the signal, OUTSTANDING, the context free (R133's order). -/
def endTaskAt (key c : Nat) (s : State) : State :=
  let x := ctxS s key c
  match x.task with
  | none => s
  | some t =>
    let s1 := if t.desc.signalUnit = 0xFFFF then s
      else sendFrom key c (fun st => emit (.signal t.desc.signalUnit t.desc.signalEntry 1) (translate key t.desc.signalUnit st)) s
    let s2 := if taskSlack t then s1 else subOutstanding (key / 16) 1 s1
    let sends := (ctxS s2 key c).sendsDone
    updCore key (fun o => { o with
      ctxs := mapUpd {} o.ctxs c (afterEnd (key % 16)), replay := endReplay t sends o.replay
      sb := disarm c o.sb, turn := c }) s2

/-! ## Check errors and replay (R172 to R175) -/

/-- Clear the accumulator sets that a run used. -/
def clearSets (sets : List Nat) (m : Map AccCell) : Map AccCell := mapFilter (fun n _ => !sets.contains (n / 16)) m

/-- Count a replay against the entry of `t`. -/
def noteReplay (t : QTask) (l : List ReplayEntry) : List ReplayEntry :=
  l.map fun e => if sameTask e.task t then { e with replays := e.replays + 1 } else e

/-- Replay the task of context `c`: the run is abandoned, its sets cleared, the generator restored, and the task
starts again with the sends it completed suppressed. -/
def replayTask (key c : Nat) (s : State) : State :=
  let x := ctxS s key c
  match x.task with
  | none => s
  | some t =>
    count cReplay 1 (updCore key (fun o => { o with
      acc := clearSets x.usedSets o.acc, replay := noteReplay t o.replay
      ctxs := mapSet {} o.ctxs c (startCtx (key % 16) t x.savedGen x.sendsDone x.rerun) }) s)

/-- The listed task with a tag. -/
def listedBy (o : CoreS) (tag : Nat) : Option ReplayEntry := o.replay.find? fun e => decide (e.task.desc.tag = tag)

/-- The context that runs a task. -/
def ctxRunning (o : CoreS) (t : QTask) : Option Nat :=
  (List.range 8).find? fun c => match (mapGet {} o.ctxs c).task with | some q => sameTask q t | none => false

/-- Replay producer `p` first, then the task `t` of context `c` (R174). A producer still running restarts in its own
context and `t` waits behind it; one that has ended runs again in `t`'s context and counts in OUTSTANDING. -/
def replayProducer (key c : Nat) (p : ReplayEntry) (s : State) : State :=
  let o := coreS s key
  let x := ctxS s key c
  match x.task with
  | none => s
  | some t =>
    let again : Rerun := { task := t, gen := x.savedGen, sends := x.sendsDone }
    let o1 := { o with acc := clearSets x.usedSets o.acc, replay := noteReplay t (noteReplay p.task o.replay)
                       sb := disarm c o.sb }
    match ctxRunning o p.task with
    | some pc =>
      let px := mapGet {} o.ctxs pc
      let o2 := { o1 with acc := clearSets px.usedSets o1.acc
                          ctxs := mapSet {} (mapSet {} o.ctxs c { gen := x.savedGen }) pc
                            (startCtx (key % 16) p.task px.savedGen px.sendsDone (px.rerun ++ again :: x.rerun)) }
      count cReplay 2 (setCore key o2 s)
    | none =>
      let o2 := { o1 with ctxs := mapSet {} o.ctxs c (startCtx (key % 16) p.task p.gen p.sends (again :: x.rerun)) }
      let s1 := count cReplay 2 (setCore key o2 s)
      if taskSlack p.task then s1 else addOutstanding (key / 16) 1 s1

/-- An unrecovered arithmetic fault (R175): the rollback of cause 5, with no hold. -/
def unrecovered (key c : Nat) (s : State) : State :=
  requestRollback 5 (count cReplayFail 1 (updCtx key c (fun y => { y with stopped := true }) s))

/-- A residue mismatch or parity error at an instruction of context `c` (R172): ERROR, the record, the count, then
replay, or the unrecovered fault of R175. -/
def checkError (key c : Nat) (chk : CoreCheck) (s : State) : State :=
  let o := coreS s key
  let x := ctxS s key c
  let rec' : FaultRec := match chk with
    | .parity a p => { taskRecord s 1 2 key a x.task ((p.map (· + 1)).getD 0) with addr := a }
    | .residue cell => taskRecord s 1 1 key x.pc x.task cell
    | .ok => {}
  let counterIx := match chk with | .parity _ _ => cParity | _ => cResidue
  let s1 := count counterIx 1 (faultEvent rec' (setUnitError (key / 16) true s))
  match x.task with
  | none => s
  | some t =>
    match o.replay.find? fun e => sameTask e.task t with
    | none => unrecovered key c s1
    | some e =>
      if 1 ≤ e.replays then unrecovered key c s1
      else match chk with
        | .parity _ none => unrecovered key c s1
        | .parity _ (some tag) =>
          if tag = t.desc.tag then replayTask key c s1
          else match listedBy o tag with
            | none => unrecovered key c s1
            | some p => replayProducer key c p s1
        | _ => replayTask key c s1

/-- Replay a listed task: in the context that runs it, else in a free one, else behind the task of context 0. One that had
ended counts in OUTSTANDING again. -/
def replayListed (key : Nat) (p : ReplayEntry) (s : State) : State :=
  let o := coreS s key
  match ctxRunning o p.task with
  | some c => replayTask key c s
  | none =>
    let o1 := { o with replay := noteReplay p.task o.replay }
    let o2 := match freeCtx o with
      | some c => { o1 with ctxs := mapSet {} o.ctxs c (startCtx (key % 16) p.task p.gen p.sends []) }
      | none => { o1 with ctxs := mapUpd {} o.ctxs 0 fun x =>
          { x with rerun := x.rerun ++ [{ task := p.task, gen := p.gen, sends := p.sends }] } }
    let s1 := count cReplay 1 (setCore key o2 s)
    if taskSlack p.task then s1 else addOutstanding (key / 16) 1 s1

/-- A parity mismatch on a read that no instruction makes, by the L port or the spill planner (R122, R172): ERROR, the
record with address and tag, the count; then the task that wrote the word replays, or the fault is unrecovered (R175).
Log entry 116 (DESIGN CHOICE). -/
def readParity (key : Nat) (h : ParityHit) (s : State) : State :=
  let o := coreS s key
  let p := h.producer.bind fun tag => listedBy o tag.toNat
  let r : FaultRec := { taskRecord s 1 2 key h.addr.toNat (p.map (·.task)) ((h.producer.map (·.toNat + 1)).getD 0) with
                        tag := (h.producer.map (·.toNat)).getD 0 }
  let s1 := count cParity 1 (faultEvent r (setUnitError (key / 16) true s))
  match p with
  | some e => if 1 ≤ e.replays then requestRollback 5 (count cReplayFail 1 s1) else replayListed key e s1
  | none => requestRollback 5 (count cReplayFail 1 s1)

/-! ## Slots and rollback -/

/-- Promote a SLACK task into slot `slot` (R128). -/
def promoteTask (slot : Nat) (t : QTask) : QTask := if taskSlack t then { t with promoted := some slot } else t

/-- How many SLACK tasks a core has queued or running. -/
def slackCount (o : CoreS) : Nat := ((o.queue ++ runningTasks o).filter taskSlack).length

/-- Promote a core's SLACK tasks at the start of the step's last slot; each then counts in OUTSTANDING. -/
def promoteCore (slot key : Nat) (s : State) : State :=
  let o := coreS s key
  let n := slackCount o
  if n = 0 then s else
  let o1 := { o with queue := o.queue.map (promoteTask slot)
                     ctxs := o.ctxs.map fun e => (e.1, { e.2 with task := e.2.task.map (promoteTask slot) })
                     replay := o.replay.map fun e => { e with task := promoteTask slot e.task } }
  count cPromoted n (addOutstanding (key / 16) n (setCore key o1 s))

def promoteAll (slot : Nat) (s : State) : State := each (s.cores.map (·.1)) (promoteCore slot) s

/-- The tick that releases a unit's next slot frees the replay entries of its leaves' cores, SLACK tasks apart, whose replays
count anew in the new slot (R175), and begins a new ERROR (R173, R93). -/
def newSlot (block : Nat) (s : State) : State :=
  setUnitError block false (each (List.range 16) (fun i st =>
    let key := coreKey block i
    if (coreS st key).replay.isEmpty then st
    else updCore key (fun o => { o with
      replay := (o.replay.filter fun e => taskSlack e.task).map fun e => { e with replays := 0 } }) st) s)

/-- What a rollback leaves of a core (R135): SRAM, generators and counters; the latches and accumulators clear.
Log entry 91 (DEDUCED). -/
def clearedCore (o : CoreS) : CoreS :=
  { sram := o.sram
    ctxs := o.ctxs.foldl (fun m e => mapSet {} m e.1 { gen := e.2.gen }) []
    xlat := o.xlat, nanMade := o.nanMade, satCount := o.satCount, nanLost := o.nanLost }

/-- Every core clears (R135); the summaries and the anchors' spreads go with their tasks. -/
def clearCores (s : State) : State :=
  { s with cores := s.cores.foldl (fun m e => mapSet {} m e.1 (clearedCore e.2)) []
           fabric := { s.fabric with outstanding := [], unitError := [], spreads := [] } }

/-- Has any job context work on the module: a task queued, running or being delivered (R103)? -/
def anyWork (s : State) : Bool :=
  !s.fabric.spreads.isEmpty || s.cores.any fun e => !e.2.queue.isEmpty || !(runningTasks e.2).isEmpty

/-! ## Spreading (R125, R194 to R196) -/

/-- The cores of a mask, in index order. -/
def maskCores (mask : Nat) : List Nat := (List.range 16).filter fun i => bitAt mask i

/-- The copies of a task by spread mode (Table 4.5). -/
def spreadCopies (d : Desc) (leaves : List Nat) : List (Nat × QTask) :=
  let l := leaves.length
  let start (n : Nat) : Nat := d.indexBase + n * d.indexCount / l
  let copy (n r1 r2 : Nat) : List (Nat × QTask) :=
    (maskCores d.coreMask).map fun i => (coreKey (nth 0 leaves n) i, { desc := d, r1 := r1, r2 := r2 })
  match d.spread with
  | 0 => copy 0 d.indexBase d.indexCount
  | 1 => (List.range l).flatMap fun n => copy n n d.indexCount
  | 2 => (List.range l).flatMap fun n => copy n (start n) (start (n + 1) - start n)
  | _ => copy (d.tag % l) d.indexBase d.indexCount

def sramByte (o : CoreS) (a : Nat) : Byte := mapGet 0#8 o.sram a
def sramBytes (o : CoreS) (a len : Nat) : List Byte := mapGetList 0#8 o.sram a len
/-- A little-endian number of `len` bytes in SRAM. -/
def sramNat (o : CoreS) (a len : Nat) : Nat := ofBytesLE (sramBytes o a len)

/-- The pieces of a row-spill task, `none` for a task fault of R191 or R194: an INDEX_COUNT above 4,096, an invalid
header, or OFFSETS that decrease or exceed NNZ. -/
def spillPieces (o : CoreS) (d : Desc) : Option (List Piece) :=
  let a := nth 0 d.operands 0
  let h := rrHeaderOf (sramNat o a 16)
  let offs := (List.range (d.indexCount + 1)).map fun i => sramNat o (a + 16 + 4 * (d.indexBase + i)) 4
  if 4096 < d.indexCount ∨ 0x10000 < a + 16 + 4 * (d.indexBase + d.indexCount + 1) then none
  else if !rrHeaderOk h || !nondecreasing offs || offs.any (fun x => decide (h.nnz < x)) then none
  else
    let rows := (List.range d.indexCount).map fun i => (d.indexBase + i, nth 0 offs (i + 1) - nth 0 offs i)
    let nnz := (rows.map (·.2)).sum
    some (planRows h.spill (spillThreshold h.spill nnz d.indexCount) none rows)

/-- The copies of a row-spill task: pieces dealt in order and in round robin to the recipient cores (R196). -/
def spillCopies (d : Desc) (leaves : List Nat) (ps : List Piece) : List (Nat × QTask) :=
  let cores := leaves.flatMap fun b => (maskCores d.coreMask).map (coreKey b)
  let at_ (i : Nat) : Nat := nth 0 cores (i % cores.length)
  (List.range ps.length).map fun i =>
    let p := nth { row := 0, offset := 0, index := 0, parts := 1, count := 0 } ps i
    let home := at_ (i - p.index)
    (at_ i, { desc := d, r1 := p.row, r2 := p.offset
              extra := [(10, p.index + 2 ^ 16 * p.parts), (11, p.count),
                        (12, home / 16 + 2 ^ 16 * (home % 16))] })

/-- A unit's anchor receives a task (R92, R125, R194): discarded and counted where the unit names no block, the
anchor's cores do not run, CORE_MASK is zero or a reserved field is set. -/
def taskSpreadTo (u : Nat) (raw : Nat) (s : State) : State :=
  let d := decodeDesc raw
  match anchorOf s u with
  | none => count cPktDiscard 1 s
  | some a =>
    if !coreOn s (coreKey a 0) || d.reservedSet || decide (d.coreMask = 0) then count cPktDiscard 1 s
    else if d.spill then
      match spillPieces (coreS s (coreKey a 0)) d with
      | none => queueFault (coreKey a 0) tfRagged (some { desc := d }) s
      | some ps => startSpread u a d.slack (spillCopies d (leavesOf s u) ps) s
    else startSpread u a d.slack (spreadCopies d (leavesOf s u)) s

/-! ## Slot work (R46 to R49, R59) -/

/-- The tasks that a schedule gives a unit in a slot. -/
def slotTasks (s : State) (u slot : Nat) : List SlotTask :=
  match scheduleOf s with
  | none => []
  | some c => c.tasks.filter fun t => decide (t.unit = u) && decide (t.slot = slot)

/-- The units that the schedule in force names, without repeats. -/
def scheduledUnits (s : State) : List Nat :=
  match scheduleOf s with
  | none => []
  | some c => c.tasks.foldl (fun l t => if l.contains t.unit then l else l ++ [t.unit]) []

/-- Is a unit running slot work: its summary is not DONE (R93)?
Log entry 17 (DEDUCED). Log entry 126 (DESIGN CHOICE). -/
def unitBusy (s : State) (u : Nat) : Bool := !doneOf s u

/-- The first slot of the pass to which a slot belongs. -/
def passFirst (s : State) (slot : Nat) : Nat :=
  match scheduleOf s with
  | none => 0
  | some c => (c.passStarts.filter fun x => decide (x ≤ slot)).foldl max 0

/-- Does a slot lie in a pass before the one that begins at `first`: in an earlier slot, or in one past the tick's, which is
the step before? -/
def earlierPass (s : State) (first slot : Nat) : Bool := decide (slot < first) || decide (s.tick.slot < slot)

/-- The tasks queued, running or being spread on the module. -/
def liveTasks (s : State) : List QTask :=
  (s.cores.flatMap fun e => e.2.queue ++ runningTasks e.2) ++ s.fabric.spreads.flatMap fun p => p.left.map (·.2)

/-- Has a context a non-SLACK task of an earlier pass that has not ended, or is not even released (R270)? -/
def passOpen (s : State) (ctx first : Nat) : Bool :=
  ((liveTasks s).any fun t => decide (t.desc.ctx = ctx) && !taskSlack t && earlierPass s first (taskSlot t)) ||
    s.tick.units.any fun u => u.2.held.any fun x => earlierPass s first x &&
      (slotTasks s u.1 x).any fun t => let d := decodeDesc t.desc.toNat; decide (d.ctx = ctx) && !d.slack

/-- Must a unit's work of a slot wait for the pass before it (R270)? The work of the slot waits as one.
Log entry 126 (DESIGN CHOICE). -/
def passHeld (s : State) (u slot : Nat) : Bool :=
  (slotTasks s u slot).any fun t =>
    let d := decodeDesc t.desc.toNat
    !d.slack && passOpen s d.ctx (passFirst s slot)

/-- Release to a unit the tasks of one slot (R46); the replay entries of its leaves' cores are freed (R173). -/
def releaseSlot (u slot : Nat) (s : State) : State :=
  let s1 := each (leavesOf s u) newSlot s
  let s2 := setUnitRun u { unitRun s1 u with released := some slot, running := some slot } s1
  each (slotTasks s2 u slot) (fun t => taskSpreadTo u t.desc.toNat) s2

/-- Held slots of a unit are released in order, up to one that must wait for the pass before it. -/
def releaseUnit (u : Nat) : List Nat → State → State
  | [], s => s
  | x :: rest, s =>
    if passHeld s u x then setUnitRun u { unitRun s u with held := x :: rest } s
    else releaseUnit u rest (releaseSlot u x s)

/-- A unit whose old work has ended starts its held work at once (R49). -/
def settleUnit (u : Nat) (s : State) : State :=
  let r := unitRun s u
  if r.held.isEmpty || unitBusy s u then s
  else releaseUnit u r.held (setUnitRun u { r with held := [], grace := none } s)

def settleUnits (s : State) : State := each (s.tick.units.map (·.1)) settleUnit s

/-! ## The steps -/

/-- A task packet whose row-spill planner meets a parity mismatch in OFFSETS: the task is posted again (R122).
Log entry 116 (DESIGN CHOICE). -/
def spreadParity (u raw : Nat) (h : ParityHit) (s : State) : State :=
  match anchorOf s u with
  | none => taskSpreadTo u raw s
  | some a =>
    if (decodeDesc raw).spill && coreOn s (coreKey a 0) then emit (.task u raw) (readParity (coreKey a 0) h s)
    else taskSpreadTo u raw s

/-- TASK_SPREAD: a task packet reaches a unit's anchor. -/
def execTaskSpread (unit : UnitId) (desc : BitVec 512) (parity : Option ParityHit) (s : State) :
    Host.Outcome State Fault Refusal :=
  .next (whenReady (match parity with
    | none => taskSpreadTo unit.val desc.toNat
    | some h => spreadParity unit.val desc.toNat h) s)

/-- TASK_DISPATCH: a core's dispatch cycle. The cores of a field that is not lit do not run, and a
module stopped under R460 or R461 dispatches nothing. -/
def execTaskDispatch (core : CoreRef) (s : State) : Host.Outcome State Fault Refusal :=
  let key := coreKey core.block.val core.core.val
  .next (whenReady (fun st =>
    if coreOn st key && decide (st.power.stopCause = 0) then dispatchCore key st else st) s)

/-- SCOREBOARD_ARRIVAL: a signal packet, forwarded by the anchor, reaches a core (R131); at a shaded field it is
discarded and counted (R107). -/
def execScoreboardArrival (core : CoreRef) (entry : Fin 64) (n : BitVec 16) (s : State) :
    Host.Outcome State Fault Refusal :=
  let key := coreKey core.block.val core.core.val
  .next (whenReady (fun st => if coreOn st key then arrive key entry.val n.toNat st else count cPktDiscard 1 st) s)

end Sys2Proof.Machine
end

