-- ==== Sys2Proof/Machine/Fields.lean ====
section
/-! DEFINITION. Fields as a whole: the mesh's geometry, the memory ports (Table 8.1), the size table (R105), route
tables (R77 to R81), and a field going shaded, dark or lit (Table 3.8, R106 to R108). -/

namespace Sys2Proof.Machine

/-! ## Geometry (R67) -/

def blockBx (b : Nat) : Nat := 20 * (b / 640 % 7) + b % 640 % 20
def blockBy (b : Nat) : Nat := 32 * (b / 640 / 7) + b % 640 / 20
def fieldAt (bx by_ : Nat) : Nat := 7 * (by_ / 32) + bx / 20
def blockAt (bx by_ : Nat) : Nat := 640 * fieldAt bx by_ + 20 * (by_ % 32) + bx % 20
def fieldRow (f : Nat) : Nat := f / 7
def fieldCol (f : Nat) : Nat := f % 7

/-! ## Memory ports (Table 8.1, R248, R249) -/

/-- The edge router of port `i` of stack `m`, ports in ascending router order. -/
def portRouter (m i : Nat) : Nat :=
  let k := m % 8
  if m < 8 then blockAt (6 + 16 * k + i) 0
  else if m < 16 then blockAt 139 (56 + 32 * k + i)
  else if m < 24 then blockAt (6 + 16 * k + i) 383
  else blockAt 0 (56 + 32 * k + i)

/-- The reachable ports of a stack. -/
def reachablePorts (s : State) (m : Nat) : List Nat :=
  (List.range 16).filter fun i => !isDark s (portRouter m i / 640)

def stackReachable (s : State) (m : Nat) : Bool := !(reachablePorts s m).isEmpty

/-- The reachable-port list of a stack that a field's hub holds, as last written. -/
def hubPorts (s : State) (f m : Nat) : List Nat :=
  (List.range 16).filter fun i => !bitAt (fieldS s f).portsDark (portRouter m i / 640)

/-- The router by which a requester in a field reaches an in-stack address: the j-th reachable port, j = (address div 4,096)
mod p (R249). -/
def portFor (s : State) (f m addr : Nat) : Option Nat :=
  let ps := hubPorts s f m
  (ps[addr / 4096 % ps.length]?).map (portRouter m)

/-- A stack becomes unreachable: out of the stripe set at the next resume (R258). -/
def loseStack (m : Nat) (s : State) : State :=
  if s.mem.lost.contains m || s.mem.lostNext.contains m then s
  else { s with mem := { s.mem with lostNext := s.mem.lostNext ++ [m] } }

/-- The stacks that have no reachable port are lost. -/
def loseUnreachable (s : State) : State :=
  each ((List.range 32).filter fun m => !stackReachable s m) loseStack s

/-! ## The size table (Table 3.7, R105) -/

/-- Enabled blocks of a field by the defect map (R68). -/
def enabledIn (s : State) (f : Nat) : Nat := 640 - (s.fabric.outBlocks.filter fun b => decide (b / 640 = f)).length

/-- Enabled blocks of fields that pass `p`. -/
def sumEnabled (s : State) (p : Nat → Bool) : Nat := (((List.range 84).filter p).map (enabledIn s)).sum

def fieldStateCode : FieldState → Nat
  | .lit => 0
  | .shade => 1
  | .dark => 2

/-- The size table as the module stands, with the generation, map version, lanes and self-test entries it has. -/
def sizeNow (s : State) : SizeTable :=
  let blocks := sumEnabled s fun f => !isDark s f
  let working := 16 * sumEnabled s fun f => isLit s f
  { s.fabric.size with
    enabledBlocks := blocks, enabledCores := 16 * blocks, workingCores := working, sramBytes := working * 65536
    fieldBufferBytes := 2 ^ 25 * (poweredFields s).length, hbmBytes := hbmBytes s
    fieldBlocks := (List.range 84).map (enabledIn s)
    fieldStates := (List.range 84).map fun f => fieldStateCode (fieldState s f) }

/-- Put a size table in force in one step; GENERATION is incremented last, on any change.
Log entry 26 (DEDUCED). -/
def putSize (z : SizeTable) (s : State) : State :=
  if z = s.fabric.size then s
  else { s with fabric := { s.fabric with size := { z with generation := (s.fabric.size.generation + 1) % 2 ^ 32 } } }

def refreshSize (s : State) : State := putSize (sizeNow s) s

/-! ## Route tables (R78 to R81) -/

def dirCode : Dir → Nat
  | .e => 0
  | .w => 1
  | .n => 2
  | .s => 3

def dirOf (n : Nat) : Dir := if n = 0 then .e else if n = 1 then .w else if n = 2 then .n else .s

/-- The neighbouring field in a direction, N toward higher rows. -/
def fieldNext (f : Nat) : Dir → Option Nat
  | .e => if fieldCol f < 6 then some (f + 1) else none
  | .w => if 0 < fieldCol f then some (f - 1) else none
  | .n => if fieldRow f < 11 then some (f + 7) else none
  | .s => if 0 < fieldRow f then some (f - 7) else none

/-- The direction of dimension order from field `f` to `g`: columns first (R79). -/
def dimDir (f g : Nat) : Dir :=
  if fieldCol f < fieldCol g then .e else if fieldCol g < fieldCol f then .w
  else if fieldRow f < fieldRow g then .n else .s

/-- The fields on the dimension-order path from `f` to `g`, ends included; the first argument bounds the hops. -/
def dimPath : Nat → Nat → Nat → List Nat
  | 0, f, _ => [f]
  | n + 1, f, g =>
    if f = g then [f] else
    match fieldNext f (dimDir f g) with
    | some h => f :: dimPath n h g
    | none => [f]

def fieldNeighbours (s : State) (f : Nat) : List Nat :=
  ([Dir.e, .w, .n, .s].filterMap (fieldNext f)).filter fun g => !isDark s g

/-- Breadth-first levels from a set of fields: (field, parent) pairs in order found; the first argument bounds the
levels. -/
def treeFrom (s : State) : Nat → List Nat → List (Nat × Nat) → List (Nat × Nat)
  | 0, _, acc => acc
  | n + 1, front, acc =>
    let seen := acc.map (·.1)
    let new := front.foldl (fun l f => (fieldNeighbours s f).foldl (fun l' g =>
      if seen.contains g || (l'.map (·.1)).contains g then l' else l' ++ [(g, f)]) l) []
    if new.isEmpty then acc else treeFrom s n (new.map (·.1)) (acc ++ new)

/-- The breadth-first tree of the fields that are not dark, rooted at the lowest-numbered one (R80); neighbours are taken in
the order E, W, N, S, and the first parent found stands.
Log entry 105 (DESIGN CHOICE). -/
def routeTree (s : State) : List (Nat × Nat) :=
  match poweredFields s with
  | [] => []
  | r :: _ => treeFrom s 84 [r] [(r, r)]

/-- The chain from a field up to the root. -/
def upChain (tree : List (Nat × Nat)) : Nat → Nat → List Nat
  | 0, f => [f]
  | n + 1, f => match tree.find? fun e => decide (e.1 = f) with
    | none => [f]
    | some e => if e.2 = f then [f] else f :: upChain tree n e.2

/-- The next field from `f` toward `g` along the tree: down to the child that leads to `g`, else up. -/
def treeNext (tree : List (Nat × Nat)) (f g : Nat) : Nat :=
  let chain := upChain tree 84 g
  match chain.findIdx? fun x => decide (x = f) with
  | some i => nth f chain (i - 1)
  | none => nth f (upChain tree 84 f) 1

/-- The direction from a field to a neighbour. -/
def dirTo (f g : Nat) : Dir := dimDir f g

/-- The route table entry of field `f` for destination `g` (R78 to R80). -/
def routeEntry (s : State) (tree : List (Nat × Nat)) (f g : Nat) : Nat :=
  if f = g then 0
  else if (dimPath 18 f g).all fun x => !isDark s x then dirCode (dimDir f g)
  else 4 + dirCode (dirTo f (treeNext tree f g))

/-- Install every field's route table, and its hub's port lists with it (R79, R80, R249). -/
def installRoutes (s : State) : State :=
  let tree := routeTree s
  let dark := ((List.range 84).map fun f => if isDark s f then 2 ^ f else 0).sum
  each (poweredFields s) (fun f st =>
    setField f { fieldS st f with routes := (List.range 84).map (routeEntry s tree f), portsDark := dark } st)
    { s with fabric := { s.fabric with rebuildPending := false, returnRebuild := false } }

/-- The connected parts of the fields that are not dark, by lowest member. The first argument bounds the parts. -/
def partsOf (s : State) : Nat → List Nat → List (List Nat)
  | 0, _ => []
  | _, [] => []
  | n + 1, f :: rest =>
    let part := (treeFrom s 84 [f] [(f, f)]).map (·.1)
    part :: partsOf s n (rest.filter fun g => !part.contains g)

/-- The part that R81 keeps: the most enabled blocks, the one with the lowest-numbered field among equals. -/
def keptPart (s : State) : List Nat :=
  bestBy (fun p => (p.map (enabledIn s)).sum) [] (partsOf s 84 (poweredFields s))

/-! ## Fields leaving and returning -/

/-- The cores of a field stop without completing: what they hold is gone, their counters apart (Tables 3.8, 4.11).
Log entry 25 (DEDUCED). -/
def dropCores (f : Nat) (s : State) : State :=
  { s with cores := s.cores.foldl (fun m e =>
      if e.1 / 16 / 640 = f then
        mapSet {} m e.1 { nanMade := e.2.nanMade, satCount := e.2.satCount, nanLost := e.2.nanLost }
      else mapSet {} m e.1 e.2) [] }

/-- Is a step of the job in progress: started and not held (R41)? -/
def inStep (s : State) : Bool := s.job.started && !s.job.held

/-- Begin re-placement (R382): time 0 is now. -/
def startReplacement (s : State) : State :=
  if s.place.set.isEmpty then s
  else { s with place := { s.place with replacing := true, replacingStart := s.now, overrunReported := false } }

/-- A field has left service: within a step the job rolls back with cause 2; in a hold it is re-placed without one
(R382). -/
def fieldOut (s : State) : State := if inStep s then requestRollback 2 s else startReplacement s

/-- A field is shaded, with a cause of Table 15.7. Only a lit field can be. -/
def shadeField (f cause : Nat) (s : State) : State :=
  if !isLit s f then s
  else fieldOut (fieldEvent 1 f cause (refreshSize (dropCores f (setField f { fieldS s f with state := .shade } s))))

/-- The lanes of a dark field leave service together (R357). -/
def dropLanes (f : Nat) (s : State) : State :=
  each ((List.range 16).map fun i => 16 * f + i) (fun c st => setLane c { retired := (laneS st c).retired } st) s

/-- Flits of a packet, header included. -/
def flitCount (p : Flits) : Nat := 1 + ceilDiv p.payload.length 16

/-- The router on the far side of a link; none where it leaves the wafer. -/
def linkEnd (l : LinkRef) : Option Nat :=
  let bx := blockBx l.router.val
  let by_ := blockBy l.router.val
  match l.dir with
  | .e => if bx < 139 then some (blockAt (bx + 1) by_) else none
  | .w => if 0 < bx then some (blockAt (bx - 1) by_) else none
  | .n => if by_ < 383 then some (blockAt bx (by_ + 1)) else none
  | .s => if 0 < by_ then some (blockAt bx (by_ - 1)) else none

/-- The flits of a port's waiting packets that have not been sent. -/
def arbFlits (a : PortArb) : Nat := (a.waiting.map fun e => flitCount e.1 - e.2).sum

/-- Does the output of a port's number lie toward a field? -/
def portFaces (k f : Nat) : Bool :=
  decide (k % 8 < 4) && decide (((linkEnd { router := Fin.ofNat 53760 (k / 8), dir := dirOf (k % 8) }).map (· / 640)) = some f)

/-- A dark field's own ports lose what waits there; what waits toward it is discarded and counted (R106). -/
def dropPorts (f : Nat) (s : State) : State :=
  let toward := s.fabric.ports.filter fun e => portFaces e.1 f && decide (e.1 / 8 / 640 ≠ f)
  let kept := s.fabric.ports.filter fun e => !portFaces e.1 f && decide (e.1 / 8 / 640 ≠ f)
  count cPktDiscard (toward.map fun e => arbFlits e.2).sum { s with fabric := { s.fabric with ports := kept } }

/-- What waits in the memory ports of a dark field's edge routers is lost (Table 8.4). -/
def dropMemoryPorts (f : Nat) (s : State) : State :=
  let gone (k : Nat) : Bool :=
    (decide (k % 16 = 5) || decide (k % 16 = 6)) && decide (portRouter (k / 256) (k / 16 % 16) / 640 = f)
  { s with fabric := { s.fabric with queues := mapFilter (fun k _ => !gone k) s.fabric.queues } }

/-- A field goes dark, with a cause of Table 15.7: its routers, lanes, PLL and copy of the unit map are lost, stacks
that no port reaches are lost with it, and the route tables are to be rebuilt (R106, R248). -/
def darkField (f cause : Nat) (s : State) : State :=
  if isDark s f then s
  else
    let off : FieldS := { state := .dark, pllLocked := false, controlRunning := false, mapCopy := false }
    let s1 := loseUnreachable (dropLanes f (dropMemoryPorts f (dropPorts f (dropCores f (setField f off s)))))
    let s2 := { s1 with fabric := { s1.fabric with rebuildPending := true } }
    fieldOut (fieldEvent 2 f cause (refreshSize s2))

/-- A field returns to lit (cause 4), its hub with the copy of the unit map (R99). -/
def litField (f : Nat) (s : State) : State :=
  if isLit s f then s
  else fieldEvent 0 f 4 (refreshSize
    (setField f { fieldS s f with state := .lit, pllLocked := true, controlRunning := true, returning := false
                                  mapCopy := true } s))

/-- Darken every field outside the part R81 keeps, each reported as a fault. -/
def darkenParts (s : State) : State :=
  let keep := keptPart s
  each ((poweredFields s).filter fun f => !keep.contains f)
    (fun f st => darkField f 7 (faultEvent { cls := 3, code := 7, field := f } st)) s

/-- The rebuild is finished: partitions are darkened, the route tables and the peer routes installed (R357), and a
re-placement's time 0 is now. -/
def installTables (s : State) : State :=
  let s1 := buildPeerRoutes (installRoutes (darkenParts s))
  if s1.place.replacing then { s1 with place := { s1.place with replacingStart := s1.now } } else s1

/-! ## The steps -/

/-- FIELD_DARK (R106). -/
def execFieldDark (f : FieldId) (cause : Fin 8) (s : State) : Host.Outcome State Fault Refusal :=
  .next (whenReady (darkField f.val cause.val) s)

/-- FIELD_SHADE (R107). -/
def execFieldShade (f : FieldId) (cause : Fin 8) (s : State) : Host.Outcome State Fault Refusal :=
  .next (whenReady (shadeField f.val cause.val) s)

/-- ROUTE_TABLES_INSTALLED (R106, R81); the tables of a field's return are installed at a step boundary (R108), no step in
progress. -/
def execRouteTablesInstalled (s : State) : Host.Outcome State Fault Refusal :=
  .next (whenReady (fun st => if st.fabric.returnRebuild && inStep st then st else installTables st) s)

end Sys2Proof.Machine
end

