-- ==== Sys2Proof/Machine/Queues.lean ====
section
/-! DEFINITION. The small queues of the wafer and of its beam ports (R85 to R90, Tables 3.4, 7.7 and 11.5): items, credits,
and the two Gray-coded counts as each side has seen them. -/

namespace Sys2Proof.Machine

/-! ## The queue table -/

def chanCode : Chan → Nat
  | .glint => 0
  | .control => 1
  | .request => 2
  | .response => 3
  | .escape => 4

def dirIndex : Dir → Nat
  | .e => 0
  | .w => 1
  | .n => 2
  | .s => 3

/-- A queue's number in the state's store. -/
def queueKey : QueueId → Nat
  | .boundary r d c => 16 * (20 * r.val + 5 * dirIndex d + chanCode c)
  | .coreToRouter b c => 16 * (5 * b.val + chanCode c) + 1
  | .routerToCore b c => 16 * (5 * b.val + chanCode c) + 2
  | .hubToControl f => 16 * f.val + 3
  | .controlToHub f => 16 * f.val + 4
  | .routerToMemory m p => 16 * (16 * m.val + p.val) + 5
  | .memoryToRouter m p => 16 * (16 * m.val + p.val) + 6
  | .routerInput r d c => 16 * (20 * r.val + 5 * dirIndex d + chanCode c) + 7
  | .beamReceive l => 16 * l.val + 8
  | .laneTransmit l => 16 * l.val + 9
  | .glintReceive l => 16 * l.val + 10
  | .linkManagement l => 16 * l.val + 11

/-- Stages, and with them the producer's credits (Tables 3.4, 7.7 and 11.5, R87). -/
def queueStages : QueueId → Nat
  | .boundary _ _ _ => 16
  | .coreToRouter _ _ => 8
  | .routerToCore _ _ => 8
  | .hubToControl _ => 32
  | .controlToHub _ => 32
  | .routerToMemory _ _ => 24
  | .memoryToRouter _ _ => 24
  | .routerInput _ _ _ => 16
  | .beamReceive _ => 512
  | .laneTransmit _ => 64
  | .glintReceive _ => 256
  | .linkManagement _ => 16

/-- The counters' modulus: one bit wider than the stage count needs (R87; 10 bits in Table 7.7). -/
def queueModulus (q : QueueId) : Nat := 2 * 2 ^ (Nat.log2 (2 * queueStages q - 1))

/-- Do both sides share a clock, so that nothing crosses a synchroniser? -/
def sameClock : QueueId → Bool
  | .routerInput _ _ _ => true
  | _ => false

/-- The dark word: format code 0xF in the format field, every other bit zero (R89); the format field of a beam lane's
item is bits [15:12] of its sideband, above the 1,024 data bits (R230). -/
def darkWord : QueueId → Nat
  | .beamReceive _ => 0xF * 2 ^ 1036
  | _ => 0xF

def queueS (s : State) (q : QueueId) : QueueS := mapGet {} s.fabric.queues (queueKey q)

def setQueue (q : QueueId) (v : QueueS) (s : State) : State :=
  { s with fabric := { s.fabric with queues := mapSet {} s.fabric.queues (queueKey q) v } }

/-! ## Sending, taking, and the synchronised counts -/

/-- Width of a queue's counters in bits. -/
def queueWidth (q : QueueId) : Nat := Nat.log2 (2 * queueStages q - 1) + 1

/-- A count enters a synchroniser, Gray-coded: it holds the last three (R87). -/
def intoSync (n : Nat) (l : List Nat) : List Nat := (l ++ [toGray n]).drop (l.length - 2)

/-- Put an item at the tail against a credit. -/
def enqueue (q : QueueId) (item : Nat) (v : QueueS) : QueueS :=
  let n := (v.writeCount + 1) % queueModulus q
  { v with items := v.items ++ [item], spent := v.spent + 1, writeCount := n
           seenWrite := if sameClock q then n else v.seenWrite
           writeSync := if sameClock q then v.writeSync else intoSync n v.writeSync }

/-- A producer writes: with no credit, or while the link in front retrains (`held`, R83), it keeps the item in its own stage,
and while it keeps one it takes no other (R86).
Log entry 110 (DESIGN CHOICE). -/
def queueSend (q : QueueId) (held : Bool) (item : Nat) (v : QueueS) : QueueS :=
  if v.kept.isSome then v
  else if v.spent < queueStages q ∧ held = false then enqueue q item v
  else { v with kept := some item }

/-- A kept item goes in where a credit is to hand. -/
def sendKept (q : QueueId) (held : Bool) (v : QueueS) : QueueS :=
  match v.kept with
  | some i => if v.spent < queueStages q ∧ held = false then enqueue q i { v with kept := none } else v
  | none => v

/-- The producer has seen a read count: freed stages are credits again, and a kept item goes in. -/
def returnCredits (q : QueueId) (held : Bool) (seen : Nat) (v : QueueS) : QueueS :=
  let freed := (seen + queueModulus q - v.returned) % queueModulus q
  sendKept q held { v with spent := v.spent - freed, returned := seen }

/-- Items that the consumer sees (R88). -/
def visible (q : QueueId) (v : QueueS) : Nat := (v.seenWrite + queueModulus q - v.readCount) % queueModulus q

/-- A consumer reads: the head, or the dark word from an empty queue (R85, R89). -/
def queueTake (q : QueueId) (held : Bool) (v : QueueS) : QueueS :=
  if visible q v = 0 then { v with lastRead := darkWord q }
  else match v.items with
    | [] => { v with lastRead := darkWord q }
    | i :: rest =>
      let n := (v.readCount + 1) % queueModulus q
      let v1 := { v with items := rest, lastRead := i, readCount := n }
      if sameClock q then returnCredits q held n v1 else { v1 with readSync := intoSync n v.readSync }

/-- The oldest count in a synchroniser has crossed it: the other side sees the Gray code decoded. -/
def queueSync (q : QueueId) (side : QueueSide) (held : Bool) (v : QueueS) : QueueS :=
  match side with
  | .writeCount => match v.writeSync with
    | [] => v
    | g :: rest => { v with seenWrite := fromGray (queueWidth q) g, writeSync := rest }
  | .readCount => match v.readSync with
    | [] => v
    | g :: rest => returnCredits q held (fromGray (queueWidth q) g) { v with readSync := rest }

/-! ## Links in front of a queue (R83) -/

/-- The link over which a queue's items come, as the state's store numbers it: the sending router's port of a field
boundary, and the neighbour's toward a router's input port. -/
def queueLink : QueueId → Option Nat
  | .boundary r d _ => some (4 * r.val + dirIndex d)
  | .routerInput r d _ =>
    (linkEnd { router := r, dir := d }).map fun n => 4 * n + (match d with | .e => 1 | .w => 0 | .n => 3 | .s => 2)
  | _ => none

/-- The queues that a link's flits enter. -/
def linkQueues (l : LinkRef) : List QueueId :=
  let cs : List Chan := [.glint, .control, .request, .response, .escape]
  let back : Dir := match l.dir with | .e => .w | .w => .e | .n => .s | .s => .n
  cs.map (QueueId.boundary l.router l.dir) ++
    (match linkEnd l with
     | some n => cs.map (QueueId.routerInput (Fin.ofNat 53760 n) back)
     | none => [])

/-- Does the link in front of a queue retrain? -/
def queueHeld (s : State) (q : QueueId) : Bool :=
  match queueLink q with
  | some k => (linkS s k).retraining
  | none => false

/-! ## The steps -/

/-- QUEUE_ITEM_WRITE: a producer writes an item; the dark word is never stored (R89). -/
def execQueueItemWrite (q : QueueId) (item : BitVec 1040) (s : State) : Host.Outcome State Fault Refusal :=
  .next (whenReady (fun st =>
    if item.toNat = darkWord q then st else setQueue q (queueSend q (queueHeld st q) item.toNat (queueS st q)) st) s)

/-- The stream lanes of a field in the order in which its ingest unit looks at them, the one after the last served first. -/
def ingestOrder (s : State) (f : Nat) : List Nat :=
  let last := mapGet 15 s.stream.turns f
  ((List.range 16).map fun i => 16 * f + (last + 1 + i) % 16).filter (isStreamLane s)

/-- Is it a queue's turn? A field's ingest unit serves its stream lane queues in round robin (R232). -/
def ingestTurn (s : State) : QueueId → Bool
  | .beamReceive l =>
    !isStreamLane s l.val || decide (visible (.beamReceive l) (queueS s (.beamReceive l)) = 0) ||
      decide ((ingestOrder s (l.val / 16)).find? (fun c =>
        let q := QueueId.beamReceive (Fin.ofNat 1344 c)
        decide (visible q (queueS s q) ≠ 0)) = some l.val)
  | _ => true

/-- The ingest unit has served a queue. -/
def noteTurn (q : QueueId) (s : State) : State :=
  match q with
  | .beamReceive l =>
    if isStreamLane s l.val && decide (visible q (queueS s q) ≠ 0) then
      { s with stream := { s.stream with turns := mapSet 15 s.stream.turns (l.val / 16) (l.val % 16) } }
    else s
  | _ => s

/-- What a returned count frees for the far end of a lane leaves in its control fields: CREDIT, or a glint credit chunk
(R231, R344). -/
def creditFar (q : QueueId) (freed : Nat) (s : State) : State :=
  match q with
  | .beamReceive l => setLane l.val { laneS s l.val with creditOwed := (laneS s l.val).creditOwed + freed } s
  | .glintReceive l => if freed = 0 then s else queueChunks l.val 2 5 [freed] s
  | _ => s

/-- QUEUE_ITEM_READ: a consumer takes the head; out of its turn a stream lane's queue is not read.
Log entry 122 (DESIGN CHOICE). -/
def execQueueItemRead (q : QueueId) (s : State) : Host.Outcome State Fault Refusal :=
  .next (whenReady (fun st =>
    if ingestTurn st q then
      setQueue q (queueTake q (queueHeld st q) (queueS st q)) (noteTurn q st)
    else st) s)

/-- GRAY_POINTER_SYNC: one of the two counts reaches the other side (R87, R88). -/
def execGrayPointerSync (q : QueueId) (side : QueueSide) (s : State) : Host.Outcome State Fault Refusal :=
  .next (whenReady (fun st =>
    let v := queueSync q side (queueHeld st q) (queueS st q)
    let freed := (v.returned + queueModulus q - (queueS st q).returned) % queueModulus q
    creditFar q freed (setQueue q v st)) s)

end Sys2Proof.Machine
end

