-- ==== Sys2Proof/Machine/Pipe.lean ====
section
/-! DEFINITION. The element update pipe of a controller (R322 to R331, R184 to R188, R490): the rules, the moments,
the mask, the working copy and the digests of one reduction block. -/

namespace Sys2Proof.Machine

/-! ## The shape of a block (R299) -/

/-- Columns of a block: 64, or 1 for a tensor of one dimension. -/
def blockCols (r : LayerRec) : Nat := if r.n = 1 then 1 else 64

/-- Rows of a block along K. -/
def blockRows (r : LayerRec) : Nat := 4096 / blockCols r

/-- Is element `i` of block `bn` of a tensor inside the tensor, and not padding? -/
def inTensor (r : LayerRec) (bn i : Nat) : Bool :=
  if r.n = 1 then decide (4096 * bn + i < r.k)
  else
    let nb := ceilDiv r.n 64
    decide (64 * (bn / nb) + i / 64 < r.k) && decide (64 * (bn % nb) + i % 64 < r.n)

/-- A block is untrained when TRAIN is 1, or is 2 with ROW_MASK zero (R313). -/
def isUntrained (o : BlockS) : Bool :=
  decide (o.train = 1) || (decide (o.train = 2) && decide (o.rowMask = 0)) || decide (o.carryOnce = o.step + 1)

/-- Is the element's row trained? -/
def rowTrained (o : BlockS) (i : Nat) : Bool :=
  decide (o.train = 0) || (decide (o.train = 2) && bitAt o.rowMask (i / 64))

/-! ## The rules (R322) -/

def fpOne : Nat := 0x3F800000

/-- The exact power of an FP32 value, rounded once. -/
def fpPow (w n : Nat) : Nat :=
  match fpDec w with
  | .fin s m e => fpEnc (.fin (s && decide (n % 2 = 1)) (m ^ n) (e * n))
  | v => fpEnc v

/-- The gradient: acc × 2^BEXP × scale, rounded once. -/
def gradWord (acc bexp : Int) (scale : Nat) : Nat :=
  fpEnc (valMul (.fin (decide (acc < 0)) acc.natAbs bexp) (fpDec scale))

/-- What a rule gives for an element: new moment, new root of the second moment, new master. -/
structure RuleOut where
  m : Nat
  r : Nat
  w : Nat
  deriving DecidableEq, Repr

/-- u = (m / b1) / (sqrt(v / b2) + eps), with the bias corrections of update `n`. -/
def adamStep (l : LayerRec) (n m v : Nat) : Nat :=
  let b1 := fpSub false fpOne (fpPow l.p1 n)
  let b2 := fpSub false fpOne (fpPow l.p2 n)
  fpDiv (fpDiv m b1) (fpAdd false (fpSqrt (fpDiv v b2)) l.eps)

/-- The element rules in the order of operations of R322; `n` is UPDATES + 1, `m` and `r` the decoded moments. -/
def ruleStep (l : LayerRec) (n w g m r : Nat) : RuleOut :=
  let c1 := fpSub false fpOne l.p1
  let c2 := fpSub false fpOne l.p2
  if l.rule = 1 then
    let mNew := fpFma false l.p1 m g
    let t := fpFma false l.wd w mNew
    { m := mNew, r := 0, w := fpFma false (fpNeg l.lr) t w }
  else
    let h := if l.rule = 2 then fpFma false l.wd w g else g
    let mNew := fpFma false c1 h (fpMul false l.p1 m)
    let vNew := fpFma false c2 (fpMul false h h) (fpMul false l.p2 (fpMul false r r))
    let u := adamStep l n mNew vNew
    let t := if l.rule = 2 then u else fpFma false l.wd w u
    { m := mNew, r := fpSqrt vNew, w := fpFma false (fpNeg l.lr) t w }

/-! ## Draws (R324) -/

/-- The draws of one position. -/
structure Draws where
  m1 : Nat
  m2 : Nat
  wc : Nat
  delta : Nat
  deriving DecidableEq, Repr

def takeDraw (on : Bool) (g : BitVec 64) : Nat × BitVec 64 := if on then (drawOf g, xorshift g) else (0, g)

/-- The draws of `n` positions in ascending order, those the settings select. -/
def drawList (a b c d : Bool) : Nat → BitVec 64 → List Draws
  | 0, _ => []
  | n + 1, g =>
    let x := takeDraw a g
    let y := takeDraw b x.2
    let z := takeDraw c y.2
    let u := takeDraw d z.2
    { m1 := x.1, m2 := y.1, wc := z.1, delta := u.1 } :: drawList a b c d n u.2

def isMatrixRule (l : LayerRec) : Bool := decide (l.rule = 4) || decide (l.rule = 5)

/-- The generator of block `bn` of a tensor under a step seed. -/
def blockGen (seed tensor bn : Nat) : BitVec 64 :=
  seedState (BitVec.ofNat 64 (Nat.xor (field seed 0 32) tensor + 2 ^ 32 * Nat.xor (field seed 32 32) bn))

/-- The draws of a block's 4,096 positions: in pass-through mode only the working copy's and the delta's. -/
def blockDraws (l : LayerRec) (seed bn : Nat) : List Draws :=
  drawList (l.momSr && !isMatrixRule l) (l.momSr && (decide (l.rule = 2) || decide (l.rule = 3))) l.wcSr
    (l.wcSr && l.wcDelta) 4096 (blockGen seed l.tensor bn)

def roundBy (sr : Bool) (draw : Nat) : Rounding := if sr then .stochastic draw else .nearest

/-! ## Moments (R323) -/

/-- The decoded moment as an FP32 word, exact. -/
def momentWord (elem scale : Nat) : Nat := fpEnc (valMul (decodeElem .e4m3 elem) (decodeElem .fp16 scale))

/-- A group's scale: its largest new magnitude divided by 448, rounded up to FP16, at most 65,504. -/
def momentScale (ws : List Nat) : Nat :=
  let vs := ws.map fpDec
  if vs.any (fun v => match v with | .inf _ => true | _ => false) then 0x7BFF
  else
    let m := maxFinMag vs
    if m.1 = 0 then 0 else
    let t := roundMag .fp16 (.stochastic (2 ^ 24)) (m.1 * 2 ^ 40 / 448) (m.2 - 40)
    let up := match decodeElem .fp16 t with
      | .fin _ tm te => valLt (.fin false (448 * tm) te) (.fin false m.1 m.2)
      | _ => false
    min 0x7BFF (t + b2n up)

/-- An element encoded against its group's scale. -/
def momentElem (rnd : Rounding) (scale w : Nat) : Nat :=
  match decodeElem .fp16 scale with
  | .fin _ sm se =>
    if sm = 0 then (if valIsNan (fpDec w) then elemNan .e4m3 else 0)
    else (convert .e4m3 rnd true (valOver sm se (fpDec w))).word
  | _ => 0

/-- One position of a moment: is it updated, its new FP32 value (a carried one's decoded committed value), and its
rounding. -/
structure MomPos where
  upd : Bool
  w : Nat
  rnd : Rounding
  deriving DecidableEq, Repr

/-- One group of a moment: its elements and scale. A wholly carried group is copied unchanged.
Log entry 88 (DESIGN CHOICE). -/
def momentGroup (cur curScale : Map Nat) (n : Nat) (grp : List MomPos) : List Nat × Nat :=
  if grp.all (fun p => !p.upd) then (mapGetList 0 cur (128 * n) 128, mapGet 0 curScale n)
  else
    let sc := momentScale (grp.map (·.w))
    (grp.map fun p => momentElem (if p.upd then p.rnd else .nearest) sc p.w, sc)

/-- The elements and scales of a moment, group by group. -/
def momentGroups (cur curScale : Map Nat) (ps : List MomPos) : Map Nat × Map Nat :=
  (List.range 32).foldl (fun acc n =>
    let g := momentGroup cur curScale n ((ps.drop (128 * n)).take 128)
    (mapSetList 0 acc.1 (128 * n) g.1, mapSet 0 acc.2 n g.2)) ([], [])

/-! ## The mask (R184 to R188) -/

/-- The structured format of a PRUNE setting. -/
def pruneSparse : Prune → Sparse
  | .none => .dense
  | .s24 => .s24
  | .ts24 => .ts24
  | .s14 => .s14
  | .s28 => .s28

/-- The magnitudes of a TS24 tile (tile row `a`, tile column `c`), `4 k + column`. -/
def tileMags (mags : List Nat) (cols a c : Nat) : List Nat :=
  (List.range 16).map fun n => nth 0 mags (cols * (4 * a + n / 4) + 4 * c + n % 4)

/-- The pattern code of a TS24 tile as its 16-bit value, and back. -/
def packPattern (cs : List Nat) : Nat := pack (cs.map fun c => (4, c))
def unpackPattern (v : Nat) : List Nat := (List.range 4).map fun j => field v (4 * j) 4

/-- The codes of a block: by group, number `row group × columns + column`; by tile under TS24, number
`tile row × ⌈columns / 4⌉ + tile column`. -/
def selectCodes (p : Prune) (hold : Nat) (prev : Option (Map Nat)) (mags : List Nat) (rows cols : Nat) : List Nat :=
  match p with
  | .none => []
  | .ts24 =>
    (List.range (rows / 4 * ceilDiv cols 4)).map fun t =>
      packPattern (holdPattern hold (prev.map fun m => unpackPattern (mapGet 0 m t))
        (tileMags mags cols (t / ceilDiv cols 4) (t % ceilDiv cols 4)))
  | _ =>
    let sp := pruneSparse p
    (List.range (rows / sparseGroup sp * cols)).map fun t =>
      holdCode sp hold (prev.map fun m => mapGet 0 m t)
        ((List.range (sparseGroup sp)).map fun q =>
          nth 0 mags (cols * (t / cols * sparseGroup sp + q) + t % cols))

/-- How many codes a block of a setting has (R180). -/
def codeCount (p : Prune) (rows cols : Nat) : Nat :=
  match p with
  | .none => 0
  | .ts24 => rows / 4 * ceilDiv cols 4
  | _ => rows / sparseGroup (pruneSparse p) * cols

/-- The code that governs element (row, column), and the number of its group or tile. -/
def codeOfElem (p : Prune) (codes : List Nat) (cols row col : Nat) : Nat × Nat :=
  match p with
  | .ts24 =>
    let t := row / 4 * ceilDiv cols 4 + col / 4
    (field (nth 0 codes t) (4 * (col % 4)) 4, t)
  | _ =>
    let g := sparseGroup (pruneSparse p)
    let t := row / g * cols + col
    (nth 0 codes t, t)

/-- Is element `i` kept? -/
def keptElem (p : Prune) (codes : List Nat) (cols i : Nat) : Bool :=
  match p with
  | .none => true
  | _ =>
    let sp := pruneSparse p
    let c := codeOfElem p codes cols (i / cols) (i % cols)
    match codePositions sp c.1 with
    | some ps => ps.contains (i / cols % sparseGroup sp)
    | none => false

/-- Groups, or blocks under TS24, of a tensor (R187). -/
def maskGroups (l : LayerRec) : Nat :=
  match l.prune with
  | .none => 0
  | .ts24 => ceilDiv l.k 4 * ceilDiv l.n 4
  | p => ceilDiv l.k (sparseGroup (pruneSparse p)) * l.n

/-! ## The working copy (R329, Table 7.4) -/

/-- A conversion target of a layer record: format code and element code. -/
def cvtOfCodes (fmt elem : Nat) : CvtFmt :=
  if fmt = 9 then .mx ((elemOfCode elem).getD .e2m1) else if fmt = 10 then .t4
  else .elem ((elemOfCode fmt).getD .e4m3)

def fmtElem : CvtFmt → Elem
  | .elem e => e
  | .mx e => e
  | .t4 => .e2m1

/-- An MX scale byte (R166), or a T4 exponent and trims (R167), of the 32 values along K. -/
structure BlockScale where
  x : Nat
  trims : Nat
  deriving DecidableEq, Repr

def scaleOfValues (f : CvtFmt) (vs : List Val) : BlockScale :=
  let m := maxFinMag vs
  match f with
  | .elem _ => { x := 0, trims := 0 }
  | .mx e =>
    { x := if vs.any valIsNan then 0xFF else if m.1 = 0 then (if vs.all valIsZero then 0 else 0xFE)
        else mxScaleByte e m.1 m.2, trims := 0 }
  | .t4 =>
    let x := t4ExpByte m.1 m.2
    let trim (h : List Val) : Nat := if x = 0 then 0 else t4Trim x (maxFinMag h).1 (maxFinMag h).2
    { x := x, trims := trim (vs.take 16) + 16 * trim (vs.drop 16) }

/-- The scale of position `q` of the 32, as a value. -/
def scaleValue (f : CvtFmt) (b : BlockScale) (q : Nat) : Val :=
  match f with
  | .elem _ => .fin false 1 0
  | .mx _ => e8m0 b.x
  | .t4 => t4Scale b.x (field b.trims (4 * (q / 16)) 4)

/-- One element converted under its block's scale. -/
def convertIn (f : CvtFmt) (b : BlockScale) (q : Nat) (rnd : Rounding) (v : Val) : Nat :=
  match f with
  | .elem e => (convert e rnd false v).word
  | _ =>
    match scaleValue f b q with
    | .fin _ m e => (convert (fmtElem f) rnd true (if m = 0 then v else valOver m e v)).word
    | _ => 0

/-- The 32 values along K of scale block `t` (block row × columns + column). -/
def scaleGroup (cols : Nat) (vs : List Val) (t : Nat) : List Val :=
  (List.range 32).map fun q => nth (.fin false 0 0) vs (cols * (32 * (t / cols) + q) + t % cols)

/-- The scales of a block's 4,096 values. -/
def blockScales (f : CvtFmt) (rows cols : Nat) (vs : List Val) : List BlockScale :=
  match f with
  | .elem _ => []
  | _ => (List.range (rows / 32 * cols)).map fun t => scaleOfValues f (scaleGroup cols vs t)

/-- The scale block of element `i`. -/
def scaleOf (cols : Nat) (sc : List BlockScale) (i : Nat) : BlockScale :=
  nth { x := 0, trims := 0 } sc (i / cols / 32 * cols + i % cols)

/-- Elements of `bits` bits packed little-endian, four elements to `bits / 2` bytes (Table 7.4). -/
def packBits (bits : Nat) : List Nat → List Byte
  | a :: b :: c :: d :: rest => bytesLE (bits / 2) (pack [(bits, a), (bits, b), (bits, c), (bits, d)]) ++ packBits bits rest
  | [] => []
  | tail => bytesLE (ceilDiv (bits * tail.length) 8) (pack (tail.map fun w => (bits, w)))

/-- A block quantised: the elements `keep` picks in element order, then scales, then trims, those of padding left out. -/
def quantised (f : CvtFmt) (rows cols : Nat) (vs : List Val) (rnds : List Rounding) (keep valid : Nat → Bool) :
    List Byte :=
  let sc := blockScales f rows cols vs
  let real := ((List.range sc.length).zip sc).filter fun p => valid (32 * cols * (p.1 / cols) + p.1 % cols)
  let idx := (List.range 4096).filter keep
  packBits (elemBits (fmtElem f)) (idx.map fun i =>
      convertIn f (scaleOf cols sc i) (i / cols % 32) (nth .nearest rnds i) (nth (.fin false 0 0) vs i)) ++
    real.flatMap (fun b => bytesLE 1 b.2.x) ++
    (match f with | .t4 => real.flatMap (fun b => bytesLE 1 b.2.trims) | _ => [])

/-- The first element of group or tile `t`. -/
def groupStart (p : Prune) (cols t : Nat) : Nat :=
  match p with
  | .ts24 => cols * (4 * (t / ceilDiv cols 4)) + 4 * (t % ceilDiv cols 4)
  | _ => cols * (sparseGroup (pruneSparse p) * (t / cols)) + t % cols

/-- The codes of a block as they stream: packed little-endian, those of padding left out. -/
def codeStream (p : Prune) (cols : Nat) (valid : Nat → Bool) (codes : List Nat) : List Byte :=
  let real := (((List.range codes.length).zip codes).filter fun c => valid (groupStart p cols c.1)).map (·.2)
  match p with
  | .none => []
  | .ts24 => packBits 16 real
  | _ => packBits (sparseCodeBits (pruneSparse p)) real

/-! ## Digests (R331, R490) -/

/-- The drift coefficients of a block: true for +1. -/
def driftSigns (tensor bn : Nat) : List Bool :=
  (drawList true false false false 4096 (seedState (BitVec.ofNat 64 (tensor % 2 ^ 32 + 2 ^ 32 * bn)))).map fun d =>
    decide (d.m1 % 2 = 1)

/-- A finite FP32 word as an integer multiple of 2^−149; 0 for infinities and NaNs. -/
def fixed149 (w : Nat) : Int :=
  match fpDec w with
  | .fin s m e => let v : Int := (m * 2 ^ (e + 149).toNat : Nat); if s then -v else v
  | _ => 0

/-- Σ cᵢ mᵢ in units of 2^−149.
Log entry 87 (DEDUCED). -/
def driftSum (signs : List Bool) (ws : List Nat) : Int :=
  ((signs.zip ws).map fun p => if p.1 then fixed149 p.2 else -fixed149 p.2).sum

/-- The unit in the last place of the working format at a value, scales included, as an FP32 word. -/
def ulpAt (f : CvtFmt) (b : BlockScale) (q w : Nat) : Nat :=
  let e := fmtElem f
  match fpDec w, scaleValue f b q with
  | .fin _ m x, .fin _ sm se =>
    if sm = 0 then 0 else
    match valOver sm se (.fin false m x) with
    | .fin _ qm qx =>
      let top := elemEmax e - (elemManBits e : Int)
      let u := if qm = 0 then elemMinExp e else min top (max (elemMinExp e) (leadExp qm qx - (elemManBits e : Int)))
      fpEnc (valMul (.fin false 1 u) (.fin false sm se))
    | _ => 0
  | _, _ => 0

/-- s = fma(u, u, s) over a list. -/
def sumSquares (us : List Nat) : Nat := us.foldl (fun s u => fpFma false u u s) 0

/-- The mirror digest of the new master's words, padding excluded, with their signs (Table 16.4). -/
def mirrorOf (signs : List Bool) (ws : List Nat) : MirDigest :=
  let finite := ws.filter fun w => decide (field w 23 8 ≠ 0xFF)
  let maxe := finite.foldl (fun a w => max a (field w 23 8)) 0
  let term (p : Bool × Nat) : Int :=
    match fpDec p.2 with
    | .fin s m e =>
      let sh := e - ((maxe : Int) - 176)
      let v : Int := if 0 ≤ sh then (m * 2 ^ sh.toNat : Nat) else (m / 2 ^ (-sh).toNat : Nat)
      if s = p.1 then -v else v
    | _ => 0
  { maxe := maxe, nan := decide (finite.length ≠ ws.length), crc := crc32 (ws.flatMap (bytesLE 4))
    proj := ((signs.zip ws).map term).sum }

/-! ## One block through the pipe -/

/-- What the pipe writes and forms for a block. -/
structure PipeOut where
  bank : OwnerBlock
  nonfinite : Bool
  changes : Nat
  sumsq : Nat
  driftE : Int
  driftU : Nat
  digest : MirDigest
  fullCopy : List Byte
  delta : List Byte
  deriving DecidableEq, Repr

/-- What the pipe works from: the record, block number, block, current bank, the bank that a matrix rule's region has
written, the step's effective scale and GSCALE, the hold and the step seed. -/
structure PipeIn where
  l : LayerRec
  bn : Nat
  o : BlockS
  cur : OwnerBlock
  other : OwnerBlock
  gs : Nat
  gscale : Nat
  hold : Nat
  seed : Nat

/-- Is element `i` updated by the rule? -/
def updates (p : PipeIn) (carry : Bool) (i : Nat) : Bool :=
  !carry && inTensor p.l p.bn i && rowTrained p.o i

/-- The rule's outcome at element `i`; carried elements keep their values. -/
def elemOut (p : PipeIn) (carry : Bool) (i : Nat) : RuleOut :=
  let w := mapGet 0 p.cur.master i
  let m := momentWord (mapGet 0 p.cur.m1 i) (mapGet 0 p.cur.m1Scale (i / 128))
  let r := momentWord (mapGet 0 p.cur.m2 i) (mapGet 0 p.cur.m2Scale (i / 128))
  if updates p carry i then
    ruleStep p.l (p.l.updates + 1) w (gradWord (mapGet 0 p.o.acc i) p.o.bexp p.gs) m r
  else { m := m, r := r, w := w }

/-- The new master: the rule's, a matrix region's, or the committed one. -/
def newMaster (p : PipeIn) (carry : Bool) (outs : List RuleOut) : List Nat :=
  if isMatrixRule p.l && !carry then
    (List.range 4096).map fun i => if updates p carry i then mapGet 0 p.other.master i else mapGet 0 p.cur.master i
  else outs.map (·.w)

/-- SUMSQ: over the elements that the rule updates, before the clipping factor (R322). -/
def sumsqOf (p : PipeIn) (carry : Bool) : Nat :=
  sumSquares (((List.range 4096).filter (updates p carry)).map fun i =>
    gradWord (mapGet 0 p.o.acc i) p.o.bexp p.gscale)

/-- The bank's moments, factors and error memories after the pipe. Error memories written at group completion or with
the total stand in the other bank already (R311); a carried block keeps the committed ones. -/
def newBank (p : PipeIn) (carry nonHome home : Bool) (outs : List RuleOut) (ds : List Draws) (master codes : List Nat) :
    OwnerBlock :=
  let pos (sel : RuleOut → Nat) (draw : Draws → Nat) : List MomPos :=
    ((List.range 4096).zip (outs.zip ds)).map fun x =>
      { upd := updates p carry x.1, w := sel x.2.1, rnd := roundBy p.l.momSr (draw x.2.2) }
  let matrix := isMatrixRule p.l && !carry
  let m1 := if matrix then (p.other.m1, p.other.m1Scale) else momentGroups p.cur.m1 p.cur.m1Scale (pos (·.m) (·.m1))
  let m2 := if matrix then (p.other.m2, p.other.m2Scale)
    else if p.l.rule = 1 then (p.cur.m2, p.cur.m2Scale) else momentGroups p.cur.m2 p.cur.m2Scale (pos (·.r) (·.m2))
  { master := mapSetList 0 [] 0 master, m1 := m1.1, m1Scale := m1.2, m2 := m2.1, m2Scale := m2.2
    codes := mapSetList 0 [] 0 codes
    codesValid := if carry then p.cur.codesValid else decide (p.l.prune ≠ .none)
    sendErr := if carry || !nonHome then p.cur.sendErr else p.other.sendErr
    retErr := if carry || !home then p.cur.retErr else p.other.retErr
    factors := if matrix then p.other.factors else p.cur.factors }

/-- The delta payload (Table 10.7, R330): unchanged groups as MX-scaled differences, then each changed group's index,
code and kept values in the working format. -/
def deltaBytes (p : PipeIn) (ds : List Draws) (master codes : List Nat) (changed : List Nat) : List Byte :=
  let cols := blockCols p.l
  let rows := blockRows p.l
  let diffs := (List.range 4096).map fun i =>
    valAdd (fpDec (nth 0 master i)) (valNeg (fpDec (mapGet 0 p.cur.master i)))
  let kept (i : Nat) : Bool := inTensor p.l p.bn i && keptElem p.l.prune codes cols i
  let groupNo (i : Nat) : Nat := (codeOfElem p.l.prune codes cols (i / cols) (i % cols)).2
  let same (i : Nat) : Bool := kept i && !(changed.contains (groupNo i) && decide (p.l.prune ≠ .none))
  let f := CvtFmt.mx ((elemOfCode p.l.deltaElem).getD .e2m1)
  let base := quantised f rows cols diffs (ds.map fun d => roundBy p.l.wcSr d.delta) same (inTensor p.l p.bn)
  let wf := cvtOfCodes p.l.wcFmt p.l.wcElem
  let vals := (List.range 4096).map fun i => if kept i then fpDec (nth 0 master i) else .fin false 0 0
  let sc := blockScales wf rows cols vals
  base ++ changed.flatMap fun t =>
    bytesLE 4 t ++ bytesLE 2 (nth 0 codes t) ++
      packBits (elemBits (fmtElem wf)) (((List.range 4096).filter fun i => kept i && decide (groupNo i = t)).map fun i =>
        convertIn wf (scaleOf cols sc i) (i / cols % 32) (roundBy p.l.wcSr (nth { m1 := 0, m2 := 0, wc := 0, delta := 0 } ds i).wc)
          (nth (.fin false 0 0) vals i))

/-- One pass of the pipe over a block; `carry` copies every element (R322). What the digest expects of the working copy is the
kept masters, and zero where the code keeps none (R188, R331).
Log entry 130 (DEDUCED). -/
def pipePass (p : PipeIn) (carry nonHome home : Bool) : PipeOut :=
  let ds := blockDraws p.l p.seed p.bn
  let outs := (List.range 4096).map (elemOut p carry)
  let master := newMaster p carry outs
  let cols := blockCols p.l
  let rows := blockRows p.l
  let prev := if p.cur.codesValid then some p.cur.codes else none
  let codes :=
    if carry then mapGetList 0 p.cur.codes 0 (codeCount p.l.prune rows cols)
    else selectCodes p.l.prune p.hold prev (master.map fp32Mag) rows cols
  let changed := match prev with
    | none => []
    | some m => if carry then [] else (List.range codes.length).filter fun t => decide (nth 0 codes t ≠ mapGet 0 m t)
  let valid (i : Nat) : Bool := inTensor p.l p.bn i
  let idx := (List.range 4096).filter valid
  let ws := idx.map fun i => nth 0 master i
  let signs := driftSigns p.l.tensor p.bn
  let sg := idx.map fun i => nth false signs i
  let wf := cvtOfCodes p.l.wcFmt p.l.wcElem
  let keep (i : Nat) : Bool := valid i && keptElem p.l.prune codes cols i
  let vals := (List.range 4096).map fun i => if keep i then fpDec (nth 0 master i) else .fin false 0 0
  let sc := blockScales wf rows cols vals
  { bank := newBank p carry nonHome home outs ds master codes
    nonfinite := decide (p.l.wcFmt = 10) && ws.any fun w => decide (field w 23 8 = 0xFF)
    changes := changed.length
    sumsq := sumsqOf p carry
    driftE := driftSum sg (idx.map fun i => if keep i then nth 0 master i else 0)
    driftU := sumSquares ((idx.filter keep).map fun i => ulpAt wf (scaleOf cols sc i) (i / cols % 32) (nth 0 master i))
    digest := mirrorOf sg ws
    fullCopy := quantised wf rows cols vals (ds.map fun d => roundBy p.l.wcSr d.wc) keep valid ++
      codeStream p.l.prune cols valid codes
    delta := deltaBytes p ds master codes changed }

/-- The pipe on a block (R322, R329): a block whose new master a T4 working copy cannot carry is carried instead. -/
def pipeBlock (p : PipeIn) (carry nonHome home : Bool) : PipeOut :=
  let a := pipePass p carry nonHome home
  if !carry && a.nonfinite then { pipePass p true nonHome home with nonfinite := true } else { a with nonfinite := false }

end Sys2Proof.Machine
end

