-- ==== Sys2Proof/Machine/Boot.lean ====
section
/-! DEFINITION. Resets, the start, the boot journal's slot choice, recovery mode and the watchdogs (chapter 14). -/

namespace Sys2Proof.Machine

/-! ## Resets -/

/-- The input filters over a reset: PIN_STUCK is cleared, since no register but BOOT.HELD keeps its value (R544), and the
stuck times run anew; the accepted levels, which PIN_STATE shows (R524), are those of the pins.
Log entry 102 (DEDUCED). -/
def pinsAfterReset (s : State) : PinsS :=
  { s.pins with stuck := 0, since := s.pins.since.map fun e => (e.1, s.now + 1), haltSent := false }

/-- What a reset leaves: flash, pins, test access and the outside; every register at its reset value, stacked memory
without contents, because no domain but the standby regulator is powered (R10, R443, R526). -/
def resetModule (startNext : Bool) (s : State) : State :=
  { State.reset with
    now := s.now, freeCtr := s.freeCtr, sent := s.sent, pending := s.pending, flash := s.flash, pins := pinsAfterReset s
    tap := s.tap
    boot := { State.reset.boot with refclk := s.boot.refclk, startPending := startNext }
    power := { State.reset.power with thr := bitAt s.pins.asserted 2, alert := bitAt s.pins.asserted 4 } }

/-- The module off: the input below the drop-out level (R443, R462, R472). The pins read their pulls, and BOOT.HELD goes
(R544). -/
def powerOff (s : State) : State :=
  let s1 := resetModule false s
  { s1 with pins := { asserted := 1 }, power := { State.reset.power with present := false }
            flash := { s1.flash with rstHeld := false, pgHeld := false, heldDue := false }
            boot := { s1.boot with state := .off, refclk := false } }

/-- A FAULT_RESET entry naming an image, then a reset as RST_N does (Table 14.10, R532). -/
def faultReset (image : Nat) (s : State) : State := resetModule true (journalEntry 0x25 0 image s.boot.slotB 0 s)

/-! ## Reading the journal -/

/-- The steps of Table 14.8. -/
def isStartStep (n : Nat) : Bool := decide (1 ≤ n) && decide (n ≤ 0x0E)

/-- The entries since the last READY, ACTIVATE or RETRY entry, latest first. -/
def sinceReady (s : State) : List JournalEntry :=
  s.flash.journal.reverse.takeWhile fun e =>
    !((decide (e.step = 0x0E) && decide (e.result = 1)) || decide (e.step = 0x20) || decide (e.step = 0x24))

/-- The start numbers of the starts that did not reach READY, latest first. -/
def failedStarts (s : State) : List Nat :=
  ((sinceReady s).filter fun e => isStartStep e.step).foldl
    (fun l e => if l.contains e.start then l else l ++ [e.start]) []

/-- The fail run. -/
def failRun (s : State) : Nat := (failedStarts s).length

/-- The last entry of the last failed start: its step is the one that failed. -/
def failedAt (s : State) : Option JournalEntry := (sinceReady s).find? fun e => isStartStep e.step

/-- The classes of Table 14.8. -/
inductive StepClass where
  | none | hardware | image | optional
  deriving DecidableEq, Repr

def stepClass (n : Nat) : StepClass :=
  if n = 2 ∨ n = 0x0E then .none
  else if 3 ≤ n ∧ n ≤ 7 then .image
  else if n = 0x0A then .optional
  else .hardware

/-- The slot in which the latest start to reach READY ran. -/
def lastRunning (js : List JournalEntry) : Option Bool :=
  (js.reverse.find? fun e => decide (e.step = 0x0E) && decide (e.result = 1)).map (·.slotB)

/-- The standing preferred slot: that of the last ACTIVATE entry, else A; a later SLOT_WRITTEN entry for it returns
the preference to the slot that ran when it was written (R421). -/
def preferredSlot (s : State) : Bool :=
  s.flash.journal.zipIdx.foldl (fun p e =>
    if e.1.step = 0x20 then e.1.slotB
    else if e.1.step = 0x22 ∧ e.1.slotB = p then (lastRunning (s.flash.journal.take e.2)).getD p
    else p) false

/-- Does a VERIFIED entry stand for a slot with no later SLOT_WRITTEN entry?
Log entry 35 (DEDUCED). -/
def slotVerified (s : State) (b : Bool) : Bool :=
  match s.flash.journal.reverse.find? fun e => (decide (e.step = 0x21) || decide (e.step = 0x22)) && decide (e.slotB = b) with
  | some e => decide (e.step = 0x21)
  | none => false

/-- What the slot choice decides (R430). -/
inductive TestMode where
  | normal | quickForced | fullRequired
  deriving DecidableEq, Repr

/-- R430's procedure: a slot and test mode, or recovery (`none`). `usable` tells which slots are usable. -/
def selectSlot (s : State) (usable : Bool → Bool) : Option (Bool × TestMode) :=
  if failRun s = 0 then some (preferredSlot s, .normal)
  else if 3 ≤ failRun s then none
  else
    let last := failedAt s
    let b := (last.map (·.slotB)).getD false
    let k := stepClass ((last.map (·.step)).getD 0)
    if k = .optional then some (b, .quickForced)
    else if k = .hardware ∧ failRun s = 1 then some (b, .normal)
    else if usable (!b) then some (!b, .fullRequired)
    else if k = .hardware then some (b, .fullRequired)
    else none

/-- A slot whose device is absent cannot be chosen (R419). -/
def withDevice (devA devB : Bool) : Option (Bool × TestMode) → Option (Bool × TestMode)
  | none => none
  | some (b, m) =>
    let present (x : Bool) : Bool := if x then devB else devA
    if present b then some (b, m) else if present (!b) then some (!b, m) else none

/-! ## Bundles (Tables 14.4 to 14.7) -/

/-- Bytes of a slot's BUNDLE area; an erased one reads 0xFF. -/
def bundleBytes (s : State) (slotB : Bool) (o n : Nat) : List Byte :=
  mapGetList 0xFF#8 (if slotB then s.flash.bundleB else s.flash.bundleA) o n

/-- A little-endian number there. -/
def bundleNum (s : State) (slotB : Bool) (o n : Nat) : Nat := ofBytesLE (bundleBytes s slotB o n)

/-- The BUNDLE area's size (Table 14.2). -/
def bundleArea : Nat := 96 * 2 ^ 20

/-- The image table entry of image `i`. -/
def imageEntry (i : Nat) : Nat := 64 + 64 * i

/-- The Format check of Table 14.7. The signature block takes 5,361 bytes (Table 14.6). -/
def formatOk (s : State) (slotB : Bool) : Bool :=
  let num := bundleNum s slotB
  let sig := num 36 4
  decide (num 0 4 = 0x4E444256) && decide (num 4 2 = 1) && decide (num 6 1 = 4) && decide (1 ≤ num 7 1) && decide (num 7 1 ≤ 8) &&
    decide (num 18 6 = 0) && decide (num 40 24 = 0) && decide (sig + 5361 ≤ bundleArea) && decide (num (sig + 1) 3 = 0) &&
    (List.range 4).all fun i =>
      let e := imageEntry i
      decide (num e 1 = i + 1) && decide (num (e + 1) 1 = 0) && decide (num (e + 12) 4 = 0) &&
        decide (num (e + 4) 4 + num (e + 8) 4 ≤ bundleArea)

/-- Is the block's key slot valid: its fuse intact, its digest that of the two public keys (R422)? -/
def keySlotOk (s : State) (slotB : Bool) (c : BundleChecks) : Bool :=
  let k := bundleNum s slotB (bundleNum s slotB 36 4) 1
  decide (k < 4) && bitAt s.flash.keyFuses k && c.keyMatches

/-- Does STEPPING_LIST hold the module's stepping? -/
def steppingOk (s : State) (slotB : Bool) : Bool :=
  (List.range (bundleNum s slotB 7 1)).any fun i => decide (bundleNum s slotB (24 + i) 1 = s.flash.stepping)

/-- The first check of Table 14.7 that a slot's bundle fails. -/
def bundleFault (s : State) (slotB : Bool) (c : BundleChecks) : Option BundleFault :=
  if !formatOk s slotB then some .format
  else if !keySlotOk s slotB c then some .keySlot
  else if !c.ed || !c.mldsa then some (.signature (!c.ed) (!c.mldsa))
  else if !steppingOk s slotB then some .stepping
  else c.badImage.map .image

/-- BUNDLE_VERSION and GPE, the interface epochs (IFACE_EPOCH of images 0 to 3, 16 bits each), and the digests that MEAS0 to
MEAS4 are extended with (R425). -/
def bundleVersion (s : State) (slotB : Bool) : Nat := bundleNum s slotB 8 8
def bundleGpe (s : State) (slotB : Bool) : Nat := bundleNum s slotB 16 2
def bundleEpochs (s : State) (slotB : Bool) : Nat :=
  ofBytesLE ((List.range 4).flatMap fun i => bundleBytes s slotB (imageEntry i + 2) 2)
def bundleMeasures (s : State) (slotB : Bool) : List Nat :=
  Config.sha384 (bundleBytes s slotB 0 320) :: (List.range 4).map fun i => bundleNum s slotB (imageEntry i + 16) 48

/-! ## Steps of a start -/

def passStep (step : Nat) (data : Nat) (s : State) : State :=
  let s1 := journalEntry step 1 0 s.boot.slotB data (journalEntry step 0 0 s.boot.slotB 0 s)
  { s1 with boot := { s1.boot with lastStep := step, step := step, begunAt := s1.now } }

/-- A step that fails: the entry, then a reset as RST_N does, and the next start (R426). -/
def failStep (step code : Nat) (s : State) : State :=
  resetModule true (journalEntry step 2 code s.boot.slotB 0 (journalEntry step 0 0 s.boot.slotB 0 s))

/-- A step that does not end: its BEGUN entry stands alone until START_STEP_TIMEOUT. -/
def hangStep (step : Nat) (s : State) : State :=
  let s1 := journalEntry step 0 0 s.boot.slotB 0 s
  { s1 with boot := { s1.boot with step := step, begunAt := s1.now } }

/-- The journal code of a bundle check (Table 14.7). -/
def bundleCode : BundleFault → Nat
  | .format => 0x0031
  | .keySlot => 0x0032
  | .signature _ _ => 0x0033
  | .stepping => 0x0034
  | .image _ => 0x0035

/-- A new start number (or attempt): every register is at its reset value, and the failing run is as the journal has
it. -/
def beginStart (slotB : Bool) (s : State) : State :=
  let n := (s.flash.journal.getLast?.map (·.start)).getD 0 + 1
  { s with boot := { s.boot with start := n, startAt := s.now, slotB := slotB, failRun := failRun s } }

/-- Recovery mode (R432): the recovery program runs with ports E0 and E4 and the sideband; MEAS read zero. -/
def enterRecovery (s : State) : State :=
  { s with boot := { s.boot with state := .recovery, meas := [], startPending := false }
           side := { s.side with answering := true }
           host := { s.host with ports := s.flash.ports, allow := s.flash.allow } }

/-! ## Self-test (R100 to R105) -/

/-- A core's key from its coordinates on the wafer, 560 across and 1,536 up (R2). -/
def coreAt (x y : Nat) : Nat := coreKey (blockAt (x / 4) (y / 4)) (4 * (y % 4) + x % 4)

def coreX (k : Nat) : Nat := 4 * blockBx (k / 16) + k % 4
def coreY (k : Nat) : Nat := 4 * blockBy (k / 16) + k % 16 / 4

/-- The testers of a core: its up to four neighbours, across field boundaries too, in fields that are not dark (R100). -/
def testersOf (s : State) (k : Nat) : List Nat :=
  let x := coreX k
  let y := coreY k
  let near := (if x + 1 < 560 then [coreAt (x + 1) y] else []) ++ (if 0 < x then [coreAt (x - 1) y] else []) ++
    (if y + 1 < 1536 then [coreAt x (y + 1)] else []) ++ (if 0 < y then [coreAt x (y - 1)] else [])
  near.filter fun n => !isDark s (n / 16 / 640)

/-- How many of some testers judge a core failed: its result differs from the expected values. -/
def failVotes (r : TestResult) (testers : List Nat) (k : Nat) : Nat :=
  (testers.filter fun t => r.mismatches.contains (t, k)).length

/-- Add what a list does not hold yet. -/
def addNew (l new : List Nat) : List Nat := new.foldl (fun a x => if a.contains x then a else a ++ [x]) l

/-- The first pass (R101): the cores that a strict majority of their testers judge failed. -/
def firstPass (s : State) (r : TestResult) : List Nat :=
  (addNew [] (r.mismatches.map (·.2))).filter fun k =>
    let ts := testersOf s k
    decide (ts.length < 2 * failVotes r ts k)

/-- The second pass (R101): the verdict from testers not marked failed; no such tester, or an even split, marks a core
failed. -/
def coreVerdicts (s : State) (r : TestResult) : List Nat :=
  let bad := firstPass s r
  (addNew (addNew [] (r.mismatches.map (·.2))) (bad.flatMap (testersOf s))).filter fun k =>
    let ts := (testersOf s k).filter fun t => !bad.contains t
    decide (ts.length ≤ 2 * failVotes r ts k)

/-- A field's defect map: its failed cores, routers and wires, a link's by the router that names it (R102). -/
def fieldDefects (cores : List Nat) (r : TestResult) (f : Nat) : DefectMap :=
  { cores := cores.filter fun k => decide (k / 16 / 640 = f), routers := r.routers.filter fun b => decide (b / 640 = f)
    wires := r.wires.filter fun w => decide (w.1 / 4 / 640 = f) }

/-- The module defect map: the field maps merged, with the time and kind of the test and the map's SHA-384 (R102). -/
def moduleDefects (cores : List Nat) (kind : TestKind) (r : TestResult) (s : State) : DefectMap :=
  let m := (List.range 84).foldl (fun a f =>
    let d := fieldDefects cores r f
    { a with cores := a.cores ++ d.cores, routers := a.routers ++ d.routers, wires := a.wires ++ d.wires })
    ({ time := moduleTime s, quick := decide (kind = .quick) } : DefectMap)
  { m with digest := Config.sha384 (Config.defectBytes (m.cores ++ m.routers ++ m.wires.flatMap (fun w => [w.1, w.2]) ++
      [m.time, b2n m.quick])) }

/-- The blocks that hold a failed core or router (R68). -/
def blocksOut (r : DefectMap) : List Nat :=
  (r.cores.map (· / 16) ++ r.routers).foldl (fun l b => if l.contains b then l else l ++ [b]) []

/-- A self-test's result becomes the module defect map (R102): a quick test keeps the core verdicts of the stored map (Table
3.6). MEAS5 is extended and a DEFECT entry written. -/
def storeDefects (kind : TestKind) (r : TestResult) (s : State) : State :=
  let m := moduleDefects (if kind = .quick then s.flash.defectMap.cores else coreVerdicts s r) kind r s
  let s1 := { s with
    flash := { s.flash with defectMap := m, defectStart := if kind = .full then s.boot.start else s.flash.defectStart
                            defectQuick := m.quick }
    fabric := { s.fabric with failedCores := m.cores, failedRouters := m.routers, failedWires := m.wires
                              outBlocks := blocksOut m } }
  let z := { sizeNow s1 with defectAge := m.time, defectQuick := m.quick }
  putSize z (journalEntry 0x23 0 0 s.boot.slotB m.digest (extendMeas 5 (bytesLE 48 m.digest) s1))

/-- The kind of self-test a start runs (R428, R431); `none` for recovery, a forced quick test on a bad map. -/
def testKind (mode : TestMode) (mapOk : Bool) (s : State) : Option TestKind :=
  match mode with
  | .quickForced => if mapOk then some .quick else none
  | .fullRequired => some .full
  | .normal =>
    if mapOk && decide (s.flash.stepping ≠ 0xA0) && decide (s.flash.defectStart ≠ 0) &&
        decide (s.boot.start ≤ s.flash.defectStart + s.flash.freshStarts) then some .quick else some .full

/-- The fields left dark during POWER_UP and CONTROL_UP (R427): no event until NET_UP. -/
def leaveDark (fs : List Nat) (s : State) : State :=
  each (fs.filter fun f => decide (f < 84)) (fun f st =>
    setField f { state := .dark, pllLocked := false, controlRunning := false, mapCopy := false } st) s

/-- LANE_TRAIN: the lanes whose far end trained, with its delay and identity record (R340, R427). -/
def trainLanes (ls : List (Nat × Nat × BitVec 80)) (s : State) : State :=
  each (ls.filter fun l => decide (l.1 < 1344) && !isDark s (l.1 / 16)) (fun l st =>
    setLane l.1 { trained := true, delay := l.2.1, identity := l.2.2.toNat } st) s

/-- MEMORY_TRAIN: the stripe set is the reachable stacks, ascending. Each row of the memory defect list is repaired where a
spare row remains, and the others exclude their 1 MiB span (R254, R261). -/
def trainMemory (repaired : List (Nat × Nat)) (s : State) : State :=
  let left := s.flash.memDefects.filter fun e => !repaired.contains e
  let spans := left.foldl (fun l e => if l.contains (e.1, e.2 / 2 ^ 14) then l else l ++ [(e.1, e.2 / 2 ^ 14)]) []
  { s with mem := { s.mem with stripe := (List.range 32).filter (stackReachable s), excluded := spans }
           flash := { s.flash with memDefects := left } }

/-- The last steps of a start: from POWER_UP, in the order of Table 14.8. Each entry is a step and what it does. -/
def startSteps (facts : StartFacts) (kind : TestKind) : List (Nat × (State → State)) :=
  let test := if kind = .quick then 0x09 else 0x0A
  [(0x04, id),
   (0x05, fun s => leaveDark facts.darkFields { s with side := { s.side with answering := true } }),
   (0x06, id), (0x07, id),
   (0x08, trainMemory facts.repaired),
   (test, fun s => journalEntry (0x13 - test) 3 0 s.boot.slotB 0 s),
   (0x0B, storeDefects kind facts.test),
   (0x0C, trainLanes facts.lanes),
   (0x0D, fun s => { s with host := { s.host with ports := s.flash.ports, allow := s.flash.allow } }),
   (0x0E, fun s => { s with boot := { s.boot with state := .ready } })]

/-- Does a step fail by R427 whatever the facts name: POWER_UP with every field lost, MEMORY_TRAIN with no stack? -/
def stepFails (facts : StartFacts) (step : Nat) (s : State) : Option Nat :=
  match facts.failStep with
  | some (n, code) => if n = step then some code else none
  | none =>
    if step = 5 ∧ (List.range 84).all (fun f => facts.darkFields.contains f) = true then some 0x0041
    else if step = 8 ∧ (List.range 32).all (fun m => !stackReachable s m) = true then some 0x0041
    else none

/-- Run the steps in order; a failed step resets, a step that does not end waits for its timeout. -/
def runSteps (facts : StartFacts) : List (Nat × (State → State)) → State → State
  | [], s => s
  | (n, f) :: rest, s =>
    if facts.hangs = some n then hangStep n s
    else match stepFails facts n s with
      | some code => failStep n code s
      | none => runSteps facts rest (passStep n 0 (f s))

/-- What follows READY: the events of fields left dark (R440), the parts that they cut off darkened (R81), the route tables
(R79, R80) and the size table. -/
def afterReady (s : State) : State :=
  if s.boot.state = .ready then
    refreshSize (installRoutes (darkenParts
      (each ((List.range 84).filter fun f => isDark s f) (fun f st => fieldEvent 2 f 5 st) s)))
  else s

/-- The start from SECURITY_UP, once VERIFY has passed. -/
def startVerified (facts : StartFacts) (slotB : Bool) (kind : TestKind) (s : State) : State :=
  let m := bundleMeasures s slotB
  let s1 := each (List.range 5) (fun i st => extendMeas i (bytesLE 48 (nth 0 m i)) st)
    { s with boot := { s.boot with gpe := bundleGpe s slotB, version := bundleVersion s slotB, iface := bundleEpochs s slotB
                                   quick := decide (kind = .quick) } }
  afterReady (runSteps facts (startSteps facts kind)
    (passStep 3 (bundleVersion s slotB + 2 ^ 64 * bundleGpe s slotB) s1))

/-- The attempts of one start: ROM_START, SLOT_SELECT, VERIFY; a VERIFY that fails counts as a failed start, and the
ROM chooses again at once (R430). The first argument bounds the attempts.
Log entry 26 (DEDUCED). -/
def attempt (facts : StartFacts) : Nat → State → State
  | 0, s => enterRecovery s
  | n + 1, s =>
    let usable (b : Bool) : Bool := (if b then facts.devB else facts.devA) && slotVerified s b
    let choice := withDevice facts.devA facts.devB (selectSlot s usable)
    let s0 := beginStart ((choice.map (·.1)).getD false) s
    let contact := facts.contactFails && decide (n = 3)
    if facts.hangs = some 1 then hangStep 1 s0
    else if contact && decide (failRun s < 3) then failStep 1 0x0041 s0
    else
      let rom := if contact then journalEntry 1 2 0x0041 s0.boot.slotB 0 (journalEntry 1 0 0 s0.boot.slotB 0 s0)
        else passStep 1 0 s0
      if facts.hangs = some 2 then hangStep 2 rom
      else match stepFails facts 1 rom, stepFails facts 2 rom, choice with
      | some c, _, _ => failStep 1 c s0
      | _, some c, _ => failStep 2 c rom
      | _, _, none => enterRecovery (passStep 2 0 rom)
      | _, _, some (b, mode) =>
        let s1 := passStep 2 0 rom
        match bundleFault s1 b (if b then facts.checksB else facts.checksA) with
        | some f => attempt facts n (journalEntry 3 2 (bundleCode f) b 0 (journalEntry 3 0 0 b 0 s1))
        | none =>
          match testKind mode facts.mapDigestOk s1 with
          | none => enterRecovery s1
          | some kind => if facts.hangs = some 3 then hangStep 3 s1 else startVerified facts b kind s1

/-- What the start writes first: an entry of held pins, whose kind Table 14.9 does not list and which is a free value
(Table 18.4), and a FAULT_RESET of the security image's watchdog (Table 14.10). -/
def startPreamble (s : State) : State :=
  let s0 := if s.flash.heldDue then
      let d := drawFree { s with flash := { s.flash with heldDue := false } }
      journalEntry (0x26 + d.1 % 0xDA) 0 0 false 0 d.2
    else s
  if s0.flash.watchdog then
    let s1 := journalEntry 0x25 0 1 false 0 s0
    { s1 with flash := { s1.flash with watchdog := false } }
  else s0

/-- May a start begin: in reset with one due, the input present, PWR_GOOD high and RST_N released?
Log entry 30 (DESIGN CHOICE). -/
def startDue (s : State) : Bool :=
  decide (s.boot.state = .reset) && s.boot.startPending && s.power.present && bitAt s.pins.asserted 1 &&
    !bitAt s.pins.asserted 0

/-- MODULE_START (R426 to R432): waits in ROM_START until REFCLK has been present for 1 ms (R530). -/
def execModuleStart (t : Nat) (facts : StartFacts) (s : State) : Host.Outcome State Fault Refusal :=
  let s1 := atTime t s
  .next (if !startDue s1 then s1
    else if !s1.boot.refclk then { s1 with boot := { s1.boot with refclkWait := true } }
    else attempt facts 4 (startPreamble { s1 with boot := { s1.boot with
      state := .starting, startPending := false, devA := facts.devA, devB := facts.devB } }))

/-- START_STEP_TIMEOUT: a step that has not ended 2 s after its BEGUN entry fails with TIMEOUT (R426). -/
def execStartStepTimeout (t : Nat) (s : State) : Host.Outcome State Fault Refusal :=
  let s1 := atTime t s
  .next (if s1.boot.state = .starting ∧ s1.boot.begunAt + 2000000000 ≤ t then
      resetModule true (journalEntry s1.boot.step 2 0x0040 s1.boot.slotB 0 s1)
    else s1)

/-- REFCLK_PRESENT: a start that waited in ROM_START may go on (R530). -/
def execRefclkPresent (t : Nat) (s : State) : Host.Outcome State Fault Refusal :=
  let s1 := atTime t s
  .next (whenPowered (fun st => { st with boot := { st.boot with refclk := true, refclkWait := false } }) s1)

/-- REFCLK_LOST (R532): every lit field at S = 4, a FAULT_RESET entry, and a reset; starts wait for REFCLK. -/
def execRefclkLost (t : Nat) (s : State) : Host.Outcome State Fault Refusal :=
  let s1 := atTime t s
  .next (whenPowered (fun st =>
    let s2 := { st with boot := { st.boot with refclk := false } }
    if st.boot.state = .reset then s2 else faultReset 0 s2) s1)

/-- INPUT_POWER_PRESENT: the module leaves the off state for reset (R443). -/
def execInputPowerPresent (t : Nat) (s : State) : Host.Outcome State Fault Refusal :=
  let s1 := atTime t s
  .next (if s1.boot.state = .off then
      { s1 with power := { s1.power with present := true }
                boot := { s1.boot with state := .reset, startPending := false } }
    else s1)

/-- FIELD_CONTROL_WATCHDOG (Table 14.10): the core is halted, the field runs on, and the step rolls back; a
FIELD_RETURN that the core held ends with 0x0F01. -/
def execFieldControlWatchdog (f : FieldId) (s : State) : Host.Outcome State Fault Refusal :=
  .next (whenReady (fun st =>
    if isDark st f.val || !(fieldS st f.val).controlRunning then st else
    let s1 := setField f.val { fieldS st f.val with controlRunning := false } st
    let s2 := { s1 with boot := { s1.boot with reloading := s1.boot.reloading ++ [f.val] } }
    let s3 := finish (fun b => match b with | .fieldReturn g => decide (g = f.val) | _ => false) 0x0F01 4 [] s2
    rollFault { cls := 9, code := 4, field := f.val } 5 s3) s)

/-- FIELD_CONTROL_RELOAD_DONE: the image runs again once it has passed its manifest DIGEST (R415); a re-placement's
bounds run again from here (Table 14.12). -/
def execFieldControlReloadDone (f : FieldId) (ok : Bool) (s : State) : Host.Outcome State Fault Refusal :=
  .next (whenReady (fun st =>
    if !st.boot.reloading.contains f.val then st
    else if !ok then faultEvent { cls := 9, code := 0x0035, field := f.val } st
    else
      let s1 := setField f.val { fieldS st f.val with controlRunning := true } st
      let s2 := { s1 with boot := { s1.boot with reloading := s1.boot.reloading.filter fun g => decide (g ≠ f.val) } }
      if s2.place.replacing then { s2 with place := { s2.place with replacingStart := s2.now } } else s2) s)

/-- SCHEDULER_WATCHDOG: a FAULT_RESET entry, then a reset. -/
def execSchedulerWatchdog (t : Nat) (s : State) : Host.Outcome State Fault Refusal :=
  .next (whenReady (faultReset 3) (atTime t s))

/-- POWER_MGMT_WATCHDOG: hardware dims every lit field, then a FAULT_RESET entry and the reset.
Log entry 94 (DEDUCED). -/
def execPowerMgmtWatchdog (t : Nat) (s : State) : Host.Outcome State Fault Refusal :=
  .next (whenReady (faultReset 2) (atTime t s))

/-- SECURITY_WATCHDOG: a reset, after which the next start writes FAULT_RESET with CODE 1. -/
def execSecurityWatchdog (t : Nat) (s : State) : Host.Outcome State Fault Refusal :=
  .next (whenReady (fun st => resetModule true { st with flash := { st.flash with watchdog := true } }) (atTime t s))

end Sys2Proof.Machine
end

