-- ==== Sys2Proof/Machine/Power.lean ====
section
/-! DEFINITION. Power, heat and ramp limits (chapter 15): the controller's ceiling and floor, field governors, ramp
allocations, caps, supply faults, the thermal steps and protection. -/

namespace Sys2Proof.Machine

/-! ## Fields' stretch and glow (R445, R451) -/

/-- S of a field: the lowest asked for by dim, throttle, hard cap and the controller. -/
def stretchOf (s : State) (f : Nat) : Nat :=
  let p := fieldPower s f
  min (min p.sDim p.sThrottle) (min p.sCap p.sCtl)

def updFieldPower (f : Nat) (g : FieldPowerS → FieldPowerS) (s : State) : State :=
  setFieldPower f (g (fieldPower s f)) s

/-- Change every lit field's power side. -/
def allLit (g : FieldPowerS → FieldPowerS) (s : State) : State := each (litFields s) (fun f => updFieldPower f g) s

/-- Is glow allowed on a field: lit, below its throttle threshold, no dim or stop in force (R451, R459, R460)? -/
def glowAllowed (s : State) (f : Nat) : Bool :=
  isLit s f && decide ((fieldPower s f).tj < (s.power.throttleC : Int)) && !s.power.dimmed &&
    decide (s.power.stopCause = 0)

/-! ## Ramp (R447 to R450) -/

/-- T, the tick period, in µs; B in W over a tick. -/
def groupTick (s : State) : Nat := s.power.groupRampInUse * s.tick.period / 1000

/-- r × T in W. -/
def rampTick (s : State) : Nat := s.power.ramp * s.tick.period / 1000

/-- The bound on this tick's change: the allocation held for it, or R450's bound without one; in a group of one the
module's own. -/
def tickBound (s : State) : Nat :=
  if s.job.members ≤ 1 ∨ s.job.started = false then rampTick s
  else match s.power.allocs.find? fun a => decide (a.tick = s.tick.tickCount) with
    | some a => min a.bound (rampTick s)
    | none => min (rampTick s) (groupTick s / s.job.members)

/-- Milliwatts by which the draw may change in `dt` ns. -/
def rampMw (s : State) (dt : Nat) : Nat := tickBound s * dt / s.tick.period

/-! ## Ceiling and floor (R446, Table 15.4) -/

/-- A percentage of the 24 kW envelope, in W. -/
def ofEnvelope (p : Nat) : Nat := 24000 * p / 100

/-- The ceiling that the limits reached at the ramp ask for: soft cap, safe cap, throttle floor. -/
def softCeiling (s : State) : Nat :=
  let p := s.power
  let safe := if p.hbLost || p.alert || p.inletHot then ofEnvelope p.safeCap else 24000
  let thr := if p.thr then ofEnvelope p.thrFloor else 24000
  min p.capSoft (min safe thr)

/-- The glow floor while it applies (R452). -/
def glowTarget (s : State) : Nat :=
  if s.job.started && decide (s.power.stopCause = 0) && !s.power.alert && !s.power.inletHot then
    ofEnvelope s.power.glowFloor else 0

/-- Move a value toward a target by at most `d`. -/
def toward (d v target : Nat) : Nat := if v < target then min target (v + d) else max target (v - d)

/-- Where the caps and external limits hold the ceiling, in mW: at the ramp toward those that move so, and at once down to
the hard cap. -/
def nextLimit (s : State) (dt : Nat) : Nat :=
  min (1000 * s.power.capHard) (toward (rampMw s dt) s.power.limitMw (1000 * min (softCeiling s) s.power.capHard))

/-- The ceiling in mW: that limit, and no more above the present draw than it may rise (Table 15.4, R449). -/
def nextCeiling (s : State) (dt limit : Nat) : Nat := min limit (1000 * s.power.inputW + rampMw s dt)

/-- The glow floor as the ramp has reached it, in mW; none under a dim or stop. -/
def nextGlow (s : State) (dt : Nat) : Nat :=
  if s.power.dimmed || decide (s.power.stopCause ≠ 0) then 0
  else toward (rampMw s dt) s.power.glowMw (1000 * glowTarget s)

/-- The floor in mW: the glow floor reached, and the present draw less what it may fall; never above the ceiling; none under a
dim or stop. -/
def nextFloor (s : State) (dt ceiling glow : Nat) : Nat :=
  if s.power.dimmed || decide (s.power.stopCause ≠ 0) then 0
  else min ceiling (max glow (1000 * s.power.inputW - rampMw s dt))

/-- A soft cap below DRAW_MIN is reported once (R455). -/
def reportLowCap (s : State) : State :=
  if s.power.capSoft < s.power.drawMin then
    (if s.power.capLowReported then s
     else powerEvent 5 s.power.capSoft { s with power := { s.power with capLowReported := true } })
  else s

/-- Milliseconds by which the glow floor is missed are counted (R452). -/
def countFloorShort (dt : Nat) (s : State) : State :=
  if glowTarget s ≠ 0 ∧ s.power.inputW < glowTarget s ∧ 1000 * glowTarget s ≤ s.power.glowMw then
    let n := s.power.floorShortNs + dt
    count cFloorShort (n / 1000000) { s with power := { s.power with floorShortNs := n % 1000000 } }
  else s

/-- The controller's recomputation (R441, R446). DRAW_MIN is taken anew in every step (R455). -/
def recompute (t mv w drawMin : Nat) (s : State) : State :=
  let dt := t - s.power.controlAt
  let known := s.job.started && decide (s.power.drawMinStep = some s.tick.step)
  let s1 := { s with power := { s.power with
    inputMv := mv, inputW := w, controlAt := t, drawMin := if known then s.power.drawMin else drawMin
    drawMinStep := if s.job.started then some s.tick.step else none } }
  let l := nextLimit s1 dt
  let c := nextCeiling s1 dt l
  let g := nextGlow s1 dt
  countFloorShort dt (reportLowCap
    { s1 with power := { s1.power with limitMw := l, ceilingMw := c, glowMw := g, floorMw := nextFloor s1 dt c g } })

/-- POWER_CONTROL_RECOMPUTE. -/
def execPowerControlRecompute (t : Nat) (mv w drawMin : BitVec 16) (s : State) :
    Host.Outcome State Fault Refusal :=
  .next (whenReady (recompute t mv.toNat w.toNat drawMin.toNat) (atTime t s))

/-- A governor's 1 µs step (R446, R451): above its share of the ceiling the field sheds glow, then S; below its share
of the floor it raises glow where glow is allowed; between them S rises back. -/
def governorStep (draw share low : Nat) (allowed room : Bool) (p : FieldPowerS) : FieldPowerS :=
  if share < draw then (if 0 < p.glow then { p with glow := p.glow - 1 } else { p with sCtl := max 4 (p.sCtl - 1) })
  else if draw < low then (if !allowed then { p with glow := 0 } else if room then { p with glow := p.glow + 1 } else p)
  else if p.sCtl < 16 then { p with sCtl := p.sCtl + 1 }
  else p

/-- Glow load of the module in W: a field's glow is counted in W, one a step.
Log entry 134 (DESIGN CHOICE). -/
def glowTotal (s : State) : Nat := ((List.range 84).map fun f => (fieldPower s f).glow).sum

/-- FIELD_GOVERNOR_STEP. Glow load never exceeds 60 % of the envelope (R451). -/
def execFieldGovernorStep (f : FieldId) (draw share low : BitVec 16) (s : State) : Host.Outcome State Fault Refusal :=
  .next (whenReady (fun st => if isLit st f.val then
      updFieldPower f.val (governorStep draw.toNat share.toNat low.toNat (glowAllowed st f.val)
        (decide (glowTotal st < ofEnvelope 60))) st
    else st) s)

/-! ## Ramp windows (R447) -/

/-- Does the newest 100 µs average break the rule against an earlier window, `i` windows before it? -/
def windowBreaks (perWindowMw avg : Nat) (i old : Nat) : Bool :=
  let d := if avg < old then old - avg else avg - old
  decide (1000 * 100 + perWindowMw * i < 1000 * d)

/-- A broken window is counted, and the first of a step reported. -/
def rampBroken (s : State) : State :=
  let s1 := count cRampViol 1 s
  if s1.power.violStep = some s1.tick.step then s1
  else powerEvent 15 s1.power.inputW { s1 with power := { s1.power with violStep := some s1.tick.step } }

/-- A 100 µs window: after an exception the rule works from the new draw. -/
def rampWindowOp (avg : Nat) (excepted : Bool) (s : State) : State :=
  if excepted then { s with power := { s.power with windows := [avg] } }
  else
    let broken := s.power.windows.zipIdx.any fun e => windowBreaks (rampMw s 100000) avg (e.2 + 1) e.1
    let s1 := { s with power := { s.power with windows := (avg :: s.power.windows).take 5000 } }
    if broken then rampBroken s1 else s1

/-- RAMP_WINDOW. -/
def execRampWindow (t : Nat) (avg : BitVec 16) (excepted : Bool) (s : State) : Host.Outcome State Fault Refusal :=
  .next (whenReady (rampWindowOp avg.toNat excepted) (atTime t s))

/-! ## The group's allocations (R449, R450) -/

/-- The lead's grants from the members' requests, in W. -/
def grantsOf (bt : Nat) (reqs : List (Nat × Int)) : List (Nat × Int) :=
  let up := (reqs.map fun r => r.2.toNat).sum
  let down := (reqs.map fun r => (-r.2).toNat).sum
  let scale (v : Int) (num den : Nat) : Int := (v * num).tdiv den
  if (if up < down then down - up else up - down) ≤ bt then reqs
  else if up < down then reqs.map fun r => (r.1, if r.2 < 0 then scale r.2 (up + bt) down else r.2)
  else reqs.map fun r => (r.1, if 0 < r.2 then scale r.2 (down + bt) up else r.2)

/-- BEACONS_COLLECTED: the lead shares out B for tick n + 2 and begins the next tick's collection. -/
def execBeaconsCollected (t : Nat) (s : State) : Host.Outcome State Fault Refusal :=
  .next (whenReady (fun st =>
    if isLead st && st.job.started && decide (2 ≤ st.job.members) then
      emit (.grants (st.tick.tickCount + 2) (grantsOf (groupTick st) st.power.requests))
        { st with power := { st.power with requests := [] } }
    else st) (atTime t s))

/-- Hold an allocation for a tick; those of past ticks go. -/
def holdAlloc (a : Alloc) (s : State) : State :=
  { s with power := { s.power with
      allocs := (s.power.allocs.filter fun b => decide (s.tick.tickCount ≤ b.tick) && decide (b.tick ≠ a.tick)) ++ [a] } }

/-- RAMP_ALLOCATION: the lead's grant from the beacons of tick n bounds the change over tick n + 2. -/
def execRampAllocation (tick : BitVec 48) (grant : Int) (s : State) : Host.Outcome State Fault Refusal :=
  .next (whenReady (holdAlloc { tick := tick.toNat + 2, bound := grant.natAbs, change := grant }) s)

/-- ALLOCATION_MISSING: 40 µs after tick n without an allocation for n + 2 (R450). -/
def execAllocationMissing (tick : BitVec 48) (s : State) : Host.Outcome State Fault Refusal :=
  .next (whenReady (fun st =>
    if (st.power.allocs.any fun a => decide (a.tick = tick.toNat + 2)) || decide (st.job.members ≤ 1) then st
    else holdAlloc { tick := tick.toNat + 2, bound := min (rampTick st) (groupTick st / st.job.members), change := 0 } st) s)

/-! ## Caps and heartbeat (R453 to R456) -/

/-- CAP_SET SOFT, or a write of POWER.CAP_SOFT (R453). -/
def setSoftCap (w : Nat) (s : State) : State :=
  reportLowCap { s with power := { s.power with capSoft := w, capLowReported := false } }

/-- CAP_SET HARD, or a write of POWER.CAP_HARD (R454, R455): below the present input power it forces the draw down at
once and is reported; below DRAW_MIN it takes every lit field to S = 4. -/
def setHardCap (w : Nat) (s : State) : State :=
  let p := s.power
  let s1 := { s with power := { p with capHard := w, ceilingMw := min p.ceilingMw (1000 * w), limitMw := min p.limitMw (1000 * w), hardForced := decide (w < p.inputW) } }
  let s2 := if w < p.inputW then powerEvent 4 w (allLit (fun q => { q with glow := 0 }) s1) else s1
  if w < p.drawMin then powerEvent 5 w (allLit (fun q => { q with sCap := 4, glow := 0 }) s2)
  else allLit (fun q => { q with sCap := 16 }) s2

/-- HARD_CAP_SHADE: every 10 µs, while the draw is above a hard cap below DRAW_MIN, the lit field of highest index is
shaded with cause 3. -/
def execHardCapShade (draw : BitVec 16) (s : State) : Host.Outcome State Fault Refusal :=
  .next (whenReady (fun st =>
    if st.power.capHard < st.power.drawMin ∧ st.power.capHard < draw.toNat then
      match (litFields st).getLast? with
      | some f => shadeField f 3 st
      | none => st
    else st) s)

/-- HEARTBEAT (R456): the timer is armed or restarted; after a loss the previous ceiling is restored. -/
def heartbeatOp (id : Nat) (s : State) : State :=
  let s1 := { s with power := { s.power with hbArmed := true, hbId := id, hbAt := s.now, hbLost := false } }
  if s.power.hbLost then powerEvent 7 id s1 else s1

/-- HEARTBEAT_TIMEOUT: 5 s without a HEARTBEAT. -/
def execHeartbeatTimeout (t : Nat) (s : State) : Host.Outcome State Fault Refusal :=
  .next (whenReady (fun st =>
    if st.power.hbArmed && !st.power.hbLost && decide (st.power.hbAt + 5000000000 ≤ t) then
      powerEvent 6 st.power.hbId { st with power := { st.power with hbLost := true } }
    else st) (atTime t s))

/-! ## Supply faults (R459 to R462) -/

/-- UNDERVOLTAGE_DIM. -/
def execUndervoltageDim (s : State) : Host.Outcome State Fault Refusal :=
  .next (whenReady (fun st =>
    if st.power.dimmed then st
    else powerEvent 1 st.power.inputMv (allLit (fun q => { q with sDim := min 8 q.sDim, glow := 0 })
      { st with power := { st.power with dimmed := true } })) s)

/-- DIM_RELEASE: S returns toward the controller's setting at the ramp limit, and glow may resume. -/
def execDimRelease (s : State) : Host.Outcome State Fault Refusal :=
  .next (whenReady (fun st =>
    if st.power.dimmed then
      each (List.range 84) (fun f => updFieldPower f fun q => { q with sDim := 16, sCtl := min q.sCtl 8 })
        { st with power := { st.power with dimmed := false } }
    else st) s)

/-- Set STOP on the stream's markers, with DISCARD where the stop is a rollback's (R226). The tick whose markers carry it
first is the next to send any. Repeat requests that wait are dropped (Table 7.11).
Log entry 70 (DEDUCED). -/
def stopStream (discard : Bool) (s : State) : State :=
  { s with stream := { s.stream with
      stop := true, discard := discard || s.stream.discard
      stopTick := if s.stream.stop then s.stream.stopTick else none
      lanes := s.stream.lanes.foldl (fun m e => mapSet {} m e.1 { e.2 with repeats := [] }) [] } }

/-- A supply stop (R460, R461): dispatch and the stream stop, the fault is recorded and the job rolls back with cause
11; every lit field goes to S = 4 without glow. -/
def supplyStop (cause : Nat) (s : State) : State :=
  if s.power.stopCause ≠ 0 then s
  else
    let s1 := allLit (fun q => { q with sCap := 4, glow := 0 }) { s with power := { s.power with stopCause := cause } }
    requestRollback 11 (powerEvent cause s1.power.inputMv (stopStream false (recordFault { cls := 8, code := cause } s1)))

/-- UNDERVOLTAGE_STOP. -/
def execUndervoltageStop (s : State) : Host.Outcome State Fault Refusal := .next (whenReady (supplyStop 2) s)

/-- OVERVOLTAGE_STOP. -/
def execOvervoltageStop (s : State) : Host.Outcome State Fault Refusal := .next (whenReady (supplyStop 16) s)

/-- SUPPLY_STOP_RECOVERY: the input has been in range for 100 ms; cause 3, ready to rejoin. -/
def execSupplyStopRecovery (s : State) : Host.Outcome State Fault Refusal :=
  .next (whenReady (fun st =>
    if st.power.stopCause = 0 then st
    else powerEvent 3 st.power.stopCause
      (each (List.range 84) (fun f => updFieldPower f fun q => { q with sCap := 16, sCtl := 4 })
        { st with power := { st.power with stopCause := 0 } })) s)

/-- REGULATOR_DROPOUT: the module goes off without any orderly step (R462). -/
def execRegulatorDropout (s : State) : Host.Outcome State Fault Refusal := .next (whenPowered powerOff s)

/-! ## Heat (R463 to R469) -/

/-- A THERMAL event. -/
def thermalEvent (detail : Nat) (s : State) : State := event 0x8011 detail s

/-- A field enters throttle: reported once per entry (R464). -/
def throttleEntry (f : Nat) (s : State) : State :=
  let p := fieldPower s f
  if (s.power.throttleC : Int) ≤ p.tj then
    (if p.throttled then s else thermalEvent f (setFieldPower f { p with throttled := true, glow := 0 } s))
  else if p.tj + 5 ≤ (s.power.throttleC : Int) then setFieldPower f { p with throttled := false } s
  else s

/-- The thermal steps of one field at a sample (R463 to R468). -/
def fieldSample (f : Nat) (tj : Int) (s : State) : State :=
  let p := fieldPower s f
  let cool := if tj < 90 then (match p.coolSince with | none => some s.now | some t => some t) else none
  let s1 := setFieldPower f { p with tj := tj, coolSince := cool } s
  let s2 := if isDark s1 f then s1 else throttleEntry f s1
  if 115 ≤ tj ∧ !isDark s2 f then
    thermalEvent f (darkField f 1 (updFieldPower f (fun q => { q with heatDark := true }) s2))
  else if 105 ≤ tj ∧ isLit s2 f then
    thermalEvent f (shadeField f 1 (updFieldPower f (fun q => { q with heatShaded := true }) s2))
  else s2

/-- A stack at 105 °C or more is taken out of service as an unreachable one (R469). -/
def stackSample (m : Nat) (c : Int) (s : State) : State :=
  let s1 := { s with power := { s.power with stackC := mapSet 0 s.power.stackC m c } }
  if 105 ≤ c ∧ stackGone s1 m = false then
    requestRollback 4 (thermalEvent (0x0100 + m) (loseStack m s1))
  else s1

/-- The inlet's two reports (R458), each once per crossing. -/
def inletSample (c : Int) (s : State) : State :=
  let hot := decide (45 < c)
  let cold := decide (c < 18)
  let s1 := { s with power := { s.power with inletC := c, inletHot := hot, inletCold := cold } }
  let s2 := if hot && !s.power.inletHot then thermalEvent 0x0200 s1 else s1
  if cold && !s.power.inletCold then thermalEvent 0x0201 s2 else s2

/-- A field's temperature: its hottest junction sensor (R463). -/
def hottest : List Int → Int
  | [] => 0
  | a :: l => l.foldl max a

/-- One 50 µs sample of every sensor (R463). -/
def sample (facts : SensorFacts) (s : State) : State :=
  let s1 := inletSample facts.inlet { s with power := { s.power with outletC := facts.outlet } }
  let s2 := each (List.range 84) (fun f => fieldSample f (hottest (nth [] facts.fieldsC f))) s1
  each (List.range 32) (fun m => stackSample m (nth 0 facts.stacksC m)) s2

/-- SENSOR_SAMPLE. -/
def execSensorSample (t : Nat) (facts : SensorFacts) (s : State) : Host.Outcome State Fault Refusal :=
  .next (whenReady (sample facts) (atTime t s))

/-- One throttle step of a field (R464): S falls by 1, down to 8, at or above the threshold, and rises by 1 once 5 °C
below it. -/
def throttleStepOp (t f : Nat) (s : State) : State :=
  let p := fieldPower s f
  if !isLit s f then s
  else if (s.power.throttleC : Int) ≤ p.tj then
    let v := max (min 8 p.sThrottle) (p.sThrottle - 1)
    setFieldPower f { p with sThrottle := v, at8Since := if v = 8 then (match p.at8Since with | none => some t | some a => some a) else none } s
  else if p.tj + 5 ≤ (s.power.throttleC : Int) then
    setFieldPower f { p with sThrottle := min 16 (p.sThrottle + 1), at8Since := none } s
  else s

/-- THROTTLE_STEP. -/
def execThrottleStep (t : Nat) (f : FieldId) (s : State) : Host.Outcome State Fault Refusal :=
  .next (whenReady (throttleStepOp t f.val) (atTime t s))

/-- THROTTLE_SHADE: 3 s at S = 8 without a break (R465). Without a running job the field is shaded at once, else at
the next step boundary. -/
def execThrottleShade (t : Nat) (f : FieldId) (s : State) : Host.Outcome State Fault Refusal :=
  .next (whenReady (fun st =>
    let p := fieldPower st f.val
    match p.at8Since with
    | none => st
    | some a =>
      if t < a + 3000000000 ∨ isLit st f.val = false then st
      else if st.job.started then setFieldPower f.val { p with shadeDue := true } st
      else shadeField f.val 1 (setFieldPower f.val { p with heatShaded := true } st)) (atTime t s))

/-- May a shaded field return (R468)? One shaded under a hard cap follows the same rules once the cap is raised
(Table 15.8). -/
def heatReturnOk (t f : Nat) (s : State) : Bool :=
  let p := fieldPower s f
  decide (fieldState s f = .shade) && (p.heatShaded || decide (s.power.drawMin ≤ s.power.capHard)) && !s.power.alert &&
    (match p.coolSince with | some a => decide (a + 10000000000 ≤ t) | none => false)

/-- A field returns from a shade for heat, with its throttle history over. -/
def returnFromHeat (f : Nat) (s : State) : State :=
  litField f (updFieldPower f (fun q => { q with heatShaded := false, returnDue := false, at8Since := none, sThrottle := 16 }) s)

/-- HEAT_RETURN: at once without a running job, else at the next step boundary, during a hold. -/
def execHeatReturn (t : Nat) (f : FieldId) (s : State) : Host.Outcome State Fault Refusal :=
  .next (whenReady (fun st =>
    if !heatReturnOk t f.val st then st
    else if st.job.started then updFieldPower f.val (fun q => { q with returnDue := true }) st
    else returnFromHeat f.val st) (atTime t s))

/-- At a step boundary, the shades and returns that are due apply together, and one image is put in force for the
resulting OUT_MASK (R465, R468, Table 15.9). -/
def boundaryFields (s : State) : State :=
  let due := (List.range 84).filter fun f => (fieldPower s f).shadeDue
  let back := (List.range 84).filter fun f => (fieldPower s f).returnDue
  let s1 := each due (fun f st => shadeField f 1
    (updFieldPower f (fun q => { q with shadeDue := false, heatShaded := true }) st)) { s with job := { s.job with held := true } }
  let s2 := each back returnFromHeat s1
  if due.isEmpty && back.isEmpty then s
  else startReplacement { s2 with job := { s2.job with held := s.job.held } }

/-! ## Protection (R470 to R472) -/

/-- FIELD_PROTECTION_TRIP: recorded in POWER.FIELD_PROT, POWER cause 13, and the field is dark. -/
def execFieldProtectionTrip (f : FieldId) (s : State) : Host.Outcome State Fault Refusal :=
  .next (whenReady (fun st =>
    if bitAt st.power.fieldProt f.val then st
    else darkField f.val 2 (powerEvent 13 f.val
      { st with power := { st.power with fieldProt := st.power.fieldProt + 2 ^ f.val } })) s)

/-- PROTECTION_PROBE (R471): the protection is reset, or stays latched until the next start. -/
def execProtectionProbe (f : FieldId) (holds : Bool) (s : State) : Host.Outcome State Fault Refusal :=
  .next (whenReady (fun st =>
    if bitAt st.power.fieldProt f.val && !bitAt st.power.fieldLatched f.val then
      (if holds then { st with power := { st.power with fieldProt := st.power.fieldProt - 2 ^ f.val } }
       else { st with power := { st.power with fieldLatched := st.power.fieldLatched + 2 ^ f.val } })
    else st) s)

/-- A stack without power loses its contents (R247). -/
def eraseStack (m : Nat) (s : State) : State :=
  let s1 := loseHomed [m] s
  { s1 with mem := { s1.mem with
      bytes := mapFilter (fun a _ => decide (a / 2 ^ 36 ≠ m)) s1.mem.bytes
      checks := mapFilter (fun u _ => decide (u / 2 ^ 30 ≠ m)) s1.mem.checks } }

/-- SHOULDER_TRIP: the side's eight stacks are lost, and the step rolls back with cause 4. -/
def execShoulderTrip (side : Fin 4) (s : State) : Host.Outcome State Fault Refusal :=
  .next (whenReady (fun st =>
    if bitAt st.power.shoulderProt side.val then st
    else
      let s1 := powerEvent 14 side.val { st with power := { st.power with shoulderProt := st.power.shoulderProt + 2 ^ side.val } }
      let s2 := each (rangeFrom (8 * side.val) (8 * side.val + 8)) (fun m q => eraseStack m (loseStack m q)) s1
      rollFault { cls := 4, code := 14, detail := side.val } 4 s2) s)

/-- CONTROL_TRIP: the whole module goes off. -/
def execControlTrip (s : State) : Host.Outcome State Fault Refusal := .next (whenPowered powerOff s)

end Sys2Proof.Machine
end

