-- ==== Sys2Proof/Machine/Reduce.lean ====
section
/-! DEFINITION. Gradient reduction and the fused update at an owner (chapter 10): blocks and their records, arriving
pieces, the completion check, re-requests and raises, the job stage, the update, the working copy, and commit. -/

namespace Sys2Proof.Machine

/-! ## Blocks, owners and the job home (R298 to R300) -/

/-- The layer records of this module's own tensors. -/
def ownLayers (s : State) : List LayerRec := s.red.layers.map (·.2)

/-- The record and block number of owned block `b`. -/
def layerAt (s : State) (b : Nat) : Option (LayerRec × Nat) := layerIn (ownLayers s) b

/-- Every block the module owns, in the order of its layer records. -/
def ownedBlocks (s : State) : List Nat :=
  (ownLayers s).flatMap fun r => rangeFrom r.firstBlock (r.firstBlock + blocksOfLayer r)

/-- The blocks of one tensor. -/
def blocksOf (s : State) (tensor : Nat) : List Nat :=
  (ownLayers s).flatMap fun r =>
    if r.tensor = tensor then rangeFrom r.firstBlock (r.firstBlock + blocksOfLayer r) else []

/-- The owner that the layout names for a tensor. -/
def layoutOwner (s : State) (tensor : Nat) : Nat :=
  match s.place.inForce with
  | none => s.job.member
  | some i => match i.owners.find? fun e => decide (e.1 = tensor) with | some e => e.2 | none => s.job.member

/-- The present owner of a tensor in a group (R298): the owner table's entry, else the layout's. -/
def ownerIn (s : State) (tensor g : Nat) : Nat :=
  match mapGet 0 s.grp.owners (16 * tensor + g) with
  | 0 => layoutOwner s tensor
  | m + 1 => m

/-- The job home's group of block `bn` of a tensor (R300). -/
def homeGroup (s : State) (tensor bn : Nat) : Nat := (tensor + bn) % s.job.groups

/-- The members that contribute in the group (R314, R479). -/
def contributors (s : State) : List Nat := (List.range 64).filter fun m => bitAt s.grp.mask m

/-- The groups other than this one. -/
def otherGroups (s : State) : List Nat := (List.range s.job.groups).filter fun g => decide (g ≠ s.job.group)

/-- Peer-shard training: no stream slot places window bytes (R237, R290). -/
def peerShard (s : State) : Bool := decide (s.stream.slotBytes = 0)

/-- The in-stack address of a block's entry in REDUCE: 4,096 accumulators of 6 bytes, then the record. -/
def reduceAddr (s : State) (b : Nat) : Nat :=
  match s.place.inForce with
  | none => 0
  | some i =>
    carvedAddr s (regionBase s 7 + 24640 * ((homedIn i (homeStack s b)).filter fun x => decide (x < b)).length)

/-- Piece identifier: 1 + PIECE + 8 × MEMBER + 512 × GROUP (R313). -/
def pieceId (group member piece : Nat) : Nat := 1 + piece + 8 * member + 512 * group

/-- An exponent held to the range of R302. -/
def clampExp (e : Int) : Int := max (-149) (min 97 e)

/-- The next exponent: BEXP + MAXB − 31 + H; a block of zeros keeps its own (R303). -/
def nextExponent (s : State) (o : BlockS) : Int :=
  if o.maxb = 0 then o.bexp else clampExp (o.bexp + (o.maxb : Int) - 31 + (s.red.headroom : Int))

/-- Is `step` a send step of the tensor (R312)? Only class D has steps that are not. -/
def sendStep (l : LayerRec) (step : Nat) : Bool := decide (l.cls ≠ 2) || decide (step % l.dEvery + 1 = l.dEvery)

/-- A block that takes no update in its step: untrained, or of class D outside a send step (R314, R315). -/
def carriedInStep (l : LayerRec) (o : BlockS) : Bool := isUntrained o || !sendStep l o.step

/-! ## Residues and values (R306, R309) -/

/-- The residue modulo 65,535 of integer values. -/
def residue (vs : List Int) : Nat := (vs.sum % 65535).toNat

def accList (o : BlockS) : List Int := mapGetList 0 o.acc 0 4096

/-- `mag · 2^exp` rounded to nearest even as an integer. -/
def roundInt (mag : Nat) (exp : Int) : Nat :=
  if 0 ≤ exp then mag * 2 ^ exp.toNat
  else
    let k := (-exp).toNat
    mag / 2 ^ k + b2n (roundsUp .nearest (mag / 2 ^ k) (mag % 2 ^ k) k)

/-- An FP32 value over 2^e as an integer, nearest even; 0 for a NaN or an infinity (R306). -/
def toFixed (e : Int) (w : Nat) : Int :=
  match fpDec w with
  | .fin s m x => let v : Int := (roundInt m (x - e) : Nat); if s then -v else v
  | _ => 0

/-- The element of a piece that cell `n` of tile `t` covers: eight rows of 64 elements (R307). -/
def pieceElem (t n : Nat) : Nat := (4 * (t / 16) + n / 4) * 64 + 4 * (t % 16) + n % 4

def isNonfinite (w : Nat) : Bool := decide (field w 23 8 = 0xFF)

/-- A contribution piece converted (R306): SHIFT, values, CLIP, NONFINITE and the largest bit length. -/
structure Contribution where
  shift : Nat
  values : List Int
  clip : Bool
  nonfinite : Bool
  maxb : Nat
  deriving DecidableEq, Repr

def inFixed (v : Int) : Bool := decide (v.natAbs ≤ 2 ^ 31 - 1)

/-- Bit length of a magnitude. -/
def bitLength (n : Nat) : Nat := if n = 0 then 0 else Nat.log2 n + 1

/-- A value saturated to ±(2^31 − 1). -/
def saturate31 (v : Int) : Int := max (-(2 ^ 31 - 1)) (min (2 ^ 31 - 1) v)

/-- The conversion of a piece's FP32 values against a block exponent (R306). -/
def convertPiece (bexp : Int) (ws : List Nat) : Contribution :=
  let fits (sh : Nat) : Bool := ws.all fun w => inFixed (toFixed (bexp + (sh : Int)) w)
  let sh := ((List.range 16).find? fits).getD 15
  let vs := ws.map fun w => saturate31 (toFixed (bexp + (sh : Int)) w)
  let top := vs.foldl (fun a v => max a (bitLength v.natAbs)) 0
  { shift := sh, values := vs, clip := !fits sh, nonfinite := ws.any isNonfinite
    maxb := if top = 0 then 0 else top + sh }

/-! ## Opening a step (R314) -/

/-- The identifier sums that a block's TARGET stands for. -/
def expectedIds (s : State) (l : LayerRec) (home untrained : Bool) : Nat × Nat :=
  let own := if peerShard s then [s.job.member] else contributors s
  let ids := own.flatMap fun m => (List.range 8).map (pieceId s.job.group m)
  let others := (otherGroups s).flatMap fun g =>
    (List.range (if l.cls = 1 then 1 else 8)).map (pieceId g (ownerIn s l.tensor g))
  if home && !untrained then (ids.length + others.length, ids.sum + others.sum) else (ids.length, ids.sum)

/-- A block's record set for a step: from UPDATED the exponent of the update, else the committed one. A class D block
outside a send step expects nothing and waits only for the commit before it (R314). -/
def openRecord (step : Nat) (b : Nat) (l : LayerRec) (bn : Nat) (s : State) : State :=
  let o : BlockS := { blockS s b with step := step }
  let home := decide (homeGroup s l.tensor bn = s.job.group)
  let bexp := if o.state = .updated then o.nextBexp else o.stepBexp
  let t := if sendStep l step then expectedIds s l home (isUntrained o) else (0, 0)
  setBlock b { train := o.train, rowMask := o.rowMask, mark := o.mark, carryOnce := o.carryOnce, stepBexp := o.stepBexp, doneStep := o.doneStep
               outSegs := o.outSegs, driftE := o.driftE, driftU := o.driftU, sumsq := o.sumsq, nextBexp := bexp
               repairWait := o.repairWait, state := if sendStep l step then .open_ else .waitCommit, home := home, bexp := bexp, openBexp := bexp
               step := step, roll := s.red.roll, target := t.1, idexp := t.2 } s

/-! ## The accumulation cache (R262) -/

/-- Touch a block's entry: a miss allocates, and a full cache evicts its least recently used entry. -/
def touchCache (stack b : Nat) (s : State) : State :=
  let l := mapGet [] s.mem.cache stack
  let put (xs : List Nat) (st : State) : State :=
    { st with mem := { st.mem with cache := mapSet [] st.mem.cache stack (xs ++ [b]) } }
  if l.contains b then put (l.filter fun x => decide (x ≠ b)) s
  else if l.length < 96 then put l (count cAccMisses 1 s)
  else put (l.drop 1) (count cAccMisses 2 s)

/-- A block leaves the cache: handed to the pipe, or written back complete (R263). -/
def leaveCache (b : Nat) (s : State) : State :=
  let m := homeStack s b
  { s with mem := { s.mem with
      cache := mapSet [] s.mem.cache m ((mapGet [] s.mem.cache m).filter fun x => decide (x ≠ b)) } }

/-- Does a unit pass its check as it is held (R259)?
Log entry 125 (DESIGN CHOICE). -/
def unitSound (s : State) (stack unit : Nat) : Bool :=
  let held := mapGet 0 s.mem.checks (2 ^ 30 * stack + unit)
  decide (held = 0) || decide (held = unitCrc unit (memRead s stack (64 * unit) 64) + 1)

/-- How many reads of a unit fail before one passes, up to three (R260): the bursts that brought other bits come first. -/
def failedReads (s : State) (stack unit : Nat) (bursts : List Burst) : Nat :=
  let bad := ((bursts.take 3).takeWhile fun b => decide (unitCrc unit (bytesLE 64 b.data.toNat) ≠ b.check.toNat)).length
  if bad < bursts.length || unitSound s stack unit then bad else 3

/-- The bursts of unit `i` of a packet. -/
def burstsOf (f : MemFacts) (i : Nat) : List Burst :=
  match f.units.find? fun u => decide (u.unit = i) with | some u => u.bursts | none => []
def copiesOf (f : MemFacts) (i : Nat) : List Burst :=
  match f.units.find? fun u => decide (u.unit = i) with | some u => u.copies | none => []

/-- The checked read of one unit (R260): one or two failures are retried, three are persistent and enter the defect list.
Answers the persistent units met so far. -/
def checkUnit (stack addr : Nat) (f : MemFacts) (i : Nat) (r : List Nat × State) : List Nat × State :=
  let u := addr / 64 + i
  let n := failedReads r.2 stack u (burstsOf f i)
  if n = 0 then r
  else if n < 3 then (r.1, count cCrcRetried 1 r.2)
  else (r.1 ++ [i], count cCrcPersist 1 { r.2 with
    mem := { r.2.mem with defects := r.2.mem.defects ++ [(stack, u)] }
    flash := { r.2.flash with memDefects := r.2.flash.memDefects ++ [(stack, u)] } })

/-- The checked reads of some units of a packet. -/
def checkedRead (stack addr : Nat) (is : List Nat) (f : MemFacts) (s : State) : List Nat × State :=
  is.foldl (fun r i => checkUnit stack addr f i r) ([], s)

/-- What a stack's interface and on-die ECC report is counted (R250). -/
def countBus (f : MemFacts) (s : State) : State :=
  let s1 := if f.ifRetries = 0 then s else count cIfRetry f.ifRetries s
  if f.odecc = 0 then s1 else count cOdecc f.odecc s1

/-! ## Acknowledgements, re-requests, raises (R315 to R317) -/

/-- Acknowledge every member piece of a block. -/
def ackMembers (b : Nat) (s : State) : State :=
  let o := blockS s b
  setBlock b { o with senders := [] } (emitAll (o.senders.map fun x => Msg.pieceAck x b (o.step % 65536)) s)

/-- The block counts afresh. -/
def zeroBlock (o : BlockS) : BlockS :=
  { o with state := .open_, acc := [], count := 0, carried := 0, idsum := 0, maxb := 0, groups := [], senders := []
           clip := false, nonfinite := false, totalPieces := [], totalFails := [], totalAcks := [] }

/-- Zero a block and re-request it from the members, and from the other owners where it is the job home and `all` is
set. -/
def reRequestBlock (b : Nat) (all : Bool) (s : State) : State :=
  let o := blockS s b
  let s1 := emit (.reRequest s.job.group s.job.member b o.bexp false) (setBlock b (zeroBlock o) s)
  if all && o.home && decide (1 < s.job.groups) then emit (.reRequest s.job.group s.job.member b o.bexp true) s1 else s1

/-- An unrecovered reduction fault of a block: code 1 a second mismatch, 2 a third raise, 3 a total piece failed three
times, 4 a second mismatch of the pipe. -/
def reductionFault (b code : Nat) (s : State) : State := rollFault { cls := 6, code := code, detail := b } 6 s

/-- The check of a block failed on CARRIED or IDSUM (R316). -/
def failBlock (b : Nat) (s : State) : State :=
  let o := blockS s b
  let s1 := count cResidueFail 1 (setBlock b { o with fails := o.fails + 1 } s)
  if 2 ≤ o.fails + 1 then reductionFault b 1 s1 else reRequestBlock b true s1

/-! ## Update (R321 to R325) -/

/-- The settings in force in a block's step. -/
def paramsOf (s : State) (step : Nat) : StepParams :=
  match s.red.params.find? fun e => decide (e.1 = step) with
  | some e => e.2
  | none => { gscale := s.red.gscale, clip := s.red.clipFactor, refresh := s.red.refreshSteps, seed := s.snap.seed
              layers := s.red.layers }

/-- A layer record as its step sees it: the settings of the step's boundary with the live counts. -/
def layerInStep (s : State) (step : Nat) (l : LayerRec) : LayerRec :=
  match (paramsOf s step).layers.find? fun e => decide (e.1 = l.tensor) with
  | some e => { l with lr := e.2.lr, wd := e.2.wd, churnLimit := e.2.churnLimit }
  | none => l

def pipeInput (s : State) (b : Nat) (l : LayerRec) (bn : Nat) : PipeIn :=
  let o := blockS s b
  let p := paramsOf s o.step
  { l := layerInStep s o.step l, bn := bn, o := o, cur := curBank s b, other := otherBank s b
    gs := fpMul false p.gscale p.clip, gscale := p.gscale, hold := s.red.pruneHold, seed := p.seed }

/-- The forced REFRESH of a tensor in a step: bind a pending one, drop one bound to an earlier step. -/
def bindRefresh (tensor step : Nat) (s : State) : Bool × State :=
  let v := mapGet 0 s.red.refreshForced tensor
  let put (n : Nat) : State := { s with red := { s.red with refreshForced := mapSet 0 s.red.refreshForced tensor n } }
  if v = 0 then (false, s)
  else if v = 1 then (true, put (step + 2))
  else if v = step + 2 then (true, s)
  else (false, put 0)

/-- The payloads a block sends in its step (Table 10.7). -/
def outboundOf (s : State) (l : LayerRec) (o : BlockS) (forced : Bool) (out : PipeOut) (nextBexp : Int)
    (grad : List Byte) : List (Nat × List Byte) :=
  if peerShard s || !sendStep l o.step then [] else
  let refresh := (paramsOf s o.step).refresh
  let copy :=
    if forced then (2, out.fullCopy)
    else if !l.wcDelta then (0, out.fullCopy)
    else if (o.step + l.tensor) % refresh = 0 then (2, out.fullCopy)
    else (1, out.delta)
  [copy, (3, bytesLE 4 (fpEnc (.fin false 1 nextBexp)))] ++
    (if decide (l.cls = 2) && s.red.dExport && decide (s.job.group = 0) then [(4, grad)] else [])

/-- Add mask changes of a block to its layer's count for the step, and raise the churn event once (R187). -/
def noteChurn (l : LayerRec) (step changes : Nat) (s : State) : State :=
  let fresh := decide (mapGet 0 s.red.churnStep l.tensor ≠ step + 1)
  let had := (mapGet {} s.red.layers l.tensor).maskChanges
  let old := if fresh then 0 else had
  let new := old + changes
  let over_ (n : Nat) : Bool := decide (l.churnLimit ≠ 0) && decide (l.churnLimit * maskGroups l < n * 1000000)
  let s1 := { s with red := { s.red with
    churnStep := mapSet 0 s.red.churnStep l.tensor (step + 1)
    churnOld := if fresh then mapSet 0 s.red.churnOld l.tensor had else s.red.churnOld
    layers := s.red.layers.map fun e => if e.1 = l.tensor then (e.1, { e.2 with maskChanges := new }) else e } }
  let s2 := count cMaskChange changes s1
  if over_ new && !over_ old then event 0x800E (l.tensor % 65536) s2 else s2

/-- A nonfinite block: counted, and its tensor named with the update-done report (R320). -/
def noteNonfinite (tensor : Nat) (s : State) : State :=
  count cNonfiniteBlocks 1 { s with red := { s.red with
    nonfiniteTensor := match s.red.nonfiniteTensor with | some t => some t | none => some tensor } }

/-- A tensor takes part in the step's commit. -/
def noteUpdated (step tensor : Nat) (s : State) : State :=
  if s.red.updatedIn.contains (step, tensor) then s
  else { s with red := { s.red with updatedIn := s.red.updatedIn ++ [(step, tensor)] } }

/-- The digest of a block that the pipe has not written. -/
def noDigest : MirDigest := { maxe := 0, nan := false, crc := 0, proj := 0 }

/-- Add a block's SUMSQ to its step's sum (R322). -/
def noteNorm (step sumsq : Nat) (s : State) : State :=
  { s with red := { s.red with params := s.red.params.map fun e =>
      if e.1 = step then (e.1, { e.2 with norm2 := fpAdd false e.2.norm2 sumsq }) else e } }

/-- A block's pass through the pipe, and UPDATED; a block whose next step has begun opens for it. -/
def pipeWrite (b : Nat) (carry : Bool) (s : State) : State :=
  match layerAt s b with
  | none => s
  | some (l0, bn) =>
    let o := blockS s b
    let p := pipeInput s b l0 bn
    let multi := decide (1 < s.job.groups)
    let carryAll := carry || o.nonfinite
    let out := pipeBlock p carryAll (multi && !o.home && decide (p.l.cls = 1)) (multi && o.home && decide (p.l.cls = 1))
    let carried := carryAll || out.nonfinite
    let grad := ((List.range 4096).filter (inTensor p.l bn)).flatMap fun i =>
      bytesLE 4 (gradWord (mapGet 0 o.acc i) o.bexp fpOne)
    let next := if carriedInStep p.l o then o.bexp else o.nextBexp
    let bound := bindRefresh p.l.tensor o.step s
    let o1 := { o with state := .updated, nextBexp := next, sumsq := out.sumsq, driftE := out.driftE
                       driftU := out.driftU, doneStep := o.step + 1, mark := o.mark
                       outSegs := outboundOf s p.l o bound.1 out next grad }
    let s1 := setOther b out.bank (setBlock b o1 bound.2)
    let mirror := mapSet noDigest s1.grp.mirror b out.digest
    let s2 := { s1 with grp := { s1.grp with mirror := mirror } }
    let s3 := if carried then s2 else noteUpdated o.step p.l.tensor (count cBlocksUpdated 1 s2)
    let s4 := if p.l.prune = .none ∨ carried then s3 else noteChurn p.l o.step out.changes s3
    let s5 := if (o.nonfinite || out.nonfinite) && !carriedInStep p.l o then noteNonfinite p.l.tensor s4 else s4
    let s6 := leaveCache b (noteNorm o.step out.sumsq s5)
    if o.step < s6.tick.step && s6.job.started then openRecord s6.tick.step b l0 bn s6 else s6

/-- A block in TOTAL triggers its update, or waits for the commit of the step before (R321). Element rules go to the
pipe; a block that is carried in its step passes at once; a matrix rule waits in TOTAL for its tensor. -/
def trigger (b : Nat) (s : State) : State :=
  match layerAt s b with
  | none => s
  | some (l, _) =>
    let o := blockS s b
    if s.red.committed + 1 < o.step || o.repairWait then setBlock b { o with state := .waitCommit } s
    else if carriedInStep l o then pipeWrite b true s
    else if isMatrixRule l && !o.nonfinite then setBlock b { o with state := .total } s
    else leaveCache b (setBlock b { o with state := .updating } s)

/-! ## The job stage (R311, R317 to R319) -/

/-- The 16 bits of a next exponent or of a mean magnitude in bytes 14–15. -/
def sumHeader (s : State) (b piece mode : Nat) (o : BlockS) (res extra : Nat) : Nat :=
  encodeContrib { block := b, piece := piece, mode := mode, clip := o.clip, nonfinite := o.nonfinite, shift := 0
                  group := s.job.group, member := s.job.member, maxb := o.maxb, step := o.step % 65536
                  roll := s.red.roll, core := 0, res := res, ackAddr := extra }

/-- The in-stack address divided by 64 of a piece's accumulators. -/
def pieceAddr (s : State) (b piece : Nat) : Nat := (reduceAddr s b + 3072 * piece) / 64

/-- Piece `q` of a block's accumulators in mode 1 or 3, to an owner. -/
def accPiece (s : State) (b q mode extra dest : Nat) : Msg :=
  let o := blockS s b
  let vs := (accList o).drop (512 * q) |>.take 512
  .piece dest (homeStack s b) (pieceAddr s b q) (sumHeader s b q mode o (residue vs) extra) 0 0 vs

/-- A class S total or sum (R311): mean magnitude, signs, M, and the new error memory. -/
structure SignSum where
  mean : Nat
  signs : List Bool
  m : Nat
  err : List Nat
  deriving DecidableEq, Repr

/-- The sign sum of accumulators and an error memory; `free` is the value of M where the mean is not finite, which the
spec leaves open.
Log entry 86 (DEDUCED). -/
def signSum (o : BlockS) (err : Map Nat) (free : Nat) : SignSum :=
  let ys := (List.range 4096).map fun i =>
    let a := mapGet 0 o.acc i
    fpEnc (valAdd (.fin (decide (a < 0)) a.natAbs o.bexp) (decodeElem .bf16 (mapGet 0 err i)))
  let total := ys.foldl (fun t y => valAdd t (fpDec (field y 0 31))) (.fin false 0 0)
  let mean := (convert .fp16 .nearest false (match total with | .fin _ m e => .fin false m (e - 12) | v => v)).word
  let m := match decodeElem .fp16 mean with
    | .fin _ mm me => roundInt mm (me - o.bexp)
    | _ => free % 2 ^ 47
  let newErr (y : Nat) : Nat :=
    (convert .bf16 .nearest false (valAdd (fpDec y) (.fin (!bitAt y 31) m o.bexp))).word
  { mean := mean, signs := ys.map fun y => bitAt y 31, m := m, err := ys.map newErr }

/-- The free value of a sign sum is drawn once per sum formed. -/
def freeSign (b : Nat) (err : Map Nat) (s : State) : SignSum × State :=
  let d := drawFree s
  (signSum (blockS s b) err d.1, d.2)

/-- The module that owns a tensor in a group. -/
def ownerModule (s : State) (tensor g : Nat) : Nat := 64 * g + ownerIn s tensor g

/-- A non-home owner's group sum: mode 1, or mode 2 with SEND_ERR written to the other bank, or after a clip the notice
of mode 4 (R315, R317). `first` is clear when the same pieces are sent again (R316). -/
def sendSum (b : Nat) (l : LayerRec) (bn : Nat) (first : Bool) (s : State) : State :=
  let o := blockS s b
  let dest := ownerModule s l.tensor (homeGroup s l.tensor bn)
  let s1 := setBlock b { o with state := .sent } s
  if o.clip then
    emit (.piece dest (homeStack s b) (pieceAddr s b 0) (sumHeader s b 0 4 o 0 0) 0 0 []) s1
  else if l.cls = 1 then
    let r := freeSign b (curBank s b).sendErr s1
    let p := (r.1.signs.filter fun n => !n).length
    let res := (((p : Int) - ((r.1.signs.length - p : Nat) : Int)) * (r.1.m : Int) % 65535).toNat
    let s2 := if first then setOther b { otherBank r.2 b with sendErr := mapSetList 0 [] 0 r.1.err } r.2 else r.2
    emit (.piece dest (homeStack s b) (pieceAddr s b 0) (sumHeader s b 0 2 o res r.1.mean) 0 0
      (r.1.signs.map fun n => if n then 1 else 0)) s2
  else emitAll ((List.range 8).map fun q => accPiece s1 b q 1 0 dest) s1

/-- The 8 pieces of a total to a module (R318, R499). -/
def sendTotal (b dest : Nat) (s : State) : State :=
  emitAll ((List.range 8).map fun q => accPiece s b q 3 (ofSigned 16 (blockS s b).nextBexp) dest) s

/-- SUMSQ of a matrix-rule block as it reaches TOTAL (R322).
Log entry 87 (DEDUCED). -/
def formSumsq (b : Nat) (l : LayerRec) (bn : Nat) (s : State) : State :=
  if isMatrixRule l then setBlock b { blockS s b with sumsq := sumsqOf (pipeInput s b l bn) (blockS s b).nonfinite } s
  else s

/-- In a job of two groups the total is kept, with the record that it is updated under (R495). -/
def keepTotal (b : Nat) (s : State) : State :=
  if s.job.groups = 2 then
    let keep := mapSet {} s.grp.totalKeep (2 * b + (blockS s b).step % 2) (blockS s b)
    { s with grp := { s.grp with totalKeep := keep } }
  else s

/-- A job home's block reaches TOTAL (R318), or the owner's in a job of one group; with a shadow owner the members
are acknowledged after it has the total (R499). -/
def reachTotal (b : Nat) (l : LayerRec) (bn : Nat) (s : State) : State :=
  let multi := decide (1 < s.job.groups)
  let s1 := if multi && decide (l.cls = 1) then
      let r := freeSign b (curBank s b).retErr s
      let vs : List Int := r.1.signs.map fun n => if n then -(r.1.m : Int) else (r.1.m : Int)
      setOther b { otherBank r.2 b with retErr := mapSetList 0 [] 0 r.1.err }
        (setBlock b { blockS r.2 b with acc := mapSetList 0 [] 0 vs } r.2)
    else s
  let o := blockS s1 b
  let s2 := keepTotal b (setBlock b { o with state := .total, nextBexp := nextExponent s1 o } s1)
  let s3 := formSumsq b l bn s2
  if multi then
    each (otherGroups s3) (fun g st => sendTotal b (ownerModule st l.tensor g) st) (ackMembers b s3)
  else match s3.grp.shadowedBy with
    | some m => sendTotal b (64 * s3.job.group + m) (setBlock b { blockS s3 b with shadowWait := true } s3)
    | none => trigger b (ackMembers b s3)

/-- A raise at an owner: the block takes the new exponent and its members are re-requested; after the third in a step
the restarted step takes it, and the job home asks for the rollback (R317). -/
def raiseTo (b : Nat) (bexp : Int) (s : State) : State :=
  let o := blockS s b
  let s1 := count cClip 1 (setBlock b { o with raises := o.raises + 1, bexp := bexp } s)
  if 3 ≤ o.raises + 1 then
    let s2 := setBlock b { blockS s1 b with stepBexp := bexp } s1
    if o.home then reductionFault b 2 s2 else s2
  else reRequestBlock b false s1

/-- No raise is possible: the block is carried as nonfinite, its members acknowledged (R317, R320). -/
def raiseNonfinite (b : Nat) (s : State) : State :=
  let s1 := ackMembers b s
  let o := blockS s1 b
  trigger b (setBlock b { o with nonfinite := true, state := .total, nextBexp := o.bexp } s1)

/-- The job home raises: the message goes to every owner of the block and acts on its own. -/
def raiseAll (b : Nat) (s : State) : State :=
  let o := blockS s b
  if o.bexp = 97 then raiseNonfinite b (emit (.raise b 97 true) s)
  else
    let e := clampExp (o.bexp + max 1 ((o.maxb : Int) - 31 + (s.red.headroom : Int)))
    raiseTo b e (emit (.raise b e false) s)

/-! ## Arriving pieces (R313) -/

/-- Accumulators after some values, with what overflow took back out. -/
structure AddOut where
  acc : Map Int
  back : Int
  clip : Bool

/-- Add shifted values from accumulator `i` on; one that would reach ±2^47 is left unchanged. -/
def addValues (shift : Nat) : Nat → List Int → AddOut → AddOut
  | _, [], r => r
  | i, v :: vs, r =>
    let x := v * 2 ^ shift
    let n := mapGet 0 r.acc i + x
    addValues shift (i + 1) vs (if n.natAbs < 2 ^ 47 then { r with acc := mapSet 0 r.acc i n }
      else { r with back := r.back + x, clip := true })

/-- The values a piece adds: a class S group sum adds ±M (R311). -/
def pieceValues (h : ContribHdr) (o : BlockS) (vs : List Int) : List Int :=
  if h.mode = 2 then
    match decodeElem .fp16 h.ackAddr with
    | .fin _ m e => vs.map fun v => if v = 0 then (roundInt m (e - o.bexp) : Int) else -(roundInt m (e - o.bexp) : Int)
    | _ => vs.map fun _ => 0
  else vs

/-- The record after an accepted piece of mode 0, 1, 2 or 4; an untrained block only identifies and counts it. -/
def addPiece (h : ContribHdr) (p : PieceData) (o : BlockS) : BlockS :=
  let o1 := { o with
    idsum := o.idsum + pieceId h.group h.member h.piece
    count := o.count + 1
    senders := if h.mode = 0 then
        o.senders ++ [{ member := h.member, block := p.srcBlock.val, core := h.core, entry := p.ackEntry.val
                        addr := h.ackAddr }]
      else o.senders }
  if isUntrained o then o1
  else
    let r := addValues h.shift (512 * h.piece) (pieceValues h o p.values) { acc := o.acc, back := 0, clip := false }
    { o1 with
      acc := r.acc
      carried := (((o.carried : Int) + (h.res * 2 ^ h.shift : Nat) - r.back) % 65535).toNat
      maxb := max o.maxb h.maxb
      clip := o.clip || h.clip || r.clip
      nonfinite := o.nonfinite || h.nonfinite
      groups := if h.mode = 0 then o.groups else mapUpd 0 o.groups h.group fun n => n + (if h.mode = 1 then 1 else 8) }

/-- Has the job home a sum or a notice from every group, and every piece of its own (R317)? -/
def allIn (s : State) (o : BlockS) : Bool :=
  decide (o.senders.length = 8 * (contributors s).length) &&
    (otherGroups s).all fun g => decide (8 ≤ mapGet 0 o.groups g)

/-- The completion check of a block (R315). -/
def checkBlock (b : Nat) (l : LayerRec) (bn : Nat) (s : State) : State :=
  let o := blockS s b
  if o.idsum ≠ o.idexp || (!isUntrained o && decide (o.carried ≠ residue (accList o))) then failBlock b s
  else if isUntrained o then trigger b (ackMembers b s)
  else if o.clip then (if o.home then raiseAll b s else sendSum b l bn true s)
  else if !o.home then sendSum b l bn true s
  else reachTotal b l bn s

/-- A mode 3 piece at a non-home owner in SENT (R319). -/
def totalPiece (h : ContribHdr) (p : PieceData) (b : Nat) (l : LayerRec) (bn : Nat) (s : State) : State :=
  let o := blockS s b
  if residue p.values ≠ h.res then
    let n := mapGet 0 o.totalFails h.piece + 1
    let s1 := count cResidueFail 1 (setBlock b { o with totalFails := mapSet 0 o.totalFails h.piece n } s)
    if 3 ≤ n then reductionFault b 3 s1 else emit (.totalRerequest b h.piece) s1
  else
    let seen := if o.totalPieces.contains h.piece then o.totalPieces else o.totalPieces ++ [h.piece]
    let o1 := { o with acc := mapSetList 0 o.acc (512 * h.piece) p.values, totalPieces := seen, maxb := h.maxb
                       nonfinite := o.nonfinite || h.nonfinite, nextBexp := toSigned 16 h.ackAddr }
    let s1 := setBlock b o1 s
    if seen.length < 8 then s1
    else
      let s2 := ackMembers b (emit (.totalAck b) s1)
      trigger b (formSumsq b l bn (keepTotal b (setBlock b { blockS s2 b with state := .total } s2)))

def stale (s : State) : State := count cStaleDrops 1 s

/-- The block's entry comes into the cache: read from REDUCE under R260 where it is not cached and has had a contribution
(R262). Answers whether that read failed for good. -/
def fetchBlock (stack b : Nat) (f : MemFacts) (s : State) : Bool × State :=
  let o := blockS s b
  if (mapGet [] s.mem.cache stack).contains b || decide (o.count = 0) then (false, touchCache stack b s)
  else
    let r := checkedRead stack (reduceAddr s b) (List.range 385) f s
    if r.1.isEmpty then (false, touchCache stack b r.2) else (true, r.2)

/-- A piece reaches the remote-accumulate unit of a stack. -/
def pieceArrives (stack : Nat) (p : PieceData) (f : MemFacts) (s0 : State) : State :=
  let h := decodeContrib p.header.toNat
  let s := countBus f s0
  match layerAt s h.block with
  | none => stale s
  | some (l, bn) =>
    let o := blockS s h.block
    if h.step ≠ o.step % 65536 || h.roll ≠ o.roll then stale s
    else if o.state = .open_ && (isUntrained o || decide (h.mode ≤ 2) || decide (h.mode = 4)) then
      let read := fetchBlock stack h.block f s
      if read.1 then reRequestBlock h.block true read.2
      else
        let s2 := count cPieces 1 (setBlock h.block (addPiece h p o) read.2)
        let o2 := blockS s2 h.block
        if o2.target ≤ o2.count then checkBlock h.block l bn s2
        else if o2.home && o2.clip && decide (1 < s2.job.groups) && allIn s2 o2 then raiseAll h.block s2
        else s2
    else if o.state = .sent && decide (h.mode = 3) then
      let read := fetchBlock stack h.block f s
      if read.1 then reRequestBlock h.block true read.2
      else totalPiece h p h.block l bn (count cPieces 1 read.2)
    else stale s

/-- PIECE_ARRIVAL. The controllers of every reachable stack run whatever field is out; no piece reaches another (R247). -/
def execPieceArrival (stack : StackId) (piece : PieceData) (facts : MemFacts) (s : State) :
    Host.Outcome State Fault Refusal :=
  .next (whenReady (fun st => if stackGone st stack.val then st else pieceArrives stack.val piece facts st) s)

/-! ## Held pieces and re-requests at a member (R307, R316) -/

/-- A held piece as its message, converted against an exponent. -/
def heldMsg (s : State) (h : HeldPiece) (stack addr : Nat) : Contribution × Msg :=
  let c := convertPiece h.bexp h.values
  (c, .piece (64 * s.job.group + h.owner) stack addr
    (encodeContrib { block := h.block, piece := h.piece, mode := 0, clip := c.clip, nonfinite := c.nonfinite
                     shift := c.shift, group := s.job.group, member := s.job.member, maxb := c.maxb
                     step := s.tick.step % 65536, roll := s.red.roll, core := h.core % 16, res := residue c.values
                     ackAddr := h.ackAddr }) (h.core / 16) h.ackEntry c.values)

/-- Send a held piece; one with SHIFT above zero is counted (R306). -/
def sendHeld (h : HeldPiece) (s : State) : State :=
  let m := heldMsg s h h.stack h.addr
  emit m.2 (if m.1.shift = 0 then s else count cWidePieces 1 s)

/-- A re-request from this group's owner: held pieces go again, against the exponent it names. -/
def resendHeld (owner b : Nat) (bexp : Int) (s : State) : State :=
  let mine (h : HeldPiece) : Bool := decide (h.owner = owner) && decide (h.block = b)
  let s1 := { s with red := { s.red with
    held := s.red.held.map fun h => if mine h then { h with bexp := bexp } else h } }
  each (s1.red.held.filter mine) sendHeld s1

/-- RE_REQUEST: at a member from its own group's owner, at a non-home owner in SENT from the job home. -/
def execReRequest (group : GroupId) (owner : MemberId) (block : BitVec 32) (bexp : Int) (s : State) :
    Host.Outcome State Fault Refusal :=
  .next (whenReady (fun st =>
    if group.val = st.job.group then resendHeld owner.val block.toNat bexp st
    else match layerAt st block.toNat with
      | some (l, bn) =>
        if (blockS st block.toNat).state = .sent then sendSum block.toNat l bn false st else st
      | none => st) s)

/-- RAISE_MESSAGE at an owner whose block is in OPEN or SENT (R317). -/
def execRaiseMessage (msg : RaiseMsg) (s : State) : Host.Outcome State Fault Refusal :=
  .next (whenReady (fun st =>
    let o := blockS st msg.block
    if (layerAt st msg.block).isNone || (decide (o.state ≠ .open_) && decide (o.state ≠ .sent)) then st
    else if msg.nonfinite then raiseNonfinite msg.block st
    else raiseTo msg.block (clampExp msg.bexp) st) s)

/-- TOTAL_ACKNOWLEDGEMENT: a job home's block leaves TOTAL when every other group's owner has acknowledged (R318); the
shadow owner's lets a shadowed owner acknowledge its members (R499). -/
def execTotalAcknowledgement (block : BitVec 32) (group : GroupId) (fromShadow : Bool) (s : State) :
    Host.Outcome State Fault Refusal :=
  .next (whenReady (fun st =>
    let b := block.toNat
    let o := blockS st b
    if o.state ≠ .total then st
    else if fromShadow then
      if o.shadowWait then trigger b (ackMembers b (setBlock b { o with shadowWait := false } st)) else st
    else if !o.home || o.totalAcks.contains group.val then st
    else
      let acks := o.totalAcks ++ [group.val]
      let s1 := setBlock b { o with totalAcks := acks } st
      if (otherGroups st).all acks.contains then trigger b s1 else s1) s)

/-- TOTAL_REREQUEST: the job home, or a shadowed owner, sends a mode 3 piece again (R319, R499). -/
def execTotalRerequest (block : BitVec 32) (group : GroupId) (piece : Fin 8) (s : State) :
    Host.Outcome State Fault Refusal :=
  .next (whenReady (fun st =>
    let b := block.toNat
    let o := blockS st b
    match layerAt st b with
    | none => st
    | some (l, _) =>
      if o.state ≠ .total then st
      else
        let dest := if group.val = st.job.group then 64 * group.val + st.grp.shadowedBy.getD st.job.member
          else ownerModule st l.tensor group.val
        emit (accPiece st b piece.val 3 (ofSigned 16 o.nextBexp) dest) st) s)

end Sys2Proof.Machine
end

