-- ==== Sys2Proof/Machine/Update.lean ====
section
/-! DEFINITION. The update of blocks and the commit of a step (R321 to R334, R493): the step's opening, the pipe's and
the region's completions, outbound working copies, update-done reports, the commit, and what a rollback clears. -/

namespace Sys2Proof.Machine

/-! ## A step's opening (R314) -/

/-- The settings of a step, taken at its boundary. -/
def noteParams (step : Nat) (s : State) : State :=
  let p : StepParams := { gscale := s.red.gscale, clip := s.red.clipFactor, refresh := s.red.refreshSteps
                          seed := s.snap.seed, layers := s.red.layers }
  { s with red := { s.red with params := mapSet {} s.red.params step p } }

/-- Open a block that the step before has done with; a block still in work opens when it reaches UPDATED. -/
def openBlock (step b : Nat) (s : State) : State :=
  match layerAt s b with
  | none => s
  | some (l, bn) =>
    let o := blockS s b
    if o.state ≠ .idle && o.state ≠ .updated then s
    else
      let s1 := openRecord step b l bn s
      if (blockS s1 b).state = .waitCommit then trigger b s1 else s1

def openStep (step : Nat) (s : State) : State := each (ownedBlocks s) (openBlock step) (noteParams step s)

/-! ## Commit (R332, R333) -/

/-- The clipping factor that the job lead sets from the norm of group 0's blocks (R322). -/
def clipOf (s : State) : Nat :=
  if s.red.clipNorm = 0 then fpOne else fpMin fpOne (fpDiv s.red.clipNorm (fpSqrt s.red.groupNorm))

/-- The factor of the next step as the commit notice brings it. A commit that a rollback notice brings, without the commit's
own, leaves it a free value where CLIP_NORM is set.
Log entry 88 (DESIGN CHOICE). -/
def takeClip (k : Option Nat) (s : State) : State :=
  match k with
  | some k => { s with red := { s.red with clipFactor := k } }
  | none =>
    if s.red.clipNorm = 0 then { s with red := { s.red with clipFactor := fpOne } }
    else
      let d := drawFree s
      { d.2 with red := { d.2.red with clipFactor := d.1 % 2 ^ 32 } }

/-- The factor enters the settings of a step that has begun. -/
def putClip (step : Nat) (s : State) : State :=
  { s with red := { s.red with params := s.red.params.map fun e =>
      if e.1 = step then (e.1, { e.2 with clip := s.red.clipFactor }) else e } }

/-- A block's record at the commit of a step: UPDATED ends in IDLE, and a restart from now on begins with the exponent
that the next step does. -/
def commitRecord (step : Nat) (o : BlockS) : BlockS :=
  if o.step = step then
    (if o.state = .updated then { o with state := .idle, stepBexp := o.nextBexp } else o)
  else { o with stepBexp := o.openBexp }

/-- The tensors of a step gain one update. -/
def addUpdates (step : Nat) (s : State) : State :=
  { s with red := { s.red with
      layers := s.red.layers.map fun e =>
        if s.red.updatedIn.contains (step, e.1) then (e.1, { e.2 with updates := e.2.updates + 1 }) else e
      shadowLayers := s.red.shadowLayers.map fun e =>
        if s.red.updatedIn.contains (step, e.1) then (e.1, { e.2 with updates := e.2.updates + 1 }) else e
      updatedIn := s.red.updatedIn.filter fun e => decide (e.1 ≠ step) } }

/-- Force a tensor's next working copy to go out as REFRESH. -/
def forceRefresh (tensor : Nat) (s : State) : State :=
  { s with red := { s.red with refreshForced := mapSet 0 s.red.refreshForced tensor 1 } }

/-- Marked blocks, where a reconcile is due at a step's commit (R493): the lowest group's owner sends its current bank
and the others wait for it. -/
def reconcile (step : Nat) (s : State) : State :=
  if s.grp.reconcileSteps = 0 || decide (step % s.grp.reconcileSteps ≠ 0) then s
  else each ((ownedBlocks s).filter fun b => (blockS s b).mark) (fun b st =>
    let st1 := match layerAt st b with | some (l, _) => forceRefresh l.tensor st | none => st
    if st.job.group = 0 then
      emit (.reconcileCopy b (curBank st1 b)) (count cMirReconciled 1 (setBlock b { blockS st1 b with mark := false } st1))
    else setBlock b { blockS st1 b with repairWait := true } st1) s

/-- Blocks that waited for the commit trigger. -/
def releaseWaiting (s : State) : State :=
  each (ownedBlocks s) (fun b st => if (blockS st b).state = .waitCommit then trigger b st else st) s

/-- Is the job held in a pause that followed `step` (R56, R320)? The weight servers are told to stop at that commit. -/
def pausedAfter (step : Nat) (s : State) : Bool :=
  s.job.held && decide (s.tick.step ≤ step) && s.job.holds.any fun c => decide (c = 1) || decide (c = 11)

/-- What the commit of `step` does on a module (R333), after which a pause that was to follow it stops the stream
(R56). A notice of any other step changes nothing.
Log entry 86 (DEDUCED). -/
def applyCommit (step : Nat) (k : Option Nat) (s : State) : State :=
  if step ≠ s.red.committed + 1 || !s.job.started then s
  else
    let s1 := { s with mem := { s.mem with ownerCur := !s.mem.ownerCur } }
    let s2 := addUpdates step { s1 with red := { s1.red with
      committed := step, reports := [], groupReported := [], mirrorDone := false, nonfiniteTensor := none, groupNorm := 0
      groupBad := none
      blocks := s1.red.blocks.foldl (fun m e => mapSet {} m e.1 (commitRecord step e.2)) []
      params := s1.red.params.filter fun e => decide (step ≤ e.1) } }
    let s3 := event 0x8002 0 (stepJournal 0 step 0 0 s2)
    let s4 := putClip (step + 1) (takeClip k { s3 with grp := { s3.grp with
      repaired := 0, marked := 0, totalKeep := mapFilter (fun k _ => decide (k % 2 ≠ step % 2)) s3.grp.totalKeep } })
    let s5 := releaseWaiting (reconcile step s4)
    if pausedAfter step s5 then stopStream false s5 else s5

/-! ## Update-done reports (R332) -/

/-- The members of a group that own a trained tensor. -/
def groupOwners (s : State) (g : Nat) : List Nat :=
  match s.place.inForce with
  | none => []
  | some i => (i.owners.map fun e => ownerIn s e.1 g).foldl (fun l m => if l.contains m then l else l ++ [m]) []

/-- The job lead sends the commit notice and applies it; a nonfinite step counts toward NONFINITE_STEPS and may pause
the job (R320); a commit that a mirror repair let through is followed by the rollback to it (R494). -/
def commitJob (s : State) : State :=
  let step := s.red.committed + 1
  let bad := decide (s.red.nonfiniteStep = step + 1)
  let run := if bad then s.red.nonfiniteRun + 1 else 0
  let k := clipOf s
  let s1 := emit (.commit step s.red.roll k) { s with red := { s.red with nonfiniteRun := run } }
  let s2 := if bad && decide (run = s.red.nonfiniteSteps) then
      { s1 with job := { s1.job with pauseFor := s1.job.pauseFor ++ [11] } } else s1
  let s3 := applyCommit step (some k) s2
  if s3.grp.mirrorRollback then requestRollback 10 { s3 with grp := { s3.grp with mirrorRollback := false } } else s3

/-- Commit when every group has reported and the mirror check is complete; one group has none (R491). -/
def tryCommit (s : State) : State :=
  if isJobLead s && (List.range s.job.groups).all s.red.groupReported.contains &&
      (decide (s.job.groups = 1) || s.red.mirrorDone) then commitJob s else s

/-- The job lead notes a nonfinite step by the tensor that a report names: one FAULT event for each (R320). -/
def noteBadStep (bad : Option Nat) (s : State) : State :=
  let k := s.red.committed + 2
  match bad with
  | none => s
  | some tensor =>
    if s.red.nonfiniteStep = k then s
    else faultEvent { cls := 6, code := 5, detail := tensor } { s with red := { s.red with nonfiniteStep := k } }

/-- A group's report at the job lead. -/
def groupReport (g : Nat) (bad : Option Nat) (s : State) : State :=
  let s1 := noteBadStep bad s
  let gs := if s1.red.groupReported.contains g then s1.red.groupReported else s1.red.groupReported ++ [g]
  tryCommit { s1 with red := { s1.red with groupReported := gs } }

/-- A member's report at its lead, with the first nonfinite tensor and the norm of the member's blocks: the group's report goes on
when every owner's is in. -/
def memberReport (m : Nat) (bad : Option Nat) (norm : Nat) (s : State) : State :=
  let r := s.red
  let s1 := if r.reports.contains m then s else
    { s with red := { r with reports := r.reports ++ [m], groupNorm := fpAdd false r.groupNorm norm
                             groupBad := match r.groupBad with | some t => some t | none => bad } }
  let s2 := if isJobLead s then noteBadStep bad s1 else s1
  if (groupOwners s2 s2.job.group).all s2.red.reports.contains then
    (if isJobLead s2 then groupReport s2.job.group none s2
     else emit (.groupDone s2.job.group (s2.red.committed + 1) s2.red.groupBad) s2)
  else s2

/-- The digest list of a step (R491): one entry per tensor updated.
Log entry 78 (DESIGN CHOICE). -/
def digestEntries (s : State) (step : Nat) : List DigestEntry :=
  (s.red.updatedIn.filter fun e => decide (e.1 = step)).map fun e =>
    let bs := (blocksOf s e.2).filter fun b => decide ((blockS s b).doneStep = step + 1)
    let dig (b : Nat) : MirDigest := mapGet noDigest s.grp.mirror b
    { tensor := e.2, tcrc := crc32 (bs.flatMap fun b => bytesLE 4 (dig b).crc), blocks := bs.length
      nanBlocks := (bs.filter fun b => (dig b).nan).length }

/-- Is every block the module owns updated for `step`, and its segments gone? -/
def ownerDone (s : State) (step : Nat) : Bool :=
  (ownedBlocks s).all fun b => decide (step + 1 ≤ (blockS s b).doneStep) && (blockS s b).outSegs.isEmpty

/-- Report update done for the step in work, once: to the lead, with the digest list where the job has several
groups. -/
def reportDone (s : State) : State :=
  let step := s.red.committed + 1
  if !s.job.started || (ownedBlocks s).isEmpty || decide (s.red.reported = step + 1) || !ownerDone s step then s
  else
    let s1 := { s with red := { s.red with reported := step + 1 } }
    let s2 := if 1 < s.job.groups then emit (.digestList (digestEntries s step)) s1 else s1
    let norm := (mapGet {} s.red.params step).norm2
    if isLead s then memberReport s.job.member s.red.nonfiniteTensor norm s2
    else emit (.updateDone step s.red.nonfiniteTensor norm) s2

/-! ## Rollback (R265, R334, R135) -/

/-- A block after a rollback to step `t`: as before the step, nothing received. One that waits for its owner state goes on
waiting; a repair of the undone step's result does not come. -/
def rolledBack (t : Nat) (o : BlockS) : BlockS :=
  { repairWait := o.repairWait && decide (o.doneStep ≠ t + 2), train := o.train, rowMask := o.rowMask, mark := o.mark, carryOnce := o.carryOnce, stepBexp := o.stepBexp, openBexp := o.stepBexp
    bexp := o.stepBexp, nextBexp := o.stepBexp, home := o.home, doneStep := 0 }

/-- What a rollback clears of reduction: caches, records, held pieces, reports, and the settings of uncommitted steps.
OWNER_CUR does not change. -/
def rollbackReduce (s : State) : State :=
  let t := s.red.committed
  let undone (tensor : Nat) : Bool := decide (t + 1 < mapGet 0 s.red.churnStep tensor)
  { s with
    mem := { s.mem with cache := [] }
    red := { s.red with
      blocks := s.red.blocks.foldl (fun m e => mapSet {} m e.1 (rolledBack t e.2)) []
      held := [], reports := [], groupReported := [], reported := 0, mirrorDone := false, nonfiniteTensor := none
      groupNorm := 0, groupBad := none, updatedIn := [], refreshForced := s.red.refreshForced.map fun e => (e.1, 1)
      layers := s.red.layers.map fun e =>
        if undone e.1 then (e.1, { e.2 with maskChanges := mapGet 0 s.red.churnOld e.1 }) else e
      churnStep := s.red.churnStep.filter fun e => !undone e.1
      params := s.red.params.filter fun e => decide (e.1 ≤ t) }
    grp := { s.grp with mirror := [], totalKeep := [], digests := [], disputed := [], verdicts := [], mirrorRollback := false } }

/-! ## The steps -/

/-- BLOCK_UPDATE_DONE: the pipe ends a block in UPDATING. A mod-15 mismatch discards its writes and redoes the block; a
second in the block and step is an unrecovered reduction fault (R325). -/
def execBlockUpdateDone (block : BitVec 32) (chk : Bool) (s : State) : Host.Outcome State Fault Refusal :=
  .next (whenReady (fun st =>
    let b := block.toNat
    let o := blockS st b
    if o.state ≠ .updating then st
    else if chk then reportDone (pipeWrite b false st)
    else
      let s1 := count cResidue 1 (setBlock b { o with redone := o.redone + 1 } st)
      if 1 ≤ o.redone then reductionFault b 4 s1 else s1) s)

/-- Has a block in TOTAL every acknowledgement it waits for (R318, R499)? -/
def totalReleased (s : State) (b : Nat) : Bool :=
  let o := blockS s b
  decide (o.state = .total) && !o.shadowWait &&
    (!o.home || decide (s.job.groups ≤ 1) || (otherGroups s).all o.totalAcks.contains)

/-- UPDATE_REGION_SIGNAL: every block of a matrix-rule tensor is in TOTAL, and its update region is signalled (R326);
blocks carried as nonfinite have left it for the pipe. -/
def execUpdateRegionSignal (tensor : BitVec 32) (s : State) : Host.Outcome State Fault Refusal :=
  .next (whenReady (fun st =>
    let t := tensor.toNat
    let l := mapGet {} st.red.layers t
    let bs := blocksOf st t
    let ready (b : Nat) : Bool := totalReleased st b || (blockS st b).nonfinite || carriedInStep l (blockS st b)
    let mine := bs.filter (totalReleased st)
    if !isMatrixRule l || mine.isEmpty || !bs.all ready then st
    else each mine (fun b x => leaveCache b (setBlock b { blockS x b with state := .updating } x))
      (emit (.signal l.updateUnit l.updateEntry 1) st)) s)

/-- OUTBOUND_WORKING_COPY: the segments of an updated block leave (R329). -/
def execOutboundWorkingCopy (block : BitVec 32) (s : State) : Host.Outcome State Fault Refusal :=
  .next (whenReady (fun st =>
    let b := block.toNat
    let o := blockS st b
    match layerAt st b with
    | none => st
    | some (l, _) =>
      if o.outSegs.isEmpty then reportDone st
      else
        let msg (e : Nat × List Byte) : Msg :=
          .segment (if e.1 = 3 then l.tensor + 0x80000000 else l.tensor) b e.1 (o.doneStep - 1) e.2
        let lane := nth 0 st.stream.ranks (b % max 1 st.stream.ranks.length)
        let heads (e : Nat × List Byte) (x : State) : State :=
          if st.stream.ranks.isEmpty then x
          else queueChunks lane 3 2 ((Config.outHeader l.tensor b e.1 (o.doneStep - 1)).map (·.toNat)) x
        reportDone (each o.outSegs heads (count cOutSegBytes ((o.outSegs.map (·.2.length)).sum)
          (emitAll (o.outSegs.map msg) (setBlock b { o with outSegs := [] } st))))) s)

/-- UPDATE_DONE_REPORT: a member's at its lead, with the first nonfinite tensor and the sum of its blocks' SUMSQ, or another
group's at the job lead.
Log entry 88 (DESIGN CHOICE). -/
def execUpdateDoneReport (group : GroupId) (member : MemberId) (fromLead : Bool) (nonfinite : Option (BitVec 32))
    (norm : BitVec 32) (s : State) : Host.Outcome State Fault Refusal :=
  let bad := nonfinite.map (·.toNat)
  .next (whenReady (fun st =>
    if !isLead st || !st.job.started then st
    else if fromLead then (if isJobLead st then groupReport group.val bad st else st)
    else if group.val = st.job.group then memberReport member.val bad norm.toNat st else st) s)

/-- COMMIT_NOTICE: of the step after the last committed one and of the rollback generation the module holds, with the
clipping factor that the job lead has set for the next step (R322). -/
def execCommitNotice (t : Nat) (step : BitVec 40) (roll : BitVec 8) (clip : BitVec 32) (s : State) : Host.Outcome State Fault Refusal :=
  .next (whenReady (fun st =>
    let st1 := atTime t st
    if roll.toNat = st1.red.roll then applyCommit step.toNat (some clip.toNat) st1 else st1) s)

/-- DRIFT_E and its bound of a block, formed again from its current master (R497). -/
def reformDrift (b : Nat) (s : State) : State :=
  match layerAt s b with
  | none => s
  | some (l, bn) =>
    let out := pipePass (pipeInput s b l bn) true false false
    setBlock b { blockS s b with driftE := out.driftE, driftU := out.driftU } s

/-- A shadowed block's record and number. -/
def shadowAt (s : State) (b : Nat) : Option (LayerRec × Nat) := layerIn (s.red.shadowLayers.map (·.2)) b

/-- Does a shadowed block's tag name an uncommitted step (R500)?
Log entry 75 (DESIGN CHOICE). -/
def tagUncommitted (s : State) (b : Nat) : Bool :=
  let tag := mapGet 0 s.red.shadowStep b
  decide (tag ≠ 0) && (decide (tag = (s.red.committed + 1) % 65536) || decide (tag = (s.red.committed + 2) % 65536))

/-- Does SHADOW wait for the owner's copy of a block: never filled, or to be put back in a rollback (R499, R500)? -/
def shadowWants (s : State) (b : Nat) : Bool :=
  (shadowAt s b).isSome && (decide (mapGet {} s.red.shadow b = ({} : OwnerBlock)) || (s.grp.rolling && tagUncommitted s b))

/-- The owner's copy into SHADOW; its tag names the last committed step. -/
def restoreShadow (b : Nat) (bank : OwnerBlock) (s : State) : State :=
  { s with red := { s.red with shadow := mapSet {} s.red.shadow b bank
                               shadowStep := mapSet 0 s.red.shadowStep b (s.red.committed % 65536) } }

/-- Own blocks that a vote or a recomputation found wrong and whose repair copy has not come (R494). -/
def repairDue (s : State) (b : Nat) : Bool :=
  let o := blockS s b
  o.repairWait && !s.grp.rolling && decide (o.doneStep = s.red.committed + 2)

/-- The mirror check is complete once every disputed block is settled and every repair copy to this module is written
(R496). -/
def settleMirror (s : State) : State :=
  if s.grp.disputed.isEmpty && s.grp.verdicts.isEmpty && !((ownedBlocks s).any (repairDue s)) then
    tryCommit { s with red := { s.red with mirrorDone := true } }
  else s

/-- RECONCILE_COPY: an owner writes the copy into its current bank and clears MARK; an update that waited for it goes on
(R493). The same packets bring a moved block to its successor (R498), a block back to a shadow owner (R500), and a repair
into the other bank before commit (R494).
Log entry 58 (DESIGN CHOICE). -/
def execReconcileCopy (block : BitVec 32) (bank : OwnerBlock) (s : State) : Host.Outcome State Fault Refusal :=
  .next (whenReady (fun st =>
    let b := block.toNat
    let o := blockS st b
    if shadowWants st b && !o.mark && !o.repairWait then restoreShadow b bank st
    else if repairDue st b then settleMirror (setOther b bank (setBlock b { o with repairWait := false } st))
    else if (layerAt st b).isNone then st
    else
      let s1 := reformDrift b (setCur b bank (setBlock b { o with mark := false, repairWait := false } st))
      let s2 := if o.mark then count cMirReconciled 1 s1 else s1
      if (blockS s2 b).state = .waitCommit then trigger b s2 else s2) s)

end Sys2Proof.Machine
end

