-- ==== Sys2Proof/Machine/Fabric.lean ====
section
/-! DEFINITION. Links, packets and the unit map (R74 to R98), and what a block's L port does with a packet (R123, R131,
R199, R315). -/

namespace Sys2Proof.Machine

/-! ## Links (R82 to R84) -/

/-- Do both routers of a link run, and is the link in service? -/
def linkUp (s : State) (l : LinkRef) : Bool :=
  match linkEnd l with
  | none => false
  | some r => !isDark s (l.router.val / 640) && !isDark s (r / 640) && !(linkS s (linkKey l)).retired

/-- The times of errors within the last 1 ms. -/
def recentErrors (t : Nat) (ts : List Nat) : List Nat := ts.filter fun x => decide (t < x + 1000000)

/-- Is a retrain due: a flit that failed three consecutive sends, or more than 64 errors within 1 ms (R83)? -/
def retrainDue (l : LinkS) : Bool := decide (3 ≤ l.failRun) || decide (64 < l.errors.length)

/-- FLIT_RECEIVED: the receiving router checks parity on every flit, dark words included (R82, R90). -/
def execFlitReceived (t : Nat) (link : LinkRef) (flit : BitVec 128) (parityOk : Bool) (s : State) :
    Host.Outcome State Fault Refusal :=
  .next (whenReady (fun st =>
    let st1 := atTime t st
    let k := linkKey link
    let l := linkS st1 k
    let dark := decide (flit.toNat = 0xF)
    if !linkUp st1 link then st1
    else if parityOk then
      if dark then setLink k { l with errors := recentErrors t l.errors } st1
      else emit (.flit k flit.toNat)
        (setLink k { l with errors := recentErrors t l.errors, failRun := 0, resend := false, inFlight := l.inFlight - 1 } st1)
    else
      let l1 := { l with errors := recentErrors t l.errors ++ [t]
                         failRun := if dark then l.failRun else l.failRun + 1, resend := true }
      count cLinkParity 1 (emit (.flitResend k) (setLink k l1 st1))) s)

/-- The oldest flit that the receiving router has not taken, where the replay buffer still holds it. -/
def unreceived (l : LinkS) : Option Nat :=
  if l.inFlight = 0 ∨ l.replay.length < l.inFlight then none else l.replay[l.replay.length - l.inFlight]?

/-- FLIT_RESEND: asked for a resend, the sending router resends the flit whose parity failed from its replay buffer. -/
def execFlitResend (link : LinkRef) (s : State) : Host.Outcome State Fault Refusal :=
  .next (whenReady (fun st =>
    let k := linkKey link
    let l := linkS st k
    match unreceived l with
    | some f =>
      if l.resend && !l.retraining && linkUp st link then emit (.flit k f) (setLink k { l with resend := false } st) else st
    | none => st) s)

/-- LINK_RETRAIN: the two routers begin to retrain the link (R83). -/
def execLinkRetrain (link : LinkRef) (s : State) : Host.Outcome State Fault Refusal :=
  .next (whenReady (fun st =>
    let k := linkKey link
    let l := linkS st k
    if linkUp st link && retrainDue l && !l.retraining then
      count cLinkRetrains 1 (setLink k { l with retraining := true } st)
    else st) s)

/-- The field that a retired link takes dark: its own, or the higher-numbered of the two on a boundary (R84). -/
def retiredField (l : LinkRef) : Nat :=
  match linkEnd l with
  | none => l.router.val / 640
  | some r => max (l.router.val / 640) (r / 640)

/-- A link is retired. -/
def retireLink (link : LinkRef) (s : State) : State :=
  let k := linkKey link
  let s1 := setLink k { linkS s k with retired := true, retraining := false } s
  darkField (retiredField link) 6 (faultEvent { cls := 3, code := 6, block := link.router.val
                                                field := retiredField link, detail := k } s1)

/-! ## Routing (R77 to R80) -/

/-- The direction along a row or column of blocks toward a destination inside the field; none at the router itself. -/
def dirInField (bx by_ dx dy : Nat) : Option Dir :=
  if bx < dx then some .e else if dx < bx then some .w
  else if by_ < dy then some .n else if dy < by_ then some .s else none

/-- The output a packet takes at a router, and whether it is on the escape channel from there on; none at a destination
router that has no port of the kind asked for.
Log entry 106 (DESIGN CHOICE). -/
def routeOut (s : State) (router : Nat) (f : Flit) : Option (OutPort × Bool) :=
  let bx := blockBx router
  let by_ := blockBy router
  let here := router / 640
  let dest := fieldAt f.destBx f.destBy
  if dest = here then
    match dirInField bx by_ f.destBx f.destBy with
    | some d => some (.mesh d, f.esc)
    | none =>
      if f.destKind = 0 then some (.local_, f.esc)
      else if f.destKind = 1 then (if by_ % 32 = 16 then some (.hub, f.esc) else none)
      else if bx = 0 ∨ bx = 139 ∨ by_ = 0 ∨ by_ = 383 then some (.memory, f.esc) else none
  else
    let e := nth (dirCode (dimDir here dest)) (fieldS s here).routes dest
    let d := dirOf (e % 4)
    let esc := decide (4 ≤ e)
    if (d = .n ∨ d = .s) ∧ esc = false ∧ bx ≠ f.destBx then
      some (.mesh (if bx < f.destBx then .e else .w), f.esc)
    else some (.mesh d, f.esc || esc)

/-- The flits of a packet as 128-bit words. -/
def flitWords (p : Flits) : List Nat :=
  p.header.toNat :: (List.range (ceilDiv p.payload.length 16)).map fun i => ofBytesLE ((p.payload.drop (16 * i)).take 16)

/-- A packet that goes on by escape sets ESC and moves to VC 4 (R80). -/
def onEscape (esc : Bool) (p : Flits) : Flits :=
  if esc then { p with header := BitVec.ofNat 128 (encodeFlit { decodeFlit p.header.toNat with esc := true, vc := 4 }) }
  else p

/-- The beam header of a wrapped packet for another module at a hub (R348), with the lane's number in the field and the
inner packet. -/
def wrapped (s : State) (p : Flits) : Option (Nat × Nat × Flits) :=
  let f := decodeFlit p.header.toNat
  let h := ofBytesLE (p.payload.take 16)
  let b := decodeBeamHdr h
  let inner := p.payload.drop 16
  if f.destKind = 1 ∧ f.addr < 16 ∧ b.kind = 1 ∧ b.srcMod = selfIndex s ∧ b.jobTag = s.job.tag ∧
      b.flits = ceilDiv inner.length 16 ∧ b.flits ≠ 0 then
    some (f.addr, h, { header := BitVec.ofNat 128 (ofBytesLE (inner.take 16)), payload := inner.drop 16 })
  else none

/-- A packet at a hub: a wrapped one goes to its lane, any other to the control core or an engine of the hub. -/
def hubOut (router : Nat) (p : Flits) (s : State) : State :=
  match wrapped s p with
  | some (lane, h, inner) => laneSend (16 * (router / 640) + lane) h inner s
  | none => emit (.fabric router .hub p) s

/-! ## Output ports (R75, R83, R106, R107) -/

/-- A port's number in the state's store, 8 × router + port. -/
def portKey (router : Nat) : OutPort → Nat
  | .mesh d => 8 * router + dirCode d
  | .local_ => 8 * router + 4
  | .hub => 8 * router + 5
  | .memory => 8 * router + 6

def portOf (n : Nat) : OutPort :=
  if n < 4 then .mesh (dirOf n) else if n = 4 then .local_ else if n = 5 then .hub else .memory

def portS_ (s : State) (k : Nat) : PortArb := mapGet {} s.fabric.ports k
def setPortArb (k : Nat) (v : PortArb) (s : State) : State :=
  { s with fabric := { s.fabric with ports := mapSet {} s.fabric.ports k v } }

/-- The virtual channel of a packet. -/
def vcOf (p : Flits) : Nat := (decodeFlit p.header.toNat).vc

/-- The channels that have a packet waiting at a port. -/
def waitingVcs (a : PortArb) : List Nat := (List.range 5).filter fun v => a.waiting.any fun e => decide (vcOf e.1 = v)

/-- The turns of CONTROL, REQUEST and RESPONSE in one round (Table 3.3): weights 1, 3 and 3, in flits. -/
def roundTurns : List Nat := [1, 2, 2, 2, 3, 3, 3]

/-- The next turn among channels that wait, and what is left of the round; a round that has no turn for them begins anew. -/
def nextTurn (a : PortArb) (vs : List Nat) : Option (Nat × List Nat) :=
  let rest := a.turns.dropWhile fun v => !vs.contains v
  match rest with
  | v :: left => some (v, left)
  | [] => match roundTurns.dropWhile fun v => !vs.contains v with
    | v :: left => some (v, left)
    | [] => none

/-- The channel whose flit a port serves next, with the channels owed and the turns left then: GLINT first; after a GLINT
packet one flit of each other channel that waits; then ESCAPE, then the weighted round robin (Table 3.3, R75).
Log entry 108 (DESIGN CHOICE). -/
def serveNext (a : PortArb) : Option (Nat × List Nat × List Nat) :=
  let vs := waitingVcs a
  match a.owed.filter vs.contains with
  | v :: rest => some (v, rest, a.turns)
  | [] =>
    if vs.contains 0 then some (0, [], a.turns)
    else if vs.contains 4 then some (4, [], a.turns)
    else (nextTurn a vs).map fun n => (n.1, [], n.2)

/-- Send one flit of the first packet of a channel; the packet, where that was its last. -/
def takeFlit (v : Nat) : List (Flits × Nat) → List (Flits × Nat) × Option (Nat × Option Flits)
  | [] => ([], none)
  | (p, n) :: rest =>
    if vcOf p = v then
      let flit := nth 0 (flitWords p) n
      if flitCount p ≤ n + 1 then (rest, some (flit, some p)) else ((p, n + 1) :: rest, some (flit, none))
    else
      let r := takeFlit v rest
      ((p, n) :: r.1, r.2)

/-- A flit leaves by a link: the replay buffer keeps the last 32. -/
def linkSent (k flit : Nat) (s : State) : State :=
  let l := linkS s k
  let all := l.replay ++ [flit]
  setLink k { l with replay := all.drop (all.length - 32), inFlight := l.inFlight + 1 } s

/-- A whole packet has left by a port: at the L port of a field that is not lit it is discarded and counted (R107). -/
def packetLeft (k : Nat) (p : Flits) (s : State) : State :=
  let router := k / 8
  match portOf (k % 8) with
  | .local_ => if isLit s (router / 640) then emit (.fabric router .local_ p) s else count cPktDiscard 1 s
  | .hub => hubOut router p s
  | port => emit (.fabric router port p) s

/-- A port serves up to `n` flits. -/
def servePort (k : Nat) : Nat → State → State
  | 0, s => s
  | n + 1, s =>
    let a := portS_ s k
    match serveNext a with
    | none => s
    | some (v, owed, turns) =>
      let r := takeFlit v a.waiting
      let ended := match r.2 with | some (_, some _) => true | _ => false
      let b : PortArb := { waiting := r.1, turns := turns, owed := if v = 0 ∧ ended = true then [4, 1, 2, 3] else owed }
      let s1 := setPortArb k (if r.1.isEmpty then {} else b) s
      match r.2 with
      | none => s1
      | some (flit, last) =>
        let s2 := if k % 8 < 4 then linkSent (4 * (k / 8) + k % 8) flit s1 else s1
        servePort k n (match last with | some p => packetLeft k p s2 | none => s2)

/-- A port serves everything that waits there; while its link retrains the flits are held (R83). -/
def drainPort (k : Nat) (s : State) : State :=
  if k % 8 < 4 ∧ (linkS s (4 * (k / 8) + k % 8)).retraining = true then s else servePort k (arbFlits (portS_ s k)) s

/-- A link's port serves what its sender held. -/
def drainLink (k : Nat) (s : State) : State := drainPort (8 * (k / 4) + k % 4) s

/-- A packet waits at an output; a flit bound off the wafer or into a dark field is discarded and counted (R106). -/
def queueOut (router : Nat) (port : OutPort) (p : Flits) (s : State) : State :=
  let put (st : State) : State :=
    let k := portKey router port
    let a := portS_ st k
    setPortArb k { a with waiting := a.waiting ++ [(p, 0)] } st
  match port with
  | .mesh d =>
    match linkEnd { router := Fin.ofNat 53760 router, dir := d } with
    | none => count cPktDiscard (flitCount p) s
    | some r => if isDark s (r / 640) then count cPktDiscard (flitCount p) s else put s
  | _ => put s

/-- LINK_RETRAIN_DONE: the failed wires have moved to spares, of which a link has four, or the link is retired. What the senders
held goes on (R83). -/
def execLinkRetrainDone (link : LinkRef) (wires : List (Fin 140)) (repaired : Bool) (s : State) :
    Host.Outcome State Fault Refusal :=
  .next (whenReady (fun st =>
    let k := linkKey link
    let l := linkS st k
    if !l.retraining then st
    else if repaired && decide (l.spares + wires.length ≤ 4) then
      let s1 := each (linkQueues link) (fun q x => setQueue q (sendKept q false (queueS x q)) x) st
      drainLink k (setLink k { l with retraining := false, errors := [], failRun := 0, spares := l.spares + wires.length } s1)
    else retireLink link st) s)

/-! ## In-passing addition (R198, R369) -/

/-- The elementwise FP32 sums of two byte strings. -/
def addFp32Bytes : List Byte → List Byte → List Byte
  | a0 :: a1 :: a2 :: a3 :: as_, b0 :: b1 :: b2 :: b3 :: bs =>
    bytesLE 4 (fpAdd false (ofBytesLE [a0, a1, a2, a3]) (ofBytesLE [b0, b1, b2, b3])) ++ addFp32Bytes as_ bs
  | _, _ => []

/-- The elementwise 64-bit sums, wrapping. -/
def addI64Bytes (a b : List Byte) : List Byte :=
  (List.range (ceilDiv (min a.length b.length) 8)).flatMap fun i =>
    bytesLE 8 (ofBytesLE ((a.drop (8 * i)).take 8) + ofBytesLE ((b.drop (8 * i)).take 8))

/-- The elementwise FP32 minima or maxima; a NaN wins (Table 11.10). -/
def pickFp32Bytes (f : Nat → Nat → Nat) (a b : List Byte) : List Byte :=
  (List.range (ceilDiv (min a.length b.length) 4)).flatMap fun i =>
    bytesLE 4 (f (ofBytesLE ((a.drop (4 * i)).take 4)) (ofBytesLE ((b.drop (4 * i)).take 4)))

def orBytes (a b : List Byte) : List Byte := (a.zip b).map fun p => p.1 ||| p.2

/-- The combine of a glint operation (Table 11.10); none for an operation that is not combined. -/
def glintCombine (op : Nat) (a b : List Byte) : Option (List Byte) :=
  match op with
  | 0 => some (orBytes a b)
  | 1 => some (addI64Bytes a b)
  | 2 => some (addFp32Bytes a b)
  | 3 => some (pickFp32Bytes fpMax a b)
  | 4 => some (pickFp32Bytes fpMin a b)
  | _ => none

/-- Two spill packets that a router merges (R198). -/
def spillMerge (p q : Flits) : Option Flits :=
  let a := decodeFlit p.header.toNat
  let b := decodeFlit q.header.toNat
  if a.type = 2 ∧ b.type = 2 ∧ a.add = true ∧ b.add = true ∧ a.destBx = b.destBx ∧ a.destBy = b.destBy ∧
      a.destKind = b.destKind ∧ a.addr = b.addr ∧ a.tag = b.tag ∧ a.len = b.len ∧ a.esc = b.esc then
    let n := (field (ofBytesLE (p.payload.take 16)) 0 16 + field (ofBytesLE (q.payload.take 16)) 0 16) % 65536
    some { header := p.header, payload := bytesLE 16 n ++ addFp32Bytes (p.payload.drop 16) (q.payload.drop 16) }
  else none

/-- Two glint packets that a router or beam port merges (R369). -/
def glintMerge (p q : Flits) : Option Flits :=
  let a := decodeFlit p.header.toNat
  let b := decodeFlit q.header.toNat
  let g := decodeGlint (ofBytesLE (p.payload.take 16))
  let h := decodeGlint (ofBytesLE (q.payload.take 16))
  if a.type = 6 ∧ b.type = 6 ∧ a.destBx = b.destBx ∧ a.destBy = b.destBy ∧ a.destKind = b.destKind ∧ a.addr = b.addr ∧
      g.op = h.op ∧ g.comm = h.comm ∧ g.seq = h.seq ∧ g.piece = h.piece ∧ g.roll = h.roll then
    (glintCombine g.op ((p.payload.drop 16).take g.bytes) ((q.payload.drop 16).take h.bytes)).map fun d =>
      { header := p.header
        payload := bytesLE 16 (encodeGlint { g with count := (g.count + h.count) % 2 ^ 32 }) ++ d ++
          List.replicate (p.payload.length - 16 - d.length) 0#8 }
  else none

/-- The merge of two packets held for one output, and whether it is a glint merge. -/
def mergePackets (p q : Flits) : Option (Flits × Bool) :=
  match spillMerge p q with
  | some m => some (m, false)
  | none => (glintMerge p q).map fun m => (m, true)

/-- Does a header name a place on the wafer and a channel of Table 3.3, and keep Table 3.2 (R74)?
Log entry 107 (DESIGN CHOICE). -/
def headerOk (f : Flit) : Bool :=
  !flitInvalid f && decide (f.destBx < 140) && decide (f.destBy < 384) && decide (f.vc ≤ 4)

/-- The port that a packet takes at a router. -/
def portTaken (router : Nat) (p : Flits) (s : State) : Option Nat :=
  let f := decodeFlit p.header.toNat
  if headerOk f then (routeOut s router f).map fun r => portKey router r.1 else none

/-- Forward packets at a router: each waits at its output, and the ports serve what waits there. -/
def forward (router : Nat) (ps : List Flits) (s : State) : State :=
  let s1 := each ps (fun p st =>
    let f := decodeFlit p.header.toNat
    if !headerOk f then count cPktDiscard 1 st
    else match routeOut st router f with
      | none => count cPktDiscard 1 st
      | some (port, esc) => queueOut router port (onEscape esc p) st) s
  each (ps.filterMap fun p => portTaken router p s) drainPort s1

/-- PACKET_FORWARD: a router forwards a packet; where it holds a second packet for the same output it forwards their sum if
they merge (R198, R369), both, as the port serves them (R75), if they do not or where the adder's check fails. -/
def execPacketForward (router : BlockId) (pkt : Flits) (partner : Option Flits) (checkOk : Bool) (s : State) :
    Host.Outcome State Fault Refusal :=
  .next (whenReady (fun st =>
    let r := router.val
    if isDark st (r / 640) then count cPktDiscard (flitCount pkt) st
    else match partner with
      | none => forward r [pkt] st
      | some q =>
        match mergePackets pkt q with
        | none => forward r [pkt, q] st
        | some (m, isGlint) =>
          if checkOk then forward r [m] (if isGlint then count cGlintMerges 1 st else st)
          else forward r [pkt, q] (count cResidue 1 st)) s)

/-! ## The unit map (R91, R96 to R98) -/

/-- The map with entries written: 0xFFFF stays unused, reserved bits read as zero (R8). -/
def writeMap (entries : List MapWrite) (m : Map Nat) : Map Nat :=
  entries.foldl (fun acc e => if e.unit.val = 0xFFFF then acc else mapSet 0 acc e.unit.val (e.entry.toNat % 2 ^ 50)) m

/-- An entry's decoded form in a map. -/
def entryIn (m : Map Nat) (u : Nat) : MapEntry := if u = 0xFFFF then {} else decodeMapEntry (mapGet 0 m u)

/-- Does a used entry keep R91 and R97 within the map? -/
def entryOk (s : State) (m : Map Nat) (u : Nat) : Bool :=
  let e := entryIn m u
  match e.kind with
  | 0 => true
  | 1 => decide (e.level = 0) && isEnabled s e.target && isLit s (e.target / 640) &&
      (m.all fun x => decide (x.1 = u) || decide ((entryIn m x.1).kind ≠ 1) || decide ((entryIn m x.1).target ≠ e.target))
  | 2 => decide (1 ≤ e.level) && decide (e.target + (e.cw + 1) * (e.ch + 1) ≤ 0xFFFF) &&
      (childrenOf e).all fun c =>
        let x := entryIn m c
        decide (x.kind ≠ 0) && decide (x.parent = u) && decide (x.level < e.level)
  | _ => false

/-- The first entry of a map that fails; no identifier is then the child of two composites, since each child's PARENT
names the one that lists it. -/
def firstBad (s : State) (m : Map Nat) : Option Nat := (m.map (·.1)).find? fun u => !entryOk s m u

/-- Install a unit map: held or before the job starts, with every summary DONE; a bad map or a digest mismatch leaves
the previous one in force (R97, R98).
Log entry 111 (DESIGN CHOICE). -/
def changeMap (entries : List MapWrite) (digestsEqual : Bool) (s : State) : State :=
  let m := writeMap entries s.fabric.unitMap
  if !heldOrIdle s || !allDone s then s
  else match firstBad s m with
    | some u => faultEvent { cls := 3, code := 5, unit := u, detail := u } s
    | none =>
      if !digestsEqual then s
      else
        let z := { s.fabric.size with mapVersion := (s.fabric.size.mapVersion + 1) % 2 ^ 32 }
        putSize z (dropTranslations { s with fabric := { s.fabric with unitMap := m } })

/-- UNIT_MAP_CHANGE. -/
def execUnitMapChange (entries : List MapWrite) (digestsEqual : Bool) (s : State) :
    Host.Outcome State Fault Refusal :=
  .next (whenReady (changeMap entries digestsEqual) s)

/-! ## The L port (R123, R131, R199) -/

/-- An acknowledgement record releases the held piece it names (R307, R315). -/
def releaseHeld (key addr : Nat) (bs : List Byte) (s : State) : State :=
  let b := ofBytesLE (bs.take 4)
  let step := ofBytesLE ((bs.drop 4).take 2)
  if bs.length ≠ 8 ∨ step ≠ s.tick.step % 65536 then s
  else { s with red := { s.red with held := s.red.held.filter fun h =>
      !(decide (h.core = key) && decide (h.ackAddr = addr) && decide (h.block = b)) } }

/-- Write a packet's payload into one core, then the arrival that TAG[15] asks for.
Log entry 7 (DESIGN CHOICE). -/
def coreWrite (addr : Nat) (bs : List Byte) (arrival : Option (Nat × Nat)) (key : Nat) (s : State) : State :=
  let s1 := updCore key (fun o => { o with sram := mapSetList 0#8 o.sram addr bs }) s
  match arrival with
  | some (e, n) => arrive key e n (releaseHeld key addr bs s1)
  | none => s1

/-- A packet leaves a block by its router: as it is, or for another module wrapped toward the hub of the channel chosen,
by the hub-row router of that field's first column (R348, R349). A module with no route gets nothing. -/
def fromBlock (block : Nat) (module_ : Option Nat) (p : Flits) (s : State) : State :=
  match module_ with
  | none => emit (.fabric block .local_ p) s
  | some m =>
    let f := decodeFlit p.header.toNat
    match peerLane s m f.srcBx f.srcBy f.tag with
    | none => count cPktDiscard 1 s
    | some c =>
      let hub := blockAt (20 * (laneField c % 7)) (32 * (laneField c / 7) + 16)
      let w : Flit := { f with destBx := blockBx hub, destBy := blockBy hub, destKind := 1, add := false, esc := false
                               len := 2 + ceilDiv p.payload.length 16, addr := c % 16 }
      emit (.fabric block .local_ { header := BitVec.ofNat 128 (encodeFlit w)
                                    payload := bytesLE 16 (beamHeader s m 2 p) ++ bytesLE 16 p.header.toNat ++ p.payload }) s

/-- The read response to a core's read request: the payload flit names length, asking module plus 1 where it is another,
and return place, as the READ instruction formed them. -/
def coreReadResponse (block : Nat) (f : Flit) (key : Nat) (p : Flits) (s : State) : State :=
  let w := ofBytesLE p.payload
  let len := field w 0 16
  let r : Flit := { f with type := 4, vc := 3, destBx := f.srcBx, destBy := f.srcBy, srcBx := f.destBx, srcBy := f.destBy
                           len := ceilDiv len 16, addr := field w 32 32 }
  fromBlock block (match field w 16 11 with | 0 => none | m + 1 => some m)
    { header := BitVec.ofNat 128 (encodeFlit r), payload := mapGetList 0#8 (coreS s key).sram (f.addr % 65536) len } s

/-- The sums of a spill packet's data into SRAM at an address (R199). -/
def spillInto (key addr : Nat) (data : List Byte) (s : State) : State :=
  updCore key (fun o => { o with
    sram := mapSetList 0#8 o.sram addr (addFp32Bytes (mapGetList 0#8 o.sram addr data.length) data) }) s

/-- A packet at a block's L port. A block whose cores do not run, and a write that would run past SRAM, take nothing: the
packet is discarded and counted; a read past the end gives zeros there.
Log entry 103 (DESIGN CHOICE). Log entry 109 (DESIGN CHOICE). -/
def localPort (block : Nat) (p : Flits) (s : State) : State :=
  let f := decodeFlit p.header.toNat
  let addr := f.addr % 65536
  let cores := (maskCores (f.addr / 65536)).map (coreKey block)
  let arrival (n : Nat) : Option (Nat × Nat) := if bitAt f.tag 15 then some (f.tag % 64, n) else none
  if !coreOn s (coreKey block 0) || cores.isEmpty then count cPktDiscard 1 s
  else if f.type = 3 then
    match cores with
    | [k] => coreReadResponse block f k p s
    | _ => count cPktDiscard 1 s
  else if f.type = 2 ∧ f.add = true then
    match cores with
    | [k] =>
      if 65552 < addr + p.payload.length then count cPktDiscard 1 s else
      let n := field (ofBytesLE (p.payload.take 16)) 0 16
      let s1 := spillInto k addr (p.payload.drop 16) s
      (match arrival n with | some a => arrive k a.1 a.2 s1 | none => s1)
    | _ => count cPktDiscard 1 s
  else if 65536 < addr + p.payload.length then count cPktDiscard 1 s
  else each cores (coreWrite addr p.payload (arrival 1)) s

/-- The anchor forwards a signal packet to every core of every leaf of its unit (R131); at a core that does not run it is
discarded and counted (R107). -/
def forwardSignal (u entry n : Nat) (s : State) : State :=
  each ((leavesOf s u).flatMap fun b => (List.range 16).map (coreKey b)) (fun key st =>
    if coreOn st key then arrive key entry n st else count cPktDiscard 1 st) s

/-- A packet that a block's L port takes for a unit anchored there: a task (TYPE 0x1) or a signal (TYPE 0x7), the unit's
identifier in ADDR[15:0], a signal's entry in TAG[5:0] and its increment in ADDR[31:16]. For a unit anchored elsewhere it is
discarded and counted.
Log entry 117 (DESIGN CHOICE). -/
def anchorPort (block : Nat) (f : Flit) (p : Flits) (s : State) : State :=
  let u := f.addr % 65536
  if anchorOf s u ≠ some block || !coreOn s (coreKey block 0) then count cPktDiscard 1 s
  else if f.type = 1 then taskSpreadTo u (ofBytesLE (p.payload.take 64)) s
  else forwardSignal u (f.tag % 64) (f.addr / 65536) s

/-- An L-port read that meets a parity mismatch sends no response (R122). -/
def portRead (block : Nat) (f : Flit) (h : ParityHit) (s : State) : State :=
  match (maskCores (f.addr / 65536)).map (coreKey block) with
  | [k] => if coreOn s k then readParity k h s else count cPktDiscard 1 s
  | _ => count cPktDiscard 1 s

/-- L_PORT_WRITE: a packet at a block's L port, with the parity mismatch that a read of SRAM for it meets. -/
def execLPortWrite (block : BlockId) (pkt : Flits) (parity : Option ParityHit) (s : State) :
    Host.Outcome State Fault Refusal :=
  let f := decodeFlit pkt.header.toNat
  .next (whenReady (fun st =>
    if f.type = 1 ∨ f.type = 7 then anchorPort block.val f pkt st
    else match parity with
      | some h => if f.type = 3 then portRead block.val f h st else localPort block.val pkt st
      | none => localPort block.val pkt st) s)

end Sys2Proof.Machine
end

