-- ==== Sys2Proof/Machine/Beam.lean ====
section
/-! DEFINITION. The beam link layer (R337 to R357): training, codewords and their control fields, replay, retrains,
retirement and remap, and packets from other modules. -/

namespace Sys2Proof.Machine

/-! ## Late-bound counts under retrains (R366) -/

/-- Shift the late-bound count of every open position and combine that waits; the count of a source resumes from where
it stood when its pause ends. -/
def shiftWaits (d : Nat) (s : State) : State :=
  { s with beam := { s.beam with
      positions := s.beam.positions.map fun e => (e.1, { e.2 with waitSince := e.2.waitSince.map (· + d) })
      combines := s.beam.combines.map fun e => (e.1, { e.2 with waitSince := e.2.waitSince.map (· + d) }) } }

/-- A retrain that stops a module's count begins. -/
def pauseOn (m : Nat) (s : State) : State :=
  { s with beam := { s.beam with paused := mapUpd {} s.beam.paused m fun p =>
      { n := p.n + 1, since := if p.n = 0 then s.now else p.since } } }

/-- One ends; with none left the counts go on. -/
def pauseOff (m : Nat) (s : State) : State :=
  let p := mapGet {} s.beam.paused m
  if p.n = 0 then s
  else if p.n = 1 then
    shiftWaits (s.now - p.since) { s with beam := { s.beam with paused := mapSet {} s.beam.paused m {} } }
  else { s with beam := { s.beam with paused := mapSet {} s.beam.paused m { p with n := p.n - 1 } } }

/-- Is a module's count stopped? -/
def isPaused (s : State) (m : Nat) : Bool := decide ((mapGet {} s.beam.paused m).n ≠ 0)

/-- RETRAIN_NOTICE: a relay tells a path end of a retrain on the path to module `source`. -/
def execRetrainNotice (t : Nat) (source : Fin 1024) (begins : Bool) (s : State) :
    Host.Outcome State Fault Refusal :=
  .next (whenReady (fun st => (if begins then pauseOn source.val else pauseOff source.val) (atTime t st)) s)

/-! ## Lane faults (R355, R356) -/

/-- Is a collective in progress on this module? -/
def collectiveActive (s : State) : Bool :=
  !s.beam.chunks.isEmpty || !s.beam.positions.isEmpty

/-- A retrain of a lane begins or ends: the count of a peer's far module stops or goes on, and a relay tells the two ends
of each path that it carries over the lane's module. -/
def noteRetrain (c : Nat) (begins : Bool) (s : State) : State :=
  if isStreamLane s c then s
  else
    let m := (farEnd s c).module
    emitAll ((pathEnds s m).flatMap fun b => [Msg.retrainNotice m b begins, Msg.retrainNotice b m begins])
      ((if begins then pauseOn m else pauseOff m) s)

/-- Report a peer module whose every channel is down (Table 11.6). -/
def checkPeerDown (c : Nat) (s : State) : State :=
  let m := (farEnd s c).module
  if isStreamLane s c || !(channelsTo s m).isEmpty || decide (m = selfIndex s) then s else reportUnreachable m s

/-- A lane is retired, its engine to be tested; `roll` where its fault rolls the step back (Table 11.6). A lane retired
during a collective rolls the step back whatever the fault (Table 11.12). -/
def retireLane (c : Nat) (roll : Bool) (s : State) : State :=
  let l := laneS s c
  let s1 := if l.retraining then noteRetrain c false s else s
  let s2 := setLane c { laneS s1 c with retired := true, testing := true, retraining := false } s1
  let s3 := event 0x800B c (faultEvent { cls := 7, code := 1, field := laneField c, detail := c } s2)
  let s4 := checkPeerDown c s3
  if roll || collectiveActive s4 then requestRollback 3 s4 else s4

/-- Is a retrain due: more than 64 uncorrectable codewords in 1 ms, or three replays of one (Table 11.6)? -/
def laneRetrainDue (l : LaneS) : Bool := decide (64 < l.uncorr.length) || decide (3 ≤ l.replays)

/-- LANE_RETRAIN: the lane retrains; the third retrain within 1 s retires it. -/
def execLaneRetrain (t : Nat) (lane : LaneId) (s : State) : Host.Outcome State Fault Refusal :=
  .next (whenReady (fun st =>
    let s0 := atTime t st
    let c := lane.val
    let l := laneS s0 c
    if !laneIn s0 c || l.retraining || !laneRetrainDue l then s0
    else
      let ts := (l.retrains.filter fun x => decide (t < x + 1000000000)) ++ [t]
      let s1 := count cRetrains 1 (setLane c { l with retrains := ts } s0)
      if 3 ≤ ts.length then retireLane c true s1
      else noteRetrain c true (setLane c { laneS s1 c with retraining := true } s1)) s)

/-- Has the far end another identity than before: role, module, field or lane? -/
def otherEnd (a b : Nat) : Bool :=
  let x := decodeIdentity a
  let y := decodeIdentity b
  decide (x.role ≠ y.role) || decide (x.module ≠ y.module) || decide (x.fieldIx ≠ y.fieldIx) || decide (x.lane ≠ y.lane)

/-- A lane as it leaves training (R340, R342).
Log entry 80 (DEDUCED). -/
def trainedLane (l : LaneS) (delay identity : Nat) : LaneS :=
  { l with trained := true, delay := delay, identity := identity, received := 0, awaiting := false, uncorr := []
           kept := [], sentCount := 0
           replays := 0, retraining := false, chunkKind := 0, chunk := [], segs := [], first := true, assembly := []
           innerLeft := 0 }

/-- LANE_RETRAIN_DONE: the lane resumes what it held, or is retired. -/
def execLaneRetrainDone (t : Nat) (lane : LaneId) (ok : Bool) (identity : BitVec 80) (s : State) :
    Host.Outcome State Fault Refusal :=
  .next (whenReady (fun st =>
    let s0 := atTime t st
    let c := lane.val
    let l := laneS s0 c
    if !l.retraining then s0
    else if !ok then retireLane c true s0
    else if otherEnd l.identity identity.toNat then retireLane c false (setLane c { l with identity := identity.toNat } s0)
    else
      let d := (decodeIdentity identity.toNat).delay
      let s1 := noteRetrain c false s0
      drainAll c (setLane c (trainedLane (laneS s1 c) (if d = 0 then l.delay else d) identity.toNat) s1)) s)

/-- LANE_SIGNAL_LOSS: loss of signal, or no codeword lock for 10 µs. -/
def execLaneSignalLoss (t : Nat) (lane : LaneId) (s : State) : Host.Outcome State Fault Refusal :=
  .next (whenReady (fun st =>
    let s0 := atTime t st
    if laneIn s0 lane.val then retireLane lane.val true s0 else s0) s)

/-- LANE_TRAINING: training ends (R340), at bring-up, as the field returns from dark, or on a substituted engine; the
lane keeps delay and identity. A retired channel does not train. -/
def execLaneTraining (lane : LaneId) (delay : BitVec 16) (identity : BitVec 80) (ok : Bool) (s : State) :
    Host.Outcome State Fault Refusal :=
  .next (whenReady (fun st =>
    let c := lane.val
    if isDark st (laneField c) || (laneS st c).retired then st
    else if ok then
      queueManage c 2 identity.toNat
        (emit (.identity c identity.toNat) (setLane c (trainedLane (laneS st c) delay.toNat identity.toNat) st))
    else setLane c { laneS st c with trained := false } st) s)

/-- The highest-numbered peer channel in service of a field. -/
def substitute (s : State) (f : Nat) : Option Nat :=
  (((List.range 16).map fun i => 16 * f + i).filter fun c => !isStreamLane s c && laneIn s c).getLast?

/-- A stream channel takes a peer channel's engine, and that channel is retired (R356). -/
def takeEngine (c p : Nat) (s : State) : State :=
  let e := engineOf s p
  let s1 := setLane c { laneS s c with retired := false, testing := false, trained := false } s
  let s2 := setLane p { laneS s1 p with retired := true } s1
  checkPeerDown p { s2 with beam := { s2.beam with remap := mapSet 0 s2.beam.remap c (e + 1) } }

/-- A stream channel is lost: the job holds at the resume. -/
def loseChannel (c : Nat) (s : State) : State := setLane c { laneS s c with testing := false, chanLost := true } s

/-- LANE_LOOPBACK_DONE (R356). -/
def execLaneLoopbackDone (lane : LaneId) (enginePasses : Bool) (s : State) : Host.Outcome State Fault Refusal :=
  .next (whenReady (fun st =>
    let c := lane.val
    if !(laneS st c).testing then st
    else if !isStreamLane st c then setLane c { laneS st c with testing := false } st
    else if enginePasses then loseChannel c st
    else match substitute st (laneField c) with
      | some p => takeEngine c p st
      | none => loseChannel c st) s)

/-! ## Codewords (R341 to R347) -/

/-- The item of 128 bytes and sideband that the assembly register pushes (R230). -/
def assembled (bs : List Byte) (first last hdr : Bool) (fmt : Nat) : Nat :=
  ofBytesLE bs + 2 ^ 1024 * pack [(8, bs.length), (1, b2n first), (1, b2n last), (1, b2n hdr), (1, 0), (4, fmt)]

/-- Push an item into the lane's receive queue. -/
def pushItem (c item : Nat) (s : State) : State :=
  let q := QueueId.beamReceive (Fin.ofNat 1344 c)
  setQueue q (queueSend q false item (queueS s q)) s

/-- A 64-bit word into one of the small receive queues; the dark word is not stored. -/
def pushWord (q : QueueId) (w : Nat) (s : State) : State :=
  if w = darkWord q then s else setQueue q (queueSend q false w (queueS s q)) s

/-- The word that carries no data (R89, R345). -/
def darkData : Nat := 0xF

/-- A control chunk of a header: the fourth completes it, and it enters the queue as an HDR item; a segment header
makes its payload due. -/
def headerChunk (c kind content : Nat) (s : State) : State :=
  let l := laneS s c
  let bs := (if l.chunkKind = kind then l.chunk else []) ++ bytesLE 8 content
  if bs.length < 32 then setLane c { l with chunkKind := kind, chunk := bs } s
  else
    let h := decodeSeg (ofBytesLE bs)
    let l1 := { l with chunkKind := 0, chunk := []
                       segs := if kind = 2 then l.segs ++ [(h.length, h.fmt)] else l.segs }
    pushItem c (assembled bs false false true 1) (setLane c l1 s)

/-- The control field: CREDIT, then the chunk its KIND names (Table 11.3, R344). Tick markers come from modules only. -/
def takeControl (c control : Nat) (s : State) : State :=
  let l := laneS s c
  let s1 := setLane c { l with spent := l.spent - field control 64 8 } s
  let content := field control 0 64
  let s2 := match field control 76 3 with
    | 1 => headerChunk c 1 content s1
    | 2 => headerChunk c 2 content s1
    | 4 => pushWord (.linkManagement (Fin.ofNat 1344 c)) content s1
    | 5 => setLane c { laneS s1 c with glintSpent := (laneS s1 c).glintSpent - content % 65536 } s1
    | _ => s1
  drainAll c s2

/-- Payload words of a stream lane. -/
def streamWords (c : Nat) : List Nat → State → State
  | [], s => s
  | w :: ws, s =>
    let l := laneS s c
    match l.segs with
    | [] => streamWords c ws s
    | (left, fmt) :: rest =>
      if w = darkData then streamWords c ws s
      else
        let bs := l.assembly ++ bytesLE 8 w
        let last := decide (left ≤ 8)
        let l1 := { l with assembly := bs, segs := (left - 8, fmt) :: rest }
        if last then
          streamWords c ws (pushItem c (assembled bs l.first true false fmt)
            (setLane c { l1 with assembly := [], first := true, segs := rest } s))
        else if bs.length = 128 then
          streamWords c ws (pushItem c (assembled bs l.first false false fmt)
            (setLane c { l1 with assembly := [], first := false } s))
        else streamWords c ws (setLane c l1 s)

/-- Flits of a peer lane, two words each; a KIND that is no valid beam header where one is expected drops the rest of
the codeword (R347). -/
def peerWords (c : Nat) : List Nat → State → State
  | lo :: hi :: ws, s =>
    let l := laneS s c
    let w := lo + 2 ^ 64 * hi
    if l.innerLeft = 0 then
      let b := decodeBeamHdr w
      if b.kind = 0xF then peerWords c ws s
      else if b.kind ≠ 1 ∨ b.flits = 0 ∨ 255 < b.flits then count cBeamDrops 1 s
      else peerWords c ws (count cPeerIn 16
        (setLane c { l with innerLeft := b.flits, assembly := bytesLE 16 w, first := true } s))
    else
      let bs := l.assembly ++ bytesLE 16 w
      let last := decide (l.innerLeft = 1)
      let l1 := { l with innerLeft := l.innerLeft - 1, assembly := bs }
      let s1 := count cPeerIn 16 s
      if last || decide (bs.length = 128) then
        peerWords c ws (pushItem c (assembled bs l.first last false 1)
          (setLane c { l1 with assembly := [], first := last } s1))
      else peerWords c ws (setLane c l1 s1)
  | _, s => s

/-- Data words of a codeword with GLINT set. -/
def glintWords (c : Nat) (ws : List Nat) (s : State) : State :=
  each ws (fun w st => pushWord (.glintReceive (Fin.ofNat 1344 c)) w (if w = darkData then st else count cPeerIn 8 st)) s

/-- A codeword received in its turn. -/
def takeCodeword (c errors control : Nat) (data : List Nat) (s : State) : State :=
  let l := laneS s c
  let s1 := setLane c { l with received := l.received + 1, awaiting := false, replays := 0 } s
  let s2 := takeControl c control (if errors = 0 then s1 else count cFecCorr 1 s1)
  let ws := data.take 80
  if bitAt control 79 then glintWords c ws s2
  else if isStreamLane s2 c then streamWords c ws s2 else peerWords c ws s2

/-- A codeword that cannot be corrected: discarded, and the NAK names the count received since training (R342).
Log entry 79 (DEDUCED). -/
def badCodeword (c : Nat) (replay : Bool) (s : State) : State :=
  let l := laneS s c
  let l1 := { l with uncorr := (l.uncorr.filter fun x => decide (s.now < x + 1000000)) ++ [s.now] }
  let s1 := count cFecUncorr 1 (setLane c l1 s)
  if l.awaiting && !replay then s1
  else
    let l2 := { l1 with awaiting := true, replays := if l.awaiting then l.replays + 1 else 0 }
    count cReplays 1 (queueManage c 1 (l.received % 65536) (emit (.nak c (l.received % 65536)) (setLane c l2 s1)))

/-- CODEWORD_RECEIVED. Codewords after a failed one are discarded until its replay arrives. The lane sends one of its own for
each it receives.
Log entry 24 (DESIGN CHOICE). Log entry 120 (DESIGN CHOICE). -/
def execCodewordReceived (t : Nat) (lane : LaneId) (cw : Codeword) (s : State) : Host.Outcome State Fault Refusal :=
  .next (whenReady (fun st =>
    let s0 := atTime t st
    let c := lane.val
    if !laneIn s0 c || (laneS s0 c).retraining then s0
    else
      let s1 := sendCodeword c s0
      match cw with
      | .bad replay => badCodeword c replay s1
      | .good replay errors control data =>
        if (laneS s1 c).awaiting && !replay then s1
        else takeCodeword c errors.val control.toNat (data.map (·.toNat)) s1) s)

/-- NAK_RECEIVED: the sender resends from the codeword named, out of its last 128. -/
def execNakReceived (lane : LaneId) (count : BitVec 16) (s : State) : Host.Outcome State Fault Refusal :=
  .next (whenReady (fun st =>
    if laneIn st lane.val then
      emitAll ((resendFrom (laneS st lane.val) count.toNat).map (Msg.control lane.val)) (emit (.resend lane.val count.toNat) st)
    else st) s)

/-! ## Packets from other modules (R350, R351) -/

/-- A relay passes a packet on by its own table. -/
def relayPacket (b : BeamHdr) (inner : Flits) (s : State) : State :=
  let f := decodeFlit inner.header.toNat
  match peerLane s b.destMod f.srcBx f.srcBy f.tag with
  | none => count cBeamDrops 1 s
  | some c => laneSend c (encodeBeamHdr { b with relay := b.relay - 1 }) inner s

/-- The hub router by which a packet enters the wafer: the H port of the field's column toward its destination. -/
def hubRouter (f destBx : Nat) : Nat := blockAt (20 * (f % 7) + min 19 (destBx - 20 * (f % 7))) (32 * (f / 7) + 16)

/-- A beam packet at a receiving hub: discarded and counted, passed on, or the inner packet enters the mesh. -/
def beamArrival (f header : Nat) (inner : Flits) (s : State) : State :=
  let b := decodeBeamHdr header
  if b.kind ≠ 1 ∨ b.flits = 0 ∨ 255 < b.flits ∨ b.jobTag ≠ s.job.tag then count cBeamDrops 1 s
  else if b.destMod = selfIndex s then
    forward (hubRouter f (decodeFlit inner.header.toNat).destBx) [inner] s
  else if b.relay = 0 then count cBeamDrops 1 s
  else relayPacket b inner s

/-- BEAM_PACKET_ARRIVAL. The hub of a field that is dark takes nothing. -/
def execBeamPacketArrival (f : FieldId) (header : BitVec 128) (inner : Flits) (s : State) :
    Host.Outcome State Fault Refusal :=
  .next (whenReady (fun st => if isDark st f.val then st else beamArrival f.val header.toNat inner st) s)

end Sys2Proof.Machine
end

