-- ==== Sys2Proof/Machine/Predict.lean ====
section
/-! DEFINITION. Activation prediction (R203 to R211): which pairs of a predicted layer are computed, the shadow pass's
sample and its misses, the block mask, and the estimate at a pass's end. -/

namespace Sys2Proof.Machine

def setPredict (p : PredictS) (s : State) : State := { s with place := { s.place with predict := p } }

/-- The record in force of a layer; `none` where it is not predicted. -/
def predRec (s : State) (layer : Nat) : Option PredictorRec :=
  s.place.predict.recs.find? fun r => decide (r.layer = layer)

/-- A pair's number in the state's store. -/
def pairKey (layer group block : Nat) : Nat := 2 ^ 48 * layer + 2 ^ 16 * group + block

def keyOfPair (p : PairRef) : Nat := pairKey p.layer.toNat p.group.toNat p.block.toNat

def pairS (s : State) (k : Nat) : PairS := mapGet {} s.place.predict.pairs k

def setPair (k : Nat) (p : PairS) (s : State) : State :=
  setPredict { s.place.predict with pairs := mapSet {} s.place.predict.pairs k p } s

/-- Add `n` to counter `i` of Table 6.9, of the layer and module-wide (R209). -/
def countPred (layer i n : Nat) (s : State) : State :=
  count (cPred i) n
    (setPredict { s.place.predict with counts := mapUpd 0 s.place.predict.counts (8 * layer + i) (· + n) } s)

/-! ## The decision (R204) -/

/-- The quads of tokens of a whole group, as a mask. -/
def groupQuads (r : PredictorRec) : Nat := 2 ^ (r.group / 4) - 1

/-- Have all tokens of the pair's group been scored? -/
def pairDecided (r : PredictorRec) (p : PairS) : Bool := decide (p.scored = groupQuads r)

/-- Is the pair decided and skipped? -/
def pairSkipped (r : PredictorRec) (p : PairS) : Bool := pairDecided r p && !p.active

/-- A quad of tokens is scored against the pair's block; the pair counts once, when its last quad is in. A quad scored
again, by a replay, changes nothing. -/
def scorePair (r : PredictorRec) (k quad : Nat) (above : Bool) (s : State) : State :=
  let p := pairS s k
  if pairDecided r p || decide (r.group / 4 ≤ quad) then s else
  let q := { p with scored := putBit quad true p.scored, active := p.active || above }
  let s1 := setPair k q s
  if !pairDecided r q then s1
  else
    let s2 := countPred r.layer 0 1 s1
    if q.active then s2 else countPred r.layer 1 1 s2

/-! ## The shadow pass (R205, R206) -/

/-- The pairs of a layer, ascending by group and then block. -/
def pairsOf (s : State) (layer : Nat) : List (Nat × PairS) :=
  s.place.predict.pairs.filter fun e => decide (e.1 / 2 ^ 48 = layer)

/-- The skipped pairs of a layer, in the order in which they are drawn for. -/
def skippedPairs (s : State) (r : PredictorRec) : List (Nat × PairS) :=
  (pairsOf s r.layer).filter fun e => pairSkipped r e.2

/-- The generator's state after `n` draws. -/
def afterDraws : Nat → BitVec 64 → BitVec 64
  | 0, g => g
  | n + 1, g => afterDraws n (xorshift g)

/-- The draw for the `n`-th skipped pair of a layer in this step. -/
def sampleDraw (s : State) (layer n : Nat) : Nat :=
  drawOf (afterDraws n (seedState (Config.predictorSeed s.snap.seed layer)))

/-- Does the shadow pass examine a pair? -/
def pairExamined (s : State) (r : PredictorRec) (k : Nat) : Bool :=
  let before := (skippedPairs s r).filter fun e => decide (e.1 < k)
  decide (r.policy ≠ .off) && pairSkipped r (pairS s k) &&
    decide (sampleDraw s r.layer before.length < 2 ^ 24 / r.sampleK)

/-- An MMA of the shadow pass on a pair, with whether some pre-activation exceeds ACT_EDGE. -/
def shadowPair (r : PredictorRec) (k : Nat) (above : Bool) (s : State) : State :=
  let p := pairS s k
  let s1 := if p.shadowed then s else countPred r.layer 2 1 s
  let s2 := if above && !p.missed then countPred r.layer 3 1 s1 else s1
  setPair k { p with shadowed := true, missed := p.missed || above } s2

/-- Is a pair in the layer's block mask (R210)? -/
def inMask (r : PredictorRec) (p : PairS) : Bool :=
  !pairSkipped r p || p.madeUp || (decide (r.policy = .makeup) && p.missed)

/-- Does an MMA run: the work of a pair outside the mask, and a shadow pass of a pair not examined, do not.
Log entry 121 (DESIGN CHOICE). -/
def useRuns (s : State) : MmaUse → Bool
  | .plain => true
  | .score _ _ _ => true
  | .shadow p => match predRec s p.layer.toNat with
    | none => true
    | some r => pairExamined s r (keyOfPair p)
  | .pair p => match predRec s p.layer.toNat with
    | none => true
    | some r => inMask r (pairS s (keyOfPair p))

/-- The work of a pair outside the predictor's own mask is a miss made up, and counts once (R206). -/
def workPair (r : PredictorRec) (k : Nat) (s : State) : State :=
  let p := pairS s k
  if pairSkipped r p && !p.madeUp then setPair k { p with madeUp := true } (countPred r.layer 4 1 s) else s

/-- May a makeup task of a pair be spawned (R206, R207)? -/
def makeupDue (s : State) (p : PairRef) : Bool :=
  match predRec s p.layer.toNat with
  | none => false
  | some r => decide (r.policy = .makeup) && (pairS s (keyOfPair p)).missed

/-! ## The block mask with the stash (R210) -/

/-- The mask of a layer as bytes, one bit per pair in ascending order. -/
def maskBytes (s : State) (layer len : Nat) : List Byte :=
  let bits : List Nat := match predRec s layer with
    | none => []
    | some r => (pairsOf s layer).map fun (e : Nat × PairS) => b2n (inMask r e.2)
  bytesLE len (pack (bits.map fun b => (1, b)))

/-- The mask of a layer taken from bytes. -/
def loadMask (layer : Nat) (bs : List Byte) (s : State) : State :=
  let w := ofBytesLE bs
  let keys := (pairsOf s layer).map (·.1)
  each (List.range keys.length) (fun i st =>
    let k := nth 0 keys i
    setPair k { scored := (pairS st k).scored, active := bitAt w i } st) s

/-! ## Passes and steps (R203, R208, R209) -/

/-- The estimated lost misses of a layer. -/
def lostEstimate (r : PredictorRec) (found : Nat) : Nat :=
  match r.policy with
  | .record => found * r.sampleK
  | .makeup => found * (r.sampleK - 1)
  | .off => 0

/-- The end of a forward pass for one layer: the estimate, and the predictor-miss event, once per layer per step. -/
def endLayerPass (r : PredictorRec) (s : State) : State :=
  let found := ((pairsOf s r.layer).filter fun e => e.2.missed).length
  let skipped := (skippedPairs s r).length
  let est := lostEstimate r found
  let s1 := if est = 0 then s else countPred r.layer 5 est s
  if r.missBound * skipped < est * 10 ^ 6 ∧ !s.place.predict.reported.contains r.layer then
    event 0x800F r.layer
      (setPredict { s1.place.predict with reported := s1.place.predict.reported ++ [r.layer] } s1)
  else s1

/-- A pass boundary: the forward pass that ran ends; one that begins takes the records of the layout in force and decides
its pairs anew. The pairs stay for a backward pass. -/
def predictPass (backward : Bool) (s : State) : State :=
  let s1 := if s.place.predict.running then each s.place.predict.recs endLayerPass s else s
  let p := s1.place.predict
  if backward then setPredict { p with running := false } s1
  else setPredict { p with running := true, pairs := []
                           recs := (s1.place.inForce.map (·.predictors)).getD [] } s1

/-- A step begins: its counts start from zero. -/
def predictStep (s : State) : State := setPredict { s.place.predict with counts := [], reported := [] } s

/-- A rollback: the step's counts and the pass's pairs go; the module-wide totals stay (R209). -/
def predictUndo (s : State) : State :=
  setPredict { s.place.predict with counts := [], reported := [], pairs := [], running := false } s

end Sys2Proof.Machine
end

