-- ==== Sys2Proof/Machine/Cores.lean ====
section
/-! DEFINITION. Issuing an instruction in a context (R129 to R136) and the control and move classes (Table 4.6). An
instruction finds its context running, its field lit and its program counter in SRAM; it waits while the engine it
needs is busy; a task fault stops its context (R134); a check error replays its task (R172). -/

namespace Sys2Proof.Machine

/-! ## Issue -/

/-- What an instruction meets and does: it waits at issue, having done `f`; it is a task fault; the core's own checkers
find a mismatch (R169); or it acts. -/
inductive Act where
  | wait (f : State → State := id)
  | fault (code : Nat)
  | check (chk : CoreCheck)
  | act (f : State → State)

/-- The program counter after the instruction at `p - 8`, leaving the loops that end there. -/
def loopStep (p : Nat) : List LoopFrame → Nat × List LoopFrame
  | [] => (p, [])
  | f :: rest =>
    if p = f.stop then
      (if f.left = 0 then loopStep p rest else (f.start, { f with left := f.left - 1 } :: rest))
    else (p, f :: rest)

/-- The context past its instruction. -/
def nextPc (x : CtxS) : CtxS :=
  let r := loopStep (x.pc + 8) x.loops
  { x with pc := r.1, loops := r.2, waiting := false }

/-- An instruction has issued: its context is past it, and last in the round-robin order (R133). -/
def advance (key c : Nat) (s : State) : State :=
  updCore key (fun o => { o with ctxs := mapUpd {} o.ctxs c nextPc, turn := c }) s

/-! ### The round-robin order (R128, R133) -/

/-- Could a context issue: it runs a task, and its next instruction is not known to wait? -/
def couldIssue (o : CoreS) (c : Nat) : Bool :=
  let x := mapGet {} o.ctxs c
  x.task.isSome && !x.stopped && !x.waiting

/-- Does a context run a SLACK task? -/
def ctxSlack (o : CoreS) (c : Nat) : Bool :=
  match (mapGet {} o.ctxs c).task with | some t => taskSlack t | none => false

/-- A context's place after the one that issued last. -/
def turnPlace (o : CoreS) (c : Nat) : Nat := (c + 7 - o.turn % 8) % 8

/-- Must context `c` leave the cycle to another: one that comes first in round-robin order, or for a SLACK task any
non-SLACK one (R128)?
Log entry 114 (DESIGN CHOICE). -/
def yields (o : CoreS) (c : Nat) : Bool :=
  (List.range 8).any fun d => decide (d ≠ c) && couldIssue o d &&
    (if ctxSlack o c then !ctxSlack o d || decide (turnPlace o d < turnPlace o c)
     else !ctxSlack o d && decide (turnPlace o d < turnPlace o c))

/-- Issue an instruction: `f` is given the state, the core, the context, its task, the core's key and the context's
number. A check error is acted on where no task fault governs (Table 5.5); a mismatch on a core that runs no task
is one of glow load, and is counted only (R177). -/
def issueAct (k : Issue) (f : State → CoreS → CtxS → QTask → Nat → Nat → Act) (s : State) : State :=
  let key := coreKey k.block.val k.core.val
  let c := k.ctx.val
  let o := coreS s key
  let x := ctxS s key c
  if !coreOn s key then s else
  match x.task with
  | none => if coreGlows s key && decide (k.chk ≠ .ok) then count cResidue 1 s else s
  | some t =>
    if x.stopped || yields o c then s
    else if 0xFFF8 < x.pc then taskFault key c tfAddress s
    else if k.pred && !x.pred then (if k.chk = .ok then advance key c s else checkError key c k.chk s)
    else match f s o x t key c with
      | .wait g => updCtx key c (fun y => { y with waiting := true }) (g s)
      | .fault code => taskFault key c code s
      | .check q => checkError key c q s
      | .act g => if k.chk = .ok then g s else checkError key c k.chk s

/-- An instruction of the module while it is READY.
Log entry 21 (DESIGN CHOICE). -/
def runInstr (k : Issue) (f : State → CoreS → CtxS → QTask → Nat → Nat → Act) (s : State) : State :=
  whenReady (issueAct k f) s

/-! ## Registers and SRAM -/

/-- A register of a context; r0 reads zero (R129). -/
def reg (x : CtxS) (r : RegIx) : Nat := if r.val = 0 then 0 else (mapGet 0#32 x.regs r.val).toNat

/-- Write a register; r0 keeps reading zero. -/
def setReg (r : RegIx) (v : Nat) (x : CtxS) : CtxS :=
  if r.val = 0 then x else { x with regs := mapSet 0#32 x.regs r.val (BitVec.ofNat 32 v) }

/-- Does an access of `len` bytes lie in SRAM (R120)? -/
def inSram (a len : Nat) : Bool := decide (len = 0) || decide (a + len ≤ 0x10000)

def writeSram (key a : Nat) (bs : List Byte) (s : State) : State :=
  updCore key (fun o => { o with sram := mapSetList 0#8 o.sram a bs }) s

/-! ## Control class -/

/-- Control flow in a context. -/
def jump (key c pc : Nat) (loops : List LoopFrame) (s : State) : State :=
  updCore key (fun o => { o with
    ctxs := mapUpd {} o.ctxs c (fun y => { y with pc := pc, loops := loops, waiting := false }), turn := c }) s

/-- LOOP: the body up to `stop` runs `n` times; with n = 0 it is skipped. -/
def loopTo (key c stop n : Nat) (x : CtxS) (s : State) : State :=
  if n = 0 then jump key c stop x.loops s
  else jump key c (x.pc + 8) (if n = 1 then x.loops else { start := x.pc + 8, stop := stop, left := n - 1 } :: x.loops) s

/-- SIGNAL: to an entry of the core itself where the unit register holds 0xFFFF, else a signal packet to the unit. -/
def signalFrom (key c unit entry n : Nat) (s : State) : State :=
  sendFrom key c (fun st => if unit % 65536 = 0xFFFF then arrive key entry n st
    else emit (.signal (unit % 65536) entry n) (translate key (unit % 65536) st)) s

/-- Is an opcode one of Table 4.6? -/
def opcodeListed (op : Nat) : Bool :=
  decide (op ≤ 0x07) || (decide (0x20 ≤ op) && decide (op ≤ 0x24)) || (decide (0x40 ≤ op) && decide (op ≤ 0x42)) ||
    (decide (0x60 ≤ op) && decide (op ≤ 0x63)) || (decide (0x80 ≤ op) && decide (op ≤ 0x83)) ||
    (decide (0xA0 ≤ op) && decide (op ≤ 0xA3))

/-- NOP, and every word whose opcode Table 4.6 does not list, which the issue stage meets as it meets a NOP: a task fault,
whatever its predicate (R134, R136).
Log entry 118 (DESIGN CHOICE). -/
def execNop (k : Issue) (op : BitVec 8) (s : State) : Host.Outcome State Fault Refusal :=
  .next (if opcodeListed op.toNat then runInstr k (fun _ _ _ _ key c => .act (advance key c)) s
    else runInstr { k with pred := false } (fun _ _ _ _ _ _ => .fault tfOpcode) s)

/-- END (R133); held slot work that waited for it starts at once (R49). -/
def execEndTask (k : Issue) (s : State) : Host.Outcome State Fault Refusal :=
  .next (runInstr k (fun _ _ _ _ key c => .act fun st => settleUnits (endTaskAt key c st)) s)

/-- BRANCH to an instruction address. -/
def execBranch (k : Issue) (target : BitVec 16) (s : State) : Host.Outcome State Fault Refusal :=
  .next (runInstr k (fun _ _ x _ key c => .act (jump key c target.toNat x.loops)) s)

/-- LOOP. -/
def execLoop (k : Issue) (count : RegIx) (stop : BitVec 16) (s : State) : Host.Outcome State Fault Refusal :=
  .next (runInstr k (fun _ _ x _ key c => .act (loopTo key c stop.toNat (reg x count) x)) s)

/-- ARM (R130). -/
def execArm (k : Issue) (entry : Fin 64) (target : RegIx) (s : State) : Host.Outcome State Fault Refusal :=
  .next (runInstr k (fun _ _ x t key c => .act fun st => advance key c (updCore key (fun o =>
    { o with sb := mapUpd {} o.sb entry.val fun e => sbArm e (reg x target % 65536) c t }) st)) s)

/-- SIGNAL (R131). -/
def execSignal (k : Issue) (unit : RegIx) (entry : Fin 64) (n : BitVec 16) (s : State) :
    Host.Outcome State Fault Refusal :=
  .next (runInstr k (fun _ _ x _ key c =>
    .act fun st => advance key c (signalFrom key c (reg x unit) entry.val n.toNat st)) s)

/-- SEED (R119, R165). -/
def execSeed (k : Issue) (lo hi : RegIx) (s : State) : Host.Outcome State Fault Refusal :=
  .next (runInstr k (fun _ _ x _ key c => .act fun st => advance key c (updCtx key c (fun y =>
    { y with gen := seedState (BitVec.ofNat 64 (reg x lo + 2 ^ 32 * reg x hi)) }) st)) s)

/-- A makeup task's descriptor: a non-SLACK task of the current slot (R207). -/
def makeupDesc (s : State) (raw : Nat) : Nat :=
  raw % 2 ^ 32 + 2 ^ 32 * (s.tick.slot % 2 ^ 24) + 2 ^ 56 * field raw 56 8 + 2 ^ 65 * (raw / 2 ^ 65)

/-- One more arrival is due at an entry before it fires. -/
def sbRaise (e : SbEntry) : SbEntry :=
  { e with target := e.target + 1, state := if e.state = .fired ∧ e.count < e.target + 1 then .armed else e.state }

/-- Post a descriptor to a unit's task port. For a makeup task the entry that the layer's consumers wait on waits for one
arrival more (R207); where no makeup is due nothing is posted. -/
def spawnTask (key unit raw : Nat) (makeup : Option PairRef) (s : State) : State :=
  match makeup with
  | none => emit (.task unit raw) (translate key unit s)
  | some p =>
    if !makeupDue s p then s
    else emit (.task unit (makeupDesc s raw)) (translate key unit (updCore key (fun o =>
      { o with sb := mapUpd {} o.sb (decodeDesc raw).signalEntry sbRaise }) s))

/-- SPAWN: the descriptor in SRAM is posted to a unit's task port.
Log entry 121 (DESIGN CHOICE). -/
def execSpawn (k : Issue) (addr unit : RegIx) (makeup : Option PairRef) (s : State) :
    Host.Outcome State Fault Refusal :=
  .next (runInstr k (fun _ o x _ key c =>
    if !inSram (reg x addr) 64 then .fault tfAddress
    else .act fun st => advance key c (spawnTask key (reg x unit % 65536) (sramNat o (reg x addr) 64) makeup st)) s)

/-! ## Move class -/

/-- The move engine runs one instruction; another waits at issue (R133). -/
def onMove (f : State → CoreS → CtxS → QTask → Nat → Nat → Act) (s : State) (o : CoreS) (x : CtxS) (t : QTask)
    (key c : Nat) : Act :=
  if o.move.isSome then .wait else
  match f s o x t key c with
  | .act g => .act fun st => advance key c (updCore key (fun q => { q with move := some c }) (g st))
  | a => a

/-- COPY: `len` bytes from `src` to `dst` of the core's SRAM; or a layer's block mask to `dst`, or from `src` (R210). -/
def execCopy (k : Issue) (dst src len : RegIx) (mask : Option MaskCopy) (s : State) :
    Host.Outcome State Fault Refusal :=
  .next (runInstr k (onMove fun st o x _ key _ =>
    if !inSram (reg x dst) (reg x len) || !inSram (reg x src) (reg x len) then .fault tfAddress
    else match mask with
      | none => .act (writeSram key (reg x dst) (sramBytes o (reg x src) (reg x len)))
      | some (.store layer) => .act (writeSram key (reg x dst) (maskBytes st layer.toNat (reg x len)))
      | some (.load layer) => .act (loadMask layer.toNat (sramBytes o (reg x src) (reg x len)))) s)

/-- FILL: `len` bytes at `dst` with the value register's four bytes over and over. -/
def execFill (k : Issue) (dst value len : RegIx) (s : State) : Host.Outcome State Fault Refusal :=
  .next (runInstr k (onMove fun _ _ x _ key _ =>
    if !inSram (reg x dst) (reg x len) then .fault tfAddress
    else .act (writeSram key (reg x dst) ((List.range (reg x len)).map fun i =>
      BitVec.ofNat 8 (field (reg x value) (8 * (i % 4)) 8)))) s)

/-- A plain index list in SRAM: item count, item size in bytes, then 32-bit indices. -/
structure IndexList where
  size : Nat
  indices : List Nat
  deriving DecidableEq, Repr

/-- The index list at an address; `none` where it leaves SRAM. -/
def indexList (o : CoreS) (a : Nat) : Option IndexList :=
  let n := sramNat o a 4
  if inSram a 8 && inSram a (8 + 4 * n) then
    some { size := sramNat o (a + 4) 4, indices := (List.range n).map fun i => sramNat o (a + 8 + 4 * i) 4 }
  else none

/-- GATHER without UNION: item `i` of `dst` is the item of `src` that index `i` names. -/
def gatherPlain (o : CoreS) (key dst src list : Nat) : Act :=
  match indexList o list with
  | none => .fault tfAddress
  | some l =>
    if !inSram dst (l.size * l.indices.length) || !l.indices.all (fun i => inSram (src + i * l.size) l.size) then
      .fault tfAddress
    else .act (writeSram key dst (l.indices.flatMap fun i => sramBytes o (src + i * l.size) l.size))

/-- Write items one by one at their indices. -/
def scatterItems (key dst size : Nat) : List (Nat × List Byte) → State → State
  | [], s => s
  | (i, bs) :: rest, s => scatterItems key dst size rest (writeSram key (dst + i * size) bs s)

/-- SCATTER: item `i` of `src` goes to the item of `dst` that index `i` names, in order. -/
def execScatter (k : Issue) (dst src list : RegIx) (s : State) : Host.Outcome State Fault Refusal :=
  .next (runInstr k (onMove fun _ o x _ key _ =>
    match indexList o (reg x list) with
    | none => .fault tfAddress
    | some l =>
      if !inSram (reg x src) (l.size * l.indices.length) ||
          !l.indices.all (fun i => inSram (reg x dst + i * l.size) l.size) then .fault tfAddress
      else .act (scatterItems key (reg x dst) l.size ((List.range l.indices.length).map fun i =>
        (nth 0 l.indices i, sramBytes o (reg x src + i * l.size) l.size)))) s)

/-! ### The UNION gather (R190 to R193) -/

/-- Bits of one stored element of an RR structure: 4, 8, 16 or 32. -/
def rrElemBits (f : Nat) : Nat :=
  match fmtOfCode f with
  | some (.elem e) => if elemBits e ≤ 4 then 4 else 8 * elemBytes e
  | some .t4 => 4
  | _ => 8

/-- Where INDEX begins: the next 16-byte boundary after OFFSETS (R190). -/
def rrIndexBase (a : Nat) (h : RrHeader) : Nat := a + 16 * ceilDiv (16 + 4 * (h.rows + 1)) 16

/-- A row of an RR structure: its non-zeros as index and number. -/
def rrRow (o : CoreS) (a : Nat) (h : RrHeader) (r : Nat) : List (Nat × Nat) :=
  let w := if h.idx32 then 4 else 2
  let base := rrIndexBase a h
  let lo := sramNat o (a + 16 + 4 * r) 4
  let hi := sramNat o (a + 20 + 4 * r) 4
  (rangeFrom lo hi).map fun z => (sramNat o (base + w * z) w, z)

/-- OFFSETS of rows `r` to `r + 4`. -/
def rrOffsets (o : CoreS) (a r : Nat) : List Nat := (List.range 5).map fun i => sramNat o (a + 16 + 4 * (r + i)) 4

/-- Are header and OFFSETS sound for rows `r` to `r + 3` (R191)? -/
def rrShape (o : CoreS) (a : Nat) (h : RrHeader) (r : Nat) : Bool :=
  let offs := rrOffsets o a r
  rrHeaderOk h && decide (r + 4 ≤ h.rows) && nondecreasing offs && offs.all fun v => decide (v ≤ h.nnz)

/-- Do the four rows' INDEX and VALUES lie in SRAM? -/
def rrInSram (o : CoreS) (a : Nat) (h : RrHeader) (r : Nat) : Bool :=
  let hi := nth 0 (rrOffsets o a r) 4
  inSram (rrIndexBase a h) ((if h.idx32 then 4 else 2) * hi) &&
    inSram (a + h.valOffset) (ceilDiv (hi * grainElems h * rrElemBits h.fmt) 8)

/-- Are the indices of the four rows strictly ascending (R191)? -/
def rrAscending (o : CoreS) (a : Nat) (h : RrHeader) (r : Nat) : Bool :=
  (List.range 4).all fun i => ascending ((rrRow o a h (r + i)).map (·.1))

/-- Element `e` of the values array, as stored bits. -/
def rrElem (o : CoreS) (a : Nat) (h : RrHeader) (e : Nat) : Nat :=
  let bits := rrElemBits h.fmt
  let base := a + h.valOffset
  if bits = 4 then field (sramByte o (base + e / 2)).toNat (4 * (e % 2)) 4 else sramNat o (base + e * (bits / 8)) (bits / 8)

/-- Element `n` of a row compacted over the union, zero where the row lacks the index or the union has ended. -/
def unionElem (o : CoreS) (a : Nat) (h : RrHeader) (union : List Nat) (row : List (Nat × Nat)) (n : Nat) : Nat :=
  let g := grainElems h
  match union[n / g]? with
  | none => 0
  | some u => match row.find? fun e => decide (e.1 = u) with
    | none => 0
    | some e => rrElem o a h (e.2 * g + n % g)

/-- The compacted A micro-tiles of four rows (R111, R192), `total` elements each. -/
def unionTiles (o : CoreS) (a : Nat) (h : RrHeader) (union : List Nat) (rows : List (List (Nat × Nat)))
    (total : Nat) : List Byte :=
  let bits := rrElemBits h.fmt
  let per := if bits = 4 then 8 else 4
  (List.range (ceilDiv total per)).flatMap fun t => (List.range 4).flatMap fun i => (List.range 4).flatMap fun c =>
    let row := nth [] rows i
    if bits = 4 then
      bytesLE 1 (unionElem o a h union row (8 * t + 2 * c) + 16 * unionElem o a h union row (8 * t + 2 * c + 1))
    else bytesLE (bits / 8) (unionElem o a h union row (4 * t + c))

/-- A plain index list as its bytes. -/
def indexListBytes (size : Nat) (is : List Nat) : List Byte :=
  bytesLE 4 is.length ++ bytesLE 4 size ++ is.flatMap (bytesLE 4)

/-- GATHER with UNION (R192, R193): `dst` takes the compacted micro-tiles and `list` the union index list, which a GATHER
of the rows of B takes as it stands. -/
def gatherUnion (o : CoreS) (x : CtxS) (key c dst src list : Nat) (u : UnionRegs) : Act :=
  let h := rrHeaderOf (sramNat o src 16)
  let r := reg x u.row
  let lo := reg x u.first
  let span := reg x u.span
  if !inSram src 16 || !inSram src (20 + 4 * (r + 4)) then .fault tfAddress
  else if !rrShape o src h r then .fault tfRagged
  else if !rrInSram o src h r then .fault tfAddress
  else if !rrAscending o src h r then .fault tfRagged
  else
    let rows := (List.range 4).map fun i =>
      (rrRow o src h (r + i)).filter fun e => decide (lo ≤ e.1) && decide (e.1 < lo + span)
    let union := unionAsc (rows.map fun row => row.map (·.1))
    let n := union.length
    let tiles := unionTiles o src h union rows (4 * ceilDiv (n * grainElems h) 4)
    if !inSram dst tiles.length || !inSram list (8 + 4 * n) then .fault tfAddress
    else .act fun st =>
      count cSpanGrains span (count cUnionGrains n (updCtx key c (fun y =>
        { setReg u.count n y with pred := decide (reg x u.limit % 256 * span < n * 256) })
        (writeSram key list (indexListBytes (reg x u.item) union) (writeSram key dst tiles st))))

/-- GATHER. -/
def execGather (k : Issue) (dst src list : RegIx) (union : Option UnionRegs) (s : State) :
    Host.Outcome State Fault Refusal :=
  .next (runInstr k (onMove fun _ o x _ key c =>
    match union with
    | none => gatherPlain o key (reg x dst) (reg x src) (reg x list)
    | some u => gatherUnion o x key c (reg x dst) (reg x src) (reg x list) u) s)

/-- Bytes of one element or pair of a micro-tile: 2 for 16-bit formats, else 1 (R111); `none` for a code that is no
tensor operand. MX elements and T4 pairs are one byte. -/
def tileElemBytes (code : Nat) : Option Nat :=
  match fmtOfCode code with
  | some (.elem .fp32) => none
  | some (.elem e) => some (elemBytes e)
  | some _ => some 1
  | none => none

/-- A micro-tile loaded into a grid's other buffer, which becomes the current one (Table 4.2). -/
def loadLatch (g : Grid) (vs : List Nat) (o : CoreS) : CoreS :=
  let words := vs.map fun v => BitVec.ofNat 16 v
  match g with
  | .la => { o with latchA := 1 - o.latchA, la := mapSetList 0#16 o.la (16 * (1 - o.latchA)) words }
  | .lb => { o with latchB := 1 - o.latchB, lb := mapSetList 0#16 o.lb (16 * (1 - o.latchB)) words }

/-- LATCH: a micro-tile of the descriptor's format at `src` into the LA or LB grid, without an MMA. -/
def execLatch (k : Issue) (src : RegIx) (grid : Grid) (s : State) : Host.Outcome State Fault Refusal :=
  .next (runInstr k (onMove fun _ o x t key _ =>
    match tileElemBytes (match grid with | .la => t.desc.fmtA | .lb => t.desc.fmtB) with
    | none => .fault tfFormat
    | some w =>
      if !inSram (reg x src) (16 * w) then .fault tfAddress
      else .act (updCore key (loadLatch grid ((List.range 16).map fun i => sramNat o (reg x src + i * w) w)))) s)

end Sys2Proof.Machine
end

