-- ==== Sys2Proof/Machine/Collective.lean ====
section
/-! DEFINITION. Bulk collectives (R358 to R366): the communicator table, chunks at their source engines, positions at
their destination engines, the late bound, suspects and exclusion. -/

namespace Sys2Proof.Machine

/-! ## Communicators (R358) -/

/-- A communicator of the layout in force; an unused one where it has none. -/
def commOf (s : State) (c : Nat) : CommRec :=
  match s.place.inForce with
  | none => {}
  | some i => match i.comms[c]? with | some w => decodeComm w.toNat | none => {}

/-- Bytes of a chunk (BEAM.CHUNK_KIB, R360). -/
def chunkBytes (s : State) : Nat := 16384 * 2 ^ min 4 s.beam.chunkCode

/-- Bytes of one value on the wire under ADD (Table 11.7). -/
def addBytes (add : Nat) : Nat := if add = 1 then 4 else if add = 2 then 2 else if add = 3 then 6 else 1

/-- 4 × 4 tiles that a chunk of a reduce-scatter holds. -/
def tilesPer (s : State) (add : Nat) : Nat := chunkBytes s / (16 * addBytes add)

/-! ## Source engines (R360 to R363) -/

/-- The chunk that a tile goes into. -/
def isOpenChunk (f comm dest position : Nat) (c : ChunkS) : Bool :=
  decide (c.field = f) && decide (c.comm = comm) && decide (c.dest = dest) && decide (c.position = position) &&
    !c.gather && !c.held

/-- Hand a tile to the engine of field `f` as this member's contribution. -/
def handTile (f comm dest tile : Nat) (last : Bool) (vs : List Int) (s : State) : State :=
  let per := tilesPer s (commOf s comm).add
  let position := tile / per
  let at_ := tile % per
  let total := if last then some (at_ + 1) else if at_ + 1 = per then some per else none
  let put (c : ChunkS) : ChunkS :=
    { c with tiles := mapSet [] c.tiles at_ vs, total := match total with | some n => some n | none => c.total }
  let fresh : ChunkS := { field := f, comm := comm, dest := dest, position := position, gather := false, tiles := []
                          total := none, held := false, rerequested := false }
  let mine := isOpenChunk f comm dest position
  let cs := if s.beam.chunks.any mine then s.beam.chunks.map fun c => if mine c then put c else c
    else s.beam.chunks ++ [put fresh]
  { s with beam := { s.beam with chunks := cs } }

/-- Is a chunk ready to send: whole and not sent, or asked for again? -/
def chunkReady (c : ChunkS) : Bool :=
  if c.held then c.rerequested else match c.total with | some n => decide (n ≤ c.tiles.length) | none => false

/-- The next chunk of a communicator at an engine: one asked for again first, else the oldest ready. -/
def nextChunk (s : State) (f comm : Nat) : Option Nat :=
  let ix := (List.range s.beam.chunks.length).filter fun i =>
    match s.beam.chunks[i]? with
    | some c => decide (c.field = f) && decide (c.comm = comm) && chunkReady c
    | none => false
  match ix.find? fun i => match s.beam.chunks[i]? with | some c => c.held | none => false with
  | some i => some i
  | none => ix.head?

/-- Chunks in flight to a destination over a communicator. -/
def inFlight (s : State) (comm dest : Nat) : Nat := mapGet 0 s.beam.credits (64 * comm + dest)

/-- May a communicator take a turn: its next chunk holds a credit, or is one already sent? -/
def mayTurn (s : State) (f comm : Nat) : Bool :=
  match nextChunk s f comm with
  | none => false
  | some i => match s.beam.chunks[i]? with
    | some c => c.held || decide (inFlight s comm c.dest < (commOf s comm).window)
    | none => false

/-- The communicator whose turn it is at an engine, by weighted round robin, and the turns it has left after it. -/
def turnOf (s : State) (f : Nat) : Option (Nat × Nat) :=
  let w := mapGet 0 s.beam.rr f
  let cur := w % 64
  let left := w / 64
  if 0 < left ∧ mayTurn s f cur then some (cur, left - 1)
  else
    (((List.range 64).map fun i => (cur + 1 + i) % 64).find? (mayTurn s f)).map fun c => (c, (commOf s c).weight - 1)

/-- All values of a chunk, in order. -/
def chunkValues (c : ChunkS) : List Int := c.tiles.flatMap (·.2)

/-- Values that a packet of a chunk carries: 252 flits beside the header flit, which hold whole values of every width.
Log entry 133 (DESIGN CHOICE). -/
def packetValues (add : Nat) : Nat := 4032 / addBytes add

/-- The packets of a chunk, each under its header flit (R361). The first argument bounds them. -/
def chunkPackets (s : State) (c : ChunkS) (add : Nat) : Nat → Nat → List Int → List Msg
  | 0, _, _ => []
  | n + 1, i, vs =>
    let now := vs.take (packetValues add)
    let rest := vs.drop (packetValues add)
    let h := encodeChunk { comm := c.comm, op := b2n c.gather, src := s.job.member, dest := c.dest, position := c.position
                           offset := 252 * i, last := rest.isEmpty, roll := s.red.roll, step := s.tick.step % 65536
                           res := if add = 3 then residue now else 0 }
    Msg.chunk (64 * s.job.group + c.dest) h now :: (if rest.isEmpty then [] else chunkPackets s c add n (i + 1) rest)

/-- Send one chunk at a chunk boundary; it is held until its position is acknowledged. -/
def sendChunk (f : Nat) (s : State) : State :=
  match turnOf s f with
  | none => s
  | some (comm, left) =>
    match nextChunk s f comm with
    | none => s
    | some i => match s.beam.chunks[i]? with
      | none => s
      | some c =>
        let credits := if c.held then s.beam.credits
          else mapUpd 0 s.beam.credits (64 * comm + c.dest) fun n => n + 1
        let b := { s.beam with chunks := s.beam.chunks.set i { c with held := true, rerequested := false }
                               credits := credits, rr := mapSet 0 s.beam.rr f (comm + 64 * left) }
        let add := if c.gather then 0 else (commOf s comm).add
        count cChunksSent 1 (emitAll (chunkPackets s c add 66 0 (chunkValues c)) { s with beam := b })

/-- Bytes of the companion tensor of exponents (R304), or of an owned block's master, as it stood at the pass's first tick (R290), in its layer's working format, round to
nearest even (R287). -/
def gatherBytes (s : State) (g : GatherForm) : List Byte :=
  match layerAt s g.block with
  | none => []
  | some (l, bn) =>
    if g.exponents then
      (((blocksOf s l.tensor).flatMap fun b => bytesLE 4 (fpEnc (.fin false 1 (blockS s b).bexp))).drop g.first).take g.count
    else
    let vs := mapGetList 0 (passBank s g.block).master 0 4096
    let valid (i : Nat) : Bool := inTensor l bn i
    ((quantised (cvtOfCodes l.wcFmt l.wcElem) (blockRows l) (blockCols l) (vs.map fpDec) [] valid valid).drop
      g.first).take g.count

/-- A shard holder's engine forms a chunk of an all-gather. -/
def formGather (f : Nat) (g : GatherForm) (s : State) : State :=
  let c : ChunkS := { field := f, comm := g.comm.val, dest := g.dest.val, position := g.position.toNat, gather := true
                      tiles := [(0, (gatherBytes s g).map fun b => (b.toNat : Int))], total := some 1, held := false
                      rerequested := false }
  if (commOf s g.comm.val).bulk then { s with beam := { s.beam with chunks := s.beam.chunks ++ [c] } } else s

/-- CHUNK_SEND. The engines of a field that is not dark run (R374). -/
def execChunkSend (f : FieldId) (form : Option GatherForm) (s : State) : Host.Outcome State Fault Refusal :=
  .next (whenReady (fun st =>
    if isDark st f.val then st
    else sendChunk f.val (match form with | some g => formGather f.val g st | none => st)) s)

/-- Is a chunk the one that an acknowledgement or re-request names? -/
def isHeldChunk (f comm dest position : Nat) (c : ChunkS) : Bool :=
  decide (c.field = f) && decide (c.comm = comm) && decide (c.dest = dest) && decide (c.position = position) && c.held

/-- An acknowledged position: the oldest chunk held for it is released, and its credit is back (R362). -/
def ackChunk (f comm dest position : Nat) (s : State) : State :=
  match s.beam.chunks.findIdx? (isHeldChunk f comm dest position) with
  | none => s
  | some i =>
    let credits := mapUpd 0 s.beam.credits (64 * comm + dest) fun n => n - 1
    { s with beam := { s.beam with chunks := s.beam.chunks.eraseIdx i, credits := credits } }

/-- CHUNK_ACK. -/
def execChunkAck (f : FieldId) (comm : Fin 64) (dest : MemberId) (position : BitVec 32) (s : State) :
    Host.Outcome State Fault Refusal :=
  .next (whenReady (ackChunk f.val comm.val dest.val position.toNat) s)

/-- A re-requested position: its held chunk goes again at the communicator's next turn. -/
def againChunk (f comm dest position : Nat) (s : State) : State :=
  let mark (c : ChunkS) : ChunkS :=
    if isHeldChunk f comm dest position c then { c with rerequested := true } else c
  { s with beam := { s.beam with chunks := s.beam.chunks.map mark } }

/-- CHUNK_REREQUEST. -/
def execChunkRerequest (f : FieldId) (comm : Fin 64) (dest : MemberId) (position : BitVec 32) (s : State) :
    Host.Outcome State Fault Refusal :=
  .next (whenReady (againChunk f.val comm.val dest.val position.toNat) s)

/-! ## Destination engines (R361, R362) -/

/-- The number of a position: reduce-scatters by communicator, all-gathers by source as well. -/
def positionKey (gather : Bool) (src comm position : Nat) : Nat :=
  ((if gather then 64 + src else 0) * 64 + comm) * 2 ^ 32 + position

def positionOf (s : State) (k : Nat) : PositionS := mapGet {} s.beam.positions k
def setPosition (k : Nat) (p : PositionS) (s : State) : State :=
  { s with beam := { s.beam with positions := mapSet {} s.beam.positions k p } }

/-- The sources that a position of a reduce-scatter waits for: all but those excluded by notice. -/
def sourcesOf (s : State) (comm : Nat) : List Nat :=
  (List.range 64).filter fun m => bitAt (commOf s comm).sources m && !s.beam.excluded.contains (64 * comm + m)

/-- Is a source's chunk whole? -/
def sourceIn (p : PositionS) (m : Nat) : Bool :=
  match mapGet 0 p.total m with | 0 => false | n + 1 => decide (n ≤ mapGet 0 p.got m)

/-- The sources still missing. -/
def missing (p : PositionS) (need : List Nat) : List Nat := need.filter fun m => !sourceIn p m

/-- One value added under ADD: FP32, or BF16 into FP32. -/
def addValue (add : Nat) (a v : Int) : Int := (fpAdd false a.toNat (if add = 2 then v.toNat * 65536 else v.toNat) : Nat)

/-- Values added from place `i` on.
Log entry 82 (DEDUCED). -/
def addAll (add : Nat) : Nat → List Int → Map Int → Map Int
  | _, [], m => m
  | i, v :: vs, m => addAll add (i + 1) vs (mapUpd 0 m i fun a => addValue add a v)

/-- A position after a packet of a source; an all-gather's values have gone to their places. -/
def takePacket (add : Nat) (h : ChunkHdr) (vs : List Int) (chk : Bool) (p : PositionS) : PositionS :=
  let len := addBytes add * vs.length
  { p with
    packets := p.packets ++ [{ src := h.src, first := 16 * h.offset / addBytes add, values := if add = 0 then [] else vs
                               res := h.res, ok := chk }]
    got := mapUpd 0 p.got h.src fun n => n + len
    total := if h.last then mapSet 0 p.total h.src (16 * h.offset + len + 1) else p.total }

/-- The packets of the sources that a position waits for: an excluded one's count for nothing (R365). -/
def packetsOf (p : PositionS) (need : List Nat) : List PacketS := p.packets.filter fun q => need.contains q.src

/-- The sum of packets: FIXED48 adders keep their residue over an overflow as R313's do (R314). -/
def sumPackets (add : Nat) (qs : List PacketS) : AddOut :=
  qs.foldl (fun a q =>
    if add = 3 then addValues 0 q.first q.values a else { a with acc := addAll add q.first q.values a.acc })
    { acc := [], back := 0, clip := false }

/-- Does a complete position pass its check (R315, R361)? -/
def positionOk (add : Nat) (qs : List PacketS) (a : AddOut) : Bool :=
  qs.all (·.ok) && (decide (add ≠ 3) ||
    decide (((((qs.map (·.res)).sum : Nat) : Int) - a.back) % 65535 = (residue (a.acc.map (·.2)) : Nat)))

/-- A failed position is zeroed and asked for again from every source; a second failure in the step is an unrecovered
reduction fault. -/
def failPosition (k comm position : Nat) (need : List Nat) (s : State) : State :=
  let p := positionOf s k
  let s1 := setPosition k { fails := p.fails + 1 } s
  if 1 ≤ p.fails then rollFault { cls := 6, code := 5, detail := position } 6 s1
  else emitAll (need.map fun m => Msg.chunkRerequest comm m position) s1

/-- A whole piece of a block leaves the engine for the block's home stack as a contribution of mode 1 (R288, R314). -/
def sendShard (b q : Nat) (h : ShardS) (s : State) : State :=
  let vs := mapGetList 0 h.values 0 512
  emit (.piece (selfIndex s) (homeStack s b) (pieceAddr s b q)
    (encodeContrib { block := b, piece := q, mode := 1, clip := h.clip, nonfinite := false, shift := 0, group := s.job.group
                     member := s.job.member, maxb := h.maxb, step := s.tick.step % 65536, roll := s.red.roll, core := 0
                     res := residue vs, ackAddr := 0 }) 0 0 vs) s

/-- Tile `tile` of this member's segment: the owned blocks in order, 256 tiles each, 32 a piece. The piece goes when its last
tile is in.
Log entry 127 (DESIGN CHOICE). -/
def shardTile (clip : Bool) (tile : Nat) (vs : List Int) (big : Nat) (s : State) : State :=
  let k := tile / 32
  let h := mapGet {} s.beam.shards k
  let put : Map Int := (vs.zipIdx).foldl (fun m e => mapSet 0 m (pieceElem (tile % 32) e.2) e.1) h.values
  let h1 : ShardS := { values := put, tiles := h.tiles ++ [tile % 32], maxb := max h.maxb big, clip := h.clip || clip }
  let keep (v : ShardS) (st : State) : State := { st with beam := { st.beam with shards := mapSet {} st.beam.shards k v } }
  if h1.tiles.length < 32 then keep h1 s else sendShard (k / 8) (k % 8) h1 (keep {} s)

/-- The largest bit length that any source brought to a tile of a position. -/
def tileBits (qs : List PacketS) (j : Nat) : Nat :=
  qs.foldl (fun a q => (q.values.zipIdx).foldl (fun a e =>
    if (q.first + e.2) / 16 = j then max a (bitLength e.1.natAbs) else a) a) 0

/-- Has an adder of tile `j` left a value out, so that the sum is not that of the packets (R313)? -/
def tileClip (qs : List PacketS) (a : AddOut) (j : Nat) : Bool :=
  (List.range 16).any fun n =>
    let i := 16 * j + n
    decide ((qs.map fun q => if q.first ≤ i then (q.values[i - q.first]?).getD 0 else 0).sum ≠ mapGet 0 a.acc i)

/-- The tiles of a position that a packet reaches. -/
def tilesIn (qs : List PacketS) : Nat := qs.foldl (fun n q => max n ((q.first + q.values.length + 15) / 16)) 0

/-- A complete position's sum: of FIXED48 into the owner's reduction blocks, else to the unit that waits for it. -/
def deliverPosition (comm position add : Nat) (qs : List PacketS) (a : AddOut) (s : State) : State :=
  if add = 0 then s
  else if add = 3 then
    each (List.range (tilesIn qs)) (fun j =>
      shardTile (tileClip qs a j) (position * tilesPer s 3 + j) (mapGetList 0 a.acc (16 * j) 16) (tileBits qs j)) s
  else emit (.delivered comm position (mapGetList 0 a.acc 0 (16 * tilesIn qs))) s

/-- A position that may be complete: checked, delivered and acknowledged to every source; else the moment at which one
source became the only one missing is kept. -/
def settle (k comm position add : Nat) (need : List Nat) (s : State) : State :=
  let p := positionOf s k
  let qs := packetsOf p need
  let a := sumPackets add qs
  match missing p need with
  | [] =>
    if !positionOk add qs a then failPosition k comm position need s
    else emitAll (need.map fun m => Msg.chunkAck comm m position) (deliverPosition comm position add qs a (setPosition k {} s))
  | [_] => setPosition k { p with waitSince := some (p.waitSince.getD s.now) } s
  | _ => setPosition k { p with waitSince := none } s

/-- Write a packet of an all-gather to the places the layout names. -/
def placeBytes (vs : List Int) (ps : List GatherPlace) (s : State) : State :=
  let bs := vs.map fun v => BitVec.ofNat 8 v.toNat
  each ps (fun p st =>
    let key := coreKey p.core.block.val p.core.core.val
    if coreOn st key && inSram p.addr.toNat bs.length then writeSram key p.addr.toNat bs st else count cPktDiscard 1 st)
    s

/-- Signal the arrival entries of a complete chunk of an all-gather. -/
def signalPlaces (ps : List GatherPlace) (s : State) : State :=
  each ps (fun p st =>
    let key := coreKey p.core.block.val p.core.core.val
    if coreOn st key then arrive key p.entry.val 1 st else count cPktDiscard 1 st) s

/-- A packet of a chunk at its destination engine. -/
def chunkPacket (f : Nat) (h : ChunkHdr) (vs : List Int) (chk : Bool) (ps : List GatherPlace) (s : State) : State :=
  if h.step ≠ s.tick.step % 65536 ∨ h.roll ≠ s.red.roll then count cStaleChunks 1 s
  else match h.op with
  | 0 =>
    let add := (commOf s h.comm).add
    let k := positionKey false 0 h.comm h.position
    let p := positionOf s k
    if s.beam.excluded.contains (64 * h.comm + h.src) || sourceIn p h.src then s
    else settle k h.comm h.position add (sourcesOf s h.comm) (setPosition k (takePacket add h vs chk p) s)
  | 1 =>
    let k := positionKey true h.src h.comm h.position
    let p1 := takePacket 0 h vs chk (positionOf s k)
    let s1 := settle k h.comm h.position 0 [h.src] (setPosition k p1 (placeBytes vs ps s))
    if sourceIn p1 h.src && p1.packets.all (·.ok) then signalPlaces ps s1 else s1
  | 2 => ackChunk f h.comm h.dest h.position s
  | _ => againChunk f h.comm h.dest h.position s

/-- CHUNK_PACKET_ARRIVAL at the engine of a field that is not dark. -/
def execChunkPacketArrival (t : Nat) (f : FieldId) (header : BitVec 128) (values : List Int) (chk : Bool)
    (place : List GatherPlace) (s : State) : Host.Outcome State Fault Refusal :=
  .next (whenReady (fun st =>
    if isDark st f.val then st
    else chunkPacket f.val (decodeChunk header.toNat) values chk place (atTime t st)) s)

/-! ## The late bound (R365, R366, R373) -/

/-- BEAM.LATE_TICKS in ns. -/
def lateNs (s : State) : Nat := s.beam.lateTicks * periodNs s

/-- The open positions of a communicator's reduce-scatter that wait for one source alone. -/
def waitingFor (s : State) (comm source : Nat) : List (Nat × PositionS) :=
  s.beam.positions.filter fun e =>
    decide (e.1 / 2 ^ 32 = comm) && decide (missing e.2 (sourcesOf s comm) = [source])

/-- Has a wait begun at `since` passed the bound? -/
def late (s : State) (since : Option Nat) : Bool :=
  match since with | some t => decide (t + lateNs s ≤ s.now) | none => false

/-- A combine's communicator and stage stand in its number: ((stage × 64 + comm) × 65,536 + seq) × 256 + piece. -/
def combineKey (stage comm seq piece : Nat) : Nat := ((stage * 64 + comm) * 65536 + seq) * 256 + piece
def combineComm (k : Nat) : Nat := k / 2 ^ 24 % 64

/-- Has the late bound passed for a source of a communicator? An all-gather position of which nothing has come has no
record here: there the engine's own timer is the event. -/
def lateFor (s : State) (comm source : Nat) : Bool :=
  let rs := waitingFor s comm source
  let gs := s.beam.combines.filter fun e => decide (combineComm e.1 = comm) && e.2.waitSince.isSome
  if rs.isEmpty && gs.isEmpty then (commOf s comm).bulk
  else rs.any (fun e => late s e.2.waitSince) || gs.any fun e => late s e.2.waitSince

/-- Apply an exclusion: later chunks of the member are discarded, open positions complete without it, and the step
journal records it. -/
def excludeSource (comm member source : Nat) (s : State) : State :=
  if s.beam.excluded.contains (64 * comm + member) then s
  else
    let s1 := { s with beam := { s.beam with excluded := s.beam.excluded ++ [64 * comm + member] } }
    let open_ := s1.beam.positions.filter fun e => decide (e.1 / 2 ^ 32 = comm)
    let s2 := each open_ (fun e st =>
      settle e.1 comm (e.1 % 2 ^ 32) (commOf st comm).add (sourcesOf st comm) st) s1
    stepJournal 2 s2.tick.step 9 source s2

/-- The lead on a suspect: an exclusion notice where R365 allows one, else the rollback in which the member is EXCLUDED
(R483). Of several suspects the lead acts once.
Log entry 83 (DEDUCED). -/
def onSuspect (comm : Nat) (gather : Bool) (group member : Nat) (s : State) : State :=
  let c := commOf s comm
  if c.bulk && c.excludable && !gather && !bitAt c.dests member then
    if s.beam.excluded.contains (64 * comm + member) then s
    else excludeSource comm member (64 * group + member) (emit (.exclusion comm member) s)
  else if s.grp.requests.any fun r => decide (r.1.cause = 9) then
    leaveRoles (64 * group + member) (setMemberState (64 * group + member) .excluded s)
  else excludeMember (64 * group + member) 9 s

/-- LATE_BOUND_EXPIRED: the source is reported as suspect, but for a count that a retrain has stopped. -/
def execLateBoundExpired (t : Nat) (comm : Fin 64) (source : MemberId) (s : State) :
    Host.Outcome State Fault Refusal :=
  .next (whenReady (fun st =>
    let s0 := atTime t st
    let m := 64 * s0.job.group + source.val
    if isPaused s0 m || !lateFor s0 comm.val source.val then s0
    else
      let gather := (waitingFor s0 comm.val source.val).isEmpty
      if isLead s0 then onSuspect comm.val gather s0.job.group source.val s0
      else emit (.suspect comm.val m gather) s0) s)

/-- SUSPECT_REPORT at the lead. -/
def execSuspectReport (t : Nat) (comm : Fin 64) (gather : Bool) (group : GroupId) (member : MemberId) (s : State) :
    Host.Outcome State Fault Refusal :=
  .next (whenReady (fun st =>
    let s0 := atTime t st
    if isLead s0 && s0.job.started then onSuspect comm.val gather group.val member.val s0 else s0) s)

/-- EXCLUSION_NOTICE at a destination. -/
def execExclusionNotice (comm : Fin 64) (group : GroupId) (member : MemberId) (s : State) :
    Host.Outcome State Fault Refusal :=
  .next (whenReady (excludeSource comm.val member.val (64 * group.val + member.val)) s)

end Sys2Proof.Machine
end

