-- ==== Sys2Proof/Machine/Glint.lean ====
section
/-! DEFINITION. The glint path (R367 to R373): combining in three stages, results, barriers and late arrivals. -/

namespace Sys2Proof.Machine

/-! ## Counts (R368) -/

/-- Expected contributions of a communicator by field (GLINT_COUNTS). -/
def glintCountsOf (s : State) (comm : Nat) : List Nat :=
  match s.place.inForce with
  | none => []
  | some i => nth [] i.glintCounts comm

/-- Members that a mask names. -/
def maskMembers (mask : Nat) : List Nat := (List.range 64).filter fun m => bitAt mask m

/-- The number of a stage in a combine's key. -/
def stageCode : GlintStage → Nat
  | .field f => f.val
  | .moduleRoot => 84
  | .rootRoot => 85
  | .jobRoot => 86
  | .result => 87

/-- The COUNT at which a stage is complete. -/
def stageCount (s : State) (comm : Nat) : GlintStage → Nat
  | .field f => nth 0 (glintCountsOf s comm) f.val
  | .moduleRoot => (glintCountsOf s comm).sum
  | .rootRoot => (maskMembers (commOf s comm).sources).length
  | .jobRoot => s.job.groups
  | .result => 0

/-! ## Late arrivals (R372, R481) -/

/-- Note for one member whether it was among the last into a barrier; a full window at SUSPECT_PCT makes a suspect.
Log entry 83 (DEDUCED). -/
def noteLateMember (last : Nat) (m : Nat) (s : State) : State :=
  let index := 64 * s.job.group + m
  let r := memberS s index
  let all := r.late ++ [bitAt last m]
  let win := all.drop (all.length - s.grp.suspectWindow)
  let hit := decide (win.length = s.grp.suspectWindow) &&
    decide (s.grp.suspectPct * s.grp.suspectWindow ≤ 100 * (win.filter id).length)
  setMember index { r with late := win, suspect := r.suspect || hit } s

/-- A barrier completes at the root: counted, and the last in go to the statistics, which the lead keeps. -/
def noteBarrier (comm last : Nat) (s : State) : State :=
  let s1 := count cBarriers 1 s
  if isLead s1 then each (maskMembers (commOf s1 comm).sources) (noteLateMember last) s1 else emit (.lastIn comm last) s1

/-! ## Combining (R368, R369) -/

/-- Send a packet on to a combiner. -/
def glintOn (stage : GlintStage) (dest : Option Nat) (h : GlintHdr) (data : List Byte) (s : State) : State :=
  emit (.glint stage dest (encodeGlint { h with bytes := data.length }) data) s

/-- Deliver a result to the units of the operation on this module. -/
def deliverGlint (h : GlintHdr) (data : List Byte) (s : State) : State :=
  glintOn .result none h data (if h.piece = 0 then count cGlintOps 1 s else s)

/-- Send a result to every member of the group, this one included. -/
def spreadResult (h : GlintHdr) (data : List Byte) (s : State) : State :=
  let others := (groupMembers s).filter fun m => decide (m ≠ s.job.member)
  deliverGlint h data (each others (fun m st => glintOn .result (some (64 * st.job.group + m)) h data st) s)

/-- Send a job's result to the other groups' leads, and to this group. -/
def spreadJob (h : GlintHdr) (data : List Byte) (s : State) : State :=
  spreadResult h data (each (otherGroups s) (fun g st => glintOn .jobRoot (some g) h data st) s)

/-- A stage is complete with `n` contributions combined; `last` is the data of the completing packet. -/
def stageDone (stage : GlintStage) (h : GlintHdr) (n : Nat) (data last : List Byte) (s : State) : State :=
  let root := 64 * s.job.group + (commOf s h.comm).root
  match stage with
  | .field _ =>
    if h.scope = 0 then deliverGlint h data s
    else glintOn .moduleRoot (some (selfIndex s)) { h with count := n } data s
  | .moduleRoot =>
    if h.scope ≤ 1 then deliverGlint h data s else glintOn .rootRoot (some root) { h with count := 1 } data s
  | .rootRoot =>
    let s1 := if h.op = 0 then noteBarrier h.comm (ofBytesLE (last.take 8)) s else s
    if h.scope ≤ 2 then spreadResult { h with count := n } data s1
    else glintOn .jobRoot none { h with count := 1 } (if h.op = 0 then bytesLE 2 (2 ^ s1.job.group) else data) s1
  | .jobRoot =>
    let s1 := if h.op = 0 then count cBarriers 1 s else s
    spreadJob { h with count := n } data s1
  | .result => s

/-- Add a packet's contributions at a stage. -/
def combineAt (stage : GlintStage) (h : GlintHdr) (data : List Byte) (s : State) : State :=
  let k := combineKey (stageCode stage) h.comm h.seq h.piece
  let c := mapGet {} s.beam.combines k
  let sum := if c.count = 0 then data else (glintCombine h.op c.data data).getD data
  let n := c.count + h.count
  let expected := stageCount s h.comm stage
  let put (v : CombineS) : State := { s with beam := { s.beam with combines := mapSet {} s.beam.combines k v } }
  if expected ≤ n then stageDone stage h n sum data (put {})
  else put { count := n, data := sum, members := if h.op = 0 then c.members ||| ofBytesLE (data.take 8) else 0
             waitSince := if n + 1 = expected then some s.now else none }

/-- BCAST goes from the root to all (Table 11.10). -/
def broadcast (stage : GlintStage) (h : GlintHdr) (data : List Byte) (s : State) : State :=
  let root := 64 * s.job.group + (commOf s h.comm).root
  match stage with
  | .field _ => glintOn .moduleRoot (some (selfIndex s)) h data s
  | .moduleRoot =>
    if h.scope ≤ 1 then deliverGlint h data s else glintOn .rootRoot (some root) h data s
  | .rootRoot => if h.scope ≤ 2 then spreadResult h data s else glintOn .jobRoot none h data s
  | .jobRoot => spreadJob h data s
  | .result => s

/-- A result at a member: delivered; a group lead passes a job's result to its group. -/
def resultAt (h : GlintHdr) (data : List Byte) (s : State) : State :=
  if h.scope = 3 && isLead s then spreadResult h data s else deliverGlint h data s

/-- A glint packet at a stage: stale ones are discarded; the operations that nothing combines have commands of their
own, and reserved ones no effect. -/
def glintAt (stage : GlintStage) (h : GlintHdr) (data : List Byte) (s : State) : State :=
  if h.roll ≠ s.red.roll ∨ h.step ≠ s.tick.step % 65536 then count cGlintStale 1 s
  else if stage = .result then (if h.op ≤ 5 then resultAt h data s else s)
  else if h.op ≤ 4 then combineAt stage h data s
  else if h.op = 5 then broadcast stage h data s
  else s

/-- GLINT_PACKET. A dark field has no combiner. -/
def execGlintPacket (t : Nat) (stage : GlintStage) (header : BitVec 128) (data : List (BitVec 64)) (s : State) :
    Host.Outcome State Fault Refusal :=
  .next (whenReady (fun st =>
    let s0 := atTime t st
    let h := decodeGlint header.toNat
    let dark := match stage with | .field f => isDark s0 f.val | _ => false
    if dark then s0
    else glintAt stage h ((data.flatMap fun w => bytesLE 8 w.toNat).take h.bytes) s0) s)

end Sys2Proof.Machine
end

