-- ==== Sys2Proof/Machine/Memory.lean ====
section
/-! DEFINITION. The stacked memory as its controllers serve it (chapter 08): requests by region, checked reads and their
faults, refresh, and the loss of a stack. -/

namespace Sys2Proof.Machine

/-! ## OWNER banks and REDUCE as bytes (Table 8.2) -/

/-- Words of `n` bytes each as bytes. -/
def wordsBytes (n : Nat) (ws : List Nat) : List Byte := ws.flatMap (bytesLE n)

/-- Number of codes a block holds under a PRUNE setting, and the bits of each. -/
def codeShape : Prune → Nat × Nat
  | .none => (0, 0)
  | .s24 => (1024, 4)
  | .ts24 => (256, 16)
  | .s14 => (1024, 2)
  | .s28 => (512, 6)

/-- A block's bank as bytes: master, moment 1 and its scales, moment 2 and its scales, the error memories of class S,
the factors of rule 5, and the codes.
Log entry 90 (DESIGN CHOICE). -/
def bankBytes (l : LayerRec) (k : OwnerBlock) : List Byte :=
  wordsBytes 4 (mapGetList 0 k.master 0 4096) ++ wordsBytes 1 (mapGetList 0 k.m1 0 4096) ++
    wordsBytes 2 (mapGetList 0 k.m1Scale 0 32) ++ wordsBytes 1 (mapGetList 0 k.m2 0 4096) ++
    wordsBytes 2 (mapGetList 0 k.m2Scale 0 32) ++
    (if l.cls = 1 then wordsBytes 2 (mapGetList 0 k.sendErr 0 4096) ++ wordsBytes 2 (mapGetList 0 k.retErr 0 4096) else []) ++
    (if l.rule = 5 then mapGetList 0#8 k.factors 0 65536 else []) ++
    packBits (codeShape l.prune).2 (mapGetList 0 k.codes 0 (codeShape l.prune).1)

/-- `count` words of `n` bytes each from a byte list, as a store. -/
def takeWords (n count : Nat) (bs : List Byte) : Map Nat :=
  mapSetList 0 [] 0 ((List.range count).map fun i => ofBytesLE ((bs.drop (n * i)).take n))

/-- A bank read back from its bytes; the previous-pattern flag stays. -/
def bankOfBytes (l : LayerRec) (old : OwnerBlock) (bs : List Byte) : OwnerBlock :=
  let errs := if l.cls = 1 then 16384 else 0
  let facs := if l.rule = 5 then 65536 else 0
  let sh := codeShape l.prune
  let codeBits := ofBytesLE (bs.drop (24704 + errs + facs))
  { master := takeWords 4 4096 bs, m1 := takeWords 1 4096 (bs.drop 16384), m1Scale := takeWords 2 32 (bs.drop 20480)
    m2 := takeWords 1 4096 (bs.drop 20544), m2Scale := takeWords 2 32 (bs.drop 24640)
    codes := mapSetList 0 [] 0 ((List.range sh.1).map fun i => field codeBits (sh.2 * i) sh.2)
    codesValid := old.codesValid
    sendErr := if l.cls = 1 then takeWords 2 4096 (bs.drop 24704) else old.sendErr
    retErr := if l.cls = 1 then takeWords 2 4096 (bs.drop 32896) else old.retErr
    factors := if l.rule = 5 then mapSetList 0#8 [] 0 ((bs.drop (24704 + errs)).take 65536) else old.factors }

/-- The expected projection in the record's unit: 2^−64 of the largest magnitude among the tensor's masters, cut to 64
bits. -/
def driftField (s : State) (b : Nat) : Int :=
  match layerAt s b with
  | none => 0
  | some (l, _) =>
    let top := (blocksOf s l.tensor).foldl (fun a x =>
      (curBank s x).master.foldl (fun m e => max m (fixed149 e.2).natAbs) a) 0
    if top = 0 then 0 else toSigned 64 (ofSigned 64 ((blockS s b).driftE * 2 ^ 64 / (top : Int)))

/-- A block's REDUCE entry as bytes: the accumulators, then the record of Table 10.5 with the digest of Table 16.4. -/
def reduceBytes (s : State) (b : Nat) : List Byte :=
  let o := blockS s b
  wordsBytes 6 ((accList o).map (ofSigned 48)) ++
    bytesLE 64 (encodeBlock { o with driftE := driftField s b } (mapGet noDigest s.grp.mirror b))

/-- The block at an offset of an OWNER bank in a stack, and the offset within it. -/
def blockAtOffset (size : Nat → Nat) : List Nat → Nat → Option (Nat × Nat)
  | [], _ => none
  | b :: bs, off => if off < size b then some (b, off) else blockAtOffset size bs (off - size b)

def homedHere (s : State) (stack : Nat) : List Nat :=
  match s.place.inForce with
  | none => []
  | some i => homedIn i stack

/-- Bytes of block `b` in an OWNER bank. -/
def bankSize (s : State) (b : Nat) : Nat := match layerAt s b with | some (l, _) => ownerBytes l | none => 24704

/-- The block and offset that an in-stack address of region `r` (5, 6 OWNER, 7 REDUCE, 8 SHADOW) names. -/
def localPlace (s : State) (stack addr r : Nat) : Option (Nat × Nat) :=
  let off := uncarvedAddr s addr - regionBase s r
  let shadow := shadowIn s stack
  if r = 8 then
    blockAtOffset (fun b => match shadow.find? fun e => decide (e.1 = b) with | some e => e.2 | none => 24704) (shadow.map (·.1)) off
  else if r = 7 then blockAtOffset (fun _ => 24640) (homedHere s stack) off
  else blockAtOffset (bankSize s) (homedHere s stack) off

/-- Is region `r` the OWNER bank that holds the last committed master? -/
def isCurBank (s : State) (r : Nat) : Bool := decide (r = (if s.mem.ownerCur then 6 else 5))

/-- The bank of block `b` that region `r` holds. -/
def bankIn (s : State) (r b : Nat) : OwnerBlock :=
  if r = 8 then mapGet {} s.red.shadow b else if isCurBank s r then curBank s b else otherBank s b

def putBank (r b : Nat) (k : OwnerBlock) (s : State) : State :=
  if r = 8 then { s with red := { s.red with shadow := mapSet {} s.red.shadow b k } }
  else if isCurBank s r then setCur b k s else setOther b k s

def blockLayer (s : State) (r b : Nat) : LayerRec :=
  match if r = 8 then shadowAt s b else layerAt s b with | some (l, _) => l | none => {}

/-- The OWNER, REDUCE or SHADOW bytes of the block that lies at an address of region `r`. -/
def readBlock (s : State) (r stack addr : Nat) (place : Option (Nat × Nat)) (len : Nat) : List Byte :=
  match place with
  | none => memRead s stack addr len
  | some (b, off) =>
    if r = 7 then ((reduceBytes s b).drop off).take len
    else ((bankBytes (blockLayer s r b) (bankIn s r b)).drop off).take len

/-- The bytes at an in-stack address. -/
def readAt (s : State) (stack addr len : Nat) : List Byte :=
  let r := regionOf s addr
  if r < 5 ∨ 9 ≤ r then memRead s stack addr len
  else readBlock s r stack addr (localPlace s stack addr r) len

/-- Write bytes to the OWNER, REDUCE or SHADOW bytes of the block that lies at an address of region `r`. -/
def writeBlock (r stack addr : Nat) (place : Option (Nat × Nat)) (bs : List Byte) (s : State) : State :=
  match place with
  | none => memWrite stack addr bs s
  | some (b, off) =>
    let l := blockLayer s r b
    let old := bankBytes l (bankIn s r b)
    putBank r b (bankOfBytes l (bankIn s r b) (old.take off ++ bs ++ old.drop (off + bs.length))) s

/-- Write bytes at an in-stack address; SYSTEM goes to both copies (R255). -/
def writeAt (stack addr : Nat) (bs : List Byte) (s : State) : State :=
  let r := regionOf s addr
  if r = 0 then memWrite ((stack + 16) % 32) addr bs (memWrite stack addr bs s)
  else if r < 5 ∨ 9 ≤ r then memWrite stack addr bs s
  else writeBlock r stack addr (localPlace s stack addr r) bs s

/-! ## Persistent errors by region (Table 8.3) -/

/-- Has a block's owner state another source (R498): a replica in another group, or a shadow owner? -/
def hasSource (s : State) : Bool := decide (1 < s.job.groups) || s.grp.shadowedBy.isSome

/-- A record of a persistent read error. -/
def memRecord (stack addr code : Nat) : FaultRec := { cls := 4, code := code, addr := addr / 64, detail := stack }

/-- Bytes of a context's KV page. -/
def kvPageBytes (s : State) (c : ContextS) : Nat :=
  c.kvPage * (match s.place.inForce with | some i => i.kvBytesToken | none => 0)

/-- The context and place of the request that holds the page of byte `o` of KV (R294). -/
def kvFind (s : State) : List Nat → Nat → Option (Nat × Nat)
  | [], _ => none
  | n :: rest, o =>
    let c := ctxOf s n
    match c.requests.findIdx? fun q => q.held.contains (o / kvPageBytes s c) with
    | some i => if kvPageBytes s c = 0 then kvFind s rest o else some (n, i)
    | none => kvFind s rest o

/-- The bytes of KV that requests hold, as first byte and length of each page. -/
def kvTaken (s : State) : List (Nat × Nat) :=
  (List.range 64).flatMap fun n =>
    let c := ctxOf s n
    c.requests.flatMap fun q => q.held.map fun p => (p * kvPageBytes s c, kvPageBytes s c)

/-- The request whose cache holds an address of KV loses it, and runs again from admission (R32, Table 8.3). -/
def loseKv (s : State) (off : Nat) : State :=
  match kvFind s (List.range 64) off with
  | none => s
  | some (n, i) =>
    let c := ctxOf s n
    setCtx n { c with requests := c.requests.modify i fun q => { q with kvLost := q.inBatch, kvTokens := 0 } } s

/-- A persistent error in a block's REDUCE bytes (Table 8.3). -/
def persistentReduce (place : Option (Nat × Nat)) (s : State) : State :=
  match place with
  | some (b, _) => reRequestBlock b true s
  | none => s

/-- The group that a block's copy comes from: the lowest-numbered other one (R498). -/
def copySource (s : State) : Nat := if s.job.group = 0 then 1 else 0

/-- A block's state is to come from its replica owner, where there is one; a shadow owner knows of the loss (R498). -/
def askCopy (b : Nat) (s : State) : State :=
  let s1 := setBlock b { blockS s b with repairWait := true } s
  if 1 < s1.job.groups then emit (.repairCopy b (copySource s1) s1.job.group) s1 else s1

/-- A persistent error in a block's OWNER bytes in bank region `r` (Table 8.3). -/
def persistentOwner (r stack addr : Nat) (place : Option (Nat × Nat)) (s : State) : State :=
  match place with
  | none => s
  | some (b, _) =>
    if !isCurBank s r && decide ((blockS s b).state ≠ .updated) then recordFault (memRecord stack addr 5) s
    else
      let s1 := rollFault (memRecord stack addr 5) 4 (askCopy b s)
      if hasSource s1 then s1 else holdFor 9 s1

/-- The byte of a striped region that an in-stack address of it holds (R254). -/
def stripedOffset (s : State) (r stack addr : Nat) : Nat :=
  let a := uncarvedAddr s addr - regionBase s r
  (a / 4096 * s.mem.stripe.length + (s.mem.stripe.findIdx fun m => decide (m = stack))) * 4096 + a % 4096

/-- Act on a persistent error at an address (Table 8.3); `copyBad` where SYSTEM's other copy does not serve.
Log entry 89 (DEDUCED). -/
def persistentAt (stack addr : Nat) (copyBad : Bool) (s : State) : State :=
  let r := regionOf s addr
  if r = 0 then
    if copyBad then requestRollback 4 (holdFor 8 (faultEvent (memRecord stack addr 8) s)) else s
  else if r ≤ 3 then rollFault (memRecord stack addr 3) 4 s
  else if r = 4 then loseKv s (stripedOffset s 4 stack addr)
  else if r = 7 then persistentReduce (localPlace s stack addr 7) s
  else if r = 5 ∨ r = 6 then persistentOwner r stack addr (localPlace s stack addr r) s
  else recordFault (memRecord stack addr 9) s

/-! ## Requests (R251, R252, R260, R264) -/

/-- The in-stack address that ADDR of a packet names (R251). -/
def memAddr (a : BitVec 32) : Nat := 64 * field a.toNat 0 30 + 16 * field a.toNat 30 2

/-- The address of a packet's failed unit. -/
def unitAddr (addr : Nat) (bad : List Nat) : Nat := 64 * (addr / 64 + nth 0 bad 0)

/-- The other stack of a pair of SYSTEM (R255). -/
def otherCopy (stack : Nat) : Nat := (stack + 16) % 32

/-- Does SYSTEM's other copy serve the failed units of a packet (Table 8.3)? -/
def copyServes (stack addr : Nat) (f : MemFacts) (bad : List Nat) (s : State) : Bool :=
  !stackGone s (otherCopy stack) && bad.all fun i => decide (failedReads s (otherCopy stack) (addr / 64 + i) (copiesOf f i) < 3)

/-- The failed units of one copy of SYSTEM rewritten from the other. -/
def mendCopy (stack addr : Nat) (bad : List Nat) (s : State) : State :=
  each bad (fun i st =>
    let a := 64 * (addr / 64 + i)
    memWrite stack a (memRead st (otherCopy stack) a 64) st) s

/-- Is the block at an address of REDUCE in the accumulation cache (R264)? -/
def inCache (s : State) (stack addr : Nat) : Bool :=
  decide (regionOf s addr = 7) && (match localPlace s stack addr 7 with
    | some p => (mapGet [] s.mem.cache stack).contains p.1
    | none => false)

/-- The data of a packet leave. -/
def deliver (stack addr len : Nat) (s : State) : State :=
  count cMemRead len (emit (.memory stack addr (readAt s stack addr len)) s)

/-- A read: delivered from the accumulation cache, or once checked; after a persistent error served from SYSTEM's other copy,
or not at all. -/
def serveRead (stack addr len : Nat) (f : MemFacts) (s : State) : State :=
  if inCache s stack addr then deliver stack addr len s
  else
    let c := checkedRead stack addr (List.range (ceilDiv (addr % 64 + len) 64)) f s
    if c.1.isEmpty then deliver stack addr len c.2
    else if regionOf s addr = 0 && copyServes stack addr f c.1 c.2 then
      deliver stack addr len (mendCopy stack addr c.1 c.2)
    else persistentAt stack (unitAddr addr c.1) true c.2

/-- The units that a write covers in part: its first and its last. -/
def partUnits (addr len : Nat) : List Nat :=
  let last := (addr % 64 + len - 1) / 64
  (if addr % 64 ≠ 0 then [0] else []) ++
    (if (addr + len) % 64 ≠ 0 ∧ (last ≠ 0 ∨ addr % 64 = 0) then [last] else [])

/-- A write waits for a recovery. -/
def holdWrite (stack addr : Nat) (data : List Byte) (s : State) : State :=
  { s with mem := { s.mem with waitingWrites := s.mem.waitingWrites ++ [(stack, addr, data)] } }

/-- The bytes of a write, counted. -/
def putWrite (stack addr : Nat) (data : List Byte) (s : State) : State :=
  count cMemWritten data.length (writeAt stack addr data s)

/-- A write: the units that it covers in part are read and checked first. Where that fails for good the write waits for the
recovery of the region, which in KV is immediate (Table 8.4). -/
def serveWrite (stack addr : Nat) (data : List Byte) (fromAccUnit : Bool) (f : MemFacts) (s : State) : State :=
  let r := regionOf s addr
  if r = 7 then (if fromAccUnit then s else count cPktDiscard 1 s)
  else
    let c := checkedRead stack addr (partUnits addr data.length) f s
    if c.1.isEmpty then putWrite stack addr data c.2
    else if r = 0 && copyServes stack addr f c.1 c.2 then putWrite stack addr data (mendCopy stack addr c.1 c.2)
    else if r = 4 then putWrite stack addr data (persistentAt stack (unitAddr addr c.1) true c.2)
    else holdWrite stack addr data (persistentAt stack (unitAddr addr c.1) true c.2)

/-- The writes that waited for a recovery complete (Table 8.4). -/
def completeWrites (s : State) : State :=
  each s.mem.waitingWrites (fun w st => putWrite w.1 w.2.1 w.2.2 st)
    { s with mem := { s.mem with waitingWrites := [] } }

/-- Does a packet's payload keep to one 4,096-byte span and to the stack (R251)? -/
def memInRange (addr len : Nat) : Bool := decide (addr % 4096 + len ≤ 4096) && decide (addr + len ≤ stackBytes)

/-- A packet at a stack's controller. -/
def memoryOp (stack : Nat) (req : MemReq) (s : State) : State :=
  if stackGone s stack then count cPktDiscard 1 s
  else match req with
    | .read a len f =>
      if memInRange (memAddr a) len then serveRead stack (memAddr a) len f (countBus f s) else count cPktDiscard 1 s
    | .write a data acc f =>
      if memInRange (memAddr a) data.length then serveWrite stack (memAddr a) data acc f (countBus f s)
      else count cPktDiscard 1 s

/-- MEMORY_REQUEST. -/
def execMemoryRequest (stack : StackId) (req : MemReq) (s : State) : Host.Outcome State Fault Refusal :=
  .next (whenReady (memoryOp stack.val req) s)

/-- HBM_REFRESH: one refresh interval, two refreshes while the stack is above 85 °C (R250).
Log entry 32 (DESIGN CHOICE). -/
def execHbmRefresh (stack : StackId) (hot : Bool) (s : State) : Host.Outcome State Fault Refusal :=
  .next (whenReady (fun st =>
    let m := stack.val
    if stackGone st m then st
    else
      let others := st.mem.doubleRefresh.filter fun n => decide (n ≠ m)
      { st with mem := { st.mem with
          doubleRefresh := if hot then others ++ [m] else others
          refreshes := mapUpd 0 st.mem.refreshes m fun n => n + (if hot then 2 else 1) } }) s)

/-! ## Loss of a stack (R258) -/

/-- STACK_UNREACHABLE: the step in progress rolls back with cause 4; the stripe set shrinks at the resume. -/
def execStackUnreachable (stack : StackId) (s : State) : Host.Outcome State Fault Refusal :=
  .next (whenReady (fun st =>
    let m := stack.val
    if stackGone st m then st
    else rollFault { cls := 4, code := 4, detail := m } 4 (loseStack m st)) s)

/-- The new home of a block whose stack is lost: the stacks that remain in rotation.
Log entry 74 (DESIGN CHOICE). -/
def rehome (stripe : List Nat) (lost : List Nat) (h : Nat × Nat) : Nat × Nat :=
  if lost.contains h.2 then (h.1, nth 0 stripe (h.1 % stripe.length)) else h

/-- The owner state of blocks homed in lost stacks is reported, and each block waits for its copy (R258, R498). -/
def dropOwner (lost : List Nat) (s : State) : State :=
  let bs := (ownedBlocks s).filter fun b => lost.contains (homeStack s b)
  if bs.isEmpty then s
  else
    let s1 := faultEvent { cls := 4, code := 6, addr := nth 0 lost 0, detail := bs.length } (loseHomed lost s)
    each bs askCopy s1

/-- The resume that follows a stack's loss: the stripe set, the pairs that run from one copy, the lost owner state, the
size table and the carve (R258). -/
def shrinkStripe (s : State) : State :=
  if s.mem.lostNext.isEmpty then s
  else
    let lost := s.mem.lostNext
    let had := (ownedBlocks s).any fun b => lost.contains (homeStack s b)
    let s1 := dropOwner lost s
    let stripe := s.mem.stripe.filter fun m => !lost.contains m
    let pairs := ((lost.map fun m => m % 16).filter fun p => !s.mem.unmirrored.contains p).foldl
      (fun l p => if l.contains p then l else l ++ [p]) []
    let s2 := { s1 with
      mem := { s1.mem with stripe := stripe, lost := s1.mem.lost ++ lost, lostNext := []
                           unmirrored := s1.mem.unmirrored ++ pairs }
      place := { s1.place with inForce := s1.place.inForce.map fun i =>
                   { i with homes := i.homes.map (rehome stripe lost) } } }
    let s3 := each pairs (fun p st => event 0x8015 p st) (refreshSize s2)
    let s4 := if had && !hasSource s3 then holdFor 9 s3 else s3
    if carveShort s4 = 0 then s4 else holdFor 6 s4

end Sys2Proof.Machine
end

