-- ==== Sys2Proof/Machine/StreamData.lean ====
section
/-! DEFINITION. The stream image of a tensor, its decompression, and its re-layout into the window (R220 to R222, R233
to R235), as functions of bytes. -/

namespace Sys2Proof.Machine

/-! ## Shapes (Tables 5.1, 7.4, 6.3) -/

/-- A tensor's format and shape. -/
structure Shape where
  fmt : Fmt
  elem : Elem
  sparse : Sparse
  k : Nat
  n : Nat
  deriving DecidableEq, Repr

/-- Kept values per column. -/
def keptRows (h : Shape) : Nat :=
  if h.sparse = .dense then h.k else ceilDiv h.k (sparseGroup h.sparse) * sparseKept h.sparse

/-- Groups per column that have a code. -/
def codeRows (h : Shape) : Nat := if h.sparse = .dense then 0 else ceilDiv h.k (sparseGroup h.sparse)

/-- Bytes of the element, code and scale arrays of a stream image. -/
def elemLen (h : Shape) : Nat := ceilDiv (elemBits h.elem * keptRows h * h.n) 8
def codeLen (h : Shape) : Nat := ceilDiv (sparseCodeBits h.sparse * codeRows h * h.n) 8
def scaleCount (h : Shape) : Nat := ceilDiv h.k 32 * h.n
def scaleLen (h : Shape) : Nat := match h.fmt with | .elem _ => 0 | .mx => scaleCount h | .t4 => 2 * scaleCount h

/-- Bytes of a stream image. -/
def imageLen (h : Shape) : Nat := elemLen h + codeLen h + scaleLen h

/-! ## Places in the window (R111, R149, R181) -/

/-- Elements along k in one slot of a micro-tile, and its bytes. -/
def slotPer (h : Shape) : Nat := if elemBits h.elem = 4 then 2 else 1
def slotWidth (h : Shape) : Nat := elemBytes h.elem

/-- Dense positions and code bytes of a compressed micro-tile, and the value micro-tiles of a strip. -/
def tileD (h : Shape) : Nat := sparseD h.sparse (slotPer h)
def tileC (h : Shape) : Nat := sparseC h.sparse (slotPer h)
def stripTiles (h : Shape) : Nat := ceilDiv h.k (tileD h)
def stripLen (h : Shape) : Nat := stripTiles h * (16 * slotWidth h + tileC h)

/-- Bytes of the elements and codes as laid out: micro-tiles, strips, or FP32 values row-major. -/
def laidLen (h : Shape) : Nat :=
  if h.elem = .fp32 then 4 * h.k * h.n
  else if h.sparse = .dense then 16 * slotWidth h * ceilDiv h.k (4 * slotPer h) * ceilDiv h.n 4
  else stripLen h * ceilDiv h.n 4

/-- Where the element of kept row `r` and column `c` begins, in bits. -/
def elemPlace (h : Shape) (r c : Nat) : Nat :=
  let s := slotWidth h
  let sr := r / slotPer h
  let cell := (4 * (sr % 4) + c % 4) * s
  let half := 4 * (r % slotPer h)
  if h.elem = .fp32 then 32 * (r * h.n + c)
  else if h.sparse = .dense then 8 * ((sr / 4 * ceilDiv h.n 4 + c / 4) * 16 * s + cell) + half
  else 8 * (c / 4 * stripLen h + 16 * s * (sr / 4) + cell) + half

/-- Where the code of group row `g` and column `c` begins, in bits. -/
def codePlace (h : Shape) (g c : Nat) : Nat :=
  let per := tileD h / sparseGroup h.sparse
  8 * (c / 4 * stripLen h + 16 * slotWidth h * stripTiles h + g / per * tileC h) +
    (c % 4 * per + g % per) * sparseCodeBits h.sparse

/-- Where scale byte `i` of the image's scale array lies: the scales follow what is laid out, an MX byte each, a T4
exponent byte and trim byte side by side (R149). -/
def scalePlace (h : Shape) (i : Nat) : Nat :=
  let base := 16 * ceilDiv (laidLen h) 16
  match h.fmt with
  | .t4 => if i < scaleCount h then base + 2 * i else base + 2 * (i - scaleCount h) + 1
  | _ => base + i

/-! ## Bits moved -/

/-- A value of `w` bits to write at a bit offset. -/
structure BitWrite where
  at_ : Nat
  width : Nat
  value : Nat
  deriving DecidableEq, Repr

/-- The cells of a final, partial micro-tile that go with element (r, c): they hold zero. -/
def padCells (h : Shape) (r c : Nat) : List (Nat × Nat) :=
  let rowEnd := if r + 1 = keptRows h then 4 * slotPer h * ceilDiv (keptRows h) (4 * slotPer h) else r + 1
  let colEnd := if c + 1 = h.n then 4 * ceilDiv h.n 4 else c + 1
  if h.elem = .fp32 then []
  else ((rangeFrom r rowEnd).flatMap fun x => (rangeFrom c colEnd).map fun y => (x, y)).filter fun p => decide (p ≠ (r, c))

/-- An element's bits at its place, the unused high bits of its byte zero, and the padding beside it. -/
def elemWrite (h : Shape) (r c word : Nat) : List BitWrite :=
  let w := if elemBits h.elem = 4 then 4 else 8 * slotWidth h
  { at_ := elemPlace h r c, width := w, value := word } ::
    (padCells h r c).map fun p => { at_ := elemPlace h p.1 p.2, width := w, value := 0 }

/-- Bits `[b, b + 1)` of an image's element array, kept as they are. -/
def keepElemBit (h : Shape) (b : Nat) (v : Bool) : List BitWrite :=
  let bits := elemBits h.elem
  let e := b / bits
  let j := b % bits
  let r := e / h.n
  let c := e % h.n
  if keptRows h ≤ r then []
  else
    let w := { at_ := elemPlace h r c + j, width := 1, value := b2n v }
    if j + 1 < bits then [w]
    else if bits = 6 then w :: { at_ := elemPlace h r c + 6, width := 2, value := 0 } ::
      (padCells h r c).map fun p => { at_ := elemPlace h p.1 p.2, width := 8, value := 0 }
    else w :: (padCells h r c).map fun p => { at_ := elemPlace h p.1 p.2, width := bits, value := 0 }

/-- The lowest valid code of a sparse format. -/
def plainCode (sp : Sparse) : Nat := ((List.range 16).find? fun c => (codePositions sp c).isSome).getD 0

/-- One bit of the code array; the groups of a final, partial micro-tile take a valid code. -/
def keepCodeBit (h : Shape) (b : Nat) (v : Bool) : List BitWrite :=
  let cb := sparseCodeBits h.sparse
  let g := b / cb / h.n
  let c := b / cb % h.n
  let per := tileD h / sparseGroup h.sparse
  let w := { at_ := codePlace h g c + b % cb, width := 1, value := b2n v }
  if codeRows h ≤ g then []
  else if g + 1 = codeRows h ∧ b % cb + 1 = cb then
    w :: (rangeFrom (g + 1) (per * ceilDiv (codeRows h) per)).map fun x =>
      { at_ := codePlace h x c, width := cb, value := plainCode h.sparse }
  else [w]

/-- What bytes `o` and on of an image in shape `h` write, kept in the streamed format. -/
def keepWrites (h : Shape) (o : Nat) (bs : List Byte) : List BitWrite :=
  (bs.zipIdx o).flatMap fun p =>
    let b := p.1.toNat
    if p.2 < elemLen h then (List.range 8).flatMap fun i => keepElemBit h (8 * p.2 + i) (bitAt b i)
    else if p.2 < elemLen h + codeLen h then
      (List.range 8).flatMap fun i => keepCodeBit h (8 * (p.2 - elemLen h) + i) (bitAt b i)
    else [{ at_ := 8 * scalePlace h (p.2 - elemLen h - codeLen h), width := 8, value := b }]

/-! ## Quantisation (R235, R161 to R167) -/

/-- A byte of an image among the segments at hand. -/
def segsByte (segs : List (Nat × List Byte)) (o : Nat) : Option Byte :=
  segs.findSome? fun p => if p.1 ≤ o then p.2[o - p.1]? else none

/-- Bits of an image, where their bytes are at hand. -/
def segsBits (segs : List (Nat × List Byte)) (b w : Nat) : Option Nat :=
  ((rangeFrom (b / 8) (ceilDiv (b + w) 8)).mapM (segsByte segs)).map fun bs => field (ofBytesLE bs) (b % 8) w

/-- The dense row of a kept row: the first of its group. -/
def denseRow (h : Shape) (r : Nat) : Nat :=
  if h.sparse = .dense then r else r / sparseKept h.sparse * sparseGroup h.sparse

/-- The 32-row block of an element, as block row and column. -/
def blockOf (h : Shape) (e : Nat × Nat × Val) : Nat × Nat := (denseRow h e.1 / 32, e.2.1)

/-- The values of one block among some elements, each at its place in the block's 32. -/
def blockVals (h : Shape) (es : List (Nat × Nat × Val)) (b : Nat × Nat) : List Val :=
  (List.range 32).map fun q =>
    match es.find? fun e => decide (blockOf h e = b) && decide (denseRow h e.1 % 32 + e.1 % sparseKept h.sparse = q) with
    | some e => e.2.2
    | none => .fin false 0 0

/-- The format that a shape stands for. -/
def shapeCvt (h : Shape) : CvtFmt := match h.fmt with | .elem e => .elem e | .mx => .mx h.elem | .t4 => .t4

/-- The scale of a block of a scaled image, where its bytes are at hand. -/
def segsScale (h : Shape) (segs : List (Nat × List Byte)) (b : Nat × Nat) : Option BlockScale :=
  let at_ := elemLen h + codeLen h + b.1 * h.n + b.2
  match h.fmt with
  | .elem _ => some { x := 0, trims := 0 }
  | .mx => (segsByte segs at_).map fun x => { x := x.toNat, trims := 0 }
  | .t4 => (segsByte segs at_).bind fun x => (segsByte segs (at_ + scaleCount h)).map fun t => { x := x.toNat, trims := t.toNat }

/-- An element's value, where all it takes is at hand. -/
def segsElem (h : Shape) (segs : List (Nat × List Byte)) (r c : Nat) : Option Val :=
  let bits := elemBits h.elem
  (segsBits segs (bits * (r * h.n + c)) bits).bind fun w =>
    (segsScale h segs (denseRow h r / 32, c)).map fun sc =>
      match h.fmt with
      | .elem _ => decodeElem h.elem w
      | _ => valMul (decodeElem h.elem w) (scaleValue (shapeCvt h) sc (denseRow h r % 32))

/-- The blocks of 32 rows by one column that bytes `[o, o + n)` of an image have a part in. -/
def blocksIn (h : Shape) (o n : Nat) : List (Nat × Nat) :=
  let bits := elemBits h.elem
  let last := min (keptRows h * h.n) (ceilDiv (8 * (o + n)) bits)
  let base := elemLen h + codeLen h
  let ofElems := (rangeFrom (8 * o / bits) last).map fun e => (denseRow h (e / h.n) / 32, e % h.n)
  let ofScales := (rangeFrom (max o base) (min (o + n) (imageLen h))).map fun x =>
    ((x - base) % scaleCount h / h.n, (x - base) % scaleCount h % h.n)
  (ofElems ++ ofScales).foldl (fun l b => if l.contains b then l else l ++ [b]) []

/-- The kept rows of a block of 32. -/
def blockKept (h : Shape) (b : Nat) : List Nat :=
  let per := if h.sparse = .dense then 32 else 32 / sparseGroup h.sparse * sparseKept h.sparse
  rangeFrom (per * b) (min (keptRows h) (per * (b + 1)))

/-- The elements of some blocks whose values are at hand; under block scales, of whole blocks only. -/
def elemsIn (h : Shape) (segs : List (Nat × List Byte)) (scaled : Bool) (bs : List (Nat × Nat)) : List (Nat × Nat × Val) :=
  bs.flatMap fun b =>
    let es := (blockKept h b.1).map fun r => (r, segsElem h segs r b.2)
    if scaled && es.any fun e => e.2.isNone then []
    else es.filterMap fun e => e.2.map fun v => (e.1, b.2, v)

/-- The generator's state after `n` draws (R165). -/
def drawState : Nat → BitVec 64 → BitVec 64
  | 0, st => st
  | n + 1, st => drawState n (xorshift st)

/-- Elements quantised to another shape: their writes, block scales from the elements at hand. -/
def quantWrites (out : Shape) (es : List (Nat × Nat × Val)) (rnds : List Rounding) : List BitWrite :=
  let f := shapeCvt out
  let blocks := ((es.map (blockOf out)).foldl (fun l b => if l.contains b then l else l ++ [b]) ([] : List (Nat × Nat))).map
    fun b => (b, scaleOfValues f (blockVals out es b))
  let scaleAt (e : Nat × Nat × Val) : BlockScale := match blocks.find? fun b => decide (b.1 = blockOf out e) with
    | some b => b.2
    | none => scaleOfValues f []
  let elems := (es.zip rnds).flatMap fun p =>
    elemWrite out p.1.1 p.1.2.1 (convertIn f (scaleAt p.1) (denseRow out p.1.1 % 32) p.2 p.1.2.2)
  let scales := match out.fmt with
    | .elem _ => []
    | .mx => blocks.map fun b => { at_ := 8 * scalePlace out (b.1.1 * out.n + b.1.2), width := 8, value := b.2.x }
    | .t4 => blocks.flatMap fun b =>
      [{ at_ := 8 * scalePlace out (b.1.1 * out.n + b.1.2), width := 8, value := b.2.x },
       { at_ := 8 * scalePlace out (scaleCount out + b.1.1 * out.n + b.1.2), width := 8, value := b.2.trims }]
  elems ++ scales

/-- The codes among bytes `o` and on, kept, in an output shape. -/
def codeWrites (h out : Shape) (o : Nat) (bs : List Byte) : List BitWrite :=
  (bs.zipIdx o).flatMap fun p =>
    if elemLen h ≤ p.2 ∧ p.2 < elemLen h + codeLen h then
      (List.range 8).flatMap fun i => keepCodeBit out (8 * (p.2 - elemLen h) + i) (bitAt p.1.toNat i)
    else []

/-! ## Decompression (R222) -/

/-- Take the chunks a bitmap names. The first argument is the bytes still to make. -/
def takeChunks : Nat → Nat → List Bool → List Byte → Option (List Byte × List Byte)
  | _, 0, _, bs => some ([], bs)
  | 0, _ + 1, _, _ => none
  | _, _ + 1, [], _ => none
  | fuel + 1, left + 1, b :: rest, bs =>
    let n := min 128 (left + 1)
    if b && decide (bs.length < n) then none
    else
      (takeChunks fuel (left + 1 - n) rest (if b then bs.drop n else bs)).map fun r =>
        ((if b then bs.take n else List.replicate n 0#8) ++ r.1, r.2)

/-- The payload of a segment decompressed; none where it is malformed. -/
def decompress (h : SegHdr) (payload : List Byte) : Option (List Byte) :=
  if payload.length ≠ h.length ∨ h.length % 8 ≠ 0 ∨ h.length < 8 ∨ 4096 < h.length then none
  else match h.comp with
  | 0 => if h.dlen = h.length then some payload else none
  | 1 =>
    let n := ceilDiv h.dlen 1024
    let bits := (payload.take n).flatMap fun b => (List.range 8).map fun i => bitAt b.toNat i
    match takeChunks (ceilDiv h.dlen 128) h.dlen bits (payload.drop n) with
    | some (out, rest) => if rest.length < 8 then some out else none
    | none => none
  | _ => none

end Sys2Proof.Machine
end

