-- ==== Sys2Proof/Machine/Stream.lean ====
section
/-! DEFINITION. Weight stream ingress (chapter 07): lane ranks, credits, frames and segments, repeats and stream faults,
the window, stop, landing zone and resume, and the working-copy digest (R331). -/

namespace Sys2Proof.Machine

/-! ## Ranks and credits (R213, R214, R223, R237) -/

/-- Does a stream lane serve: a lane of a field not dark, whose channel is not lost? -/
def laneServes (s : State) (c : Nat) : Bool := isStreamLane s c && !isDark s (laneField c) && !(laneS s c).chanLost

/-- The stream lanes in rank order, as a start or a resume ranks them. -/
def rankedLanes (s : State) : List Nat := (List.range 1344).filter (laneServes s)

/-- The lanes rank anew (R213). -/
def rerank (s : State) : State :=
  { s with stream := { s.stream with ranks := rankedLanes s, activeLanes := (rankedLanes s).length } }

/-- Is a lane ranked, and does it still serve? -/
def laneActive (s : State) (c : Nat) : Bool := s.stream.ranks.contains c && laneServes s c

/-- SLOTS. -/
def windowSlots (s : State) : Nat :=
  if s.stream.slotBytes = 0 then 0 else s.stream.windowGib * 2 ^ 30 / s.stream.slotBytes

/-- CREDIT_LIMIT: OLDEST + SLOTS. -/
def creditLimit (s : State) : Nat := s.stream.oldest + windowSlots s

/-- The stream slots of one step under the schedule in force. -/
def streamSlots (s : State) : List StreamSlot :=
  match scheduleOf s with
  | none => []
  | some c => if s.stream.dual then c.dualStream else c.stream

/-- The stream slots of a step that begins now, each under its epoch: in a dual pass the old one's or the new one's
(R243). -/
def planNow (s : State) : List PlanSlot :=
  let r := s.stream
  (streamSlots s).map fun x =>
    { signals := x.signals, bytes := x.bytes, epoch := if r.dual && x.newEpoch then r.epochB else r.epochA
      role := if !r.dual then 0 else if x.newEpoch then 2 else 1 }

/-- What the schedule of its step says of a SEQ: this step's and, for those ahead, the next's alike, or that of the step
before. -/
def slotPlan (s : State) (q : Nat) : PlanSlot :=
  let r := s.stream
  if q < r.stepBase then nth {} r.prevPlan (q - r.prevBase)
  else nth { epoch := r.epochA } r.plan ((q - r.stepBase) % r.plan.length)

/-- The step that a SEQ belongs to. -/
def stepOfSeq (s : State) (q : Nat) : Nat :=
  if q < s.stream.stepBase then s.tick.step - 1
  else s.tick.step + (q - s.stream.stepBase) / max 1 s.stream.plan.length

/-- Is a slot free: every active lane's frame ingested and every consumer signal in (R223)? -/
def slotFree (s : State) (q : Nat) : Bool :=
  let v := slotS s q
  !s.stream.ranks.isEmpty && (s.stream.ranks.all fun c => v.lanes.contains c) &&
    decide ((slotPlan s q).signals ≤ v.signals)

/-- OLDEST advances over free slots that follow one another. The first argument bounds them. -/
def advanceOldest : Nat → State → State
  | 0, s => s
  | n + 1, s =>
    let q := s.stream.oldest
    if slotFree s q then
      let slots := mapSet {} s.stream.slots q {}
      let pieces := s.stream.pieces.filter fun p => decide (q < p.seq)
      advanceOldest n { s with stream := { s.stream with slots := slots, pieces := pieces, oldest := q + 1 } }
    else s

/-- Ask for a frame again on a lane: dropped while the stream is stopped (Table 7.11); above REPEAT_LIMIT in a step the
lane is retired. -/
def requestRepeat (c q : Nat) (s : State) : State :=
  let l := streamLane s c
  if s.stream.stop then s
  else
    let again := if l.repeats.contains q then l.repeats else l.repeats ++ [q]
    let s1 := setStreamLane c { l with repeats := again, repeatsStep := l.repeatsStep + 1 } s
    if s.stream.repeatLimit < l.repeatsStep + 1 then retireLane c true s1 else s1

/-- A SEQ that came above the credit on a lane is asked for again once it is credited; what landed of it goes (R236). -/
def askLater (c : Nat) (s : State) : State :=
  let l := streamLane s c
  let due := l.later.filter fun q => decide (q < creditLimit s)
  each due (requestRepeat c) (setStreamLane c { l with
    later := l.later.filter fun q => !due.contains q
    landing := l.landing.filter fun x => !due.contains x.hdr.seq } s)

/-- OLDEST advances as far as it can, and what it credits is asked for. -/
def settleSlots (s : State) : State :=
  let s1 := advanceOldest s.stream.slots.length s
  if s1.stream.oldest = s.stream.oldest then s1
  else each ((s1.stream.lanes.filter fun e => !e.2.later.isEmpty).map (·.1)) askLater s1

/-- CONSUMER_SIGNAL: a consumer has finished with a slot's data. -/
def execConsumerSignal (seq : BitVec 48) (s : State) : Host.Outcome State Fault Refusal :=
  .next (whenReady (fun st =>
    let q := seq.toNat
    if q < st.stream.oldest then st
    else settleSlots (setSlot q { slotS st q with signals := (slotS st q).signals + 1 } st)) s)

/-- A lane's frame of a SEQ is ingested. -/
def frameIn (c q : Nat) (s : State) : State :=
  let v := slotS s q
  if q < s.stream.oldest || v.lanes.contains c then s
  else settleSlots (setSlot q { v with lanes := v.lanes ++ [c], epoch := (streamLane s c).frame.epoch } s)

/-- Slots whose frames carry another epoch than the work that is to read them: each frame is discarded and asked for again
(R240).
Log entry 122 (DESIGN CHOICE). -/
def dropStale (s : State) : State :=
  let stale := s.stream.slots.filter fun e =>
    !e.2.lanes.isEmpty && decide (s.stream.stepBase ≤ e.1) && decide (e.2.epoch ≠ (slotPlan s e.1).epoch)
  each stale (fun e st =>
    each e.2.lanes (fun c => requestRepeat c e.1)
      { setSlot e.1 { e.2 with lanes := [] } st with stream := { (setSlot e.1 { e.2 with lanes := [] } st).stream with
          pieces := st.stream.pieces.filter fun p => decide (p.seq ≠ e.1) } }) s

/-! ## Repeats and faults (R236, Table 7.9) -/

/-- A segment or frame of the frame in hand failed a check: counted, and the frame is asked for again, once. A second
data failure of one SEQ on one lane is a stream data fault, whose rollback holds. -/
def failFrame (c : Nat) (data : Bool) (s : State) : State :=
  let l := streamLane s c
  let q := l.frame.seq
  let s1 := count (if data then cDataErrors else cCrcErrors) 1 s
  let second := data && !l.badData && l.dataFailed.contains q
  let failed := if data && !l.dataFailed.contains q then l.dataFailed ++ [q] else l.dataFailed
  let s2 := setStreamLane c { l with bad := true, badData := l.badData || data, dataFailed := failed } s1
  if second then rollFault { cls := 5, code := 1, field := laneField c, addr := c, detail := q } 8 s2
  else if l.bad then s2 else requestRepeat c q s2

/-! ## Segments (R233 to R235) -/

/-- The ingest table entry of a tensor in a role. -/
def ingestEntry (s : State) (tensor role : Nat) : Option IngestRec :=
  match s.place.inForce with
  | none => none
  | some i => (i.ingest.map fun w => decodeIngest w.toNat).find? fun e =>
      decide (e.tensor = tensor) && decide (e.role = role)

/-- The layer record of a tensor in the image in force. -/
def imageLayer (s : State) (tensor : Nat) : Option LayerRec :=
  match s.place.inForce with
  | none => none
  | some i => (layersOf i).find? fun r => decide (r.tensor = tensor)

/-- The shape that a segment's header and its table entry give; none where the format codes are not valid.
Log entry 84 (DEDUCED). -/
def segShape (h : SegHdr) (e : IngestRec) : Option Shape :=
  match fmtOfCode h.fmt, sparseOfCode h.sparse with
  | some (.elem x), some sp => if h.elem = 0 then some { fmt := .elem x, elem := x, sparse := sp, k := e.k, n := e.n } else none
  | some .t4, some sp => if h.elem = 0 then some { fmt := .t4, elem := .e2m1, sparse := sp, k := e.k, n := e.n } else none
  | some .mx, some sp =>
    if h.elem < 4 ∨ 8 < h.elem then none
    else (elemOfCode h.elem).map fun x => { fmt := .mx, elem := x, sparse := sp, k := e.k, n := e.n }
  | _, _ => none

/-- Do the formats match the ingest table and the tensor's layer record? -/
def segMatches (s : State) (h : SegHdr) (e : IngestRec) : Bool :=
  decide (e.outSparse = h.sparse) &&
    (match imageLayer s h.tensor with
     | none => true
     | some r => decide (r.wcFmt = h.fmt) && (decide (h.fmt ≠ 9) || decide (r.wcElem = h.elem)) &&
        decide (sparseOfCode h.sparse = some (pruneSparse r.prune)))

/-- Has a T4 segment an invalid exponent byte (R150)? -/
def badExponent (h : Shape) (o : Nat) (bs : List Byte) : Bool :=
  decide (h.fmt = .t4) && (bs.zipIdx o).any fun p =>
    decide (elemLen h + codeLen h ≤ p.2) && decide (p.2 < elemLen h + codeLen h + scaleCount h) && decide (p.1 = 0xFF#8)

/-- The shape written to the window: OUT_FMT, where it asks for another format than the one streamed and QUANT for a
rounding.
Log entry 84 (DEDUCED). Log entry 123 (DESIGN CHOICE). -/
def outShape (h : Shape) (e : IngestRec) (elem : Nat) : Option Shape :=
  if e.quant = 0 then none
  else match fmtOfCode e.outFmt with
    | some (.elem y) => if h.fmt = .elem y then none else some { h with fmt := .elem y, elem := y }
    | some .t4 => if h.fmt = .t4 then none else some { h with fmt := .t4, elem := .e2m1 }
    | some .mx => if h.fmt = .mx then none else some { h with fmt := .mx, elem := (elemOfCode elem).getD .e2m1 }
    | none => none

/-- The generator's state that a segment at an offset starts with (R235). -/
def segState (seed tensor offset : Nat) : BitVec 64 :=
  let lo := Nat.xor (seed % 2 ^ 32) tensor
  let hi := Nat.xor (seed / 2 ^ 32 % 2 ^ 32) (offset / 4096 % 2 ^ 32)
  seedState (BitVec.ofNat 64 (lo + 2 ^ 32 * hi))

/-- The rounding of one element: nearest even, or the draw of its place in the segment in which it begins (R235). -/
def elemRounding (seed : Nat) (h : SegHdr) (e : IngestRec) (shape : Shape) (segs : List (Nat × List Byte)) (r c : Nat) :
    Rounding :=
  if e.quant ≠ 2 then .nearest
  else
    let bits := elemBits shape.elem
    let i := r * shape.n + c
    match segs.find? fun p => decide (8 * p.1 ≤ bits * i) && decide (bits * i < 8 * (p.1 + p.2.length)) with
    | some p => .stochastic (drawOf (drawState (i - ceilDiv (8 * p.1) bits) (segState seed h.tensor p.1)))
    | none => .nearest

/-- Does a value that a T4 block cannot hold occur (R167)? -/
def notT4 (es : List (Nat × Nat × Val)) : Bool := es.any fun e => match e.2.2 with | .fin _ _ _ => false | _ => true

/-- The segments at hand of a tensor in a slot, with one more; a repeat replaces its first sending. -/
def segsWith (s : State) (seq role : Nat) (h : SegHdr) (bs : List Byte) : List (Nat × List Byte) :=
  let had := match s.stream.pieces.find? fun p => decide (p.seq = seq) && decide (p.tensor = h.tensor) && decide (p.role = role) with
    | some p => p.segs
    | none => []
  (had.filter fun p => decide (p.1 ≠ h.offset)) ++ [(h.offset, bs)]

/-- Keep the segments of a tensor in a slot. -/
def keepSegs (seq tensor role : Nat) (segs : List (Nat × List Byte)) (s : State) : State :=
  let rest := s.stream.pieces.filter fun p => !(decide (p.seq = seq) && decide (p.tensor = tensor) && decide (p.role = role))
  { s with stream := { s.stream with pieces := rest ++ [{ seq := seq, tensor := tensor, role := role, segs := segs }] } }

/-- The bits that a segment writes at its window offset and, with SHADOW, at its shadow offset, given the segments at hand;
none where a source has no T4 value. A converted element is written when its bytes are all in, and one under a block scale
when its block is. -/
def segWrites (seed : Nat) (h : SegHdr) (e : IngestRec) (shape : Shape) (segs : List (Nat × List Byte)) (bs : List Byte) :
    Option (List BitWrite × List BitWrite) :=
  let es (scaled : Bool) : List (Nat × Nat × Val) := elemsIn shape segs scaled (blocksIn shape h.offset bs.length)
  let main := match outShape shape e h.elem with
    | none => some (keepWrites shape h.offset bs)
    | some out =>
      let l : List (Nat × Nat × Val) := es (decide (out.fmt ≠ Fmt.elem out.elem))
      if out.fmt = Fmt.t4 ∧ notT4 l = true then none
      else some (quantWrites out l (l.map fun (x : Nat × Nat × Val) => elemRounding seed h e shape segs x.1 x.2.1) ++
        codeWrites shape out h.offset bs)
  let mxShape : Shape := { shape with fmt := .mx, elem := .e2m1 }
  let shadow := if e.shadow then
      let l := es true
      quantWrites mxShape l (l.map fun _ => .nearest) ++ codeWrites shape mxShape h.offset bs
    else []
  main.map fun m => (m, shadow)

/-- Write bits into the window at a byte offset of a window position. -/
def windowBits (base : Nat) (ws : List BitWrite) (s : State) : State :=
  let region := regionBase s 2
  let units := ws.foldl (fun l w => (unitsOver (base + w.at_ / 8) (ceilDiv (w.at_ % 8 + w.width) 8)).foldl
    (fun m u => if m.contains u then m else m ++ [u]) l) []
  each units (fun u => sealStriped region (64 * u) 64) (each ws (fun w st =>
    each (List.range w.width) (fun i q =>
      let b := w.at_ + i
      let p := stripedPlace q region (base + b / 8)
      let old := memByte q p.1 p.2
      let bit := BitVec.ofNat 8 (2 ^ (b % 8))
      setMemByte p.1 p.2 (if bitAt w.value i then old ||| bit else old &&& ~~~bit) q) st) s)

/-- The window position of a SEQ (R238), in bytes from the region's base. -/
def slotBase (s : State) (q : Nat) : Nat := q % max 1 (windowSlots s) * s.stream.slotBytes

/-- A completed segment's arrival on every core of ARRIVE_UNIT's leaves. -/
def signalArrival (e : IngestRec) (s : State) : State :=
  if e.arriveUnit = 0xFFFF then s
  else each (leavesOf s e.arriveUnit) (fun b st => each (List.range 16) (fun i q =>
    let key := coreKey b i
    if coreOn q key then arrive key e.arriveEntry 1 q else count cPktDiscard 1 q) st) s

/-! ### The working-copy digest (R331) -/

/-- The working-copy value of element (r, c) of a whole image. -/
def copyValue (h : Shape) (at_ : Nat → Byte) (row col : Nat) : Val :=
  let bits := elemBits h.elem
  let read (b w : Nat) : Nat :=
    field (ofBytesLE ((List.range (ceilDiv (b % 8 + w) 8)).map fun i => at_ (b / 8 + i))) (b % 8) w
  let kept : Option Nat :=
    if h.sparse = .dense then some row
    else
      let g := row / sparseGroup h.sparse
      let cb := sparseCodeBits h.sparse
      let code := if h.sparse = .ts24 then
          let tiles := ceilDiv h.n 4
          read (8 * elemLen h + 16 * (g * tiles + col / 4) + 4 * (col % 4)) 4
        else read (8 * elemLen h + cb * (g * h.n + col)) cb
      match codePositions h.sparse code with
      | none => none
      | some ps => (ps.findIdx? fun p => decide (p = row % sparseGroup h.sparse)).map fun i => g * sparseKept h.sparse + i
  match kept with
  | none => .fin false 0 0
  | some r =>
    let e := read (bits * (r * h.n + col)) bits
    let blk := row / 32 * h.n + col
    let base := elemLen h + codeLen h
    let scale : BlockScale := { x := (at_ (base + blk)).toNat, trims := (at_ (base + scaleCount h + blk)).toNat }
    match h.fmt with
    | .elem x => decodeElem x e
    | f => valMul (decodeElem h.elem e) (scaleValue (match f with | .t4 => .t4 | _ => .mx h.elem) scale (row % 32))

/-- A of one block: Σ cᵢ wᵢ in units of 2^−149.
Log entry 78 (DESIGN CHOICE). Log entry 130 (DEDUCED). -/
def copyDigest (h : Shape) (l : LayerRec) (bn : Nat) (at_ : Nat → Byte) : Int :=
  let idx := (List.range 4096).filter (inTensor l bn)
  let signs := driftSigns l.tensor bn
  let cols := blockCols l
  let nb := if l.n = 1 then 1 else ceilDiv l.n 64
  let word (i : Nat) : Nat :=
    let row := if l.n = 1 then 4096 * bn + i else 64 * (bn / nb) + i / cols
    let col := if l.n = 1 then 0 else 64 * (bn % nb) + i % cols
    fpEnc (copyValue h at_ row col)
  driftSum (idx.map fun i => nth false signs i) (idx.map word)

/-- Is |A − DRIFT_E| above `k` times √DRIFT_U? -/
def driftAbove (k : Nat) (d : Int) (u : Nat) : Bool :=
  match fpDec u with
  | .fin _ m e => decide (k * k * m * 2 ^ (e + 298).toNat < d.natAbs * d.natAbs)
  | _ => false

/-- The check of a tensor's copy once all of it has streamed in: gross drift, else drift. -/
def checkDrift (l : LayerRec) (h : Shape) (s : State) : State :=
  let key := 2 ^ 48 * l.tensor
  let at_ (o : Nat) : Byte := mapGet 0#8 s.stream.copy (key + o)
  let ds := (rangeFrom l.firstBlock (l.firstBlock + blocksOfLayer l)).filterMap fun b =>
    let o := blockS s b
    if o.driftU = 0 || decide (o.doneStep = s.tick.step + 1) then none
    else some (copyDigest h l (b - l.firstBlock) at_ - o.driftE, o.driftU)
  if ds.any fun d => driftAbove s.red.grossK d.1 d.2 then
    requestRollback 14 (forceRefresh l.tensor (count cDriftGross 1 s))
  else if ds.any fun d => driftAbove s.red.driftK d.1 d.2 then forceRefresh l.tensor (count cDriftRefresh 1 s)
  else s

/-- Add a segment of an owned tensor to what has streamed in; the whole copy is checked and forgotten. -/
def digestSegment (h : SegHdr) (shape : Shape) (bs : List Byte) (s : State) : State :=
  let key := 2 ^ 48 * h.tensor
  let ingested := mapSet 0 s.stream.ingested (key + h.offset) bs.length
  let mine := ingested.filter fun e => decide (e.1 / 2 ^ 48 = h.tensor)
  let s1 := { s with stream := { s.stream with
    copy := mapSetList 0#8 s.stream.copy (key + h.offset) bs, ingested := ingested } }
  if (mine.map (·.2)).sum < imageLen shape then s1
  else
    let s2 := match (ownLayers s1).find? fun r => decide (r.tensor = h.tensor) with
      | some l => checkDrift l shape s1
      | none => s1
    { s2 with stream := { s2.stream with
        copy := s2.stream.copy.filter fun e => decide (e.1 / 2 ^ 48 ≠ h.tensor)
        ingested := s2.stream.ingested.filter fun e => decide (e.1 / 2 ^ 48 ≠ h.tensor) } }

/-- What the ingest unit does with a segment: nothing written and the class of failure, or the state after it. -/
inductive SegResult where
  | crc
  | data
  | done (s : State)

/-- A segment through the ingest unit, in the order of R233. -/
def ingestSegment (frame : FrameHdr) (raw : Nat) (payload : List Byte) (s : State) : SegResult :=
  let h := decodeSeg raw
  if crc32 payload ≠ h.pcrc then .crc
  else match decompress h payload with
  | none => .crc
  | some bs => match ingestEntry s h.tensor (slotPlan s frame.seq).role with
    | none => .data
    | some e => match segShape h e with
      | none => .data
      | some shape =>
        if !segMatches s h e || decide (imageLen shape < h.offset + bs.length) || badExponent shape h.offset bs then .data
        else
          let role := (slotPlan s frame.seq).role
          let segs := segsWith s frame.seq role h bs
          match segWrites (seedOf s (stepOfSeq s frame.seq)) h e shape segs bs with
          | none => .data
          | some w =>
            let base := slotBase s frame.seq
            let s0 := if e.shadow || (outShape shape e h.elem).isSome then keepSegs frame.seq h.tensor role segs s else s
            let s1 := windowBits (base + e.shadowOffset) w.2 s0
            let s2 := windowBits (base + e.windowOffset) w.1 s1
            let s3 := if e.owned && decide (frame.version ≠ 0) then digestSegment h shape bs s2 else s2
            .done (signalArrival e s3)

/-- A segment of a frame on a lane; a failure is acted on under Table 7.9. -/
def segmentInto (c : Nat) (raw : Nat) (payload : List Byte) (s : State) : State :=
  match ingestSegment (streamLane s c).frame raw payload s with
  | .crc => failFrame c false s
  | .data => failFrame c true s
  | .done s1 => s1

/-- The frame in hand has no segment left: it is ingested where none of them failed. -/
def endFrame (c : Nat) (s : State) : State :=
  let l := streamLane s c
  if l.left ≠ 0 || decide (l.place ≠ .ingest) then s
  else
    let s1 := setStreamLane c { l with place := .none } s
    if l.bad then s1 else frameIn c l.frame.seq s1

/-- A landed segment's payload in the landing zone (R225): three frames to a lane, in rank order.
Log entry 124 (DESIGN CHOICE). -/
def landBytes (c : Nat) (payload : List Byte) (s : State) : State :=
  let l := streamLane s c
  let before := match l.landing.getLast? with | some x => (x.segs.map (·.2.length)).sum | none => 0
  let rank := s.stream.ranks.findIdx fun x => decide (x = c)
  stripedWrite (regionBase s 1) ((3 * rank + (l.landing.length - 1)) * 25000 * s.tick.period + before) payload s

/-- A landed frame takes a segment; a segment that fails PCRC is left out, and the frame stays short (Table 7.11). -/
def landSegment (c : Nat) (raw : Nat) (payload : List Byte) (s : State) : State :=
  let l := streamLane s c
  if crc32 payload ≠ (decodeSeg raw).pcrc then s
  else
    let landing := match l.landing.reverse with
      | [] => []
      | x :: rest => (({ x with segs := x.segs ++ [(raw, payload)] } : LandedFrame) :: rest).reverse
    setStreamLane c { l with landing := landing } (landBytes c payload s)

/-- SEGMENT_INGEST: the next segment of the frame in hand on a stream lane, in whatever field that is not dark. -/
def execSegmentIngest (t : Nat) (lane : LaneId) (header : BitVec 256) (payload : List Byte) (s : State) :
    Host.Outcome State Fault Refusal :=
  .next (whenReady (fun st =>
    let s0 := atTime t st
    let c := lane.val
    let l := streamLane s0 c
    if !laneActive s0 c || decide (l.left = 0) then s0
    else
      let s1 := setStreamLane c { l with left := l.left - 1 } s0
      match l.place with
      | .ingest => endFrame c (segmentInto c header.toNat payload (count cStreamBytes payload.length s1))
      | .landing => landSegment c header.toNat payload s1
      | _ => s1) s)

/-! ## Frames (R219, R224, R228, R241) -/

/-- The VERSION_STEP that a frame of SEQ `q` carries in a job with a training context: that of the step before its own, and
0 in the first step run under the epoch (R241). -/
def expectedVersion (s : State) (q : Nat) : Nat :=
  let step := stepOfSeq s q
  if step = s.stream.epochStep then 0 else step - 1

/-- Are a data frame's epoch and version those expected of its slot (R241, R243)?
Log entry 85 (DEDUCED). -/
def frameExpected (s : State) (f : FrameHdr) : Bool :=
  decide (f.epoch = (slotPlan s f.seq).epoch) && (!hasTraining s || decide (f.version = expectedVersion s f.seq))

/-- A frame is late: its first word came more than 10 µs after the tick it answers, or a later tick has come since
(R44). -/
def noteLate (c : Nat) (f : FrameHdr) (s : State) : State :=
  let isLate := match s.tick.lastValidAt with
    | some t0 => decide (f.tickCount < s.tick.tickCount % 2 ^ 48) ||
        (decide (f.tickCount = s.tick.tickCount % 2 ^ 48) && decide (t0 + 10000 < s.now))
    | none => false
  if !isLate then s
  else
    let l := streamLane s c
    let s1 := count cLateFrames 1 s
    if l.lateStep = some s.tick.step then s1
    else event 0x800C c (setStreamLane c { l with lateStep := some s.tick.step } s1)

/-- Put the frame in hand. -/
def holdFrame (c : Nat) (f : FrameHdr) (place : FramePlace) (s : State) : State :=
  let l := streamLane s c
  setStreamLane c { l with frame := f, place := place, left := f.segments, bad := false, badData := false
                           next := max l.next (f.seq + 1) } s

/-- A data frame into the landing zone, or discarded where the lane's three frames are full (R228). -/
def landFrame (c : Nat) (f : FrameHdr) (s : State) : State :=
  let l := streamLane s c
  if 3 ≤ l.landing.length then count cLandingOverflow 1 (holdFrame c f .discard s)
  else holdFrame c f .landing (setStreamLane c { l with landing := l.landing ++ [{ hdr := f, segs := [] }] } s)

/-- A data frame above the credit: the landing zone, counted, with one FAULT event a step. -/
def creditViolation (c : Nat) (f : FrameHdr) (s : State) : State :=
  let l := streamLane s c
  let s1 := count cCreditViol 1 s
  let s2 := if s1.stream.creditStep = some s1.tick.step then s1
    else faultEvent { cls := 5, code := 2, field := laneField c, addr := c, detail := f.seq }
      { s1 with stream := { s1.stream with creditStep := some s1.tick.step } }
  let l1 := { l with later := if l.later.contains f.seq then l.later else l.later ++ [f.seq] }
  if 3 ≤ l.landing.length then holdFrame c f .discard (setStreamLane c l1 s2)
  else holdFrame c f .landing (setStreamLane c { l1 with landing := l.landing ++ [{ hdr := f, segs := [] }] } s2)

/-- A header comes before the frame in hand has all its segments: that frame is asked for again. -/
def breakFrame (c : Nat) (s : State) : State :=
  let l := streamLane s c
  if decide (l.left ≠ 0) && decide (l.place = .ingest) && !l.bad then requestRepeat c l.frame.seq s else s

/-- Has STOP been on markers of the tick that a frame answers, or of one before (R228)? -/
def stoppedFor (s : State) (f : FrameHdr) : Bool :=
  s.stream.stop && (match s.stream.stopTick with | some n => decide (n % 2 ^ 48 ≤ f.tickCount) | none => false)

/-- A valid header on a lane.
Log entry 122 (DESIGN CHOICE). -/
def takeFrame (c : Nat) (f : FrameHdr) (s : State) : State :=
  let s0 := breakFrame c s
  let s1 := setStreamLane c { streamLane s0 c with lastHeader := some s0.now, silent := false, left := 0, place := .none } s0
  let s2 := noteLate c f s1
  if f.kind = 0 ∨ f.kind = 3 then s2
  else
    if stoppedFor s2 f then landFrame c f s2
    else if creditLimit s2 ≤ f.seq then creditViolation c f s2
    else if !frameExpected s2 f then failFrame c true (holdFrame c f .discard s2)
    else endFrame c (holdFrame c f .ingest s2)

/-- FRAME_ARRIVAL: a frame header on an active stream lane. A bad CHECK discards the frame, and the SEQ expected is asked
for again. -/
def execFrameArrival (t : Nat) (lane : LaneId) (raw : BitVec 256) (s : State) : Host.Outcome State Fault Refusal :=
  .next (whenReady (fun st =>
    let s0 := atTime t st
    let c := lane.val
    let l := streamLane s0 c
    if !laneActive s0 c || !s0.job.started then s0
    else if frameCheckOk raw.toNat then takeFrame c (decodeFrame raw.toNat) s0
    else
      let s1 := breakFrame c s0
      requestRepeat c l.next (count cHdrErrors 1
        (setStreamLane c { streamLane s1 c with left := 0, place := .discard, next := l.next + 1 } s1))) s)

/-- FRAME_MISSING: no header came for the SEQ expected on a lane. -/
def execFrameMissing (t : Nat) (lane : LaneId) (seq : BitVec 48) (s : State) : Host.Outcome State Fault Refusal :=
  .next (whenReady (fun st =>
    let s0 := atTime t st
    let c := lane.val
    let q := seq.toNat
    let l := streamLane s0 c
    if !laneActive s0 c || !s0.job.started || s0.stream.stop || decide (creditLimit s0 ≤ q) ||
        decide (q < s0.stream.oldest) || (slotS s0 q).lanes.contains c then s0
    else requestRepeat c q (count cMissing 1 (setStreamLane c { l with next := max l.next (q + 1) } s0))) s)

/-- LANE_SILENT: no valid header for three ticks or 2 ms, whichever is longer. -/
def execLaneSilent (t : Nat) (lane : LaneId) (s : State) : Host.Outcome State Fault Refusal :=
  .next (whenReady (fun st =>
    let s0 := atTime t st
    let c := lane.val
    let l := streamLane s0 c
    let due := match l.lastHeader with | some t0 => decide (t0 + silenceBound s0 ≤ s0.now) | none => true
    if !laneActive s0 c || !s0.job.started || l.silent || !due then s0
    else event 0x800B c (count cSilentLanes 1 (setStreamLane c { l with silent := true } s0))) s)

/-! ## Markers, stop and resume (R216, R226, R229) -/

/-- The marker of one lane for the tick in hand; the head of the lane's repeats goes with it. -/
def markerFor (s : State) (rank c : Nat) : Marker :=
  { tickCount := s.tick.tickCount, creditLimit := creditLimit s, resumeSeq := s.stream.resumeSeq
    repeatSeq := ((streamLane s c).repeats.head?).getD (2 ^ 48 - 1), step := s.tick.step, stop := s.stream.stop
    resume := s.stream.resuming, dual := s.stream.dual, discard := s.stream.stop && s.stream.discard
    epochA := s.stream.epochA, epochB := if s.stream.dual then s.stream.epochB else 0, rank := rank
    activeLanes := s.stream.activeLanes }

/-- Send one lane's marker. -/
def sendMarker (p : Nat × Nat) (s : State) : State :=
  let l := streamLane s p.1
  let raw := encodeMarker (markerFor s p.2 p.1)
  setStreamLane p.1 { l with repeats := l.repeats.drop 1 } (queueMarker p.1 raw (emit (.marker p.1 raw) s))

/-- The markers of a tick on every ranked lane that serves; RESUME stands on those of one tick, and the first to carry STOP
are those from which frames land (R228). -/
def sendMarkers (s : State) : State :=
  if !s.job.started then s
  else
    let s1 := each (s.stream.ranks.zipIdx.filter fun p => laneServes s p.1) sendMarker s
    { s1 with stream := { s1.stream with
        resuming := false
        stopTick := if s1.stream.stop then some (s1.stream.stopTick.getD s1.tick.tickCount) else none } }

/-- Ingest a lane's landed frames whose SEQs follow without a gap. -/
def ingestLanded (c : Nat) : List LandedFrame → State → State
  | [], s => s
  | x :: rest, s =>
    let l := streamLane s c
    let wanted := ((rangeFrom s.stream.oldest (x.hdr.seq + 1)).filter fun q => !(slotS s q).lanes.contains c).head?
    if wanted ≠ some x.hdr.seq || creditLimit s ≤ x.hdr.seq || !frameExpected s x.hdr ||
        decide (x.segs.length < x.hdr.segments) then s
    else
      let s1 := setStreamLane c { l with frame := x.hdr, place := .ingest, left := 0, bad := false, badData := false } s
      let s2 := each x.segs (fun g st => segmentInto c g.1 g.2 st) s1
      ingestLanded c rest (endFrame c s2)

/-- One past the last SEQ that every active lane has ingested. The first argument bounds the search. -/
def resumePoint (s : State) : Nat → Nat → Nat
  | 0, q => q
  | n + 1, q => if s.stream.ranks.all fun c => (slotS s q).lanes.contains c then resumePoint s n (q + 1) else q

/-- Every lane's landing zone empties and its next SEQ is `q`. -/
def restartLanes (q : Nat) (s : State) : State :=
  each s.stream.ranks (fun c st =>
    setStreamLane c { streamLane st c with landing := [], repeats := [], later := [], next := q, left := 0, place := .none
                                           lastHeader := some st.now, silent := false } st) s

/-- Empty the landing zone, set every window slot free and begin at SEQ `q` (R229, R555).
Log entry 70 (DEDUCED). -/
def restartStream (q : Nat) (s : State) : State :=
  let s1 := restartLanes q s
  { s1 with stream := { s1.stream with slots := [], oldest := q, stop := false, discard := false, resuming := true
                                       resumeSeq := q, pieces := [], copy := [], ingested := [] } }

/-- Resume the stream for the tick in hand (R229): the ranks are recomputed first (R213). -/
def resumeStream (s : State) : State :=
  if !s.stream.stop then s
  else
    let s0 := rerank s
    if s0.stream.discard then restartStream s0.stream.stepBase s0
    else
      let s1 := each s0.stream.ranks (fun c st => ingestLanded c (streamLane st c).landing st) s0
      let q := resumePoint s1 (s1.stream.slots.length + 1) s1.stream.oldest
      let s2 := restartLanes q s1
      { s2 with stream := { s2.stream with stop := false, resuming := true, resumeSeq := q } }

end Sys2Proof.Machine
end

