-- ==== Sys2Proof/Machine/Place.lean ====
section
/-! DEFINITION. Placement (chapter 12): the checks of a layout set, binding, an image put in force, re-placement, the
rebinding of a failed core's leaf, and the return to the primary schedule. -/

namespace Sys2Proof.Machine

/-! ## Binding (R379) -/

/-- |Δbx| + |Δby| between two blocks. -/
def blockDistance (a b : Nat) : Nat :=
  ((blockBx a : Int) - blockBx b).natAbs + ((blockBy a : Int) - blockBy b).natAbs

/-- May a leaf be bound to a block: enabled, in a lit field? -/
def bindable (s : State) (b : Nat) : Bool := isEnabled s b && isLit s (b / 640)

/-- The nearest unused block that a leaf may be bound to; the lower number wins a tie. -/
def nearestBlock (s : State) (used : List Nat) (b : Nat) : Option Nat :=
  (List.range 53760).foldl (fun best c =>
    if !bindable s c || used.contains c then best
    else match best with
      | none => some c
      | some d => if blockDistance b c < blockDistance b d then some c else best) none

def isLeafWord (w : Nat) : Bool := decide (field w 0 2 = 1)
def leafBlock (w : Nat) : Nat := field w 22 16
def withBlock (w b : Nat) : Nat := w - 2 ^ 22 * leafBlock w + 2 ^ 22 * b

/-- Bind the leaves that may not keep their block, in ascending unit number; `none` where one stays unbound. -/
def bindRest (s : State) : List Nat → Map Nat → Option (Map Nat)
  | _, [] => some []
  | used, (u, w) :: rest =>
    if isLeafWord w && !bindable s (leafBlock w) then
      match nearestBlock s used (leafBlock w) with
      | none => none
      | some b => (bindRest s (b :: used) rest).map fun m => (u, withBlock w b) :: m
    else (bindRest s used rest).map fun m => (u, w) :: m

/-- The unit map with its leaves bound. -/
def bindMap (s : State) (m : Map Nat) : Option (Map Nat) :=
  bindRest s ((m.filter fun e => isLeafWord e.2 && bindable s (leafBlock e.2)).map fun e => leafBlock e.2) m

/-- Can the module meet an image's MIN_BLOCKS and HBM_MIB? -/
def meetsNeeds (s : State) (i : LayoutImage) : Bool :=
  decide (i.minBlocks ≤ sumEnabled s (isLit s)) && decide (i.hbmMib * 2 ^ 20 ≤ hbmBytes s)

/-! ## The checks of a set (R378) -/

/-- The module with exactly the fields of a mask out of service. -/
def asIf (mask : Nat) (s : State) : State :=
  each (List.range 84) (fun f st =>
    setField f { fieldS st f with state := if bitAt mask f then .shade else .lit } st) s

/-- Section types of Table 12.2; 0 stands for the header and the directory. -/
def secHeader : Nat := 0
def secLibrary : Nat := 1
def secUnitMap : Nat := 2
def secIngest : Nat := 6
def secStash : Nat := 7
def secLayers : Nat := 8
def secComms : Nat := 9
def secPredictor : Nat := 11
def secFallback : Nat := 12

/-- What an image fails when it is bound to a module: the section and byte offset of the first entry. -/
def bindProblem (s : State) (i : LayoutImage) : Option (Nat × Nat) :=
  match bindMap s (writeMap i.unitMap []) with
  | none => some (secUnitMap, 0)
  | some m =>
    if sumEnabled s (isLit s) < i.minBlocks then some (secHeader, 40)
    else if hbmBytes s < i.hbmMib * 2 ^ 20 then some (secHeader, 44)
    else (firstBad s m).map fun u => (secUnitMap, 8 * u)

/-- The most slots that a step may take under an image: of either schedule, a dual pass included (R39). -/
def mostSlots (i : LayoutImage) : Nat :=
  let of_ (c : Schedule) : Nat := max (c.lastSlot + 1) c.dualStream.length
  max (match i.primary with | some c => of_ c | none => 0) (of_ i.degraded)

/-- The section of the slot schedules. -/
def secSchedule : Nat := 4

/-- The section and offset of the first record of `size` bytes that fails a table's check. -/
def recordProblem {α : Type} (section_ size : Nat) (ok : α → Bool) (l : List α) : Option (Nat × Nat) :=
  (l.findIdx? fun w => !ok w).map fun n => (section_, size * n)

/-- What an image's own sections fail, in the order of their types (R39, R203, R234, R273, R301, R358).
Log entry 100 (DESIGN CHOICE). Log entry 131 (DEDUCED). -/
def sectionProblem (i : LayoutImage) : Option (Nat × Nat) :=
  if 16777215 < mostSlots i then some (secSchedule, 0) else
  [recordProblem secIngest 32 (fun w => ingestOk w.toNat) i.ingest,
   recordProblem secStash 32 (fun w => stashOk i.stashGib (decodeStash w.toNat)) i.stash,
   recordProblem secLayers 64 (fun w => layerOk w.toNat) i.layers,
   recordProblem secComms 32 (fun w => commOk (decodeComm w.toNat)) i.comms,
   recordProblem secPredictor 16 predictorOk i.predictors].findSome? id

/-- The records of `n` bytes in a run of bytes, little-endian. -/
def recordsIn (n : Nat) (bs : List Byte) : List (BitVec (8 * n)) :=
  (List.range (bs.length / n)).map fun i => BitVec.ofNat (8 * n) (ofBytesLE ((bs.drop (n * i)).take n))

/-- A section of an image's bytes by type (Table 12.2); empty where the directory lists none. -/
def sectionBytes (bs : List Byte) (type : Nat) : List Byte :=
  let num (o n : Nat) : Nat := ofBytesLE ((bs.drop o).take n)
  match ((List.range (num 21 1)).map fun i => 128 + 16 * i).find? fun o => decide (num o 2 = type) with
  | some o => (bs.drop (num (o + 8) 8)).take (num (o + 4) 4)
  | none => []

/-- The image that bytes spell: the header of Table 12.1 and the tables that the spec lays out, little-endian (R7, R377). Its
DIGEST is over the whole image with the field taken as zero.
Log entry 43 (DESIGN CHOICE). -/
def imageOfBytes (bs : List Byte) : Option LayoutImage :=
  let num (o n : Nat) : Nat := ofBytesLE ((bs.drop o).take n)
  (Config.imageSections bs).map fun i => { i with
    magic := num 0 4, format := num 4 2, kind := num 6 1 % 4, field := num 7 1, layoutId := num 8 8, period := num 16 4
    split := num 20 1 % 16, outMask := num 24 11 % 2 ^ 84, minBlocks := num 40 4, hbmMib := num 44 4, digest := num 48 48
    digestOk := decide (Config.sha384 (bs.take 48 ++ List.replicate 48 0#8 ++ bs.drop 96) = num 48 48)
    ingest := recordsIn 32 (sectionBytes bs 6), stash := recordsIn 32 (sectionBytes bs 7)
    layers := recordsIn 64 (sectionBytes bs 8), comms := (recordsIn 32 (sectionBytes bs 9)).take 64 }

/-- How many bytes from a SYSTEM offset an image takes: its header and directory, and every section that this lists. -/
def imageLength (s : State) (o : Nat) : Nat :=
  let num (a n : Nat) : Nat := ofBytesLE (systemRead s (o + a) n)
  let dir := 128 + 16 * num 21 1
  min (s.mem.systemGib * 2 ^ 30 - o)
    (((List.range (num 21 1)).map fun i => num (128 + 16 * i + 8) 8 + num (128 + 16 * i + 4) 4).foldl max dir)

/-- The image at a SYSTEM offset: one placed whole, else what the bytes there spell; none without the MAGIC of one. -/
def imageAt (s : State) (o : Nat) : Option LayoutImage :=
  match s.place.stored.find? fun e => decide (e.1 = o) with
  | some e => some e.2
  | none =>
    if ofBytesLE (systemRead s o 4) ≠ 0x59584C53 then none else imageOfBytes (systemRead s o (imageLength s o))

/-- The images of the set whose primary lies at a SYSTEM offset, in image order; `none` where no image lies. -/
def setImages (s : State) (offset : Nat) : List (Option LayoutImage) :=
  match imageAt s offset with
  | none => [none]
  | some p => some p :: p.fallbacks.map fun e => imageAt s e.offset

/-- A refusal of a set: status, DETAIL and the body that names section and byte offset. -/
structure SetRefusal where
  status : Nat
  detail : Nat
  section_ : Nat := 0
  offset : Nat := 0
  deriving DecidableEq, Repr

def SetRefusal.body (r : SetRefusal) : List Byte :=
  if r.status = 0x0601 then bytesLE 4 r.section_ ++ bytesLE 4 r.offset else []

/-- The first image in order that a check refuses. -/
def firstRefused (check : Nat → LayoutImage → Option SetRefusal) (is : List LayoutImage) : Option SetRefusal :=
  (is.zipIdx.filterMap fun e => check e.2 e.1).head?

/-- Check 1: MAGIC, FORMAT and DIGEST. -/
def checkHeader (ix : Nat) (i : LayoutImage) : Option SetRefusal :=
  if i.magic ≠ 0x59584C53 then some { status := 0x0601, detail := ix, offset := 0 }
  else if i.format ≠ 1 then some { status := 0x0601, detail := ix, offset := 4 }
  else if !i.digestOk then some { status := 0x0601, detail := ix, offset := 48 }
  else none

/-- Check 2: PERIOD and SPLIT. -/
def checkTiming (s : State) (_ : Nat) (i : LayoutImage) : Option SetRefusal :=
  if i.period ≠ s.tick.period then some { status := 0x0505, detail := 1 }
  else if i.split ≠ s.job.split then some { status := 0x0505, detail := 2 }
  else none

/-- Check 3: one LAYOUT_ID and one library. -/
def checkSame (p : LayoutImage) (ix : Nat) (i : LayoutImage) : Option SetRefusal :=
  if i.layoutId ≠ p.layoutId then some { status := 0x0601, detail := ix, offset := 8 }
  else if i.library ≠ p.library then some { status := 0x0601, detail := ix, section_ := secLibrary }
  else none

/-- Is an image a fallback as R375 and Table 12.1 have it: of one field, or of a set of two or more? -/
def fallbackOk (i : LayoutImage) : Bool :=
  (decide (i.kind = 1) && decide (i.field < 84) && decide (i.outMask = 2 ^ i.field)) ||
    (decide (i.kind = 2) && decide (i.field = 0xFF) &&
      decide (2 ≤ ((List.range 84).filter fun f => bitAt i.outMask f).length))

/-- Check 4: every section, the image bound as if exactly the fields of its OUT_MASK were out of service; a fallback is
the image that FALLBACK_DIR names.
Log entry 28 (DESIGN CHOICE). Log entry 69 (DESIGN CHOICE). -/
def checkSections (s : State) (p : LayoutImage) (ix : Nat) (i : LayoutImage) : Option SetRefusal :=
  let listed := if ix = 0 then decide (i.kind = 0) else
    match p.fallbacks[ix - 1]? with
    | some e => decide (e.kind = i.kind) && decide (e.outMask = i.outMask) && fallbackOk i
    | none => false
  if !listed then some { status := 0x0601, detail := if ix = 0 then 0 else ix, section_ := secFallback, offset := 16 * (ix - 1) }
  else match sectionProblem i with
    | some q => some { status := 0x0601, detail := ix, section_ := q.1, offset := q.2 }
    | none => (bindProblem (asIf i.outMask s) i).map fun q =>
        { status := 0x0601, detail := ix, section_ := q.1, offset := q.2 }

/-- The whole check of a set: the first failure of the first check that any image fails, or the images.
Log entry 28 (DESIGN CHOICE). Log entry 66 (DESIGN CHOICE). Log entry 69 (DESIGN CHOICE). -/
def checkSet (s : State) (offset : Nat) : Except SetRefusal (List LayoutImage) :=
  let found := setImages s offset
  match found.findIdx? fun x => x.isNone with
  | some ix => .error { status := 0x0601, detail := ix }
  | none =>
    let is := found.filterMap id
    match is with
    | [] => .error { status := 0x0601, detail := 0 }
    | p :: _ =>
      match firstRefused checkHeader is, firstRefused (checkTiming s) is, firstRefused (checkSame p) is,
        firstRefused (checkSections s p) is with
      | some r, _, _, _ => .error r
      | none, some r, _, _ => .error r
      | none, none, some r, _ => .error r
      | none, none, none, some r => .error r
      | none, none, none, none => .ok is

/-! ## An image in force -/

/-- SLOT_BYTES: the largest window footprint of any stream slot, dual schedules included (R237). -/
def slotBytesOf (i : LayoutImage) : Nat :=
  let of_ (c : Schedule) : List Nat := (c.stream ++ c.dualStream).map (·.bytes)
  ((match i.primary with | some c => of_ c | none => []) ++ of_ i.degraded).foldl max 0

/-- The layer records of an image's tensors that this member owns by the layout. -/
def ownRecords (s : State) (i : LayoutImage) : List LayerRec :=
  (layersOf i).filter fun r =>
    match i.owners.find? fun e => decide (e.1 = r.tensor) with
    | some e => decide (e.2 = s.job.member)
    | none => true

/-- The layer records with an image in force: while a job runs, a tensor keeps its settings and counts, and one taken
over stays. -/
def loadLayers (s : State) (i : LayoutImage) : Map LayerRec :=
  let live := s.job.started
  let keep (r : LayerRec) : LayerRec :=
    match s.red.layers.find? fun e => live && decide (e.1 = r.tensor) with
    | some e => { r with lr := e.2.lr, wd := e.2.wd, churnLimit := e.2.churnLimit, maskChanges := e.2.maskChanges
                         updates := e.2.updates }
    | none => r
  (ownRecords s i).foldl (fun m r => mapSet {} m r.tensor (keep r)) (if live then s.red.layers else [])

/-- Load the pieces of an image's leaves into the SRAM of their cores (section 0x0003). -/
def loadPieces (ps : List LeafPiece) (s : State) : State :=
  each ps (fun p st => each (leavesOf st p.unit) (fun b x =>
    each (List.range 16) (fun c q => writeSram (coreKey b c) p.addr p.bytes q) x) st) s

/-! ## Owners that have moved (R298, R497) -/

/-- One RACC entry that names a block at its old owner comes to name the new one. Where another member is the successor, the
stack and address at it are free values: no message of the spec brings them.
Log entry 129 (DESIGN CHOICE). -/
def retableEntry (old new : ContribRec) (key a : Nat) (s : State) : State :=
  let e := decodeRacc (sramNat (coreS s key) a 16)
  if e.owner ≠ old.owner ∨ e.block ≠ old.block then s
  else
    let d := drawFree s
    let own := decide (new.owner = s.job.member)
    let stack := if own then homeStack s new.block else d.1 % 32
    let addr := if own then pieceAddr s new.block e.piece else d.1 / 32 % 2 ^ 32
    let s1 := writeSram key a (bytesLE 4 new.block ++ bytesLE 1 new.owner) (if own then s else d.2)
    writeSram key (a + 8) (bytesLE 4 addr ++ bytesLE 1 stack) s1

/-- The RACC entries of one block, on every core of the units that CONTRIB_MAP lists. -/
def retableBlock (old new : ContribRec) (s : State) : State :=
  each new.racc (fun p st => each (leavesOf st p.1) (fun b x =>
    each (List.range 16) (fun c q => retableEntry old new (coreKey b c) p.2 q) x) st) s

/-- CONTRIB_MAP of the image in force is rewritten by `f`, and with it the RACC tables. -/
def rewriteContrib (f : ContribRec → ContribRec) (s : State) : State :=
  match s.place.inForce with
  | none => s
  | some i =>
    let s1 := { s with place := { s.place with inForce := some { i with contrib := i.contrib.map f } } }
    each i.contrib (fun r st => if f r = r then st else retableBlock r (f r) st) s1

/-- A record of an image that comes in force names the present owner, as the image before it did. -/
def recordNow (old : Option LayoutImage) (r : ContribRec) : ContribRec :=
  match old.bind fun i => i.contrib.find? fun o => decide (o.tensor = r.tensor) && decide (o.bn = r.bn) with
  | some o => { r with owner := o.owner, block := o.block }
  | none => r

/-- The homes of an image, with those of blocks that this module has taken over. -/
def keepHomes (old : Option LayoutImage) (i : LayoutImage) : LayoutImage :=
  match old with
  | none => i
  | some o => { i with homes := i.homes ++ o.homes.filter fun e => !(i.homes.map (·.1)).contains e.1 }

/-- At a job's start every tensor is again its layout owner's (R298): the image in force loses the homes of blocks taken over,
and its CONTRIB_MAP and RACC tables are its set's. -/
def dropMoves (s : State) : State :=
  let s1 := { s with red := { s.red with layers := s.red.layers.filter fun e => decide (layoutOwner s e.1 = s.job.member) } }
  match s1.place.set[s1.place.inForceIx]?, s1.place.inForce with
  | some i, some o =>
    let own := o.homes.filter fun e => (i.homes.map (·.1)).contains e.1
    let back : LayoutImage := { o with homes := own, contrib := i.contrib }
    if s1.grp.owners.isEmpty then s1
    else loadPieces i.leaves { s1 with place := { s1.place with inForce := some back } }
  | _, _ => s1

/-- Put an image in force: the bound unit map in every copy, the translation caches invalidated (R98), leaf images, and the
tables of later chapters. A change of schedule while the job runs needs the stream begun again under it. -/
def putInForce (ix : Nat) (i : LayoutImage) (m : Map Nat) (s : State) : State :=
  let s1 := dropTranslations { s with fabric := { s.fabric with unitMap := m } }
  let s2 := count cRegClamp (if 1152 < i.stashGib then 1 else 0)
    (putSize { s1.fabric.size with mapVersion := (s1.fabric.size.mapVersion + 1) % 2 ^ 32 } s1)
  let s3 := { s2 with
    place := { s2.place with inForce := some (if s.job.started then keepHomes s.place.inForce i else i), inForceIx := ix, replacing := false, needLayout := false }
    stream := { s2.stream with slotBytes := slotBytesOf i }
    mem := { s2.mem with stashGib := min 1152 i.stashGib }
    red := { s2.red with layers := loadLayers s2 i }
    beam := { s2.beam with glintSeq := [], credits := [], chunks := [], positions := [], shards := [], combines := [] } }
  let s4 := (if s.job.started then rewriteContrib (recordNow s.place.inForce) else id) (loadPieces i.leaves s3)
  if s4.job.started && decide (scheduleOf s4 ≠ scheduleOf s) && !s4.stream.stop then stopStream true s4
  else s4

/-- The image of the set for the fields now out of service, and its place. -/
def matching (s : State) (is : List LayoutImage) : Option (Nat × LayoutImage) :=
  (is.zipIdx.find? fun e => decide (e.1.outMask = outMask s)).map fun e => (e.2, e.1)

/-- Bind an image to the module as it stands and put it in force; `none` where it does not bind. -/
def bindAndForce (ix : Nat) (i : LayoutImage) (s : State) : Option State :=
  match bindProblem s i, bindMap s (writeMap i.unitMap []) with
  | none, some m => some (putInForce ix i m s)
  | _, _ => none

/-! ## LAYOUT_LOAD's end (R378) -/

def isLayoutLoad (b : CmdBody) : Bool := match b with | .layoutLoad _ _ => true | _ => false

/-- The set takes effect, and is measured (R425). -/
def installSet (is : List LayoutImage) (s0 : State) : State :=
  let s := match is with
    | p :: _ => extendMeas 6 (bytesLE 8 p.layoutId ++ bytesLE 48 p.digest) s0
    | [] => s0
  { s with place := { s.place with set := is, primary := is.head?
                                   degraded := s.job.started && s.place.degraded } }

/-- The result of a load; copies of the unit map that differ refuse it (R98).
Log entry 111 (DESIGN CHOICE). -/
def loadResult (offset : Nat) (copiesEqual : Bool) (s : State) : Except SetRefusal State :=
  match checkSet s offset with
  | .error r => .error r
  | .ok is => match matching s is with
    | none => .error { status := 0x0505, detail := 3 }
    | some (ix, i) => match bindAndForce ix i (installSet is s) with
      | some s1 => if copiesEqual then .ok s1 else .error { status := 0x0601, detail := ix, section_ := secUnitMap }
      | none =>
        let q := (bindProblem s i).getD (secUnitMap, 0)
        .error { status := 0x0601, detail := ix, section_ := q.1, offset := q.2 }

/-- LAYOUT_LOAD_DONE: in a hold or before the job starts, with every summary DONE (R98). -/
def execLayoutLoadDone (t : Nat) (copiesEqual : Bool) (s : State) : Host.Outcome State Fault Refusal :=
  .next (whenReady (fun st =>
    let s0 := atTime t st
    match s0.place.loading with
    | none => s0
    | some offset =>
      if !heldOrIdle s0 || !allDone s0 then s0 else
      let s1 := { s0 with place := { s0.place with loading := none } }
      match loadResult offset copiesEqual s1 with
      | .error r => finish isLayoutLoad r.status r.detail r.body s1
      | .ok s2 => finish isLayoutLoad 0 0 [] s2) s)

/-! ## Retired blocks (R104, R385) -/

/-- Take a block out of the enabled set. -/
def retireBlock (b : Nat) (s : State) : State :=
  { s with fabric := { s.fabric with
      outBlocks := if s.fabric.outBlocks.contains b then s.fabric.outBlocks else s.fabric.outBlocks ++ [b] } }

/-- The pieces of the image in force for the leaves of some blocks. -/
def piecesFor (s : State) (blocks : List Nat) : List LeafPiece :=
  match s.place.inForce with
  | none => []
  | some i => i.leaves.filter fun p => (leavesOf s p.unit).any blocks.contains

/-- Retire the blocks due, bind their leaves again, load their images and rewrite the unit map; where no unused block is
left, the module reports it and holds. Waits until every summary is DONE (R98). The copies written here are equal.
Log entry 111 (DESIGN CHOICE). -/
def rebindRetired (s : State) : State :=
  let due := s.fabric.retireNext
  if due.isEmpty || !allDone s then s
  else
    let s0 := { s with fabric := { s.fabric with retireNext := [] } }
    let s1 := refreshSize (each due retireBlock s0)
    match bindMap s1 s1.fabric.unitMap with
    | none => holdFor 10 { s1 with place := { s1.place with needLayout := true } }
    | some m =>
      let moved := (m.filter fun e => mapGet 0 s1.fabric.unitMap e.1 ≠ e.2).map fun e => leafBlock e.2
      if moved.isEmpty then s1
      else
        let s2 := dropTranslations { s1 with fabric := { s1.fabric with unitMap := m } }
        loadPieces (piecesFor s2 moved)
          (putSize { s2.fabric.size with mapVersion := (s2.fabric.size.mapVersion + 1) % 2 ^ 32 } s2)

/-- CORE_FAILED_REBIND: at once while no step runs, else at the next step boundary. -/
def execCoreFailedRebind (core : CoreRef) (s : State) : Host.Outcome State Fault Refusal :=
  .next (whenReady (fun st =>
    let b := core.block.val
    let k := coreKey b core.core.val
    let s1 := { st with fabric := { st.fabric with
      failedCores := if st.fabric.failedCores.contains k then st.fabric.failedCores else st.fabric.failedCores ++ [k]
      retireNext := if st.fabric.outBlocks.contains b || st.fabric.retireNext.contains b then st.fabric.retireNext
                    else st.fabric.retireNext ++ [b] } }
    if heldOrIdle s1 then rebindRetired s1 else s1) s)

/-! ## Re-placement (R382 to R388) -/

/-- No image serves the fields out of service: the module holds the job and reports an on-demand layout (R386). -/
def needOnDemand (s : State) : State :=
  let s1 := { s with place := { s.place with replacing := false, needLayout := true } }
  if s1.job.started then holdFor 5 s1 else s1

/-- Re-placement ends: the image for OUT_MASK, its DIGEST checked again, is bound and put in force; copies of the unit map
that differ leave the module without it (R98). -/
def finishReplacement (digestOk copiesEqual : Bool) (s : State) : State :=
  let s0 := { s with fabric := { s.fabric with retireNext := [] } }
  let s1 := if s.fabric.retireNext.isEmpty then s0 else refreshSize (each s.fabric.retireNext retireBlock s0)
  match matching s1 s1.place.set with
  | none => needOnDemand s1
  | some (ix, i) =>
    if !digestOk || !copiesEqual then needOnDemand s1
    else match bindAndForce ix i s1 with
      | some s2 => emit (.ready s2.job.member) s2
      | none => needOnDemand s1

/-- REPLACEMENT_READY: a rebuild of the route tables comes first (R382), and every summary is DONE (R98). -/
def execReplacementReady (t : Nat) (digestOk copiesEqual : Bool) (s : State) : Host.Outcome State Fault Refusal :=
  .next (whenReady (fun st =>
    let s0 := atTime t st
    if !s0.place.replacing || s0.fabric.rebuildPending || !allDone s0 then s0
    else finishReplacement digestOk copiesEqual s0) s)

/-- Begin the return to the primary schedule and image. -/
def beginReturn (s : State) : State :=
  startReplacement { s with place := { s.place with degraded := false, returnDue := false } }

/-- Is every field lit, of this module and, as the job lead knows it, of every module? -/
def allLitInJob (s : State) : Bool :=
  decide (outMask s = 0) && s.grp.members.all fun e => decide (e.2.state ≠ .active) || decide (e.2.outMask = 0)

/-- RETURN_TO_PRIMARY: during a hold at once, else the module asks for the hold at the next step boundary. -/
def execReturnToPrimary (s : State) : Host.Outcome State Fault Refusal :=
  .next (whenReady (fun st =>
    if !st.job.started || !st.place.degraded || !allLitInJob st then st
    else if st.job.held && !st.grp.rolling then beginReturn st
    else { st with place := { st.place with returnDue := true } }) s)

/-- The stream-schedule notice on every stream lane, before the resume marker (R384). -/
def scheduleNotices (s : State) : State :=
  match s.place.inForce with
  | none => s
  | some i =>
    let sched := b2n (s.place.degraded || i.primary.isNone)
    let content := pack [(32, i.layoutId), (1, sched)]
    each (rankedLanes s) (fun c st => queueChunks c 0 4 [content] (emit (.scheduleNotice c (i.layoutId % 2 ^ 32) sched) st)) s

end Sys2Proof.Machine
end

