-- ==== Sys2Proof/Machine/Serving.lean ====
section
/-! DEFINITION. Contexts, serving requests, batches and weight epochs (chapter 09, R240 to R244, R555): admission, the end
and the start of a pass, and a switch or withdrawal of the epoch. -/

namespace Sys2Proof.Machine

/-! ## Replies of requests -/

/-- Entries that a request's result takes on its completion ring (R402). -/
def resultEntries (s : State) (h : CmdHdr) (newLen : Nat) : Nat :=
  match h.origin with
  | .ring n => entriesFor (ringS s (ringS s n.val).cq).entryShift (8 + 4 * newLen)
  | _ => 0

/-- Add to or take from the entries reserved on a request's completion ring. -/
def reserveEntries (h : CmdHdr) (add take : Nat) (s : State) : State :=
  match h.origin with
  | .ring n =>
    let cq := (ringS s n.val).cq
    let r := ringS s cq
    { s with host := { s.host with rings := mapSet {} s.host.rings cq { r with reserved := r.reserved + add - take } } }
  | _ => s

/-- The FINAL reply of a request, its reservation ended. An unadmitted request held none. -/
def replyRequest (r : RequestS) (status detail : Nat) (body : List Byte) (s : State) : State :=
  let n := if r.epoch.isSome then resultEntries s r.hdr r.newLen else 0
  reply r.hdr status detail body true (reserveEntries r.hdr 0 n s)

/-- The body of a result (Table 13.9): token count, EPOCH, end reason, tokens.
Log entry 60 (DESIGN CHOICE). Log entry 72 (DESIGN CHOICE). -/
def resultBody (r : RequestS) (reason : Nat) : List Byte :=
  bytesLE 4 r.tokens.length ++ bytesLE 2 (r.epoch.getD 0) ++ bytesLE 1 reason ++ bytesLE 1 0 ++
    r.tokens.flatMap (bytesLE 4)

/-- End the requests of a context that `p` picks, each with the status and DETAIL that `f` gives it. -/
def endRequests (ctx : Nat) (p : RequestS → Bool) (f : RequestS → Nat × Nat) (s : State) : State :=
  let c := ctxOf s ctx
  let s1 := setCtx ctx { c with requests := c.requests.filter fun r => !p r } s
  each (c.requests.filter p) (fun r => replyRequest r (f r).1 (f r).2 []) s1

/-- The contexts that are open. -/
def openContexts (s : State) : List Nat := (List.range 64).filter fun n => (ctxOf s n).kind.isSome

/-! ## Admission (R291, R240) -/

/-- Pages of a context's size (R291) that some request's pages cover, without repeats. -/
def takenPages (s : State) (c : ContextS) : List Nat :=
  let page := kvPageBytes s c
  let over_ := (kvTaken s).flatMap fun e => rangeFrom (e.1 / page) ((e.1 + e.2 + page - 1) / page)
  over_.foldl (fun l p => if l.contains p then l else l ++ [p]) []

/-- Free pages of a context: those of the KV region that no admitted request holds. -/
def freePages (s : State) (c : ContextS) : Nat :=
  let page := kvPageBytes s c
  if page = 0 then 0 else s.mem.kvGib * 2 ^ 30 / page - (takenPages s c).length

/-- The lowest `n` pages that no request holds.
Log entry 128 (DESIGN CHOICE). -/
def pickPages (s : State) (c : ContextS) (n : Nat) : List Nat :=
  let taken := takenPages s c
  ((List.range (n + taken.length)).filter fun p => !taken.contains p).take n

/-- Pages that a request reserves. -/
def pagesFor (c : ContextS) (promptLen newLen : Nat) : Nat := ceilDiv (promptLen + newLen) c.kvPage

/-- Does a request of the running batch go on after the pass in hand: is its NEW_LEN-th token still to come? -/
def goesOn (s : State) (r : RequestS) : Bool :=
  r.inBatch && !r.cancelled && decide (r.tokens.length + b2n s.job.passRunning < r.newLen)

/-- A request admitted that enters its first batch at the next pass boundary. -/
def isNew (r : RequestS) : Bool := r.epoch.isSome && !r.inBatch && !r.cancelled

/-- Requests, and tokens, of the batch that the next pass boundary will form (R292). -/
def nextCount (s : State) (c : ContextS) : Nat := (c.requests.filter fun r => goesOn s r || isNew r).length
def nextTokens (s : State) (c : ContextS) : Nat :=
  (c.requests.filter (goesOn s)).length + ((c.requests.filter isNew).map (·.promptLen)).sum

/-- The capacity that a request fails (0x0401's DETAIL); 0 where it is admitted. -/
def capacityCode (s : State) (c : ContextS) (r : RequestS) : Nat :=
  let room := match r.hdr.origin with
    | .ring n => decide (resultEntries s r.hdr r.newLen ≤ ringFree (ringS s (ringS s n.val).cq))
    | _ => true
  if c.maxRequests ≤ nextCount s c then 1
  else if c.passTokens < nextTokens s c + r.promptLen then 2
  else if freePages s c < r.pages then 3
  else if !room then 4
  else 0

/-- Admit a request under the epoch of the tick, refuse it for want of capacity, or let it wait while no epoch is open. -/
def admitRequest (ctx : Nat) (r : RequestS) (s : State) : State :=
  let c := ctxOf s ctx
  if s.tick.epoch = 0 then setCtx ctx { c with requests := c.requests ++ [r] } s
  else
    let code := capacityCode s c r
    if code ≠ 0 then replyRequest r 0x0401 code [] s
    else
      let s1 := reserveEntries r.hdr (resultEntries s r.hdr r.newLen) 0 s
      setCtx ctx { c with requests := c.requests ++ [{ r with epoch := some s.tick.epoch, held := pickPages s c r.pages }] } s1

/-- An EVAL batch that waited for an epoch is pinned to the one open. -/
def pinEval (epoch : Nat) (c : ContextS) : ContextS :=
  if c.kind = some .eval ∧ c.ready.isSome ∧ c.inputEpoch = 0 then { c with inputEpoch := epoch } else c

/-- The requests, and an EVAL batch, that waited for an epoch are admitted in order, once one is open. -/
def admitWaiting (s : State) : State :=
  if s.tick.epoch = 0 then s
  else each (openContexts s) (fun n st =>
    let c := pinEval s.tick.epoch (ctxOf st n)
    let waits (r : RequestS) : Bool := r.epoch.isNone && !r.cancelled
    each (c.requests.filter waits) (admitRequest n)
      (setCtx n { c with requests := c.requests.filter fun r => !waits r } st)) s

/-! ## Passes (R292, R293) -/

/-- The draw of a SAMPLED selection: the generator seeded with the request's seed and how many tokens it has. -/
def tokenDraw (r : RequestS) : Nat := drawOf (seedState (BitVec.ofNat 64 (r.seed % 2 ^ 32 + 2 ^ 32 * r.tokens.length)))

/-- The token that a request selects from scores, which the spec places nowhere: the number that stands for them is a free
value. The same scores and the same draw give the same token (R293).
Log entry 72 (DESIGN CHOICE). -/
def selectToken (r : RequestS) (scores : Nat) : Nat :=
  (if r.sampled then Config.sampledToken scores (tokenDraw r) else Config.greatestToken scores) % 2 ^ 32

/-- A request runs again from admission (R32). -/
def fromAdmission (r : RequestS) : RequestS :=
  { r with tokens := [], inBatch := false, kvLost := false, share := 0, kvTokens := 0 }

/-- A request after the pass that ends: its cache has the pass's keys and values, and it has a new token; a request whose
cache was lost runs again from admission. -/
def afterPass (r : RequestS) (s : State) : RequestS × State :=
  if !r.inBatch then (r, s)
  else if r.kvLost then (fromAdmission r, s)
  else
    let d := drawFree s
    ({ r with tokens := r.tokens ++ [selectToken r d.1], kvTokens := r.kvTokens + r.share, share := 0 }, d.2)

/-- The end reason of a request: 1 stop token, 2 NEW_LEN reached, 0 goes on. -/
def endReason (c : ContextS) (r : RequestS) : Nat :=
  match r.tokens.getLast? with
  | none => 0
  | some x => if c.stopTokens.contains x then 1 else if r.newLen ≤ r.tokens.length then 2 else 0

/-- One request of a context at a pass boundary: its result, its end as cancelled, or on with it. -/
def settleRequest (ctx : Nat) (ran : Bool) (r0 : RequestS) (s : State) : State :=
  let p := if ran then afterPass r0 s else (r0, s)
  let r := p.1
  let c := ctxOf p.2 ctx
  let reason := if ran && r.inBatch then endReason c r else 0
  if reason ≠ 0 then replyRequest r 0 0 (resultBody r reason) p.2
  else if r.cancelled then replyRequest r 0x0702 0 [] p.2
  else setCtx ctx { c with requests := c.requests ++ [r] } p.2

/-- The batch of an EVAL context ends: the FP32 loss sum and token count are the model's own result, free values here. -/
def endEval (ctx : Nat) (s : State) : State :=
  let c := ctxOf s ctx
  if !c.evalRuns then s
  else
    let a := drawFree s
    let b := drawFree a.2
    let mine (d : DeferredS) : Bool := decide (d.hdr.ctx.toNat = ctx) && (match d.body with | .batchReady _ _ => true | _ => false)
    let rest := b.2.host.deferred.eraseP mine
    let s1 := setCtx ctx { c with evalRuns := false, ready := if rest.any mine then c.ready else none } b.2
    match b.2.host.deferred.find? mine with
    | none => s1
    | some d => reply d.hdr 0 0 (bytesLE 4 a.1 ++ bytesLE 4 b.1) true { s1 with host := { s1.host with deferred := rest } }

/-- The pass of a context that has run ends. -/
def endPassOf (ran : Bool) (ctx : Nat) (s : State) : State :=
  let c := ctxOf s ctx
  let s1 := setCtx ctx { c with requests := [] } s
  let s2 := each c.requests (settleRequest ctx ran) s1
  if ran then endEval ctx s2 else s2

/-- The serving pass in hand ends at this boundary, if one runs. -/
def endPass (s : State) : State :=
  let ran := s.job.passRunning
  let s1 := each (openContexts s) (endPassOf ran) s
  { s1 with job := { s1.job with passRunning := false } }

/-- New requests join a batch of so many requests and tokens with their whole prompts while it has room; those that it has not
wait for the next. -/
def joinBatch (c : ContextS) : Nat → Nat → List RequestS → List RequestS
  | _, _, [] => []
  | n, k, r :: rest =>
    if r.epoch.isSome && decide (n < c.maxRequests) && decide (k + r.promptLen ≤ c.passTokens) then
      { r with inBatch := true, share := r.promptLen } :: joinBatch c (n + 1) (k + r.promptLen) rest
    else r :: joinBatch c n k rest

/-- The batch that a pass boundary forms (R292): the requests that continue first, at one token each, then the new ones.
Log entry 128 (DESIGN CHOICE). -/
def formBatch (c : ContextS) : List RequestS :=
  let on := (c.requests.filter (·.inBatch)).map fun r => { r with share := 1 }
  on ++ joinBatch c on.length on.length (c.requests.filter fun r => !r.inBatch)

/-- The serving pass that begins takes the batch of each context, and a ready EVAL batch that is pinned to an epoch (R27). -/
def beginPass (s : State) : State :=
  let s1 := each (openContexts s) (fun n st =>
    let c := ctxOf st n
    setCtx n { c with requests := formBatch c
                      evalRuns := decide (c.kind = some .eval) && c.ready.isSome && decide (c.inputEpoch ≠ 0)
                      runEpoch := c.inputEpoch } st) s
  { s1 with job := { s1.job with passRunning := true } }

/-! ## Epochs (R240 to R244, R555) -/

/-- Does an EVAL batch that is pinned to an epoch wait in a context? -/
def evalPinned (c : ContextS) (epoch : Nat) : Bool :=
  decide (c.kind = some .eval) && c.ready.isSome && decide (c.inputEpoch = epoch)

/-- The EVAL batch of a context ends with a status. -/
def failEval (ctx status detail : Nat) (s : State) : State :=
  let mine (d : DeferredS) : Bool := decide (d.hdr.ctx.toNat = ctx) && (match d.body with | .batchReady _ _ => true | _ => false)
  let s1 := setCtx ctx { ctxOf s ctx with ready := none, evalRuns := false, inputEpoch := 0 } s
  match s.host.deferred.find? mine with
  | none => s1
  | some d => reply d.hdr status detail [] true { s1 with host := { s1.host with deferred := s1.host.deferred.eraseP mine } }

/-- Work pinned to an epoch ends with the epoch-withdrawn status. -/
def endPinned (epoch : Nat) (s : State) : State :=
  each (openContexts s) (fun n st =>
    let st1 := endRequests n (fun r => decide (r.epoch = some epoch)) (fun _ => (0x0701, epoch)) st
    if evalPinned (ctxOf st1 n) epoch then failEval n 0x0701 epoch st1 else st1) s

/-- Is serving or evaluation work pinned to an epoch? -/
def pinnedTo (s : State) (epoch : Nat) : Bool :=
  (openContexts s).any fun n =>
    ((ctxOf s n).requests.any fun r => decide (r.epoch = some epoch)) || evalPinned (ctxOf s n) epoch

def isEpochSwitch (b : CmdBody) : Bool := match b with | .epochSwitch _ => true | _ => false
def isEpochWithdraw (b : CmdBody) : Bool := match b with | .epochWithdraw => true | _ => false

/-- The old epoch of a dual period is withdrawn.
Log entry 73 (DEDUCED). -/
def endDual (s : State) : State :=
  let old := s.stream.epochA
  let s1 := endPinned old s
  event 0x800D 2 { s1 with stream := { s1.stream with dual := false, dualPasses := 0, epochA := s1.stream.epochB, epochB := 0 } }

/-- The open epoch is withdrawn without a successor (R555): the stream stops. -/
def withdrawEpoch (s : State) : State :=
  let s1 := endPinned s.stream.epochB (endPinned s.stream.epochA s)
  let s2 := { s1 with stream := { s1.stream with epochA := 0, epochB := 0, dual := false, dualPasses := 0
                                                 withdraw := false } }
  finish isEpochWithdraw 0 0 [] (event 0x800D 2 (stopStream false s2))

/-- A new epoch takes effect: the following passes are dual while serving work pinned to the old one has passes to run
and no context trains; work of a training job's old epoch ends. -/
def switchEpoch (new : Nat) (s : State) : State :=
  let old := s.stream.epochA
  let dual := !hasTraining s && decide (old ≠ 0) && pinnedTo s old
  let s1 := if dual || decide (old = 0) then s else endPinned old s
  let s2 := { s1 with stream := { s1.stream with
    epochA := if dual then old else new, epochB := if dual then new else 0, dual := dual, dualPasses := 0
    pending := none, epochStep := s1.tick.step } }
  finish isEpochSwitch 0 0 [] (event 0x800D 1 s2)

/-- The epochs at a tick with PASS_BOUNDARY.
Log entry 51 (DEDUCED). -/
def passEpochs (epoch : Nat) (s : State) : State :=
  let cur := if s.stream.dual then s.stream.epochB else s.stream.epochA
  if epoch ≠ cur then
    (if epoch = 0 then withdrawEpoch s else switchEpoch epoch (if s.stream.dual then endDual s else s))
  else if s.stream.dual then
    let n := s.stream.dualPasses + 1
    if s.stream.dualLimit ≤ n ∨ pinnedTo s s.stream.epochA = false then endDual s
    else { s with stream := { s.stream with dualPasses := n } }
  else s

/-! ## Rollback of serving work (R32) -/

/-- A request or an EVAL batch in flight is run again from admission under its epoch, where that is still streamed. -/
def rerunServing (s : State) : State :=
  let streamed (e : Nat) : Bool := decide (e = s.stream.epochA) || (s.stream.dual && decide (e = s.stream.epochB))
  let gone (r : RequestS) : Bool := match r.epoch with | some e => !streamed e | none => false
  let s1 := each (openContexts s) (fun n st =>
    let st1 := endRequests n gone (fun r => (0x0701, r.epoch.getD 0)) st
    let c := ctxOf st1 n
    let st2 := setCtx n { c with requests := c.requests.map fromAdmission
                                 evalRuns := false } st1
    if c.evalRuns && !streamed c.runEpoch then failEval n 0x0701 c.runEpoch st2 else st2) s
  { s1 with job := { s1.job with passRunning := false } }

/-! ## Contexts closed -/

/-- Every request and EVAL batch of a context ends with a status. -/
def endContextWork (status ctx : Nat) (s : State) : State :=
  let s1 := endRequests ctx (fun _ => true) (fun _ => (status, 0)) s
  let mine (d : DeferredS) : Bool := decide (d.hdr.ctx.toNat = ctx) && (match d.body with | .batchReady _ _ => true | _ => false)
  each (s1.host.deferred.filter mine) (fun d => reply d.hdr status 0 [] true)
    { s1 with host := { s1.host with deferred := s1.host.deferred.filter fun e => !mine e } }

/-- Close a context. -/
def closeContext (status ctx : Nat) (s : State) : State := setCtx ctx {} (endContextWork status ctx s)

end Sys2Proof.Machine
end

