-- ==== Sys2Proof/Machine/Snapshot.lean ====
section
/-! DEFINITION. The shutter and the snapshot banks (R506 to R512, chapter 17). -/

namespace Sys2Proof.Machine

/-! ## Latching (R508, R509) -/

/-- S of every field (R445). -/
def stretchList (s : State) : List Nat := (List.range 84).map fun f => if isLit s f then stretchOf s f else 0

/-- The state that a shutter latches. -/
def latchImage (id : Nat) (s : State) : SnapImage :=
  { id := id, cores := s.cores, fabric := s.fabric, beam := s.beam, stream := s.stream, mem := s.mem
    blocks := s.red.blocks, tick := s.tick, roll := s.red.roll, rings := s.host.rings
    ceiling := s.power.ceilingMw / 1000, floor := s.power.floorMw / 1000, stretch := stretchList s, counters := s.counters }

/-- What the banks of the fields that are dark now go on holding: what they held. -/
def keptImages (s : State) : List (Nat × SnapImage) :=
  ((List.range 84).filter fun f => isDark s f).map fun f =>
    match s.snap.older.find? fun e => decide (e.1 = f) with
    | some e => e
    | none => (f, s.snap.image.getD {})

/-- The next SHUTTER_ID (R508). -/
def nextShutterId (s : State) : Nat := if s.snap.lastId = 0xFFFF then 1 else s.snap.lastId + 1

/-- A shutter of source `code` of Table 17.2 on this module: ignored where the source is not enabled, counted where ARMED
is 0, else it latches every bank and clears ARMED. -/
def fireShutter (code : Nat) (id : Option Nat) (s : State) : State :=
  if !bitAt s.snap.sources (code - 1) then s
  else if !s.snap.armed then count cShutterMissed 1 s
  else
    let n := id.getD (nextShutterId s)
    { s with snap := { s.snap with
        lastId := n, lastSource := code, lastTick := s.tick.tickCount, lastTime := moduleTime s, armed := false
        latching := true, latchAt := s.now, image := some (latchImage n s), older := keptImages s } }

/-- A group or job shutter from this lead: its own banks, and the packet whose ID one incident shares (R511). -/
def fireGroup (code module_ : Nat) (s : State) : State :=
  if !bitAt s.snap.sources (code - 1) then s
  else
    let s1 := fireShutter code none s
    emit (.shutterPacket (pack [(16, s1.snap.lastId), (4, code), (10, module_)]) (sendDelays s1)) s1

/-! ## What a bank holds (Table 17.1) -/

/-- Bytes of a bank by kind; 0 for a kind that does not exist. -/
def bankBytesOf (kind : Nat) : Nat :=
  match kind with
  | 1 => 64
  | 2 => 1024
  | 3 => 512
  | 4 => 4048
  | 5 => 256
  | 6 => 4048
  | 7 => 4048
  | 8 => 4048
  | _ => 0

/-- How many indices a kind has. -/
def bankCount (kind : Nat) : Nat :=
  match kind with
  | 1 => 0xFFFF
  | 2 => 860160
  | 3 => 53760
  | 4 => 84
  | 5 => 1344
  | 6 => 32
  | 7 => 1
  | 8 => 1024
  | _ => 0

/-- The fabric that an image latched, as a state to look units up in. -/
def latchedFabric (i : SnapImage) : State := { State.reset with fabric := i.fabric }

/-- The field that a bank's block lies in, where it lies in one: a unit's bank lies in its anchor block. -/
def bankField (i : SnapImage) (kind index : Nat) : Option Nat :=
  match kind with
  | 1 => (anchorOf (latchedFabric i) index).map (· / 640)
  | 2 => some (index / 16 / 640)
  | 3 => some (index / 640)
  | 4 => some index
  | 5 => some (index / 16)
  | _ => none

def sbNumbers (e : SbEntry) : List Nat :=
  [e.count, e.target, match e.state with | .idle => 0 | .armed => 1 | .fired => 2]

/-- A core's values in the order of Table 17.1. -/
def coreNumbers (o : CoreS) : List Nat :=
  ((List.range 8).flatMap fun c =>
    let x := mapGet {} o.ctxs c
    [x.pc, match x.task with | some t => t.desc.tag | none => 0, b2n x.task.isSome, b2n x.stopped, b2n x.waiting]) ++
  ((List.range 64).flatMap fun e => sbNumbers (mapGet {} o.sb e)) ++
  [o.queue.length] ++ o.replay.map (fun e => e.task.desc.tag) ++ [o.nanMade, o.satCount, o.nanLost]

/-- Items and spent credits of the queues whose key passes a test, in key order. -/
def queueNumbers (i : SnapImage) (p : Nat → Bool) : List Nat :=
  (i.fabric.queues.filter fun e => p e.1).flatMap fun e => [e.2.items.length, e.2.spent]

/-- A router's values: what its queues hold and have spent, and its links. -/
def routerNumbers (i : SnapImage) (r : Nat) : List Nat :=
  queueNumbers i (fun k => (decide (k % 16 = 0) || decide (k % 16 = 7)) && decide (k / 320 = r)) ++
    (List.range 4).flatMap fun d => let l := mapGet {} i.fabric.links (4 * r + d); [l.errors.length, l.failRun, b2n l.retired]

/-- A lane's values: its receive queues' items, its transmit credits, the codewords that its replay may name, and the last
tick marker sent. -/
def laneNumbers (i : SnapImage) (c : Nat) : List Nat :=
  let l := mapGet {} i.beam.lanes c
  let m := mapGet {} i.stream.lanes c
  queueNumbers i (fun k => decide (k / 16 = c) && (decide (k % 16 = 8) || decide (k % 16 = 10) || decide (k % 16 = 11))) ++
    [l.spent, l.glintSpent, l.received, l.sentCount, l.kept.length, m.next, m.repeats.length, i.tick.tickCount]

/-- A unit's values, leaf or composite: its summary (R93), then its task port's state, the tasks that its anchor is
delivering with the copies still to enter a queue (R95). -/
def unitNumbers (i : SnapImage) (u : Nat) : List Nat :=
  let s := latchedFabric i
  [outstandingOf s u, b2n (doneOf s u), b2n (errorOf s u)] ++
    (i.fabric.spreads.filter fun p => decide (p.unit = u)).flatMap fun p => [b2n p.slack, p.left.length]

/-- The values of a bank in the order of Table 17.1. -/
def bankNumbers (i : SnapImage) (kind index : Nat) : List Nat :=
  match kind with
  | 1 => unitNumbers i index
  | 2 => coreNumbers (mapGet {} i.cores index)
  | 3 => routerNumbers i index
  | 4 =>
    let f := mapGet {} i.fabric.fields index
    [b2n f.controlRunning, b2n f.pllLocked, mapGet 15 i.stream.turns index] ++
      (i.beam.chunks.filter fun c => decide (c.field = index)).flatMap (fun c => [c.comm, c.dest, c.position]) ++
      i.beam.credits.map (·.2) ++ i.beam.combines.map (·.2.count)
  | 5 => laneNumbers i index
  | 6 =>
    (mapGet [] i.mem.cache index).flatMap (fun b => [b, (mapGet {} i.blocks b).count, blockStateCode (mapGet {} i.blocks b).state]) ++
      queueNumbers i (fun k => decide (k / 256 = index) && (decide (k % 16 = 5) || decide (k % 16 = 6))) ++
      [mapGet 0 i.mem.refreshes index]
  | 7 =>
    [i.tick.tickCount, i.tick.step, i.tick.slot, i.tick.epoch, i.tick.flags, i.roll] ++
      i.rings.flatMap (fun r => [r.2.head, r.2.tail]) ++ [i.ceiling, i.floor] ++ i.stretch
  | _ => []

/-- A page of the counters bank: 505 counters of 8 bytes behind the header, in index order. -/
def counterPage (i : SnapImage) (index : Nat) : List Byte :=
  (List.range 505).flatMap fun k => bytesLE 8 (mapGet 0 i.counters (505 * index + k))

/-- The image that a bank holds, and VALID (R506, Table 17.7).
Log entry 11 (DESIGN CHOICE). Log entry 48 (DESIGN CHOICE). -/
def bankImage (s : State) (kind index : Nat) : SnapImage × Bool :=
  match s.snap.image with
  | none => ({}, false)
  | some i =>
    match bankField i kind index with
    | none => (i, true)
    | some f =>
      match s.snap.older.find? fun e => decide (e.1 = f) with
      | some e => (e.2, false)
      | none => (i, decide ((mapGet {} i.fabric.fields f).state = .lit) || (decide (kind ≠ 1) && decide (kind ≠ 2)))

/-- Bytes of a bank, header first. -/
def bankRead (s : State) (kind index offset len : Nat) : List Byte :=
  let p := bankImage s kind index
  let head := bytesLE 8 (pack [(16, p.1.id), (1, b2n p.2), (7, 0), (8, kind), (32, index)])
  let body (n : Nat) : Byte :=
    if kind = 8 then (counterPage p.1 index).getD n 0#8
    else BitVec.ofNat 8 (Config.bankLayout kind (bankNumbers p.1 kind index) n)
  (List.range len).map fun k => if offset + k < 8 then head.getD (offset + k) 0#8 else body (offset + k - 8)

/-! ## The shutter's events -/

/-- SHUTTER_IN_EDGE: a rising edge that the filter passes; none while the input is stuck (Table 18.4). -/
def execShutterInEdge (t : Nat) (s : State) : Host.Outcome State Fault Refusal :=
  .next (whenReady (fun st =>
    fireShutter 2 none (pulseAt 5 (atTime t st))) s)

/-- FAULT_SHUTTER: a fault that sends a rollback request is detected here. Under scope GROUP the lead is asked to fire for
the group. -/
def execFaultShutter (t : Nat) (s : State) : Host.Outcome State Fault Refusal :=
  .next (whenReady (fun st =>
    let s0 := atTime t st
    if !bitAt s0.snap.sources 2 then s0
    else if !s0.snap.faultScopeGroup || !s0.job.configured then fireShutter 3 none s0
    else if isLead s0 then fireGroup 3 (selfIndex s0) s0
    else emit (.shutterRequest 3) (fireShutter 3 none s0)) s)

/-- SHUTTER_REQUEST at the lead: several within one tick fire once. -/
def execShutterRequest (t : Nat) (module_ : Fin 1024) (source : Fin 16) (s : State) : Host.Outcome State Fault Refusal :=
  .next (whenReady (fun st =>
    let s0 := atTime t st
    let tick := s0.tick.tickCount
    if !isLead s0 then s0
    else
      let again := s0.snap.requests.any fun r => decide (r.2 = tick)
      let s1 := { s0 with snap := { s0.snap with
        requests := (s0.snap.requests.filter fun r => decide (r.2 = tick)) ++ [(module_.val, tick)] } }
      if again then s1
      else
        let s2 := fireShutter 5 none s1
        emit (.shutterPacket (pack [(16, s2.snap.lastId), (4, source.val), (10, module_.val)]) (sendDelays s2)) s2) s)

/-- GLINT_SHUTTER: each module takes the packet's SHUTTER_ID; a group lead relays a job shutter. -/
def execGlintShutter (t : Nat) (payload : BitVec 64) (s : State) : Host.Outcome State Fault Refusal :=
  .next (whenReady (fun st =>
    let s0 := atTime t st
    let s1 := fireShutter 5 (some (field payload.toNat 0 16)) s0
    if isLead s1 && !isJobLead s1 && decide (field payload.toNat 20 10 / 64 ≠ s1.job.group) then
      emit (.shutterPacket payload.toNat (sendDelays s1)) s1
    else s1) s)

/-- BANK_LATCH_COMPLETE: 20 µs after the shutter instant; a REARM that came during the latch takes effect. -/
def execBankLatchComplete (t : Nat) (s : State) : Host.Outcome State Fault Refusal :=
  .next (whenReady (fun st =>
    let s0 := atTime t st
    if s0.snap.latching && decide (s0.snap.latchAt + 20000 ≤ s0.now) then
      { s0 with snap := { s0.snap with latching := false, armed := s0.snap.armed || s0.snap.rearmPending, rearmPending := false } }
    else s0) s)

/-- A write of 1 to SNAPSHOT.REARM. -/
def rearmOp (s : State) : State :=
  if s.snap.latching then { s with snap := { s.snap with rearmPending := true } }
  else { s with snap := { s.snap with armed := true } }

/-! ## Test access (R516, R517, Table 17.6) -/

/-- TAP_BYPASS: one bit through the bypass register. -/
def execTapBypass (tdi : Bool) (s : State) : Host.Outcome State Fault Refusal :=
  .next (whenPowered (fun st => { st with tap := { st.tap with instr := .bypass, bypassBit := tdi, driven := none } }) s)

/-- TAP_IDCODE: the version is 1 on A1 and 0 on A0. -/
def execTapIdcode (s : State) : Host.Outcome State Fault Refusal :=
  .next (whenPowered (fun st => { st with tap := { st.tap with
    instr := .idcode, driven := none
    data := if st.flash.stepping = 0xA0 then 0x0D7184B7 else 0x1D7184B7 } }) s)

/-- TAP_SAMPLE_PRELOAD: captures the boundary register. -/
def execTapSamplePreload (pins : BitVec 64) (s : State) : Host.Outcome State Fault Refusal :=
  .next (whenPowered (fun st => { st with tap := { st.tap with instr := .sample, boundary := pins.toNat, driven := none } }) s)

/-- TAP_EXTEST: drives the boundary register while RST_N is low, otherwise acts as BYPASS. -/
def execTapExtest (value : BitVec 64) (s : State) : Host.Outcome State Fault Refusal :=
  .next (whenPowered (fun st =>
    if bitAt st.pins.asserted 0 then
      { st with tap := { st.tap with instr := .extest, boundary := value.toNat, driven := some value.toNat } }
    else { st with tap := { st.tap with instr := .bypass, driven := none } }) s)

/-- TAP_SNAP_READ: 64 bits of the bank named; for an index that no bank has, what comes out is open. -/
def execTapSnapRead (kind index offset : BitVec 32) (s : State) : Host.Outcome State Fault Refusal :=
  .next (whenPowered (fun st =>
    let k := kind.toNat
    let ok := decide (index.toNat < bankCount k) && decide (offset.toNat + 8 ≤ bankBytesOf k) && !st.snap.latching
    let v := if ok then (ofBytesLE (bankRead st k index.toNat offset.toNat 8), st) else drawFree st
    { v.2 with tap := { v.2.tap with instr := .snapRead, driven := none, data := v.1 % 2 ^ 64 } }) s)

end Sys2Proof.Machine
end

