-- ==== Sys2Proof/Machine/Rollback.lean ====
section
/-! DEFINITION. Membership, beacons and rollback (chapter 16, R476 to R489, R497 to R502). -/

namespace Sys2Proof.Machine

/-! ## READY (R487) and the beacon (R477) -/

/-- Work due at the next step boundary, for which the module asks for a hold: retired blocks, a return to the primary
schedule, shades and returns of fields, a drained module's self-test. -/
def boundaryWork (s : State) : Bool :=
  !s.fabric.retireNext.isEmpty || s.place.returnDue || s.grp.drainHold ||
    s.power.fields.any fun e => e.2.shadeDue || e.2.returnDue

/-- Shadowed blocks still to be put back (R500). -/
def shadowPending (s : State) : Bool :=
  s.grp.rolling && s.red.shadowStep.any fun e => (shadowAt s e.1).isSome && tagUncommitted s e.1

/-- Owned blocks whose state is still to come from another owner (R498). -/
def ownerPending (s : State) : Bool := s.grp.rolling && (ownedBlocks s).any fun b => (blockS s b).repairWait

/-- Does a hold of the module's own stand that a host is to release (causes 5, 6, 7, 8 and 10 of Table 13.18)?
Log entry 57 (DEDUCED). -/
def ownHold (s : State) : Bool := s.job.holds.any fun c => decide (5 ≤ c) && decide (c ≤ 10) && decide (c ≠ 9)

/-- Is every repair of the module done, a returning field lit (R108), and nothing due at the boundary? -/
def readyNow (s : State) : Bool :=
  !ownHold s && !(s.fabric.fields.any fun e => e.2.returning) &&
  !s.fabric.rebuildPending && !s.place.replacing && !s.place.needLayout && !boundaryWork s && !shadowPending s &&
    !ownerPending s && decide (s.power.stopCause = 0)

/-- The step that the module works toward: the restarted one during a rollback, else the one after the step in hand. -/
def nextStep (s : State) : Nat := if s.grp.rolling then s.grp.rollTarget + 1 else s.tick.step + 1

/-- Is the training context's input of the next step complete (R272)? -/
def inputComplete (s : State) : Bool :=
  (openContexts s).all fun n =>
    let c := ctxOf s n
    decide (c.kind ≠ some .train) || (match c.ready with | some r => decide (nextStep s ≤ r) | none => false)

/-- This module's state as its lead keeps it. -/
def ownState (s : State) : MemberState := (memberS s (selfIndex s)).state

/-- The STATE byte of a beacon; JOIN is set by a module that is out of the group and has a layout set again (R484). -/
def beaconStateByte (s : State) : Nat :=
  let out := decide (ownState s = .excluded) || decide (ownState s = .lost)
  pack [(1, b2n (inputComplete s)), (1, b2n (readyNow s)), (1, b2n (decide (s.power.stopCause ≠ 0))),
        (1, b2n (decide (ownState s = .draining))), (1, b2n (out && s.place.inForce.isSome))]

/-- The hottest field in °C. -/
def tjMax (s : State) : Nat := s.power.fields.foldl (fun a e => max a e.2.tj.toNat) 0

/-- A group lead passes the job lead a summary of its group's beacons (R477). -/
def sendSummary (s : State) : State :=
  if !isLead s || isJobLead s then s
  else
    emit (.beaconSummary s.job.group ((List.range s.job.members).map fun m =>
      if m = s.job.member then (m, beaconStateByte s, outMask s)
      else
        let r := memberS s (64 * s.job.group + m)
        (m, r.beaconState, r.outMask))) s

/-- Send the beacon of the tick in hand. What change in draw the module wants (R449) is a free value within ±r × T; the
lead holds its own with the members'.
Log entry 71 (DESIGN CHOICE). -/
def sendBeacon (s : State) : State :=
  let d := drawFree s
  let r : Int := rampTick s
  let b : Beacon :=
    { member := s.job.member, group := s.job.group, tickCount := s.tick.tickCount, step := s.tick.step, roll := s.red.roll
      state := beaconStateByte s, rampReq := max (-r) (min r (toSigned 32 d.1)), outMask := outMask s, tjMax := tjMax s
      newFaults := s.grp.newFaults, lastFault := s.fault.head }
  let reqs := if isLead s then (d.2.power.requests.filter fun q => decide (q.1 ≠ b.member)) ++ [(b.member, b.rampReq)]
    else d.2.power.requests
  sendSummary <| emit (.beacon (encodeBeacon b)) { d.2 with
    grp := { d.2.grp with newFaults := 0, beaconSent := some s.tick.tickCount }, power := { d.2.power with requests := reqs } }

/-! ## Members (R478 to R484) -/

/-- The mask and the owner table to the group (R298, R479). -/
def sendMembership (s : State) : State :=
  let s1 := { s with grp := { s.grp with mask := activeMask s } }
  emit (.membership s1.grp.mask s1.grp.owners) s1

/-- A member returns to ACTIVE, its late-arrival count cleared (R482). -/
def endDrain (index : Nat) (s : State) : State :=
  let s1 := setMemberState index .active s
  setMember index { memberS s1 index with late := [], suspect := false, drainAt := none } s1

/-- A beacon at the lead, or at the job lead from another group's summary. -/
def takeBeacon (b : Beacon) (s : State) : State :=
  let i := 64 * b.group + b.member
  let m := memberS s i
  let out := decide (m.state = .excluded) || decide (m.state = .lost)
  let joins := bitAt b.state 4 && out && (m.joining || !bitAt m.beaconState 4)
  let m1 : MemberS := { m with
    beaconAt := some s.now, beaconState := b.state, outMask := b.outMask, ready := bitAt b.state 1 && decide (b.roll = s.red.roll)
    inputComplete := bitAt b.state 0, joining := joins, ramp := b.rampReq }
  let s1 := setMember i m1 s
  let s2 := if b.group = s.job.group then
      { s1 with power := { s1.power with requests := (s1.power.requests.filter fun r => decide (r.1 ≠ b.member)) ++ [(b.member, b.rampReq)] } }
    else s1
  if m.state = .draining && bitAt b.state 1 && bitAt b.state 3 then endDrain i s2 else s2

/-- LANTERN_BEACON. -/
def execLanternBeacon (t : Nat) (raw : BitVec 384) (s : State) : Host.Outcome State Fault Refusal :=
  .next (whenReady (fun st =>
    let s0 := atTime t st
    if !isLead s0 then s0
    else if !beaconCheckOk raw.toNat then count cBeaconBad 1 s0
    else
      let b := decodeBeacon raw.toNat
      if b.group = s0.job.group || isJobLead s0 then takeBeacon b s0 else s0) s)

/-- The first two ACTIVE members of a group with LEAD_SEL high: its new lead and standby lead (R23). -/
def leadPick (g straps : Nat) (s : State) : List Nat :=
  ((List.range s.job.members).filter fun m =>
    bitAt straps m && decide ((memberS s (64 * g + m)).state = .active)).take 2

/-- A silent member of another group at the job lead (R23). The group's own lead answers for its members; where the lead
falls silent its standby lead takes over (R20), and where no standby lead is left either the job lead names both anew, and
the job rolls back.
Log entry 99 (DEDUCED). -/
def otherGroupSilent (g m : Nat) (s : State) : State :=
  match s.grp.roles.find? fun e => decide (e.group = g) with
  | none => s
  | some e =>
    if decide (m ≠ e.lead) && decide (e.standby ≠ some m) then s
    else
      let s1 := setMemberState (64 * g + m) .lost s
      let rest := s1.grp.roles.filter fun x => decide (x.group ≠ g)
      let put (x : GroupRoles) (st : State) : State := { st with grp := { st.grp with roles := rest ++ [x] } }
      if m ≠ e.lead then put { e with standby := none } s1
      else match e.standby with
        | some k => put { e with lead := k, standby := none } s1
        | none =>
          match leadPick g e.straps s1 with
          | [] => requestRollback 1 s1
          | k :: ks => requestRollback 1 (emit (.groupRoles g k ks.head?) (put { e with lead := k, standby := ks.head? } s1))

/-- BEACON_SILENCE: the member is LOST, and a JOIN of its is dropped. -/
def execBeaconSilence (t : Nat) (group : GroupId) (member : MemberId) (s : State) : Host.Outcome State Fault Refusal :=
  .next (whenReady (fun st =>
    let s0 := atTime t st
    let i := 64 * group.val + member.val
    let m := memberS s0 i
    let due := match m.beaconAt with | some t0 => decide (t0 + silenceBound s0 ≤ s0.now) | none => true
    if !isLead s0 || !s0.job.started || !due || decide (i = selfIndex s0) || decide (s0.job.members ≤ member.val) then s0
    else if group.val ≠ s0.job.group then
      (if isJobLead s0 && decide (m.state = .active) then otherGroupSilent group.val member.val s0 else s0)
    else
      let s1 := setMember i { m with joining := false } s0
      if m.state = .active ∨ m.state = .draining then
        loseMember i (faultEvent { cls := 10, code := 3, detail := i } s1)
      else s1) s)

/-- MEMBER_DRAIN (R482): at the lead a suspect is set DRAINING in the hold; the member itself then owes the full
self-test before it is READY again. -/
def execMemberDrain (t : Nat) (member : MemberId) (s : State) : Host.Outcome State Fault Refusal :=
  .next (whenReady (fun st =>
    let s0 := atTime t st
    let i := 64 * s0.job.group + member.val
    let m := memberS s0 i
    let mine := decide (member.val = s0.job.member)
    if !s0.job.started || !s0.job.held || s0.grp.rolling || decide (m.state ≠ .active) then s0
    else if isLead s0 && !m.suspect then s0
    else if !isLead s0 && !mine then s0
    else
      let s1 := setMemberState i .draining s0
      let s2 := setMember i { memberS s1 i with drainAt := some s0.now } s1
      if mine then { s2 with grp := { s2.grp with drainHold := true } } else s2) s)

/-- DRAIN_TIMEOUT: not READY within 5 s. -/
def execDrainTimeout (t : Nat) (member : MemberId) (s : State) : Host.Outcome State Fault Refusal :=
  .next (whenReady (fun st =>
    let s0 := atTime t st
    let i := 64 * s0.job.group + member.val
    let m := memberS s0 i
    match m.drainAt with
    | some t0 =>
      if isLead s0 && decide (m.state = .draining) && decide (t0 + 5000000000 ≤ s0.now) then
        loseMember i (setMember i { m with drainAt := none } s0)
      else s0
    | none => s0) s)

/-- MEMBER_JOIN (R484): in a hold, with the job lead's GPE, the group's LAYOUT_ID and its lanes passing R339. One refused
on its GPE stays EXCLUDED, and a MEMBERSHIP event names it (R439).
Log entry 38 (DEDUCED). Log entry 76 (DEDUCED). -/
def execMemberJoin (member : MemberId) (gpe : BitVec 16) (layoutId : BitVec 64) (lanesOk : Bool) (s : State) :
    Host.Outcome State Fault Refusal :=
  .next (whenReady (fun st =>
    let i := 64 * st.job.group + member.val
    let m := memberS st i
    let out := decide (m.state = .excluded) || decide (m.state = .lost)
    if !isLead st || !st.job.started || !st.job.held || st.grp.rolling || !m.joining || !out then st
    else
      let s1 := setMember i { m with joining := false } st
      if gpe.toNat ≠ st.boot.gpe then
        memberEvent i (setMember i { memberS s1 i with state := .excluded } s1)
      else if lanesOk && decide ((st.place.inForce.map (·.layoutId)) = some layoutId.toNat) then
        let s2 := setMemberState i .active s1
        buildPeerRoutes (sendMembership (setMember i { memberS s2 i with late := [], suspect := false } s2))
      else s1) s)

/-! ## Owners that pass on (R497, R498, R501) -/

/-- The successor of a lost owner: in a job of one group its shadow owner, else the next ACTIVE member above it. -/
def successorOf (s : State) (m : Nat) : Option Nat :=
  if s.job.groups ≤ 1 then
    ((s.grp.shadows.find? fun e => decide (e.1 = m)).map (·.2)).bind fun k => if bitAt s.grp.mask k then some k else none
  else ((List.range s.job.members).map fun i => (m + 1 + i) % s.job.members).find? fun k =>
    decide (k ≠ m) && bitAt s.grp.mask k

/-- The tensors that a member of this group owns. -/
def tensorsOf (s : State) (m : Nat) : List Nat :=
  match s.place.inForce with
  | none => []
  | some i => (i.owners.map (·.1)).filter fun t => decide (ownerIn s t s.job.group = m)

/-- One past the last block of the module's own numbering. -/
def ownedEnd (s : State) : Nat := (ownedBlocks s).foldl (fun a b => max a (b + 1)) 0

/-- A moved tensor enters the successor's OWNER space, its blocks numbered after the module's own and homed over the
stripe set in rotation. The bank comes from SHADOW, else it is waited for from another group's owner. -/
def gainTensor (r : LayerRec) (s : State) : State :=
  let first := ownedEnd s
  let n := blocksOfLayer r
  let live := (mapGet {} s.red.shadowLayers r.tensor)
  let shadowed := decide (live.tensor = r.tensor) && !s.red.shadow.isEmpty
  let rec' := { (if shadowed then live else r) with firstBlock := first }
  let place := { s.place with inForce := s.place.inForce.map fun i =>
    { i with homes := i.homes ++ (List.range n).map fun k => (first + k, nth 0 s.mem.stripe ((first + k) % s.mem.stripe.length)) } }
  let s1 := { s with place := place, red := { s.red with layers := mapSet {} s.red.layers r.tensor rec' } }
  let s2 := each (List.range n) (fun k st =>
    let old := r.firstBlock + k
    let b := first + k
    if shadowed then
      let again := decide (mapGet 0 st.red.shadowStep old = (st.grp.rollTarget + 1) % 65536)
      reformDrift b (setCur b (mapGet {} st.red.shadow old)
        (setBlock b { carryOnce := if again then st.grp.rollTarget + 2 else 0 } st))
    else setBlock b { repairWait := true } st) s1
  forceRefresh r.tensor s2

/-- The records that the image lists of a tensor. -/
def recordsFor (s : State) (ts : List Nat) : List LayerRec :=
  match s.place.inForce with
  | none => []
  | some i => (layersOf i).filter fun r => ts.contains r.tensor

/-- The record of a block that passes from member `m` to `k`: after the blocks that CONTRIB_MAP lists of `k`, in the order of
`m`'s; this module, where it is the successor, has numbered them.
Log entry 129 (DESIGN CHOICE). -/
def movedRecord (s : State) (m k : Nat) (ts : List Nat) (all : List ContribRec) (r : ContribRec) : ContribRec :=
  if r.owner ≠ m ∨ !ts.contains r.tensor then r
  else
    let past := (all.filter fun x => decide (x.owner = k)).foldl (fun n x => max n (x.block + 1)) 0
    let rank := (all.filter fun x => decide (x.owner = m) && ts.contains x.tensor && decide (x.block < r.block)).length
    { r with owner := k, block := if k = s.job.member then (mapGet {} s.red.layers r.tensor).firstBlock + r.bn else past + rank }

/-- CONTRIB_MAP and the RACC tables name the successor (R497). -/
def moveContrib (m k : Nat) (ts : List Nat) (s : State) : State :=
  match s.place.inForce with
  | none => s
  | some i => rewriteContrib (movedRecord s m k ts i.contrib) s

/-- The owned tensors of a lost member pass to its successor; without one the owner state is lost, and the job holds.
Log entry 74 (DESIGN CHOICE). -/
def moveOwners (m : Nat) (s : State) : State :=
  let ts := tensorsOf s m
  if ts.isEmpty then s
  else match successorOf s m with
    | none => holdFor 9 s
    | some k =>
      let owners := ts.foldl (fun o t => mapSet 0 o (16 * t + s.job.group) (k + 1)) s.grp.owners
      let s1 := { s with grp := { s.grp with owners := owners } }
      if k ≠ s.job.member then moveContrib m k ts s1
      else
        let s2 := each (recordsFor s1 ts) gainTensor s1
        let s3 := if s2.job.groups ≤ 1 then
            { s2 with red := { s2.red with shadow := [], shadowStep := [], shadowLayers := [] }, grp := { s2.grp with shadowed := none } }
          else s2
        let s4 := moveContrib m k ts s3
        if carveShort s4 = 0 then s4 else holdFor 6 s4

/-- A shadow owner that is lost: its owner goes on unshadowed, and the lead names both (R502). -/
def dropShadow (m : Nat) (s : State) : State :=
  match s.grp.shadows.find? fun e => decide (e.2 = m) with
  | none => s
  | some e =>
    let s1 := { s with grp := { s.grp with
      shadows := s.grp.shadows.filter fun x => decide (x.2 ≠ m)
      shadowedBy := if s.grp.shadowedBy = some m then none else s.grp.shadowedBy } }
    if isLead s1 then memberEvent (64 * s1.job.group + e.1) (memberEvent (64 * s1.job.group + m) s1) else s1

/-- Members that a notice leaves out: their state where this module is no lead, their shadow duties and owners. -/
def applyMask (mask : Nat) (s : State) : State :=
  let gone := (List.range 64).filter fun m => bitAt s.grp.mask m && !bitAt mask m
  let s1 := { s with grp := { s.grp with mask := mask } }
  let note (m : Nat) (st : State) : State :=
    let i := 64 * st.job.group + m
    if isLead st || decide ((memberS st i).state ≠ .active) then st
    else setMember i { memberS st i with state := .lost } st
  let s2 := each gone note s1
  let out := gone.filter fun m => decide ((memberS s2 (64 * s2.job.group + m)).state ≠ .draining)
  each out moveOwners (each out dropShadow s2)

/-! ## The rollback (R485 to R488) -/

/-- The HELD cause of a rollback that holds after it.
Log entry 77 (DEDUCED). -/
def heldOfRollback (cause : Nat) : Nat := if cause = 7 then 2 else if cause = 8 then 3 else 9

/-- The current banks of shadowed blocks of uncommitted steps go back to the shadow owner (R500). -/
def restoreAtShadow (s : State) : State :=
  if s.grp.shadowedBy.isNone then s
  else
    let sentTotal (b : Nat) : Bool :=
      let o := blockS s b
      decide (s.red.committed < o.step) && decide (o.state ≠ .idle) && decide (o.state ≠ .open_)
    emitAll (((ownedBlocks s).filter sentTotal).map fun b => Msg.reconcileCopy b (curBank s b)) s

/-- Clear what a rollback clears beside cores and controllers: collectives, glint sequences, slot work, slips. -/
def rollbackRest (s : State) : State :=
  { s with
    beam := { s.beam with chunks := [], credits := [], positions := [], shards := [], combines := [], excluded := [], glintSeq := [] }
    tick := { s.tick with units := [], slipRun := 0 }
    lead := { s.lead with overruns := [], groupSlip := [], restartStep := true } }

/-- The schedule switch and re-placement that a rollback starts (R382, R383). -/
def rollbackPlacement (cause : Nat) (s : State) : State :=
  let s1 := if cause = 2 then { s with place := { s.place with degraded := true, returnDue := false } } else s
  match s1.place.inForce with
  | none => s1
  | some i => if i.outMask = outMask s1 then s1 else startReplacement s1

/-- What a notice does on a module (R486); the rollback shutter latches first (Table 17.7).
Log entry 23 (DESIGN CHOICE). Log entry 91 (DEDUCED). -/
def applyRollback (m : RollbackMsg) (st : State) : State :=
  let s := fireShutter 4 none st
  let s1 := if m.target = s.red.committed + 1 then applyCommit m.target none s else s
  let s2 := restoreAtShadow s1
  let s3 := predictUndo (rollbackRest (rollbackReduce (clearCores s2)))
  let s4 := stopStream true s3
  let s5 := { s4 with
    red := { s4.red with roll := m.roll, shadowBlocks := [] }
    job := { s4.job with held := true }
    grp := { s4.grp with rolling := true, rollTarget := m.target, rollCause := m.cause, rollSource := m.source
                         rollHold := m.holdAfter, rollAt := s4.now
                         members := s4.grp.members.foldl (fun a e => mapSet {} a e.1 { e.2 with ready := false }) [] }
    place := { s4.place with overrunReported := false } }
  let s6 := stepJournal 1 m.target m.cause m.source
    (count cRollbacks 1 (eventCtx 0xFF 0x8009 m.roll (bytesLE 5 m.target) (rerunServing s5)))
  let s7 := rollbackPlacement m.cause (applyMask m.members s6)
  if m.holdAfter && s7.job.holds.isEmpty then holdFor (heldOfRollback m.cause) s7 else s7

/-- ROLLBACK_NOTICE: of a new generation, for the last committed step or one whose commit is still to be applied. -/
def execRollbackNotice (t : Nat) (msg : RollbackMsg) (s : State) : Host.Outcome State Fault Refusal :=
  .next (whenReady (fun st =>
    let s0 := atTime t st
    if !s0.job.started || decide (msg.roll = s0.red.roll) || decide (msg.target < s0.red.committed) then s0
    else applyRollback msg s0) s)

/-- ROLLBACK_REQUEST: held at the job lead; a lead of another group passes it on. -/
def execRollbackRequest (t : Nat) (req : RollbackReq) (s : State) : Host.Outcome State Fault Refusal :=
  .next (whenReady (fun st =>
    let s0 := atTime t st
    if !s0.job.started || !isLead s0 then s0
    else if isJobLead s0 then { s0 with grp := { s0.grp with requests := s0.grp.requests ++ [(req, s0.now)] } }
    else emit (.rollbackRequest req.cause req.source) s0) s)

/-- The notice of the requests that are due: CAUSE names the first one held; one during a rollback keeps its TARGET. -/
def noticeOf (due : List RollbackReq) (s : State) : RollbackMsg :=
  let first := due.headD { cause := 12, source := selfIndex s }
  let hold := due.any fun r => decide (r.cause = 7) || decide (r.cause = 8)
  { target := s.red.committed, roll := (s.red.roll + 1) % 256, cause := first.cause, source := first.source
    holdAfter := hold || (s.grp.rolling && s.grp.rollHold) || s.job.holds.contains 9, members := activeMask s }

/-- The job lead starts the rollback of the requests that are due. A field that is out among them switches the schedule
whichever cause the notice names. -/
def startRollback (due : List RollbackReq) (s : State) : State :=
  let n := noticeOf due s
  let s1 := applyRollback n (emit (.rollbackNotice (encodeRollback n)) s)
  if due.any fun r => decide (r.cause = 2) then rollbackPlacement 2 s1 else s1

/-! ## SHADOW_TOTAL (R499) -/

def shadowBlock (s : State) (b : Nat) : BlockS := mapGet {} s.red.shadowBlocks b
def setShadowBlock (b : Nat) (o : BlockS) (s : State) : State :=
  { s with red := { s.red with shadowBlocks := mapSet {} s.red.shadowBlocks b o } }

/-- The words of a matrix-rule block that the shadow owner's own region computes: free values. -/
def freeBank (k : OwnerBlock) (s : State) : OwnerBlock × State :=
  let n := s.freeCtr
  ({ k with master := mapSetList 0 [] 0 ((List.range 4096).map fun i => freeValue (n + i) % 2 ^ 32) },
   { s with freeCtr := n + 4096 })

/-- The update of a shadowed block in place, its tag and the acknowledgement.
Log entry 75 (DESIGN CHOICE). -/
def shadowUpdate (b : Nat) (l0 : LayerRec) (bn : Nat) (s : State) : State :=
  let o := shadowBlock s b
  let cur := mapGet {} s.red.shadow b
  let p := paramsOf s o.step
  let f := if isMatrixRule l0 && !o.nonfinite then freeBank cur s else (cur, s)
  let inp : PipeIn := { l := l0, bn := bn, o := o, cur := cur, other := f.1, gs := fpMul false p.gscale p.clip
                        gscale := p.gscale, hold := s.red.pruneHold, seed := p.seed }
  let out := pipeBlock inp o.nonfinite false false
  let s1 := noteUpdated o.step l0.tensor (setShadowBlock b {} f.2)
  emit (.totalAck b) { s1 with red := { s1.red with
    shadow := mapSet {} s1.red.shadow b out.bank, shadowStep := mapSet 0 s1.red.shadowStep b (o.step % 65536) } }

/-- The block exponent of a total, which its header gives through NEXT_BEXP and MAXB by R303; where NEXT_BEXP stands at a
bound of R302 the header does not give it, and it is a free value.
Log entry 59 (DEDUCED). -/
def totalBexp (h : ContribHdr) (s : State) : Int × State :=
  let next := toSigned 16 h.ackAddr
  if h.maxb = 0 then (next, s)
  else if next = -149 ∨ next = 97 then
    let d := drawFree s
    (clampExp (toSigned 16 d.1), d.2)
  else (next - (h.maxb : Int) + 31 - (s.red.headroom : Int), s)

/-- A piece of a shadowed block's total: checked as R319 checks it. -/
def shadowPiece (h : ContribHdr) (p : PieceData) (l : LayerRec) (bn : Nat) (s : State) : State :=
  let b := h.block
  let o : BlockS := { shadowBlock s b with step := s.tick.step, train := 0 }
  if residue p.values ≠ h.res then
    let n := mapGet 0 o.totalFails h.piece + 1
    let s1 := count cResidueFail 1 (setShadowBlock b { o with totalFails := mapSet 0 o.totalFails h.piece n } s)
    if 3 ≤ n then reductionFault b 3 s1 else emit (.totalRerequest b h.piece) s1
  else
    let seen : List Nat := if o.totalPieces.contains h.piece then o.totalPieces else o.totalPieces ++ [h.piece]
    let e := totalBexp h s
    let s1 := setShadowBlock b { o with
      acc := mapSetList 0 o.acc (512 * h.piece) p.values, totalPieces := seen, bexp := e.1
      nextBexp := toSigned 16 h.ackAddr, nonfinite := o.nonfinite || h.nonfinite } e.2
    if seen.length < 8 then s1 else shadowUpdate b l bn s1

/-- SHADOW_TOTAL. -/
def execShadowTotal (piece : PieceData) (s : State) : Host.Outcome State Fault Refusal :=
  .next (whenReady (fun st =>
    let h := decodeContrib piece.header.toNat
    match shadowAt st h.block with
    | none => stale st
    | some (l, bn) =>
      if h.step ≠ st.tick.step % 65536 || h.roll ≠ st.red.roll || decide (h.mode ≠ 3) then stale st
      else shadowPiece h piece l bn (count cPieces 1 st)) s)

end Sys2Proof.Machine
end

