-- ==== Sys2Proof/Machine/Mirror.lean ====
section
/-! DEFINITION. The mirror check at the job lead (R491 to R496): digest lists, block digests, votes and recomputation. -/

namespace Sys2Proof.Machine

/-! ## Digest lists (R491, R492) -/

/-- Has every owner of every group sent its list? -/
def listsIn (s : State) : Bool :=
  (List.range s.job.groups).all fun g =>
    decide ((groupOwners s g).length ≤ (s.grp.digests.filter fun d => decide (d.1 = g)).length)

/-- The TCRC values that the lists give for a tensor. -/
def tcrcs (s : State) (tensor : Nat) : List Nat :=
  s.grp.digests.flatMap fun d => (d.2.filter fun e => decide (e.tensor = tensor)).map (·.tcrc)

/-- The tensors of the lists, without repeats. -/
def listedTensors (s : State) : List Nat :=
  (s.grp.digests.flatMap fun d => d.2.map (·.tensor)).foldl (fun l t => if l.contains t then l else l ++ [t]) []

/-- Do the values of a list differ? -/
def differs (l : List Nat) : Bool := match l with | [] => false | x :: rest => rest.any fun y => decide (y ≠ x)

/-- Every list is in: the block digests of the tensors whose TCRC values differ are asked for; without one the check is
complete. -/
def compareLists (s : State) : State :=
  let bad := (listedTensors s).filter fun t => differs (tcrcs s t)
  settleMirror (emitAll (bad.map Msg.digestRequest) { s with grp := { s.grp with disputed := bad } })

/-- DIGEST_LIST: one owner's list; the job lead's own comes the same way. -/
def execDigestList (group : GroupId) (entries : List DigestEntry) (s : State) : Host.Outcome State Fault Refusal :=
  .next (whenReady (fun st =>
    if !isJobLead st || !st.job.started || decide (st.job.groups ≤ 1) || st.red.mirrorDone then st
    else
      let s1 := { st with grp := { st.grp with digests := st.grp.digests ++ [(group.val, entries)] } }
      if listsIn s1 then compareLists s1 else s1) s)

/-! ## Block digests (R492 to R494) -/

/-- |a − b| within 2^27 once the projection of the smaller exponent is shifted (R492). -/
def projClose (a b : MirDigest) : Bool :=
  let p : Int := if a.maxe < b.maxe then a.proj / (2 ^ (b.maxe - a.maxe) : Nat) else a.proj
  let q : Int := if b.maxe < a.maxe then b.proj / (2 ^ (a.maxe - b.maxe) : Nat) else b.proj
  decide ((p - q).natAbs ≤ 2 ^ 27)

/-- Are two replicas of a block equal or within tolerance (R492)? -/
def agree (rule : Nat) (a b : MirDigest) : Bool :=
  decide (a.crc = b.crc) ||
    ((decide (rule = 4) || decide (rule = 5)) && !a.nan && !b.nan && decide (a.maxe ≤ b.maxe + 1) &&
      decide (b.maxe ≤ a.maxe + 1) && projClose a b)

/-- The replicas of one block: group and digest. -/
abbrev Replicas := List (Nat × MirDigest)

/-- The replicas that list a block. -/
def replicasOf (rs : List (Nat × List (Nat × MirDigest))) (b : Nat) : Replicas :=
  rs.filterMap fun r => (r.2.find? fun e => decide (e.1 = b)).map fun e => (r.1, e.2)

/-- The groups that agree with a replica, itself included. -/
def agreeing (rule : Nat) (rs : Replicas) (d : MirDigest) : List Nat :=
  (rs.filter fun e => agree rule d e.2).map (·.1)

/-- The majority replica: of the lowest group that agrees with more than half of all replicas (R494). -/
def majority (rule : Nat) (rs : Replicas) : Option (Nat × MirDigest) :=
  rs.foldl (fun best e =>
    if rs.length < 2 * (agreeing rule rs e.2).length then
      (match best with
       | none => some e
       | some x => if e.1 < x.1 then some e else best)
    else best) none

/-- A member in the minority: the third time within 1,000 steps it is a suspect (R483). -/
def noteMinority (index : Nat) (s : State) : State :=
  let m := memberS s index
  let step := s.red.committed + 1
  if m.minority.contains step then s
  else
    let near := (m.minority.filter fun k => decide (step < k + 1000)) ++ [step]
    setMember index { m with minority := near, suspect := m.suspect || decide (3 ≤ near.length) } s

/-- A replica is to be overwritten by another group's: the copy into its other bank (R494). -/
def repairFrom (block from_ to_ : Nat) (s : State) : State :=
  let s1 := emit (.repairCopy block from_ to_) s
  if to_ = s.job.group ∧ (layerAt s block).isSome then setBlock block { blockS s1 block with repairWait := true } s1 else s1

/-- The owner of a tensor in a group, as a module index. -/
def ownerIndex (s : State) (tensor g : Nat) : Nat := 64 * g + ownerIn s tensor g

/-- A block repaired, the commit to be followed by the rollback to it (R494). -/
def noteRepair (tensor : Nat) (s : State) : State :=
  let s1 := forceRefresh tensor (count cMirRepairs 1 s)
  { s1 with grp := { s1.grp with repaired := s1.grp.repaired + 1, mirrorRollback := true } }

/-- A check that no replica wins rolls the job back to the last committed step: the block stays unsettled, so that the
step does not commit before. -/
def noWinner (block : Nat) (s : State) : State :=
  let s1 := { s with grp := { s.grp with verdicts := s.grp.verdicts ++ [(block, true)] } }
  requestRollback 10 (count cMirRollbacks 1 s1)

/-- A block whose replicas are within tolerance is marked at every owner (R493). -/
def markBlock (block : Nat) (s : State) : State :=
  let s1 := { s with grp := { s.grp with marked := s.grp.marked + 1 } }
  if (layerAt s1 block).isSome then setBlock block { blockS s1 block with mark := true } s1 else s1

/-- A block beyond tolerance: a vote of three or more live owners, a recomputation in a job of two groups. -/
def disputeBlock (tensor rule block : Nat) (rs : Replicas) (s : State) : State :=
  if s.job.groups = 2 then
    emit (.recompute block) { s with grp := { s.grp with verdicts := s.grp.verdicts ++ [(block, false)] } }
  else match majority rule rs with
  | none => noWinner block s
  | some w =>
    let wrong := rs.filter fun e => !agree rule w.2 e.2
    noteRepair tensor (each wrong (fun e st => noteMinority (ownerIndex st tensor e.1) (repairFrom block w.1 e.1 st)) s)

/-- One block of a disputed tensor. -/
def classifyBlock (tensor rule : Nat) (reps : List (Nat × List (Nat × MirDigest))) (block : Nat) (s : State) : State :=
  let rs := replicasOf reps block
  if !differs (rs.map (·.2.crc)) then s
  else if rs.all fun a => rs.all fun b => agree rule a.2 b.2 then markBlock block s
  else disputeBlock tensor rule block rs s

/-- The blocks that replicas list, without repeats. -/
def listedBlocks (reps : List (Nat × List (Nat × MirDigest))) : List Nat :=
  (reps.flatMap fun r => r.2.map (·.1)).foldl (fun l b => if l.contains b then l else l ++ [b]) []

/-- The block digests of a disputed tensor at the job lead. -/
def takeBlockDigests (tensor rule : Nat) (reps : List (Nat × List (Nat × MirDigest))) (s : State) : State :=
  if !isJobLead s || !s.grp.disputed.contains tensor then s
  else
    let blocks := listedBlocks reps
    let within (b : Nat) : Bool :=
      let rs := replicasOf reps b
      differs (rs.map (·.2.crc)) && rs.all fun x => rs.all fun y => agree rule x.2 y.2
    let marks := blocks.filter within
    let s1 := { s with grp := { s.grp with disputed := s.grp.disputed.filter fun x => decide (x ≠ tensor) } }
    let s2 := if marks.isEmpty then s1 else emit (.markBlocks marks) s1
    settleMirror (each blocks (classifyBlock tensor rule reps) s2)

/-- BLOCK_DIGESTS. -/
def execBlockDigests (tensor : BitVec 32) (rule : Fin 8) (replicas : List (Nat × List (Nat × MirDigest))) (s : State) :
    Host.Outcome State Fault Refusal :=
  .next (whenReady (takeBlockDigests tensor.toNat rule.val replicas) s)

/-! ## Recomputation (R495) -/

/-- The tensor of a block number in the image in force. -/
def tensorOfBlock (s : State) (block : Nat) : Nat :=
  match s.place.inForce with
  | none => 0
  | some i => match layerIn (layersOf i) block with | some (l, _) => l.tensor | none => 0

/-- What this owner's own recomputation of a block by an element rule finds: its digest from the current bank and the kept
total against that of the new master; `none` where the module has no such block. The pipe's check mode writes nothing. -/
def ownMatch (block : Nat) (s : State) : Option Bool :=
  match layerAt s block with
  | none => none
  | some (l, bn) =>
    let step := s.red.committed + 1
    let o := mapGet {} s.grp.totalKeep (2 * block + step % 2)
    if isMatrixRule l || decide (o.step ≠ step) then none
    else
      let s1 := setBlock block o s
      let p := pipeInput s1 block l bn
      let out := pipeBlock p o.nonfinite (!o.home && decide (p.l.cls = 1)) (o.home && decide (p.l.cls = 1))
      some (decide (out.digest = mapGet noDigest s.grp.mirror block))

/-- A recomputation ends: one match wins; with none, or both, the job rolls back, and both take the lower group's current
bank. -/
def recomputed (block : Nat) (low high : Bool) (s : State) : State :=
  let s1 := { s with grp := { s.grp with verdicts := s.grp.verdicts.filter fun v => decide (v.1 ≠ block) } }
  let t := tensorOfBlock s block
  match low, high with
  | true, false => settleMirror (noteRepair t (repairFrom block 0 1 s1))
  | false, true => settleMirror (noteRepair t (repairFrom block 1 0 s1))
  | true, true => noWinner block (emit (.repairCopy block 0 1) s1)
  | false, false => noWinner block s1

/-- RECOMPUTE_DONE: what the owners found, but for a block of the module's own, which it finds itself.
Log entry 58 (DESIGN CHOICE). -/
def execRecomputeDone (block : BitVec 32) (lowMatches highMatches : Bool) (s : State) :
    Host.Outcome State Fault Refusal :=
  .next (whenReady (fun st =>
    if isJobLead st && (st.grp.verdicts.any fun v => decide (v = (block.toNat, false))) then
      let mine := ownMatch block.toNat st
      let low := if st.job.group = 0 then mine.getD lowMatches else lowMatches
      let high := if st.job.group = 0 then highMatches else mine.getD highMatches
      recomputed block.toNat low high st
    else st) s)

end Sys2Proof.Machine
end

