-- ==== Sys2Proof/Machine/Start.lean ====
section
/-! DEFINITION. What the start of a job leaves on a module (JOB_START, Table 13.9): the job's fields, counters and roles
at their first values, the carve's stripe set, and the routes to the job's modules. -/

namespace Sys2Proof.Machine

/-- What a member's entry keeps over a start of the job: its halt request. -/
def keepHalts (ms : Map MemberS) : Map MemberS :=
  ms.foldl (fun m e => mapSet {} m e.1 { halt := e.2.halt }) []

/-- May a stack serve: a port reaches it and its shoulder is powered? -/
def stackServes (s : State) (m : Nat) : Bool := stackReachable s m && !bitAt s.power.shoulderProt (m / 8)

/-- The SYSTEM bytes of a rejoining stack are again those of the other of its pair (R255). -/
def copySystem (m : Nat) (s : State) : State :=
  let o := (m + 16) % 32
  let top := nth 0 (regionShares s) 0
  let mine (a : Nat) (_ : Byte) : Bool := decide (a / 2 ^ 36 = o) && decide (uncarvedAddr s (a % 2 ^ 36) < top)
  let cells := mapFilter mine s.mem.bytes
  let units := cells.foldl (fun l e => if l.contains (e.1 % 2 ^ 36 / 64) then l else l ++ [e.1 % 2 ^ 36 / 64]) []
  each units (sealUnit m) (each cells (fun e st => setMemByte m (e.1 % 2 ^ 36) e.2 st) s)

/-- Stacks that can serve again rejoin the stripe set (R258, R469).
Log entry 37 (DESIGN CHOICE). -/
def rejoinStacks (s : State) : State :=
  let gone := s.mem.lost ++ s.mem.lostNext
  let back := gone.filter (stackServes s)
  let lost := gone.filter fun m => !stackServes s m
  let s1 := { s with mem := { s.mem with
    stripe := (List.range 32).filter fun m => s.mem.stripe.contains m && !lost.contains m || back.contains m
    lost := lost, lostNext := []
    unmirrored := (List.range 16).filter fun p => lost.contains p || lost.contains (p + 16) } }
  refreshSize (each (back.filter fun m => !lost.contains ((m + 16) % 32)) copySystem s1)

/-- STREAM_LANES takes the job's split (R212). -/
def takeSplit (s : State) : State := putSize { s.fabric.size with streamLanes := s.job.split } s

/-- The tick, the stream and the rings of commands at their first values. INITIAL_EPOCH takes effect on the first tick
(R30, R38). -/
def startStream (s : State) : State :=
  { s with
    tick := { period := s.tick.period, grace := s.tick.grace, policy := s.tick.policy, source := s.tick.source
              tickOut := s.tick.tickOut }
    lead := {}
    stream := { windowGib := s.stream.windowGib, slotBytes := s.stream.slotBytes, repeatLimit := s.stream.repeatLimit
                dualLimit := s.stream.dualLimit, ranks := rankedLanes s, activeLanes := (rankedLanes s).length
                discard := true, pending := some s.job.initialEpoch }
    host := { s.host with ruleWrites := [] }
    power := { s.power with groupRampInUse := s.power.groupRamp, allocs := [], requests := [], violStep := none } }

/-- The first step of a job has no previous pattern (R186). -/
def freshCodes (m : Map OwnerBlock) : Map OwnerBlock :=
  m.foldl (fun m e => mapSet {} m e.1 { e.2 with codesValid := false }) []

/-- The reduction's first values; what a module owns, and what it shadows, stays. The current banks are bank A's
(R258). -/
def startReduce (s : State) : State :=
  let r := s.red
  let shadowLayers : Map LayerRec := (shadowRecords s).foldl (fun m l => mapSet {} m l.tensor l) []
  { s with mem := { s.mem with ownerCur := false, landLanes := (rankedLanes s).length, waitingWrites := [] }
           red := { r with
      bankA := freshCodes (if s.mem.ownerCur then r.bankB else r.bankA)
      bankB := freshCodes (if s.mem.ownerCur then r.bankA else r.bankB)
      clipFactor := 0x3F800000, roll := 0, shadowStep := [], shadowBlocks := [], shadowLayers := shadowLayers, held := []
      refreshForced := [], params := [], reports := [], groupReported := [], reported := 0, mirrorDone := false
      committed := 0, nonfiniteRun := 0, nonfiniteStep := 0, nonfiniteTensor := none, churnStep := [], churnOld := [], updatedIn := []
      groupNorm := 0, groupBad := none, deferA := [], deferB := [] } }

/-- The group's first values: every member ACTIVE, tensors with the owners of the layout (R298, R479). -/
def startGroup (facts : AdmissionFacts) (s : State) : State :=
  { s with
    grp := { members := keepHalts s.grp.members, mask := 2 ^ s.job.members - 1, suspectWindow := s.grp.suspectWindow
             suspectPct := s.grp.suspectPct, reconcileSteps := s.grp.reconcileNext.getD s.grp.reconcileSteps
             shadowed := s.grp.shadowed
             roles := facts.roles, shadowedBy := (facts.shadows.find? fun e => decide (e.1 = s.job.member)).map (·.2), shadows := facts.shadows
             newFaults := s.grp.newFaults }
    beam := { s.beam with far := facts.peerChannels, routes := [], chunks := [], credits := [], positions := [], shards := []
                          combines := [], excluded := [], paused := [], glintSeq := [] }
    place := { s.place with degraded := false, returnDue := false, overrunReported := false } }

/-- A job starts on this module. Where HALT_N is asserted on it, its halt request goes to the job lead (R527).
Log entry 36 (DESIGN CHOICE). -/
def startJob (facts : AdmissionFacts) (s : State) : State :=
  let s0 := dropMoves (takeSplit (rejoinStacks s))
  let s1 := startGroup facts (startReduce (startStream s0))
  let s2 := setCounter cSlip 0 { s1 with job := { s1.job with
    started := true, ending := false, holds := [], held := false, pauseFor := [], haltPause := false, hostPause := false
    starveReported := false, passRunning := false } }
  let s3 := buildPeerRoutes s2
  if bitAt s3.pins.asserted 3 && !isJobLead s3 then
    emit (.halt (selfIndex s3) false) { s3 with pins := { s3.pins with haltSent := true } }
  else s3

end Sys2Proof.Machine
end

