-- ==== Sys2Proof/Machine/Tick.lean ====
section
/-! DEFINITION. The stream tick (chapters 01 and 02): what the job lead issues, what a module does on receipt, slot work
held and timed, missed ticks, and the roles of lead and standby lead. -/

namespace Sys2Proof.Machine

/-! ## Commands that wait for a tick -/

def isJobStart (b : CmdBody) : Bool := match b with | .jobStart _ => true | _ => false
def isJobPause (b : CmdBody) : Bool := match b with | .jobPause => true | _ => false
def isJobResume (b : CmdBody) : Bool := match b with | .jobResume => true | _ => false
def isJobEnd (b : CmdBody) : Bool := match b with | .jobEnd => true | _ => false
/-- ROLLBACK, EXCLUDE and NAME_LEAD end at the restart. -/
def isRollbackCmd (b : CmdBody) : Bool :=
  match b with | .rollback => true | .exclude _ => true | .nameLead _ _ _ => true | _ => false

/-! ## Fields that apply at a step boundary (R301, R322, R448, Table 19.2) -/

/-- Change the live layer records of a tensor, or of all. -/
def ruleLayers (tensor : Nat) (f : LayerRec → LayerRec) (s : State) : State :=
  let go (e : Nat × LayerRec) : Nat × LayerRec := if tensor = 0xFFFFFFFF ∨ e.1 = tensor then (e.1, f e.2) else e
  { s with red := { s.red with layers := s.red.layers.map go, shadowLayers := s.red.shadowLayers.map go } }

/-- One SET_RULE, or write of a step-boundary UPDATE field. -/
def applyRule (w : Nat × RuleField × Nat) (s : State) : State :=
  match w.2.1 with
  | .lr => ruleLayers w.1 (fun r => { r with lr := w.2.2 }) s
  | .wd => ruleLayers w.1 (fun r => { r with wd := w.2.2 }) s
  | .maskChurn => ruleLayers w.1 (fun r => { r with churnLimit := w.2.2 }) s
  | .gscale => { s with red := { s.red with gscale := w.2.2 } }
  | .clipNorm => { s with red := { s.red with clipNorm := w.2.2 } }
  | .refreshSteps => { s with red := { s.red with refreshSteps := clamp 1 64 w.2.2 } }

/-- The writes that waited for the boundary take effect. -/
def applyStepFields (s : State) : State :=
  let s1 := each s.host.ruleWrites applyRule { s with host := { s.host with ruleWrites := [] } }
  { s1 with
    power := { s1.power with
      ramp := s1.power.rampNext.getD s1.power.ramp, rampNext := none
      groupRamp := s1.power.groupRampNext.getD s1.power.groupRamp, groupRampNext := none
      groupRampInUse := s1.power.groupRampNext.getD s1.power.groupRamp }
    grp := { s1.grp with reconcileSteps := s1.grp.reconcileNext.getD s1.grp.reconcileSteps, reconcileNext := none } }

/-! ## Positions (R38, R376) -/

/-- The last SLOT of a step under the schedule in force; a dual pass may be longer. -/
def lastSlotOf (s : State) : Nat :=
  match scheduleOf s with
  | none => 0
  | some c => if s.stream.dual then max c.lastSlot (c.dualStream.length - 1) else c.lastSlot

/-- Does a pass begin on the first tick of a slot? -/
def isPassStart (s : State) (slot : Nat) : Bool :=
  match scheduleOf s with
  | none => false
  | some c => c.passStarts.contains slot

/-! ## Pauses (R56, R320, R527) -/

/-- The pauses due put their causes in force; the weight servers stop at once where the step in hand has committed. Those
that meet a rollback wait for the restarted step (Table 18.7). -/
def enterPauses (s : State) : State :=
  if s.job.pauseFor.isEmpty || s.grp.rolling then s
  else
    let s1 := { s with job := { s.job with pauseFor := [], held := true } }
    let s2 := each s.job.pauseFor (fun c st => if st.job.holds.contains c then st else holdFor c st) s1
    let s3 := if pausedAfter s2.red.committed s2 && !s2.stream.stop then stopStream false s2 else s2
    finish isJobPause 0 0 [] s3

/-- A pause of cause 1 is to follow the step in hand.
Log entry 46 (DEDUCED). -/
def askPause (s : State) : State :=
  if s.job.pauseFor.contains 1 || s.job.holds.contains 1 then s
  else { s with job := { s.job with pauseFor := s.job.pauseFor ++ [1] } }

def cmdHdrNone : CmdHdr := { origin := .distributed, ctx := 0xFF#8, seq := 0#32, quiet := true, fence := false }

/-- Is HALT_N asserted on any module that sent a halt request, or on this one? -/
def haltAsked (s : State) : Bool := bitAt s.pins.asserted 3 || s.grp.members.any fun e => e.2.halt

/-! ## What the job lead issues (R24, R35 to R41, R50 to R56) -/

/-- HALT_N asks for a pause at the job lead, which passes it on as it does JOB_PAUSE (R527).
Log entry 67 (DEDUCED). -/
def askHalt (s : State) : State :=
  if s.job.haltPause then s
  else
    let s1 := { s with job := { s.job with haltPause := true } }
    if s1.job.pauseFor.contains 1 || s1.job.holds.contains 1 then s1 else askPause (emit (.distribute cmdHdrNone .jobPause) s1)

/-- Once no module asks for a halt any more, the pause ends that neither a host nor the slip policy asked for; a step that
it has not held yet goes on (R527, Table 18.7). -/
def dropHalt (s : State) : State :=
  if haltAsked s || !s.job.haltPause then s
  else
    let s1 := { s with job := { s.job with haltPause := false } }
    if s1.job.hostPause then s1
    else emit (.distribute cmdHdrNone .jobResume) { s1 with job := { s1.job with
      pauseFor := s1.job.pauseFor.filter fun c => decide (c ≠ 1), holds := s1.job.holds.filter fun c => decide (c ≠ 1) } }

/-- Does an overrun report stand that came at least 2 µs ago (R51), or a slip that a group lead forwarded (R52)? -/
def slipDue (s : State) : Bool :=
  (s.lead.overruns.any fun o => decide (o.at_ + 2000 ≤ s.now)) || !s.lead.groupSlip.isEmpty

/-- The reports that are due count, and their members enter the late-arrival statistics (R53). -/
def takeSlip (s : State) : State :=
  let due := s.lead.overruns.filter fun o => decide (o.at_ + 2000 ≤ s.now)
  count cSlip 1 { s with lead := { s.lead with
    overruns := s.lead.overruns.filter fun o => !decide (o.at_ + 2000 ≤ s.now)
    groupSlip := []
    graceLate := s.lead.graceLate ++ due.map (·.member) } }

/-- On a held tick slip rules do not apply: the reports go. -/
def dropSlips (s : State) : State := { s with lead := { s.lead with overruns := [], groupSlip := [] } }

/-- The slip policy at a multiple of three slips (R56). -/
def slipPolicy (s : State) : State :=
  if s.tick.slipRun % 3 ≠ 0 then s
  else
    let s1 := event 0x8003 s.tick.slipRun s
    if s.tick.policy = .cont then s1
    else emit (.distribute cmdHdrNone .jobPause) (askPause { s1 with job := { s1.job with hostPause := true } })

/-- The tick message that follows the last one at the same place, unslipped and held by nothing. -/
def nextMsg (ext fly : Bool) (s : State) : TickMsg :=
  match s.lead.issued with
  | none => { tickCount := 0, step := 0, slot := 0, epoch := 0, slip := false, passBoundary := false
              stepBoundary := false, hold := false, external := ext, flywheel := fly, group := 0 }
  | some m => { m with tickCount := m.tickCount + 1, slip := false, passBoundary := false, stepBoundary := false
                       hold := false, external := ext, flywheel := fly, group := 0 }

/-- The lead's state as the standby lead is to know it (R19). -/
def leadNews (s : State) : LeadNews :=
  { late := (groupMembers s).map fun m => (m, (memberS s (64 * s.job.group + m)).late)
    graceLate := s.lead.graceLate, grants := grantsOf (groupTick s) s.power.requests
    rolling := s.grp.rolling, rollTarget := s.grp.rollTarget }

/-- A lead sends its state to the standby lead, where there is one (R19). -/
def sendLeadState (s : State) : State := if s.job.standbyMember.isSome then emit (.leadState (leadNews s)) s else s

/-- TICK_OUT pulses (R65). -/
def pulseOut (s : State) : State := { s with tick := { s.tick with tickOut := s.tick.tickOut + 1 } }

/-- Send a tick: to the group and the group leads, with TICK_OUT (R65) and the lead's state to the standby lead. -/
def sendTick (m : TickMsg) (s : State) : State :=
  let period := periodNs s
  let s1 := { s with lead := { s.lead with
    issued := some m, issuedAt := s.now, expected := (if m.flywheel then s.lead.expected else s.now) + period
    flyRun := if m.flywheel then s.lead.flyRun + 1 else 0 } }
  sendLeadState (emit (.tick (encodeTick m) (sendDelays s1)) (pulseOut s1))

/-- A held tick. -/
def sendHold (m : TickMsg) (s : State) : State := sendTick { m with hold := true } (dropSlips s)

/-- The epoch that a tick with PASS_BOUNDARY carries (R40, R242, R555). -/
def nextEpoch (s : State) (cur : Nat) : Nat := if s.stream.withdraw then 0 else s.stream.pending.getD cur

/-- The input of the next step is complete at every ACTIVE member (R272). -/
def inputsIn (s : State) : Bool :=
  !hasTraining s || (inputComplete s && s.grp.members.all fun e =>
    decide (e.1 = selfIndex s) || decide (e.2.state ≠ .active) || e.2.inputComplete)

/-- Is every ACTIVE module of the job READY (R487)? -/
def allReady (s : State) : Bool :=
  readyNow s && (jobModules s).all fun i =>
    decide (i = selfIndex s) || decide ((memberS s i).state ≠ .active) || (memberS s i).ready

/-- Is a drain or a return of a member to be worked off at this boundary (R482, R484)? -/
def memberWork (s : State) : Bool :=
  s.grp.members.any fun e =>
    decide (e.2.state = .draining) || (decide (e.2.state = .active) && e.2.suspect) ||
      (e.2.joining && (decide (e.2.state = .excluded) || decide (e.2.state = .lost)))

/-- Does a training job wait for an epoch (R555)? -/
def epochShut (s : State) (cur : Nat) : Bool := hasTraining s && decide (nextEpoch s cur = 0)

/-- What holds the job at the boundary before step `step` (R41, R272, R476, R482, R484, R487). -/
def gated (s : State) (step cur : Nat) : Bool :=
  !s.job.holds.isEmpty || decide (s.red.committed + 2 < step) || memberWork s || !allReady s || !inputsIn s ||
    epochShut s cur

/-- A hold for want of input or of an epoch is reported once (R272, R555). -/
def reportStarved (cur : Nat) (s : State) : State :=
  if s.job.starveReported || (inputsIn s && !epochShut s cur) then s
  else
    let ctx := ((openContexts s).find? fun n => decide ((ctxOf s n).kind = some .train)).getD 0xFF
    eventCtx ctx 0x8006 ctx [] { s with job := { s.job with starveReported := true } }

/-- A rollback that has overrun its 40 ms and 3 s is reported once (R489). -/
def reportOverrun (s : State) : State :=
  if s.grp.rolling && !s.place.overrunReported && decide (s.grp.rollAt + 3040000000 ≤ s.now) then
    faultEvent { cls := 10, code := s.grp.rollCause, detail := s.grp.rollSource }
      { s with place := { s.place with overrunReported := true } }
  else s

/-- The tick at a step boundary: held, or the first of the next step. -/
def boundaryTick (m : TickMsg) (s : State) : State :=
  let s1 := enterPauses s
  let step := if s1.lead.restartStep then s1.red.committed + 1 else m.step + 1
  if gated s1 step m.epoch then
    let s2 := reportOverrun (reportStarved m.epoch s1)
    let shut := hasTraining s2 && s2.stream.withdraw
    sendHold { m with passBoundary := shut, epoch := if shut then 0 else m.epoch } s2
  else
    sendTick { m with step := step, slot := 0, stepBoundary := true, passBoundary := true, epoch := nextEpoch s1 m.epoch }
      { s1 with lead := { s1.lead with restartStep := false }
                tick := { s1.tick with slipRun := 0 }
                job := { s1.job with starveReported := false } }

/-- The first tick of a job carries STEP 1; one that HALT_N holds is held, and step 1 begins after it (R38, R527).
Log entry 49 (DEDUCED). Log entry 53 (DEDUCED). -/
def firstTick (m : TickMsg) (s : State) : State :=
  let s1 := finish isJobStart 0 0 [] s
  if haltAsked s1 then
    sendHold { m with step := 1 } (enterPauses (askHalt { s1 with lead := { s1.lead with restartStep := true } }))
  else sendTick { m with step := 1, stepBoundary := true, passBoundary := true, epoch := nextEpoch s1 0 } s1

/-- A slipped tick keeps its place (R51, R53). -/
def slipTick (m : TickMsg) (s : State) : State :=
  let s1 := takeSlip s
  let s2 := slipPolicy { s1 with tick := { s1.tick with slipRun := s1.tick.slipRun + 1 } }
  sendTick { m with slip := true } s2

/-- A tick inside a step. -/
def slotTick (m : TickMsg) (s : State) : State :=
  let slot := m.slot + 1
  let pass := isPassStart s slot
  let epoch := if pass && !hasTraining s then nextEpoch s m.epoch else m.epoch
  sendTick { m with slot := slot, passBoundary := pass, epoch := epoch } { s with tick := { s.tick with slipRun := 0 } }

/-- The tick that carries HOLD and the rollback notice of the requests held for 2 µs (R485); a slip it displaces counts
in SLIP_COUNT alone (Table 2.4). -/
def rollbackTick (m : TickMsg) (s : State) : State :=
  let due := s.grp.requests.filter fun r => decide (r.2 + 2000 ≤ s.now)
  let s1 := if slipDue s && !s.job.held then takeSlip s else s
  let s2 := { s1 with grp := { s1.grp with requests := s1.grp.requests.filter fun r => !decide (r.2 + 2000 ≤ s.now) } }
  sendHold m (startRollback (due.map (·.1)) s2)

/-- The job lead issues one tick. A slip at the last slot of a step keeps the boundary waiting, but for want of the next
step's input the tick is held and the reports are dropped (Table 9.6). -/
def issueTick (ext fly : Bool) (s : State) : State :=
  let m := nextMsg ext fly s
  if s.lead.issued.isNone then firstTick m s
  else if s.job.ending then sendHold m s
  else if s.grp.requests.any fun r => decide (r.2 + 2000 ≤ s.now) then rollbackTick m s
  else
    let held := match s.lead.issued with | some l => l.hold | none => false
    if held || s.lead.restartStep then boundaryTick m s
    else if slipDue s && !(decide (lastSlotOf s ≤ m.slot) && !inputsIn s) then slipTick m s
    else if lastSlotOf s ≤ m.slot then boundaryTick m s
    else slotTick m s

/-- May this module issue ticks: the job lead of a started job? -/
def issues (s : State) : Bool := isJobLead s && s.job.started

/-- ISSUE_TICK: by the module's own REFCLK, one period after the last; the first tick of a job whatever the source. -/
def execIssueTick (t : Nat) (s : State) : Host.Outcome State Fault Refusal :=
  .next (whenReady (fun st =>
    let s0 := atTime t st
    if !issues s0 then s0
    else if s0.lead.issued.isNone then issueTick false false s0
    else if decide (s0.tick.source = .internal) && decide (s0.lead.issuedAt + periodNs s0 ≤ s0.now) then
      issueTick false false s0
    else s0) s)

/-- TICK_IN_EDGE: a rising edge within ±1 % of the period of the expected time issues a tick with EXTERNAL; any other is
ignored and counted (R63). A lead of another group under EXTERNAL is wired to the job lead's TICK_OUT: it takes the job tick
from the edge, and its contents from the relayed message (R66).
Log entry 96 (DESIGN CHOICE). -/
def execTickInEdge (t : Nat) (s : State) : Host.Outcome State Fault Refusal :=
  .next (whenReady (fun st =>
    let s0 := pulseAt 6 (atTime t st)
    let win := periodNs s0 / 100
    if decide (s0.tick.source ≠ .external) then s0
    else if !issues s0 then
      (if isLead s0 && s0.job.started then { s0 with lead := { s0.lead with edgeAt := some s0.now } } else s0)
    else if s0.lead.issued.isSome && decide (s0.lead.expected ≤ s0.now + win) && decide (s0.now ≤ s0.lead.expected + win) then
      issueTick true false s0
    else count cExtReject 1 s0) s)

/-- FLYWHEEL_TICK: no valid edge by 1 % of the period after the expected time; the third in a run returns TICK.SOURCE to
INTERNAL (R64). -/
def execFlywheelTick (t : Nat) (s : State) : Host.Outcome State Fault Refusal :=
  .next (whenReady (fun st =>
    let s0 := atTime t st
    if !issues s0 || decide (s0.tick.source ≠ .external) || s0.lead.issued.isNone ||
        decide (s0.now < s0.lead.expected + periodNs s0 / 100) then s0
    else
      let s1 := issueTick false true s0
      if s1.lead.flyRun < 3 then s1
      else event 0x8008 0 { s1 with tick := { s1.tick with source := .internal }, lead := { s1.lead with flyRun := 0 } }) s)

/-! ## Receipt at a module: slot work (R46 to R49, R59) -/

/-- Hold work of some slots behind a unit's running work, and time the grace. -/
def holdUnit (u : Nat) (slots : List Nat) (s : State) : State :=
  let r := unitRun s u
  let held := slots.foldl (fun l x => if l.contains x then l else l ++ [x]) r.held
  setUnitRun u { r with held := held, grace := some (s.now + periodNs s * s.tick.grace / 100) } s

/-- A unit at a tick that carries `slot`: earlier slots of the step that a missed tick kept back are released at once,
and the slot's own work is released, or held and timed where the unit still runs. Work whose context has not ended its
earlier pass waits for that (R270).
Log entry 126 (DESIGN CHOICE). -/
def tickUnit (slot u : Nat) (s : State) : State :=
  let r := unitRun s u
  if r.released = some slot then s
  else
    let next := match r.released with | some p => p + 1 | none => 0
    let missed := (rangeFrom next slot).filter fun x => !r.held.contains x && !(slotTasks s u x).isEmpty
    let free := missed.takeWhile fun x => !passHeld s u x
    let s1 := each free (releaseSlot u) s
    if decide (free.length < missed.length) || unitBusy s1 u || passHeld s1 u slot then
      holdUnit u (missed.drop free.length ++ [slot]) s1
    else releaseSlot u slot s1

/-- At the first tick of a step no unit has been released any of it. -/
def beginUnits (s : State) : State :=
  { s with tick := { s.tick with units := s.tick.units.foldl (fun m e => mapSet {} m e.1 { e.2 with released := none }) [] } }

/-! ## Receipt: a step's first tick, passes, resume -/

/-- Where the stream stands at a step's first tick (R214): the next step's first SEQ, or again that of the step restarted;
a restart below the first step of the epoch makes the restarted step its first. -/
def streamStep (step prev : Nat) (s : State) : State :=
  let r := s.stream
  let based := if prev < step then { r with prevBase := r.stepBase, stepBase := r.stepBase + r.plan.length, prevPlan := r.plan }
    else if step < prev then { r with stepBase := r.prevBase } else r
  { s with stream := { based with
      epochStep := min r.epochStep step
      lanes := r.lanes.foldl (fun m e => mapSet {} m e.1 { e.2 with repeatsStep := 0 }) [] } }

/-- The step that begins numbers its stream slots under the schedule now in force (R214); what was sent ahead under another
epoch is asked for again (R240). -/
def planStep (s : State) : State := dropStale { s with stream := { s.stream with plan := planNow s } }

/-- Does a new step begin for this module on a tick without HOLD? Its first tick may have been lost (R59). -/
def newStep (m : TickMsg) (prev : TickS) (s : State) : Bool :=
  m.stepBoundary || decide (m.step ≠ prev.step) || s.grp.rolling

/-- The slots of the step on whose first tick a pass begins, from the last slot received up to the slot of the tick. -/
def passesIn (m : TickMsg) (prev : TickS) (new : Bool) (s : State) : List Nat :=
  match scheduleOf s with
  | none => []
  | some c => c.passStarts.filter fun x => decide (x ≤ m.slot) && (new || decide (prev.slot < x))

/-- Does a pass begin with this tick, or has one begun on a tick that was lost (R40, R59)? -/
def passDue (m : TickMsg) (prev : TickS) (new : Bool) (s : State) : Bool :=
  m.passBoundary || new || decide (m.epoch ≠ prev.epoch) || !(passesIn m prev new s).isEmpty

/-- Is one of the passes that begin a forward pass (R295)? -/
def forwardDue (m : TickMsg) (prev : TickS) (new : Bool) (s : State) : Bool :=
  match scheduleOf s with
  | none => true
  | some c => new || (passesIn m prev new s).isEmpty || (passesIn m prev new s).any fun x => !c.backwardStarts.contains x

/-- Each training context's input is pinned to the epoch of the tick (R240). -/
def pinInput (epoch : Nat) (s : State) : State :=
  each (openContexts s) (fun n st =>
    let c := ctxOf st n
    if c.kind = some .train then setCtx n { c with inputEpoch := epoch } st else st) s

/-- What begins with a step: the fields written for the boundary, its seed, the stream's place, the owned blocks, and
at the lead the mask and owner table (R479, R514). -/
def beginStep (m : TickMsg) (prev : Nat) (s : State) : State :=
  let s1 := applyStepFields s
  let s2 := { s1 with snap := { s1.snap with seed := seedOf s1 m.step }, beam := { s1.beam with excluded := [] } }
  let s3 := beginUnits (openStep m.step (pinInput m.epoch (streamStep m.step prev s2)))
  let s4 := if isLead s3 then sendMembership s3 else s3
  if isJobLead s4 then emit (.stepSeed s4.snap.seed) s4 else s4

/-- A pass boundary: the pass in hand ends, the epochs change, and a forward pass takes the admitted work (R292, R295). -/
def passTick (m : TickMsg) (forward : Bool) (s : State) : State :=
  let s0 := { s with beam := { s.beam with passBankB := s.mem.ownerCur } }
  let s1 := predictPass (m.hold || !forward) (passEpochs m.epoch (endPass s0))
  if m.hold then s1 else if forward then admitWaiting (beginPass s1) else admitWaiting s1

/-- Steps of a job without a training context commit by themselves when their last slot begins.
Log entry 50 (DEDUCED). -/
def commitServing (m : TickMsg) (s : State) : State :=
  if hasTraining s then s
  else
    let s1 := if s.red.committed + 1 < m.step then applyCommit (s.red.committed + 1) (some fpOne) s else s
    if m.slot = lastSlotOf s1 ∧ m.slip = false then applyCommit m.step (some fpOne) s1 else s1

/-- At the first tick of a step's last slot, its own work released or held, SLACK tasks are promoted (R128, R279), and a
member short of input reports it (R272). -/
def lastSlotWork (m : TickMsg) (first : Bool) (s : State) : State :=
  if !first || decide (m.slot ≠ lastSlotOf s) then s
  else
    let s1 := promoteAll m.slot s
    if hasTraining s1 && !inputComplete s1 && !isLead s1 then emit (.starvation s1.job.member) s1 else s1

/-- The stream resumes where it is stopped and an epoch is open (R229, R258, R384, R555). -/
def resumeAt (m : TickMsg) (prevEpoch : Nat) (s : State) : State :=
  if !s.stream.stop || decide (m.epoch = 0) then s
  else
    let s1 := buildPeerRoutes (shrinkStripe s)
    let s2 := { s1 with host := { s1.host with mrs := s1.host.mrs.filter fun r => !r.exposed } }
    let s3 := scheduleNotices s2
    if prevEpoch = 0 then restartStream s3.stream.stepBase (rerank s3) else resumeStream s3

/-- The job leaves a hold: repairs are over, the commands that waited for it end, and RESUMED is raised. -/
def leaveHold (s : State) : State :=
  let rolled := s.grp.rolling
  let s1 := { s with
    red := { s.red with nonfiniteRun := if s.job.holds.contains 11 then 0 else s.red.nonfiniteRun }
    job := { s.job with holds := [], hostPause := false, haltPause := s.job.haltPause && !s.job.pauseFor.isEmpty }
    grp := { s.grp with rolling := false, rollHold := false } }
  let s2 := finish isJobResume 0 0 [] (event 0x8005 0 (completeWrites s1))
  if rolled then finish isRollbackCmd 0 0 [] s2 else s2

/-! ## Receipt: held ticks and the job's end -/

/-- The job ends on this module (R226, JOB_END): started no longer, what waited for a boundary applies, and every deferred
job command that is still owed ends with the job.
Log entry 54 (DESIGN CHOICE). -/
def endJob (s : State) : State :=
  let s1 := sendMarkers s
  let lost := s1.job.holds.contains 9
  let s2 := applyStepFields { s1 with job := { s1.job with
    started := false, ending := false, held := false, holds := [], pauseFor := [], hostPause := false, haltPause := false
    passRunning := false, ownersLoaded := s1.job.ownersLoaded && !lost } }
  let s3 := finish isJobEnd 0 0 [] { s2 with grp := { s2.grp with rolling := false, requests := [] } }
  finish (fun b => isJobPause b || isJobResume b || isRollbackCmd b || isEpochSwitch b || isEpochWithdraw b) 0x0703 0 [] s3

/-- At the resume, a stream channel lost for good holds the job, and the module reports it (R356). -/
def holdLostChannels (s : State) : State :=
  let due := (s.beam.lanes.filter fun e => e.2.chanLost && !e.2.chanHeld).map (·.1)
  if due.isEmpty then s
  else holdFor 7 (each due (fun c st => event 0x800B c (setLane c { laneS st c with chanHeld := true } st)) s)

/-- A held tick: nothing is released; what is due at the boundary is worked off (R41). -/
def heldTick (m : TickMsg) (s : State) : State :=
  let s1 := enterPauses s
  let s2 := if s1.job.ending then s1
    else holdLostChannels (boundaryFields (rebindRetired (if s1.place.returnDue then beginReturn s1 else s1)))
  if m.passBoundary then passTick m true s2 else s2

/-- The slips of a step, for its journal entry. -/
def noteStepSlip (step : Nat) (s : State) : State :=
  { s with red := { s.red with params := mapUpd {} s.red.params step fun p => { p with slips := p.slips + 1 } } }

/-- A tick without HOLD. -/
def runTick (m : TickMsg) (prev : TickS) (s : State) : State :=
  let s1 := if prev.flags / 8 % 2 = 1 || s.grp.rolling then leaveHold s else s
  let new := newStep m prev s
  let s2 := if new then beginStep m prev.step s1 else s1
  let s3 := if m.slip then noteStepSlip m.step s2 else s2
  let s4 := if passDue m prev new s3 then passTick m (forwardDue m prev new s3) s3 else s3
  let s5 := commitServing m (if new then predictStep (planStep s4) else s4)
  let s6 := each (scheduledUnits s5) (tickUnit m.slot) s5
  resumeAt m prev.epoch (lastSlotWork m (new || decide (m.slot ≠ prev.slot)) s6)

/-! ## Receipt -/

/-- How far from its predicted time a tick may come: 2 µs, and 1 % of the period more after an EXTERNAL or FLYWHEEL tick
(R58, R60). -/
def tickSlack (s : State) : Nat := 2000 + (if 16 ≤ s.tick.flags then periodNs s / 100 else 0)

/-- The predicted time of the next tick.
Log entry 52 (DEDUCED). -/
def predicted (s : State) : Option Nat := s.tick.lastValidAt.map fun t => t + (s.tick.missed + 1) * periodNs s

/-- Is a valid tick off its time or count (R60)? -/
def tickOff (m : TickMsg) (s : State) : Bool :=
  match predicted s with
  | none => false
  | some p => decide (p + tickSlack s < s.now) || decide (s.now + tickSlack s < p) ||
      decide (m.tickCount ≠ s.tick.tickCount + s.tick.missed + 1)

/-- One timing event a step. -/
def noteTiming (m : TickMsg) (s : State) : State :=
  if tickOff m s && decide (s.tick.timingStep ≠ some m.step) then
    event 0x800C 0xFFFF { s with tick := { s.tick with timingStep := some m.step } }
  else s

/-- When the tick in hand reached the module: for a group lead wired to the job lead's TICK_OUT, the edge (R66). -/
def arrivedAt (s : State) : Nat := if isLead s && !isJobLead s then s.lead.edgeAt.getD s.now else s.now

/-- The TICK page takes the message (R45). TICK_OUT pulses on a tick received; the job lead's own has pulsed as it was
issued (R65). -/
def recordTick (m : TickMsg) (s : State) : State :=
  let s1 := { s with
    tick := { s.tick with
      tickCount := m.tickCount, step := m.step, slot := m.slot, epoch := m.epoch, flags := tickFlags m
      ptpStamp := moduleTime { s with now := arrivedAt s }, lastValidAt := some (arrivedAt s), missed := 0, behind := false
      lossReported := false }
    lead := { s.lead with edgeAt := none }
    job := { s.job with held := m.hold } }
  if isJobLead s then s1 else pulseOut s1

/-- A lead of another group than 0 relays the tick to its members and its state to its standby lead (R19, R24); a slip
takes the reports that it forwarded into its late-arrival statistics, a hold drops them (R41, R53). -/
def relayTick (m : TickMsg) (s : State) : State :=
  if !isLead s || isJobLead s then s
  else
    let late := if m.slip then s.lead.overruns.map (·.member) else []
    let s1 := { s with lead := { s.lead with
      overruns := if m.slip || m.hold then [] else s.lead.overruns, graceLate := s.lead.graceLate ++ late } }
    sendLeadState (emit (.tick (encodeTick { m with group := s.job.group }) (sendDelays s1)) s1)

/-- The role that a member has under a lead and a standby lead. -/
def roleIn (member lead standby : Nat) : Role :=
  if member = lead then .lead else if member = standby then .standby else .member

/-- The module that becomes lead of group 0 issues from the last tick on.
Log entry 55 (DEDUCED). -/
def assumeLead (s : State) : State :=
  let m : TickMsg := { decodeTick 0 with tickCount := s.tick.tickCount, step := s.tick.step, slot := s.tick.slot
                                         epoch := s.tick.epoch, hold := true }
  requestRollback 13 { s with lead := { issued := some m, issuedAt := s.now + 2000 - periodNs s
                                        expected := s.now + periodNs s, restartStep := true } }

/-- Roles relayed to the group are taken (R22, R23); a module whose LEAD_SEL is low takes neither (R17). -/
def takeRolesNews (r : MemberId × Option MemberId) (s : State) : State :=
  let sb := r.2.map (·.val)
  let mine := roleIn s.job.member r.1.val (sb.getD 64)
  let s1 := { s with
    job := { s.job with leadMember := r.1.val, standbyMember := sb, role := if s.pins.leadSel then mine else .member }
    grp := { s.grp with noLead := false, standbyLost := sb.isNone } }
  if decide (s1.job.role = .lead) && decide (s.job.role ≠ .lead) && decide (s.job.group = 0) then assumeLead s1 else s1

/-- What has come from the lead since the tick before. -/
def takeNews (n : TickNews) (s : State) : State :=
  let s1 := match n.roles with | some r => takeRolesNews r s | none => s
  match n.lead with
  | some l => if s1.job.role = .standby then { s1 with lead := { s1.lead with news := l } } else s1
  | none => s1

/-- A valid tick. -/
def takeTick (m : TickMsg) (s : State) : State :=
  let prev := s.tick
  let s0 := recordTick m (noteTiming m s)
  let s1 := relayTick m s0
  let s2 := count cTicks 1 (if m.hold then count cHeld 1 s1 else if m.slip then s1 else count cSlots 1 s1)
  let s3 := if m.hold then heldTick m s2 else runTick m prev s2
  if s3.job.ending && m.hold && allDone s3 then endJob s3
  else reportDone (sendBeacon (sendMarkers s3))

/-- A module configured for the job and not in it, with a layout in force, asks to join in its beacons (R484). Whether the
lead has admitted it is not its own state: at the first tick of a step that ends a hold it joins, or not, by a free value,
and the ROLL that it takes over is one too. It owns nothing. -/
def joinTick (m : TickMsg) (s : State) : State :=
  let was := s.tick.flags / 8 % 2 = 1
  let s0 := recordTick m s
  let s1 := { s0 with job := { s0.job with held := false }
                      grp := { s0.grp with members := mapUpd {} s0.grp.members (selfIndex s0) fun x => { x with state := .lost } } }
  if m.stepBoundary && !m.hold && was then
    let a := drawFree s1
    let b := drawFree a.2
    if a.1 % 2 = 0 then sendBeacon s1
    else
      let s2 := startJob { refused := none, missingPeer := none, shadows := [], peerChannels := [] } b.2
      let s3 := takeTick m { s2 with red := { s2.red with roll := b.1 % 256, committed := m.step - 1, layers := [], blocks := [] } }
      { s3 with stream := { s3.stream with epochStep := if m.step ≤ 1 then 1 else 0 } }
  else sendBeacon s1

/-- May the module ask to join? -/
def joins (s : State) : Bool := s.job.configured && !s.job.started && s.place.inForce.isSome

/-- TICK_RECEIVED: a message that fails CHECK is discarded and counted (R58).
Log entry 23 (DESIGN CHOICE). Log entry 95 (DEDUCED). -/
def execTickReceived (t : Nat) (raw : BitVec 160) (news : TickNews) (s : State) : Host.Outcome State Fault Refusal :=
  .next (whenReady (fun st =>
    let s0 := atTime t st
    if joins s0 && tickCheckOk raw.toNat then joinTick (decodeTick raw.toNat) s0
    else if !s0.job.started then s0
    else if tickCheckOk raw.toNat then takeTick (decodeTick raw.toNat) (takeNews news s0)
    else count cBadTick 1 { s0 with tick := { s0.tick with missed := s0.tick.missed + 1, behind := true } }) s)

/-! ## Overruns (R50 to R52) -/

/-- An overrun report at a lead: a group lead passes its slip to the job lead once for a tick. -/
def takeOverrun (o : Overrun) (s : State) : State :=
  if s.job.held then s
  else
    let s1 := { s with lead := { s.lead with overruns := s.lead.overruns ++ [o] } }
    if isJobLead s || !s.lead.overruns.isEmpty then s1 else emit (.slipForward s.job.group) s1

/-- GRACE_EXPIRED: slot work that outlasts the grace is reported to the lead. -/
def execGraceExpired (t : Nat) (unit : UnitId) (s : State) : Host.Outcome State Fault Refusal :=
  .next (whenReady (fun st =>
    let s0 := atTime t st
    let u := unit.val
    let r := unitRun s0 u
    match r.grace with
    | none => s0
    | some e =>
      if s0.now < e then s0
      else
        let s1 := setUnitRun u { r with grace := none } s0
        if !unitBusy s1 u || s1.job.held then s1
        else
          let slot := r.running.getD 0
          if isLead s1 then takeOverrun { member := s1.job.member, unit := u, slot := slot, at_ := s1.now } s1
          else emit (.overrun s1.job.member u slot) s1) s)

/-- OVERRUN_REPORT: under a hold, and after a lead change, the report is dropped (Table 2.4). -/
def execOverrunReport (t : Nat) (member : MemberId) (unit : UnitId) (slot : BitVec 24) (s : State) :
    Host.Outcome State Fault Refusal :=
  .next (whenReady (fun st =>
    let s0 := atTime t st
    if isLead s0 && s0.job.started then
      takeOverrun { member := member.val, unit := unit.val, slot := slot.toNat, at_ := s0.now } s0
    else s0) s)

/-- GROUP_SLIP_FORWARD: at the job lead. -/
def execGroupSlipForward (t : Nat) (group : GroupId) (s : State) : Host.Outcome State Fault Refusal :=
  .next (whenReady (fun st =>
    let s0 := atTime t st
    if issues s0 && !s0.job.held && decide (group.val ≠ 0) then
      { s0 with lead := { s0.lead with groupSlip := s0.lead.groupSlip ++ [s0.now] } }
    else s0) s)

/-! ## Missing ticks and a lost lead (R58, R61, R20 to R25) -/

/-- TICK_MISSED: no tick within the bound after its predicted time. -/
def execTickMissed (t : Nat) (s : State) : Host.Outcome State Fault Refusal :=
  .next (whenReady (fun st =>
    let s0 := atTime t st
    match predicted s0 with
    | none => s0
    | some p =>
      if !s0.job.started || decide (s0.now ≤ p + tickSlack s0) then s0
      else count cMissTick 1 { s0 with tick := { s0.tick with missed := s0.tick.missed + 1, behind := true } }) s)

/-- The standby lead takes the lead role and, in group 0, the job lead's; the job rolls back with cause 13, and reports to
the lead lost go with it. It goes on from the lead state it last received (R19), and until it has named another the group
has no standby lead, which it reports (R22).
Log entry 55 (DEDUCED). -/
def takeLead (s : State) : State :=
  let old := 64 * s.job.group + s.job.leadMember
  let m : TickMsg := { decodeTick 0 with tickCount := s.tick.tickCount, step := s.tick.step, slot := s.tick.slot
                                         epoch := s.tick.epoch, hold := true }
  let news := s.lead.news
  let s1 := { s with
    job := { s.job with role := .lead, leadMember := s.job.member, standbyMember := none, held := true }
    lead := { issued := some m, issuedAt := s.now + 2000 - periodNs s, expected := s.now + periodNs s, restartStep := true
              graceLate := news.graceLate }
    power := { s.power with requests := news.grants }
    grp := { s.grp with standbyLost := true } }
  let s2 := each news.late (fun e st =>
    let i := 64 * st.job.group + e.1
    setMember i { memberS st i with late := e.2 } st) s1
  let s3 := setMemberState old .lost s2
  requestRollback 13 (emit (.roles s3.job.member none)
    (faultEvent { cls := 10, code := 2, detail := selfIndex s } (memberEvent (selfIndex s) s3)))

/-- No lead and no standby are left in group 0: the members hold until a host names a lead (R23). -/
def holdNoLead (s : State) : State :=
  if s.grp.noLead || decide (s.job.group ≠ 0) then s
  else holdFor 4 { s with grp := { s.grp with noLead := true } }

/-- TICK_LOSS: no valid tick for three ticks or 2 ms. The standby lead takes over (R20). Where the group has none, it holds
without a lead (R23); where it has one, a member waits for the standby lead's first tick as long again.
Log entry 55 (DEDUCED). Log entry 97 (DESIGN CHOICE). -/
def execTickLoss (t : Nat) (s : State) : Host.Outcome State Fault Refusal :=
  .next (whenReady (fun st =>
    let s0 := atTime t st
    let since := s0.tick.lastValidAt.getD 0
    if !s0.job.started || decide (s0.now < since + silenceBound s0) then s0
    else
      let s1 := if s0.tick.lossReported then s0
        else event 0x8007 0 { s0 with tick := { s0.tick with lossReported := true } }
      if s1.job.role = .standby then takeLead s1
      else if isLead s1 then s1
      else if s1.job.standbyMember.isNone || s1.grp.standbyLost || decide (since + 2 * silenceBound s1 ≤ s1.now) then holdNoLead s1
      else s1) s)

/-- NAME_STANDBY: at a step boundary the lead names the lowest ACTIVE member with LEAD_SEL high as standby lead (R22).
Log entry 56 (DESIGN CHOICE). -/
def execNameStandby (s : State) : Host.Outcome State Fault Refusal :=
  .next (whenReady (fun st =>
    if !isLead st || !st.job.started || !st.grp.standbyLost || !(st.job.held || decide (st.tick.slot = 0)) then st
    else
      let pick := (activeMembers st).find? fun m => decide (m ≠ st.job.member) && bitAt st.job.straps m
      match pick with
      | none => { st with job := { st.job with standbyMember := none } }
      | some m =>
        memberEvent (64 * st.job.group + m) (emit (.roles st.job.member (some m))
          { st with job := { st.job with standbyMember := some m }, grp := { st.grp with standbyLost := false } })) s)

end Sys2Proof.Machine
end

