-- ==== Sys2Proof/Machine/Registers.lean ====
section
/-! DEFINITION. The control space (chapter 19): what every register reads, the fields that a write changes with their
ranges and timing, and the register commands' shared operations. -/

namespace Sys2Proof.Machine

/-! ## Reading (R538 to R540, Tables 19.3 to 19.6) -/

/-- A register: offset in its page, words, and value. -/
structure Reg where
  off : Nat
  words : Nat
  value : Nat
  deriving DecidableEq, Repr

/-- Is a slot usable at the next start (R430)? -/
def slotUsable (s : State) (b : Bool) : Bool := (if b then s.boot.devB else s.boot.devA) && slotVerified s b

def regsId (s : State) : List Reg :=
  [⟨0x00, 1, 0xD718⟩, ⟨0x04, 1, s.flash.stepping⟩, ⟨0x08, 2, s.flash.serial⟩, ⟨0x10, 2, s.flash.mac⟩,
   ⟨0x18, 1, pack [(16, s.boot.gpe), (1, b2n s.boot.slotB), (1, b2n (decide (s.boot.state = .recovery)))]⟩,
   ⟨0x20, 2, s.boot.iface⟩, ⟨0x28, 2, s.boot.version⟩]

def regsSize (s : State) : List Reg :=
  let z := s.fabric.size
  [⟨0x00, 1, z.generation⟩, ⟨0x04, 1, z.enabledBlocks⟩, ⟨0x08, 1, z.enabledCores⟩, ⟨0x0C, 1, z.workingCores⟩,
   ⟨0x10, 2, z.sramBytes⟩, ⟨0x18, 2, z.fieldBufferBytes⟩, ⟨0x20, 2, z.hbmBytes⟩,
   ⟨0x28, 1, pack [(4, z.streamLanes), (4, 0), (4, 16 - z.streamLanes)]⟩, ⟨0x2C, 1, 64⟩, ⟨0x30, 1, 0xFFFF⟩,
   ⟨0x34, 1, z.mapVersion⟩, ⟨0x38, 2, z.defectAge⟩, ⟨0x40, 1, b2n z.defectQuick⟩]

def slipCode : SlipPolicy → Nat
  | .cont => 0
  | .pause => 1

def sourceCode : TickSource → Nat
  | .internal => 0
  | .external => 1

def regsTick (s : State) : List Reg :=
  let t := s.tick
  [⟨0x00, 1, t.period⟩, ⟨0x04, 1, t.grace⟩, ⟨0x08, 1, slipCode t.policy + 2 * sourceCode t.source⟩,
   ⟨0x10, 2, t.tickCount⟩, ⟨0x18, 2, t.step⟩, ⟨0x20, 1, t.slot⟩, ⟨0x24, 1, t.epoch + 2 ^ 16 * t.flags⟩,
   ⟨0x28, 2, t.ptpStamp⟩, ⟨0x30, 1, t.slipRun⟩]

def regsStream (s : State) : List Reg :=
  [⟨0x00, 1, s.stream.windowGib⟩, ⟨0x08, 2, s.stream.slotBytes⟩,
   ⟨0x10, 1, s.stream.repeatLimit + 2 ^ 16 * s.stream.dualLimit⟩, ⟨0x18, 2, s.stream.oldest⟩,
   ⟨0x20, 2, creditLimit s⟩, ⟨0x28, 1, s.stream.activeLanes⟩]

def maskOf (l : List Nat) : Nat := (l.map fun n => 2 ^ n).sum

def regsMemory (s : State) : List Reg :=
  [⟨0x00, 1, s.mem.systemGib⟩, ⟨0x04, 1, s.mem.stashGib⟩, ⟨0x08, 1, s.mem.kvGib⟩, ⟨0x0C, 1, b2n s.mem.ownerCur⟩,
   ⟨0x10, 1, maskOf s.mem.stripe⟩, ⟨0x14, 1, (excludedSpans s).length⟩, ⟨0x18, 1, maskOf s.mem.unmirrored⟩]

def regsReduce (s : State) : List Reg := [⟨0x00, 1, s.red.headroom⟩, ⟨0x04, 1, s.red.nonfiniteSteps⟩]

/-- A field of the UPDATE page as last written or updated: a write that waits for the step boundary reads back at once
(Table 0.2).
Log entry 101 (DEDUCED). -/
def ruleRead (f : RuleField) (now : Nat) (s : State) : Nat :=
  match s.host.ruleWrites.reverse.find? fun e => decide (e.1 = 0xFFFFFFFF) && decide (e.2.1 = f) with
  | some e => e.2.2
  | none => now

def regsUpdate (s : State) : List Reg :=
  [⟨0x00, 1, s.red.pruneHold⟩, ⟨0x04, 1, ruleRead .gscale s.red.gscale s⟩, ⟨0x08, 1, ruleRead .clipNorm s.red.clipNorm s⟩,
   ⟨0x0C, 1, ruleRead .refreshSteps s.red.refreshSteps s⟩,
   ⟨0x10, 1, s.red.driftK + 256 * s.red.grossK⟩, ⟨0x14, 1, b2n s.red.dExport⟩]

def regsPower (s : State) : List Reg :=
  let p := s.power
  [⟨0x00, 1, p.inputMv⟩, ⟨0x04, 1, p.inputW⟩, ⟨0x08, 1, p.rampNext.getD p.ramp⟩, ⟨0x0C, 1, p.groupRampNext.getD p.groupRamp⟩, ⟨0x10, 1, p.capSoft⟩,
   ⟨0x14, 1, p.capHard⟩, ⟨0x18, 1, p.drawMin⟩, ⟨0x1C, 1, p.safeCap⟩, ⟨0x20, 1, p.thrFloor⟩, ⟨0x24, 1, p.glowFloor⟩,
   ⟨0x28, 1, b2n p.hbArmed⟩, ⟨0x2C, 1, p.hbId⟩, ⟨0x30, 1, p.ceilingMw / 1000⟩, ⟨0x34, 1, p.floorMw / 1000⟩,
   ⟨0x38, 1, p.shoulderProt⟩, ⟨0x40, 3, p.fieldProt⟩]

def regsThermal (s : State) : List Reg :=
  [⟨0x00, 1, s.power.throttleC⟩, ⟨0x04, 1, ofSigned 8 s.power.inletC⟩, ⟨0x08, 1, ofSigned 8 s.power.outletC⟩]

def memberCode : MemberState → Nat
  | .active => 0
  | .draining => 1
  | .excluded => 2
  | .lost => 3

/-- PIN_STATE. Of SHUTTER_IN and TICK_IN the model knows the rising edges alone: after one, the level is a free value,
until the input is stuck.
Log entry 68 (DESIGN CHOICE). -/
def pinState (s : State) : Nat :=
  let level (n : Nat) : Bool :=
    if (n = 5 ∨ n = 6) ∧ mapGet 0 s.pins.since n ≠ 0 ∧ ¬ (n = 5 ∧ bitAt s.pins.stuck n = true) then Config.pulseLevel n s.now
    else bitAt s.pins.asserted n
  pack ((List.range 8).map fun n => (1, b2n (level n)))

def regsFault (s : State) : List Reg :=
  [⟨0x00, 1, s.fault.head⟩, ⟨0x04, 1, validCount s⟩,
   ⟨0x10, 4, pack ((List.range 64).map fun m => (2, memberCode (memberS s (64 * s.job.group + m)).state))⟩,
   ⟨0x20, 1, s.grp.suspectWindow + 2 ^ 16 * s.grp.suspectPct⟩, ⟨0x24, 1, s.grp.reconcileNext.getD s.grp.reconcileSteps⟩,
   ⟨0x28, 1, pinState s + 256 * s.pins.stuck⟩]

def regsSnapshot (s : State) : List Reg :=
  [⟨0x00, 1, s.snap.sources⟩, ⟨0x04, 1, b2n s.snap.armed⟩, ⟨0x08, 1, 0⟩, ⟨0x0C, 1, b2n s.snap.faultScopeGroup⟩,
   ⟨0x10, 1, s.snap.lastId + 2 ^ 16 * s.snap.lastSource⟩, ⟨0x18, 2, s.snap.lastTick⟩, ⟨0x20, 2, s.snap.lastTime⟩,
   ⟨0x28, 1, s.snap.journalEntries⟩]

def runCode : RunState → Nat
  | .ready => 1
  | .recovery => 2
  | _ => 0

def regsBoot (s : State) : List Reg :=
  let recovery := decide (s.boot.state = .recovery)
  [⟨0x00, 1, runCode s.boot.state + 256 * s.boot.lastStep⟩, ⟨0x04, 1, s.boot.start⟩,
   ⟨0x08, 1, pack [(1, if recovery then 0 else b2n s.boot.slotB), (1, b2n (preferredSlot s)), (1, b2n (slotUsable s false)),
                   (1, b2n (slotUsable s true)), (1, b2n s.boot.quick)]⟩,
   ⟨0x0C, 1, s.boot.failRun⟩, ⟨0x10, 1, s.flash.freshStarts⟩,
   ⟨0x14, 1, b2n s.flash.rstHeld + 2 * b2n s.flash.pgHeld⟩]

/-- The register of an array of `n` registers of `words` words from `base`, `step` bytes apart, in which an offset lies. -/
def arrayReg (off base step n words : Nat) (value : Nat → Nat) : Option Reg :=
  let k := (off - base) / step
  if base ≤ off ∧ k < n ∧ off < base + step * k + 4 * words then some ⟨base + step * k, words, value k⟩ else none

/-- Counter indices that a page shows as aliases (Table 19.8). -/
def aliasRange (page : Nat) : List (Nat × Nat) :=
  match page with
  | 3 => [(2, 5)]
  | 4 => [(194, 201)]
  | 5 => [(256, 262)]
  | 6 => [(322, 325), (330, 330)]
  | 7 => [(326, 329)]
  | 8 => [(388, 393)]
  | 9 => [(394, 396)]
  | 10 => [(463, 464)]
  | _ => []

/-- The alias of a counter at an offset. -/
def aliasReg (s : State) (page off : Nat) : Option Reg :=
  let lo (r : Nat × Nat) : Nat := if page = 5 then 258 else r.1
  (aliasRange page).findSome? fun r =>
    arrayReg off (0x800 + 8 * (lo r % 64)) 8 (r.2 + 1 - lo r) 2 fun k => counter s (lo r + k)

/-- The arrays of a page. -/
def arraysOf (s : State) (page off : Nat) : Option Reg :=
  match page with
  | 2 => arrayReg off 0x100 4 84 1 fun f =>
      nth 0 s.fabric.size.fieldBlocks f + 2 ^ 16 * nth 0 s.fabric.size.fieldStates f
  | 8 =>
    (arrayReg off 0x100 4 84 1 fun f => maskOf ((List.range 16).filter fun n => (laneS s (16 * f + n)).retired)) <|>
    (arrayReg off 0x400 8 84 2 fun f => pack ((List.range 16).map fun n => (4, engineOf s (16 * f + n)))) <|>
    (arrayReg off 0x1000 16 1344 4 fun c => (laneS s c).identity)
  | 11 =>
    (arrayReg off 0x100 4 84 1 fun f => ofSigned 8 (fieldPower s f).tj + 256 * (if isLit s f then stretchOf s f else 0)) <|>
    (arrayReg off 0x300 4 32 1 fun m => ofSigned 8 (mapGet 0 s.power.stackC m))
  | 12 =>
    (arrayReg off 0x4000 64 256 16 fun i => encodeFault (mapGet {} s.fault.records i)) <|>
    (arrayReg off 0x8000 8 64 2 fun k => counter s (448 + k))
  | 13 =>
    (arrayReg off 0x8000 8 448 2 fun k => counter s k) <|>
    (arrayReg off (0x8000 + 8 * 512) 8 1344 2 fun k => counter s (512 + k))
  | 14 => arrayReg off 0x100 48 8 12 fun n => mapGet 0 s.boot.meas n
  | _ => none

/-- The single registers of a page, by page number (base / 64 KiB). -/
def pageRegs (s : State) (page : Nat) : List Reg :=
  match page with
  | 1 => regsId s
  | 2 => regsSize s
  | 3 => regsTick s
  | 4 => regsStream s
  | 5 => regsMemory s
  | 6 => regsReduce s
  | 7 => regsUpdate s
  | 8 => [⟨0x00, 1, s.beam.chunkCode + 2 ^ 8 * s.beam.collMib + 2 ^ 16 * s.beam.lateTicks⟩]
  | 10 => regsPower s
  | 11 => regsThermal s
  | 12 => regsFault s
  | 13 => regsSnapshot s
  | 14 => regsBoot s
  | _ => []

/-- The register that an address lies in; none where it is unmapped. In recovery mode only ID and BOOT are mapped
(R545). -/
def regAt (s : State) (addr : Nat) : Option Reg :=
  let page := addr / 2 ^ 16
  let off := addr % 2 ^ 16
  if s.boot.state = .recovery ∧ page ≠ 1 ∧ page ≠ 14 then none
  else ((pageRegs s page).find? fun r => decide (r.off ≤ off) && decide (off < r.off + 4 * r.words)) <|>
    arraysOf s page off <|> aliasReg s page off

/-- A word of the control space as it stands. -/
def regWord (s : State) (addr : Nat) : Option Nat :=
  (regAt s addr).map fun r => field r.value (32 * ((addr % 2 ^ 16 - r.off) / 4)) 32

/-- Read one word on an access path: the low word of a 64-bit register latches its high word (R540). -/
def readWord (side : Bool) (addr : Nat) (s : State) : Option (Nat × State) :=
  let latch := if side then s.sideLatch else s.cmdLatch
  let put (l : Option (Nat × Nat)) : State := if side then { s with sideLatch := l } else { s with cmdLatch := l }
  match regAt s addr with
  | none => none
  | some r =>
    let i := (addr % 2 ^ 16 - r.off) / 4
    let v := field r.value (32 * i) 32
    if r.words ≠ 2 then some (v, s)
    else if i = 0 then some (v, put (some (addr + 4, field r.value 32 32)))
    else match latch with
      | some (a, w) => if a = addr then some (w, put none) else some (v, s)
      | none => some (v, s)

/-- What a register command finds wrong with an address: 0x0902 unaligned, 0x0901 unmapped. -/
def addrProblem (s : State) (addr : Nat) : Option Nat :=
  if addr % 4 ≠ 0 then some 0x0902 else if (regAt s addr).isNone then some 0x0901 else none

/-! ## Writing (R541, R542, Table 19.2) -/

/-- When a field may be written and takes effect. -/
inductive FieldTime where
  | fixed | held | anytime
  deriving DecidableEq, Repr

/-- A writable field: its address, bits, range, timing, the value it holds and what a write of a value does. -/
structure RwField where
  addr : Nat
  lo : Nat
  len : Nat
  min : Nat
  max : Nat
  time : FieldTime
  get : State → Nat
  set : Nat → State → State

/-- A field's write at a step boundary, or at once while no job runs. -/
def atBoundary (now later : State → State) (s : State) : State := if s.job.started then later s else now s

def ruleLater (f : RuleField) (v : Nat) (s : State) : State :=
  atBoundary (applyRule (0xFFFFFFFF, f, v))
    (fun q => { q with host := { q.host with ruleWrites := q.host.ruleWrites ++ [(0xFFFFFFFF, f, v)] } }) s

/-- RAMP takes effect at the step boundary (R448, R542); until then it reads as written.
Log entry 101 (DEDUCED). -/
def setRamp (v : Nat) (s : State) : State :=
  atBoundary (fun q => { q with power := { q.power with ramp := v } })
    (fun q => { q with power := { q.power with rampNext := some v } }) s

def setGroupRamp (v : Nat) (s : State) : State :=
  atBoundary (fun q => { q with power := { q.power with groupRamp := v, groupRampInUse := v } })
    (fun q => { q with power := { q.power with groupRampNext := some v } }) s

def setReconcile (v : Nat) (s : State) : State :=
  atBoundary (fun q => { q with grp := { q.grp with reconcileSteps := v } })
    (fun q => { q with grp := { q.grp with reconcileNext := some v } }) s

/-- GROSS_K, at least DRIFT_K. -/
def setGross (v : Nat) (s : State) : State :=
  let s1 := { s with red := { s.red with grossK := max v s.red.driftK } }
  if v < s.red.driftK then count cRegClamp 1 s1 else s1

/-- Every RW field of Tables 19.3 to 19.6. -/
def rwFields : List RwField :=
  [⟨0x30000, 0, 13, 25, 5000, .fixed, fun s => s.tick.period, fun v s => { s with tick := { s.tick with period := v } }⟩,
   ⟨0x30004, 0, 6, 0, 50, .fixed, fun s => s.tick.grace, fun v s => { s with tick := { s.tick with grace := v } }⟩,
   ⟨0x30008, 0, 1, 0, 1, .anytime, fun s => slipCode s.tick.policy,
     fun v s => { s with tick := { s.tick with policy := if v = 0 then .cont else .pause } }⟩,
   ⟨0x30008, 1, 1, 0, 1, .anytime, fun s => sourceCode s.tick.source,
     fun v s => { s with tick := { s.tick with source := if v = 0 then .internal else .external } }⟩,
   ⟨0x40000, 0, 9, 4, 256, .fixed, fun s => s.stream.windowGib,
     fun v s => { s with stream := { s.stream with windowGib := v } }⟩,
   ⟨0x40010, 0, 8, 1, 255, .held, fun s => s.stream.repeatLimit,
     fun v s => { s with stream := { s.stream with repeatLimit := v } }⟩,
   ⟨0x40010, 16, 7, 1, 64, .held, fun s => s.stream.dualLimit,
     fun v s => { s with stream := { s.stream with dualLimit := v } }⟩,
   ⟨0x50000, 0, 6, 2, 32, .fixed, fun s => s.mem.systemGib, fun v s => { s with mem := { s.mem with systemGib := v } }⟩,
   ⟨0x50004, 0, 11, 0, 1152, .held, fun s => s.mem.stashGib, fun v s => { s with mem := { s.mem with stashGib := v } }⟩,
   ⟨0x50008, 0, 10, 0, 512, .fixed, fun s => s.mem.kvGib, fun v s => { s with mem := { s.mem with kvGib := v } }⟩] ++
  [⟨0x60000, 0, 4, 1, 12, .fixed, fun s => s.red.headroom, fun v s => { s with red := { s.red with headroom := v } }⟩,
   ⟨0x60004, 0, 8, 1, 255, .anytime, fun s => s.red.nonfiniteSteps,
     fun v s => { s with red := { s.red with nonfiniteSteps := v } }⟩,
   ⟨0x70000, 0, 6, 0, 63, .fixed, fun s => s.red.pruneHold, fun v s => { s with red := { s.red with pruneHold := v } }⟩,
   ⟨0x70004, 0, 32, 0, 0xFFFFFFFF, .anytime, fun s => ruleRead .gscale s.red.gscale s, ruleLater .gscale⟩,
   ⟨0x70008, 0, 32, 0, 0xFFFFFFFF, .anytime, fun s => ruleRead .clipNorm s.red.clipNorm s, ruleLater .clipNorm⟩,
   ⟨0x7000C, 0, 7, 1, 64, .anytime, fun s => ruleRead .refreshSteps s.red.refreshSteps s, ruleLater .refreshSteps⟩,
   ⟨0x70010, 0, 8, 1, 255, .fixed, fun s => s.red.driftK, fun v s => { s with red := { s.red with driftK := v } }⟩,
   ⟨0x70010, 8, 8, 1, 255, .fixed, fun s => s.red.grossK, setGross⟩,
   ⟨0x70014, 0, 1, 0, 1, .fixed, fun s => b2n s.red.dExport,
     fun v s => { s with red := { s.red with dExport := decide (v = 1) } }⟩] ++
  [⟨0x80000, 0, 3, 0, 4, .fixed, fun s => s.beam.chunkCode, fun v s => { s with beam := { s.beam with chunkCode := v } }⟩,
   ⟨0x80000, 8, 5, 1, 16, .fixed, fun s => s.beam.collMib, fun v s => { s with beam := { s.beam with collMib := v } }⟩,
   ⟨0x80000, 16, 4, 1, 15, .fixed, fun s => s.beam.lateTicks,
     fun v s => { s with beam := { s.beam with lateTicks := v } }⟩,
   ⟨0xA0008, 0, 13, 50, 4800, .anytime, fun s => s.power.rampNext.getD s.power.ramp, setRamp⟩,
   ⟨0xA000C, 0, 19, 50, 307200, .anytime, fun s => s.power.groupRampNext.getD s.power.groupRamp, setGroupRamp⟩,
   ⟨0xA0010, 0, 15, 2400, 24000, .anytime, fun s => s.power.capSoft,
     fun v s => if v = s.power.capSoft then s else setSoftCap v s⟩,
   ⟨0xA0014, 0, 15, 2400, 24000, .anytime, fun s => s.power.capHard,
     fun v s => if v = s.power.capHard then s else setHardCap v s⟩,
   ⟨0xA001C, 0, 7, 10, 100, .anytime, fun s => s.power.safeCap, fun v s => { s with power := { s.power with safeCap := v } }⟩,
   ⟨0xA0020, 0, 7, 10, 100, .anytime, fun s => s.power.thrFloor,
     fun v s => { s with power := { s.power with thrFloor := v } }⟩,
   ⟨0xA0024, 0, 6, 0, 60, .anytime, fun s => s.power.glowFloor,
     fun v s => { s with power := { s.power with glowFloor := v } }⟩,
   ⟨0xB0000, 0, 7, 70, 95, .anytime, fun s => s.power.throttleC,
     fun v s => { s with power := { s.power with throttleC := v } }⟩] ++
  [⟨0xC0020, 0, 16, 100, 65535, .anytime, fun s => s.grp.suspectWindow,
     fun v s => { s with grp := { s.grp with suspectWindow := v } }⟩,
   ⟨0xC0020, 16, 7, 5, 100, .anytime, fun s => s.grp.suspectPct, fun v s => { s with grp := { s.grp with suspectPct := v } }⟩,
   ⟨0xC0024, 0, 11, 0, 1024, .anytime, fun s => s.grp.reconcileNext.getD s.grp.reconcileSteps, setReconcile⟩,
   ⟨0xD0000, 0, 5, 0, 0x1F, .anytime, fun s => s.snap.sources, fun v s => { s with snap := { s.snap with sources := v } }⟩,
   ⟨0xD000C, 0, 1, 0, 1, .anytime, fun s => b2n s.snap.faultScopeGroup,
     fun v s => { s with snap := { s.snap with faultScopeGroup := decide (v = 1) } }⟩,
   ⟨0xD0028, 0, 21, 1024, 1048576, .fixed, fun s => s.snap.journalEntries,
     fun v s => { s with snap := { s.snap with journalEntries := v
                                               journal := s.snap.journal.drop (s.snap.journal.length - v) } }⟩,
   ⟨0xE0010, 0, 8, 1, 255, .anytime, fun s => s.flash.freshStarts,
     fun v s => { s with flash := { s.flash with freshStarts := v } }⟩]

/-- The fields of one word. -/
def fieldsAt (addr : Nat) : List RwField := rwFields.filter fun f => decide (f.addr = addr)

/-- Does a write of `v` change a field, out-of-range values included (R411)? -/
def fieldChanges (f : RwField) (v : Nat) (s : State) : Bool :=
  let raw := field v f.lo f.len
  decide (raw ≠ f.get s) || decide (raw < f.min) || decide (f.max < raw)

/-- Is a write refused for its timing (R411, R542)? -/
def writeRefused (addr v : Nat) (s : State) : Bool :=
  s.job.started && (fieldsAt addr).any fun f =>
    fieldChanges f v s && (decide (f.time = .fixed) || (decide (f.time = .held) && !s.job.held))

/-- Write one field, clamped and counted (R541). -/
def writeField (v : Nat) (f : RwField) (s : State) : State :=
  let raw := field v f.lo f.len
  let s1 := if raw < f.min ∨ f.max < raw then count cRegClamp 1 s else s
  f.set (clamp f.min f.max raw) s1

/-- The W1C and WO bits of a word: REARM, RECORD VALID, BOOT.HELD. -/
def writeBits (addr v : Nat) (s : State) : State :=
  let off := addr % 2 ^ 16
  if addr = 0xD0008 then (if bitAt v 0 then rearmOp s else s)
  else if addr = 0xE0014 then
    { s with flash := { s.flash with rstHeld := s.flash.rstHeld && !bitAt v 0, pgHeld := s.flash.pgHeld && !bitAt v 1 } }
  else if addr / 2 ^ 16 = 12 ∧ 0x4000 ≤ off ∧ off < 0x8000 ∧ off % 64 = 0 ∧ bitAt v 0 = true then
    clearRecord ((off - 0x4000) / 64) s
  else s

/-- One register write. -/
def writeWord (addr v : Nat) (s : State) : State := writeBits addr v (each (fieldsAt addr) (writeField v) s)

/-! ## The register rows -/

/-- REGISTER_WRITE: one write, of any register; refused as REG_WRITE refuses it. -/
def execRegisterWrite (addr value : BitVec 32) (s : State) : Host.Outcome State Fault Refusal :=
  .next (whenReady (fun st =>
    let a := addr.toNat
    if (addrProblem st a).isSome || writeRefused a value.toNat st then st else writeWord a value.toNat st) s)

/-- CAP_SOFT_WRITE: a write of the present value has no effect. -/
def execCapSoftWrite (value : BitVec 32) (s : State) : Host.Outcome State Fault Refusal :=
  .next (whenReady (writeWord 0xA0010 value.toNat) s)

/-- CAP_HARD_WRITE. -/
def execCapHardWrite (value : BitVec 32) (s : State) : Host.Outcome State Fault Refusal :=
  .next (whenReady (writeWord 0xA0014 value.toNat) s)

/-- REARM: a write of 1 to SNAPSHOT.REARM. -/
def execRearm (s : State) : Host.Outcome State Fault Refusal := .next (whenReady rearmOp s)

/-- RECORD_VALID_CLEAR: a write of 1 to a record's VALID bit. -/
def execRecordValidClear (i : Fin 256) (s : State) : Host.Outcome State Fault Refusal :=
  .next (whenReady (clearRecord i.val) s)

/-- HELD_CLEAR: a W1C write of BOOT.HELD; in recovery mode every write is refused (R545). -/
def execHeldClear (value : BitVec 32) (s : State) : Host.Outcome State Fault Refusal :=
  .next (whenReady (writeBits 0xE0014 value.toNat) s)

/-- COUNTER_LOW_WORD_READ: the low word of a 64-bit counter latches its high word on the access path. -/
def execCounterLowWordRead (addr : BitVec 32) (sideband : Bool) (s : State) : Host.Outcome State Fault Refusal :=
  .next (whenReady (fun st =>
    match readWord sideband addr.toNat st with
    | none => st
    | some (_, st1) => st1) s)

end Sys2Proof.Machine
end

