-- ==== Sys2Proof/Machine/Command.lean ====
section
/-! DEFINITION. What every command shares (R404 to R412): opcodes and scopes, the checks of recovery mode, context and role
in their order, the reply that a deferred command begins with, and the distribution of a job-scope command. -/

namespace Sys2Proof.Machine

/-! ## Opcodes and scopes (Tables 13.8 to 13.16) -/

def opcodeOf : CmdBody → Nat
  | .identify => 0x0101
  | .sizeTable => 0x0102
  | .setNet _ => 0x0103
  | .ringCreate _ => 0x0104
  | .ringDestroy _ => 0x0105
  | .mrRegister _ => 0x0106
  | .mrRevoke _ => 0x0107
  | .qpCreate _ => 0x0108
  | .qpDestroy _ => 0x0109
  | .jobConfigure _ => 0x0201
  | .jobStart _ => 0x0202
  | .jobPause => 0x0203
  | .jobResume => 0x0204
  | .jobEnd => 0x0205
  | .nameLead _ _ _ => 0x0206
  | .contextOpen _ => 0x0207
  | .contextClose => 0x0208
  | .setRule _ _ _ => 0x0209
  | .batchReady _ _ => 0x020A
  | .request _ => 0x020B
  | .cancel _ => 0x020C
  | .epochSwitch _ => 0x0301
  | .epochWithdraw => 0x0302
  | .streamLimits _ _ => 0x0303
  | .streamStatus => 0x0304
  | .layoutLoad _ _ => 0x0401
  | .layoutQuery => 0x0402
  | .ownerLoaded => 0x0403
  | .ownerExpose => 0x0404
  | .selfTest _ => 0x0405
  | .capSet _ _ => 0x0501
  | .rampSet _ => 0x0502
  | .heartbeat _ => 0x0503
  | .safeCapSet _ => 0x0504
  | .glowFloorSet _ => 0x0505
  | .powerStatus => 0x0506
  | .faultRead _ _ => 0x0601
  | .faultClear _ => 0x0602
  | .rollback => 0x0603
  | .exclude _ => 0x0604
  | .shadowSet _ => 0x0605
  | .fieldReturn _ => 0x0606
  | .shutterFire _ => 0x0701
  | .snapshotRead _ _ _ _ => 0x0702
  | .countersRead _ _ => 0x0703
  | .journalRead _ _ => 0x0704
  | .bootJournalRead _ _ => 0x0705
  | .attest _ => 0x0801
  | .flashWrite _ _ _ => 0x0802
  | .bundleVerify _ => 0x0803
  | .bundleActivate _ => 0x0804
  | .reset => 0x0805
  | .regRead _ _ => 0x0901
  | .regWrite _ => 0x0902
  | .regRmw _ _ _ => 0x0903

/-- The opcodes that the tables list. -/
def opcodes : List Nat :=
  rangeFrom 0x0101 0x010A ++ rangeFrom 0x0201 0x020D ++ rangeFrom 0x0301 0x0305 ++ rangeFrom 0x0401 0x0406 ++
    rangeFrom 0x0501 0x0507 ++ rangeFrom 0x0601 0x0607 ++ rangeFrom 0x0701 0x0706 ++ rangeFrom 0x0801 0x0806 ++
    rangeFrom 0x0901 0x0904

inductive CmdScope where
  | module | job | context
  deriving DecidableEq, Repr

def scopeOf : CmdBody → CmdScope
  | .jobStart _ | .jobPause | .jobResume | .jobEnd | .setRule _ _ _ | .epochSwitch _ | .epochWithdraw
  | .streamLimits _ _ | .rollback | .exclude _ => .job
  | .contextClose | .batchReady _ _ | .request _ | .cancel _ => .context
  | _ => .module

/-- The deferred commands that reply 0x0001 first; a BATCH_READY of an EVAL context does so itself. -/
def isDeferred : CmdBody → Bool
  | .jobStart _ | .jobPause | .jobResume | .jobEnd | .nameLead _ _ _ | .contextClose | .epochSwitch _ | .epochWithdraw
  | .layoutLoad _ _ | .selfTest _ | .rollback | .exclude _ | .fieldReturn _ | .bundleVerify _ => true
  | _ => false

/-- The commands that recovery mode executes (R410). -/
def inRecovery : CmdBody → Bool
  | .identify | .setNet _ | .bootJournalRead _ _ | .attest _ | .flashWrite _ _ _ | .bundleVerify _ | .bundleActivate _
  | .reset => true
  | _ => false

/-- The job-scope commands that answer for themselves where no job is configured (they list 0x0304). -/
def listsNoJob : CmdBody → Bool
  | .jobPause | .jobResume | .jobEnd | .setRule _ _ _ | .epochSwitch _ | .epochWithdraw | .rollback | .exclude _ => true
  | _ => false

/-! ## The checks before a command's own (R405, R407, R409, R410) -/

def fromRing (h : CmdHdr) : Bool := match h.origin with | .ring _ => true | _ => false
def isDistributed (h : CmdHdr) : Bool := match h.origin with | .distributed => true | _ => false

def ctxOpen (s : State) (n : Nat) : Bool := decide (n < 64) && (ctxOf s n).kind.isSome

/-- The context that a ring is bound to; 0xFF for none. -/
def boundCtx (s : State) (h : CmdHdr) : Nat := match h.origin with | .ring n => (ringS s n.val).ctx | _ => 0xFF

/-- Is CTX right for the command and the ring it came on? A job command may carry 0xFF.
Log entry 45 (DEDUCED). -/
def ctxOk (s : State) (h : CmdHdr) (b : CmdBody) : Bool :=
  let c := h.ctx.toNat
  let ring := boundCtx s h
  let fits := decide (ring = 0xFF) || decide (ring = c)
  match scopeOf b with
  | .module => decide (c = 0xFF)
  | .job => decide (c = 0xFF) || (ctxOpen s c && fits)
  | .context => ctxOpen s c && fits

/-- A refusal: status and DETAIL, and the state that has found it. -/
structure Refused where
  status : Nat
  detail : Nat
  st : State

/-- DETAIL of 0x0306: the job lead's member index, 0xFFFF where there is none. A module of another group does not hold it:
a free value there. -/
def leadDetail (s : State) : Nat × State :=
  if !s.job.configured || (decide (s.job.group = 0) && s.grp.noLead) then (0xFFFF, s)
  else if s.job.group = 0 then (s.job.leadMember, s)
  else
    let d := drawFree s
    (d.1 % 64, d.2)

/-- The first of the checks of recovery mode, context and role that fails.
Log entry 29 (DEDUCED). -/
def admission (h : CmdHdr) (b : CmdBody) (s : State) : Option Refused :=
  if s.boot.state = .recovery ∧ (inRecovery b = false ∨ fromRing h = true) then some ⟨0x0305, 0, s⟩
  else if !ctxOk s h b then some ⟨0x0104, h.ctx.toNat, s⟩
  else if scopeOf b = .job ∧ isJobLead s = false ∧ (s.job.configured = true ∨ listsNoJob b = false) then
    let d := leadDetail s
    some ⟨0x0306, d.1, d.2⟩
  else none

/-- Does the module execute commands: READY, or in recovery mode? -/
def executes (s : State) : Bool := decide (s.boot.state = .ready) || decide (s.boot.state = .recovery)

/-- A command: refused by the checks that all commands share, else its effect, behind 0x0001 where it is deferred. What a
job lead has distributed is checked already. -/
def command (h : CmdHdr) (b : CmdBody) (act : State → State) (s : State) : State :=
  if !executes s then s
  else if isDistributed h then whenReady act s
  else match admission h b s with
    | some r => refuse h r.status r.detail r.st
    | none => act (if isDeferred b then reply h 1 0 [] false s else s)

/-! ## What commands reply with -/

/-- A deferred command's FINAL reply is owed. -/
def owe (h : CmdHdr) (b : CmdBody) (s : State) : State :=
  { s with host := { s.host with deferred := s.host.deferred ++ [{ hdr := h, body := b }] } }

/-- The byte offset of the first parameter that is out of its range, parameters numbered in table order. -/
def badParam (b : CmdBody) (checks : List (Nat × Bool)) : Option Nat :=
  (checks.find? fun c => !c.2).map fun c => Config.paramOffset (opcodeOf b) c.1

/-- `act` where every parameter is in range, else 0x0201. -/
def checked (h : CmdHdr) (b : CmdBody) (checks : List (Nat × Bool)) (act : State → State) (s : State) : State :=
  match badParam b checks with
  | some o => refuse h 0x0201 o s
  | none => act s

/-- Busy with something that no command began: DETAIL's opcode is a free value.
Log entry 29 (DEDUCED). Log entry 41 (DESIGN CHOICE). -/
def refuseBusy (h : CmdHdr) (s : State) : State :=
  let d := drawFree s
  refuse h 0x0301 (d.1 % 65536) d.2

/-- The job lead passes a job-scope command on to every module (R409). -/
def distribute (h : CmdHdr) (b : CmdBody) (s : State) : State := if isDistributed h then s else emit (.distribute h b) s

/-- Is `v` in a range, ends included? -/
def within (lo hi v : Nat) : Bool := decide (lo ≤ v) && decide (v ≤ hi)

end Sys2Proof.Machine
end

