-- ==== Sys2Proof/Machine/Manage.lean ====
section
/-! DEFINITION. Commands of identity and management (Table 13.8) and of register access (Table 13.16). -/

namespace Sys2Proof.Machine

/-! ## Identity -/

/-- IDENTIFY's 64 bytes: the items in the order of Table 13.8, each at the width of its register.
Log entry 60 (DESIGN CHOICE). -/
def identifyBody (s : State) : List Byte :=
  let b := bytesLE 4 0xD718 ++ bytesLE 4 s.flash.stepping ++ bytesLE 8 s.flash.serial ++ bytesLE 8 s.flash.mac ++
    bytesLE 8 s.boot.version ++ bytesLE 8 s.boot.iface ++ bytesLE 2 s.boot.gpe ++ bytesLE 1 (b2n s.boot.slotB)
  b ++ List.replicate (64 - b.length) 0#8

def identifyOp (h : CmdHdr) (s : State) : State := done h (identifyBody s) s

def execIdentify (h : CmdHdr) (s : State) : Host.Outcome State Fault Refusal :=
  .next (command h .identify (identifyOp h) s)

/-- SIZE_TABLE's reply: the registers of the page in address order, then FIELD_BLOCKS and FIELD_STATE. -/
def sizeBody (s : State) : List Byte :=
  (regsSize s).flatMap (fun r => bytesLE (4 * r.words) r.value) ++
    (List.range 84).flatMap fun f => bytesLE 4 (nth 0 s.fabric.size.fieldBlocks f + 2 ^ 16 * nth 0 s.fabric.size.fieldStates f)

def sizeTableOp (h : CmdHdr) (s : State) : State := done h (sizeBody s) s

def execSizeTable (h : CmdHdr) (s : State) : Host.Outcome State Fault Refusal :=
  .next (command h .sizeTable (sizeTableOp h) s)

/-! ## SET_NET (R390, R395) -/

def netChecks (p : NetSettings) : List (Nat × Bool) :=
  [(0, decide (p.port < 8)), (2, decide (p.ipv4Prefix ≤ 32)), (4, decide (p.ipv6Prefix ≤ 128)), (5, decide (p.vlan ≤ 4094)),
   (6, within 1500 9216 p.mtu), (7, decide (p.pfc ≤ 7)),
   (8, decide (p.allow.length ≤ 64) && p.allow.all fun e => decide (e.2 ≤ 128))]

/-- The settings go to flash, and to the port and the allow list. -/
def storeNet (p : NetSettings) (s : State) : State :=
  let v : PortS := { ipv4 := p.ipv4, ipv4Prefix := p.ipv4Prefix, ipv6 := p.ipv6, ipv6Prefix := p.ipv6Prefix
                     vlan := p.vlan, mtu := p.mtu, pfc := p.pfc }
  setPort p.port { v with down := (portS s p.port).down }
    { s with flash := { s.flash with ports := mapSet {} s.flash.ports p.port v, allow := p.allow }
             host := { s.host with allow := p.allow } }

def setNetOp (h : CmdHdr) (p : NetSettings) (s : State) : State :=
  checked h (.setNet p) (netChecks p) (fun st => storeNet p (done h [] st)) s

def execSetNet (h : CmdHdr) (p : NetSettings) (s : State) : Host.Outcome State Fault Refusal :=
  .next (command h (.setNet p) (setNetOp h p) s)

/-! ## Rings (R399, R400) -/

/-- Bytes of a ring's entries. -/
def ringBytes (r : RingS) : Nat := 2 ^ (r.order + r.entryShift)

/-- The spans of SYSTEM that rings hold. -/
def ringSpans (s : State) : List (Nat × Nat) :=
  (s.host.rings.filter fun e => decide (e.2.kind ≠ 0)).map fun e => (e.2.base, e.2.base + ringBytes e.2)

/-- Is a span clear of every ring and inside SYSTEM? -/
def spanFree (s : State) (base bytes : Nat) : Bool :=
  decide (base + bytes ≤ s.mem.systemGib * 2 ^ 30) && (ringSpans s).all fun e => decide (base + bytes ≤ e.1) || decide (e.2 ≤ base)

/-- The lowest place for a ring above the RCB table: where SYSTEM's rings leave room.
Log entry 62 (DESIGN CHOICE). -/
def placeRing (s : State) (bytes : Nat) : Option Nat :=
  ((65536 :: (ringSpans s).map (·.2)).filter fun b => spanFree s b bytes).min?

def ringExists (s : State) (n : Nat) : Bool := decide (n < 1024) && decide ((ringS s n).kind ≠ 0)

def ringChecks (s : State) (p : RingParams) : List (Nat × Bool) :=
  [(0, decide (p.ring < 1024) && !ringExists s p.ring), (1, within 1 3 p.kind), (2, within 4 12 p.order),
   (3, if p.kind = 1 then decide (p.entryShift = 12) else within 6 12 p.entryShift),
   (4, decide (p.ctx < 64) || decide (p.ctx = 0xFF)),
   (5, decide (p.kind ≠ 1) || (ringExists s p.cq && decide ((ringS s p.cq).kind = 2)))]

def ringCreateOp (h : CmdHdr) (p : RingParams) (s : State) : State :=
  checked h (.ringCreate p) (ringChecks s p) (fun st =>
    match placeRing st (2 ^ (p.order + p.entryShift)) with
    | none => refuse h 0x0401 5 st
    | some base =>
      done h [] (setRing p.ring { kind := p.kind, order := p.order, entryShift := p.entryShift, ctx := p.ctx
                                  cq := if p.kind = 1 then p.cq else 0xFFFF, base := base
                                  notifyAddr := p.notifyAddr, notifyPort := p.notifyPort } st)) s

def execRingCreate (h : CmdHdr) (p : RingParams) (s : State) : Host.Outcome State Fault Refusal :=
  .next (command h (.ringCreate p) (ringCreateOp h p) s)

/-- Does a submission ring use a ring as its completion ring? -/
def usedAsCq (s : State) (n : Nat) : Bool := s.host.rings.any fun e => decide (e.2.kind = 1) && decide (e.2.cq = n)

/-- The ring's space is returned. A ring that destroys itself still has its reply. -/
def ringDestroyOp (h : CmdHdr) (n : Nat) (s : State) : State :=
  if !ringExists s n then checked h (.ringDestroy n) [(0, false)] id s
  else if (ringS s n).head ≠ (ringS s n).tail ∨ usedAsCq s n = true then refuseBusy h s
  else
    let s1 := setRing n {} (done h [] s)
    { s1 with host := { s1.host with entries := mapFilter (fun k _ => decide (k / 4096 ≠ n)) s1.host.entries } }

def execRingDestroy (h : CmdHdr) (ring : BitVec 16) (s : State) : Host.Outcome State Fault Refusal :=
  .next (command h (.ringDestroy ring.toNat) (ringDestroyOp h ring.toNat) s)

/-! ## Memory regions and queue pairs (R392, Tables 13.1, 13.2) -/

/-- The first number from `n` on, of `bits` bits, that is not used. The first argument bounds the search. -/
def freshFrom (used : List Nat) (bits : Nat) : Nat → Nat → Nat
  | 0, n => n
  | k + 1, n => if used.contains n then freshFrom used bits k ((n + 1) % 2 ^ bits) else n

/-- A key or number that is not in use: from a free value on.
Log entry 63 (DESIGN CHOICE). -/
def freshKey (used : List Nat) (bits : Nat) (s : State) : Nat × State :=
  let d := drawFree s
  (freshFrom used bits used.length (d.1 % 2 ^ bits), d.2)

/-- The bytes that a region of a kind covers: DOORBELL, RINGS, a context's input area, OWNER. -/
def regionBytes (s : State) (kind ctx : Nat) : Nat :=
  match kind with
  | 0 => 8192
  | 1 => s.mem.systemGib * 2 ^ 30
  | 2 => (ctxOf s ctx).inputMib * 2 ^ 20 * (if (ctxOf s ctx).kind = some .train then 2 else 1)
  | _ => 32 * nth 0 (regionShares s) 5

/-- Does a kind allow the access asked for (Table 13.2)? READ of OWNER comes from OWNER_EXPOSE alone. -/
def accessOk (s : State) (p : MrParams) : Bool :=
  (p.read || p.write) &&
    (match p.kind with
     | 0 => !p.read
     | 1 => true
     | 2 => !p.read
     | _ => !p.read && !s.job.started)

def mrChecks (s : State) (p : MrParams) : List (Nat × Bool) :=
  [(0, decide (p.kind < 4)), (1, decide (p.kind ≠ 2) || ctxOpen s p.ctx), (2, accessOk s p), (3, decide (p.offset % 4096 = 0)),
   (4, decide (p.length % 4096 = 0) && decide (0 < p.length) && decide (p.offset + p.length ≤ regionBytes s p.kind p.ctx))]

/-- Grant a region; the reply is its R_Key. -/
def grantRegion (h : CmdHdr) (p : MrParams) (exposed : Bool) (s : State) : State :=
  let k := freshKey (s.host.mrs.map (·.rkey)) 32 s
  let m : MrS := { rkey := k.1, kind := p.kind, ctx := p.ctx, read := p.read, write := p.write, offset := p.offset
                   length := p.length, exposed := exposed }
  done h (bytesLE 4 k.1) { k.2 with host := { k.2.host with mrs := k.2.host.mrs ++ [m] } }

def mrRegisterOp (h : CmdHdr) (p : MrParams) (s : State) : State :=
  checked h (.mrRegister p) (mrChecks s p) (grantRegion h p false) s

def execMrRegister (h : CmdHdr) (p : MrParams) (s : State) : Host.Outcome State Fault Refusal :=
  .next (command h (.mrRegister p) (mrRegisterOp h p) s)

def mrRevokeOp (h : CmdHdr) (key : Nat) (s : State) : State :=
  checked h (.mrRevoke key) [(0, s.host.mrs.any fun m => decide (m.rkey = key))] (fun st =>
    done h [] { st with host := { st.host with mrs := st.host.mrs.filter fun m => decide (m.rkey ≠ key) } }) s

def execMrRevoke (h : CmdHdr) (rkey : BitVec 32) (s : State) : Host.Outcome State Fault Refusal :=
  .next (command h (.mrRevoke rkey.toNat) (mrRevokeOp h rkey.toNat) s)

def qpChecks (p : QpParams) : List (Nat × Bool) :=
  [(0, decide (p.port < 8)), (4, decide (p.mtu = 1024) || decide (p.mtu = 2048) || decide (p.mtu = 4096))]

def qpCreateOp (h : CmdHdr) (p : QpParams) (s : State) : State :=
  checked h (.qpCreate p) (qpChecks p) (fun st =>
    if 2048 ≤ st.host.qps.length then refuse h 0x0401 5 st
    else
      let n := freshKey (st.host.qps.map (·.1)) 24 st
      let psn := drawFree n.2
      let q : QpS := { open_ := true, port := p.port, gid := p.gid, qpn := p.qpn, mtu := p.mtu, psn := p.psn % 2 ^ 24
                       modulePsn := psn.1 % 2 ^ 24 }
      done h (bytesLE 4 n.1 ++ bytesLE 4 q.modulePsn)
        { psn.2 with host := { psn.2.host with qps := mapSet {} psn.2.host.qps n.1 q } }) s

def execQpCreate (h : CmdHdr) (p : QpParams) (s : State) : Host.Outcome State Fault Refusal :=
  .next (command h (.qpCreate p) (qpCreateOp h p) s)

def qpDestroyOp (h : CmdHdr) (n : Nat) (s : State) : State :=
  checked h (.qpDestroy n) [(0, (mapGet {} s.host.qps n).open_)] (fun st =>
    done h [] { st with host := { st.host with qps := mapSet {} st.host.qps n {} } }) s

def execQpDestroy (h : CmdHdr) (qpn : BitVec 24) (s : State) : Host.Outcome State Fault Refusal :=
  .next (command h (.qpDestroy qpn.toNat) (qpDestroyOp h qpn.toNat) s)

/-! ## Registers (R411, R538 to R542) -/

/-- The first address of a list that a register command refuses, with its status. -/
def firstProblem (s : State) (addrs : List Nat) : Option (Nat × Nat) :=
  addrs.findSome? fun a => (addrProblem s a).map fun st => (st, a % 65536)

/-- Read words in order, each through the latch of the command path (R540). -/
def regWords : List Nat → List Byte → State → List Byte × State
  | [], acc, s => (acc, s)
  | a :: as, acc, s =>
    match readWord false a s with
    | none => (acc, s)
    | some (v, s1) => regWords as (acc ++ bytesLE 4 v) s1

def regReadOp (h : CmdHdr) (addr count : Nat) (s : State) : State :=
  checked h (.regRead addr count) [(1, within 1 1016 count)] (fun st =>
    let addrs := (List.range count).map fun i => addr + 4 * i
    match firstProblem st addrs with
    | some (status, d) => refuse h status d st
    | none =>
      let r := regWords addrs [] st
      done h r.1 r.2) s

def execRegRead (h : CmdHdr) (addr : BitVec 32) (count : BitVec 16) (s : State) : Host.Outcome State Fault Refusal :=
  .next (command h (.regRead addr.toNat count.toNat) (regReadOp h addr.toNat count.toNat) s)

def regWriteOp (h : CmdHdr) (pairs : List (Nat × Nat)) (s : State) : State :=
  if pairs.isEmpty || decide (508 < pairs.length) then refuse h 0x0103 0xFFFF s
  else if pairs.any fun p => writeRefused p.1 p.2 s then refuse h 0x0302 0 s
  else match firstProblem s (pairs.map (·.1)) with
    | some (status, d) => refuse h status d s
    | none => done h [] (each pairs (fun p => writeWord p.1 p.2) s)

def natPairs (ps : List (Word × Word)) : List (Nat × Nat) := ps.map fun p => (p.1.toNat, p.2.toNat)

def execRegWrite (h : CmdHdr) (pairs : List (Word × Word)) (s : State) : Host.Outcome State Fault Refusal :=
  .next (command h (.regWrite (natPairs pairs)) (regWriteOp h (natPairs pairs)) s)

/-- The bits in the mask take the value's. -/
def mergeBits (old mask value : Nat) : Nat :=
  ((BitVec.ofNat 32 old &&& ~~~ BitVec.ofNat 32 mask) ||| (BitVec.ofNat 32 value &&& BitVec.ofNat 32 mask)).toNat

def regRmwOp (h : CmdHdr) (addr mask value : Nat) (s : State) : State :=
  let old := (regWord s addr).getD 0
  let v := mergeBits old mask value
  if writeRefused addr v s then refuse h 0x0302 0 s
  else match addrProblem s addr with
    | some status => refuse h status (addr % 65536) s
    | none => done h (bytesLE 4 old) (writeWord addr v s)

def execRegRmw (h : CmdHdr) (addr mask value : BitVec 32) (s : State) : Host.Outcome State Fault Refusal :=
  .next (command h (.regRmw addr.toNat mask.toNat value.toNat) (regRmwOp h addr.toNat mask.toNat value.toNat) s)

end Sys2Proof.Machine
end

