-- ==== Sys2Proof/Machine/Service.lean ====
section
/-! DEFINITION. Commands of power and thermal (Table 13.12), faults (Table 13.13, those of module scope), snapshots and
diagnostics (Table 13.14), security and firmware (Table 13.15), and the completions of those that are deferred. -/

namespace Sys2Proof.Machine

/-! ## Power and thermal (R448, R453 to R456) -/

def capSetOp (h : CmdHdr) (watts : Nat) (hard : Bool) (s : State) : State :=
  checked h (.capSet watts hard) [(0, within 2400 24000 watts)]
    (fun st => done h [] (if hard then setHardCap watts st else setSoftCap watts st)) s

def execCapSet (h : CmdHdr) (watts : BitVec 16) (hard : Bool) (s : State) : Host.Outcome State Fault Refusal :=
  .next (command h (.capSet watts.toNat hard) (capSetOp h watts.toNat hard) s)

def rampSetOp (h : CmdHdr) (rate : Nat) (s : State) : State :=
  checked h (.rampSet rate) [(0, within 50 4800 rate)] (fun st => done h [] (setRamp rate st)) s

def execRampSet (h : CmdHdr) (rate : BitVec 16) (s : State) : Host.Outcome State Fault Refusal :=
  .next (command h (.rampSet rate.toNat) (rampSetOp h rate.toNat) s)

def heartbeatCmd (h : CmdHdr) (id : BitVec 32) (s : State) : State := done h [] (heartbeatOp id.toNat s)

def execHeartbeat (h : CmdHdr) (id : BitVec 32) (s : State) : Host.Outcome State Fault Refusal :=
  .next (command h (.heartbeat id) (heartbeatCmd h id) s)

def safeCapOp (h : CmdHdr) (percent : Nat) (s : State) : State :=
  checked h (.safeCapSet percent) [(0, within 10 100 percent)]
    (fun st => done h [] { st with power := { st.power with safeCap := percent } }) s

def execSafeCapSet (h : CmdHdr) (percent : BitVec 8) (s : State) : Host.Outcome State Fault Refusal :=
  .next (command h (.safeCapSet percent.toNat) (safeCapOp h percent.toNat) s)

def glowFloorOp (h : CmdHdr) (percent : Nat) (s : State) : State :=
  checked h (.glowFloorSet percent) [(0, decide (percent ≤ 60))]
    (fun st => done h [] { st with power := { st.power with glowFloor := percent } }) s

def execGlowFloorSet (h : CmdHdr) (percent : BitVec 8) (s : State) : Host.Outcome State Fault Refusal :=
  .next (command h (.glowFloorSet percent.toNat) (glowFloorOp h percent.toNat) s)

/-- POWER_STATUS's reply: input voltage and power, the caps, the ramp, then state and TJ of every field. -/
def powerBody (s : State) : List Byte :=
  bytesLE 4 s.power.inputMv ++ bytesLE 4 s.power.inputW ++ bytesLE 4 s.power.capSoft ++ bytesLE 4 s.power.capHard ++
    bytesLE 4 s.power.ramp ++
    (List.range 84).flatMap fun f => bytesLE 1 (fieldStateCode (fieldState s f)) ++ bytesLE 1 (ofSigned 8 (fieldPower s f).tj)

def powerStatusOp (h : CmdHdr) (s : State) : State := done h (powerBody s) s

def execPowerStatus (h : CmdHdr) (s : State) : Host.Outcome State Fault Refusal :=
  .next (command h .powerStatus (powerStatusOp h) s)

/-! ## Fault records (R551) and the return of a field (R108, R387, R468, R471) -/

def faultReadOp (h : CmdHdr) (first count : Nat) (s : State) : State :=
  checked h (.faultRead first count) [(0, decide (first < 256)), (1, within 1 63 count)] (fun st =>
    done h ((List.range count).flatMap fun i =>
      bytesLE 64 (encodeFault (mapGet {} st.fault.records ((first + i) % 256)))) st) s

def execFaultRead (h : CmdHdr) (first count : BitVec 16) (s : State) : Host.Outcome State Fault Refusal :=
  .next (command h (.faultRead first.toNat count.toNat) (faultReadOp h first.toNat count.toNat) s)

def faultClearOp (h : CmdHdr) (mask : Nat) (s : State) : State :=
  done h [] (each ((List.range 256).filter (bitAt mask)) clearRecord s)

def execFaultClear (h : CmdHdr) (mask : BitVec 256) (s : State) : Host.Outcome State Fault Refusal :=
  .next (command h (.faultClear mask.toNat) (faultClearOp h mask.toNat) s)

/-- Has a dark field's protection been reset: none tripped or latched, and one taken dark for heat below 60 °C? -/
def protectionReset (s : State) (f : Nat) : Bool :=
  !bitAt s.power.fieldProt f && !bitAt s.power.fieldLatched f &&
    (!(fieldPower s f).heatDark || decide ((fieldPower s f).tj < 60))

/-- The return begins; FINAL when the field is lit. -/
def fieldReturnOp (h : CmdHdr) (f : Nat) (s : State) : State :=
  if !heldOrIdle s then refuse h 0x0303 0 s
  else if f < 84 ∧ isLit s f then refuse h 0x0002 0 s
  else checked h (.fieldReturn f) [(0, decide (f < 84) && isDark s f && protectionReset s f)] (fun st =>
    owe h (.fieldReturn f) (setField f { fieldS st f with returning := true } st)) s

def execFieldReturn (h : CmdHdr) (f : BitVec 8) (s : State) : Host.Outcome State Fault Refusal :=
  .next (command h (.fieldReturn f.toNat) (fieldReturnOp h f.toNat) s)

def isFieldReturn (f : Nat) (b : CmdBody) : Bool := match b with | .fieldReturn g => decide (g = f) | _ => false

/-- The unit map can be copied: the hub of a lit neighbour holds one (R99). -/
def mapToCopy (s : State) (f : Nat) : Bool :=
  ([Dir.e, .w, .n, .s].filterMap (fieldNext f)).any fun g => isLit s g && (fieldS s g).mapCopy

/-- FIELD_RETURN_COMPLETE: the PLL has locked, the unit map is copied from the hub of a lit neighbour and the quick self-test
passed (R71, R99, R387); the route tables are rebuilt, and an image for the fields now out is put in force. Where one of
the three fails, the field stays dark.
Log entry 113 (DESIGN CHOICE). -/
def execFieldReturnComplete (f : FieldId) (ok : Bool) (s : State) : Host.Outcome State Fault Refusal :=
  .next (whenReady (fun st =>
    if !(fieldS st f.val).returning then st
    else if !ok || !mapToCopy st f.val then
      finish (isFieldReturn f.val) 0x0F01 4 [] (setField f.val { fieldS st f.val with returning := false } st)
    else
      let s1 := litField f.val (updFieldPower f.val (fun q => { q with heatDark := false }) st)
      let s2 := startReplacement { s1 with fabric := { s1.fabric with rebuildPending := true, returnRebuild := true } }
      finish (isFieldReturn f.val) 0 0 [] s2) s)

/-! ## Shutter, snapshots, counters and journals (R507 to R515) -/

/-- SHUTTER_FIRE: a group's at its lead, a job's at the job lead. -/
def shutterFireOp (h : CmdHdr) (scope : ShutterScope) (s : State) : State :=
  let ok := match scope with | .module => true | .group => isLead s | .job => isJobLead s
  if !ok then
    let d := leadDetail s
    refuse h 0x0306 d.1 d.2
  else done h [] (if scope = .module then fireShutter 1 none s else fireGroup 1 (selfIndex s) s)

def execShutterFire (h : CmdHdr) (scope : ShutterScope) (s : State) : Host.Outcome State Fault Refusal :=
  .next (command h (.shutterFire scope) (shutterFireOp h scope) s)

def snapshotChecks (kind index offset length : Nat) : List (Nat × Bool) :=
  [(0, decide (0 < bankCount kind)), (1, decide (index < bankCount kind)), (2, decide (offset + length ≤ bankBytesOf kind)),
   (3, within 8 4048 length)]

/-- SNAPSHOT_READ: 0x0301 while the latch is not complete (R512).
Log entry 48 (DESIGN CHOICE). -/
def snapshotReadOp (h : CmdHdr) (kind index offset length : Nat) (s : State) : State :=
  if s.snap.latching then refuseBusy h s
  else checked h (.snapshotRead kind index offset length) (snapshotChecks kind index offset length)
    (fun st => done h (bankRead st kind index offset length) st) s

def execSnapshotRead (h : CmdHdr) (kind : BitVec 8) (index offset length : BitVec 32) (s : State) :
    Host.Outcome State Fault Refusal :=
  .next (command h (.snapshotRead kind.toNat index.toNat offset.toNat length.toNat)
    (snapshotReadOp h kind.toNat index.toNat offset.toNat length.toNat) s)

def countersReadOp (h : CmdHdr) (first count : Nat) (s : State) : State :=
  checked h (.countersRead first count)
    [(0, decide (first < 1856)), (1, within 1 508 count && decide (first + count ≤ 1856))] (fun st =>
    done h ((List.range count).flatMap fun i => bytesLE 8 (counter st (first + i))) st) s

def execCountersRead (h : CmdHdr) (first count : BitVec 16) (s : State) : Host.Outcome State Fault Refusal :=
  .next (command h (.countersRead first.toNat count.toNat) (countersReadOp h first.toNat count.toNat) s)

/-- Put an entry behind those of its step and of lower ones. -/
def insertByStep (e : StepEntry) : List StepEntry → List StepEntry
  | [] => [e]
  | x :: xs => if e.step < x.step then e :: x :: xs else x :: insertByStep e xs

/-- The step journal in ascending STEP order, within a step as written (R515). -/
def journalSorted (s : State) : List StepEntry := s.snap.journal.foldl (fun l e => insertByStep e l) []

def journalReadOp (h : CmdHdr) (first count : Nat) (s : State) : State :=
  checked h (.journalRead first count) [(1, within 1 63 count)] (fun st =>
    done h ((((journalSorted st).filter fun e => decide (first ≤ e.step)).take count).flatMap encodeStepEntry) st) s

def execJournalRead (h : CmdHdr) (first : BitVec 40) (count : BitVec 16) (s : State) :
    Host.Outcome State Fault Refusal :=
  .next (command h (.journalRead first.toNat count.toNat) (journalReadOp h first.toNat count.toNat) s)

/-- BOOT_JOURNAL_READ: entries in SEQ order from the one named. -/
def bootJournalReadOp (h : CmdHdr) (first count : Nat) (s : State) : State :=
  checked h (.bootJournalRead first count) [(1, within 1 63 count)] (fun st =>
    let from_ := max first st.flash.journalBase
    let es := (st.flash.journal.drop (from_ - st.flash.journalBase)).take count
    done h (es.zipIdx.flatMap fun e => encodeBootEntry (from_ + e.2) e.1) st) s

def execBootJournalRead (h : CmdHdr) (first : BitVec 32) (count : BitVec 16) (s : State) :
    Host.Outcome State Fault Refusal :=
  .next (command h (.bootJournalRead first.toNat count.toNat) (bootJournalReadOp h first.toNat count.toNat) s)

/-! ## Identity and attestation (R434, R435) -/

/-- The seed of a key pair: the first 32 bytes of the SHA-384 of the identity seed and a label. -/
def keySeed (s : State) (label : List Byte) : Nat := Config.sha384 (bytesLE 32 s.flash.seed ++ label) % 2 ^ 256
def edSeed (s : State) : Nat := keySeed s [0x45#8, 0x44#8]
def mldsaSeed (s : State) : Nat := keySeed s [0x4D#8, 0x4C#8, 0x44#8, 0x53#8, 0x41#8]

/-- The attestation report, 512 bytes (Table 14.11). -/
def attestReport (nonceLen : Nat) (s : State) : List Byte :=
  let recovery := decide (s.boot.state = .recovery)
  let layout := match s.place.inForce with | some i => i.layoutId | none => 0
  let keys := Config.sha384 (bytesLE 32 (Config.edPublic (edSeed s)) ++ bytesLE 1952 (Config.mldsaPublic (mldsaSeed s)))
  bytesLE 4 0x54414456 ++ bytesLE 2 1 ++ bytesLE 2 (b2n recovery + 2 * b2n s.boot.quick) ++ bytesLE 8 s.flash.serial ++
    bytesLE 1 s.flash.stepping ++ bytesLE 1 (if recovery then 0xFF else b2n s.boot.slotB) ++ bytesLE 2 s.boot.gpe ++
    bytesLE 8 s.boot.version ++ bytesLE 4 s.boot.start ++ bytesLE 8 (moduleTime s) ++ bytesLE 8 s.boot.iface ++
    ((List.range 8).flatMap fun n => bytesLE 48 (mapGet 0 s.boot.meas n)) ++ bytesLE 8 layout ++ bytesLE 48 keys ++
    bytesLE 1 nonceLen ++ List.replicate 23 0#8

/-- ATTEST: the report and its two signatures over report and nonce, 3,885 bytes. -/
def attestOp (h : CmdHdr) (nonce : List Byte) (s : State) : State :=
  checked h (.attest nonce) [(0, within 16 64 nonce.length)] (fun st =>
    let r := attestReport nonce.length st
    done h (r ++ bytesLE 64 (Config.edSign (edSeed st) (r ++ nonce)) ++
      bytesLE 3309 (Config.mldsaSign (mldsaSeed st) (r ++ nonce))) st) s

def execAttest (h : CmdHdr) (nonce : List Byte) (s : State) : Host.Outcome State Fault Refusal :=
  .next (command h (.attest nonce) (attestOp h nonce) s)

/-! ## Flash (R416 to R421) -/

/-- Bytes staged and not yet programmed. -/
def stagedBytes (s : State) : Nat := (s.boot.staging.map (·.data.length)).sum

/-- Has the staging buffer of 1 MiB room for a write? -/
def stagingRoom (s : State) (len : Nat) : Bool := decide (stagedBytes s + len ≤ 2 ^ 20)

/-- The slot that runs; none in recovery mode. -/
def isRunningSlot (s : State) (slotB : Bool) : Bool := decide (s.boot.state ≠ .recovery) && decide (s.boot.slotB = slotB)

def flashChecks (s : State) (slotB : Bool) (offset : Nat) (len : Nat) : List (Nat × Bool) :=
  [(0, !isRunningSlot s slotB), (1, decide (offset % 256 = 0) && decide (offset + len ≤ 96 * 2 ^ 20)), (2, within 1 4032 len)]

/-- Does the first FLASH_WRITE since the slot's last VERIFIED entry come now? -/
def firstWrite (s : State) (slotB : Bool) : Bool :=
  match s.flash.journal.reverse.find? fun e => (decide (e.step = 0x21) || decide (e.step = 0x22)) && decide (e.slotB = slotB) with
  | some e => decide (e.step = 0x21)
  | none => true

/-- The order in which a slot's bundle is written: offset 0 begins it, and offsets rise (R417).
Log entry 33 (DESIGN CHOICE). -/
def noteOrder (slotB : Bool) (offset len : Nat) (s : State) : State :=
  let k := b2n slotB
  let upTo := mapGet 0 s.flash.writtenUpTo k
  let bad := decide (offset ≠ 0) && (decide (upTo = 0) || decide (offset < upTo))
  { s with flash := { s.flash with
      writtenUpTo := mapSet 0 s.flash.writtenUpTo k (offset + len)
      outOfOrder := if offset = 0 then s.flash.outOfOrder.filter fun x => decide (x ≠ k)
                    else if bad then k :: s.flash.outOfOrder.filter fun x => decide (x ≠ k) else s.flash.outOfOrder } }

/-- Stage a write; the first after the slot's verification cancels it. -/
def stageWrite (slotB : Bool) (offset : Nat) (data : List Byte) (s : State) : State :=
  let s1 := if firstWrite s slotB then journalEntry 0x22 0 0 slotB 0 s else s
  noteOrder slotB offset data.length
    { s1 with boot := { s1.boot with staging := s1.boot.staging ++ [{ slotB := slotB, offset := offset, data := data }] } }

/-- A failed sector is reported once, by the next FLASH_WRITE to its slot. -/
def failedSector (s : State) (slotB : Bool) : Option Nat := (s.flash.failedSectors.find? fun e => decide (e.1 = slotB)).map (·.2)

/-- FLASH_WRITE: OK once its data is staged. Without room it is neither executed nor answered. -/
def flashWriteOp (h : CmdHdr) (slotB : Bool) (offset : Nat) (data : List Byte) (s : State) : State :=
  checked h (.flashWrite slotB offset data) (flashChecks s slotB offset data.length) (fun st =>
    if !(if slotB then st.boot.devB else st.boot.devA) then refuse h 0x0804 0xFFFF st
    else match failedSector st slotB with
      | some n => refuse h 0x0804 n
          { st with flash := { st.flash with failedSectors := st.flash.failedSectors.erase (slotB, n) } }
      | none => if stagingRoom st data.length then done h [] (stageWrite slotB offset data st) else st) s

def execFlashWrite (h : CmdHdr) (slotB : Bool) (offset : BitVec 32) (data : List Byte) (s : State) :
    Host.Outcome State Fault Refusal :=
  .next (command h (.flashWrite slotB offset.toNat data) (flashWriteOp h slotB offset.toNat data) s)

/-- The sectors of 64 KiB whose first byte a write includes: they are erased before it is programmed. -/
def openedSectors (offset len : Nat) : List Nat :=
  (rangeFrom (offset / 65536) ((offset + len - 1) / 65536 + 1)).filter fun n => decide (offset ≤ 65536 * n)

/-- Program a staged write: its sectors are erased, to all ones, then its bytes are written.
Log entry 34 (PRESUMED). -/
def programWrite (w : Staged) (m : Map Byte) : Map Byte :=
  let opened := openedSectors w.offset w.data.length
  mapSetList 0xFF#8 (mapFilter (fun a _ => !opened.contains (a / 65536)) m) w.offset w.data

/-- FLASH_STAGE_DRAIN: the oldest staged write is programmed; a sector that fails to erase or program is kept for the next
FLASH_WRITE's answer. -/
def execFlashStageDrain (ok : Bool) (s : State) : Host.Outcome State Fault Refusal :=
  .next (if !executes s then s else
    match s.boot.staging with
    | [] => s
    | w :: rest =>
      let s1 := { s with boot := { s.boot with staging := rest } }
      if !ok then
        { s1 with flash := { s1.flash with failedSectors := s1.flash.failedSectors ++ [(w.slotB, w.offset / 65536)] } }
      else if w.slotB then { s1 with flash := { s1.flash with bundleB := programWrite w s1.flash.bundleB } }
      else { s1 with flash := { s1.flash with bundleA := programWrite w s1.flash.bundleA } })

/-- BUNDLE_VERIFY: the check is owed. -/
def bundleVerifyOp (h : CmdHdr) (slotB : Bool) (s : State) : State := owe h (.bundleVerify slotB) s

def execBundleVerify (h : CmdHdr) (slotB : Bool) (s : State) : Host.Outcome State Fault Refusal :=
  .next (command h (.bundleVerify slotB) (bundleVerifyOp h slotB) s)

/-- Status and DETAIL of the first check of Table 14.7 that fails; a bundle not written in ascending offsets from 0 fails
as its format does. -/
def verifyStatus (s : State) (slotB : Bool) (c : BundleChecks) : Nat × Nat :=
  if s.flash.outOfOrder.contains (b2n slotB) then (0x0803, 0xFFFF)
  else match bundleFault s slotB c with
    | none => (0, 0)
    | some .format => (0x0803, 0xFFFF)
    | some .keySlot => (0x0801, 3)
    | some (.signature ed mldsa) => (0x0801, b2n ed + 2 * b2n mldsa)
    | some .stepping => (0x0802, s.flash.stepping)
    | some (.image i) => (0x0803, i.val)

def isVerify (d : DeferredS) : Option Bool := match d.body with | .bundleVerify b => some b | _ => none

/-- BUNDLE_VERIFY_DONE: once the staging buffer is empty; a pass writes the VERIFIED entry (R420). -/
def execBundleVerifyDone (t : Nat) (checks : BundleChecks) (s : State) : Host.Outcome State Fault Refusal :=
  let s0 := atTime t s
  .next (if !executes s0 || !s0.boot.staging.isEmpty then s0 else
    match s0.host.deferred.find? fun d => (isVerify d).isSome with
    | none => s0
    | some d =>
      let slotB := (isVerify d).getD false
      let r := verifyStatus s0 slotB checks
      let s1 := { s0 with host := { s0.host with deferred := s0.host.deferred.erase d } }
      reply d.hdr r.1 r.2 [] true (if r.1 = 0 then journalEntry 0x21 0 0 slotB 0 s1 else s1))

/-- BUNDLE_ACTIVATE: the slot is preferred at the next start. -/
def bundleActivateOp (h : CmdHdr) (slotB : Bool) (s : State) : State :=
  checked h (.bundleActivate slotB) [(0, slotVerified s slotB)] (fun st => done h [] (journalEntry 0x20 0 0 slotB 0 st)) s

def execBundleActivate (h : CmdHdr) (slotB : Bool) (s : State) : Host.Outcome State Fault Refusal :=
  .next (command h (.bundleActivate slotB) (bundleActivateOp h slotB) s)

/-- RESET: the reply, then a reset equal to RST_N; in recovery mode a RETRY entry first (R433). -/
def resetOp (h : CmdHdr) (s : State) : State :=
  if !heldOrIdle s then refuse h 0x0302 0 s
  else
    let s1 := if s.boot.state = .recovery then journalEntry 0x24 0 0 s.boot.slotB 0 s else s
    resetModule true (done h [] s1)

def execResetCmd (h : CmdHdr) (s : State) : Host.Outcome State Fault Refusal := .next (command h .reset (resetOp h) s)

end Sys2Proof.Machine
end

