-- ==== Sys2Proof/Machine/Jobs.lean ====
section
/-! DEFINITION. Commands of the job (Table 13.9, its first seven), of rollback, exclusion and shadowing (Table 13.13, those
of job scope, and SHADOW_SET), and of layouts and placement (Table 13.11). -/

namespace Sys2Proof.Machine

/-! ## JOB_CONFIGURE (R12 to R18, R33) -/

def jobChecks (p : JobParams) : List (Nat × Bool) :=
  [(0, within 1 65535 p.jobTag), (1, decide (p.group < 16) && decide (p.group < p.groups)),
   (2, decide (p.member < 64) && decide (p.member < p.members)), (3, within 1 16 p.groups), (4, within 1 64 p.members),
   (5, decide (p.lead < p.members)),
   (6, if p.members ≤ 1 then decide (p.standby = 0xFFFF) else decide (p.standby < p.members) && decide (p.standby ≠ p.lead)),
   (7, within 25 5000 p.period), (8, decide (p.grace ≤ 50)), (11, within 2 8 p.split), (12, within 4 256 p.windowGib),
   (13, within 2 32 p.systemGib), (14, decide (p.kvGib ≤ 512)), (15, within 1 15 p.lateTicks),
   (16, within 1 0xFFFF p.initialEpoch)]

/-- The values of JOB_CONFIGURE, held for JOB_START; the fields of TICK, STREAM and MEMORY are written. -/
def configureJob (p : JobParams) (s : State) : State :=
  let own : Nat := b2n s.pins.leadSel
  let others := p.straps - (if bitAt p.straps p.member then 2 ^ p.member else 0)
  let s1 := { s with
    job := { s.job with
      configured := true, tag := p.jobTag, group := p.group, member := p.member, groups := p.groups, members := p.members
      leadMember := p.lead, standbyMember := if p.members ≤ 1 then none else some p.standby
      role := roleIn p.member p.lead p.standby, split := p.split, initialEpoch := p.initialEpoch
      straps := others + own * 2 ^ p.member }
    tick := { s.tick with period := p.period, grace := p.grace, policy := if p.slipPause then .pause else .cont
                          source := if p.tickExternal then .external else .internal }
    stream := { s.stream with windowGib := p.windowGib }
    mem := { s.mem with systemGib := p.systemGib, kvGib := p.kvGib }
    beam := { s.beam with lateTicks := p.lateTicks }
    grp := { s.grp with members := keepHalts s.grp.members, mask := 2 ^ p.members - 1, owners := [], standbyLost := false
                        noLead := false } }
  match s1.place.inForce with
  | some i => { s1 with red := { s1.red with layers := loadLayers s1 i } }
  | none => s1

/-- The strap of member `m` as module `self` of the group knows it: its own pin, or the operand's bit. -/
def strapIn (self straps m : Nat) (s : State) : Bool := if m = self then s.pins.leadSel else bitAt straps m

/-- The strap of a member as the module knows it. -/
def strapOf (s : State) (straps m : Nat) : Bool := strapIn s.job.member straps m s

/-- JOB_CONFIGURE; a lead or standby lead whose LEAD_SEL is low is refused, the lead first (R17). -/
def jobConfigureOp (h : CmdHdr) (p : JobParams) (s : State) : State :=
  if s.job.started then refuse h 0x0302 0 s
  else checked h (.jobConfigure p) (jobChecks p) (fun st =>
    if !strapIn p.member p.straps p.lead st then refuse h 0x0503 p.lead st
    else if decide (1 < p.members) && !strapIn p.member p.straps p.standby st then refuse h 0x0503 p.standby st
    else done h [] (configureJob p st)) s

def execJobConfigure (h : CmdHdr) (p : JobParams) (s : State) : Host.Outcome State Fault Refusal :=
  .next (command h (.jobConfigure p) (jobConfigureOp h p) s)

/-! ## JOB_START (R39, R237, R257, R339, R352, R438) -/

/-- Does a trained channel's far end not suit its role: a weight server of the module's own GPE on a stream lane, a peer
module's peer lane on the others? -/
def laneMismatch (s : State) (c : Nat) : Bool :=
  laneIn s c &&
    (if isStreamLane s c then decide ((farEnd s c).role ≠ 2) || decide ((farEnd s c).gpe ≠ s.boot.gpe)
     else decide ((farEnd s c).role ≠ 0))

/-- The first member of the group that lacks a direct channel to this module, where its strap is high (R352). -/
def missingDirect (s : State) : Option Nat :=
  if !s.pins.leadSel then none
  else ((groupMembers s).map fun m => 64 * s.job.group + m).find? fun i =>
    decide (i ≠ selfIndex s) && (channelsTo s i).isEmpty

/-- The lowest module of the job whose GPE differs from this module's: by the identity records of its own peer channels, and by
what the other groups' reports bring (R438). -/
def epochRefused (facts : AdmissionFacts) (s : State) : Option Nat :=
  let differs (m : Nat) : Bool := (channelsTo s m).any fun c => decide ((farEnd s c).gpe ≠ s.boot.gpe)
  (jobModules s).find? fun m => decide (facts.refused = some m) || (decide (m ≠ selfIndex s) && differs m)

/-- What refuses the start: status and DETAIL. Where a step would have too many slots (R39), and where owners are not
loaded, the status is the model's.
Log entry 39 (DEDUCED). Log entry 100 (DESIGN CHOICE). -/
def startRefusal (facts : AdmissionFacts) (s : State) : Option (Nat × Nat) :=
  let t0 := takeSplit (rejoinStacks s)
  let t := { t0 with mem := { t0.mem with landLanes := (rankedLanes t0).length } }
  let layout : Option (Nat × Nat) := match s.place.inForce with
    | none => some (0x0505, 3)
    | some i =>
      if i.period ≠ s.tick.period then some (0x0505, 1)
      else if i.split ≠ s.job.split then some (0x0505, 2)
      else if s.place.needLayout || decide (i.outMask ≠ outMask s) then some (0x0505, 3)
      else if !s.job.ownersLoaded && !s.red.layers.isEmpty then some (0x0505, 3)
      else if 16777215 < mostSlots i then some (0x0505, 3)
      else none
  layout <|> (epochRefused facts t).map (fun i => (0x0504, i)) <|>
    ((List.range 1344).find? (laneMismatch t)).map (fun c => (0x0501, c)) <|>
    (match missingDirect t with | some i => some i | none => facts.missingPeer).map (fun i => (0x0502, i)) <|>
    (if carveShort t ≠ 0 then some (0x0402, carveShort t)
     else if s.stream.slotBytes ≠ 0 ∧ windowSlots s < 4 then some (0x0402, 0) else none)

/-- The job lead's job-wide values (R543): the fields of the REDUCE, UPDATE and BEAM pages, TICK.PERIOD and TICK.GRACE. -/
def jobWideValues (s : State) : List Nat :=
  [s.red.headroom, s.red.nonfiniteSteps, s.red.pruneHold, s.red.gscale, s.red.clipNorm, s.red.refreshSteps, s.red.driftK,
   s.red.grossK, b2n s.red.dExport, s.beam.chunkCode, s.beam.collMib, s.beam.lateTicks, s.tick.period, s.tick.grace]

/-- The job lead's job-wide values take the place of the module's own (R543, R34), each within its field's range. -/
def takeJobWide (v : List Nat) (s : State) : State :=
  if v.isEmpty then s
  else { s with
    red := { s.red with
      headroom := clamp 1 12 (nth 0 v 0), nonfiniteSteps := clamp 1 255 (nth 0 v 1), pruneHold := clamp 0 63 (nth 0 v 2)
      gscale := nth 0 v 3, clipNorm := nth 0 v 4, refreshSteps := clamp 1 64 (nth 0 v 5), driftK := clamp 1 255 (nth 0 v 6)
      grossK := clamp 1 255 (nth 0 v 7), dExport := decide (nth 0 v 8 ≠ 0) }
    beam := { s.beam with chunkCode := clamp 0 4 (nth 0 v 9), collMib := clamp 1 16 (nth 0 v 10)
                          lateTicks := clamp 1 15 (nth 0 v 11) }
    tick := { s.tick with period := clamp 25 5000 (nth 0 v 12), grace := clamp 0 50 (nth 0 v 13) } }

def jobStartOp (h : CmdHdr) (facts : AdmissionFacts) (s : State) : State :=
  if isDistributed h then
    let s1 := takeJobWide facts.jobWide s
    (if s.job.configured && !s.job.started && (startRefusal facts s1).isNone then startJob facts s1 else s)
  else if s.job.started then refuse h 0x0302 0 s
  else match startRefusal facts s with
    | some r => refuse h r.1 r.2 s
    | none =>
      owe h (.jobStart facts) (startJob facts
        (emit (.jobWide (jobWideValues s)) (distribute h (.jobStart facts) s)))

def execJobStart (h : CmdHdr) (facts : AdmissionFacts) (s : State) : Host.Outcome State Fault Refusal :=
  .next (command h (.jobStart facts) (jobStartOp h facts) s)

/-! ## JOB_PAUSE, JOB_RESUME, JOB_END (R56, R412, R226) -/

/-- JOB_PAUSE: NO_CHANGE where a host's pause or the slip policy's is pending or in force; one that meets HALT_N's joins
it, and is complete where that holds already.
Log entry 46 (DEDUCED). -/
def jobPauseOp (h : CmdHdr) (s : State) : State :=
  if isDistributed h then (if s.job.started then askPause s else s)
  else if !s.job.started then refuse h 0x0304 0 s
  else if s.job.hostPause then refuse h 0x0002 0 s
  else
    let s1 := { s with job := { s.job with hostPause := true } }
    if s.job.holds.contains 1 then done h [] s1
    else owe h .jobPause (askPause (distribute h .jobPause s1))

def execJobPause (h : CmdHdr) (s : State) : Host.Outcome State Fault Refusal := .next (command h .jobPause (jobPauseOp h) s)

/-- Is an image in force that matches the fields out of service? -/
def layoutFits (s : State) : Bool :=
  !s.place.needLayout && !s.place.replacing &&
    (match s.place.inForce with | some i => decide (i.outMask = outMask s) | none => false)

/-- The stream lanes that the degraded schedule needs: it allows for the loss of STREAM_LANES of them (R376).
Log entry 40 (DESIGN CHOICE). -/
def degradedLanes (s : State) : Nat := 83 * s.fabric.size.streamLanes

/-- The release condition of a HELD cause at JOB_RESUME (Table 13.18): the status and DETAIL where it is not met. Whether the
other modules meet it (6, 7), and whether the rewritten SYSTEM units read back (8), no state of this module says: free values.
Log entry 40 (DESIGN CHOICE). -/
def releaseRefusal (cause : Nat) (s : State) : Option (Nat × Nat) × State :=
  let free := drawFree s
  let unmet := decide (free.1 % 2 = 0)
  let alone := decide (s.job.members ≤ 1) && decide (s.job.groups ≤ 1)
  match cause with
  | 4 => (some (0x0303, 4), s)
  | 5 => (if layoutFits s then none else some (0x0505, 3), s)
  | 6 =>
    if carveShort s ≠ 0 then (some (0x0402, carveShort s), s)
    else if alone then (none, s) else (if unmet then some (0x0402, free.1 / 2) else none, free.2)
  | 7 =>
    if (rankedLanes s).length < degradedLanes s then (some (0x0505, 4), s)
    else if alone then (none, s) else (if unmet then some (0x0505, 4) else none, free.2)
  | 8 => (if unmet then some (0x0303, 8) else none, free.2)
  | 9 => (some (0x0303, 9), s)
  | 10 => (if layoutFits s then none else some (0x0505, 3), s)
  | _ => (none, s)

/-- The first cause in force whose condition is not met.
Log entry 40 (DESIGN CHOICE). -/
def resumeRefusal : List Nat → State → Option (Nat × Nat) × State
  | [], s => (none, s)
  | c :: cs, s =>
    let r := releaseRefusal c s
    if r.1.isSome then r else resumeRefusal cs r.2

/-- The causes whose conditions are met are released; a pause stays while HALT_N asks for it (Table 18.7). The degraded
schedule comes with the release of a lost stream channel. -/
def releaseHolds : List Nat → State → State
  | [], s => s
  | c :: cs, s =>
    let r := releaseRefusal c s
    let stays := r.1.isSome || (decide (c = 1) && s.job.haltPause && haltAsked s)
    let s1 := if stays then r.2 else { r.2 with job := { r.2.job with holds := r.2.job.holds.filter fun x => decide (x ≠ c) } }
    let s2 := if !stays && decide (c = 7) then { s1 with place := { s1.place with degraded := true, returnDue := false } } else s1
    releaseHolds cs s2

def jobResumeOp (h : CmdHdr) (s : State) : State :=
  let resume (st : State) : State := releaseHolds st.job.holds { st with job := { st.job with hostPause := false } }
  if isDistributed h then
    (if s.job.started then
      resume { s with job := { s.job with pauseFor := s.job.pauseFor.filter fun c => decide (c ≠ 1) } } else s)
  else if !s.job.started then refuse h 0x0304 0 s
  else if s.job.holds.isEmpty then refuse h 0x0303 0 s
  else
    let r := resumeRefusal s.job.holds s
    match r.1 with
    | some (status, d) => refuse h status d r.2
    | none => owe h .jobResume (resume (distribute h .jobResume s))

def execJobResume (h : CmdHdr) (s : State) : Host.Outcome State Fault Refusal :=
  .next (command h .jobResume (jobResumeOp h) s)

/-- The job is to end: the stream stops, and every context closes, its work completed with 0x0703.
Log entry 54 (DESIGN CHOICE). -/
def beginEnd (s : State) : State :=
  each (openContexts s) (closeContext 0x0703) (stopStream false { s with job := { s.job with ending := true } })

def jobEndOp (h : CmdHdr) (s : State) : State :=
  if isDistributed h then (if s.job.started then beginEnd s else s)
  else if !s.job.started then refuse h 0x0304 0 s
  else owe h .jobEnd (beginEnd (distribute h .jobEnd s))

def execJobEnd (h : CmdHdr) (s : State) : Host.Outcome State Fault Refusal := .next (command h .jobEnd (jobEndOp h) s)

/-! ## NAME_LEAD (R17, R22, R23) -/

/-- The lead and standby lead named; 0xFF names no standby lead.
Log entry 98 (DESIGN CHOICE). -/
def nameChecks (s : State) (lead standby : Nat) : List (Nat × Bool) :=
  let ok (m : Nat) : Bool := decide (m < s.job.members) && decide ((memberS s (64 * s.job.group + m)).state = .active)
  [(0, ok lead), (1, decide (standby = 0xFF) || (ok standby && decide (standby ≠ lead)))]

/-- Roles taken and relayed to the group, then a rollback to the held boundary.
Log entry 56 (DESIGN CHOICE). -/
def takeRoles (lead standby : Nat) (s : State) : State :=
  let sb := if standby = 0xFF then none else some standby
  let s1 := { s with
    job := { s.job with leadMember := lead, standbyMember := sb, role := roleIn s.job.member lead standby
                        holds := s.job.holds.filter fun c => decide (c ≠ 4), held := true }
    grp := { s.grp with noLead := false, standbyLost := sb.isNone } }
  let s2 := emit (.roles lead sb) s1
  if lead = s2.job.member then assumeLead s2 else s2

def nameLeadOp (h : CmdHdr) (lead standby straps : Nat) (s : State) : State :=
  if !s.job.started || !s.job.holds.contains 4 then refuse h 0x0303 (s.job.holds.headD 0) s
  else checked h (.nameLead lead standby straps) (nameChecks s lead standby) (fun st =>
    if !strapOf st straps lead then refuse h 0x0503 lead st
    else if standby ≠ 0xFF ∧ strapOf st straps standby = false then refuse h 0x0503 standby st
    else takeRoles lead standby (owe h (.nameLead lead standby straps) st)) s

def execNameLead (h : CmdHdr) (lead standby : BitVec 8) (straps : BitVec 64) (s : State) :
    Host.Outcome State Fault Refusal :=
  .next (command h (.nameLead lead.toNat standby.toNat straps.toNat) (nameLeadOp h lead.toNat standby.toNat straps.toNat) s)

/-! ## ROLLBACK, EXCLUDE, SHADOW_SET (R483, R485, R499) -/

def rollbackOp (h : CmdHdr) (s : State) : State :=
  if !s.job.started then refuse h 0x0304 0 s else owe h .rollback (requestRollback 12 s)

def execRollback (h : CmdHdr) (s : State) : Host.Outcome State Fault Refusal :=
  .next (command h .rollback (if isDistributed h then id else rollbackOp h) s)

/-- A module of the job that is ACTIVE or DRAINING. -/
def excludable (s : State) (i : Nat) : Bool :=
  (jobModules s).contains i && (decide ((memberS s i).state = .active) || decide ((memberS s i).state = .draining))

def excludeOp (h : CmdHdr) (index : Nat) (s : State) : State :=
  if !s.job.started then refuse h 0x0304 0 s
  else checked h (.exclude index) [(0, excludable s index)] (fun st => owe h (.exclude index) (excludeMember index 12 st)) s

def execExclude (h : CmdHdr) (index : BitVec 16) (s : State) : Host.Outcome State Fault Refusal :=
  .next (command h (.exclude index.toNat) (if isDistributed h then id else excludeOp h index.toNat) s)

/-- SHADOW_SET: in a job of one group, another member's blocks enter the carve. -/
def shadowSetOp (h : CmdHdr) (member : Nat) (s : State) : State :=
  if s.job.started then refuse h 0x0302 0 s
  else checked h (.shadowSet member)
    [(0, decide (s.job.groups ≤ 1) && decide (member < s.job.members) && decide (member ≠ s.job.member))]
    (fun st => done h [] { st with grp := { st.grp with shadowed := some member } }) s

def execShadowSet (h : CmdHdr) (member : BitVec 8) (s : State) : Host.Outcome State Fault Refusal :=
  .next (command h (.shadowSet member.toNat) (shadowSetOp h member.toNat) s)

/-! ## Layouts and placement (Table 13.11) -/

/-- LAYOUT_LOAD: the check is owed (LAYOUT_LOAD_DONE). -/
def layoutLoadOp (h : CmdHdr) (offset length : Nat) (s : State) : State :=
  if s.place.replacing then refuseBusy h s
  else if s.place.loading.isSome then refuse h 0x0301 0x0401 s
  else if !heldOrIdle s then refuse h 0x0302 0 s
  else owe h (.layoutLoad offset length) { s with place := { s.place with loading := some offset } }

def execLayoutLoad (h : CmdHdr) (offset length : BitVec 64) (s : State) : Host.Outcome State Fault Refusal :=
  .next (command h (.layoutLoad offset.toNat length.toNat) (layoutLoadOp h offset.toNat length.toNat) s)

/-- LAYOUT_QUERY's reply: LAYOUT_ID, KIND, FIELD, schedule (0 primary, 1 degraded), MAP_VERSION. -/
def layoutQueryOp (h : CmdHdr) (s : State) : State :=
  match s.place.inForce with
  | none => refuse h 0x0505 3 s
  | some i =>
    done h (bytesLE 8 i.layoutId ++ bytesLE 1 i.kind ++ bytesLE 1 i.field ++
      bytesLE 2 (b2n (s.place.degraded || i.primary.isNone)) ++ bytesLE 4 s.fabric.size.mapVersion) s

def execLayoutQuery (h : CmdHdr) (s : State) : Host.Outcome State Fault Refusal :=
  .next (command h .layoutQuery (layoutQueryOp h) s)

/-- The training state of a block: of a partly trained tensor, the one that the layout's block record gives it (Table 10.1, Table
10.5).
Log entry 64 (DESIGN CHOICE). -/
def trainState (s : State) (b : Nat) : Nat × Nat :=
  match layerAt s b, (s.place.inForce.bind fun i => i.blockRecords.find? fun e => decide (e.1 = b)) with
  | some (l, _), some e => if l.part then (field e.2.toNat 4 2, field e.2.toNat 192 64) else (0, 0)
  | _, _ => (0, 0)

/-- An owned block as loaded with its master (R304): where the host writes its exponent the spec does not say, so it is a free
value in the range of R302.
Log entry 64 (DESIGN CHOICE). -/
def loadExponent (b : Nat) (s : State) : State :=
  let d := drawFree s
  let e := clampExp (toSigned 16 d.1)
  let t := trainState s b
  setBlock b { stepBexp := e, openBexp := e, bexp := e, nextBexp := e, train := t.1, rowMask := t.2 } d.2

def ownerLoadedOp (h : CmdHdr) (s : State) : State :=
  if s.job.started then refuse h 0x0302 0 s
  else if s.place.inForce.isNone then refuse h 0x0505 3 s
  else
    let s1 := each (ownedBlocks s) loadExponent s
    done h [] { s1 with mem := { s1.mem with ownerCur := false }, job := { s1.job with ownersLoaded := true } }

def execOwnerLoaded (h : CmdHdr) (s : State) : Host.Outcome State Fault Refusal :=
  .next (command h .ownerLoaded (ownerLoadedOp h) s)

/-- OWNER_EXPOSE: a READ grant on the current bank, until the next resume. -/
def ownerExposeOp (h : CmdHdr) (s : State) : State :=
  if !s.job.held then refuse h 0x0303 0 s
  else grantRegion h { kind := 3, ctx := 0xFF, read := true, write := false, offset := 0, length := regionBytes s 3 0xFF } true s

def execOwnerExpose (h : CmdHdr) (s : State) : Host.Outcome State Fault Refusal :=
  .next (command h .ownerExpose (ownerExposeOp h) s)

/-- SELF_TEST: refused while a context has work (R103). -/
def selfTestOp (h : CmdHdr) (quick : Bool) (s : State) : State :=
  if anyWork s then refuseBusy h s else owe h (.selfTest quick) s

def execSelfTest (h : CmdHdr) (quick : Bool) (s : State) : Host.Outcome State Fault Refusal :=
  .next (command h (.selfTest quick) (selfTestOp h quick) s)

def isSelfTest (d : DeferredS) : Option Bool := match d.body with | .selfTest q => some q | _ => none

/-- What a test finds failed in service that the map did not hold: routers, each with its field, and links, each with the
field that R84 takes dark. -/
def newlyFailed (s : State) (r : TestResult) : List (FaultRec × Nat) :=
  (r.routers.filter fun x => !s.fabric.failedRouters.contains x).map (fun x =>
    ({ cls := 3, code := 6, block := x, field := x / 640 }, x / 640)) ++
  (r.wires.filter fun w => !s.fabric.failedWires.contains w).map fun w =>
    let f := retiredField { router := Fin.ofNat 53760 (w.1 / 4), dir := dirOf (w.1 % 4) }
    ({ cls := 3, code := 6, block := w.1 / 4, field := f, detail := w.1 }, f)

/-- SELF_TEST_DONE: of the command, whose kind it was, or of a drained module's full test (R482). The map is stored; a
block found failed that serves a leaf leaves at the next boundary, and a router or link found failed is recorded and takes
its field dark (R104, cause 6). The test runs while no context has work (R103): with work on the module it does not end.
Log entry 47 (DEDUCED). Log entry 112 (DESIGN CHOICE). -/
def execSelfTestDone (t : Nat) (result : TestResult) (s : State) : Host.Outcome State Fault Refusal :=
  .next (whenReady (fun st =>
    let s0 := atTime t st
    let due := s0.host.deferred.find? fun d => (isSelfTest d).isSome
    if (due.isNone && !s0.grp.drainHold) || anyWork s0 then s0
    else
      let quick := (due.bind isSelfTest).getD false && !s0.grp.drainHold
      let before := s0.fabric.outBlocks
      let s1 := storeDefects (if quick then .quick else .full) result s0
      let new := s1.fabric.outBlocks.filter fun b => !before.contains b
      let s2 := { s1 with
        grp := { s1.grp with drainHold := s1.grp.drainHold && quick }
        fabric := { s1.fabric with
          outBlocks := s1.fabric.outBlocks.filter fun b => !new.contains b
          retireNext := s1.fabric.retireNext ++ (new.filter fun b => !s1.fabric.retireNext.contains b) } }
      let s3 := if heldOrIdle s2 then rebindRetired s2 else s2
      let s4 := each (newlyFailed s0 result) (fun e st => darkField e.2 6 (faultEvent e.1 st)) (refreshSize s3)
      match due with
      | none => s4
      | some d => reply d.hdr 0 0 (bytesLE 8 s4.fabric.size.defectAge) true
          { s4 with host := { s4.host with deferred := s4.host.deferred.erase d } }) s)

end Sys2Proof.Machine
end

