-- ==== Sys2Proof/Machine/Contexts.lean ====
section
/-! DEFINITION. Commands of contexts, rules and requests (Table 13.9, from CONTEXT_OPEN on) and of the stream and its epochs
(Table 13.10). -/

namespace Sys2Proof.Machine

/-! ## Contexts (R26, Table 9.5) -/

def contextChecks (s : State) (p : CtxParams) : List (Nat × Bool) :=
  let v := p.serve
  let serves := decide (p.kind = .serve)
  [(0, decide (p.ctx < 64) && !ctxOpen s p.ctx), (1, decide (p.kind ≠ .train) || !hasTraining s),
   (2, decide (p.inputMib ≤ 4096)), (3, !serves || (within 1 65536 v.maxRequests && decide (v.maxRequests ≤ v.passTokens))),
   (4, !serves || within 1 262144 v.passTokens), (5, !serves || within 1 65536 v.maxNew),
   (6, !serves || decide (v.kvPage = 16) || decide (v.kvPage = 64) || decide (v.kvPage = 256)),
   (7, !serves || decide (v.stopTokens.length ≤ 8))]

/-- The context that CONTEXT_OPEN opens. -/
def newContext (p : CtxParams) : ContextS :=
  { kind := some p.kind, inputMib := p.inputMib, maxRequests := p.serve.maxRequests, passTokens := p.serve.passTokens
    maxNew := p.serve.maxNew, kvPage := p.serve.kvPage, stopTokens := p.serve.stopTokens }

/-- CONTEXT_OPEN: 0x0401 (3) where a page size is known and KV has no page free. -/
def contextOpenOp (h : CmdHdr) (p : CtxParams) (s : State) : State :=
  if !s.job.configured then refuse h 0x0304 0 s
  else checked h (.contextOpen p) (contextChecks s p) (fun st =>
    let c := newContext p
    if p.kind = .serve ∧ kvPageBytes st c ≠ 0 ∧ freePages st c = 0 then refuse h 0x0401 3 st
    else done h [] (setCtx p.ctx c st)) s

def execContextOpen (h : CmdHdr) (p : CtxParams) (s : State) : Host.Outcome State Fault Refusal :=
  .next (command h (.contextOpen p) (contextOpenOp h p) s)

/-- CONTEXT_CLOSE: its work completes with 0x0702, and it is empty. -/
def contextCloseOp (h : CmdHdr) (s : State) : State := done h [] (closeContext 0x0702 h.ctx.toNat s)

def execContextClose (h : CmdHdr) (s : State) : Host.Outcome State Fault Refusal :=
  .next (command h .contextClose (contextCloseOp h) s)

/-! ## SET_RULE (R301, R322, R409) -/

/-- Does the layout in force have a layer record of a tensor? -/
def knowsTensor (s : State) (tensor : Nat) : Bool :=
  decide (tensor = 0xFFFFFFFF) || (match s.place.inForce with
    | some i => (layersOf i).any fun r => decide (r.tensor = tensor)
    | none => false)

def ruleChecks (s : State) (tensor : Nat) (f : RuleField) (value : Nat) : List (Nat × Bool) :=
  [(0, knowsTensor s tensor), (2, decide (f ≠ .refreshSteps) || within 1 64 value)]

/-- The value applies at the next step boundary, at once while no job runs. -/
def setRuleNow (tensor : Nat) (f : RuleField) (value : Nat) : State → State :=
  atBoundary (applyRule (tensor, f, value))
    (fun q => { q with host := { q.host with ruleWrites := q.host.ruleWrites ++ [(tensor, f, value)] } })

def setRuleOp (h : CmdHdr) (tensor : Nat) (f : RuleField) (value : Nat) (s : State) : State :=
  let b : CmdBody := .setRule tensor f value
  if isDistributed h then setRuleNow tensor f value s
  else if !s.job.configured then refuse h 0x0304 0 s
  else checked h b (ruleChecks s tensor f value) (fun st => done h [] (setRuleNow tensor f value (distribute h b st))) s

def execSetRule (h : CmdHdr) (tensor : BitVec 32) (f : RuleField) (value : BitVec 32) (s : State) :
    Host.Outcome State Fault Refusal :=
  .next (command h (.setRule tensor.toNat f value.toNat) (setRuleOp h tensor.toNat f value.toNat) s)

/-! ## BATCH_READY (R272) -/

/-- The step whose input a TRAIN context may be told of: the one in progress plus 1. -/
def batchStep (s : State) : Nat := if s.job.started then nextStep s else 1

def batchChecks (s : State) (train : Bool) (mib step bytes : Nat) : List (Nat × Bool) :=
  [(0, !train || decide (step = batchStep s)), (1, within 1 (mib * 2 ^ 20) bytes)]

/-- BATCH_READY of a TRAIN context is immediate; an EVAL context's batch, pinned to the epoch open now (R27), runs at the
next pass, its FINAL owed.
Log entry 45 (DEDUCED). -/
def batchReadyOp (h : CmdHdr) (step bytes : Nat) (s : State) : State :=
  let n := h.ctx.toNat
  let c := ctxOf s n
  let b : CmdBody := .batchReady step bytes
  if c.kind = some .serve then refuse h 0x0104 n s
  else
    let train := decide (c.kind = some .train)
    checked h b (batchChecks s train c.inputMib step bytes) (fun st =>
      let st1 := setCtx n { c with ready := some step, readyBytes := bytes
                                   inputEpoch := if train then c.inputEpoch else st.tick.epoch } st
      if train then done h [] st1 else owe h b (reply h 1 0 [] false st1)) s

def execBatchReady (h : CmdHdr) (step : BitVec 40) (bytes : BitVec 64) (s : State) : Host.Outcome State Fault Refusal :=
  .next (command h (.batchReady step.toNat bytes.toNat) (batchReadyOp h step.toNat bytes.toNat) s)

/-! ## Requests (R291, R240) -/

/-- Where a context's input area lies in SYSTEM: the areas of the open contexts from the top down, in context order.
Log entry 62 (DESIGN CHOICE). -/
def inputBase (s : State) (n : Nat) : Nat :=
  s.mem.systemGib * 2 ^ 30 - ((List.range (n + 1)).map fun k => regionBytes s 2 k).sum

/-- The prompt's tokens: inline, or 32-bit words at an offset of the input area. -/
def promptOf (s : State) (n : Nat) (p : RequestParams) : List Nat :=
  if p.indirect then
    (List.range p.promptLen).map fun i => ofBytesLE (systemRead s (inputBase s n + p.prompt.headD 0 + 4 * i) 4)
  else p.prompt

def requestChecks (c : ContextS) (p : RequestParams) : List (Nat × Bool) :=
  [(0, within 1 c.passTokens p.promptLen && (p.indirect || decide (p.promptLen ≤ 1012))), (1, within 1 c.maxNew p.newLen),
   (4, !p.indirect || decide (p.prompt.headD 0 + 4 * p.promptLen ≤ c.inputMib * 2 ^ 20))]

/-- REQUEST: the state of the page size comes before the parameters; then admission. -/
def requestOp (h : CmdHdr) (p : RequestParams) (s : State) : State :=
  let n := h.ctx.toNat
  let c := ctxOf s n
  if c.kind ≠ some .serve then refuse h 0x0104 n s
  else if kvPageBytes s c = 0 then refuse h 0x0505 3 s
  else checked h (.request p) (requestChecks c p) (fun st =>
    admitRequest n { hdr := h, indirect := p.indirect, prompt := promptOf st n p, promptLen := p.promptLen
                     newLen := p.newLen, sampled := p.sampled, seed := p.seed.toNat, epoch := none
                     pages := pagesFor c p.promptLen p.newLen, tokens := [], inBatch := false, cancelled := false
                     stopped := false, kvLost := false } st) s

def execRequest (h : CmdHdr) (p : RequestParams) (s : State) : Host.Outcome State Fault Refusal :=
  .next (command h (.request p) (requestOp h p) s)

/-- Does a request of this SEQ stand that its last pass does not already run? -/
def cancellable (s : State) (seq : BitVec 32) (r : RequestS) : Bool :=
  decide (r.hdr.seq = seq) && !r.cancelled &&
    !(s.job.passRunning && r.inBatch && decide (r.newLen ≤ r.tokens.length + 1))

/-- CANCEL: the request ends at the next pass boundary; at once where no job runs. -/
def cancelOp (h : CmdHdr) (seq : BitVec 32) (s : State) : State :=
  let n := h.ctx.toNat
  let c := ctxOf s n
  if c.kind ≠ some .serve then refuse h 0x0104 n s
  else if !c.requests.any (cancellable s seq) then refuse h 0x0002 0 s
  else if !s.job.started then done h [] (endRequests n (cancellable s seq) (fun _ => (0x0702, 0)) s)
  else
    let mark (r : RequestS) : RequestS := if cancellable s seq r then { r with cancelled := true } else r
    done h [] (setCtx n { c with requests := c.requests.map mark } s)

def execCancel (h : CmdHdr) (seq : BitVec 32) (s : State) : Host.Outcome State Fault Refusal :=
  .next (command h (.cancel seq) (cancelOp h seq) s)

/-! ## The stream and its epochs (R242 to R244, R555) -/

/-- A pending epoch replaces one that has not taken effect, whose command is cancelled. -/
def pendEpoch (epoch : Nat) (s : State) : State :=
  let s1 := finish isEpochSwitch 0x0702 0 [] s
  { s1 with stream := { s1.stream with pending := some epoch } }

def epochSwitchOp (h : CmdHdr) (epoch : Nat) (s : State) : State :=
  let b : CmdBody := .epochSwitch epoch
  if isDistributed h then (if s.job.started then pendEpoch epoch s else s)
  else if !s.job.started then refuse h 0x0304 0 s
  else if s.stream.dual then refuse h 0x0301 0x0301 s
  else checked h b [(0, decide (epoch ≠ 0))] (fun st => owe h b (pendEpoch epoch (distribute h b st))) s

def execEpochSwitch (h : CmdHdr) (epoch : BitVec 16) (s : State) : Host.Outcome State Fault Refusal :=
  .next (command h (.epochSwitch epoch.toNat) (epochSwitchOp h epoch.toNat) s)

/-- EPOCH_WITHDRAW: complete at once where no epoch is open. -/
def epochWithdrawOp (h : CmdHdr) (s : State) : State :=
  let withdraw (st : State) : State := { st with stream := { st.stream with withdraw := true } }
  if isDistributed h then (if s.job.started && decide (s.stream.epochA ≠ 0) then withdraw s else s)
  else if !s.job.started then refuse h 0x0304 0 s
  else if s.stream.epochA = 0 then done h [] s
  else owe h .epochWithdraw (withdraw (distribute h .epochWithdraw s))

def execEpochWithdraw (h : CmdHdr) (s : State) : Host.Outcome State Fault Refusal :=
  .next (command h .epochWithdraw (epochWithdrawOp h) s)

def streamLimitsOp (h : CmdHdr) (dual rep : Nat) (s : State) : State :=
  let b : CmdBody := .streamLimits dual rep
  let put (st : State) : State := { st with stream := { st.stream with dualLimit := clamp 1 64 dual, repeatLimit := clamp 1 255 rep } }
  if isDistributed h then put s
  else if !heldOrIdle s then refuse h 0x0302 0 s
  else checked h b [(0, within 1 64 dual), (1, within 1 255 rep)] (fun st => done h [] (put (distribute h b st))) s

def execStreamLimits (h : CmdHdr) (dual rep : BitVec 8) (s : State) : Host.Outcome State Fault Refusal :=
  .next (command h (.streamLimits dual.toNat rep.toNat) (streamLimitsOp h dual.toNat rep.toNat) s)

/-- STREAM_STATUS's reply: the STREAM counters in index order, OLDEST, CREDIT_LIMIT, ACTIVE_LANES. -/
def streamStatusOp (h : CmdHdr) (s : State) : State :=
  done h (((rangeFrom 194 202).flatMap fun k => bytesLE 8 (counter s k)) ++ bytesLE 8 s.stream.oldest ++
    bytesLE 8 (creditLimit s) ++ bytesLE 8 s.stream.activeLanes) s

def execStreamStatus (h : CmdHdr) (s : State) : Host.Outcome State Fault Refusal :=
  .next (command h .streamStatus (streamStatusOp h) s)

end Sys2Proof.Machine
end

