-- ==== Sys2Proof/Machine/Tensor.lean ====
section
/-! DEFINITION. The tensor class (R110 to R117), with the accumulator of R152 to R158, block scales (R147 to R151) and
sparse operands (R178 to R181). The fused instructions use its product (R137). -/

namespace Sys2Proof.Machine

/-! ## The accumulator (R152 to R158) -/

/-- An integer shifted to a new exponent, truncated toward zero where bits fall below it. -/
def alignTo (lsbe : Int) (v e : Int) : Int :=
  if lsbe ≤ e then v * 2 ^ (e - lsbe).toNat else v.tdiv (2 ^ (lsbe - e).toNat)

/-- The fewest right shifts that bring a magnitude below 2^62. -/
def overBits (m : Nat) : Nat := if m < 2 ^ 62 then 0 else Nat.log2 m - 61

/-- An integer mod 15. -/
def mod15 (v : Int) : Nat := (v % 15).toNat

/-- A value with the residue that the cell carries of its signed significand (R168). -/
abbrev Carried := Val × Nat

/-- The residue formed of an element's or scale's significand, implicit bit included, with its sign. -/
def valRes : Val → Nat
  | .fin neg mag _ => mod15 (if neg then -(mag : Int) else mag)
  | _ => 0

def carry (v : Val) : Carried := (v, valRes v)

/-- A product, its residue the product of residues. -/
def carriedMul (a b : Carried) : Carried := (valMul a.1 b.1, a.2 * b.2 % 15)

/-- A residue after a left shift. -/
def resUp (r n : Nat) : Nat := r * 2 ^ n % 15

/-- A residue after a right shift by `n` that drops `dropped`: the dropped bits' residue off, times 8^n (R168). -/
def resDown (r : Nat) (dropped : Int) (n : Nat) : Nat := (r + 15 - mod15 dropped) * 8 ^ n % 15

/-- A sum, its residue the sum of the aligned residues. -/
def carriedAdd (a b : Carried) : Carried :=
  match a.1, b.1 with
  | .fin _ _ e1, .fin _ _ e2 =>
    let lo := min e1 e2
    (valAdd a.1 b.1, (resUp a.2 (e1 - lo).toNat + resUp b.2 (e2 - lo).toNat) % 15)
  | _, _ => (valAdd a.1 b.1, 0)

/-- The residue of `v · 2^e` aligned to a new exponent (R168). -/
def alignRes (lsbe : Int) (v e : Int) (r : Nat) : Nat :=
  if lsbe ≤ e then resUp r (e - lsbe).toNat else resDown r (v.tmod (2 ^ (lsbe - e).toNat)) (lsbe - e).toNat

/-- SIG with the residue it carries (R168). -/
def withSig (a : AccCell) (sig lsbe : Int) (res : Nat) : AccCell :=
  { a with sig := sig, lsbe := lsbe, valid := true, res := res }

/-- SPECIAL in both copies (R169). -/
def withSpecial (a : AccCell) (sp : Special) : AccCell := { a with special := sp, specialCopy := sp }

/-- Add an addend to a cell (R153, R154, R157); `none` where the carried residue disagrees at a shift, which is then not
committed (R169, R177). -/
def addAddend (a : AccCell) (d : Carried) : Option AccCell :=
  match d.1 with
  | .nan => some (withSpecial a .nan)
  | .inf neg =>
    match a.special with
    | .none => some (withSpecial a (if neg then .ninf else .pinf))
    | .pinf => some (if neg then withSpecial a .nan else a)
    | .ninf => some (if neg then a else withSpecial a .nan)
    | .nan => some a
  | .fin neg mag exp =>
    if mag = 0 then some a else
    let v : Int := if neg then -(mag : Int) else mag
    let lsbe := if a.valid then a.lsbe else leadExp mag exp - 61
    let sum := (if a.valid then a.sig else 0) + alignTo lsbe v exp
    let res := ((if a.valid then a.res else 0) + alignRes lsbe v exp d.2) % 15
    let n := overBits sum.natAbs
    if n = 0 then some (withSig a sum lsbe res)
    else if res ≠ mod15 sum then none
    else some (withSig a (sum.tdiv (2 ^ n)) (lsbe + n) (resDown res (sum.tmod (2 ^ n)) n))

/-- Do the carried residue and SIG agree, and the two copies of SPECIAL (R169)? -/
def cellChecks (a : AccCell) : Bool := decide (a.res = mod15 a.sig) && decide (a.special = a.specialCopy)

/-- The value of a cell rounded once to FP32, nearest even; a zero sum drains as +0 (R158). -/
def drainWord (a : AccCell) : Nat :=
  match a.special with
  | .nan => fpNan
  | .pinf => fpEnc (.inf false)
  | .ninf => fpEnc (.inf true)
  | .none => if a.sig = 0 then 0 else fpEnc (.fin (decide (a.sig < 0)) a.sig.natAbs a.lsbe)

/-- Cell (i, j) of a set. -/
def cellKey (set i j : Nat) : Nat := 16 * set + 4 * i + j
def cellOf (o : CoreS) (set i j : Nat) : AccCell := mapGet {} o.acc (cellKey set i j)

/-! ## Operands (R110 to R112, R115, R178 to R181) -/

/-- One side of a product: format, the element type of its elements, base address, orientation, where its block
scales begin. -/
structure Side where
  fmt : Fmt
  elem : Elem
  base : Nat
  orient : Bool
  scales : Nat
  deriving DecidableEq, Repr

/-- Two elements share a byte in 4-bit formats. -/
def pairPer (d : Side) : Nat := if elemBits d.elem ≤ 4 then 2 else 1

/-- Bytes of an element or pair. -/
def slotBytes (d : Side) : Nat := if elemBits d.elem = 16 then 2 else 1

/-- The bits of slot [r][c] of micro-tile `t`. -/
def slotWord (o : CoreS) (d : Side) (t r c : Nat) : Nat :=
  sramNat o (d.base + (16 * t + 4 * r + c) * slotBytes d) (slotBytes d)

/-- The element's bits within a slot: the whole of it, or one of a pair, the lower index in bits [3:0]. -/
def slotElem (d : Side) (w n : Nat) : Nat := if pairPer d = 2 then field w (4 * n) 4 else field w 0 (elemBits d.elem)

/-- Positions of k that a slot of a dense micro-tile holds: the pair's two at orientation 0, one at orientation 1, where
the pair lies across the bus (R111, R112). -/
def kPer (d : Side) : Nat := if d.orient then 1 else pairPer d

/-- The element that line `n` of a dense side gets at step `k`: latch (n, k mod 4) of the micro-tile for A at orientation
0, latch (k mod 4, n) at orientation 1, and the other way round for B (R110). Of a pair read with orientation 1, which lies
across the bus, the element of lower index.
Log entry 115 (DESIGN CHOICE). -/
def elemDense (o : CoreS) (d : Side) (alongRows : Bool) (n k : Nat) : Nat :=
  let per := kPer d
  let p := k / per % 4
  let rowFirst := alongRows != d.orient
  slotElem d (slotWord o d (k / (4 * per)) (if rowFirst then n else p) (if rowFirst then p else n)) (k % per)

/-- Element (i, k) of A (R110). -/
def elemA (o : CoreS) (d : Side) (i k : Nat) : Nat := elemDense o d true i k

/-- Element (k, j) of a dense B (R110). -/
def elemB (o : CoreS) (d : Side) (k j : Nat) : Nat := elemDense o d false j k

/-- The position code of group `g` of column `j` of a strip of K dense rows (R181). -/
def codeOf (o : CoreS) (d : Side) (sp : Sparse) (kLen g j : Nat) : Nat :=
  let per := pairPer d
  let dense := sparseD sp per
  let groups := dense / sparseGroup sp
  let m := g / groups
  let bits := sparseCodeBits sp
  let at_ := (j * groups + g % groups) * bits
  field (sramNat o (d.base + 16 * ceilDiv kLen dense + m * sparseC sp per) (sparseC sp per)) at_ bits

/-- Element (k, j) of a strip as stored: `none` at a position that is not kept. -/
def stripElem (o : CoreS) (d : Side) (sp : Sparse) (kLen k j : Nat) : Option Nat :=
  let g := k / sparseGroup sp
  match codePositions sp (codeOf o d sp kLen g j) with
  | none => none
  | some ps =>
    let rank := ps.findIdx fun p => decide (p = k % sparseGroup sp)
    if ps.length ≤ rank then none
    else
      let per := pairPer d
      let groups := sparseD sp per / sparseGroup sp
      let slot := g % groups * sparseKept sp + rank
      some (slotElem d (slotWord o d (g / groups) (slot / per) j) (slot % per))

/-- Element (k, j) of B, `none` where it forms no product. A TS24 operand read with orientation 1 exchanges rows and
columns of each 4 × 4 block (R180). -/
def operandB (o : CoreS) (d : Side) (sp : Sparse) (kLen k j : Nat) : Option Nat :=
  if sp = .dense then some (elemB o d k j)
  else if d.orient then stripElem o d sp kLen (4 * (k / 4) + j) (k % 4)
  else stripElem o d sp kLen k j

/-- Is every code that the MMA reads in its valid set (Table 6.2)? -/
def codesValid (o : CoreS) (d : Side) (sp : Sparse) (kLen : Nat) : Bool :=
  (List.range (kLen / sparseGroup sp)).all fun g =>
    let cs := (List.range 4).map fun j => codeOf o d sp kLen g j
    if sp = .ts24 then ts24Valid cs else cs.all fun c => (codePositions sp c).isSome

/-! ## Block scales (R147 to R151) -/

/-- The scale entry of line `n` (a row of A, a column of B), block `b` of K / 32: exponent byte and trim byte. -/
def scaleEntry (o : CoreS) (d : Side) (kLen n b : Nat) : Nat × Nat :=
  match d.fmt with
  | .mx => (sramNat o (d.scales + n * (kLen / 32) + b) 1, 0)
  | .t4 => (sramNat o (d.scales + 2 * (n * (kLen / 32) + b)) 1, sramNat o (d.scales + 2 * (n * (kLen / 32) + b) + 1) 1)
  | .elem _ => (127, 0)

/-- The scale that applies at position `k` of line `n`; 1 for an operand that is not block-scaled. -/
def scaleAt (o : CoreS) (d : Side) (kLen n k : Nat) : Val :=
  let e := scaleEntry o d kLen n (k / 32)
  match d.fmt with
  | .mx => e8m0 e.1
  | .t4 => t4Scale e.1 (field e.2 (4 * (k / 16 % 2)) 4)
  | .elem _ => .fin false 1 0

/-- An element as a value before its scale: NaN in an MX block of scale NaN, zero in a T4 block of exponent 0. -/
def elemVal (o : CoreS) (d : Side) (kLen n k w : Nat) : Val :=
  let e := scaleEntry o d kLen n (k / 32)
  match d.fmt with
  | .mx => if e.1 = 0xFF then .nan else decodeElem d.elem w
  | .t4 => if e.1 = 0 then .fin false 0 0 else decodeElem d.elem w
  | .elem _ => decodeElem d.elem w

/-- Is some T4 exponent byte of an operand 0xFF (R150)? -/
def badT4 (o : CoreS) (d : Side) (kLen : Nat) : Bool :=
  decide (d.fmt = .t4) && (List.range 4).any fun n => (List.range (kLen / 32)).any fun b =>
    decide ((scaleEntry o d kLen n b).1 = 0xFF)

def isScaled : Fmt → Bool
  | .elem _ => false
  | _ => true

/-! ## The product -/

/-- A product resolved: its sides, sparse format, K, set and mode, and the PRELOAD source. -/
structure Product where
  a : Side
  b : Side
  sparse : Sparse
  k : Nat
  set : Nat
  mode : Nat
  preload : Nat
  deriving DecidableEq, Repr

/-- The product at step `k` of cell (i, j), `none` where B keeps no element. -/
def productAt (o : CoreS) (p : Product) (i j k : Nat) : Option Carried :=
  match operandB o p.b p.sparse p.k k j with
  | none => none
  | some w => some (carriedMul (carry (elemVal o p.a p.k i k (elemA o p.a i k))) (carry (elemVal o p.b p.k j k w)))

/-- The span of k over which a partial is formed: 1 unscaled, 16 with a T4 operand, else 32 (R116, R153). -/
def partialSpan (p : Product) : Nat :=
  if p.a.fmt = .t4 ∨ p.b.fmt = .t4 then 16 else if isScaled p.a.fmt || isScaled p.b.fmt then 32 else 1

/-- The addends of cell (i, j) in ascending k (R153). -/
def addends (o : CoreS) (p : Product) (i j : Nat) : List Carried :=
  let w := partialSpan p
  if w = 1 then (List.range p.k).filterMap (productAt o p i j)
  else (List.range (p.k / w)).map fun b =>
    let part := ((rangeFrom (w * b) (w * b + w)).filterMap (productAt o p i j)).foldl carriedAdd (.fin false 0 0, 0)
    carriedMul part (carriedMul (carry (scaleAt o p.a p.k i (w * b))) (carry (scaleAt o p.b p.k j (w * b))))

/-- The cell an MMA starts from, by mode: ZERO, ACCUMULATE, PRELOAD (R113).
Log entry 18 (DEDUCED). -/
def startCell (o : CoreS) (p : Product) (i j : Nat) : AccCell :=
  if p.mode = 0 then {}
  else if p.mode = 1 then cellOf o p.set i j
  else (addAddend {} (carry (fpDec (sramNat o (p.preload + 4 * (4 * i + j)) 4)))).getD {}

/-- A cell after addends in order, `none` where a check failed on the way. -/
def addAddends : List Carried → AccCell → Option AccCell
  | [], a => some a
  | d :: ds, a => match addAddend a d with
    | none => none
    | some b => addAddends ds b

/-- The set after the product, cells in row-major order; `none` for a cell whose check failed. -/
def productCells (o : CoreS) (p : Product) : List (Option AccCell) :=
  (List.range 16).map fun n => addAddends (addends o p (n / 4) (n % 4)) (startCell o p (n / 4) (n % 4))

/-- The first cell of a product that fails its check at a shift (R169). -/
def shiftMismatch (o : CoreS) (p : Product) : Option Nat :=
  ((productCells o p).findIdx? fun c => c.isNone).map (16 * p.set + ·)

/-- The first cell of a set that fails the check at DRAIN (R169). -/
def drainMismatch (o : CoreS) (set : Nat) : Option Nat :=
  ((List.range 16).find? fun n => !cellChecks (cellOf o set (n / 4) (n % 4))).map (16 * set + ·)

/-- The last micro-tile of a side, as its latches hold it. -/
def lastTile (o : CoreS) (d : Side) (t : Nat) : List Nat := (List.range 16).map fun n => slotWord o d t (n / 4) (n % 4)

/-- The micro-tiles of a dense side over K. -/
def sideTiles (d : Side) (k : Nat) : Nat := ceilDiv k (4 * kPer d)

/-- Bytes of the micro-tiles of a dense side over K. -/
def sideBytes (d : Side) (k : Nat) : Nat := 16 * slotBytes d * sideTiles d k

/-- Bytes of a side's scales. -/
def scaleBytes (d : Side) (k : Nat) : Nat :=
  match d.fmt with | .mx => 4 * (k / 32) | .t4 => 8 * (k / 32) | .elem _ => 0

/-- Bytes of B: dense micro-tiles, or values and codes of a strip (R181). -/
def bytesB (d : Side) (sp : Sparse) (k : Nat) : Nat :=
  if sp = .dense then sideBytes d k
  else ceilDiv k (sparseD sp (pairPer d)) * (16 + sparseC sp (pairPer d))

/-- Resolve the side of a format code: its element type, given the scale table's ELEM code. -/
def sideElem (f : Fmt) (elemCode : Nat) : Option Elem :=
  match f with
  | .elem e => some e
  | .t4 => some .e2m1
  | .mx => if 4 ≤ elemCode ∧ elemCode ≤ 8 then elemOfCode elemCode else none

/-- The format codes and registers of an MMA word, resolved against the descriptor; an error is a task fault.
Log entry 19 (DEDUCED). -/
def resolve (o : CoreS) (x : CtxS) (t : QTask) (w : MmaWord) : Except Nat Product :=
  let fa := fmtOfCode (if w.fmtA = 0 then t.desc.fmtA else w.fmtA)
  let fb := fmtOfCode (if w.fmtB = 0 then t.desc.fmtB else w.fmtB)
  let rc := reg x (Fin.ofNat 32 w.rc)
  match fa, fb, sparseOfCode w.sparse with
  | some fa, some fb, some sp =>
    if w.reservedSet || decide (w.mode = 3) then .error tfOpcode
    else if fa = .elem .fp32 ∨ fb = .elem .fp32 then .error tfFormat
    else
      let scaled := isScaled fa || isScaled fb
      if scaled && (decide (rc % 16 ≠ 0) || !inSram rc 16) then .error (if rc % 16 ≠ 0 then tfScale else tfAddress)
      else
        let codes := sramNat o rc 1
        match sideElem fa (codes % 16), sideElem fb (codes / 16) with
        | some ea, some eb =>
          .ok { a := { fmt := fa, elem := ea, base := reg x (Fin.ofNat 32 w.ra), orient := w.orientA, scales := rc + 16 }
                b := { fmt := fb, elem := eb, base := reg x (Fin.ofNat 32 w.rb), orient := w.orientB
                       scales := rc + sramNat o (rc + 2) 2 }
                sparse := sp, k := w.k, set := w.set, mode := w.mode, preload := rc }
        | _, _ => .error tfScale
  | _, _, none => .error tfSparse
  | _, _, _ => .error tfFormat

/-- The rules a resolved product keeps; otherwise the task fault (R115, R116, R120, R150, R179, R180). -/
def productFault (o : CoreS) (p : Product) : Option Nat :=
  let scaled := isScaled p.a.fmt || isScaled p.b.fmt
  if (p.sparse = .s28 ∧ p.k % 8 ≠ 0) ∨ (scaled = true ∧ p.k % 32 ≠ 0) then some tfK
  else if p.sparse ≠ .dense ∧ (elemBits p.b.elem = 16 ∨ (p.b.orient = true ∧ p.sparse ≠ .ts24) ∨
      (p.sparse = .ts24 ∧ (isScaled p.b.fmt = true ∨ p.b.elem = .e2m1))) then some tfSparse
  else if !inSram p.a.base (sideBytes p.a p.k) || !inSram p.b.base (bytesB p.b p.sparse p.k) ||
      !inSram p.a.scales (scaleBytes p.a p.k) || !inSram p.b.scales (scaleBytes p.b p.k) ||
      (decide (p.mode = 2) && !inSram p.preload 64) then some tfAddress
  else if decide (p.sparse ≠ .dense) && !codesValid o p.b p.sparse p.k then some tfSparse
  else if badT4 o p.a p.k || badT4 o p.b p.k then some tfT4
  else none

/-- An MMA word of an opcode made ready: its product, or the task fault. A word of another opcode is no instruction of
this form (R136).
Log entry 118 (DESIGN CHOICE). -/
def prepare (op : Nat) (o : CoreS) (x : CtxS) (t : QTask) (word : Nat) : Except Nat Product :=
  if (decodeMma word).op ≠ op then .error tfOpcode else
  match resolve o x t (decodeMma word) with
  | .error c => .error c
  | .ok p => match productFault o p with
    | some c => .error c
    | none => .ok p

/-- The issue of an MMA word: PRED is bit [23] of the word (Table 4.7). -/
def withPred (k : Issue) (word : BitVec 64) : Issue := { k with pred := (decodeMma word.toNat).pred }

/-- Store the set's cells. -/
def setCells (set : Nat) (cells : List (Option AccCell)) (m : Map AccCell) : Map AccCell :=
  mapSetList {} m (16 * set) (cells.map fun c => c.getD {})

/-- The micro-tiles of B over K: dense, or the value micro-tiles of a strip (R181). -/
def tilesB (p : Product) : Nat :=
  if p.sparse = .dense then sideTiles p.b p.k else ceilDiv p.k (sparseD p.sparse (pairPer p.b))

/-- The core with the product in its set, its latches holding the last micro-tiles, the array one MMA busier. -/
def accumulate (p : Product) (o : CoreS) : CoreS :=
  let o1 := { o with acc := setCells p.set (productCells o p) o.acc, tensor := o.tensor ++ [p.set] }
  loadLatch .lb (lastTile o p.b (tilesB p - 1)) (loadLatch .la (lastTile o p.a (sideTiles p.a p.k - 1)) o1)

/-- The context's task has used a set (R174). -/
def useSet (key c set : Nat) (s : State) : State :=
  updCtx key c (fun y => { y with usedSets := if y.usedSets.contains set then y.usedSets else y.usedSets ++ [set] }) s

/-- The FP32 words of a set, row-major. -/
def drainWords (o : CoreS) (set : Nat) : List Nat :=
  (List.range 16).map fun n => drainWord (cellOf o set (n / 4) (n % 4))

/-- A 4 × 4 tile transposed. -/
def transposed (ws : List Nat) : List Nat := (List.range 16).map fun n => nth 0 ws (4 * (n % 4) + n / 4)

/-- The set reads as zero. -/
def clearSet (set : Nat) (o : CoreS) : CoreS := { o with acc := clearSets [set] o.acc }

/-- Does a running or waiting MMA use the set? -/
def setInUse (o : CoreS) (set : Nat) : Bool := o.tensor.contains set

/-! ## Prediction in the cells (R204 to R206) -/

/-- The value of a cell. -/
def cellVal (a : AccCell) : Val :=
  match a.special with
  | .nan => .nan
  | .pinf => .inf false
  | .ninf => .inf true
  | .none => .fin (decide (a.sig < 0)) a.sig.natAbs a.lsbe

/-- Does some cell of column `j` of a set, plus a bias, exceed an FP16 word? -/
def columnAbove (o : CoreS) (set j : Nat) (bias : Val) (edge : Nat) : Bool :=
  (List.range 4).any fun i => valLt (decodeElem .fp16 edge) (valAdd (cellVal (cellOf o set i j)) bias)

/-- Are both operands MX-scaled E2M1, as scores and the shadow pass take them? -/
def bothMxE2m1 (p : Product) : Bool :=
  decide (p.a.fmt = .mx) && decide (p.a.elem = .e2m1) && decide (p.b.fmt = .mx) && decide (p.b.elem = .e2m1)

/-- Do the biases that scores take lie in SRAM (R120)? -/
def biasInSram (use : MmaUse) (x : CtxS) : Bool :=
  match use with
  | .score _ _ bias => inSram (reg x bias) 16
  | _ => true

/-- What an MMA's set says of the pairs it is for.
Log entry 121 (DESIGN CHOICE). -/
def usePairs (use : MmaUse) (o : CoreS) (x : CtxS) (p : Product) (s : State) : State :=
  match use with
  | .plain => s
  | .score f quad bias =>
    match predRec s f.layer.toNat with
    | none => s
    | some r => if !bothMxE2m1 p then s else each (List.range 4) (fun j =>
        scorePair r (keyOfPair f + j) quad.val
          (columnAbove o p.set j (fpDec (sramNat o (reg x bias + 4 * j) 4)) r.threshold)) s
  | .shadow q =>
    match predRec s q.layer.toNat with
    | none => s
    | some r => if !bothMxE2m1 p then s else shadowPair r (keyOfPair q)
        ((List.range 4).any fun j => columnAbove o p.set j (.fin false 0 0) r.actEdge) s
  | .pair q =>
    match predRec s q.layer.toNat with
    | none => s
    | some r => workPair r (keyOfPair q) s

/-- MMA (R113): the array holds one running and one waiting MMA; a third waits at issue (R133). -/
def execMma (k : Issue) (word : BitVec 64) (use : MmaUse) (s : State) : Host.Outcome State Fault Refusal :=
  .next (runInstr (withPred k word) (fun st o x t key c =>
    if !useRuns st use then .act (advance key c)
    else if 2 ≤ o.tensor.length then .wait else
    match prepare 0x40 o x t word.toNat with
    | .error e => .fault e
    | .ok p => if !biasInSram use x then .fault tfAddress else match shiftMismatch o p with
      | some n => .check (.residue n)
      | none => .act fun q => advance key c (usePairs use (accumulate p o) x p
          (useSet key c p.set (updCore key (accumulate p) q)))) s)

/-- DRAIN (R117): the set's 16 values as one 64-byte tile; it waits while an MMA uses the set. -/
def execDrain (k : Issue) (dst : RegIx) (set : Fin 2) (orient : Bool) (s : State) :
    Host.Outcome State Fault Refusal :=
  .next (runInstr k (fun _ o x _ key c =>
    if setInUse o set.val then .wait
    else if !inSram (reg x dst) 64 then .fault tfAddress
    else match drainMismatch o set.val with
    | some n => .check (.residue n)
    | none =>
      let ws := drainWords o set.val
      .act fun st => advance key c (useSet key c set.val (updCore key (clearSet set.val)
        (writeSram key (reg x dst) ((if orient then transposed ws else ws).flatMap (bytesLE 4)) st)))) s)

/-- CLEAR: the set's valid flag clears and it reads as zero (R152). -/
def execClear (k : Issue) (set : Fin 2) (s : State) : Host.Outcome State Fault Refusal :=
  .next (runInstr k (fun _ o _ _ key c =>
    if setInUse o set.val then .wait
    else .act fun st => advance key c (useSet key c set.val (updCore key (clearSet set.val) st))) s)

/-- An engine of a core finishes the instruction it runs: the array's running MMA, or the move, vector or
communication engine's (R109, R133). The contexts that waited at issue may issue again. -/
def engineDone (e : Engine) (o : CoreS) : CoreS :=
  let o1 := match e with
    | .tensor => { o with tensor := o.tensor.tail }
    | .vector => { o with vector := none }
    | .move => { o with move := none }
    | .comm => { o with comm := none }
  { o1 with ctxs := unwait o1.ctxs }

/-- ENGINE_INSTRUCTION_COMPLETE.
Log entry 16 (DEDUCED). -/
def execEngineInstructionComplete (core : CoreRef) (engine : Engine) (s : State) :
    Host.Outcome State Fault Refusal :=
  let key := coreKey core.block.val core.core.val
  .next (whenReady (fun st => if coreOn st key then updCore key (engineDone engine) st else st) s)

end Sys2Proof.Machine
end

