-- ==== Sys2Proof/Machine/Fused.lean ====
section
/-! DEFINITION. The communicate and fused classes of a core (Table 4.6, Table 4.8; R137, R138, R197, R306, R307, R348,
R367). -/

namespace Sys2Proof.Machine

/-! ## The communication engine -/

/-- Task faults of rules of chapter 11: 12 an unused communicator slot or one of the wrong kind (R358), 13 a packet or
operation too long (R348, R367). -/
def tfComm : Nat := 12
def tfLength : Nat := 13

/-- The communication engine runs one instruction; another waits at issue (R133). -/
def onComm (f : State → CoreS → CtxS → QTask → Nat → Nat → Act) (s : State) (o : CoreS) (x : CtxS) (t : QTask)
    (key c : Nat) : Act :=
  if o.comm.isSome then .wait else
  match f s o x t key c with
  | .act g => .act fun st => advance key c (updCore key (fun q => { q with comm := some c }) (g st))
  | a => a

/-- Where a packet of a task goes: DEST_KIND, and the block whose router it is for, or the stack. -/
structure PacketDest where
  kind : DestKind := .core
  block : Nat
  deriving DecidableEq, Repr

/-- The block whose router a packet for an address goes to: for a stack, that of the port that the requester's hub lists for
the in-stack address (R249); a stack none of whose ports is listed has its first. -/
def destBlock (s : State) (key : Nat) (dest : PacketDest) (addr : Nat) : Nat :=
  match dest.kind with
  | .memory =>
    let m := dest.block % 32
    (portFor s (key / 16 / 640) m (memAddr (BitVec.ofNat 32 addr))).getD (portRouter m 0)
  | _ => dest.block

def destCode : DestKind → Nat
  | .core => 0
  | .hub => 1
  | .memory => 2

/-- The header flit of a packet that a task sends (Table 3.2).
Log entry 119 (DESIGN CHOICE). -/
def taskFlit (key : Nat) (dest : PacketDest) (fmt type len addr tag : Nat) (add : Bool) (t : QTask) : Flit :=
  { fmt := fmt, type := type, vc := 2, destBx := blockBx dest.block, destBy := blockBy dest.block
    srcBx := blockBx (key / 16), srcBy := blockBy (key / 16), len := len, destKind := destCode dest.kind, add := add
    esc := false, addr := addr, tag := tag, ctx := t.desc.ctx, comm := t.desc.comm }

/-- ADDR of a place `n` bytes on: a byte address, or at a memory port units of 64 bytes and of 16 (Table 8.3). -/
def addrOn (kind : DestKind) (addr n : Nat) : Nat :=
  match kind with
  | .memory =>
    let b := field addr 0 30 * 64 + field addr 30 2 * 16 + n
    b / 64 % 2 ^ 30 + 2 ^ 30 * (b / 16 % 4)
  | _ => addr + n

def flitsOf (f : Flit) (payload : List Byte) : Flits := { header := BitVec.ofNat 128 (encodeFlit f), payload := payload }

/-- Bytes that one packet of a transfer carries: 256 payload flits, or 254 to another module (R74, R348). -/
def packetBytes (member : Option (Fin 1024)) : Nat := if member.isSome then 4064 else 4096

/-- A transfer cut into offsets and lengths. -/
def cutSpan (len per : Nat) : List (Nat × Nat) :=
  (List.range (ceilDiv len per)).map fun i => (i * per, min per (len - i * per))

/-- SEND: `len` bytes at `src` go as writes to address `dst`: at a block the core mask stands in [31:16]; at a memory port
(R274) the address is its own. -/
def sendSpan (key : Nat) (dest : PacketDest) (dst src len tag : Nat) (member : Option (Fin 1024)) (t : QTask)
    (s : State) : State :=
  each (cutSpan len (packetBytes member)) (fun p st =>
    let to_ : PacketDest := { dest with block := destBlock st key dest (addrOn dest.kind dst p.1) }
    fromBlock (key / 16) (member.map (·.val))
      (flitsOf (taskFlit key to_ t.desc.fmtOut 2 (ceilDiv p.2 16) (addrOn dest.kind dst p.1) tag false t)
        (sramBytes (coreS st key) (src + p.1) p.2)) st) s

/-- READ: read requests for `len` bytes at address `src` of a block or a memory port (R277), answered into this core at
`dst`. -/
def readSpan (key : Nat) (dest : PacketDest) (dst src len tag : Nat) (member : Option (Fin 1024)) (t : QTask)
    (s : State) : State :=
  each (cutSpan len (packetBytes member)) (fun p st =>
    let back := dst % 65536 + p.1 + 65536 * 2 ^ (key % 16)
    let from_ := match member with | some _ => selfIndex st + 1 | none => 0
    fromBlock (key / 16) (member.map (·.val))
      (flitsOf (taskFlit key { dest with block := destBlock st key dest (addrOn dest.kind src p.1) } t.desc.fmtOut 3 1 (addrOn dest.kind src p.1) tag false t)
        (bytesLE 16 (pack [(16, p.2), (16, from_), (32, back)]))) st) s

/-- SEND; the format of what is sent is the descriptor's FMT_OUT (R143). -/
def execSend (k : Issue) (member : Option (Fin 1024)) (kind : DestKind) (block dst src len : RegIx) (tag : BitVec 16)
    (s : State) : Host.Outcome State Fault Refusal :=
  .next (runInstr k (onComm fun _ _ x t key c =>
    if (fmtOfCode t.desc.fmtOut).isNone then .fault tfFormat
    else if !inSram (reg x src) (reg x len) then .fault tfAddress
    else .act (sendFrom key c (sendSpan key { kind := kind, block := reg x block } (reg x dst) (reg x src) (reg x len)
      tag.toNat member t))) s)

/-- READ. -/
def execRead (k : Issue) (member : Option (Fin 1024)) (kind : DestKind) (block dst src len : RegIx) (tag : BitVec 16)
    (s : State) : Host.Outcome State Fault Refusal :=
  .next (runInstr k (onComm fun _ _ x t key c =>
    if (fmtOfCode t.desc.fmtOut).isNone then .fault tfFormat
    else if !inSram (reg x dst) (reg x len) then .fault tfAddress
    else .act (sendFrom key c (readSpan key { kind := kind, block := reg x block } (reg x dst) (reg x src) (reg x len)
      tag.toNat member t))) s)

/-! ## Glint contributions (R358, R367) -/

/-- Data bytes of a glint piece. -/
def glintPiece : Nat := 4048

/-- Contribute the pieces of an operation at the field's combiner. -/
def contribute (key op comm scope : Nat) (bs : List Byte) (s : State) : State :=
  let seqKey := 64 * key + comm
  let seq := mapGet 0 s.beam.glintSeq seqKey
  let n := max 1 (ceilDiv bs.length glintPiece)
  let piece (i : Nat) (st : State) : State :=
    glintOn (.field (Fin.ofNat 84 (key / 16 / 640))) none
      { op := op, comm := comm, seq := seq % 65536, piece := i, pieces := n - 1, bytes := 0, scope := scope, count := 1
        roll := st.red.roll, step := st.tick.step % 65536 } ((bs.drop (glintPiece * i)).take glintPiece) st
  let s1 := { s with beam := { s.beam with glintSeq := mapSet 0 s.beam.glintSeq seqKey (seq + 1) } }
  each (List.range n) piece s1

/-- GLINT: contribute `len` bytes at `src` to an operation of the task's communicator. -/
def execGlint (k : Issue) (op : Fin 16) (src len : RegIx) (s : State) : Host.Outcome State Fault Refusal :=
  .next (runInstr k (onComm fun st o x t key c =>
    let comm := commOf st t.desc.comm
    if 0xA ≤ op.val then .fault tfOpcode
    else if !comm.glint then .fault tfComm
    else if 256 * glintPiece < reg x len then .fault tfLength
    else if !inSram (reg x src) (reg x len) then .fault tfAddress
    else .act (sendFrom key c (contribute key op.val t.desc.comm comm.scope (sramBytes o (reg x src) (reg x len))))) s)

/-! ## Contributions to reduction blocks (R305 to R307) -/

/-- Hold a whole piece until its acknowledgement, and send it. -/
def sendPiece (key : Nat) (e : RaccRec) (ws : List Nat) (s : State) : State :=
  let h : HeldPiece := { core := key, block := e.block, piece := e.piece, owner := e.owner, bexp := e.bexp, stack := e.stack
                         addr := e.addr, ackEntry := e.ackEntry, ackAddr := e.ackAddr, values := ws }
  sendHeld h { s with red := { s.red with held := s.red.held ++ [h] } }

/-- The class D tensor whose block a RACC entry names, by CONTRIB_MAP (R312). -/
def deferredLayer (s : State) (e : RaccRec) : Option LayerRec :=
  s.place.inForce.bind fun i =>
    (i.contrib.find? fun r => decide (r.owner = e.owner) && decide (r.block = e.block)).bind fun r =>
      (layersOf i).find? fun l => decide (l.tensor = r.tensor) && decide (l.cls = 2)

/-- A piece's place in the DEFER area. -/
def deferKey (e : RaccRec) : Nat := (e.owner * 2 ^ 32 + e.block) * 8 + e.piece

/-- The deferred sum of a piece in the current bank of DEFER, which OWNER_CUR selects: FP32 words, zero where none stand. -/
def deferredSum (s : State) (e : RaccRec) : List Nat :=
  let l := mapGet [] (if s.mem.ownerCur then s.red.deferB else s.red.deferA) (deferKey e)
  l ++ List.replicate (512 - l.length) 0

/-- Write a piece's sum to the other bank; no words stand for zero. -/
def putDeferred (e : RaccRec) (ws : List Nat) (s : State) : State :=
  if s.mem.ownerCur then { s with red := { s.red with deferA := mapSet [] s.red.deferA (deferKey e) ws } }
  else { s with red := { s.red with deferB := mapSet [] s.red.deferB (deferKey e) ws } }

/-- A whole piece of gradient: sent, or of a class D tensor added to the deferred sum, which goes in a send step (R312).
Log entry 132 (DEDUCED). -/
def gradientPiece (key : Nat) (e : RaccRec) (ws : List Nat) (s : State) : State :=
  match deferredLayer s e with
  | none => sendPiece key e ws s
  | some l =>
    let sum := (deferredSum s e).zipWith (fpAdd false) ws
    if sendStep l s.tick.step then sendPiece key e sum (putDeferred e [] s) else putDeferred e sum s

/-- Does a class D piece wait for the commit of the step before (R312)? -/
def deferWaits (s : State) (e : RaccRec) : Bool := (deferredLayer s e).isSome && decide (s.red.committed + 1 < s.tick.step)

/-- RACC (R283): the 512 FP32 words at `src` as the piece that the table entry names. -/
def execRacc (k : Issue) (table src : RegIx) (s : State) : Host.Outcome State Fault Refusal :=
  .next (runInstr k (onComm fun st o x _ key c =>
    if !inSram (reg x table) 16 || !inSram (reg x src) 2048 then .fault tfAddress
    else if deferWaits st (decodeRacc (sramNat o (reg x table) 16)) then .wait
    else .act (sendFrom key c (gradientPiece key (decodeRacc (sramNat o (reg x table) 16))
      ((List.range 512).map fun i => sramNat o (reg x src + 4 * i) 4)))) s)

/-! ## Fused instructions -/

/-- Does an MMA word read RC itself, for scales or a preload? -/
def usesRc (w : MmaWord) (t : QTask) : Bool :=
  let scaled (code own : Nat) : Bool :=
    match fmtOfCode (if code = 0 then own else code) with | some f => isScaled f | none => false
  scaled w.fmtA t.desc.fmtA || scaled w.fmtB t.desc.fmtB || decide (w.mode = 2)

/-- The context in which RC points past a 16-byte RACC table entry. -/
def pastEntry (x : CtxS) (t : QTask) (w : MmaWord) : CtxS :=
  let rc : RegIx := Fin.ofNat 32 w.rc
  if usesRc w t then setReg rc (reg x rc + 16) x else x

/-- A fused product and drain: it waits for the array and for the communication engine; once the checks on the set have
passed (R138) its 16 FP32 words go to `f`, and the set is clear. -/
def fused (op : Nat) (word : Nat) (o : CoreS) (x : CtxS) (t : QTask) (key c : Nat)
    (f : List Nat → State → State) : Act :=
  if decide (2 ≤ o.tensor.length) || o.comm.isSome then .wait
  else match prepare op o x t word with
    | .error e => .fault e
    | .ok p =>
      let o1 := accumulate p o
      match shiftMismatch o p, drainMismatch o1 p.set with
      | some n, _ => .check (.residue n)
      | none, some n => .check (.residue n)
      | none, none =>
        .act fun st => advance key c (f (drainWords o1 p.set) (useSet key c p.set
          (setCore key { clearSet p.set o1 with comm := some c } st)))

/-- A tile's values under ADD: FP32 words, BF16 words, or 48-bit fixed point against the exponent of the RACC entry at
RC. -/
def tileValues (add : Nat) (bexp : Int) (ws : List Nat) : List Int :=
  ws.map fun w =>
    if add = 3 then toSigned 48 (ofSigned 48 (toFixed bexp w))
    else if add = 2 then ((convert .bf16 .nearest false (fpDec w)).word : Int)
    else (w : Int)

/-- MMA.RS. -/
def execMmaRs (k : Issue) (word : BitVec 64) (dest : MemberId) (tile : BitVec 32) (last : Bool) (s : State) :
    Host.Outcome State Fault Refusal :=
  .next (runInstr (withPred k word) (fun st o x t key c =>
    let comm := commOf st t.desc.comm
    let w := decodeMma word.toNat
    let rc := reg x (Fin.ofNat 32 w.rc)
    if !comm.bulk || decide (comm.add = 0) || decide (3 < comm.add) then .fault tfComm
    else if comm.add = 3 && !inSram rc 16 then .fault tfAddress
    else
      let x1 := if comm.add = 3 then pastEntry x t w else x
      fused 0xA0 word.toNat o x1 t key c fun ws => sendFrom key c
        (handTile (key / 16 / 640) t.desc.comm dest.val tile.toNat last
          (tileValues comm.add (decodeRacc (sramNat o rc 16)).bexp ws))) s)

/-- The chunks of B whose arrival counts have fired, from the first on (R137). -/
def chunksIn (o : CoreS) (chunks : List (Fin 64 × BitVec 16)) : List (Fin 64 × BitVec 16) :=
  chunks.takeWhile fun e => decide ((mapGet {} o.sb e.1.val).state = .fired)

/-- The LB grid with the last micro-tile that has entered it while the rest of B is still to land. -/
def enterTiles (p : Product) (n : Nat) (o : CoreS) : CoreS :=
  if n = 0 then o else loadLatch .lb (lastTile o p.b (min n (tilesB p) - 1)) o

/-- AG.MMA: each micro-tile of B enters the LB grid once the arrival count of its chunk has fired. `chunks` gives, in the
order of B, each chunk's entry and how many micro-tiles it brings; the last brings what remains. -/
def execAgMma (k : Issue) (word : BitVec 64) (chunks : List (Fin 64 × BitVec 16)) (s : State) :
    Host.Outcome State Fault Refusal :=
  .next (runInstr (withPred k word) (fun st o x t key c =>
    if !(commOf st t.desc.comm).bulk then .fault tfComm
    else if 2 ≤ o.tensor.length then .wait
    else match prepare 0xA1 o x t word.toNat with
      | .error e => .fault e
      | .ok p =>
        let here := chunksIn o chunks
        if here.length < chunks.length then .wait (updCore key (enterTiles p ((here.map (·.2.toNat)).sum)))
        else match shiftMismatch o p with
          | some n => .check (.residue n)
          | none => .act fun q => advance key c (useSet key c p.set (updCore key (accumulate p) q))) s)

/-- Put a tile's words into a piece in hand. -/
def putTile (tile : Nat) (ws : List Nat) (l : List (Nat × Nat)) : List (Nat × Nat) :=
  let mine := (List.range 16).map (pieceElem tile)
  (l.filter fun e => !mine.contains e.1) ++ ((List.range 16).map fun n => (pieceElem tile n, nth 0 ws n))

/-- The words of a piece in element order. -/
def pieceWords (l : List (Nat × Nat)) : List Nat :=
  (List.range 512).map fun i => ((l.find? fun e => decide (e.1 = i)).map (·.2)).getD 0

/-- A tile drained toward a piece; the piece leaves when all 32 tiles are in. -/
def drainTile (key c rc tile : Nat) (e : RaccRec) (ws : List Nat) (s : State) : State :=
  let l := putTile tile ws (mapGet [] (coreS s key).racc rc)
  let keep (v : List (Nat × Nat)) : State → State := updCore key fun o => { o with racc := mapSet [] o.racc rc v }
  if l.length < 512 then keep l s else sendFrom key c (gradientPiece key e (pieceWords l)) (keep [] s)

/-- MMA.RACC; the tile that completes a class D piece waits for the commit of the step before (R312). -/
def execMmaRacc (k : Issue) (word : BitVec 64) (tile : Fin 32) (s : State) : Host.Outcome State Fault Refusal :=
  .next (runInstr (withPred k word) (fun st o x t key c =>
    let w := decodeMma word.toNat
    let rc := reg x (Fin.ofNat 32 w.rc)
    if !inSram rc 16 then .fault tfAddress
    else if deferWaits st (decodeRacc (sramNat o rc 16)) && decide (512 ≤ (putTile tile.val [] (mapGet [] o.racc rc)).length) then
      .wait
    else fused 0xA2 word.toNat o (pastEntry x t w) t key c
      (drainTile key c rc tile.val (decodeRacc (sramNat o rc 16)))) s)

/-- MMA.SPILL (R197): to the home core in r12 at the address in r9, TAG in r8. -/
def execMmaSpill (k : Issue) (word : BitVec 64) (s : State) : Host.Outcome State Fault Refusal :=
  .next (runInstr (withPred k word) (fun _ o x t key c =>
    let home := reg x (Fin.ofNat 32 12)
    let addr := reg x (Fin.ofNat 32 9) % 65536 + 65536 * 2 ^ (home / 65536 % 16)
    let tag := reg x (Fin.ofNat 32 8) % 65536
    fused 0xA3 word.toNat o x t key c fun ws => sendFrom key c (fromBlock (key / 16) none
      (flitsOf (taskFlit key { block := home % 65536 } 1 2 5 addr tag true t) (bytesLE 16 1 ++ ws.flatMap (bytesLE 4))))) s)

end Sys2Proof.Machine
end

