-- ==== Sys2Proof/Machine/Host.lean ====
section
/-! DEFINITION. The host interface (chapter 13): packets from rings, datagrams and the sideband to their commands, doorbells,
RDMA to and from memory regions, ports, and the IEEE 1588 clocks. -/

namespace Sys2Proof.Machine

/-! ## From a packet to its command -/

/-- The command of a body, run for a header. -/
def runBody (h : CmdHdr) (b : CmdBody) : State → State :=
  command h b (match b with
    | .identify => identifyOp h
    | .sizeTable => sizeTableOp h
    | .setNet p => setNetOp h p
    | .ringCreate p => ringCreateOp h p
    | .ringDestroy n => ringDestroyOp h n
    | .mrRegister p => mrRegisterOp h p
    | .mrRevoke k => mrRevokeOp h k
    | .qpCreate p => qpCreateOp h p
    | .qpDestroy n => qpDestroyOp h n
    | .jobConfigure p => jobConfigureOp h p
    | .jobStart f => jobStartOp h f
    | .jobPause => jobPauseOp h
    | .jobResume => jobResumeOp h
    | .jobEnd => jobEndOp h
    | .nameLead l sb straps => nameLeadOp h l sb straps
    | .contextOpen p => contextOpenOp h p
    | .contextClose => contextCloseOp h
    | .setRule t f v => setRuleOp h t f v
    | .batchReady step n => batchReadyOp h step n
    | .request p => requestOp h p
    | .cancel q => cancelOp h q
    | .epochSwitch e => epochSwitchOp h e
    | .epochWithdraw => epochWithdrawOp h
    | .streamLimits d r => streamLimitsOp h d r
    | .streamStatus => streamStatusOp h
    | .layoutLoad o l => layoutLoadOp h o l
    | .layoutQuery => layoutQueryOp h
    | .ownerLoaded => ownerLoadedOp h
    | .ownerExpose => ownerExposeOp h
    | .selfTest q => selfTestOp h q
    | .capSet w hard => capSetOp h w hard
    | .rampSet r => rampSetOp h r
    | .heartbeat i => heartbeatCmd h i
    | .safeCapSet p => safeCapOp h p
    | .glowFloorSet p => glowFloorOp h p
    | .powerStatus => powerStatusOp h
    | .faultRead f n => faultReadOp h f n
    | .faultClear m => faultClearOp h m
    | .rollback => if isDistributed h then id else rollbackOp h
    | .exclude i => if isDistributed h then id else excludeOp h i
    | .shadowSet m => shadowSetOp h m
    | .fieldReturn f => fieldReturnOp h f
    | .shutterFire sc => shutterFireOp h sc
    | .snapshotRead k i o l => snapshotReadOp h k i o l
    | .countersRead f n => countersReadOp h f n
    | .journalRead f n => journalReadOp h f n
    | .bootJournalRead f n => bootJournalReadOp h f n
    | .attest n => attestOp h n
    | .flashWrite b o d => flashWriteOp h b o d
    | .bundleVerify b => bundleVerifyOp h b
    | .bundleActivate b => bundleActivateOp h b
    | .reset => resetOp h
    | .regRead a n => regReadOp h a n
    | .regWrite ps => regWriteOp h ps
    | .regRmw a m v => regRmwOp h a m v)

/-- What the header and the body's format fail: status and DETAIL (R404, R407). -/
def formatRefusal (p : Packet) : Option (Nat × Nat) :=
  let reserved := if p.flags.toNat / 4 ≠ 0 then some (min 2 (p.reservedAt.getD 2)) else p.reservedAt
  if !opcodes.contains p.opcode.toNat then some (0x0101, 0)
  else match reserved, p.requiredLength, p.body with
    | some o, need, _ =>
      if o < 32 then some (0x0102, o)
      else match need with | some n => some (0x0103, n) | none => some (0x0102, o)
    | none, some n, _ => some (0x0103, n)
    | none, none, none => some (0x0103, 0xFFFF)
    | none, none, some _ => if 4064 < p.length.toNat then some (0x0103, 0xFFFF) else none

def headerOf (o : Origin) (p : Packet) : CmdHdr :=
  { origin := o, ctx := p.ctx, seq := p.seq, quiet := bitAt p.flags.toNat 0, fence := bitAt p.flags.toNat 1 }

/-- Parse and execute a packet. -/
def runPacket (o : Origin) (p : Packet) (s : State) : State :=
  let h := headerOf o p
  if !executes s then s
  else match formatRefusal p, p.body with
    | some r, _ => refuse h r.1 r.2 s
    | none, some b => runBody h b s
    | none, none => s

/-! ## Doorbells (R401) -/

/-- Is a doorbell bad: bits set above the index, no such ring, an index that moves backward, too many entries? -/
def doorbellIsBad (s : State) (n v : Nat) : Bool :=
  let r := ringS s n
  let ahead := (v + 65536 - r.head) % 65536
  decide (65536 ≤ v) || !ringExists s n ||
    (if r.kind = 1 then decide (ahead < ringHeld r) || decide (ringSize r < ahead) else decide (ringHeld r < ahead))

/-- A write of a ring's doorbell: TAIL of a submission ring, HEAD of another, on which events lost are then reported. -/
def doorbellOp (n v : Nat) (s : State) : State :=
  let r := ringS s n
  if doorbellIsBad s n v then count cDoorbellBad 1 s
  else if r.kind = 1 then setRing n { r with tail := v } s
  else eventsLost n (setRing n { r with head := v } s)

/-- DOORBELL. -/
def execDoorbell (ring : Fin 2048) (value : BitVec 32) (s : State) : Host.Outcome State Fault Refusal :=
  .next (whenReady (doorbellOp ring.val value.toNat) s)

/-! ## Parsing (R402) -/

/-- Bytes of the body of a command's largest reply. -/
def replyBytes (s : State) : CmdBody → Nat
  | .identify => 64
  | .sizeTable => (sizeBody s).length
  | .mrRegister _ | .ownerExpose | .regRmw _ _ _ => 4
  | .qpCreate _ | .batchReady _ _ | .selfTest _ | .layoutLoad _ _ => 8
  | .request p => 8 + 4 * p.newLen
  | .streamStatus => 88
  | .layoutQuery => 16
  | .powerStatus => 188
  | .faultRead _ n | .journalRead _ n | .bootJournalRead _ n => 64 * min 63 n
  | .snapshotRead _ _ _ n => min 4048 n
  | .countersRead _ n => 8 * min 508 n
  | .attest _ => 3885
  | .regRead _ n => 4 * min 1016 n
  | _ => 0

/-- The packet that an entry's bytes spell, little-endian (R7, Table 13.4).
Log entry 43 (DESIGN CHOICE). -/
def packetOfBytes (bs : List Byte) : Packet :=
  let num (o n : Nat) : Nat := ofBytesLE ((bs.drop o).take n)
  let body := Config.bodyOf (num 0 2) ((bs.drop 32).take (num 8 2))
  { opcode := BitVec.ofNat 16 (num 0 2), flags := BitVec.ofNat 8 (num 2 1), ctx := BitVec.ofNat 8 (num 3 1)
    seq := BitVec.ofNat 32 (num 4 4), length := BitVec.ofNat 16 (num 8 2)
    reservedAt := match (List.range 22).find? fun i => decide (num (10 + i) 1 ≠ 0) with
      | some i => some (10 + i)
      | none => body.1
    requiredLength := body.2.1, body := body.2.2 }

/-- The packet at an index of a submission ring: one placed whole, else what the entry's bytes in SYSTEM spell. -/
def entryAt (s : State) (n index : Nat) : Packet :=
  let i := index % ringSize (ringS s n)
  match mapGet none s.host.entries (4096 * n + i) with
  | some p => p
  | none => packetOfBytes (systemRead s ((ringS s n).base + 4096 * i) 4096)

/-- May the packet at a ring's head be parsed: room for its largest reply, FENCE satisfied, room to stage its data? A
REQUEST's reservation is made at admission. -/
def parseable (s : State) (n : Nat) : Bool :=
  let r := ringS s n
  let p := entryAt s n r.head
  let cq := ringS s r.cq
  let bytes := match p.body with | some (.request _) => 0 | some b => replyBytes s b | none => 0
  decide (r.kind = 1) && decide (r.head ≠ r.tail) && decide (entriesFor cq.entryShift bytes ≤ ringFree cq) &&
    !(bitAt p.flags.toNat 1 && decide (r.outstanding ≠ 0)) &&
    (match p.body with | some (.flashWrite _ _ d) => stagingRoom s d.length | _ => true)

/-- The submission ring served next, in ring order from the turn on. -/
def nextRing (s : State) : Option Nat :=
  let ns := (s.host.rings.map (·.1)).filter (parseable s)
  match ns.find? fun n => decide (s.host.turn ≤ n) with
  | some n => some n
  | none => ns.head?

/-- PACKET_PARSE: HEAD advances, then the packet runs. -/
def execPacketParse (t : Nat) (s : State) : Host.Outcome State Fault Refusal :=
  .next (whenReady (fun st =>
    let s0 := atTime t st
    match nextRing s0 with
    | none => s0
    | some n =>
      let r := ringS s0 n
      let p := entryAt s0 n r.head
      let s1 := setRing n { r with head := (r.head + 1) % 65536, outstanding := r.outstanding + 1 } s0
      runPacket (.ring (Fin.ofNat 1024 n)) p { s1 with host := { s1.host with turn := (n + 1) % 1024 } }) s)

/-! ## RDMA (R392, R393, Table 13.1) -/

/-- NAK codes: PSN Sequence Error, Invalid Request, Remote Access Error. -/
def nakPsn : Nat := 0
def nakRequest : Nat := 1
def nakAccess : Nat := 2

/-- The grant that a request reaches memory through. -/
def grantOf (s : State) (h : RoceHdr) (write : Bool) (len : Nat) : Option MrS :=
  s.host.mrs.find? fun m =>
    decide (m.rkey = h.rkey) && (if write then m.write else m.read) && decide (h.offset + len ≤ m.length)

/-- A CE mark is answered with one CNP per queue pair per 50 µs. -/
def answerMark (h : RoceHdr) (s : State) : State :=
  let q := mapGet {} s.host.qps h.qpn
  let due := match q.cnpAt with | none => true | some t => decide (t + 50000 ≤ s.now)
  if h.ce && due then
    emit (.cnp h.qpn) { s with host := { s.host with qps := mapSet {} s.host.qps h.qpn { q with cnpAt := some s.now } } }
  else s

/-- Does a request reach the module: a sound ICRC, an open queue pair, its network not lost? -/
def roceHeard (s : State) (h : RoceHdr) : Bool :=
  let q := mapGet {} s.host.qps h.qpn
  h.icrcOk && q.open_ && !s.host.netLost.contains (q.port / 4)

/-- Is a PSN one that the queue pair has had already?
Log entry 61 (PRESUMED). -/
def isDuplicate (expected psn : Nat) : Bool :=
  let back := (expected + 2 ^ 24 - psn) % 2 ^ 24
  decide (0 < back) && decide (back ≤ 2 ^ 23)

/-- A request's answer: NAK, or its effect and the PSN's advance by `n`. `again` answers one that was had already. -/
def roceAnswer (h : RoceHdr) (write : Bool) (len n : Nat) (again : State → State) (act : MrS → State → State) (s0 : State) :
    State :=
  let s := answerMark h (atTime h.at_ s0)
  let q := mapGet {} s.host.qps h.qpn
  if !roceHeard s0 h then s0
  else if isDuplicate q.psn h.psn then again s
  else if h.psn ≠ q.psn then emit (.roceNak h.qpn nakPsn) s
  else if !h.opcodeOk then emit (.roceNak h.qpn nakRequest) s
  else match grantOf s h write len with
    | none => emit (.roceNak h.qpn nakAccess) s
    | some m => act m { s with host := { s.host with qps := mapSet {} s.host.qps h.qpn { q with psn := (q.psn + n) % 2 ^ 24 } } }

/-- Doorbells written in a run of words from an offset. -/
def doorbellWords : Nat → List Byte → State → State
  | o, a :: b :: c :: d :: rest, s => doorbellWords (o + 4) rest (doorbellOp (o / 4) (ofBytesLE [a, b, c, d]) s)
  | _, _, s => s

/-- Bytes of OWNER, addressed as stack × region size + offset, from region `r` (5 bank A, 6 bank B). -/
def ownerPlace (s : State) (r a : Nat) : Nat × Nat :=
  let size := nth 0 (regionShares s) 5
  (a / size, carvedAddr s (regionBase s r + a % size))

def ownerWrite : Nat → List Byte → State → State
  | _, [], s => s
  | a, b :: bs, s =>
    let p := ownerPlace s 5 a
    ownerWrite (a + 1) bs (writeAt p.1 p.2 [b] s)

def ownerRead (s : State) (a len : Nat) : List Byte :=
  (List.range len).flatMap fun i =>
    let p := ownerPlace s (if s.mem.ownerCur then 6 else 5) (a + i)
    readAt s p.1 p.2 1

/-- The submission entry that a SYSTEM offset begins: its key. -/
def entryKey (s : State) (o : Nat) : Option Nat :=
  s.host.rings.findSome? fun e =>
    let r := e.2
    if r.kind = 1 ∧ r.base ≤ o ∧ o < r.base + ringBytes r ∧ (o - r.base) % 4096 = 0 then
      some (4096 * e.1 + (o - r.base) / 4096) else none

/-- Bytes over a packet or the head of an image leave neither whole. -/
def spoil (o len : Nat) (s : State) : State :=
  let hit (k : Nat) (_ : Option Packet) : Bool :=
    let a := (ringS s (k / 4096)).base + k % 4096 * 4096
    decide (a < o + len) && decide (o < a + 4096)
  { s with
    host := { s.host with entries := mapFilter (fun k v => !hit k v) s.host.entries }
    place := { s.place with stored := s.place.stored.filter fun e => decide (e.1 < o) || decide (o + len ≤ e.1) } }

/-- Data placed in SYSTEM: bytes, a command packet in an entry, or a layout image. -/
def systemPut (o : Nat) (d : RdmaData) (s : State) : State :=
  match d with
  | .bytes bs => systemWrite o bs (spoil o bs.length s)
  | .packet p =>
    match entryKey s o with
    | some k => { s with host := { s.host with entries := mapSet none s.host.entries k (some p) } }
    | none => s
  | .image i => { s with place := { s.place with
      stored := s.place.stored.filter (fun e => decide (e.1 ≠ o)) ++ [(o, i)] } }

/-- Bytes of a payload. An image's are open to the grant's end: one is counted. -/
def dataBytes : RdmaData → Nat
  | .bytes bs => bs.length
  | .packet p => 32 + p.length.toNat
  | .image _ => 1

/-- The effect of a granted WRITE by the region's kind. -/
def placeWrite (h : RoceHdr) (d : RdmaData) (m : MrS) (s : State) : State :=
  let a := m.offset + h.offset
  match m.kind, d with
  | 0, .bytes bs => if a % 4 = 0 then doorbellWords a bs s else s
  | 1, _ => systemPut a d s
  | 2, _ => systemPut (inputBase s m.ctx + a) d s
  | 3, .bytes bs => if s.job.started then s else ownerWrite a bs s
  | _, _ => s

/-- RDMA_WRITE.
Log entry 43 (DESIGN CHOICE). -/
def execRdmaWrite (h : RoceHdr) (data : RdmaData) (s : State) : Host.Outcome State Fault Refusal :=
  .next (whenReady (fun st =>
    let ack := emit (.roceAck h.qpn h.psn)
    roceAnswer h true (dataBytes data) 1 ack (fun m q => ack (placeWrite h data m q)) st) s)

/-- The bytes that a granted READ returns. -/
def readRegion (s : State) (m : MrS) (a len : Nat) : List Byte :=
  if m.kind = 3 then ownerRead s a len else systemRead s a len

/-- RDMA_READ: a read that was had already is read again. -/
def execRdmaRead (h : RoceHdr) (len : BitVec 32) (s : State) : Host.Outcome State Fault Refusal :=
  .next (whenReady (fun st =>
    let n := len.toNat
    let mtu := (mapGet {} st.host.qps h.qpn).mtu
    let data (m : MrS) (q : State) : State := emit (.roceData h.qpn (readRegion q m (m.offset + h.offset) n)) q
    let again (q : State) : State := match grantOf q h false n with
      | some m => data m q
      | none => emit (.roceNak h.qpn nakAccess) q
    roceAnswer h false n (max 1 (ceilDiv n mtu)) again data st) s)

/-! ## Datagrams (R394 to R396) -/

/-- The address of a source, whose port stands above it. -/
def sourceAddr (source : Nat) : Nat := source % 2 ^ 128

/-- Does the allow list let a source in? -/
def allowed (s : State) (source : Nat) : Bool :=
  s.host.allow.isEmpty || s.host.allow.any fun e =>
    decide (sourceAddr source / 2 ^ (128 - e.2) = e.1 / 2 ^ (128 - e.2))

/-- The kept reply of a SEQ, for 60 s. -/
def keptFor (s : State) (source seq : Nat) : Option KeptReply :=
  s.host.kept.find? fun k => decide (k.source = source) && decide (k.seq = seq) && decide (s.now < k.at_ + 60000000000)

/-- A datagram of the wrong size is refused and not executed, and its reply is not kept.
Log entry 44 (DESIGN CHOICE). -/
def truncated (source bytes : Nat) (p : Packet) (s : State) : State :=
  let r : StatusRec := { status := 0x0105, detail := bytes, seq := if 8 ≤ bytes then p.seq.toNat else 0, length := 0
                         ring := 0xFFFF, event := false, cont := false, final := true
                         ctx := if 4 ≤ bytes then p.ctx.toNat else 0 }
  emit (.datagram source (encodeStatus r)) s

/-- Does a port take datagrams: up, its network not lost, and in recovery mode E0 or E4 (R391)? -/
def portHears (s : State) (port : Nat) : Bool :=
  !(portS s port).down && !s.host.netLost.contains (port / 4) && (decide (s.boot.state ≠ .recovery) || decide (port % 4 = 0))

/-- COMMAND_DATAGRAM. A fragmented datagram is discarded (R390). -/
def execCommandDatagram (t : Nat) (port : PortId) (source : BitVec 160) (bytes : Fin 65536) (fragment : Bool) (pkt : Packet)
    (s : State) : Host.Outcome State Fault Refusal :=
  let sA := atTime t s
  let src := source.toNat
  let s0 := if executes sA && portHears sA port.val && !fragment then
    { sA with host := { sA.host with sourcePorts := mapSet 0 sA.host.sourcePorts src port.val } } else sA
  .next (if !executes s0 || !portHears s0 port.val || fragment then s0
    else if !allowed s0 src then count cUdpDenied 1 s0
    else if bytes.val ≠ 32 + pkt.length.toNat then truncated src bytes.val pkt s0
    else match keptFor s0 src pkt.seq.toNat with
      | some k => emitAll (k.reply.map fun e => Msg.datagram src e) s0
      | none => runPacket (.datagram src) pkt s0)

/-! ## Ports (R389 to R391) -/

/-- Are all four ports of a network down? -/
def networkDown (s : State) (net : Nat) : Bool := (List.range 4).all fun i => (portS s (4 * net + i)).down

/-- PORT_DOWN: block lock lost for 10 ms. A network is lost with its last port. -/
def execPortDown (port : PortId) (s : State) : Host.Outcome State Fault Refusal :=
  .next (whenReady (fun st =>
    let net := port.val / 4
    let s1 := setPort port.val { portS st port.val with down := true } st
    if networkDown s1 net && !s1.host.netLost.contains net then
      event 0x8001 net { s1 with host := { s1.host with netLost := s1.host.netLost ++ [net] } }
    else s1) s)

/-- PORT_UP. -/
def execPortUp (port : PortId) (s : State) : Host.Outcome State Fault Refusal :=
  .next (whenReady (fun st =>
    let s1 := setPort port.val { portS st port.val with down := false } st
    { s1 with host := { s1.host with netLost := s1.host.netLost.filter fun n => decide (n ≠ port.val / 4) } }) s)

/-- Does a port answer for an address: one of its own, or any link-local one (R390)? Recovery mode has E0 and E4 up. -/
def answersFor (s : State) (port target : Nat) : Bool :=
  let p := portS s port
  let linkLocal := decide (target / 2 ^ 118 = 0x3FA)
  !p.down && (decide (s.boot.state ≠ .recovery) || decide (port % 4 = 0)) &&
    (linkLocal || (decide (target ≠ 0) && (decide (target = p.ipv4) || decide (target = p.ipv6))))

/-- The MAC address of a port: the base address plus its number (R389). -/
def portMac (s : State) (port : Nat) : Nat := (s.flash.mac + port) % 2 ^ 48

/-- ARP_ND_ICMP_REQUEST. -/
def execArpNdIcmpRequest (port : PortId) (target : BitVec 128) (echo : BitVec 64) (s : State) :
    Host.Outcome State Fault Refusal :=
  .next (if executes s && answersFor s port.val target.toNat then emit (.answer port.val (portMac s port.val) echo.toNat) s else s)

/-! ## IEEE 1588 (R397, R398) -/

/-- The instance followed: the better-ranking grandmaster of two locked, else the one that is locked. -/
def followB (a b : PtpS) (was : Bool) : Bool :=
  if a.locked && b.locked then decide (b.rank < a.rank) else if a.locked then false else if b.locked then true else was

/-- PTP_EVENT_MESSAGE: at a port of network A or B, its instance's offset, lock and rank. -/
def execPtpEventMessage (t : Nat) (port : PortId) (offset : Int) (locked : Bool) (rank : Nat) (s : State) :
    Host.Outcome State Fault Refusal :=
  .next (whenReady (fun st =>
    let s0 := atTime t st
    let p : PtpS := { locked := locked, rank := rank, offset := offset }
    let a := if port.val < 4 then p else s0.host.ptpA
    let b := if port.val < 4 then s0.host.ptpB else p
    { s0 with host := { s0.host with ptpA := a, ptpB := b, followB := followB a b s0.host.followB } }) s)

/-- PTP_INSTANCE_CHANGE: the instance followed is lost; the other is followed where it is locked. -/
def execPtpInstanceChange (s : State) : Host.Outcome State Fault Refusal :=
  .next (whenReady (fun st =>
    let a := if st.host.followB then st.host.ptpA else { st.host.ptpA with locked := false }
    let b := if st.host.followB then { st.host.ptpB with locked := false } else st.host.ptpB
    { st with host := { st.host with ptpA := a, ptpB := b, followB := followB a b st.host.followB } }) s)

end Sys2Proof.Machine
end

