-- ==== Sys2Proof/Machine/Pins.lean ====
section
/-! DEFINITION. The discrete inputs (chapter 18): accepted transitions and what each does, halt requests, stuck inputs, and
the transitions that filters reject. -/

namespace Sys2Proof.Machine

/-! ## Accepted levels (R524) -/

/-- A pin's bit in PIN_STATE, PIN_STUCK and PIN_CHATTER (R549). -/
def pinBit : PinIn → Nat
  | .rstN => 0
  | .pwrGood => 1
  | .thrN => 2
  | .haltN => 3
  | .tempAlertN => 4
  | .shutterIn => 5
  | .tickIn => 6
  | .leadSel => 7

/-- The level at which an input's stuck time runs: PWR_GOOD's is its low level (Table 18.4). -/
def stuckLevel (n : Nat) : Bool := decide (n ≠ 1)

/-- An accepted level: the time is kept of one that may stick, the other ends a stuck condition (R525). -/
def acceptLevel (n : Nat) (on : Bool) (s : State) : State :=
  let p := { s.pins with asserted := putBit n on s.pins.asserted }
  if on = stuckLevel n then { s with pins := { p with since := mapSet 0 p.since n (s.now + 1) } }
  else { s with pins := { p with since := mapSet 0 p.since n 0, stuck := putBit n false p.stuck } }

/-- An event that the module writes while it runs. -/
def ifReady (f : State → State) (s : State) : State := if s.boot.state = .ready then f s else s

/-! ## THR_N and TEMP_ALERT_N (R457, R458) -/

/-- THR_N_ASSERT: the ceiling moves to the throttle floor. -/
def execThrNAssert (t : Nat) (s : State) : Host.Outcome State Fault Refusal :=
  .next (whenPowered (fun st =>
    let s1 := acceptLevel 2 true st
    ifReady (powerEvent 8 0) { s1 with power := { s1.power with thr := true } }) (atTime t s))

/-- THR_N_RELEASE. -/
def execThrNRelease (t : Nat) (s : State) : Host.Outcome State Fault Refusal :=
  .next (whenPowered (fun st =>
    let s1 := acceptLevel 2 false st
    ifReady (powerEvent 9 0) { s1 with power := { s1.power with thr := false } }) (atTime t s))

/-- TEMP_ALERT_ASSERT: the safe cap, and no glow floor. -/
def execTempAlertAssert (t : Nat) (s : State) : Host.Outcome State Fault Refusal :=
  .next (whenPowered (fun st =>
    let s1 := acceptLevel 4 true st
    ifReady (powerEvent 11 0) { s1 with power := { s1.power with alert := true } }) (atTime t s))

/-- TEMP_ALERT_RELEASE. -/
def execTempAlertRelease (t : Nat) (s : State) : Host.Outcome State Fault Refusal :=
  .next (whenPowered (fun st =>
    let s1 := acceptLevel 4 false st
    ifReady (powerEvent 12 0) { s1 with power := { s1.power with alert := false } }) (atTime t s))

/-! ## HALT_N (R527) -/

/-- This module's halt request, or its withdrawal: at the job lead to itself, elsewhere to its lead.
Log entry 67 (DEDUCED). -/
def ownHalt (withdraw : Bool) (s : State) : State :=
  if !s.job.started then s
  else if isJobLead s then (if withdraw then dropHalt s else askHalt s)
  else emit (.halt (selfIndex s) withdraw) s

/-- HALT_N_ASSERT: with no job it is recorded only. -/
def execHaltNAssert (t : Nat) (s : State) : Host.Outcome State Fault Refusal :=
  .next (whenPowered (fun st =>
    let s1 := acceptLevel 3 true st
    ifReady (fun q => if q.job.started then
        ownHalt false { q with pins := { q.pins with haltSent := !isJobLead q } } else q) s1) (atTime t s))

/-- HALT_N_RELEASE: a request that was sent is withdrawn. -/
def execHaltNRelease (t : Nat) (s : State) : Host.Outcome State Fault Refusal :=
  .next (whenPowered (fun st =>
    let s1 := acceptLevel 3 false st
    let s2 := { s1 with pins := { s1.pins with haltSent := false } }
    ifReady (fun q => if s1.pins.haltSent || isJobLead q then ownHalt true q else q) s2) (atTime t s))

/-- HALT_REQUEST: another module's request or withdrawal, at the job lead; a group lead passes it on. -/
def execHaltRequest (module_ : Fin 1024) (withdraw : Bool) (s : State) : Host.Outcome State Fault Refusal :=
  .next (whenReady (fun st =>
    let m := { memberS st module_.val with halt := !withdraw }
    if isJobLead st then
      let s1 := setMember module_.val m st
      if !s1.job.started then s1 else if withdraw then dropHalt s1 else askHalt s1
    else if isLead st && st.job.started then emit (.halt module_.val withdraw) st
    else st) s)

/-! ## RST_N, PWR_GOOD and LEAD_SEL (R443, R526, R528) -/

/-- The module is held in reset: no start is due. -/
def heldInReset (s : State) : State :=
  if s.boot.state = .reset then { s with boot := { s.boot with startPending := false, refclkWait := false } }
  else resetModule false s

/-- Both RST_N and PWR_GOOD are at their released levels: a start is due. -/
def releaseReset (s : State) : State :=
  if s.boot.state = .reset ∧ bitAt s.pins.asserted 0 = false ∧ bitAt s.pins.asserted 1 = true then
    { s with boot := { s.boot with startPending := true } }
  else s

/-- RST_N_ASSERT. -/
def execRstNAssert (t : Nat) (s : State) : Host.Outcome State Fault Refusal :=
  .next (whenPowered (fun st => heldInReset (acceptLevel 0 true st)) (atTime t s))

/-- RST_N_RELEASE: LEAD_SEL is latched, and the start is due once PWR_GOOD is high. RST_N that is not asserted has no
release. -/
def execRstNRelease (t : Nat) (leadSel : Bool) (s : State) : Host.Outcome State Fault Refusal :=
  .next (whenPowered (fun st =>
    if bitAt st.pins.asserted 0 = false then st
    else
      let s1 := acceptLevel 7 leadSel (acceptLevel 0 false st)
      releaseReset { s1 with pins := { s1.pins with leadSel := leadSel, leadSelReported := false
                                                    stuck := putBit 7 false s1.pins.stuck } }) (atTime t s))

/-- PWR_GOOD_RISE: of a PWR_GOOD that was low. -/
def execPwrGoodRise (t : Nat) (s : State) : Host.Outcome State Fault Refusal :=
  .next (whenPowered (fun st =>
    if bitAt st.pins.asserted 1 then st else releaseReset (acceptLevel 1 true st)) (atTime t s))

/-- PWR_GOOD_FALL. -/
def execPwrGoodFall (t : Nat) (s : State) : Host.Outcome State Fault Refusal :=
  .next (whenPowered (fun st => heldInReset (acceptLevel 1 false st)) (atTime t s))

/-! ## Stuck inputs (R525, Table 18.4) -/

/-- The stuck time of an input, in ns. -/
def stuckTime (s : State) : PinIn → Nat
  | .rstN | .tempAlertN => 60000000000
  | .pwrGood => 10000000000
  | .thrN | .shutterIn | .leadSel => 1000000000
  | .haltN => 600000000000
  | .tickIn => 3 * periodNs s

/-- The FAULT record of a stuck input: its code is the input's row of Table 18.4.
Log entry 30 (DESIGN CHOICE). -/
def pinRecord (p : PinIn) : FaultRec := { cls := 11, code := pinBit p + 1 }

def markStuck (p : PinIn) (s : State) : State :=
  { s with pins := { s.pins with stuck := putBit (pinBit p) true s.pins.stuck } }

/-- Does the module act on TICK_IN (R62, R66, R529): the job lead under EXTERNAL, or another group lead, of which an edge
that came shows that it is wired? -/
def actsOnTickIn (s : State) : Bool :=
  isLead s && s.job.started && (!isJobLead s || decide (s.tick.source = .external))

/-- Has the stuck time of an input that is not stuck yet run out since it was accepted? -/
def stuckDue (p : PinIn) (s : State) : Bool :=
  let since := mapGet 0 s.pins.since (pinBit p)
  !bitAt s.pins.stuck (pinBit p) && decide (since ≠ 0) && decide (since + stuckTime s p ≤ s.now + 1)

/-- LEAD_SEL at a level other than the latched one, once a start. -/
def leadSelOff (s : State) : State :=
  if s.pins.leadSelReported then s
  else
    let s1 := markStuck .leadSel { s with pins := { s.pins with
      leadSelReported := true, asserted := putBit 7 (!s.pins.leadSel) s.pins.asserted } }
    faultEvent (pinRecord .leadSel) s1

/-- LEAD_SEL_CHANGE. -/
def execLeadSelChange (t : Nat) (s : State) : Host.Outcome State Fault Refusal :=
  .next (whenReady leadSelOff (atTime t s))

/-- A stuck RST_N or PWR_GOOD: the standby logic keeps the flag, and the next start has it to journal. -/
def heldPin (p : PinIn) (s : State) : State :=
  let s1 := markStuck p s
  { s1 with flash := { s1.flash with rstHeld := s1.flash.rstHeld || decide (p = .rstN)
                                     pgHeld := s1.flash.pgHeld || decide (p = .pwrGood), heldDue := true } }

/-- PIN_STUCK: the report that Table 18.4 gives each input. TICK_IN's event is that of the change to INTERNAL, and
SHUTTER_IN is high where it sticks. -/
def execPinStuck (t : Nat) (pin : PinIn) (s : State) : Host.Outcome State Fault Refusal :=
  let s0 := atTime t s
  .next (match pin with
    | .rstN => if bitAt s0.pins.asserted 0 && stuckDue .rstN s0 then heldPin .rstN s0 else s0
    | .pwrGood => if !bitAt s0.pins.asserted 1 && stuckDue .pwrGood s0 then whenPowered (heldPin .pwrGood) s0 else s0
    | .thrN => whenReady (fun st => if stuckDue .thrN st then powerEvent 10 0 (recordFault (pinRecord .thrN) (markStuck .thrN st))
        else st) s0
    | .haltN => whenReady (fun st => if stuckDue .haltN st then faultEvent (pinRecord .haltN) (markStuck .haltN st) else st) s0
    | .tempAlertN => whenReady (fun st =>
        if stuckDue .tempAlertN st then faultEvent (pinRecord .tempAlertN) (markStuck .tempAlertN st) else st) s0
    | .shutterIn => whenReady (fun st =>
        if stuckDue .shutterIn st then
          faultEvent (pinRecord .shutterIn)
            (markStuck .shutterIn { st with pins := { st.pins with asserted := putBit 5 true st.pins.asserted } })
        else st) s0
    | .tickIn => whenReady (fun st =>
        if actsOnTickIn st && stuckDue .tickIn st then recordFault (pinRecord .tickIn) (markStuck .tickIn st) else st) s0
    | .leadSel => whenReady leadSelOff s0)

/-- PIN_TRANSITION_REJECTED: counted for its input (R524). -/
def execPinTransitionRejected (pin : PinIn) (s : State) : Host.Outcome State Fault Refusal :=
  .next (whenPowered (count (cPinChatter + pinBit pin) 1) s)

end Sys2Proof.Machine
end

