-- ==== Sys2Proof/Machine/Sideband.lean ====
section
/-! DEFINITION. The sideband (R533 to R535): the command mailbox, the reply, the register path and the bus address. -/

namespace Sys2Proof.Machine

/-- An access that the sideband answers; one that it does not has no effect (R443, R533).
Log entry 15 (DEDUCED). -/
def whenAnswering (f : State → State) (s : State) : State := if s.side.answering then f s else s

/-- An access refused with a NACK. -/
def sideNack (s : State) : State := { s with side := { s.side with nack := true } }

/-- An access taken. -/
def sideAck (s : State) : State := { s with side := { s.side with nack := false } }

/-- The sideband's part in a command packet: a size that is not 32 + LENGTH is refused as a datagram's is (R394). -/
def sideCommand (bytes : Nat) (p : Packet) (s : State) : State :=
  if bytes ≠ 32 + p.length.toNat then
    let h := { headerOf .sideband p with seq := if 8 ≤ bytes then p.seq else 0#32
                                         ctx := if 4 ≤ bytes then p.ctx else 0#8 }
    refuse h 0x0105 bytes s
  else runPacket .sideband p s

/-- SIDEBAND_COMMAND_WRITE: refused with a NACK until the reply of the command before it has been read. -/
def execSidebandCommandWrite (bytes : Fin 65536) (pkt : Packet) (s : State) : Host.Outcome State Fault Refusal :=
  .next (whenAnswering (fun st =>
    if st.side.mailbox.isSome || !executes st then sideNack st
    else
      let s1 := sideAck st
      sideCommand bytes.val pkt { s1 with side := { s1.side with mailbox := some pkt, reply := [], replyReady := false } }) s)

/-- What an I2C controller polls while the command runs: a status record 0x0301 naming its opcode (R535).
Log entry 41 (DESIGN CHOICE). Log entry 65 (DESIGN CHOICE). -/
def busyRecord (p : Packet) : List Byte :=
  encodeStatus { status := 0x0301, detail := p.opcode.toNat, seq := p.seq.toNat, length := 0, ring := 0xFFFF, event := false
                 cont := false, final := false, ctx := p.ctx.toNat }

/-- What a private read after byte 0x02 returns, and what it leaves: a FINAL reply that is read frees the mailbox. -/
def readReply (s : State) : State :=
  let d := s.side
  let busy := d.i2c && !d.replyReady
  match d.mailbox with
  | none => { s with side := { d with read := [], nack := true } }
  | some p =>
    if busy then { s with side := { d with read := busyRecord p, nack := false } }
    else { s with side := { d with read := d.reply.flatten, nack := d.reply.isEmpty, reply := []
                                   mailbox := if d.replyReady then none else some p, replyReady := false } }

/-- SIDEBAND_REPLY_READ. -/
def execSidebandReplyRead (s : State) : Host.Outcome State Fault Refusal := .next (whenAnswering readReply s)

/-- SIDEBAND_REG_READ: with the sideband's own latch (R540). -/
def execSidebandRegRead (addr : BitVec 32) (s : State) : Host.Outcome State Fault Refusal :=
  .next (whenAnswering (fun st =>
    if (addrProblem st addr.toNat).isSome then sideNack st
    else match readWord true addr.toNat st with
      | none => sideNack st
      | some (v, s1) => { s1 with side := { s1.side with read := bytesLE 4 v, nack := false } }) s)

/-- SIDEBAND_REG_WRITE: a write that REG_WRITE would refuse is refused with a NACK, as is every write during a start
(Table 19.9) and in recovery mode (R545). -/
def execSidebandRegWrite (addr value : BitVec 32) (s : State) : Host.Outcome State Fault Refusal :=
  .next (whenAnswering (fun st =>
    if (addrProblem st addr.toNat).isSome || writeRefused addr.toNat value.toNat st || decide (st.boot.state ≠ .ready) then
      sideNack st
    else sideAck (writeWord addr.toNat value.toNat st)) s)

/-- ENTDAA: a dynamic address for a target that has none. Whether the controller lets the module raise interrupts for
events is then a free value: no command enables them. -/
def execEntdaa (addr : BitVec 7) (s : State) : Host.Outcome State Fault Refusal :=
  .next (whenAnswering (fun st =>
    if st.side.dynAddr.isSome || st.side.i2c then st
    else
      let d := drawFree st
      { d.2 with side := { d.2.side with dynAddr := some addr.toNat, eventsOn := decide (d.1 % 2 = 1) } }) s)

/-- I2C_FALLBACK: no dynamic address within 100 ms of the first answer. -/
def execI2cFallback (s : State) : Host.Outcome State Fault Refusal :=
  .next (whenAnswering (fun st =>
    if st.side.dynAddr.isSome then st else { st with side := { st.side with i2c := true } }) s)

end Sys2Proof.Machine
end

