-- ==== Sys2Proof/Machine/Vector.lean ====
section
/-! DEFINITION. The vector class: VOP, VFN, VCVT and VRED (R118, R159 to R167). Counts are the operand plus one. -/

namespace Sys2Proof.Machine

/-- The vector unit runs one instruction; another waits at issue (R133). -/
def onVector (f : State → CoreS → CtxS → QTask → Nat → Nat → Act) (s : State) (o : CoreS) (x : CtxS) (t : QTask)
    (key c : Nat) : Act :=
  if o.vector.isSome then .wait else
  match f s o x t key c with
  | .act g => .act fun st => advance key c (updCore key (fun q => { q with vector := some c }) (g st))
  | a => a

/-- Stepping A0 (R3)? -/
def isA0 (s : State) : Bool := decide (s.flash.stepping = 0xA0)

/-- FP32 words of SRAM. -/
def readWords (o : CoreS) (a n : Nat) : List Nat := (List.range n).map fun i => sramNat o (a + 4 * i) 4

def wordBytes (ws : List Nat) : List Byte := ws.flatMap (bytesLE 4)

/-- Count NaN results made from non-NaN inputs (R159). -/
def addNans (key n : Nat) (s : State) : State :=
  if n = 0 then s else count cNanMade n (updCore key (fun o => { o with nanMade := o.nanMade + n }) s)

/-- One elementwise operation on FP32 words. -/
def vecOp (a0 : Bool) (op : VecOp) (a b c : Nat) : Nat :=
  match op with
  | .add => fpAdd a0 a b
  | .sub => fpSub a0 a b
  | .mul => fpMul a0 a b
  | .fma => fpFma a0 a b c
  | .min => fpMin a b
  | .max => fpMax a b
  | .abs => fpAbs a
  | .neg => fpNeg a
  | .cmpLt => Config.compareWord (valLt (fpDec a) (fpDec b)) % 2 ^ 32
  | .cmpLe => Config.compareWord (!valLt (fpDec b) (fpDec a) && !valIsNan (fpDec a) && !valIsNan (fpDec b)) % 2 ^ 32
  | .cmpEq => Config.compareWord (!valLt (fpDec a) (fpDec b) && !valLt (fpDec b) (fpDec a) &&
      !valIsNan (fpDec a) && !valIsNan (fpDec b)) % 2 ^ 32
  | .select => if Config.selectTaken c then a else b

/-- Does an operation make NaNs that count: arithmetic, not compare or select? -/
def vecOpCounts : VecOp → Bool
  | .cmpLt | .cmpLe | .cmpEq | .select => false
  | _ => true

/-- How many of an operation's operands it reads. -/
def vecOpArity : VecOp → Nat
  | .abs | .neg => 1
  | .fma | .select => 3
  | _ => 2

/-- A NaN result from non-NaN inputs. -/
def madeNan (ins : List Nat) (out : Nat) : Bool := valIsNan (fpDec out) && ins.all fun w => !valIsNan (fpDec w)

/-- VOP. -/
def execVop (k : Issue) (op : VecOp) (dst a b c : RegIx) (count : Fin 4096) (s : State) :
    Host.Outcome State Fault Refusal :=
  .next (runInstr k (onVector fun st o x _ key _ =>
    let n := count.val + 1
    let m := vecOpArity op
    if !inSram (reg x dst) (4 * n) || !inSram (reg x a) (4 * n) || (decide (2 ≤ m) && !inSram (reg x b) (4 * n)) ||
        (decide (3 ≤ m) && !inSram (reg x c) (4 * n)) then .fault tfAddress
    else
      let av := readWords o (reg x a) n
      let bv := if 2 ≤ m then readWords o (reg x b) n else []
      let cv := if 3 ≤ m then readWords o (reg x c) n else []
      let ins (i : Nat) : List Nat := [nth 0 av i, nth 0 bv i, nth 0 cv i].take m
      let out := (List.range n).map fun i => vecOp (isA0 st) op (nth 0 av i) (nth 0 bv i) (nth 0 cv i)
      let nans := ((List.range n).filter fun i => vecOpCounts op && madeNan (ins i) (nth 0 out i)).length
      .act fun st' => addNans key nans (writeSram key (reg x dst) (wordBytes out) st')) s)

/-! ### VFN -/

def vecFnCode : VecFn → Nat
  | .exp2 => 0
  | .log2 => 1
  | .recip => 2
  | .rsqrt => 3

/-- A real result known from below: `mag · 2^exp` is it, or is below it by less than a unit of `mag`. -/
structure Bounded where
  neg : Bool
  mag : Nat
  exp : Int
  exact : Bool
  deriving DecidableEq, Repr

/-- The magnitude bits of a bounded result truncated to FP32. -/
def floorBits (r : Bounded) : Nat := min 0x7F800000 (roundMag .fp32 (.stochastic (2 ^ 24)) r.mag r.exp)

/-- Is a word of the result's sign within 2 units in the last place of it: between the FP32 values 1 below and 2 above its
truncation, or 2 below where the result is that value.
Log entry 10 (DESIGN CHOICE). -/
def within2 (w : Nat) (r : Bounded) : Bool :=
  let lo := floorBits r
  let hit := r.exact && !valLt (fpDec lo) (.fin false r.mag r.exp)
  decide (field w 31 1 = b2n r.neg) && decide (field w 0 31 ≤ min 0x7F800000 (lo + 2)) &&
    decide (lo ≤ field w 0 31 + (if hit then 2 else 1))

/-- Fraction bits to which 2^x and log₂ x are worked out. -/
def fnBits : Nat := 128

/-- Multiply by 2^(2^-i) for every set bit of a fraction, the highest first: `r` is 2^(2^-i), over 2^fnBits. -/
def powBits : Nat → Nat → Nat → Nat → Nat
  | 0, _, _, acc => acc
  | n + 1, frac, r, acc =>
    powBits n frac (Nat.sqrt (r * 2 ^ fnBits)) (if bitAt frac n then acc * r / 2 ^ fnBits else acc)

/-- 2 to the power of a finite value. -/
def exp2Of (neg : Bool) (mag : Nat) (exp : Int) : Bounded :=
  let x : Int := if neg then -(mag : Int) else mag
  let scaled := if -64 ≤ exp then x * 2 ^ (exp + 64).toNat else x / 2 ^ (-64 - exp).toNat
  let n := max (-300) (scaled / 2 ^ 64)
  let frac := (scaled % 2 ^ 64).toNat
  let whole := decide (mag = 0) || decide (0 ≤ exp) || decide (mag % 2 ^ (-exp).toNat = 0)
  let acc := powBits 64 frac (Nat.sqrt (2 * 2 ^ (2 * fnBits))) (2 ^ fnBits)
  { neg := false, mag := acc, exp := n - fnBits, exact := whole }

/-- The bits of log₂ of `m` / 2^(2 fnBits), which lies from 1 to 2. -/
def logBits : Nat → Nat → Nat → Nat
  | 0, _, acc => acc
  | n + 1, m, acc =>
    let q := m * m / 2 ^ (2 * fnBits)
    if 2 * 2 ^ (2 * fnBits) ≤ q then logBits n (q / 2) (2 * acc + 1) else logBits n q (2 * acc)

/-- log₂ of a positive value. -/
def log2Of (mag : Nat) (exp : Int) : Bounded :=
  let m := mag * 2 ^ (2 * fnBits) / 2 ^ Nat.log2 mag
  let whole := decide (mag = 2 ^ Nat.log2 mag)
  let t : Int := leadExp mag exp * 2 ^ 64 + logBits 64 m 0
  if 0 ≤ t then { neg := false, mag := t.toNat, exp := -64, exact := whole }
  else { neg := true, mag := if whole then t.natAbs else t.natAbs - 1, exp := -64, exact := whole }

/-- 1 over a value. -/
def recipOf (neg : Bool) (mag : Nat) (exp : Int) : Bounded :=
  { neg := neg, mag := 2 ^ 150 / mag, exp := -exp - 150, exact := decide (2 ^ 150 % mag = 0) }

/-- 1 over the root of a positive value. -/
def rsqrtOf (mag : Nat) (exp : Int) : Bounded :=
  let m := mag * 2 ^ (exp % 2).toNat
  let q := Nat.sqrt (2 ^ 300 / m)
  { neg := false, mag := q, exp := -((exp - exp % 2) / 2) - 150, exact := decide (q * q * m = 2 ^ 300) }

/-- The free value where it lies within the bound, else the truncated result. -/
def boundedWord (free : Nat) (r : Bounded) : Nat :=
  if within2 free r then free else withSign .fp32 r.neg (floorBits r)

/-- A function's result: canonical NaN for a NaN or an invalid operand; the limit at an infinity or a pole of the
reciprocals; else a free value within 2 units in the last place of the exact result (R118). Of log₂ 0 the spec states no
result.
Log entry 10 (DESIGN CHOICE). -/
def vecFnWord (fn : VecFn) (a : Nat) : Nat :=
  let free := Config.vecFn (vecFnCode fn) a % 2 ^ 32
  match fn, fpDec a with
  | _, .nan => fpNan
  | .exp2, .inf neg => if neg then 0 else fpEnc (.inf false)
  | .exp2, .fin neg m e =>
    if 0x43000000 ≤ a ∧ neg = false then fpEnc (.inf false) else boundedWord free (exp2Of neg m e)
  | .log2, .inf neg => if neg then fpNan else fpEnc (.inf false)
  | .log2, .fin neg m e =>
    if m = 0 then (if valIsNan (fpDec free) then fpNan else free)
    else if neg then fpNan else boundedWord free (log2Of m e)
  | .recip, .inf neg => withSign .fp32 neg 0
  | .recip, .fin neg m e => if m = 0 then fpEnc (.inf neg) else boundedWord free (recipOf neg m e)
  | .rsqrt, .inf neg => if neg then fpNan else 0
  | .rsqrt, .fin neg m e =>
    if m = 0 then fpEnc (.inf neg) else if neg then fpNan else boundedWord free (rsqrtOf m e)

/-- VFN. -/
def execVfn (k : Issue) (fn : VecFn) (dst a : RegIx) (count : Fin 4096) (s : State) :
    Host.Outcome State Fault Refusal :=
  .next (runInstr k (onVector fun _ o x _ key _ =>
    let n := count.val + 1
    if !inSram (reg x dst) (4 * n) || !inSram (reg x a) (4 * n) then .fault tfAddress
    else
      let av := readWords o (reg x a) n
      let out := av.map (vecFnWord fn)
      let nans := ((List.range n).filter fun i => madeNan [nth 0 av i] (nth 0 out i)).length
      .act fun st' => addNans key nans (writeSram key (reg x dst) (wordBytes out) st')) s)

/-! ### VCVT (R161 to R167) -/

/-- The element type of a conversion format. -/
def cvtElem : CvtFmt → Elem
  | .elem e => e
  | .mx e => e
  | .t4 => .e2m1

/-- Bytes of `n` elements: two 4-bit elements to a byte, the lower index in bits [3:0] (R149). -/
def cvtBytes (f : CvtFmt) (n : Nat) : Nat :=
  if elemBits (cvtElem f) ≤ 4 then ceilDiv n 2 else n * elemBytes (cvtElem f)

/-- Bytes of the block scales of `n` elements. -/
def cvtScaleBytes (f : CvtFmt) (n : Nat) : Nat :=
  match f with | .elem _ => 0 | .mx _ => ceilDiv n 32 | .t4 => 2 * ceilDiv n 32

/-- The bits of element `i` of an array at `a`. -/
def cvtRead (o : CoreS) (f : CvtFmt) (a i : Nat) : Nat :=
  let e := cvtElem f
  if elemBits e ≤ 4 then field (sramByte o (a + i / 2)).toNat (4 * (i % 2)) 4
  else field (sramNat o (a + i * elemBytes e) (elemBytes e)) 0 (elemBits e)

/-- The value of element `i` under its block scale. -/
def cvtValue (o : CoreS) (f : CvtFmt) (a scale i : Nat) : Val :=
  let v := decodeElem (cvtElem f) (cvtRead o f a i)
  match f with
  | .elem _ => v
  | .mx _ => valMul v (e8m0 (sramNat o (scale + i / 32) 1))
  | .t4 =>
    let x := sramNat o (scale + 2 * (i / 32)) 1
    let trim := field (sramNat o (scale + 2 * (i / 32) + 1) 1) (4 * (i / 16 % 2)) 4
    valMul v (t4Scale x trim)

/-- Converted elements: words, saturations, NaNs lost, and the generator after one draw per element. -/
structure CvtOut where
  words : List Nat
  sats : Nat
  lost : Nat
  gen : BitVec 64

/-- Convert values in ascending order, each rounded once; `g` maps a value to what is rounded, `zero` writes zeros. -/
def cvtMany (e : Elem) (sr sat zero : Bool) (g : Val → Val) : List Val → CvtOut → CvtOut
  | [], r => r
  | v :: vs, r =>
    let d := nextRounding sr r.gen
    let q := convert e d.1 sat (g v)
    let r1 := if zero then { r with words := r.words ++ [0], gen := d.2 }
      else { words := r.words ++ [q.word], sats := r.sats + b2n q.sat, lost := r.lost + b2n q.nanLost, gen := d.2 }
    cvtMany e sr sat zero g vs r1

/-- The MX scale byte of a block (R166). -/
def mxBlockScale (e : Elem) (vs : List Val) : Nat :=
  let m := maxFinMag vs
  if vs.any valIsNan then 0xFF
  else if m.1 = 0 then (if vs.all valIsZero then 0x00 else 0xFE)
  else mxScaleByte e m.1 m.2

/-- Convert one block of up to 32 values to MX form: the scale byte and the elements. -/
def mxBlock (e : Elem) (sr : Bool) (vs : List Val) (r : CvtOut) : Nat × CvtOut :=
  let sc := mxBlockScale e vs
  (sc, cvtMany e sr true (decide (sc = 0xFF)) (valOver 1 ((sc : Int) - 127)) vs r)

/-- Convert one block to T4 form: exponent byte, trim byte, elements by half (R167). -/
def t4Block (sr : Bool) (vs : List Val) (r : CvtOut) : Nat × Nat × CvtOut :=
  let m := maxFinMag vs
  let x := t4ExpByte m.1 m.2
  let lo := vs.take 16
  let hi := vs.drop 16
  let trim (h : List Val) : Nat := if x = 0 then 0 else t4Trim x (maxFinMag h).1 (maxFinMag h).2
  let conv (h : List Val) (q : CvtOut) : CvtOut :=
    cvtMany .e2m1 sr true false (valOver (16 + trim h) ((x : Int) - 131)) h q
  (x, trim lo + 16 * trim hi, conv hi (conv lo r))

/-- Block after block: scale bytes and elements. The first argument bounds the blocks. -/
def cvtBlocks (f : CvtFmt) (sr : Bool) : Nat → List Val → List Byte → CvtOut → List Byte × CvtOut
  | 0, _, sc, r => (sc, r)
  | n + 1, vs, sc, r =>
    if vs.isEmpty then (sc, r) else
    match f with
    | .t4 =>
      let b := t4Block sr (vs.take 32) r
      cvtBlocks f sr n (vs.drop 32) (sc ++ bytesLE 1 b.1 ++ bytesLE 1 b.2.1) b.2.2
    | _ =>
      let b := mxBlock (cvtElem f) sr (vs.take 32) r
      cvtBlocks f sr n (vs.drop 32) (sc ++ bytesLE 1 b.1) b.2

/-- Pack element words into bytes. -/
def packElems (f : CvtFmt) (ws : List Nat) : List Byte :=
  if elemBits (cvtElem f) ≤ 4 then
    (List.range (ceilDiv ws.length 2)).flatMap fun i => bytesLE 1 (nth 0 ws (2 * i) + 16 * nth 0 ws (2 * i + 1))
  else ws.flatMap (bytesLE (elemBytes (cvtElem f)))

/-- A conversion of values to a format: the scale bytes, the elements, counts and generator. -/
def cvtTo (f : CvtFmt) (sr sat : Bool) (vs : List Val) (gen : BitVec 64) : List Byte × CvtOut :=
  let r0 : CvtOut := { words := [], sats := 0, lost := 0, gen := gen }
  match f with
  | .elem e => ([], cvtMany e sr sat false id vs r0)
  | _ => cvtBlocks f sr (vs.length + 1) vs [] r0

/-- Has a format every finite value of another, so that a conversion to it is no narrowing one (R161)? -/
def holdsElem (target source : Elem) : Bool :=
  decide (elemManBits source ≤ elemManBits target) && decide (elemMinExp target ≤ elemMinExp source) &&
    (match decodeElem source (elemMaxBits source) with | .fin _ m e => !aboveMax target m e | _ => false)

/-- SAT acts in narrowing conversions alone (R163). -/
def satActs (from_ to_ : CvtFmt) : Bool :=
  match from_, to_ with
  | .elem a, .elem b => !holdsElem b a
  | _, _ => true

/-- The format that a code of VCVT names; an error is a task fault (R143, R147). -/
def cvtFmtOf (c : CvtCode) : Except Nat CvtFmt :=
  match fmtOfCode c.code.val with
  | none => .error tfFormat
  | some (.elem e) => .ok (.elem e)
  | some .t4 => .ok .t4
  | some .mx => match sideElem .mx c.elem.val with
    | some e => .ok (.mx e)
    | none => .error tfScale

def isT4 : CvtFmt → Bool
  | .t4 => true
  | _ => false

/-- Add a conversion's counts to the core and the module (R163).
Log entry 31 (DEDUCED). -/
def addCvt (key : Nat) (r : CvtOut) (s : State) : State :=
  if r.sats = 0 ∧ r.lost = 0 then s else
  count cNanLost r.lost (count cSatCount r.sats (updCore key (fun o =>
    { o with satCount := o.satCount + r.sats, nanLost := o.nanLost + r.lost }) s))

/-- Convert `n` elements at `src` to `dst`. -/
def convertArray (o : CoreS) (x : CtxS) (key c dst src inScale : Nat) (from_ to_ : CvtFmt) (sr sat : Bool) (n : Nat) :
    Act :=
  let outScale := inScale + cvtScaleBytes from_ n
  if !inSram src (cvtBytes from_ n) || !inSram dst (cvtBytes to_ n) ||
      !inSram inScale (cvtScaleBytes from_ n) || !inSram outScale (cvtScaleBytes to_ n) then .fault tfAddress
  else if isT4 from_ && (List.range (ceilDiv n 32)).any (fun b => decide (sramNat o (inScale + 2 * b) 1 = 0xFF)) then
    .fault tfT4
  else
    let vs := (List.range n).map fun i => cvtValue o from_ src inScale i
    if isT4 to_ && vs.any (fun v => match v with | .fin _ _ _ => false | _ => true) then .fault tfSource
    else
      let r := cvtTo to_ sr (sat && satActs from_ to_) vs x.gen
      .act fun st => addCvt key r.2 (updCtx key c (fun y => { y with gen := r.2.gen })
        (writeSram key outScale r.1 (writeSram key dst (packElems to_ r.2.words) st)))

/-- VCVT: `scale` holds the address of the block scales, of the source where it is block-scaled, else of the target;
between two block-scaled formats the target's follow the source's. -/
def execVcvt (k : Issue) (dst src scale : RegIx) (from_ to_ : CvtCode) (sr sat : Bool) (count : Fin 4096) (s : State) :
    Host.Outcome State Fault Refusal :=
  .next (runInstr k (onVector fun _ o x _ key c =>
    match cvtFmtOf from_, cvtFmtOf to_ with
    | .error e, _ => .fault e
    | _, .error e => .fault e
    | .ok from_, .ok to_ => convertArray o x key c (reg x dst) (reg x src) (reg x scale) from_ to_ sr sat
        (count.val + 1)) s)

/-! ### VRED -/

/-- One reduction step. -/
def redStep (a0 : Bool) (op : RedOp) (a b : Nat) : Nat :=
  match op with | .sum => fpAdd a0 a b | .min => fpMin a b | .max => fpMax a b

/-- A list reduced in ascending order, with the NaNs made. -/
def redList (a0 : Bool) (op : RedOp) : List Nat → Nat × Nat
  | [] => (0, 0)
  | w :: ws => ws.foldl (fun r v =>
      let q := redStep a0 op r.1 v
      (q, r.2 + b2n (madeNan [r.1, v] q))) (if valIsNan (fpDec w) then fpNan else w, 0)

/-- The element lists that a reduction takes: rows, columns, or lane pairs of a row-major array. -/
def redGroups (kind : RedKind) (ws : List Nat) (rows cols : Nat) : List (List Nat) :=
  match kind with
  | .row => (List.range rows).map fun r => (List.range cols).map fun c => nth 0 ws (r * cols + c)
  | .column => (List.range cols).map fun c => (List.range rows).map fun r => nth 0 ws (r * cols + c)
  | .lanePair => (List.range (ceilDiv (rows * cols) 2)).map fun i => (ws.drop (2 * i)).take 2

/-- VRED over 1 to 4,096 elements; more is an undefined encoding. -/
def execVred (k : Issue) (kind : RedKind) (op : RedOp) (dst src : RegIx) (rows cols : Fin 4096) (s : State) :
    Host.Outcome State Fault Refusal :=
  .next (runInstr k (onVector fun st o x _ key _ =>
    let r := rows.val + 1
    let c := cols.val + 1
    if 4096 < r * c then .fault tfOpcode
    else if !inSram (reg x src) (4 * (r * c)) then .fault tfAddress
    else
      let out := (redGroups kind (readWords o (reg x src) (r * c)) r c).map (redList (isA0 st) op)
      if !inSram (reg x dst) (4 * out.length) then .fault tfAddress
      else .act fun st' => addNans key (out.map (·.2)).sum (writeSram key (reg x dst) (wordBytes (out.map (·.1))) st')) s)

end Sys2Proof.Machine
end

