-- ==== Sys2Proof/Machine/Dispatch.lean ====
section
/-! DEFINITION. One arm per command: a direct call of its meaning. -/

namespace Sys2Proof.Machine

def exec (i : Instr) (s : State) : Host.Outcome State Fault Refusal :=
  match i with
  | .issueTick t => Sys2Proof.Machine.execIssueTick t s
  | .tickReceived t raw news => Sys2Proof.Machine.execTickReceived t raw news s
  | .graceExpired t unit => Sys2Proof.Machine.execGraceExpired t unit s
  | .overrunReport t member unit slot => Sys2Proof.Machine.execOverrunReport t member unit slot s
  | .groupSlipForward t group => Sys2Proof.Machine.execGroupSlipForward t group s
  | .tickMissed t => Sys2Proof.Machine.execTickMissed t s
  | .tickLoss t => Sys2Proof.Machine.execTickLoss t s
  | .nameStandby => Sys2Proof.Machine.execNameStandby s
  | .tickInEdge t => Sys2Proof.Machine.execTickInEdge t s
  | .flywheelTick t => Sys2Proof.Machine.execFlywheelTick t s
  | .flitReceived t link flit parityOk => Sys2Proof.Machine.execFlitReceived t link flit parityOk s
  | .flitResend link => Sys2Proof.Machine.execFlitResend link s
  | .packetForward router pkt partner checkOk => Sys2Proof.Machine.execPacketForward router pkt partner checkOk s
  | .linkRetrain link => Sys2Proof.Machine.execLinkRetrain link s
  | .linkRetrainDone link wires repaired => Sys2Proof.Machine.execLinkRetrainDone link wires repaired s
  | .fieldDark f cause => Sys2Proof.Machine.execFieldDark f cause s
  | .routeTablesInstalled => Sys2Proof.Machine.execRouteTablesInstalled s
  | .fieldShade f cause => Sys2Proof.Machine.execFieldShade f cause s
  | .queueItemWrite q item => Sys2Proof.Machine.execQueueItemWrite q item s
  | .queueItemRead q => Sys2Proof.Machine.execQueueItemRead q s
  | .unitMapChange entries digestsEqual => Sys2Proof.Machine.execUnitMapChange entries digestsEqual s
  | .taskSpread unit desc parity => Sys2Proof.Machine.execTaskSpread unit desc parity s
  | .taskDispatch core => Sys2Proof.Machine.execTaskDispatch core s
  | .scoreboardArrival core entry n => Sys2Proof.Machine.execScoreboardArrival core entry n s
  | .lPortWrite block pkt parity => Sys2Proof.Machine.execLPortWrite block pkt parity s
  | .nop k op => Sys2Proof.Machine.execNop k op s
  | .endTask k => Sys2Proof.Machine.execEndTask k s
  | .branch k target => Sys2Proof.Machine.execBranch k target s
  | .loop k count stop => Sys2Proof.Machine.execLoop k count stop s
  | .arm k entry target => Sys2Proof.Machine.execArm k entry target s
  | .signal k unit entry n => Sys2Proof.Machine.execSignal k unit entry n s
  | .seed k lo hi => Sys2Proof.Machine.execSeed k lo hi s
  | .spawn k addr unit makeup => Sys2Proof.Machine.execSpawn k addr unit makeup s
  | .copy k dst src len mask => Sys2Proof.Machine.execCopy k dst src len mask s
  | .gather k dst src list union => Sys2Proof.Machine.execGather k dst src list union s
  | .scatter k dst src list => Sys2Proof.Machine.execScatter k dst src list s
  | .fill k dst value len => Sys2Proof.Machine.execFill k dst value len s
  | .latch k src grid => Sys2Proof.Machine.execLatch k src grid s
  | .mma k word use => Sys2Proof.Machine.execMma k word use s
  | .drain k dst set orient => Sys2Proof.Machine.execDrain k dst set orient s
  | .clear k set => Sys2Proof.Machine.execClear k set s
  | .vop k op dst a b c count => Sys2Proof.Machine.execVop k op dst a b c count s
  | .vfn k fn dst a count => Sys2Proof.Machine.execVfn k fn dst a count s
  | .vcvt k dst src scale from_ to_ sr sat count => Sys2Proof.Machine.execVcvt k dst src scale from_ to_ sr sat count s
  | .vred k kind op dst src rows cols => Sys2Proof.Machine.execVred k kind op dst src rows cols s
  | .send k member kind block dst src len tag => Sys2Proof.Machine.execSend k member kind block dst src len tag s
  | .read k member kind block dst src len tag => Sys2Proof.Machine.execRead k member kind block dst src len tag s
  | .racc k table src => Sys2Proof.Machine.execRacc k table src s
  | .glint k op src len => Sys2Proof.Machine.execGlint k op src len s
  | .mmaRs k word dest tile last => Sys2Proof.Machine.execMmaRs k word dest tile last s
  | .agMma k word chunks => Sys2Proof.Machine.execAgMma k word chunks s
  | .mmaRacc k word tile => Sys2Proof.Machine.execMmaRacc k word tile s
  | .mmaSpill k word => Sys2Proof.Machine.execMmaSpill k word s
  | .frameArrival t lane raw => Sys2Proof.Machine.execFrameArrival t lane raw s
  | .segmentIngest t lane header payload => Sys2Proof.Machine.execSegmentIngest t lane header payload s
  | .consumerSignal seq => Sys2Proof.Machine.execConsumerSignal seq s
  | .frameMissing t lane seq => Sys2Proof.Machine.execFrameMissing t lane seq s
  | .laneSilent t lane => Sys2Proof.Machine.execLaneSilent t lane s
  | .memoryRequest stack req => Sys2Proof.Machine.execMemoryRequest stack req s
  | .hbmRefresh stack hot => Sys2Proof.Machine.execHbmRefresh stack hot s
  | .stackUnreachable stack => Sys2Proof.Machine.execStackUnreachable stack s
  | .pieceArrival stack piece facts => Sys2Proof.Machine.execPieceArrival stack piece facts s
  | .reRequest group owner block bexp => Sys2Proof.Machine.execReRequest group owner block bexp s
  | .raiseMessage msg => Sys2Proof.Machine.execRaiseMessage msg s
  | .blockUpdateDone block chk => Sys2Proof.Machine.execBlockUpdateDone block chk s
  | .updateRegionSignal tensor => Sys2Proof.Machine.execUpdateRegionSignal tensor s
  | .outboundWorkingCopy block => Sys2Proof.Machine.execOutboundWorkingCopy block s
  | .updateDoneReport group member fromLead nonfinite norm => Sys2Proof.Machine.execUpdateDoneReport group member fromLead nonfinite norm s
  | .commitNotice t step roll clip => Sys2Proof.Machine.execCommitNotice t step roll clip s
  | .reconcileCopy block bank => Sys2Proof.Machine.execReconcileCopy block bank s
  | .laneTraining lane delay identity ok => Sys2Proof.Machine.execLaneTraining lane delay identity ok s
  | .codewordReceived t lane cw => Sys2Proof.Machine.execCodewordReceived t lane cw s
  | .nakReceived lane count => Sys2Proof.Machine.execNakReceived lane count s
  | .laneRetrain t lane => Sys2Proof.Machine.execLaneRetrain t lane s
  | .laneRetrainDone t lane ok identity => Sys2Proof.Machine.execLaneRetrainDone t lane ok identity s
  | .laneSignalLoss t lane => Sys2Proof.Machine.execLaneSignalLoss t lane s
  | .laneLoopbackDone lane enginePasses => Sys2Proof.Machine.execLaneLoopbackDone lane enginePasses s
  | .beamPacketArrival f header inner => Sys2Proof.Machine.execBeamPacketArrival f header inner s
  | .retrainNotice t source begins => Sys2Proof.Machine.execRetrainNotice t source begins s
  | .chunkSend f form => Sys2Proof.Machine.execChunkSend f form s
  | .chunkPacketArrival t f header values chk place => Sys2Proof.Machine.execChunkPacketArrival t f header values chk place s
  | .chunkAck f comm dest position => Sys2Proof.Machine.execChunkAck f comm dest position s
  | .chunkRerequest f comm dest position => Sys2Proof.Machine.execChunkRerequest f comm dest position s
  | .lateBoundExpired t comm source => Sys2Proof.Machine.execLateBoundExpired t comm source s
  | .suspectReport t comm gather group member => Sys2Proof.Machine.execSuspectReport t comm gather group member s
  | .exclusionNotice comm group member => Sys2Proof.Machine.execExclusionNotice comm group member s
  | .glintPacket t stage header data => Sys2Proof.Machine.execGlintPacket t stage header data s
  | .coreFailedRebind core => Sys2Proof.Machine.execCoreFailedRebind core s
  | .replacementReady t digestOk copiesEqual => Sys2Proof.Machine.execReplacementReady t digestOk copiesEqual s
  | .returnToPrimary => Sys2Proof.Machine.execReturnToPrimary s
  | .doorbell ring value => Sys2Proof.Machine.execDoorbell ring value s
  | .rdmaWrite h data => Sys2Proof.Machine.execRdmaWrite h data s
  | .rdmaRead h len => Sys2Proof.Machine.execRdmaRead h len s
  | .commandDatagram t port source bytes fragment pkt => Sys2Proof.Machine.execCommandDatagram t port source bytes fragment pkt s
  | .packetParse t => Sys2Proof.Machine.execPacketParse t s
  | .portDown port => Sys2Proof.Machine.execPortDown port s
  | .ptpEventMessage t port offset locked rank => Sys2Proof.Machine.execPtpEventMessage t port offset locked rank s
  | .ptpInstanceChange => Sys2Proof.Machine.execPtpInstanceChange s
  | .identify h => Sys2Proof.Machine.execIdentify h s
  | .sizeTable h => Sys2Proof.Machine.execSizeTable h s
  | .setNet h p => Sys2Proof.Machine.execSetNet h p s
  | .ringCreate h p => Sys2Proof.Machine.execRingCreate h p s
  | .ringDestroy h ring => Sys2Proof.Machine.execRingDestroy h ring s
  | .mrRegister h p => Sys2Proof.Machine.execMrRegister h p s
  | .mrRevoke h rkey => Sys2Proof.Machine.execMrRevoke h rkey s
  | .qpCreate h p => Sys2Proof.Machine.execQpCreate h p s
  | .qpDestroy h qpn => Sys2Proof.Machine.execQpDestroy h qpn s
  | .jobConfigure h p => Sys2Proof.Machine.execJobConfigure h p s
  | .jobStart h facts => Sys2Proof.Machine.execJobStart h facts s
  | .jobPause h => Sys2Proof.Machine.execJobPause h s
  | .jobResume h => Sys2Proof.Machine.execJobResume h s
  | .jobEnd h => Sys2Proof.Machine.execJobEnd h s
  | .nameLead h lead standby straps => Sys2Proof.Machine.execNameLead h lead standby straps s
  | .contextOpen h p => Sys2Proof.Machine.execContextOpen h p s
  | .contextClose h => Sys2Proof.Machine.execContextClose h s
  | .setRule h tensor f value => Sys2Proof.Machine.execSetRule h tensor f value s
  | .batchReady h step bytes => Sys2Proof.Machine.execBatchReady h step bytes s
  | .request h p => Sys2Proof.Machine.execRequest h p s
  | .cancel h seq => Sys2Proof.Machine.execCancel h seq s
  | .epochSwitch h epoch => Sys2Proof.Machine.execEpochSwitch h epoch s
  | .epochWithdraw h => Sys2Proof.Machine.execEpochWithdraw h s
  | .streamLimits h dual rep => Sys2Proof.Machine.execStreamLimits h dual rep s
  | .streamStatus h => Sys2Proof.Machine.execStreamStatus h s
  | .layoutLoad h offset length => Sys2Proof.Machine.execLayoutLoad h offset length s
  | .layoutQuery h => Sys2Proof.Machine.execLayoutQuery h s
  | .ownerLoaded h => Sys2Proof.Machine.execOwnerLoaded h s
  | .ownerExpose h => Sys2Proof.Machine.execOwnerExpose h s
  | .selfTest h quick => Sys2Proof.Machine.execSelfTest h quick s
  | .capSet h watts hard => Sys2Proof.Machine.execCapSet h watts hard s
  | .rampSet h rate => Sys2Proof.Machine.execRampSet h rate s
  | .heartbeat h id => Sys2Proof.Machine.execHeartbeat h id s
  | .safeCapSet h percent => Sys2Proof.Machine.execSafeCapSet h percent s
  | .glowFloorSet h percent => Sys2Proof.Machine.execGlowFloorSet h percent s
  | .powerStatus h => Sys2Proof.Machine.execPowerStatus h s
  | .faultRead h first count => Sys2Proof.Machine.execFaultRead h first count s
  | .faultClear h mask => Sys2Proof.Machine.execFaultClear h mask s
  | .rollback h => Sys2Proof.Machine.execRollback h s
  | .exclude h index => Sys2Proof.Machine.execExclude h index s
  | .shadowSet h member => Sys2Proof.Machine.execShadowSet h member s
  | .fieldReturn h f => Sys2Proof.Machine.execFieldReturn h f s
  | .shutterFire h scope => Sys2Proof.Machine.execShutterFire h scope s
  | .snapshotRead h kind index offset length => Sys2Proof.Machine.execSnapshotRead h kind index offset length s
  | .countersRead h first count => Sys2Proof.Machine.execCountersRead h first count s
  | .journalRead h first count => Sys2Proof.Machine.execJournalRead h first count s
  | .bootJournalRead h first count => Sys2Proof.Machine.execBootJournalRead h first count s
  | .attest h nonce => Sys2Proof.Machine.execAttest h nonce s
  | .flashWrite h slotB offset data => Sys2Proof.Machine.execFlashWrite h slotB offset data s
  | .flashStageDrain ok => Sys2Proof.Machine.execFlashStageDrain ok s
  | .bundleVerify h slotB => Sys2Proof.Machine.execBundleVerify h slotB s
  | .bundleActivate h slotB => Sys2Proof.Machine.execBundleActivate h slotB s
  | .resetCmd h => Sys2Proof.Machine.execResetCmd h s
  | .regRead h addr count => Sys2Proof.Machine.execRegRead h addr count s
  | .regWrite h pairs => Sys2Proof.Machine.execRegWrite h pairs s
  | .regRmw h addr mask value => Sys2Proof.Machine.execRegRmw h addr mask value s
  | .registerWrite addr value => Sys2Proof.Machine.execRegisterWrite addr value s
  | .capSoftWrite value => Sys2Proof.Machine.execCapSoftWrite value s
  | .capHardWrite value => Sys2Proof.Machine.execCapHardWrite value s
  | .rearm => Sys2Proof.Machine.execRearm s
  | .recordValidClear ix => Sys2Proof.Machine.execRecordValidClear ix s
  | .heldClear value => Sys2Proof.Machine.execHeldClear value s
  | .counterLowWordRead addr sideband => Sys2Proof.Machine.execCounterLowWordRead addr sideband s
  | .sidebandCommandWrite bytes pkt => Sys2Proof.Machine.execSidebandCommandWrite bytes pkt s
  | .sidebandReplyRead => Sys2Proof.Machine.execSidebandReplyRead s
  | .sidebandRegRead addr => Sys2Proof.Machine.execSidebandRegRead addr s
  | .sidebandRegWrite addr value => Sys2Proof.Machine.execSidebandRegWrite addr value s
  | .entdaa addr => Sys2Proof.Machine.execEntdaa addr s
  | .i2cFallback => Sys2Proof.Machine.execI2cFallback s
  | .moduleStart t facts => Sys2Proof.Machine.execModuleStart t facts s
  | .startStepTimeout t => Sys2Proof.Machine.execStartStepTimeout t s
  | .fieldControlWatchdog f => Sys2Proof.Machine.execFieldControlWatchdog f s
  | .fieldControlReloadDone f ok => Sys2Proof.Machine.execFieldControlReloadDone f ok s
  | .schedulerWatchdog t => Sys2Proof.Machine.execSchedulerWatchdog t s
  | .powerMgmtWatchdog t => Sys2Proof.Machine.execPowerMgmtWatchdog t s
  | .securityWatchdog t => Sys2Proof.Machine.execSecurityWatchdog t s
  | .powerControlRecompute t mv w drawMin => Sys2Proof.Machine.execPowerControlRecompute t mv w drawMin s
  | .rampWindow t avg excepted => Sys2Proof.Machine.execRampWindow t avg excepted s
  | .beaconsCollected t => Sys2Proof.Machine.execBeaconsCollected t s
  | .rampAllocation tick grant => Sys2Proof.Machine.execRampAllocation tick grant s
  | .allocationMissing tick => Sys2Proof.Machine.execAllocationMissing tick s
  | .hardCapShade draw => Sys2Proof.Machine.execHardCapShade draw s
  | .heartbeatTimeout t => Sys2Proof.Machine.execHeartbeatTimeout t s
  | .undervoltageDim => Sys2Proof.Machine.execUndervoltageDim s
  | .dimRelease => Sys2Proof.Machine.execDimRelease s
  | .undervoltageStop => Sys2Proof.Machine.execUndervoltageStop s
  | .overvoltageStop => Sys2Proof.Machine.execOvervoltageStop s
  | .supplyStopRecovery => Sys2Proof.Machine.execSupplyStopRecovery s
  | .regulatorDropout => Sys2Proof.Machine.execRegulatorDropout s
  | .sensorSample t facts => Sys2Proof.Machine.execSensorSample t facts s
  | .throttleStep t f => Sys2Proof.Machine.execThrottleStep t f s
  | .throttleShade t f => Sys2Proof.Machine.execThrottleShade t f s
  | .heatReturn t f => Sys2Proof.Machine.execHeatReturn t f s
  | .fieldProtectionTrip f => Sys2Proof.Machine.execFieldProtectionTrip f s
  | .protectionProbe f holds => Sys2Proof.Machine.execProtectionProbe f holds s
  | .shoulderTrip side => Sys2Proof.Machine.execShoulderTrip side s
  | .controlTrip => Sys2Proof.Machine.execControlTrip s
  | .refclkLost t => Sys2Proof.Machine.execRefclkLost t s
  | .thrNAssert t => Sys2Proof.Machine.execThrNAssert t s
  | .thrNRelease t => Sys2Proof.Machine.execThrNRelease t s
  | .tempAlertAssert t => Sys2Proof.Machine.execTempAlertAssert t s
  | .tempAlertRelease t => Sys2Proof.Machine.execTempAlertRelease t s
  | .haltNAssert t => Sys2Proof.Machine.execHaltNAssert t s
  | .haltNRelease t => Sys2Proof.Machine.execHaltNRelease t s
  | .haltRequest module_ withdraw => Sys2Proof.Machine.execHaltRequest module_ withdraw s
  | .rstNAssert t => Sys2Proof.Machine.execRstNAssert t s
  | .rstNRelease t leadSel => Sys2Proof.Machine.execRstNRelease t leadSel s
  | .pwrGoodRise t => Sys2Proof.Machine.execPwrGoodRise t s
  | .pwrGoodFall t => Sys2Proof.Machine.execPwrGoodFall t s
  | .leadSelChange t => Sys2Proof.Machine.execLeadSelChange t s
  | .pinStuck t pin => Sys2Proof.Machine.execPinStuck t pin s
  | .lanternBeacon t raw => Sys2Proof.Machine.execLanternBeacon t raw s
  | .beaconSilence t group member => Sys2Proof.Machine.execBeaconSilence t group member s
  | .memberDrain t member => Sys2Proof.Machine.execMemberDrain t member s
  | .drainTimeout t member => Sys2Proof.Machine.execDrainTimeout t member s
  | .memberJoin member gpe layoutId lanesOk => Sys2Proof.Machine.execMemberJoin member gpe layoutId lanesOk s
  | .rollbackRequest t req => Sys2Proof.Machine.execRollbackRequest t req s
  | .rollbackNotice t msg => Sys2Proof.Machine.execRollbackNotice t msg s
  | .digestList group entries => Sys2Proof.Machine.execDigestList group entries s
  | .blockDigests tensor rule replicas => Sys2Proof.Machine.execBlockDigests tensor rule replicas s
  | .recomputeDone block lowMatches highMatches => Sys2Proof.Machine.execRecomputeDone block lowMatches highMatches s
  | .shadowTotal piece => Sys2Proof.Machine.execShadowTotal piece s
  | .shutterInEdge t => Sys2Proof.Machine.execShutterInEdge t s
  | .faultShutter t => Sys2Proof.Machine.execFaultShutter t s
  | .shutterRequest t module_ source => Sys2Proof.Machine.execShutterRequest t module_ source s
  | .glintShutter t payload => Sys2Proof.Machine.execGlintShutter t payload s
  | .bankLatchComplete t => Sys2Proof.Machine.execBankLatchComplete t s
  | .tapBypass tdi => Sys2Proof.Machine.execTapBypass tdi s
  | .tapIdcode => Sys2Proof.Machine.execTapIdcode s
  | .tapSamplePreload pins => Sys2Proof.Machine.execTapSamplePreload pins s
  | .tapExtest value => Sys2Proof.Machine.execTapExtest value s
  | .tapSnapRead kind index offset => Sys2Proof.Machine.execTapSnapRead kind index offset s
  | .selfTestDone t result => Sys2Proof.Machine.execSelfTestDone t result s
  | .layoutLoadDone t copiesEqual => Sys2Proof.Machine.execLayoutLoadDone t copiesEqual s
  | .bundleVerifyDone t checks => Sys2Proof.Machine.execBundleVerifyDone t checks s
  | .fieldReturnComplete f ok => Sys2Proof.Machine.execFieldReturnComplete f ok s
  | .totalAcknowledgement block group fromShadow => Sys2Proof.Machine.execTotalAcknowledgement block group fromShadow s
  | .totalRerequest block group piece => Sys2Proof.Machine.execTotalRerequest block group piece s
  | .portUp port => Sys2Proof.Machine.execPortUp port s
  | .arpNdIcmpRequest port target echo => Sys2Proof.Machine.execArpNdIcmpRequest port target echo s
  | .inputPowerPresent t => Sys2Proof.Machine.execInputPowerPresent t s
  | .refclkPresent t => Sys2Proof.Machine.execRefclkPresent t s
  | .pinTransitionRejected pin => Sys2Proof.Machine.execPinTransitionRejected pin s
  | .fieldGovernorStep f draw share low => Sys2Proof.Machine.execFieldGovernorStep f draw share low s
  | .engineInstructionComplete core engine => Sys2Proof.Machine.execEngineInstructionComplete core engine s
  | .grayPointerSync q side => Sys2Proof.Machine.execGrayPointerSync q side s

end Sys2Proof.Machine
end

