-- ==== Sys2Proof/Machine/Step.lean ====
section
/-! DEFINITION. One step: take the command at the front of the queue and run it with the queue's rest; on an empty
queue the block idles. -/

namespace Sys2Proof.Machine

/-- Take the front command, exec it with the rest of the queue; idle when nothing waits.
Log entry 1 (DESIGN CHOICE). Log entry 95 (DEDUCED). -/
def step (s : State) : Host.Outcome State Fault Refusal :=
  match s.pending with
  | [] => .next s
  | c :: rest => exec c { s with pending := rest }

/-- The state with the command that a table word spells at the front of its queue; no row of the table has bits, so
no word spells one.
Log entry 1 (DESIGN CHOICE). Log entry 8 (DESIGN CHOICE). -/
def State.withFetchWord (s : State) (nbits w : Nat) : State :=
  match decodeTableWord nbits w with
  | none => s
  | some c => { s with pending := c :: s.pending }

end Sys2Proof.Machine
end

