-- ==== Sys2Proof/Safety.lean ====
section
/-! DEFINITION. The terms that claims use: the parts of the state, what a command leaves alone, the stated ranges of the
registers, and what a legal state is. -/

namespace Sys2Proof.Machine

/-! ## Frames -/

/-- A part of the state: one field of `State`. -/
inductive Part where
  | now | freeCtr | sent | pending | flash | boot | pins | side | power | fault | snap | tap | tick | lead | job | grp | fabric
  | cores | stream | mem | red | beam | place | host | counters | cmdLatch | sideLatch | fieldWrites
  deriving DecidableEq, Repr

/-- A part stands in `t` as it stood in `s`. -/
def Part.same (s t : State) : Part → Prop
  | .now => t.now = s.now
  | .freeCtr => t.freeCtr = s.freeCtr
  | .sent => t.sent = s.sent
  | .pending => t.pending = s.pending
  | .flash => t.flash = s.flash
  | .boot => t.boot = s.boot
  | .pins => t.pins = s.pins
  | .side => t.side = s.side
  | .power => t.power = s.power
  | .fault => t.fault = s.fault
  | .snap => t.snap = s.snap
  | .tap => t.tap = s.tap
  | .tick => t.tick = s.tick
  | .lead => t.lead = s.lead
  | .job => t.job = s.job
  | .grp => t.grp = s.grp
  | .fabric => t.fabric = s.fabric
  | .cores => t.cores = s.cores
  | .stream => t.stream = s.stream
  | .mem => t.mem = s.mem
  | .red => t.red = s.red
  | .beam => t.beam = s.beam
  | .place => t.place = s.place
  | .host => t.host = s.host
  | .counters => t.counters = s.counters
  | .cmdLatch => t.cmdLatch = s.cmdLatch
  | .sideLatch => t.sideLatch = s.sideLatch
  | .fieldWrites => t.fieldWrites = s.fieldWrites

/-- Nothing but the listed parts differs. -/
def Only (ps : List Part) (s t : State) : Prop := ∀ p, p ∉ ps → p.same s t

/-! ## The stated ranges of the registers (R541, Tables 19.3 to 19.6) -/

/-- `lo` to `hi`, both included. -/
abbrev between (lo hi v : Nat) : Prop := lo ≤ v ∧ v ≤ hi

abbrev tickInRange (t : TickS) : Prop := between 25 5000 t.period ∧ t.grace ≤ 50
abbrev streamInRange (r : StreamS) : Prop := between 4 256 r.windowGib ∧ between 1 255 r.repeatLimit ∧ between 1 64 r.dualLimit
abbrev memoryInRange (m : MemS) : Prop := between 2 32 m.systemGib ∧ m.stashGib ≤ 1152 ∧ m.kvGib ≤ 512
abbrev reduceInRange (r : ReduceS) : Prop :=
  between 1 12 r.headroom ∧ between 1 255 r.nonfiniteSteps ∧ r.pruneHold ≤ 63 ∧ between 1 64 r.refreshSteps ∧
    between 1 255 r.driftK ∧ between 1 255 r.grossK
abbrev beamInRange (b : BeamS) : Prop := b.chunkCode ≤ 4 ∧ between 1 16 b.collMib ∧ between 1 15 b.lateTicks
abbrev powerInRange (p : PowerS) : Prop :=
  between 50 4800 p.ramp ∧ (∀ v ∈ p.rampNext, between 50 4800 v) ∧ between 50 307200 p.groupRamp ∧
    (∀ v ∈ p.groupRampNext, between 50 307200 v) ∧ between 2400 24000 p.capSoft ∧ between 2400 24000 p.capHard ∧
    between 10 100 p.safeCap ∧ between 10 100 p.thrFloor ∧ p.glowFloor ≤ 60 ∧ between 70 95 p.throttleC
abbrev groupInRange (g : GroupS) : Prop :=
  between 100 65535 g.suspectWindow ∧ between 5 100 g.suspectPct ∧ g.reconcileSteps ≤ 1024 ∧ (∀ v ∈ g.reconcileNext, v ≤ 1024)
abbrev snapInRange (n : SnapS) : Prop := n.sources ≤ 31 ∧ between 1024 1048576 n.journalEntries
abbrev flashInRange (f : FlashS) : Prop := between 1 255 f.freshStarts

/-- FAULT.RECORD_HEAD names a record, or is 0xFFFF before the first (R551). -/
abbrev headLegal (f : FaultS) : Prop := f.head ≤ 255 ∨ f.head = 0xFFFF

/-- The contents of stacked memory, and the check bits of its units, in their canonical form. -/
abbrev memCanonical (m : MemS) : Prop := mapWf 0#8 m.bytes = true ∧ mapWf 0 m.checks = true

/-- Every register within its stated range. -/
def registersInRange (s : State) : Prop :=
  tickInRange s.tick ∧ streamInRange s.stream ∧ memoryInRange s.mem ∧ reduceInRange s.red ∧ beamInRange s.beam ∧
    powerInRange s.power ∧ groupInRange s.grp ∧ snapInRange s.snap ∧ flashInRange s.flash

/-- A legal state: registers in range, the fault head a record or none, memory in canonical form. -/
def Legal (s : State) : Prop := registersInRange s ∧ headLegal s.fault ∧ memCanonical s.mem

/-- The module is READY: it takes commands and events (R443). -/
abbrev Ready (s : State) : Prop := s.boot.state = .ready

/-! ## The context that an instruction issues in -/

/-- The core an instruction issues on. -/
abbrev issueKey (k : Issue) : Nat := coreKey k.block.val k.core.val

/-- The core, and the context, as they stand. -/
abbrev issueCore (k : Issue) (s : State) : CoreS := coreS s (issueKey k)
abbrev issueCtx (k : Issue) (s : State) : CtxS := ctxS s (issueKey k) k.ctx.val

/-- The context runs `task`, its field is lit and its block in service, no other context comes first in the round-robin order
(R128, R133), its program counter lies in SRAM (R120), its predicate lets the instruction act, and the checkers find
nothing. -/
abbrev Issues (k : Issue) (s : State) (task : QTask) : Prop :=
  Ready s ∧ coreOn s (issueKey k) = true ∧ (issueCtx k s).task = some task ∧ (issueCtx k s).stopped = false ∧
    yields (issueCore k s) k.ctx.val = false ∧ (issueCtx k s).pc ≤ 0xFFF8 ∧
    (k.pred = true → (issueCtx k s).pred = true) ∧ k.chk = .ok

/-- A core once the instruction has issued: its context past it, and last in the round-robin order (R133). -/
abbrev issued (k : Issue) (o : CoreS) : CoreS := { o with ctxs := mapUpd {} o.ctxs k.ctx.val nextPc, turn := k.ctx.val }

/-- A core whose context waits at issue. -/
abbrev waitsAtIssue (k : Issue) (o : CoreS) : CoreS :=
  { o with ctxs := mapUpd {} o.ctxs k.ctx.val fun x => { x with waiting := true } }

/-- Beside the listed parts of the state only the instruction's core differs, and of its contexts only the
instruction's. -/
abbrev OnCore (k : Issue) (ps : List Part) (s t : State) : Prop :=
  Only (.cores :: ps) s t ∧ (∀ key : Nat, key ≠ issueKey k → coreS t key = coreS s key) ∧
    (∀ c : Nat, c ≠ k.ctx.val → ctxS t (issueKey k) c = ctxS s (issueKey k) c)

/-! ## Commands of hosts -/

/-- A module-level command that a host sends to a module that is READY. -/
abbrev ModuleLevel (h : CmdHdr) (s : State) : Prop := Ready s ∧ h.ctx = 0xFF#8 ∧ isDistributed h = false

/-- A job-scope command that a host sends to the job lead of a started job. -/
abbrev JobLevel (h : CmdHdr) (s : State) : Prop := ModuleLevel h s ∧ isJobLead s = true ∧ s.job.started = true

/-- A command of an open context that a host sends otherwise than on a ring of another context. -/
abbrev ContextLevel (h : CmdHdr) (s : State) : Prop :=
  Ready s ∧ isDistributed h = false ∧ fromRing h = false ∧ ctxOpen s h.ctx.toNat = true

/-- The state with the port noted that a source's datagram came through, which its replies leave by (R394). -/
abbrev cameThrough (port source : Nat) (s : State) : State :=
  { s with host := { s.host with sourcePorts := mapSet 0 s.host.sourcePorts source port } }

/-! ## What no command changes -/

/-- The values fused at manufacture: STEPPING, SERIAL, MAC, the identity seed and the key fuses (R3, R416, R434). -/
def fuses (f : FlashS) : Nat × Nat × Nat × Nat × Nat := (f.stepping, f.serial, f.mac, f.seed, f.keyFuses)

end Sys2Proof.Machine
end

