-- ==== Sys2Proof/WellFormed.lean ====
section
/-! DEFINITION. Which commands the table admits: operands that the rules bound and the types do not. -/

namespace Sys2Proof

/-- A segment payload has at most 4,096 bytes (R220); a flit packet has at most 256 payload flits of 16 bytes (R74); a piece has at
most 512 values (R305); a sample reads six sensors of each of 84 fields, and 32 stacks (R463); a self-test judges cores of the wafer; FLASH_WRITE and ATTEST
carry what their tables bound; other operands are bounded by their types. -/
def wellFormed : Instr → Bool
  | .segmentIngest _ _ _ payload => decide (payload.length ≤ 4096)
  | .packetForward _ p q _ =>
    decide (p.payload.length ≤ 4096) && (match q with | none => true | some x => decide (x.payload.length ≤ 4096))
  | .lPortWrite _ p _ => decide (p.payload.length ≤ 4096)
  | .pieceArrival _ p _ => decide (p.values.length ≤ 512)
  | .shadowTotal p => decide (p.values.length ≤ 512)
  | .sensorSample _ f => decide (f.fieldsC.length = 84) && (f.fieldsC.all fun l => decide (l.length = 6)) && decide (f.stacksC.length = 32)
  | .flashWrite _ _ _ d => decide (1 ≤ d.length) && decide (d.length ≤ 4032)
  | .attest _ n => decide (16 ≤ n.length) && decide (n.length ≤ 64)
  | .selfTestDone _ r => r.mismatches.all fun e => decide (e.1 < 860160) && decide (e.2 < 860160)
  | .reconcileCopy _ b => b.master.all fun e => decide (e.1 < 4096)
  | _ => true

end Sys2Proof
end

