-- ==== Sys2Proof/Certificates/Slice0/Obligations.lean ====
section
/-! DEFINITION. The statements for the provers. Those about a family of commands say, clause by clause, under which state
and operands each command answers a next state, what that state holds, and which parts of the state stay. -/

open Sys2Proof Sys2Proof.Machine

/-! ## The block as a whole -/

/-- The command at the front of the queue runs on the state with the queue's rest; an empty queue idles. The queue is the
model's own (log entry 1). -/
def Obligations.StepRunsTheFrontCommand : Prop :=
  (∀ c rest s, s.pending = c :: rest → step s = exec c { s with pending := rest }) ∧
    (∀ s : State, s.pending = [] → step s = .next s)

/-- Every step from a legal state answers a legal state: registers stay in their stated ranges (R541, Tables 19.3 to 19.6),
FAULT.RECORD_HEAD names a record or none (R551), and the contents of stacked memory stay in canonical form. -/
def Obligations.EveryStepKeepsALegalState : Prop :=
  ∀ s t : State, Legal s → step s = .next t → Legal t

/-- The state after reset is legal. -/
def Obligations.ResetIsLegal : Prop := Legal State.reset

/-- Every command answers a next state from every state: none stops the module. -/
def Obligations.EveryCommandAnswers : Prop := ∀ (c : Instr) (s : State), ∃ t, exec c s = .next t

/-- No command takes time back, takes back a message that has left, changes the waiting commands or writes a fuse (R3, R434,
R416: STEPPING, SERIAL, MAC, the seed and the key fuses are fused at manufacture). -/
def Obligations.NoCommandTakesBack : Prop :=
  ∀ (c : Instr) (s t : State), exec c s = .next t →
    s.now ≤ t.now ∧ s.freeCtr ≤ t.freeCtr ∧ s.sent <+: t.sent ∧ t.pending = s.pending ∧ fuses t.flash = fuses s.flash

/-! ## The stream tick (chapters 01, 02) -/

/-- The job lead's ticks: the first of a job carries STEP 1 and SLOT 0 and both boundary flags (R38); each later one counts
TICK_COUNT up by one (R35), a slot's first carries the next SLOT (R39), a slipped one keeps its place and counts in SLIP_COUNT
(R51, R53); an edge in the window issues a tick marked EXTERNAL, any other only counts (R63); a flywheel tick is marked
FLYWHEEL, and the third in a run returns TICK.SOURCE to INTERNAL (R64). With the first and each later tick TICK_OUT pulses once
(R65). -/
def Obligations.TheLeadIssuesTicks : Prop :=
  (∀ τ s, Ready s → issues s = true → s.lead.issued = none → haltAsked s = false →
    ∃ t, exec (.issueTick τ) s = .next t ∧ ∃ m, t.lead.issued = some m ∧ Msg.tick (encodeTick m) (sendDelays t) ∈ t.sent ∧
      t.tick.tickOut = s.tick.tickOut + 1 ∧
      m = { tickCount := 0, step := 1, slot := 0, epoch := nextEpoch s 0, slip := false, passBoundary := true
            stepBoundary := true, hold := false, external := false, flywheel := false, group := 0 }) ∧
  (∀ τ s m, Ready s → issues s = true → s.lead.issued = some m → s.tick.source = .internal →
    s.lead.issuedAt + periodNs s ≤ max s.now τ →
    ∃ t, exec (.issueTick τ) s = .next t ∧ t.lead.issuedAt = max s.now τ ∧ ∃ m', t.lead.issued = some m' ∧
      m'.tickCount = m.tickCount + 1 ∧ m'.external = false ∧ m'.flywheel = false ∧
      Msg.tick (encodeTick m') (sendDelays t) ∈ t.sent ∧ t.tick.tickOut = s.tick.tickOut + 1) ∧
  (∀ τ s m, Ready s → issues s = true → s.lead.issued = some m → s.tick.source = .internal →
    s.lead.issuedAt + periodNs s ≤ max s.now τ → s.job.ending = false → s.grp.requests = [] → m.hold = false →
    s.lead.restartStep = false → s.lead.overruns = [] → s.lead.groupSlip = [] → m.slot < lastSlotOf s →
    ∃ t, exec (.issueTick τ) s = .next t ∧ Only [.now, .sent, .lead, .tick] s t ∧ ∃ m', t.lead.issued = some m' ∧
      m'.step = m.step ∧ m'.slot = m.slot + 1 ∧ m'.slip = false ∧ m'.hold = false ∧ m'.stepBoundary = false ∧
      m'.passBoundary = isPassStart s (m.slot + 1)) ∧
  (∀ τ s m o, Ready s → issues s = true → s.lead.issued = some m → s.tick.source = .internal →
    s.lead.issuedAt + periodNs s ≤ max s.now τ → s.job.ending = false → s.grp.requests = [] → m.hold = false →
    s.lead.restartStep = false → o ∈ s.lead.overruns → o.at_ + 2000 ≤ max s.now τ →
    m.slot < lastSlotOf s ∨ inputsIn s = true →
    ∃ t, exec (.issueTick τ) s = .next t ∧ counter t cSlip = counter s cSlip + 1 ∧ t.tick.slipRun = s.tick.slipRun + 1 ∧
      o ∉ t.lead.overruns ∧ ∃ m', t.lead.issued = some m' ∧ m'.slip = true ∧ m'.step = m.step ∧ m'.slot = m.slot) ∧
  (∀ τ s m, Ready s → issues s = true → s.lead.issued = some m → s.tick.source = .external →
    s.lead.expected ≤ max s.now τ + periodNs s / 100 → max s.now τ ≤ s.lead.expected + periodNs s / 100 →
    ∃ t, exec (.tickInEdge τ) s = .next t ∧ ∃ m', t.lead.issued = some m' ∧ m'.external = true ∧
      m'.tickCount = m.tickCount + 1 ∧ Msg.tick (encodeTick m') (sendDelays t) ∈ t.sent) ∧
  (∀ τ s m, Ready s → issues s = true → s.lead.issued = some m → s.tick.source = .external →
    s.lead.expected + periodNs s / 100 < max s.now τ ∨ max s.now τ + periodNs s / 100 < s.lead.expected →
    ∃ t, exec (.tickInEdge τ) s = .next t ∧ counter t cExtReject = counter s cExtReject + 1 ∧
      Only [.now, .pins, .counters] s t) ∧
  (∀ τ s m, Ready s → issues s = true → s.lead.issued = some m → s.tick.source = .external → s.grp.requests = [] →
    s.lead.expected + periodNs s / 100 ≤ max s.now τ →
    ∃ t, exec (.flywheelTick τ) s = .next t ∧
      t.lead.flyRun = (if s.lead.flyRun + 1 < 3 then s.lead.flyRun + 1 else 0) ∧
      t.tick.source = (if s.lead.flyRun + 1 < 3 then .external else .internal) ∧ ∃ m', t.lead.issued = some m' ∧
      m'.flywheel = true ∧ m'.tickCount = m.tickCount + 1 ∧ Msg.tick (encodeTick m') (sendDelays t) ∈ t.sent)

/-- Ticks at a module: a valid tick under HOLD fills the TICK page (R45) and releases no slot's work (R41), and pulses TICK_OUT
at a module that does not hold the lead role (R65); one that fails CHECK is counted in BAD_COUNT and counts as missed (R58), and
one that does not come counts in MISS_COUNT and as missed. Slot work that outlasts its grace is reported by a member to its lead
(R50); the job lead keeps the overrun reports, and the slips that group leads forward, each with its time (R51, R52). After a
loss of the tick the standby lead takes the lead role and tells its group (R20, R21); a lead without a standby lead names the
first other ACTIVE member whose LEAD_SEL is high (R22). -/
def Obligations.ModulesTakeTicks : Prop :=
  (∀ τ (raw : BitVec 160) news s m, Ready s → s.job.started = true → tickCheckOk raw.toNat = true → m = decodeTick raw.toNat →
    m.hold = true →
    ∃ t, exec (.tickReceived τ raw news) s = .next t ∧ t.tick.tickCount = m.tickCount ∧ t.tick.step = m.step ∧
      t.tick.slot = m.slot ∧ t.tick.epoch = m.epoch ∧ t.tick.flags = tickFlags m ∧ t.tick.missed = 0 ∧
      t.tick.units = s.tick.units ∧ (isLead s = false → news.roles = none →
        t.tick.lastValidAt = some (max s.now τ) ∧ t.tick.tickOut = s.tick.tickOut + 1)) ∧
  (∀ τ (raw : BitVec 160) news s, Ready s → s.job.started = true → tickCheckOk raw.toNat = false →
    ∃ t, exec (.tickReceived τ raw news) s = .next t ∧ counter t cBadTick = counter s cBadTick + 1 ∧
      t.tick = { s.tick with missed := s.tick.missed + 1, behind := true } ∧ Only [.now, .tick, .counters] s t) ∧
  (∀ τ s p, Ready s → s.job.started = true → predicted s = some p → p + tickSlack s < max s.now τ →
    ∃ t, exec (.tickMissed τ) s = .next t ∧ counter t cMissTick = counter s cMissTick + 1 ∧
      t.tick = { s.tick with missed := s.tick.missed + 1, behind := true } ∧ Only [.now, .tick, .counters] s t) ∧
  (∀ τ (u : UnitId) s e, Ready s → s.job.held = false → isLead s = false → (unitRun s u.val).grace = some e →
    e ≤ max s.now τ → unitBusy s u.val = true →
    ∃ t, exec (.graceExpired τ u) s = .next t ∧
      t.sent = s.sent ++ [.overrun s.job.member u.val ((unitRun s u.val).running.getD 0)] ∧
      (unitRun t u.val).grace = none ∧ Only [.now, .sent, .tick] s t) ∧
  (∀ τ (member : MemberId) (u : UnitId) slot s, Ready s → isJobLead s = true → s.job.started = true → s.job.held = false →
    ∃ t, exec (.overrunReport τ member u slot) s = .next t ∧
      t.lead.overruns = s.lead.overruns ++ [{ member := member.val, unit := u.val, slot := slot.toNat, at_ := max s.now τ }] ∧
      Only [.now, .lead] s t) ∧
  (∀ τ (g : GroupId) s, Ready s → issues s = true → s.job.held = false → g.val ≠ 0 →
    ∃ t, exec (.groupSlipForward τ g) s = .next t ∧ t.lead.groupSlip = s.lead.groupSlip ++ [max s.now τ] ∧
      Only [.now, .lead] s t) ∧
  (∀ τ s, Ready s → s.job.started = true → s.job.role = .standby → s.tick.lastValidAt.getD 0 + silenceBound s ≤ max s.now τ →
    ∃ t, exec (.tickLoss τ) s = .next t ∧ t.job.role = .lead ∧ t.job.leadMember = s.job.member ∧
      t.job.standbyMember = none ∧ t.job.held = true ∧ Msg.roles s.job.member none ∈ t.sent) ∧
  (∀ s m, Ready s → isLead s = true → s.job.started = true → s.grp.standbyLost = true → s.job.held = true →
    (activeMembers s).find? (fun k => decide (k ≠ s.job.member) && bitAt s.job.straps k) = some m →
    ∃ t, exec .nameStandby s = .next t ∧ t.job = { s.job with standbyMember := some m } ∧
      Msg.roles s.job.member (some m) ∈ t.sent ∧ Only [.sent, .side, .job, .grp, .mem, .host] s t)
/-! ## The fabric (chapter 03) -/

/-- Links: a flit with bad parity, the dark word too, is counted, not forwarded, and asked for again (R82, R90); a good one is
forwarded, and a good dark word goes no further (R90); a sender asked for a resend sends again the oldest flit of its replay
buffer that the receiver has not taken (R82); a link with three failed sends of one flit or more than 64 errors within 1 ms is
retrained and counted (R83); it goes on with at most 4 wires on spares, else it is retired, and the field of its router, or the
higher-numbered of two, is dark (R84). -/
def Obligations.LinksCheckEveryFlit : Prop :=
  (∀ τ link (flit : BitVec 128) s, Ready s → linkUp s link = true →
    ∃ t, exec (.flitReceived τ link flit false) s = .next t ∧ counter t cLinkParity = counter s cLinkParity + 1 ∧
      t.sent = s.sent ++ [.flitResend (linkKey link)] ∧ (linkS t (linkKey link)).resend = true ∧
      (linkS t (linkKey link)).failRun = (linkS s (linkKey link)).failRun + (if flit.toNat = 0xF then 0 else 1) ∧
      Only [.now, .sent, .fabric, .counters] s t) ∧
  (∀ τ link (flit : BitVec 128) s, Ready s → linkUp s link = true → flit.toNat ≠ 0xF →
    ∃ t, exec (.flitReceived τ link flit true) s = .next t ∧ t.sent = s.sent ++ [.flit (linkKey link) flit.toNat] ∧
      (linkS t (linkKey link)).failRun = 0 ∧ (linkS t (linkKey link)).resend = false ∧ Only [.now, .sent, .fabric] s t) ∧
  (∀ τ link (flit : BitVec 128) s, Ready s → flit.toNat = 0xF →
    ∃ t, exec (.flitReceived τ link flit true) s = .next t ∧ Only [.now, .fabric] s t) ∧
  (∀ link s f, Ready s → linkUp s link = true → (linkS s (linkKey link)).resend = true →
    (linkS s (linkKey link)).retraining = false → unreceived (linkS s (linkKey link)) = some f →
    ∃ t, exec (.flitResend link) s = .next t ∧ t.sent = s.sent ++ [.flit (linkKey link) f] ∧
      linkS t (linkKey link) = { linkS s (linkKey link) with resend := false } ∧ Only [.sent, .fabric] s t) ∧
  (∀ link s, Ready s → linkUp s link = true → (linkS s (linkKey link)).retraining = false →
    3 ≤ (linkS s (linkKey link)).failRun ∨ 64 < (linkS s (linkKey link)).errors.length →
    ∃ t, exec (.linkRetrain link) s = .next t ∧ (linkS t (linkKey link)).retraining = true ∧
      counter t cLinkRetrains = counter s cLinkRetrains + 1 ∧ Only [.fabric, .counters] s t) ∧
  (∀ link (wires : List (Fin 140)) s, Ready s → (linkS s (linkKey link)).retraining = true →
    (linkS s (linkKey link)).spares + wires.length ≤ 4 →
    ∃ t, exec (.linkRetrainDone link wires true) s = .next t ∧ (linkS t (linkKey link)).retraining = false ∧
      (linkS t (linkKey link)).errors = [] ∧ (linkS t (linkKey link)).failRun = 0 ∧
      (linkS t (linkKey link)).spares = (linkS s (linkKey link)).spares + wires.length ∧
      (linkS t (linkKey link)).retired = (linkS s (linkKey link)).retired ∧ Only [.sent, .fabric] s t) ∧
  (∀ link (wires : List (Fin 140)) repaired s, Ready s → (linkS s (linkKey link)).retraining = true →
    repaired = false ∨ 4 < (linkS s (linkKey link)).spares + wires.length →
    ∃ t, exec (.linkRetrainDone link wires repaired) s = .next t ∧ (linkS t (linkKey link)).retired = true ∧
      isDark t (retiredField link) = true)

/-- Packets, where nothing else waits at the output port: inside its field a packet follows dimension order, along its block row
to DEST_BX and then along the column (R77), and leaves whole by the L port of the block that it is for; one with a reserved TYPE
or DEST_KIND or a LEN above 256 is discarded and counted (R74); one bound into a dark field is discarded and its flits counted
(R106); a packet at the L port of a field that is not lit is discarded and counted (R107). Two spill packets that may merge go
on as one that carries the sum of their two counts and the elementwise sums of their data; where the adder's check fails both go
on, and the failure is counted (R198). -/
def Obligations.PacketsFollowTheirRoute : Prop :=
  (∀ (router : BlockId) (p : Flits) (d : Dir) (r : Nat) chk s, Ready s → isDark s (router.val / 640) = false →
    headerOk (decodeFlit p.header.toNat) = true → (decodeFlit p.header.toNat).esc = false →
    fieldAt (decodeFlit p.header.toNat).destBx (decodeFlit p.header.toNat).destBy = router.val / 640 →
    dirInField (blockBx router.val) (blockBy router.val) (decodeFlit p.header.toNat).destBx
      (decodeFlit p.header.toNat).destBy = some d →
    linkEnd { router := router, dir := d } = some r → isDark s (r / 640) = false →
    (portS_ s (portKey router.val (.mesh d))).waiting = [] →
    (linkS s (linkKey { router := router, dir := d })).retraining = false →
    ∃ t, exec (.packetForward router p none chk) s = .next t ∧ t.sent = s.sent ++ [.fabric router.val (.mesh d) p] ∧
      Only [.sent, .fabric] s t) ∧
  (∀ (router : BlockId) (p : Flits) chk s, Ready s → isLit s (router.val / 640) = true →
    headerOk (decodeFlit p.header.toNat) = true → (decodeFlit p.header.toNat).esc = false →
    (decodeFlit p.header.toNat).destKind = 0 → (decodeFlit p.header.toNat).destBx = blockBx router.val →
    (decodeFlit p.header.toNat).destBy = blockBy router.val → (portS_ s (portKey router.val .local_)).waiting = [] →
    ∃ t, exec (.packetForward router p none chk) s = .next t ∧ t.sent = s.sent ++ [.fabric router.val .local_ p] ∧
      Only [.sent, .fabric] s t) ∧
  (∀ (router : BlockId) (p : Flits) chk s, Ready s → isDark s (router.val / 640) = false →
    8 < (decodeFlit p.header.toNat).type ∨ (decodeFlit p.header.toNat).type = 0 ∨ 256 < (decodeFlit p.header.toNat).len ∨
      (decodeFlit p.header.toNat).destKind = 3 →
    ∃ t, exec (.packetForward router p none chk) s = .next t ∧ counter t cPktDiscard = counter s cPktDiscard + 1 ∧
      Only [.counters] s t) ∧
  (∀ (router : BlockId) (p : Flits) (d : Dir) (r : Nat) chk s, Ready s → isDark s (router.val / 640) = false →
    headerOk (decodeFlit p.header.toNat) = true → routeOut s router.val (decodeFlit p.header.toNat) = some (.mesh d, false) →
    linkEnd { router := router, dir := d } = some r → isDark s (r / 640) = true →
    (portS_ s (portKey router.val (.mesh d))).waiting = [] →
    ∃ t, exec (.packetForward router p none chk) s = .next t ∧
      counter t cPktDiscard = counter s cPktDiscard + flitCount p ∧ Only [.counters] s t) ∧
  (∀ (block : BlockId) (p : Flits) parity s, Ready s → isLit s (block.val / 640) = false →
    ∃ t, exec (.lPortWrite block p parity) s = .next t ∧ counter t cPktDiscard = counter s cPktDiscard + 1 ∧
      Only [.counters] s t) ∧
  (∀ (router : BlockId) (p q m : Flits) s, Ready s → isDark s (router.val / 640) = false → spillMerge p q = some m →
    ∃ t, exec (.packetForward router p (some q) true) s = .next t ∧ exec (.packetForward router m none true) s = .next t ∧
      m.header = p.header ∧ m.payload.drop 16 = addFp32Bytes (p.payload.drop 16) (q.payload.drop 16) ∧
      field (ofBytesLE (m.payload.take 16)) 0 16 = (field (ofBytesLE (p.payload.take 16)) 0 16 +
        field (ofBytesLE (q.payload.take 16)) 0 16) % 65536) ∧
  (∀ (router : BlockId) (p q m : Flits) s, Ready s → isDark s (router.val / 640) = false → spillMerge p q = some m →
    ∃ t, exec (.packetForward router p (some q) false) s = .next t ∧ counter t cResidue = counter s cResidue + 1 ∧
      t = forward router.val [p, q] (count cResidue 1 s))

/-- A packet at the L port of a block whose cores run: a plain write puts its payload into the SRAM of every core its mask names
and of no other (R123); a spill packet adds its FP32 data elementwise into one core's SRAM and nowhere else (R199). -/
def Obligations.PacketsReachSram : Prop :=
  (∀ (block : BlockId) (p : Flits) parity s, Ready s → coreOn s (coreKey block.val 0) = true →
    (decodeFlit p.header.toNat).type = 2 → (decodeFlit p.header.toNat).add = false →
    bitAt (decodeFlit p.header.toNat).tag 15 = false → maskCores ((decodeFlit p.header.toNat).addr / 65536) ≠ [] →
    (decodeFlit p.header.toNat).addr % 65536 + p.payload.length ≤ 65536 →
    ∃ t, exec (.lPortWrite block p parity) s = .next t ∧
      (∀ c ∈ maskCores ((decodeFlit p.header.toNat).addr / 65536), coreS t (coreKey block.val c) =
        { coreS s (coreKey block.val c) with
          sram := mapSetList 0#8 (coreS s (coreKey block.val c)).sram ((decodeFlit p.header.toNat).addr % 65536) p.payload }) ∧
      (∀ k : Nat, k ∉ (maskCores ((decodeFlit p.header.toNat).addr / 65536)).map (coreKey block.val) → coreS t k = coreS s k) ∧
      Only [.cores] s t) ∧
  (∀ (block : BlockId) (c : Nat) (p : Flits) parity s, Ready s → coreOn s (coreKey block.val 0) = true →
    (decodeFlit p.header.toNat).type = 2 → (decodeFlit p.header.toNat).add = true →
    bitAt (decodeFlit p.header.toNat).tag 15 = false → maskCores ((decodeFlit p.header.toNat).addr / 65536) = [c] →
    (decodeFlit p.header.toNat).addr % 65536 + p.payload.length ≤ 65552 →
    ∃ t, exec (.lPortWrite block p parity) s = .next t ∧ coreS t (coreKey block.val c) =
        { coreS s (coreKey block.val c) with
          sram := mapSetList 0#8 (coreS s (coreKey block.val c)).sram ((decodeFlit p.header.toNat).addr % 65536)
            (addFp32Bytes (mapGetList 0#8 (coreS s (coreKey block.val c)).sram ((decodeFlit p.header.toNat).addr % 65536)
              (p.payload.drop 16).length) (p.payload.drop 16)) } ∧
      (∀ k : Nat, k ≠ coreKey block.val c → coreS t k = coreS s k) ∧ Only [.cores] s t)

/-- The small queues: a producer with a credit puts its item at the tail; one without, or behind a link that retrains, keeps it
in its own stage (R86, R83). A consumer whose turn it is gets the dark word from an empty queue (R89) and the head of any other
(R85). A Gray-coded count that leaves its synchroniser is the count that the other side sees: of items written (R88), or of
stages freed, which are credits again (R87). -/
def Obligations.QueuesKeepTheirItems : Prop :=
  (∀ q (item : BitVec 1040) s, Ready s → item.toNat ≠ darkWord q → (queueS s q).kept = none →
    (queueS s q).spent < queueStages q → queueHeld s q = false →
    ∃ t, exec (.queueItemWrite q item) s = .next t ∧ (queueS t q).items = (queueS s q).items ++ [item.toNat] ∧
      (queueS t q).spent = (queueS s q).spent + 1 ∧
      (queueS t q).writeCount = ((queueS s q).writeCount + 1) % queueModulus q ∧ Only [.fabric] s t) ∧
  (∀ q (item : BitVec 1040) s, Ready s → item.toNat ≠ darkWord q → (queueS s q).kept = none →
    queueStages q ≤ (queueS s q).spent ∨ queueHeld s q = true →
    ∃ t, exec (.queueItemWrite q item) s = .next t ∧ queueS t q = { queueS s q with kept := some item.toNat } ∧
      Only [.fabric] s t) ∧
  (∀ q s, Ready s → visible q (queueS s q) = 0 →
    ∃ t, exec (.queueItemRead q) s = .next t ∧ queueS t q = { queueS s q with lastRead := darkWord q } ∧
      Only [.fabric] s t) ∧
  (∀ q s i rest, Ready s → ingestTurn s q = true → visible q (queueS s q) ≠ 0 → (queueS s q).items = i :: rest →
    sameClock q = false →
    ∃ t, exec (.queueItemRead q) s = .next t ∧ queueS t q = { queueS s q with
        items := rest, lastRead := i, readCount := ((queueS s q).readCount + 1) % queueModulus q
        readSync := intoSync (((queueS s q).readCount + 1) % queueModulus q) (queueS s q).readSync } ∧
      Only [.fabric, .stream] s t) ∧
  (∀ q s g rest, Ready s → (queueS s q).writeSync = g :: rest →
    ∃ t, exec (.grayPointerSync q .writeCount) s = .next t ∧
      queueS t q = { queueS s q with seenWrite := fromGray (queueWidth q) g, writeSync := rest } ∧
      Only [.fabric, .beam] s t) ∧
  (∀ q s g rest, Ready s → (queueS s q).readSync = g :: rest → (queueS s q).kept = none →
    ∃ t, exec (.grayPointerSync q .readCount) s = .next t ∧
      queueS t q = { queueS s q with
        spent := (queueS s q).spent -
          (fromGray (queueWidth q) g + queueModulus q - (queueS s q).returned) % queueModulus q
        returned := fromGray (queueWidth q) g, readSync := rest } ∧ Only [.fabric, .beam] s t)

/-- Fields and the unit map: a field that goes dark loses its PLL and its lanes, and the size table and the rebuild of the route
tables follow (R106); no other field changes with it. One that is shaded keeps every route (R107). The installed tables hold the
entries of R79 and R80 for every field that runs, which follow dimension order while every field runs. A unit map is installed
whole, with MAP_VERSION one higher, while the work is held and every summary shows DONE (R98), and an invalid one is refused
whole, its first failing entry recorded (R97). -/
def Obligations.FieldsAndUnitMapChange : Prop :=
  (∀ (f : FieldId) cause s, Ready s → isDark s f.val = false →
    ∃ t, exec (.fieldDark f cause) s = .next t ∧ isDark t f.val = true ∧ (fieldS t f.val).pllLocked = false ∧
      (∀ i : Fin 16, (laneS t (16 * f.val + i.val)).trained = false) ∧
      t.fabric.rebuildPending = true ∧ (∀ g : FieldId, g ≠ f → fieldState t g.val = fieldState s g.val) ∧
      t.fabric.size.fieldStates = (List.range 84).map (fun g => fieldStateCode (fieldState t g)) ∧
      t.fabric.size.enabledBlocks = sumEnabled t (fun g => !isDark t g)) ∧
  (∀ (f : FieldId) cause s, Ready s → isLit s f.val = true →
    ∃ t, exec (.fieldShade f cause) s = .next t ∧ fieldState t f.val = .shade ∧
      (∀ g : FieldId, (fieldS t g.val).routes = (fieldS s g.val).routes) ∧
      (∀ g : FieldId, g ≠ f → fieldState t g.val = fieldState s g.val) ∧
      t.fabric.rebuildPending = s.fabric.rebuildPending ∧
      t.fabric.size.workingCores = 16 * sumEnabled t (fun g => isLit t g)) ∧
  (∀ s, Ready s → s.fabric.returnRebuild = false ∨ inStep s = false → (∀ g ∈ poweredFields s, g ∈ keptPart s) →
    ∃ t, exec .routeTablesInstalled s = .next t ∧ t.fabric.rebuildPending = false ∧
      (∀ f : FieldId, isDark s f.val = false →
        (fieldS t f.val).routes = (List.range 84).map (routeEntry s (routeTree s) f.val)) ∧
      Only [.fabric, .beam, .place] s t) ∧
  (∀ s (f g : FieldId), Ready s → s.fabric.returnRebuild = false ∨ inStep s = false →
    (∀ h ∈ poweredFields s, h ∈ keptPart s) → (∀ h : FieldId, isDark s h.val = false) → f ≠ g →
    ∃ t, exec .routeTablesInstalled s = .next t ∧ nth 0 (fieldS t f.val).routes g.val = dirCode (dimDir f.val g.val)) ∧
  (∀ entries s, Ready s → heldOrIdle s = true → allDone s = true →
    firstBad s (writeMap entries s.fabric.unitMap) = none →
    ∃ t, exec (.unitMapChange entries true) s = .next t ∧ t.fabric = { s.fabric with
        unitMap := writeMap entries s.fabric.unitMap
        size := { s.fabric.size with mapVersion := (s.fabric.size.mapVersion + 1) % 2 ^ 32
                                     generation := (s.fabric.size.generation + 1) % 2 ^ 32 } } ∧
      Only [.fabric, .cores] s t) ∧
  (∀ entries digestsEqual s u, Ready s → heldOrIdle s = true → allDone s = true →
    firstBad s (writeMap entries s.fabric.unitMap) = some u →
    ∃ t, exec (.unitMapChange entries digestsEqual) s = .next t ∧ t.fabric = s.fabric ∧
      (mapGet {} t.fault.records t.fault.head).detail = u)

/-! ## Cores and their instructions (chapters 04 to 06). `Issues k s task`: the context of `k` runs `task` and issues;
`OnCore k ps s t`: nothing but `k`'s context on `k`'s core, that core's own parts and `ps` differs. -/

/-- The control class: NOP, and a word of a listed opcode, goes on; an unlisted opcode is a task fault (R134, R136); BRANCH sets
the program counter; LOOP pushes a frame with one run less, goes on for one run, and skips its body for 0; ARM writes its entry
as `sbArm` says (R130); SIGNAL counts at an entry of the core, or leaves for the unit it names; SEED sets the context's
generator (R119); SPAWN posts the 64 bytes at an address to a unit's task port; END of a task that is not SLACK and not a rerun
signals, lowers its leaf's OUTSTANDING and frees the context with its generator kept (R133). How LOOP and SPAWN take their
operands is the model's (log entries 21, 121). -/
def Obligations.ControlInstructionsComplete : Prop :=
  (∀ k s task (op : BitVec 8), Issues k s task → opcodeListed op.toNat = true →
    ∃ t, exec (.nop k op) s = .next t ∧ issueCore k t = issued k (issueCore k s) ∧ OnCore k [] s t) ∧
  (∀ k s task (op : BitVec 8), Issues k s task → opcodeListed op.toNat = false →
    ∃ t, exec (.nop k op) s = .next t ∧ (issueCtx k t).stopped = true ∧ (issueCtx k t).pc = (issueCtx k s).pc ∧
      (mapGet {} t.fault.records t.fault.head).code = tfOpcode) ∧
  (∀ k s task (target : BitVec 16), Issues k s task →
    ∃ t, exec (.branch k target) s = .next t ∧ issueCore k t = { issueCore k s with
        ctxs := mapUpd {} (issueCore k s).ctxs k.ctx.val fun x => { x with pc := target.toNat, waiting := false }
        turn := k.ctx.val } ∧ OnCore k [] s t) ∧
  (∀ k s task count (stop : BitVec 16), Issues k s task → 2 ≤ reg (issueCtx k s) count →
    ∃ t, exec (.loop k count stop) s = .next t ∧ issueCtx k t = { issueCtx k s with
        pc := (issueCtx k s).pc + 8, waiting := false
        loops := { start := (issueCtx k s).pc + 8, stop := stop.toNat, left := reg (issueCtx k s) count - 1 } ::
          (issueCtx k s).loops } ∧ OnCore k [] s t) ∧
  (∀ k s task count (stop : BitVec 16), Issues k s task → reg (issueCtx k s) count = 1 →
    ∃ t, exec (.loop k count stop) s = .next t ∧
      issueCtx k t = { issueCtx k s with pc := (issueCtx k s).pc + 8, waiting := false } ∧ OnCore k [] s t) ∧
  (∀ k s task count (stop : BitVec 16), Issues k s task → reg (issueCtx k s) count = 0 →
    ∃ t, exec (.loop k count stop) s = .next t ∧
      issueCtx k t = { issueCtx k s with pc := stop.toNat, waiting := false } ∧ OnCore k [] s t) ∧
  (∀ k s task (entry : Fin 64) target, Issues k s task →
    ∃ t, exec (.arm k entry target) s = .next t ∧ issueCore k t = issued k { issueCore k s with
        sb := mapUpd {} (issueCore k s).sb entry.val fun e => sbArm e (reg (issueCtx k s) target % 65536) k.ctx.val task } ∧
      OnCore k [] s t) ∧
  (∀ k s task unit (entry : Fin 64) (n : BitVec 16), Issues k s task → (issueCtx k s).suppress = 0 →
    reg (issueCtx k s) unit % 65536 = 0xFFFF → (mapGet {} (issueCore k s).sb entry.val).count + n.toNat ≤ 0xFFFF →
    ∃ t, exec (.signal k unit entry n) s = .next t ∧
      mapGet {} (issueCore k t).sb entry.val = sbAdd (mapGet {} (issueCore k s).sb entry.val) n.toNat ∧
      (issueCore k t).sram = (issueCore k s).sram ∧ (issueCtx k t).regs = (issueCtx k s).regs ∧
      (issueCtx k t).pc = (nextPc (issueCtx k s)).pc ∧ OnCore k [] s t) ∧
  (∀ k s task unit (entry : Fin 64) (n : BitVec 16), Issues k s task → (issueCtx k s).suppress = 0 →
    reg (issueCtx k s) unit % 65536 ≠ 0xFFFF →
    ∃ t, exec (.signal k unit entry n) s = .next t ∧
      t.sent = s.sent ++ [.signal (reg (issueCtx k s) unit % 65536) entry.val n.toNat] ∧
      (issueCore k t).sb = (issueCore k s).sb ∧ (issueCtx k t).regs = (issueCtx k s).regs ∧ OnCore k [.sent] s t) ∧
  (∀ k s task lo hi, Issues k s task →
    ∃ t, exec (.seed k lo hi) s = .next t ∧ issueCtx k t = { nextPc (issueCtx k s) with
        gen := seedState (BitVec.ofNat 64 (reg (issueCtx k s) lo + 2 ^ 32 * reg (issueCtx k s) hi)) } ∧
      (issueCore k t).sram = (issueCore k s).sram ∧ OnCore k [] s t) ∧
  (∀ k s task addr unit, Issues k s task → reg (issueCtx k s) addr + 64 ≤ 0x10000 →
    ∃ t, exec (.spawn k addr unit none) s = .next t ∧ t.sent = s.sent ++
        [.task (reg (issueCtx k s) unit % 65536) (sramNat (issueCore k s) (reg (issueCtx k s) addr) 64)] ∧
      issueCtx k t = nextPc (issueCtx k s) ∧ (issueCore k t).sram = (issueCore k s).sram ∧ OnCore k [.sent] s t) ∧
  (∀ k s task, Issues k s task → (issueCtx k s).suppress = 0 → (issueCtx k s).rerun = [] → task.desc.slack = false →
    task.desc.signalUnit ≠ 0xFFFF → (∀ e ∈ s.tick.units, e.2.held = []) →
    ∃ t, exec (.endTask k) s = .next t ∧ t.sent = s.sent ++ [.signal task.desc.signalUnit task.desc.signalEntry 1] ∧
      leafOutstanding t k.block.val = leafOutstanding s k.block.val - 1 ∧ (issueCtx k t).task = none ∧
      (issueCtx k t).gen = (issueCtx k s).gen ∧ (issueCore k t).sram = (issueCore k s).sram ∧
      Only [.sent, .cores, .fabric] s t)

/-- The move class, while the move engine is free: COPY, FILL, GATHER and SCATTER write SRAM, LATCH loads a micro-tile into the
grid's other buffer (Table 4.2); the engine is then busy, and another instruction waits at issue (R133). COPY also stores a
layer's block mask, or takes one (R210). An access of COPY outside SRAM is a task fault: the context stops at its instruction,
with a fault record (R120, R134). The operand forms are the model's (log entry 21). -/
def Obligations.MoveInstructionsComplete : Prop :=
  (∀ k s task dst src len, Issues k s task → (issueCore k s).move = none →
    reg (issueCtx k s) dst + reg (issueCtx k s) len ≤ 0x10000 → reg (issueCtx k s) src + reg (issueCtx k s) len ≤ 0x10000 →
    ∃ t, exec (.copy k dst src len none) s = .next t ∧ issueCore k t = issued k { issueCore k s with
        sram := mapSetList 0#8 (issueCore k s).sram (reg (issueCtx k s) dst)
          (sramBytes (issueCore k s) (reg (issueCtx k s) src) (reg (issueCtx k s) len))
        move := some k.ctx.val } ∧ OnCore k [] s t) ∧
  (∀ k s task dst src len (layer : BitVec 16), Issues k s task → (issueCore k s).move = none →
    reg (issueCtx k s) dst + reg (issueCtx k s) len ≤ 0x10000 → reg (issueCtx k s) src + reg (issueCtx k s) len ≤ 0x10000 →
    ∃ t, exec (.copy k dst src len (some (.store layer))) s = .next t ∧ issueCore k t = issued k { issueCore k s with
        sram := mapSetList 0#8 (issueCore k s).sram (reg (issueCtx k s) dst)
          (maskBytes s layer.toNat (reg (issueCtx k s) len))
        move := some k.ctx.val } ∧ OnCore k [] s t) ∧
  (∀ k s task dst src len (layer : BitVec 16), Issues k s task → (issueCore k s).move = none →
    reg (issueCtx k s) dst + reg (issueCtx k s) len ≤ 0x10000 → reg (issueCtx k s) src + reg (issueCtx k s) len ≤ 0x10000 →
    ∃ t, exec (.copy k dst src len (some (.load layer))) s = .next t ∧
      t.place = (loadMask layer.toNat (sramBytes (issueCore k s) (reg (issueCtx k s) src) (reg (issueCtx k s) len)) s).place ∧
      issueCore k t = issued k { issueCore k s with move := some k.ctx.val } ∧ OnCore k [.place] s t) ∧
  (∀ k s task dst value len, Issues k s task → (issueCore k s).move = none →
    reg (issueCtx k s) dst + reg (issueCtx k s) len ≤ 0x10000 →
    ∃ t, exec (.fill k dst value len) s = .next t ∧ issueCore k t = issued k { issueCore k s with
        sram := mapSetList 0#8 (issueCore k s).sram (reg (issueCtx k s) dst)
          ((List.range (reg (issueCtx k s) len)).map fun i => BitVec.ofNat 8 (field (reg (issueCtx k s) value) (8 * (i % 4)) 8))
        move := some k.ctx.val } ∧ OnCore k [] s t) ∧
  (∀ k s task dst src list l, Issues k s task → (issueCore k s).move = none →
    indexList (issueCore k s) (reg (issueCtx k s) list) = some l →
    reg (issueCtx k s) dst + l.size * l.indices.length ≤ 0x10000 →
    (∀ i ∈ l.indices, reg (issueCtx k s) src + i * l.size + l.size ≤ 0x10000) →
    ∃ t, exec (.gather k dst src list none) s = .next t ∧ issueCore k t = issued k { issueCore k s with
        sram := mapSetList 0#8 (issueCore k s).sram (reg (issueCtx k s) dst)
          (l.indices.flatMap fun i => sramBytes (issueCore k s) (reg (issueCtx k s) src + i * l.size) l.size)
        move := some k.ctx.val } ∧ OnCore k [] s t) ∧
  (∀ k s task dst src list l, Issues k s task → (issueCore k s).move = none →
    indexList (issueCore k s) (reg (issueCtx k s) list) = some l →
    reg (issueCtx k s) src + l.size * l.indices.length ≤ 0x10000 →
    (∀ i ∈ l.indices, reg (issueCtx k s) dst + i * l.size + l.size ≤ 0x10000) →
    ∃ t, exec (.scatter k dst src list) s = .next t ∧ issueCore k t = issued k { issueCore k s with
        sram := (l.indices.zipIdx).foldl (fun m e => mapSetList 0#8 m (reg (issueCtx k s) dst + e.1 * l.size)
          (sramBytes (issueCore k s) (reg (issueCtx k s) src + e.2 * l.size) l.size)) (issueCore k s).sram
        move := some k.ctx.val } ∧ OnCore k [] s t) ∧
  (∀ k s task src (grid : Grid) w, Issues k s task → (issueCore k s).move = none →
    tileElemBytes (match grid with | .la => task.desc.fmtA | .lb => task.desc.fmtB) = some w →
    reg (issueCtx k s) src + 16 * w ≤ 0x10000 →
    ∃ t, exec (.latch k src grid) s = .next t ∧ issueCore k t = issued k { loadLatch grid ((List.range 16).map fun i =>
          sramNat (issueCore k s) (reg (issueCtx k s) src + i * w) w) (issueCore k s) with move := some k.ctx.val } ∧
      OnCore k [] s t) ∧
  (∀ k s task dst src len mask c, Issues k s task → (issueCore k s).move = some c →
    ∃ t, exec (.copy k dst src len mask) s = .next t ∧ issueCore k t = waitsAtIssue k (issueCore k s) ∧ OnCore k [] s t) ∧
  (∀ k s task dst src len mask, Issues k s task → (issueCore k s).move = none → 0 < reg (issueCtx k s) len →
    0x10000 < reg (issueCtx k s) dst + reg (issueCtx k s) len →
    ∃ t, exec (.copy k dst src len mask) s = .next t ∧ (issueCtx k t).stopped = true ∧
      (issueCtx k t).pc = (issueCtx k s).pc ∧ (issueCore k t).sram = (issueCore k s).sram ∧
      (mapGet {} t.fault.records t.fault.head).code = tfAddress)

/-- The tensor class: an MMA whose checks find nothing adds its products into one set, and the array holds one running and one
waiting (R113, R133); a third waits at issue; one for a pair outside the block mask only goes on (R210). DRAIN writes the set's
16 values, rounded to FP32, as a tile, row-major or transposed, and the set then reads as zero (R117); so does CLEAR's. An
instruction that ends frees its engine, and the contexts that waited may issue. -/
def Obligations.TensorInstructionsComplete : Prop :=
  (∀ k s task (word : BitVec 64) p, Issues (withPred k word) s task → (issueCore k s).tensor.length < 2 →
    (prepare 0x40 (issueCore k s) (issueCtx k s) task word.toNat).toOption = some p → shiftMismatch (issueCore k s) p = none →
    ∃ t, exec (.mma k word .plain) s = .next t ∧
      (issueCore k t).acc = setCells p.set (productCells (issueCore k s) p) (issueCore k s).acc ∧
      (issueCore k t).tensor = (issueCore k s).tensor ++ [p.set] ∧ (issueCore k t).sram = (issueCore k s).sram ∧
      (issueCtx k t).regs = (issueCtx k s).regs ∧ OnCore k [] s t) ∧
  (∀ k s task (word : BitVec 64) use p, Issues (withPred k word) s task → useRuns s use = true →
    biasInSram use (issueCtx k s) = true →
    (issueCore k s).tensor.length < 2 → (prepare 0x40 (issueCore k s) (issueCtx k s) task word.toNat).toOption = some p →
    shiftMismatch (issueCore k s) p = none →
    ∃ t, exec (.mma k word use) s = .next t ∧
      (issueCore k t).acc = setCells p.set (productCells (issueCore k s) p) (issueCore k s).acc ∧
      t.place = (usePairs use (accumulate p (issueCore k s)) (issueCtx k s) p s).place ∧
      (issueCore k t).tensor = (issueCore k s).tensor ++ [p.set] ∧ OnCore k [.place, .counters] s t) ∧
  (∀ k s task (word : BitVec 64) use, Issues (withPred k word) s task → useRuns s use = false →
    ∃ t, exec (.mma k word use) s = .next t ∧ issueCore k t = issued k (issueCore k s) ∧ OnCore k [] s t) ∧
  (∀ k s task (word : BitVec 64), Issues (withPred k word) s task → 2 ≤ (issueCore k s).tensor.length →
    ∃ t, exec (.mma k word .plain) s = .next t ∧ issueCore k t = waitsAtIssue k (issueCore k s) ∧ OnCore k [] s t) ∧
  (∀ k s task dst (set : Fin 2) orient, Issues k s task → setInUse (issueCore k s) set.val = false →
    reg (issueCtx k s) dst + 64 ≤ 0x10000 → drainMismatch (issueCore k s) set.val = none →
    ∃ t, exec (.drain k dst set orient) s = .next t ∧
      (issueCore k t).sram = mapSetList 0#8 (issueCore k s).sram (reg (issueCtx k s) dst)
        (((List.range 16).map fun n => drainWord (if orient then cellOf (issueCore k s) set.val (n % 4) (n / 4)
          else cellOf (issueCore k s) set.val (n / 4) (n % 4))).flatMap (bytesLE 4)) ∧
      (∀ i j : Fin 4, cellOf (issueCore k t) set.val i.val j.val = {}) ∧
      (∀ i j : Fin 4, cellOf (issueCore k t) (1 - set.val) i.val j.val = cellOf (issueCore k s) (1 - set.val) i.val j.val) ∧
      OnCore k [] s t) ∧
  (∀ k s task (set : Fin 2), Issues k s task → setInUse (issueCore k s) set.val = false →
    ∃ t, exec (.clear k set) s = .next t ∧ (∀ i j : Fin 4, cellOf (issueCore k t) set.val i.val j.val = {}) ∧
      (issueCore k t).sram = (issueCore k s).sram ∧ OnCore k [] s t) ∧
  (∀ (core : CoreRef) s, Ready s → coreOn s (coreKey core.block.val core.core.val) = true →
    ∃ t, exec (.engineInstructionComplete core .tensor) s = .next t ∧
      (coreS t (coreKey core.block.val core.core.val)).tensor =
        (coreS s (coreKey core.block.val core.core.val)).tensor.tail ∧ Only [.cores] s t) ∧
  (∀ (core : CoreRef) s c, Ready s → coreOn s (coreKey core.block.val core.core.val) = true →
    ∃ t, exec (.engineInstructionComplete core .move) s = .next t ∧
      (coreS t (coreKey core.block.val core.core.val)).move = none ∧
      (ctxS t (coreKey core.block.val core.core.val) c).waiting = false ∧
      (coreS t (coreKey core.block.val core.core.val)).tensor = (coreS s (coreKey core.block.val core.core.val)).tensor ∧
      Only [.cores] s t)

/-- The vector class, while the vector unit is free: VOP, VFN and VRED write their FP32 results, and the counters move only by
the NaNs made; VCVT of listed formats writes elements and block scales, counts saturations and lost NaNs, and draws from the
context's generator (R119, R163). Its operand forms are the model's (log entry 21). -/
def Obligations.VectorInstructionsComplete : Prop :=
  (∀ k s task op dst a b c (count : Fin 4096), Issues k s task → (issueCore k s).vector = none →
    (∀ r ∈ dst :: [a, b, c].take (vecOpArity op), reg (issueCtx k s) r + 4 * (count.val + 1) ≤ 0x10000) →
    ∃ t, exec (.vop k op dst a b c count) s = .next t ∧
      (issueCore k t).sram = mapSetList 0#8 (issueCore k s).sram (reg (issueCtx k s) dst)
        (((List.range (count.val + 1)).map fun i => vecOp (isA0 s) op
          (nth 0 (readWords (issueCore k s) (reg (issueCtx k s) a) (count.val + 1)) i)
          (nth 0 (if 2 ≤ vecOpArity op then readWords (issueCore k s) (reg (issueCtx k s) b) (count.val + 1) else []) i)
          (nth 0 (if 3 ≤ vecOpArity op then readWords (issueCore k s) (reg (issueCtx k s) c) (count.val + 1) else []) i)).flatMap
            (bytesLE 4)) ∧
      (issueCore k t).vector = some k.ctx.val ∧ (issueCtx k t).regs = (issueCtx k s).regs ∧
      (∀ i, i ≠ cNanMade → counter t i = counter s i) ∧ OnCore k [.counters] s t) ∧
  (∀ k s task fn dst a (count : Fin 4096), Issues k s task → (issueCore k s).vector = none →
    (∀ r ∈ [dst, a], reg (issueCtx k s) r + 4 * (count.val + 1) ≤ 0x10000) →
    ∃ t, exec (.vfn k fn dst a count) s = .next t ∧
      (issueCore k t).sram = mapSetList 0#8 (issueCore k s).sram (reg (issueCtx k s) dst)
        (((readWords (issueCore k s) (reg (issueCtx k s) a) (count.val + 1)).map (vecFnWord fn)).flatMap (bytesLE 4)) ∧
      (issueCore k t).vector = some k.ctx.val ∧ (issueCtx k t).regs = (issueCtx k s).regs ∧
      (∀ i, i ≠ cNanMade → counter t i = counter s i) ∧ OnCore k [.counters] s t) ∧
  (∀ k s task dst src scale from_ to_ f g sr sat (count : Fin 4096), Issues k s task → (issueCore k s).vector = none →
    (cvtFmtOf from_).toOption = some f → (cvtFmtOf to_).toOption = some g →
    reg (issueCtx k s) src + cvtBytes f (count.val + 1) ≤ 0x10000 →
    reg (issueCtx k s) dst + cvtBytes g (count.val + 1) ≤ 0x10000 →
    reg (issueCtx k s) scale + cvtScaleBytes f (count.val + 1) + cvtScaleBytes g (count.val + 1) ≤ 0x10000 →
    (f = .t4 → ∀ b ∈ List.range (ceilDiv (count.val + 1) 32),
      sramNat (issueCore k s) (reg (issueCtx k s) scale + 2 * b) 1 ≠ 0xFF) →
    (g = .t4 → ∀ i ∈ List.range (count.val + 1), (match cvtValue (issueCore k s) f (reg (issueCtx k s) src)
      (reg (issueCtx k s) scale) i with | .fin _ _ _ => true | _ => false) = true) →
    ∃ t, exec (.vcvt k dst src scale from_ to_ sr sat count) s = .next t ∧ OnCore k [.counters] s t ∧
      ∃ r, some (cvtTo g sr (sat && satActs f g) ((List.range (count.val + 1)).map fun i =>
          cvtValue (issueCore k s) f (reg (issueCtx k s) src) (reg (issueCtx k s) scale) i) (issueCtx k s).gen) = some r ∧
        (issueCore k t).sram = mapSetList 0#8 (mapSetList 0#8 (issueCore k s).sram (reg (issueCtx k s) dst)
          (packElems g r.2.words)) (reg (issueCtx k s) scale + cvtScaleBytes f (count.val + 1)) r.1 ∧
        (issueCtx k t).gen = r.2.gen ∧ (issueCore k t).satCount = (issueCore k s).satCount + r.2.sats ∧
        (issueCore k t).nanLost = (issueCore k s).nanLost + r.2.lost) ∧
  (∀ k s task kind op dst src (rows cols : Fin 4096), Issues k s task → (issueCore k s).vector = none →
    (rows.val + 1) * (cols.val + 1) ≤ 4096 →
    reg (issueCtx k s) src + 4 * ((rows.val + 1) * (cols.val + 1)) ≤ 0x10000 →
    reg (issueCtx k s) dst + 4 * (redGroups kind (readWords (issueCore k s) (reg (issueCtx k s) src)
      ((rows.val + 1) * (cols.val + 1))) (rows.val + 1) (cols.val + 1)).length ≤ 0x10000 →
    ∃ t, exec (.vred k kind op dst src rows cols) s = .next t ∧
      (issueCore k t).sram = mapSetList 0#8 (issueCore k s).sram (reg (issueCtx k s) dst)
        (((redGroups kind (readWords (issueCore k s) (reg (issueCtx k s) src) ((rows.val + 1) * (cols.val + 1)))
          (rows.val + 1) (cols.val + 1)).map fun g => (redList (isA0 s) op g).1).flatMap (bytesLE 4)) ∧
      (issueCore k t).vector = some k.ctx.val ∧ (issueCtx k t).regs = (issueCtx k s).regs ∧
      (∀ i, i ≠ cNanMade → counter t i = counter s i) ∧ OnCore k [.counters] s t)

/-- The communicate class, while the communication engine is free, nothing is suppressed and the descriptor's output format is
listed: SEND sends bytes that one packet holds as one write packet (R74), more as several, and toward another module one wrapped
for the hub of the lane chosen (R348); READ asks for bytes; RACC holds its 512 values as a contribution piece and sends it
(R307), or in a step of a class D tensor that does not send adds them to the deferred sum (R312); GLINT contributes at its
field's combiner (R367). The packets' forms are the model's (log entry 21). -/
def Obligations.CommunicateInstructionsComplete : Prop :=
  (∀ k s task kind block dst src len (tag : BitVec 16), Issues k s task → (issueCore k s).comm = none →
    (issueCtx k s).suppress = 0 → (fmtOfCode task.desc.fmtOut).isSome = true →
    0 < reg (issueCtx k s) len → reg (issueCtx k s) len ≤ 4096 →
    reg (issueCtx k s) src + reg (issueCtx k s) len ≤ 0x10000 →
    ∃ t, exec (.send k none kind block dst src len tag) s = .next t ∧ (issueCore k t).comm = some k.ctx.val ∧
      t.sent = s.sent ++ [.fabric k.block.val .local_ (flitsOf (taskFlit (issueKey k)
        { kind := kind, block := destBlock s (issueKey k) { kind := kind, block := reg (issueCtx k s) block }
            (addrOn kind (reg (issueCtx k s) dst) 0) } task.desc.fmtOut 2
        (ceilDiv (reg (issueCtx k s) len) 16) (addrOn kind (reg (issueCtx k s) dst) 0) tag.toNat false task)
        (sramBytes (issueCore k s) (reg (issueCtx k s) src) (reg (issueCtx k s) len)))] ∧
      (issueCore k t).sram = (issueCore k s).sram ∧ OnCore k [.sent] s t) ∧
  (∀ k s task kind block dst src len (tag : BitVec 16), Issues k s task → (issueCore k s).comm = none →
    (issueCtx k s).suppress = 0 → (fmtOfCode task.desc.fmtOut).isSome = true →
    reg (issueCtx k s) src + reg (issueCtx k s) len ≤ 0x10000 →
    ∃ t, exec (.send k none kind block dst src len tag) s = .next t ∧
      t.sent.length = s.sent.length + ceilDiv (reg (issueCtx k s) len) 4096 ∧ OnCore k [.sent] s t) ∧
  (∀ k s task (m : Fin 1024) block dst src len (tag : BitVec 16) lane, Issues k s task → (issueCore k s).comm = none →
    (issueCtx k s).suppress = 0 → (fmtOfCode task.desc.fmtOut).isSome = true →
    0 < reg (issueCtx k s) len → reg (issueCtx k s) len ≤ 4064 →
    reg (issueCtx k s) src + reg (issueCtx k s) len ≤ 0x10000 →
    peerLane s m.val (blockBx k.block.val) (blockBy k.block.val) tag.toNat = some lane →
    ∃ t, exec (.send k (some m) .core block dst src len tag) s = .next t ∧ OnCore k [.sent] s t ∧
      t.sent.length = s.sent.length + 1 ∧
      ∃ w, t.sent.getLast? = some w ∧ (match w with
        | .fabric b .local_ p => decide (b = k.block.val) && decide ((decodeFlit p.header.toNat).destKind = 1) &&
            decide ((decodeFlit p.header.toNat).addr = lane % 16) &&
            decide (blockAt (decodeFlit p.header.toNat).destBx (decodeFlit p.header.toNat).destBy =
              blockAt (20 * (laneField lane % 7)) (32 * (laneField lane / 7) + 16)) &&
            decide (p.payload.drop 32 = sramBytes (issueCore k s) (reg (issueCtx k s) src) (reg (issueCtx k s) len))
        | _ => false) = true) ∧
  (∀ k s task kind block dst src len (tag : BitVec 16), Issues k s task → (issueCore k s).comm = none →
    (issueCtx k s).suppress = 0 → (fmtOfCode task.desc.fmtOut).isSome = true →
    0 < reg (issueCtx k s) len → reg (issueCtx k s) len ≤ 4096 →
    reg (issueCtx k s) dst + reg (issueCtx k s) len ≤ 0x10000 →
    ∃ t, exec (.read k none kind block dst src len tag) s = .next t ∧ (issueCore k t).comm = some k.ctx.val ∧
      t.sent = s.sent ++ [.fabric k.block.val .local_ (flitsOf (taskFlit (issueKey k)
        { kind := kind, block := destBlock s (issueKey k) { kind := kind, block := reg (issueCtx k s) block }
            (addrOn kind (reg (issueCtx k s) src) 0) } task.desc.fmtOut 3 1
        (addrOn kind (reg (issueCtx k s) src) 0) tag.toNat false task) (bytesLE 16 (pack [(16, reg (issueCtx k s) len), (16, 0),
          (32, reg (issueCtx k s) dst % 65536 + 65536 * 2 ^ (issueKey k % 16))])))] ∧ OnCore k [.sent] s t) ∧
  (∀ k s task table src, Issues k s task → (issueCore k s).comm = none → (issueCtx k s).suppress = 0 →
    reg (issueCtx k s) table + 16 ≤ 0x10000 → reg (issueCtx k s) src + 2048 ≤ 0x10000 →
    deferredLayer s (decodeRacc (sramNat (issueCore k s) (reg (issueCtx k s) table) 16)) = none →
    ∃ t, exec (.racc k table src) s = .next t ∧ OnCore k [.sent, .red, .counters] s t ∧
      (issueCore k t).comm = some k.ctx.val ∧ ∃ h, t.red.held.getLast? = some h ∧ t.red.held.dropLast = s.red.held ∧
        h.core = issueKey k ∧ h.values = (List.range 512).map (fun i =>
          sramNat (issueCore k s) (reg (issueCtx k s) src + 4 * i) 4) ∧
        h.block = (decodeRacc (sramNat (issueCore k s) (reg (issueCtx k s) table) 16)).block ∧
        t.sent = s.sent ++ [(heldMsg s h h.stack h.addr).2]) ∧
  (∀ k s task table src l, Issues k s task → (issueCore k s).comm = none → (issueCtx k s).suppress = 0 →
    reg (issueCtx k s) table + 16 ≤ 0x10000 → reg (issueCtx k s) src + 2048 ≤ 0x10000 →
    deferredLayer s (decodeRacc (sramNat (issueCore k s) (reg (issueCtx k s) table) 16)) = some l →
    s.tick.step ≤ s.red.committed + 1 → sendStep l s.tick.step = false →
    ∃ t, exec (.racc k table src) s = .next t ∧ OnCore k [.red] s t ∧
      t.red = (putDeferred (decodeRacc (sramNat (issueCore k s) (reg (issueCtx k s) table) 16))
        ((deferredSum s (decodeRacc (sramNat (issueCore k s) (reg (issueCtx k s) table) 16))).zipWith (fpAdd false)
          ((List.range 512).map fun i => sramNat (issueCore k s) (reg (issueCtx k s) src + 4 * i) 4)) s).red) ∧
  (∀ k s task (op : Fin 16) src len, Issues k s task → (issueCore k s).comm = none → (issueCtx k s).suppress = 0 →
    op.val < 0xA → (commOf s task.desc.comm).glint = true → reg (issueCtx k s) len ≤ glintPiece →
    reg (issueCtx k s) src + reg (issueCtx k s) len ≤ 0x10000 →
    ∃ t, exec (.glint k op src len) s = .next t ∧ (issueCore k t).comm = some k.ctx.val ∧
      t.sent = s.sent ++ [.glint (.field (Fin.ofNat 84 (issueKey k / 16 / 640))) none
        (encodeGlint { op := op.val, comm := task.desc.comm, seq := mapGet 0 s.beam.glintSeq (64 * issueKey k + task.desc.comm) % 65536
                       piece := 0, pieces := 0, bytes := reg (issueCtx k s) len, scope := (commOf s task.desc.comm).scope
                       count := 1, roll := s.red.roll, step := s.tick.step % 65536 })
        (sramBytes (issueCore k s) (reg (issueCtx k s) src) (reg (issueCtx k s) len))] ∧ OnCore k [.sent, .beam] s t)

/-- The fused class (R137, Table 4.8), whose checks find nothing: MMA.RS hands the drained tile to its field's engine; AG.MMA
runs once the arrival entry of every chunk has fired, and till then waits with the tiles that are in; MMA.RACC drains toward a
piece; MMA.SPILL sends the 16 sums with ADD set to the home core in r12 (R197). The set that was drained reads as zero. -/
def Obligations.FusedInstructionsComplete : Prop :=
  (∀ k s task (word : BitVec 64) (dest : MemberId) (tile : BitVec 32) last p, Issues (withPred k word) s task →
    (issueCore k s).comm = none → (issueCtx k s).suppress = 0 → (issueCore k s).tensor.length < 2 →
    (commOf s task.desc.comm).bulk = true → (commOf s task.desc.comm).add = 1 →
    (prepare 0xA0 (issueCore k s) (issueCtx k s) task word.toNat).toOption = some p → shiftMismatch (issueCore k s) p = none →
    drainMismatch (accumulate p (issueCore k s)) p.set = none →
    ∃ t, exec (.mmaRs k word dest tile last) s = .next t ∧
      t.beam = (handTile (issueKey k / 16 / 640) task.desc.comm dest.val tile.toNat last
        ((drainWords (accumulate p (issueCore k s)) p.set).map fun w : Nat => (w : Int)) s).beam ∧
      (∀ i j : Fin 4, cellOf (issueCore k t) p.set i.val j.val = {}) ∧ (issueCore k t).comm = some k.ctx.val ∧
      OnCore k [.beam] s t) ∧
  (∀ k s task (word : BitVec 64) (chunks : List (Fin 64 × BitVec 16)) p, Issues (withPred k word) s task →
    (issueCore k s).tensor.length < 2 →
    (commOf s task.desc.comm).bulk = true →
    (chunks.all fun e => decide ((mapGet {} (issueCore k s).sb e.1.val).state = .fired)) = true →
    (prepare 0xA1 (issueCore k s) (issueCtx k s) task word.toNat).toOption = some p → shiftMismatch (issueCore k s) p = none →
    ∃ t, exec (.agMma k word chunks) s = .next t ∧
      (issueCore k t).acc = setCells p.set (productCells (issueCore k s) p) (issueCore k s).acc ∧
      (issueCore k t).sram = (issueCore k s).sram ∧ OnCore k [] s t) ∧
  (∀ k s task (word : BitVec 64) (chunks : List (Fin 64 × BitVec 16)) p, Issues (withPred k word) s task →
    (issueCore k s).tensor.length < 2 →
    (commOf s task.desc.comm).bulk = true → (prepare 0xA1 (issueCore k s) (issueCtx k s) task word.toNat).toOption = some p →
    (chunks.any fun e => decide ((mapGet {} (issueCore k s).sb e.1.val).state ≠ .fired)) = true →
    ∃ t, exec (.agMma k word chunks) s = .next t ∧ issueCore k t = waitsAtIssue k
        (enterTiles p (((chunksIn (issueCore k s) chunks).map (·.2.toNat)).sum) (issueCore k s)) ∧ OnCore k [] s t) ∧
  (∀ k s task (word : BitVec 64) (tile : Fin 32) p, Issues (withPred k word) s task → (issueCore k s).comm = none →
    (issueCtx k s).suppress = 0 → (issueCore k s).tensor.length < 2 →
    reg (issueCtx k s) (Fin.ofNat 32 (decodeMma word.toNat).rc) + 16 ≤ 0x10000 →
    (prepare 0xA2 (issueCore k s) (pastEntry (issueCtx k s) task (decodeMma word.toNat)) task word.toNat).toOption = some p →
    shiftMismatch (issueCore k s) p = none → drainMismatch (accumulate p (issueCore k s)) p.set = none →
    (mapGet [] (issueCore k s).racc (reg (issueCtx k s) (Fin.ofNat 32 (decodeMma word.toNat).rc))).length < 496 →
    ∃ t, exec (.mmaRacc k word tile) s = .next t ∧
      mapGet [] (issueCore k t).racc (reg (issueCtx k s) (Fin.ofNat 32 (decodeMma word.toNat).rc)) =
        putTile tile.val (drainWords (accumulate p (issueCore k s)) p.set)
          (mapGet [] (issueCore k s).racc (reg (issueCtx k s) (Fin.ofNat 32 (decodeMma word.toNat).rc))) ∧
      (∀ i j : Fin 4, cellOf (issueCore k t) p.set i.val j.val = {}) ∧ OnCore k [] s t) ∧
  (∀ k s task (word : BitVec 64) p, Issues (withPred k word) s task → (issueCore k s).comm = none →
    (issueCtx k s).suppress = 0 → (issueCore k s).tensor.length < 2 →
    (prepare 0xA3 (issueCore k s) (issueCtx k s) task word.toNat).toOption = some p →
    shiftMismatch (issueCore k s) p = none → drainMismatch (accumulate p (issueCore k s)) p.set = none →
    ∃ t, exec (.mmaSpill k word) s = .next t ∧ t.sent = s.sent ++ [.fabric k.block.val .local_
        (flitsOf (taskFlit (issueKey k) { block := reg (issueCtx k s) 12 % 65536 } 1 2 5
          (reg (issueCtx k s) 9 % 65536 + 65536 * 2 ^ (reg (issueCtx k s) 12 / 65536 % 16))
          (reg (issueCtx k s) 8 % 65536) true task)
          (bytesLE 16 1 ++ (drainWords (accumulate p (issueCore k s)) p.set).flatMap (bytesLE 4)))] ∧
      (∀ i j : Fin 4, cellOf (issueCore k t) p.set i.val j.val = {}) ∧ OnCore k [.sent] s t)

/-- Tasks: a descriptor for one core at one leaf enters that core's queue and counts in the leaf's OUTSTANDING (R125); a core
dispatches the task that `pickTask` chooses into its free context at KERNEL and counts it (R129, R132), and nothing from an
empty queue; a scoreboard arrival counts as `sbAdd` says (R130); a descriptor without cores is discarded and counted. -/
def Obligations.TasksReachContexts : Prop :=
  (∀ (u : UnitId) (desc : BitVec 512) s a, Ready s → (entryOf s u.val).kind = 1 → (entryOf s u.val).target = a →
    coreOn s (coreKey a 0) = true → s.fabric.spreads = [] →
    (decodeDesc desc.toNat).reservedSet = false → (decodeDesc desc.toNat).spill = false →
    (decodeDesc desc.toNat).slack = false → (decodeDesc desc.toNat).spread = 0 → (decodeDesc desc.toNat).coreMask = 1 →
    (coreS s (coreKey a 0)).queue.length < 32 → leafOutstanding s a < 1000 →
    ∃ t, exec (.taskSpread u desc none) s = .next t ∧ (coreS t (coreKey a 0)).queue = (coreS s (coreKey a 0)).queue ++
        [{ desc := decodeDesc desc.toNat, r1 := (decodeDesc desc.toNat).indexBase, r2 := (decodeDesc desc.toNat).indexCount }] ∧
      leafOutstanding t a = leafOutstanding s a + 1 ∧ t.fabric.spreads = [] ∧ Only [.fabric, .cores] s t) ∧
  (∀ (u : UnitId) (desc : BitVec 512) s, Ready s → (decodeDesc desc.toNat).coreMask = 0 →
    ∃ t, exec (.taskSpread u desc none) s = .next t ∧ counter t cPktDiscard = counter s cPktDiscard + 1 ∧
      Only [.counters] s t) ∧
  (∀ (core : CoreRef) s i c, Ready s → coreOn s (coreKey core.block.val core.core.val) = true → s.power.stopCause = 0 →
    pickTask (coreS s (coreKey core.block.val core.core.val)) = some i →
    freeCtx (coreS s (coreKey core.block.val core.core.val)) = some c → s.fabric.spreads = [] →
    (nth {} (coreS s (coreKey core.block.val core.core.val)).queue i).desc.keep = false →
    ∃ t, exec (.taskDispatch core) s = .next t ∧ counter t cDispatched = counter s cDispatched + 1 ∧
      (coreS t (coreKey core.block.val core.core.val)).queue =
        (coreS s (coreKey core.block.val core.core.val)).queue.eraseIdx i ∧
      ctxS t (coreKey core.block.val core.core.val) c = startCtx (coreKey core.block.val core.core.val % 16)
        (nth {} (coreS s (coreKey core.block.val core.core.val)).queue i)
        (ctxS s (coreKey core.block.val core.core.val) c).gen 0 [] ∧ Only [.fabric, .cores, .counters] s t) ∧
  (∀ (core : CoreRef) s, Ready s → (coreS s (coreKey core.block.val core.core.val)).queue = [] →
    ∃ t, exec (.taskDispatch core) s = .next t ∧ t = s) ∧
  (∀ (core : CoreRef) (entry : Fin 64) (n : BitVec 16) s, Ready s → coreOn s (coreKey core.block.val core.core.val) = true →
    (mapGet {} (coreS s (coreKey core.block.val core.core.val)).sb entry.val).count + n.toNat ≤ 0xFFFF →
    ∃ t, exec (.scoreboardArrival core entry n) s = .next t ∧
      mapGet {} (coreS t (coreKey core.block.val core.core.val)).sb entry.val =
        sbAdd (mapGet {} (coreS s (coreKey core.block.val core.core.val)).sb entry.val) n.toNat ∧
      (coreS t (coreKey core.block.val core.core.val)).sram = (coreS s (coreKey core.block.val core.core.val)).sram ∧
      Only [.cores] s t)

/-! ## The weight stream (chapter 07) -/

/-- Frames on an active stream lane of a started job: an expected data frame within the credit is put in hand, its segments to
come (R219, R224); a filler frame only tells that the lane lives; a frame of an earlier tick than the last is counted late
(R44); one at or above CREDIT_LIMIT goes to the landing zone, is counted and remembered (Table 7.9); one of a tick whose markers
carried STOP goes to the landing zone, or is discarded and counted where the lane's three landing frames are full (R228); a
header whose CHECK fails is counted and the SEQ expected asked for again; so is a missing frame, and above REPEAT_LIMIT its lane
retires; a lane without a valid header for `silenceBound` is counted and marked silent. -/
def Obligations.FramesAreTaken : Prop :=
  (∀ τ (lane : LaneId) (raw : BitVec 256) s, Ready s → s.job.started = true → laneActive s lane.val = true →
    frameCheckOk raw.toNat = true → (decodeFrame raw.toNat).kind = 1 → (decodeFrame raw.toNat).segments ≠ 0 →
    (streamLane s lane.val).left = 0 → stoppedFor s (decodeFrame raw.toNat) = false →
    (decodeFrame raw.toNat).seq < creditLimit s → frameExpected s (decodeFrame raw.toNat) = true →
    ∃ t, exec (.frameArrival τ lane raw) s = .next t ∧ (streamLane t lane.val).frame = decodeFrame raw.toNat ∧
      (streamLane t lane.val).place = .ingest ∧ (streamLane t lane.val).left = (decodeFrame raw.toNat).segments ∧
      (streamLane t lane.val).silent = false ∧ (streamLane t lane.val).lastHeader = some (max s.now τ) ∧
      t.stream.slots = s.stream.slots ∧ t.stream.oldest = s.stream.oldest ∧ t.mem = s.mem ∧ t.cores = s.cores) ∧
  (∀ τ (lane : LaneId) (raw : BitVec 256) s, Ready s → s.job.started = true → laneActive s lane.val = true →
    frameCheckOk raw.toNat = true → (decodeFrame raw.toNat).kind = 0 → (streamLane s lane.val).left = 0 →
    s.tick.tickCount % 2 ^ 48 < (decodeFrame raw.toNat).tickCount →
    ∃ t, exec (.frameArrival τ lane raw) s = .next t ∧ (streamLane t lane.val).lastHeader = some (max s.now τ) ∧
      (streamLane t lane.val).silent = false ∧ t.stream.slots = s.stream.slots ∧ Only [.now, .stream] s t) ∧
  (∀ τ (lane : LaneId) (raw : BitVec 256) s t0, Ready s → s.job.started = true → laneActive s lane.val = true →
    frameCheckOk raw.toNat = true → (decodeFrame raw.toNat).kind = 0 → (streamLane s lane.val).left = 0 →
    s.tick.lastValidAt = some t0 → (decodeFrame raw.toNat).tickCount < s.tick.tickCount % 2 ^ 48 →
    ∃ t, exec (.frameArrival τ lane raw) s = .next t ∧ counter t cLateFrames = counter s cLateFrames + 1 ∧
      (streamLane t lane.val).lateStep = some s.tick.step ∧ t.stream.slots = s.stream.slots) ∧
  (∀ τ (lane : LaneId) (raw : BitVec 256) s, Ready s → s.job.started = true → laneActive s lane.val = true →
    frameCheckOk raw.toNat = true → (decodeFrame raw.toNat).kind = 1 → (streamLane s lane.val).left = 0 →
    s.stream.stop = false → creditLimit s ≤ (decodeFrame raw.toNat).seq → (streamLane s lane.val).landing.length < 3 →
    ∃ t, exec (.frameArrival τ lane raw) s = .next t ∧ counter t cCreditViol = counter s cCreditViol + 1 ∧
      (streamLane t lane.val).place = .landing ∧ (decodeFrame raw.toNat).seq ∈ (streamLane t lane.val).later ∧
      (streamLane t lane.val).landing =
        (streamLane s lane.val).landing ++ [{ hdr := decodeFrame raw.toNat, segs := [] }] ∧ t.stream.slots = s.stream.slots) ∧
  (∀ τ (lane : LaneId) (raw : BitVec 256) s n, Ready s → s.job.started = true → laneActive s lane.val = true →
    frameCheckOk raw.toNat = true → (decodeFrame raw.toNat).kind = 1 → (streamLane s lane.val).left = 0 →
    s.stream.stop = true → s.stream.stopTick = some n → n % 2 ^ 48 ≤ (decodeFrame raw.toNat).tickCount →
    ∃ t, exec (.frameArrival τ lane raw) s = .next t ∧
      counter t cLandingOverflow = counter s cLandingOverflow +
        (if (streamLane s lane.val).landing.length < 3 then 0 else 1) ∧
      (streamLane t lane.val).landing = (if (streamLane s lane.val).landing.length < 3 then
        (streamLane s lane.val).landing ++ [{ hdr := decodeFrame raw.toNat, segs := [] }]
        else (streamLane s lane.val).landing) ∧ t.stream.slots = s.stream.slots) ∧
  (∀ τ (lane : LaneId) (raw : BitVec 256) s, Ready s → s.job.started = true → laneActive s lane.val = true →
    frameCheckOk raw.toNat = false → s.stream.stop = false → (streamLane s lane.val).left = 0 →
    (streamLane s lane.val).repeatsStep < s.stream.repeatLimit →
    ∃ t, exec (.frameArrival τ lane raw) s = .next t ∧ counter t cHdrErrors = counter s cHdrErrors + 1 ∧
      (streamLane s lane.val).next ∈ (streamLane t lane.val).repeats ∧
      (streamLane t lane.val).repeatsStep = (streamLane s lane.val).repeatsStep + 1 ∧
      (streamLane t lane.val).place = .discard ∧ Only [.now, .stream, .counters] s t) ∧
  (∀ τ (lane : LaneId) (seq : BitVec 48) s, Ready s → s.job.started = true → laneActive s lane.val = true →
    s.stream.stop = false → seq.toNat < creditLimit s → s.stream.oldest ≤ seq.toNat →
    lane.val ∉ (slotS s seq.toNat).lanes → (streamLane s lane.val).repeatsStep < s.stream.repeatLimit →
    ∃ t, exec (.frameMissing τ lane seq) s = .next t ∧ counter t cMissing = counter s cMissing + 1 ∧
      seq.toNat ∈ (streamLane t lane.val).repeats ∧
      (streamLane t lane.val).repeatsStep = (streamLane s lane.val).repeatsStep + 1 ∧ Only [.now, .stream, .counters] s t) ∧
  (∀ τ (lane : LaneId) (seq : BitVec 48) s, Ready s → s.job.started = true → laneActive s lane.val = true →
    s.stream.stop = false → seq.toNat < creditLimit s → s.stream.oldest ≤ seq.toNat →
    lane.val ∉ (slotS s seq.toNat).lanes → s.stream.repeatLimit ≤ (streamLane s lane.val).repeatsStep →
    ∃ t, exec (.frameMissing τ lane seq) s = .next t ∧ (laneS t lane.val).retired = true) ∧
  (∀ τ (lane : LaneId) s t0, Ready s → s.job.started = true → laneActive s lane.val = true →
    (streamLane s lane.val).silent = false → (streamLane s lane.val).lastHeader = some t0 → t0 + silenceBound s ≤ max s.now τ →
    ∃ t, exec (.laneSilent τ lane) s = .next t ∧ counter t cSilentLanes = counter s cSilentLanes + 1 ∧
      (streamLane t lane.val).silent = true ∧ t.host.eventNumber = s.host.eventNumber + 1)

/-- Segments and slots: a segment whose PCRC fails writes nothing and is counted, and its frame is asked for again (Table 7.9);
one that passes the checks of R233 writes the window at its slot's position (R238), and the shadow copy where SHADOW asks for
it, and counts at ARRIVE_ENTRY of its unit's cores (R235); a segment of a landed frame stays in the landing zone (R225). A
consumer's signal counts for its slot, and OLDEST advances past a slot whose frames and signals are all in (R223). -/
def Obligations.SegmentsFillTheWindow : Prop :=
  (∀ τ (lane : LaneId) (header : BitVec 256) payload s, Ready s → laneActive s lane.val = true →
    (streamLane s lane.val).place = .ingest → (streamLane s lane.val).left ≠ 0 → (streamLane s lane.val).bad = false →
    crc32 payload ≠ (decodeSeg header.toNat).pcrc → s.stream.stop = false →
    (streamLane s lane.val).repeatsStep < s.stream.repeatLimit →
    ∃ t, exec (.segmentIngest τ lane header payload) s = .next t ∧ counter t cCrcErrors = counter s cCrcErrors + 1 ∧
      (streamLane s lane.val).frame.seq ∈ (streamLane t lane.val).repeats ∧ t.stream.slots = s.stream.slots ∧
      Only [.now, .stream, .counters] s t) ∧
  (∀ τ (lane : LaneId) (header : BitVec 256) payload s bs e shape w, Ready s → laneActive s lane.val = true →
    (streamLane s lane.val).place = .ingest → 2 ≤ (streamLane s lane.val).left →
    crc32 payload = (decodeSeg header.toNat).pcrc → decompress (decodeSeg header.toNat) payload = some bs →
    ingestEntry s (decodeSeg header.toNat).tensor (slotPlan s (streamLane s lane.val).frame.seq).role = some e →
    segShape (decodeSeg header.toNat) e = some shape → segMatches s (decodeSeg header.toNat) e = true →
    (decodeSeg header.toNat).offset + bs.length ≤ imageLen shape →
    badExponent shape (decodeSeg header.toNat).offset bs = false → e.owned = false →
    segWrites (seedOf s (stepOfSeq s (streamLane s lane.val).frame.seq)) (decodeSeg header.toNat) e shape
      (segsWith s (streamLane s lane.val).frame.seq (slotPlan s (streamLane s lane.val).frame.seq).role
        (decodeSeg header.toNat) bs) bs = some w → e.arriveUnit = 0xFFFF →
    ∃ t, exec (.segmentIngest τ lane header payload) s = .next t ∧
      counter t cStreamBytes = counter s cStreamBytes + payload.length ∧
      t.mem = (windowBits (slotBase s (streamLane s lane.val).frame.seq + e.windowOffset) w.1
        (windowBits (slotBase s (streamLane s lane.val).frame.seq + e.shadowOffset) w.2 s)).mem ∧
      (streamLane t lane.val).left = (streamLane s lane.val).left - 1 ∧ Only [.now, .mem, .stream, .counters] s t) ∧
  (∀ τ (lane : LaneId) (header : BitVec 256) payload s bs e shape w b, Ready s → laneActive s lane.val = true →
    (streamLane s lane.val).place = .ingest → 2 ≤ (streamLane s lane.val).left →
    crc32 payload = (decodeSeg header.toNat).pcrc → decompress (decodeSeg header.toNat) payload = some bs →
    ingestEntry s (decodeSeg header.toNat).tensor (slotPlan s (streamLane s lane.val).frame.seq).role = some e →
    segShape (decodeSeg header.toNat) e = some shape → segMatches s (decodeSeg header.toNat) e = true →
    (decodeSeg header.toNat).offset + bs.length ≤ imageLen shape →
    badExponent shape (decodeSeg header.toNat).offset bs = false → e.owned = false →
    segWrites (seedOf s (stepOfSeq s (streamLane s lane.val).frame.seq)) (decodeSeg header.toNat) e shape
      (segsWith s (streamLane s lane.val).frame.seq (slotPlan s (streamLane s lane.val).frame.seq).role
        (decodeSeg header.toNat) bs) bs = some w → e.arriveUnit ≠ 0xFFFF →
    leavesOf s e.arriveUnit = [b] → (∀ i : Fin 16, coreOn s (coreKey b i.val) = true) →
    (∀ i : Fin 16, (mapGet {} (coreS s (coreKey b i.val)).sb e.arriveEntry).count < 0xFFFF) →
    ∃ t, exec (.segmentIngest τ lane header payload) s = .next t ∧
      (∀ i : Fin 16, mapGet {} (coreS t (coreKey b i.val)).sb e.arriveEntry =
        sbAdd (mapGet {} (coreS s (coreKey b i.val)).sb e.arriveEntry) 1) ∧ Only [.now, .cores, .mem, .stream, .counters] s t) ∧
  (∀ τ (lane : LaneId) (header : BitVec 256) payload s l f, Ready s → laneActive s lane.val = true →
    (streamLane s lane.val).place = .landing → (streamLane s lane.val).left ≠ 0 →
    crc32 payload = (decodeSeg header.toNat).pcrc → (streamLane s lane.val).landing = l ++ [f] →
    ∃ t, exec (.segmentIngest τ lane header payload) s = .next t ∧
      (streamLane t lane.val).landing = l ++ [{ f with segs := f.segs ++ [(header.toNat, payload)] }] ∧
      t.mem = (landBytes lane.val payload s).mem ∧ Only [.now, .stream, .mem] s t) ∧
  (∀ (seq : BitVec 48) s, Ready s → s.stream.oldest ≤ seq.toNat →
    slotFree s s.stream.oldest = false → seq.toNat ≠ s.stream.oldest →
    ∃ t, exec (.consumerSignal seq) s = .next t ∧ (slotS t seq.toNat).signals = (slotS s seq.toNat).signals + 1 ∧
      t.stream.oldest = s.stream.oldest ∧ Only [.stream] s t) ∧
  (∀ (seq : BitVec 48) s, Ready s → seq.toNat = s.stream.oldest → s.stream.ranks ≠ [] →
    (∀ c ∈ s.stream.ranks, c ∈ (slotS s seq.toNat).lanes) → (∀ e ∈ s.stream.lanes, e.2.later = []) →
    (slotPlan s seq.toNat).signals ≤ (slotS s seq.toNat).signals + 1 →
    ∃ t, exec (.consumerSignal seq) s = .next t ∧ s.stream.oldest < t.stream.oldest ∧
      creditLimit s < creditLimit t ∧ Only [.stream] s t)

/-! ## Stacked memory (chapter 08) -/

/-- A controller: a read whose units all check delivers the bytes at its address, and one whose unit checks at the second or
third read is counted as retried (R260); a write of whole units changes the bytes it covers and no other, in both copies for
SYSTEM (R255), and leaves the check bits of its units right (R259); a packet that would cross a 4,096-byte boundary is discarded
and counted (R251), and so is a write to REDUCE from anything but the accumulation unit (R264); a unit of WINDOW that fails
three times delivers nothing, enters the defect list and rolls the step back (Table 8.3). -/
def Obligations.ControllersServeTheirStack : Prop :=
  (∀ (stack : StackId) addr len (f : MemFacts) s, Ready s → stackGone s stack.val = false →
    memInRange (memAddr addr) len = true → regionOf s (memAddr addr) < 5 → f.ifRetries = 0 → f.odecc = 0 →
    (∀ i ∈ List.range (ceilDiv (memAddr addr % 64 + len) 64),
      failedReads s stack.val (memAddr addr / 64 + i) (burstsOf f i) = 0) →
    ∃ t, exec (.memoryRequest stack (.read addr len f)) s = .next t ∧
      t.sent = s.sent ++ [.memory stack.val (memAddr addr) (memRead s stack.val (memAddr addr) len)] ∧
      counter t cMemRead = counter s cMemRead + len ∧ Only [.sent, .counters] s t) ∧
  (∀ (stack : StackId) addr len (f : MemFacts) s, Ready s → stackGone s stack.val = false →
    memInRange (memAddr addr) len = true → regionOf s (memAddr addr) < 5 → 0 < len → memAddr addr % 64 + len ≤ 64 →
    0 < failedReads s stack.val (memAddr addr / 64) (burstsOf f 0) →
    failedReads s stack.val (memAddr addr / 64) (burstsOf f 0) < 3 →
    ∃ t, exec (.memoryRequest stack (.read addr len f)) s = .next t ∧
      t.sent = s.sent ++ [.memory stack.val (memAddr addr) (memRead s stack.val (memAddr addr) len)] ∧
      counter t cCrcRetried = counter s cCrcRetried + 1 ∧ Only [.sent, .counters] s t) ∧
  (∀ (stack : StackId) addr (data : List Byte) fromAcc (f : MemFacts) s, Ready s → stackGone s stack.val = false →
    memInRange (memAddr addr) data.length = true →
    0 < regionOf s (memAddr addr) → regionOf s (memAddr addr) < 5 → memAddr addr % 64 = 0 → data.length % 64 = 0 →
    ∃ t, exec (.memoryRequest stack (.write addr data fromAcc f)) s = .next t ∧
      (∀ m a, a < 2 ^ 36 → memByte t m a = if m = stack.val ∧ memAddr addr ≤ a ∧ a < memAddr addr + data.length
        then nth 0#8 data (a - memAddr addr) else memByte s m a) ∧
      (∀ u ∈ rangeFrom (memAddr addr / 64) ((memAddr addr + data.length) / 64), unitSound t stack.val u = true) ∧
      counter t cMemWritten = counter s cMemWritten + data.length ∧ Only [.mem, .counters] s t) ∧
  (∀ (stack : StackId) addr (data : List Byte) fromAcc (f : MemFacts) s, Ready s → stackGone s stack.val = false →
    memInRange (memAddr addr) data.length = true →
    regionOf s (memAddr addr) = 0 → memAddr addr % 64 = 0 → data.length % 64 = 0 →
    ∃ t, exec (.memoryRequest stack (.write addr data fromAcc f)) s = .next t ∧
      (∀ m a, a < 2 ^ 36 → memByte t m a = if (m = stack.val ∨ m = (stack.val + 16) % 32) ∧ memAddr addr ≤ a ∧
        a < memAddr addr + data.length then nth 0#8 data (a - memAddr addr) else memByte s m a) ∧
      Only [.mem, .counters] s t) ∧
  (∀ (stack : StackId) addr len (f : MemFacts) s, Ready s → stackGone s stack.val = false →
    4096 < memAddr addr % 4096 + len →
    ∃ t, exec (.memoryRequest stack (.read addr len f)) s = .next t ∧ counter t cPktDiscard = counter s cPktDiscard + 1 ∧
      Only [.counters] s t) ∧
  (∀ (stack : StackId) addr (data : List Byte) (f : MemFacts) s, Ready s → stackGone s stack.val = false →
    memInRange (memAddr addr) data.length = true → regionOf s (memAddr addr) = 7 →
    ∃ t, exec (.memoryRequest stack (.write addr data false f)) s = .next t ∧
      counter t cPktDiscard = counter s cPktDiscard + 1 ∧ Only [.counters] s t) ∧
  (∀ (stack : StackId) addr len (f : MemFacts) s, Ready s → stackGone s stack.val = false →
    memInRange (memAddr addr) len = true → regionOf s (memAddr addr) = 2 → 0 < len → memAddr addr % 64 + len ≤ 64 →
    3 ≤ failedReads s stack.val (memAddr addr / 64) (burstsOf f 0) → isJobLead s = true → s.job.started = true →
    ∃ t, exec (.memoryRequest stack (.read addr len f)) s = .next t ∧
      counter t cCrcPersist = counter s cCrcPersist + 1 ∧
      t.mem.defects = s.mem.defects ++ [(stack.val, memAddr addr / 64)] ∧
      ({ cause := 4, source := selfIndex s }, s.now) ∈ t.grp.requests ∧ t.host.eventNumber = s.host.eventNumber + 1 ∧
      counter t cMemRead = counter s cMemRead)

/-- A stack is refreshed once per interval, twice while it is above 85 °C (R250); one that becomes unreachable is to leave the
stripe set at the resume (R258), and the step rolls back. How refreshes are counted is the model's (log entry 32). -/
def Obligations.StacksRefreshAndLeave : Prop :=
  (∀ (stack : StackId) hot s, Ready s → stackGone s stack.val = false →
    ∃ t, exec (.hbmRefresh stack hot) s = .next t ∧
      mapGet 0 t.mem.refreshes stack.val = mapGet 0 s.mem.refreshes stack.val + (if hot then 2 else 1) ∧
      (stack.val ∈ t.mem.doubleRefresh ↔ hot = true) ∧ t.mem.bytes = s.mem.bytes ∧ Only [.mem] s t) ∧
  (∀ (stack : StackId) s, Ready s → stackGone s stack.val = false → isJobLead s = true → s.job.started = true →
    ∃ t, exec (.stackUnreachable stack) s = .next t ∧ stackGone t stack.val = true ∧ t.mem.stripe = s.mem.stripe ∧
      ({ cause := 4, source := selfIndex s }, s.now) ∈ t.grp.requests ∧
      (mapGet {} t.fault.records t.fault.head).cls = 4) ∧
  (∀ (stack : StackId) s, Ready s → stackGone s stack.val = false → isJobLead s = false → s.job.started = true →
    ∃ t, exec (.stackUnreachable stack) s = .next t ∧ stackGone t stack.val = true ∧
      Msg.rollbackRequest 4 (selfIndex s) ∈ t.sent)

/-! ## Gradient reduction (chapter 10) -/

/-- A contribution piece of the step and rollback generation of its open block, where the block's entry can be read: its values,
shifted, are added to their accumulators, its identifier to IDSUM, its residue to CARRIED, and it is counted (R313); an
untrained block only identifies and counts it; a piece of another step or generation is dropped and counted. The piece that
fills TARGET starts the check of R315: at an owner that is not the job home a sum of identifiers that does not come out zeroes
the block and asks its members again (R316), and a block that checks and is not of class S sends its group sum in 8 pieces
(R315); at the home of a job of one group a block of class F that checks goes to the update, its next exponent formed and its
members acknowledged (R303, R318, R321); a clipped block is raised at its home (R317). A piece of the total replaces the sums of
a block in SENT; one whose residue is wrong is counted and asked for again (R319). -/
def Obligations.PiecesAccumulate : Prop :=
  (∀ (stack : StackId) (p : PieceData) (f : MemFacts) s l, Ready s → stackGone s stack.val = false →
    layerAt s (decodeContrib p.header.toNat).block = some l →
    (fetchBlock stack.val (decodeContrib p.header.toNat).block f s).1 = false → p.values.length ≤ 512 →
    (decodeContrib p.header.toNat).step = (blockS s (decodeContrib p.header.toNat).block).step % 65536 →
    (decodeContrib p.header.toNat).roll = (blockS s (decodeContrib p.header.toNat).block).roll →
    (blockS s (decodeContrib p.header.toNat).block).state = .open_ → (decodeContrib p.header.toNat).mode = 0 →
    isUntrained (blockS s (decodeContrib p.header.toNat).block) = false →
    (decodeContrib p.header.toNat).clip = false → (blockS s (decodeContrib p.header.toNat).block).clip = false →
    (blockS s (decodeContrib p.header.toNat).block).count + 1 < (blockS s (decodeContrib p.header.toNat).block).target →
    (∀ k, k < p.values.length → (mapGet 0 (blockS s (decodeContrib p.header.toNat).block).acc
        (512 * (decodeContrib p.header.toNat).piece + k) +
      nth 0 p.values k * 2 ^ (decodeContrib p.header.toNat).shift).natAbs < 2 ^ 47) →
    ∃ t, exec (.pieceArrival stack p f) s = .next t ∧
      (∀ i, mapGet 0 (blockS t (decodeContrib p.header.toNat).block).acc i =
        mapGet 0 (blockS s (decodeContrib p.header.toNat).block).acc i +
          (if 512 * (decodeContrib p.header.toNat).piece ≤ i ∧ i < 512 * (decodeContrib p.header.toNat).piece + p.values.length
           then nth 0 p.values (i - 512 * (decodeContrib p.header.toNat).piece) * 2 ^ (decodeContrib p.header.toNat).shift
           else 0)) ∧
      (blockS t (decodeContrib p.header.toNat).block).idsum = (blockS s (decodeContrib p.header.toNat).block).idsum +
        (1 + (decodeContrib p.header.toNat).piece + 8 * (decodeContrib p.header.toNat).member +
          512 * (decodeContrib p.header.toNat).group) ∧
      (blockS t (decodeContrib p.header.toNat).block).count = (blockS s (decodeContrib p.header.toNat).block).count + 1 ∧
      (blockS t (decodeContrib p.header.toNat).block).carried = ((blockS s (decodeContrib p.header.toNat).block).carried +
        (decodeContrib p.header.toNat).res * 2 ^ (decodeContrib p.header.toNat).shift) % 65535 ∧
      (blockS t (decodeContrib p.header.toNat).block).maxb = max (blockS s (decodeContrib p.header.toNat).block).maxb
        (decodeContrib p.header.toNat).maxb ∧
      (blockS t (decodeContrib p.header.toNat).block).state = .open_ ∧
      (∀ b, b ≠ (decodeContrib p.header.toNat).block → blockS t b = blockS s b) ∧
      counter t cPieces = counter s cPieces + 1 ∧ t.mem = { s.mem with cache := t.mem.cache } ∧
      Only [.mem, .red, .counters] s t) ∧
  (∀ (stack : StackId) (p : PieceData) (f : MemFacts) s l, Ready s → stackGone s stack.val = false →
    layerAt s (decodeContrib p.header.toNat).block = some l →
    (decodeContrib p.header.toNat).step = (blockS s (decodeContrib p.header.toNat).block).step % 65536 →
    (decodeContrib p.header.toNat).roll = (blockS s (decodeContrib p.header.toNat).block).roll →
    (blockS s (decodeContrib p.header.toNat).block).state = .open_ →
    isUntrained (blockS s (decodeContrib p.header.toNat).block) = true →
    (fetchBlock stack.val (decodeContrib p.header.toNat).block f s).1 = false →
    (blockS s (decodeContrib p.header.toNat).block).clip = false →
    (blockS s (decodeContrib p.header.toNat).block).count + 1 < (blockS s (decodeContrib p.header.toNat).block).target →
    ∃ t, exec (.pieceArrival stack p f) s = .next t ∧
      (blockS t (decodeContrib p.header.toNat).block).acc = (blockS s (decodeContrib p.header.toNat).block).acc ∧
      (blockS t (decodeContrib p.header.toNat).block).idsum = (blockS s (decodeContrib p.header.toNat).block).idsum +
        (1 + (decodeContrib p.header.toNat).piece + 8 * (decodeContrib p.header.toNat).member +
          512 * (decodeContrib p.header.toNat).group) ∧
      (blockS t (decodeContrib p.header.toNat).block).count = (blockS s (decodeContrib p.header.toNat).block).count + 1 ∧
      counter t cPieces = counter s cPieces + 1 ∧ Only [.mem, .red, .counters] s t) ∧
  (∀ (stack : StackId) (p : PieceData) (f : MemFacts) s, Ready s → stackGone s stack.val = false →
    ((decodeContrib p.header.toNat).step ≠ (blockS s (decodeContrib p.header.toNat).block).step % 65536 ∨
      (decodeContrib p.header.toNat).roll ≠ (blockS s (decodeContrib p.header.toNat).block).roll) →
    ∃ t, exec (.pieceArrival stack p f) s = .next t ∧ counter t cStaleDrops = counter s cStaleDrops + 1 ∧
      Only [.counters] s t) ∧
  (∀ (stack : StackId) (p : PieceData) (f : MemFacts) s l o, Ready s → stackGone s stack.val = false →
    layerAt s (decodeContrib p.header.toNat).block = some l →
    o = blockS s (decodeContrib p.header.toNat).block →
    (fetchBlock stack.val (decodeContrib p.header.toNat).block f s).1 = false →
    (decodeContrib p.header.toNat).step = o.step % 65536 → (decodeContrib p.header.toNat).roll = o.roll →
    o.state = .open_ → (decodeContrib p.header.toNat).mode = 0 → o.target = o.count + 1 → o.fails = 0 → o.home = false →
    o.idsum + pieceId (decodeContrib p.header.toNat).group (decodeContrib p.header.toNat).member
      (decodeContrib p.header.toNat).piece ≠ o.idexp →
    ∃ t, exec (.pieceArrival stack p f) s = .next t ∧ counter t cResidueFail = counter s cResidueFail + 1 ∧
      (blockS t (decodeContrib p.header.toNat).block).acc = [] ∧
      (blockS t (decodeContrib p.header.toNat).block).count = 0 ∧
      (blockS t (decodeContrib p.header.toNat).block).state = .open_ ∧
      t.sent = s.sent ++ [.reRequest s.job.group s.job.member (decodeContrib p.header.toNat).block o.bexp false]) ∧
  (∀ (stack : StackId) (p : PieceData) (f : MemFacts) s (l : LayerRec) (bn : Nat) (o o' : BlockS), Ready s →
    stackGone s stack.val = false → layerAt s (decodeContrib p.header.toNat).block = some (l, bn) →
    o = blockS s (decodeContrib p.header.toNat).block → o' = addPiece (decodeContrib p.header.toNat) p o →
    (fetchBlock stack.val (decodeContrib p.header.toNat).block f s).1 = false →
    (decodeContrib p.header.toNat).step = o.step % 65536 → (decodeContrib p.header.toNat).roll = o.roll →
    o.state = .open_ → (decodeContrib p.header.toNat).mode = 0 → isUntrained o = false → o.target = o.count + 1 →
    o.home = false → o'.clip = false → o'.idsum = o'.idexp → o'.carried = residue (accList o') → l.cls ≠ 1 →
    ∃ t, exec (.pieceArrival stack p f) s = .next t ∧
      (blockS t (decodeContrib p.header.toNat).block).state = .sent ∧
      (blockS t (decodeContrib p.header.toNat).block).acc = o'.acc ∧ t.sent.length = s.sent.length + 8 ∧
      (∀ q, q < 8 → accPiece t (decodeContrib p.header.toNat).block q 1 0
        (ownerModule s l.tensor (homeGroup s l.tensor bn)) ∈ t.sent)) ∧
  (∀ (stack : StackId) (p : PieceData) (f : MemFacts) s (l : LayerRec) (bn : Nat) (o o' : BlockS), Ready s →
    stackGone s stack.val = false → layerAt s (decodeContrib p.header.toNat).block = some (l, bn) →
    o = blockS s (decodeContrib p.header.toNat).block → o' = addPiece (decodeContrib p.header.toNat) p o →
    (fetchBlock stack.val (decodeContrib p.header.toNat).block f s).1 = false →
    (decodeContrib p.header.toNat).step = o.step % 65536 → (decodeContrib p.header.toNat).roll = o.roll →
    o.state = .open_ → (decodeContrib p.header.toNat).mode = 0 → isUntrained o = false → o.target = o.count + 1 →
    o.home = true → s.job.groups = 1 → s.grp.shadowedBy = none → o'.clip = false → o'.idsum = o'.idexp →
    o'.carried = residue (accList o') → l.cls = 0 → l.rule < 4 → o.repairWait = false → o.step ≤ s.red.committed + 1 →
    ∃ t, exec (.pieceArrival stack p f) s = .next t ∧
      (blockS t (decodeContrib p.header.toNat).block).state = .updating ∧
      (blockS t (decodeContrib p.header.toNat).block).nextBexp =
        (if o'.maxb = 0 then o.bexp else max (-149) (min 97 (o.bexp + o'.maxb - 31 + s.red.headroom))) ∧
      t.sent = s.sent ++ o'.senders.map fun x => .pieceAck x (decodeContrib p.header.toNat).block (o.step % 65536)) ∧
  (∀ (stack : StackId) (p : PieceData) (f : MemFacts) s (l : LayerRec) (bn : Nat) (o o' : BlockS), Ready s →
    stackGone s stack.val = false → layerAt s (decodeContrib p.header.toNat).block = some (l, bn) →
    o = blockS s (decodeContrib p.header.toNat).block → o' = addPiece (decodeContrib p.header.toNat) p o →
    (fetchBlock stack.val (decodeContrib p.header.toNat).block f s).1 = false →
    (decodeContrib p.header.toNat).step = o.step % 65536 → (decodeContrib p.header.toNat).roll = o.roll →
    o.state = .open_ → (decodeContrib p.header.toNat).mode = 0 → isUntrained o = false → o.target = o.count + 1 →
    o.home = true → o'.clip = true → o'.idsum = o'.idexp → o'.carried = residue (accList o') → o.bexp < 97 → o.raises < 2 →
    ∃ t, exec (.pieceArrival stack p f) s = .next t ∧
      (blockS t (decodeContrib p.header.toNat).block).bexp =
        max (-149) (min 97 (o.bexp + max 1 ((o'.maxb : Int) - 31 + (s.red.headroom : Int)))) ∧
      (blockS t (decodeContrib p.header.toNat).block).raises = o.raises + 1 ∧
      (blockS t (decodeContrib p.header.toNat).block).acc = [] ∧ counter t cClip = counter s cClip + 1 ∧
      Msg.raise (decodeContrib p.header.toNat).block (blockS t (decodeContrib p.header.toNat).block).bexp false ∈ t.sent) ∧
  (∀ (stack : StackId) (p : PieceData) (f : MemFacts) s l o, Ready s → stackGone s stack.val = false →
    layerAt s (decodeContrib p.header.toNat).block = some l →
    o = blockS s (decodeContrib p.header.toNat).block →
    (decodeContrib p.header.toNat).step = o.step % 65536 → (decodeContrib p.header.toNat).roll = o.roll →
    o.state = .sent → (decodeContrib p.header.toNat).mode = 3 →
    (fetchBlock stack.val (decodeContrib p.header.toNat).block f s).1 = false →
    p.values.length = 512 →
    residue p.values = (decodeContrib p.header.toNat).res → o.totalPieces.length < 7 →
    ∃ t, exec (.pieceArrival stack p f) s = .next t ∧
      (∀ i, mapGet 0 (blockS t (decodeContrib p.header.toNat).block).acc i =
        if 512 * (decodeContrib p.header.toNat).piece ≤ i ∧ i < 512 * (decodeContrib p.header.toNat).piece + 512
        then nth 0 p.values (i - 512 * (decodeContrib p.header.toNat).piece) else mapGet 0 o.acc i) ∧
      (decodeContrib p.header.toNat).piece ∈ (blockS t (decodeContrib p.header.toNat).block).totalPieces ∧
      t.sent = s.sent) ∧
  (∀ (stack : StackId) (p : PieceData) (f : MemFacts) s l o, Ready s → stackGone s stack.val = false →
    layerAt s (decodeContrib p.header.toNat).block = some l →
    o = blockS s (decodeContrib p.header.toNat).block →
    (decodeContrib p.header.toNat).step = o.step % 65536 → (decodeContrib p.header.toNat).roll = o.roll →
    o.state = .sent → (decodeContrib p.header.toNat).mode = 3 →
    (fetchBlock stack.val (decodeContrib p.header.toNat).block f s).1 = false →
    residue p.values ≠ (decodeContrib p.header.toNat).res →
    mapGet 0 o.totalFails (decodeContrib p.header.toNat).piece < 2 →
    ∃ t, exec (.pieceArrival stack p f) s = .next t ∧ counter t cResidueFail = counter s cResidueFail + 1 ∧
      (blockS t (decodeContrib p.header.toNat).block).acc = o.acc ∧
      t.sent = s.sent ++ [.totalRerequest (decodeContrib p.header.toNat).block (decodeContrib p.header.toNat).piece])

/-- Re-requests, raises and totals: a member sends its held pieces of the block again against the exponent named (R316); an
owner in SENT sends a group sum that is not of class S again to the job home, keeping it; a raise gives an open block the
exponent named and asks its members again (R317), or leaves it to be carried as nonfinite after the commit it waits for; the job
home's block of class F leaves TOTAL with the last group's acknowledgement (R318), and not before; a total piece is sent again
where it is asked for (R319). -/
def Obligations.BlocksAreAskedAgain : Prop :=
  (∀ (group : GroupId) (owner : MemberId) (block : BitVec 32) bexp s, Ready s → group.val = s.job.group →
    ∃ t, exec (.reRequest group owner block bexp) s = .next t ∧
      t.red.held = s.red.held.map (fun h =>
        if h.owner = owner.val ∧ h.block = block.toNat then { h with bexp := bexp } else h) ∧
      t.sent = s.sent ++ (t.red.held.filter fun h => decide (h.owner = owner.val) && decide (h.block = block.toNat)).map
        (fun h => (heldMsg s h h.stack h.addr).2) ∧ Only [.sent, .red, .counters] s t) ∧
  (∀ (group : GroupId) (owner : MemberId) (block : BitVec 32) bexp s l bn, Ready s → group.val ≠ s.job.group →
    layerAt s block.toNat = some (l, bn) → (blockS s block.toNat).state = .sent → (blockS s block.toNat).clip = false →
    l.cls ≠ 1 →
    ∃ t, exec (.reRequest group owner block bexp) s = .next t ∧
      t.sent = s.sent ++ (List.range 8).map (fun q => accPiece s block.toNat q 1 0
        (ownerModule s l.tensor (homeGroup s l.tensor bn))) ∧
      (blockS t block.toNat).acc = (blockS s block.toNat).acc ∧ (blockS t block.toNat).state = .sent ∧ Only [.sent, .red] s t) ∧
  (∀ (msg : RaiseMsg) s l, Ready s → layerAt s msg.block = some l → (blockS s msg.block).state = .open_ →
    msg.nonfinite = false → (blockS s msg.block).raises < 2 →
    ∃ t, exec (.raiseMessage msg) s = .next t ∧
      (blockS t msg.block).bexp = max (-149) (min 97 msg.bexp) ∧
      (blockS t msg.block).raises = (blockS s msg.block).raises + 1 ∧ (blockS t msg.block).acc = [] ∧
      (blockS t msg.block).count = 0 ∧ (blockS t msg.block).state = .open_ ∧ counter t cClip = counter s cClip + 1 ∧
      t.sent = s.sent ++ [.reRequest s.job.group s.job.member msg.block (max (-149) (min 97 msg.bexp)) false]) ∧
  (∀ (msg : RaiseMsg) s l, Ready s → layerAt s msg.block = some l → (blockS s msg.block).state = .open_ →
    msg.nonfinite = true → s.red.committed + 1 < (blockS s msg.block).step →
    ∃ t, exec (.raiseMessage msg) s = .next t ∧ (blockS t msg.block).nonfinite = true ∧
      (blockS t msg.block).state = .waitCommit ∧ (blockS t msg.block).nextBexp = (blockS s msg.block).bexp ∧
      t.sent = s.sent ++ (blockS s msg.block).senders.map
        (fun x => .pieceAck x msg.block ((blockS s msg.block).step % 65536)) ∧ Only [.sent, .red] s t) ∧
  (∀ (block : BitVec 32) (group : GroupId) s l bn, Ready s → layerAt s block.toNat = some (l, bn) →
    (blockS s block.toNat).state = .total → (blockS s block.toNat).home = true →
    group.val ∉ (blockS s block.toNat).totalAcks →
    (otherGroups s).all ((blockS s block.toNat).totalAcks ++ [group.val]).contains = true → l.cls = 0 → l.rule < 4 →
    isUntrained (blockS s block.toNat) = false → (blockS s block.toNat).repairWait = false →
    (blockS s block.toNat).step ≤ s.red.committed + 1 →
    ∃ t, exec (.totalAcknowledgement block group false) s = .next t ∧ (blockS t block.toNat).state = .updating ∧
      (blockS t block.toNat).totalAcks = (blockS s block.toNat).totalAcks ++ [group.val] ∧ Only [.mem, .red] s t) ∧
  (∀ (block : BitVec 32) (group : GroupId) s, Ready s → (blockS s block.toNat).state = .total →
    (blockS s block.toNat).home = true → group.val ∉ (blockS s block.toNat).totalAcks →
    (otherGroups s).all ((blockS s block.toNat).totalAcks ++ [group.val]).contains = false →
    ∃ t, exec (.totalAcknowledgement block group false) s = .next t ∧ (blockS t block.toNat).state = .total ∧
      (blockS t block.toNat).totalAcks = (blockS s block.toNat).totalAcks ++ [group.val] ∧ Only [.red] s t) ∧
  (∀ (block : BitVec 32) (group : GroupId) (piece : Fin 8) s l bn, Ready s → layerAt s block.toNat = some (l, bn) →
    (blockS s block.toNat).state = .total → group.val ≠ s.job.group →
    ∃ t, exec (.totalRerequest block group piece) s = .next t ∧
      t.sent = s.sent ++ [accPiece s block.toNat piece.val 3 (ofSigned 16 (blockS s block.toNat).nextBexp)
        (ownerModule s l.tensor group.val)] ∧ Only [.sent] s t)

/-- The update of a block (R325, R326, R329): the pipe's end leaves a block of an element rule, whose working copy is not T4,
UPDATED, its new masters in the other bank as `elemOut` forms them by the layer's rule and the masters of elements not updated
as they were; the current bank does not change. A failed check redoes the block once and is counted. A matrix-rule tensor whose
blocks all stand in TOTAL, released, has its update region signalled. The segments of an updated block leave for the weight
servers and are counted. -/
def Obligations.BlocksAreUpdated : Prop :=
  (∀ (block : BitVec 32) s l bn, Ready s → layerAt s block.toNat = some (l, bn) → (blockS s block.toNat).state = .updating →
    isLead s = false → s.tick.step ≤ (blockS s block.toNat).step → 0 < l.rule → l.rule < 4 → l.wcFmt ≠ 10 →
    ∃ t, exec (.blockUpdateDone block true) s = .next t ∧ (blockS t block.toNat).state = .updated ∧
      (blockS t block.toNat).doneStep = (blockS s block.toNat).step + 1 ∧
      (∀ i, i < 4096 → mapGet 0 (otherBank t block.toNat).master i =
        (elemOut (pipeInput s block.toNat l bn) (blockS s block.toNat).nonfinite i).w) ∧
      (∀ i, i < 4096 → updates (pipeInput s block.toNat l bn) (blockS s block.toNat).nonfinite i = false →
        mapGet 0 (otherBank t block.toNat).master i = mapGet 0 (curBank s block.toNat).master i) ∧
      curBank t block.toNat = curBank s block.toNat ∧ t.mem.ownerCur = s.mem.ownerCur) ∧
  (∀ (block : BitVec 32) s, Ready s → (blockS s block.toNat).state = .updating → (blockS s block.toNat).redone = 0 →
    ∃ t, exec (.blockUpdateDone block false) s = .next t ∧ (blockS t block.toNat).state = .updating ∧
      (blockS t block.toNat).redone = 1 ∧ counter t cResidue = counter s cResidue + 1 ∧
      otherBank t block.toNat = otherBank s block.toNat ∧ Only [.red, .counters] s t) ∧
  (∀ (tensor : BitVec 32) s, Ready s → isMatrixRule (mapGet {} s.red.layers tensor.toNat) = true →
    (blocksOf s tensor.toNat).all (totalReleased s) = true → blocksOf s tensor.toNat ≠ [] →
    ∃ t, exec (.updateRegionSignal tensor) s = .next t ∧
      t.sent = s.sent ++ [.signal (mapGet {} s.red.layers tensor.toNat).updateUnit
        (mapGet {} s.red.layers tensor.toNat).updateEntry 1] ∧
      (∀ b, b ∈ blocksOf s tensor.toNat → (blockS t b).state = .updating) ∧
      (∀ b, b ∉ blocksOf s tensor.toNat → blockS t b = blockS s b) ∧ Only [.sent, .mem, .red] s t) ∧
  (∀ (block : BitVec 32) s l bn, Ready s → layerAt s block.toNat = some (l, bn) → (blockS s block.toNat).outSegs ≠ [] →
    isLead s = false → s.job.groups = 1 →
    ∃ t, exec (.outboundWorkingCopy block) s = .next t ∧ (blockS t block.toNat).outSegs = [] ∧
      (∀ e, e ∈ (blockS s block.toNat).outSegs → Msg.segment (if e.1 = 3 then l.tensor + 0x80000000 else l.tensor)
        block.toNat e.1 ((blockS s block.toNat).doneStep - 1) e.2 ∈ t.sent) ∧
      counter t cOutSegBytes = counter s cOutSegBytes + ((blockS s block.toNat).outSegs.map (·.2.length)).sum ∧
      Only [.sent, .red, .counters, .beam] s t)

/-- Commit (R332, R333): the job lead commits when every group has reported and the mirror check is complete, with the clipping
factor that the norm of group 0 gives (R322), and not while a group is missing; a member's report is kept at its lead, its norm
added; the notice of the step after the last committed one, of the generation held, makes the module take its other bank for the
current one and the factor it brings; the notice of another step or generation changes nothing but the time. A reconcile copy
becomes the block's current bank and clears its mark (R493). -/
def Obligations.StepsCommit : Prop :=
  (∀ (group : GroupId) (member : MemberId) norm s, Ready s → isJobLead s = true → s.job.started = true →
    (List.range s.job.groups).all (s.red.groupReported ++ [group.val]).contains = false → group.val ∉ s.red.groupReported →
    ∃ t, exec (.updateDoneReport group member true none norm) s = .next t ∧
      t.red.groupReported = s.red.groupReported ++ [group.val] ∧ t.red.committed = s.red.committed ∧ Only [.red] s t) ∧
  (∀ (group : GroupId) (member : MemberId) norm s, Ready s → isLead s = true → s.job.started = true →
    group.val = s.job.group → member.val ∉ s.red.reports →
    (groupOwners s s.job.group).all (s.red.reports ++ [member.val]).contains = false →
    ∃ t, exec (.updateDoneReport group member false none norm) s = .next t ∧
      t.red.reports = s.red.reports ++ [member.val] ∧ t.red.groupNorm = fpAdd false s.red.groupNorm norm.toNat ∧
      t.red.committed = s.red.committed ∧ Only [.red] s t) ∧
  (∀ (group : GroupId) (member : MemberId) norm s, Ready s → isJobLead s = true → s.job.started = true →
    (List.range s.job.groups).all (s.red.groupReported ++ [group.val]).contains = true → group.val ∉ s.red.groupReported →
    s.red.mirrorDone = true → s.grp.mirrorRollback = false →
    ∃ t, exec (.updateDoneReport group member true none norm) s = .next t ∧ t.red.committed = s.red.committed + 1 ∧
      t.mem.ownerCur = !s.mem.ownerCur ∧ t.red.groupReported = [] ∧
      Msg.commit (s.red.committed + 1) s.red.roll (clipOf s) ∈ t.sent) ∧
  (∀ τ (step : BitVec 40) (roll : BitVec 8) clip s, Ready s → s.job.started = true → roll.toNat = s.red.roll →
    step.toNat = s.red.committed + 1 → (∀ b ∈ ownedBlocks s, (blockS s b).state ≠ .waitCommit) →
    ∃ t, exec (.commitNotice τ step roll clip) s = .next t ∧ t.red.committed = step.toNat ∧
      t.mem.ownerCur = !s.mem.ownerCur ∧ t.red.clipFactor = clip.toNat ∧
      t.host.eventNumber = s.host.eventNumber + 1) ∧
  (∀ τ (step : BitVec 40) (roll : BitVec 8) clip s, Ready s → roll.toNat ≠ s.red.roll ∨ step.toNat ≠ s.red.committed + 1 →
    ∃ t, exec (.commitNotice τ step roll clip) s = .next t ∧ Only [.now] s t) ∧
  (∀ (block : BitVec 32) bank s l, Ready s → layerAt s block.toNat = some l → shadowAt s block.toNat = none →
    (blockS s block.toNat).mark = true → (blockS s block.toNat).repairWait = false →
    (blockS s block.toNat).state ≠ .waitCommit →
    ∃ t, exec (.reconcileCopy block bank) s = .next t ∧ curBank t block.toNat = bank ∧
      otherBank t block.toNat = otherBank s block.toNat ∧ (blockS t block.toNat).mark = false ∧
      (blockS t block.toNat).state = (blockS s block.toNat).state ∧
      counter t cMirReconciled = counter s cMirReconciled + 1 ∧ Only [.red, .counters] s t)

/-! ## Beam links, collectives and the glint path (chapter 11) -/

/-- Lanes: one that trains keeps delay and identity and tells its own (R340); more than 64 uncorrectable codewords in 1 ms or
three replays of one retrain it, and a retrain that ends well resumes it with its codeword count at zero; the third retrain of a
stream lane within 1 s, and one that ends at another far end, retire it with a FAULT record of class 7; the third retrain, one
that fails and loss of signal retire it and roll the step back, the changed identity outside a collective does not (Table 11.6).
After the loopback a stream lane whose engine failed takes the engine of the highest-numbered peer channel in service, which is
retired; one whose channel failed is lost (R356); a peer lane only ends its test. -/
def Obligations.LanesTrainAndRetire : Prop :=
  (∀ (lane : LaneId) (delay : BitVec 16) (identity : BitVec 80) s, Ready s → isDark s (laneField lane.val) = false →
    (laneS s lane.val).retired = false →
    ∃ t, exec (.laneTraining lane delay identity true) s = .next t ∧ (laneS t lane.val).trained = true ∧
      (laneS t lane.val).delay = delay.toNat ∧ (laneS t lane.val).identity = identity.toNat ∧
      (laneS t lane.val).received = 0 ∧ laneIn t lane.val = true ∧ (∀ c, c ≠ lane.val → laneS t c = laneS s c) ∧
      t.sent = s.sent ++ [.identity lane.val identity.toNat] ∧ Only [.sent, .beam] s t) ∧
  (∀ τ (lane : LaneId) s, Ready s → laneIn s lane.val = true → (laneS s lane.val).retraining = false →
    64 < (laneS s lane.val).uncorr.length ∨ 3 ≤ (laneS s lane.val).replays → (laneS s lane.val).retrains = [] →
    ∃ t, exec (.laneRetrain τ lane) s = .next t ∧ (laneS t lane.val).retraining = true ∧
      (laneS t lane.val).retrains = [τ] ∧ (laneS t lane.val).retired = false ∧ counter t cRetrains = counter s cRetrains + 1 ∧
      t.grp = s.grp ∧ Only [.now, .sent, .beam, .counters] s t) ∧
  (∀ τ (lane : LaneId) s a b, Ready s → laneIn s lane.val = true → (laneS s lane.val).retraining = false →
    64 < (laneS s lane.val).uncorr.length ∨ 3 ≤ (laneS s lane.val).replays → (laneS s lane.val).retrains = [a, b] →
    τ < a + 1000000000 → τ < b + 1000000000 → isStreamLane s lane.val = true → s.job.started = true → isJobLead s = true →
    ∃ t, exec (.laneRetrain τ lane) s = .next t ∧ (laneS t lane.val).retired = true ∧ (laneS t lane.val).testing = true ∧
      laneIn t lane.val = false ∧ (mapGet {} t.fault.records t.fault.head).cls = 7 ∧
      (mapGet {} t.fault.records t.fault.head).detail = lane.val ∧
      ({ cause := 3, source := selfIndex s }, max s.now τ) ∈ t.grp.requests) ∧
  (∀ τ (lane : LaneId) (identity : BitVec 80) s, Ready s → (laneS s lane.val).retraining = true →
    otherEnd (laneS s lane.val).identity identity.toNat = false → (laneS s lane.val).waiting = [] →
    ∃ t, exec (.laneRetrainDone τ lane true identity) s = .next t ∧ (laneS t lane.val).retraining = false ∧
      (laneS t lane.val).trained = true ∧ (laneS t lane.val).received = 0 ∧ (laneS t lane.val).uncorr = [] ∧
      (laneS t lane.val).replays = 0 ∧ (laneS t lane.val).retired = (laneS s lane.val).retired ∧
      Only [.now, .sent, .beam] s t) ∧
  (∀ τ (lane : LaneId) (identity : BitVec 80) s, Ready s → (laneS s lane.val).retraining = true →
    otherEnd (laneS s lane.val).identity identity.toNat = true → isStreamLane s lane.val = true →
    collectiveActive s = false →
    ∃ t, exec (.laneRetrainDone τ lane true identity) s = .next t ∧ (laneS t lane.val).retired = true ∧
      (mapGet {} t.fault.records t.fault.head).cls = 7 ∧ t.grp.requests = s.grp.requests) ∧
  (∀ τ (lane : LaneId) ok identity s, Ready s → ok = false → (laneS s lane.val).retraining = true → s.job.started = true →
    isJobLead s = true →
    ∃ t, exec (.laneRetrainDone τ lane ok identity) s = .next t ∧ (laneS t lane.val).retired = true ∧
      ({ cause := 3, source := selfIndex s }, max s.now τ) ∈ t.grp.requests) ∧
  (∀ τ (lane : LaneId) s, Ready s → laneIn s lane.val = true → s.job.started = true → isJobLead s = true →
    ∃ t, exec (.laneSignalLoss τ lane) s = .next t ∧ (laneS t lane.val).retired = true ∧ (laneS t lane.val).testing = true ∧
      ({ cause := 3, source := selfIndex s }, max s.now τ) ∈ t.grp.requests) ∧
  (∀ (lane : LaneId) pass s, Ready s → (laneS s lane.val).testing = true → isStreamLane s lane.val = false →
    ∃ t, exec (.laneLoopbackDone lane pass) s = .next t ∧ (laneS t lane.val).testing = false ∧
      (laneS t lane.val).retired = (laneS s lane.val).retired ∧ t.beam.remap = s.beam.remap ∧ Only [.beam] s t) ∧
  (∀ (lane : LaneId) s, Ready s → (laneS s lane.val).testing = true → isStreamLane s lane.val = true →
    ∃ t, exec (.laneLoopbackDone lane true) s = .next t ∧ (laneS t lane.val).chanLost = true ∧
      (laneS t lane.val).testing = false ∧ (laneS t lane.val).retired = (laneS s lane.val).retired ∧
      t.beam.remap = s.beam.remap ∧ Only [.beam] s t) ∧
  (∀ (lane : LaneId) p s, Ready s → (laneS s lane.val).testing = true → isStreamLane s lane.val = true →
    substitute s (laneField lane.val) = some p →
    ∃ t, exec (.laneLoopbackDone lane false) s = .next t ∧ engineOf t lane.val = engineOf s p ∧
      (laneS t lane.val).retired = false ∧ (laneS t lane.val).chanLost = (laneS s lane.val).chanLost ∧
      (laneS t p).retired = true)

/-- Codewords and packets: a codeword in its turn is counted as received, its CREDIT returned to the transmitter (R344), and one
of the lane's own leaves for it (log entry 120); one that cannot be corrected makes the receiver ask for the codeword after the
last good one, and what follows is not counted until the replay (R342); a NAK makes the sender resend from the codeword named,
out of those it keeps. A beam packet of another job, or one without relays left at a module it is not for, is discarded and
counted (R350); one for this module enters its mesh at the hub's router (R351). A relay's retrain notice stops the late-bound
count of a module, and its end lets the count of every open position resume where it stood (R366). That a replay is told apart
from what was on its way is an operand of the command (log entry 24). -/
def Obligations.CodewordsAndPacketsArrive : Prop :=
  (∀ τ (lane : LaneId) replay errors (control : BitVec 80) (data : List (BitVec 64)) s, Ready s →
    laneIn s lane.val = true → (laneS s lane.val).retraining = false → (laneS s lane.val).awaiting = false →
    field control.toNat 76 3 = 0 → bitAt control.toNat 79 = false → data = [] → (laneS s lane.val).waiting = [] →
    ∃ t, exec (.codewordReceived τ lane (.good replay errors control data)) s = .next t ∧
      (laneS t lane.val).received = (laneS s lane.val).received + 1 ∧
      (laneS t lane.val).spent = (laneS s lane.val).spent - field control.toNat 64 8 ∧
      (laneS t lane.val).replays = 0 ∧
      (laneS t lane.val).sentCount = (laneS s lane.val).sentCount + 1 ∧ t.sent.length = s.sent.length + 1 ∧
      counter t cFecCorr = counter s cFecCorr + (if errors.val = 0 then 0 else 1) ∧
      Only [.now, .sent, .beam, .counters] s t) ∧
  (∀ τ (lane : LaneId) errors (control : BitVec 80) data s, Ready s → laneIn s lane.val = true →
    (laneS s lane.val).retraining = false → (laneS s lane.val).awaiting = true →
    ∃ t, exec (.codewordReceived τ lane (.good false errors control data)) s = .next t ∧
      (laneS t lane.val).received = (laneS s lane.val).received ∧ (laneS t lane.val).awaiting = true ∧
      (laneS t lane.val).sentCount = (laneS s lane.val).sentCount + 1 ∧ Only [.now, .sent, .beam] s t) ∧
  (∀ τ (lane : LaneId) s, Ready s → laneIn s lane.val = true → (laneS s lane.val).retraining = false →
    (laneS s lane.val).awaiting = false →
    ∃ t, exec (.codewordReceived τ lane (.bad false)) s = .next t ∧ (laneS t lane.val).awaiting = true ∧
      (laneS t lane.val).received = (laneS s lane.val).received ∧ counter t cFecUncorr = counter s cFecUncorr + 1 ∧
      counter t cReplays = counter s cReplays + 1 ∧
      t.sent.getLast? = some (.nak lane.val ((laneS s lane.val).received % 65536)) ∧
      Only [.now, .sent, .beam, .counters] s t) ∧
  (∀ (lane : LaneId) (n : BitVec 16) s, Ready s → laneIn s lane.val = true →
    ∃ t, exec (.nakReceived lane n) s = .next t ∧ t.sent = s.sent ++ .resend lane.val n.toNat ::
      (resendFrom (laneS s lane.val) n.toNat).map (Msg.control lane.val) ∧ Only [.sent] s t) ∧
  (∀ (f : FieldId) (header : BitVec 128) inner s, Ready s → isDark s f.val = false →
    (decodeBeamHdr header.toNat).jobTag ≠ s.job.tag ∨ ((decodeBeamHdr header.toNat).destMod ≠ selfIndex s ∧
      (decodeBeamHdr header.toNat).relay = 0) →
    ∃ t, exec (.beamPacketArrival f header inner) s = .next t ∧ counter t cBeamDrops = counter s cBeamDrops + 1 ∧
      Only [.counters] s t) ∧
  (∀ (f : FieldId) (header : BitVec 128) (inner : Flits) s, Ready s → isDark s f.val = false →
    (decodeBeamHdr header.toNat).jobTag = s.job.tag → (decodeBeamHdr header.toNat).destMod = selfIndex s →
    (decodeBeamHdr header.toNat).kind = 1 → 0 < (decodeBeamHdr header.toNat).flits →
    (decodeBeamHdr header.toNat).flits ≤ 255 →
    exec (.beamPacketArrival f header inner) s =
      .next (forward (hubRouter f.val (decodeFlit inner.header.toNat).destBx) [inner] s)) ∧
  (∀ τ (m : Fin 1024) s, Ready s → isPaused s m.val = false →
    ∃ t, exec (.retrainNotice τ m true) s = .next t ∧ isPaused t m.val = true ∧ t.beam.positions = s.beam.positions ∧
      Only [.now, .beam] s t) ∧
  (∀ τ (m : Fin 1024) s, Ready s → (mapGet {} s.beam.paused m.val).n = 1 →
    ∃ t, exec (.retrainNotice τ m false) s = .next t ∧ isPaused t m.val = false ∧
      t.beam.positions = s.beam.positions.map (fun e => (e.1, { e.2 with
        waitSince := e.2.waitSince.map (· + (max s.now τ - (mapGet {} s.beam.paused m.val).since)) })) ∧
      Only [.now, .beam] s t)

/-- Bulk collectives: a source engine sends the chunk whose turn it is as its packets, holds it and spends a credit (R362,
R363); the destination's acknowledgement releases it and returns the credit, and a re-request marks it to be sent again; a
packet of another step or generation is dropped and counted; one of a reduce-scatter waits in its position, and the position is
acknowledged to its only source when that source's FP32 chunk is whole and sound. A source of a member of a group that alone is
missing for longer than the late bound is reported to the lead (R365), but not while a retrain stops its count (R366). The lead
sends an exclusion notice where the communicator is excludable, the operation is a reduce-scatter and the suspect no
destination; of a suspect in an all-gather the job lead excludes the member and asks for a rollback of cause 9. An exclusion
notice excludes the member's later chunks and is recorded in the step journal. -/
def Obligations.CollectivesAdvance : Prop :=
  (∀ (f : FieldId) s comm left i c, Ready s → isDark s f.val = false → turnOf s f.val = some (comm, left) →
    nextChunk s f.val comm = some i → s.beam.chunks[i]? = some c → c.held = false →
    ∃ t, exec (.chunkSend f none) s = .next t ∧
      t.sent = s.sent ++ chunkPackets s c (if c.gather then 0 else (commOf s comm).add) 66 0 (chunkValues c) ∧
      t.beam.chunks = s.beam.chunks.set i { c with held := true, rerequested := false } ∧
      inFlight t comm c.dest = inFlight s comm c.dest + 1 ∧ counter t cChunksSent = counter s cChunksSent + 1 ∧
      Only [.sent, .beam, .counters] s t) ∧
  (∀ (f : FieldId) (comm : Fin 64) (dest : MemberId) (position : BitVec 32) s i, Ready s →
    s.beam.chunks.findIdx? (isHeldChunk f.val comm.val dest.val position.toNat) = some i →
    ∃ t, exec (.chunkAck f comm dest position) s = .next t ∧ t.beam.chunks = s.beam.chunks.eraseIdx i ∧
      inFlight t comm.val dest.val = inFlight s comm.val dest.val - 1 ∧
      (∀ c d, (c, d) ≠ (comm.val, dest.val) → d < 64 → inFlight t c d = inFlight s c d) ∧ Only [.beam] s t) ∧
  (∀ (f : FieldId) (comm : Fin 64) (dest : MemberId) (position : BitVec 32) s, Ready s →
    ∃ t, exec (.chunkRerequest f comm dest position) s = .next t ∧
      t.beam.chunks = s.beam.chunks.map (fun c =>
        if isHeldChunk f.val comm.val dest.val position.toNat c = true then { c with rerequested := true } else c) ∧
      Only [.beam] s t) ∧
  (∀ τ (f : FieldId) (header : BitVec 128) values chk place s, Ready s → isDark s f.val = false →
    (decodeChunk header.toNat).step ≠ s.tick.step % 65536 ∨ (decodeChunk header.toNat).roll ≠ s.red.roll →
    ∃ t, exec (.chunkPacketArrival τ f header values chk place) s = .next t ∧
      counter t cStaleChunks = counter s cStaleChunks + 1 ∧ Only [.now, .counters] s t) ∧
  (∀ τ (f : FieldId) (header : BitVec 128) (values : List Int) chk place s h, Ready s → isDark s f.val = false →
    h = decodeChunk header.toNat → h.step = s.tick.step % 65536 → h.roll = s.red.roll → h.op = 0 →
    s.beam.excluded.contains (64 * h.comm + h.src) = false →
    sourceIn (positionOf s (positionKey false 0 h.comm h.position)) h.src = false → h.last = false →
    h.src ∈ sourcesOf s h.comm → 0 < (commOf s h.comm).add →
    mapGet 0 (positionOf s (positionKey false 0 h.comm h.position)).total h.src = 0 →
    ∃ t, exec (.chunkPacketArrival τ f header values chk place) s = .next t ∧
      (positionOf t (positionKey false 0 h.comm h.position)).packets =
        (positionOf s (positionKey false 0 h.comm h.position)).packets ++
          [{ src := h.src, first := 16 * h.offset / addBytes (commOf s h.comm).add, values := values, res := h.res, ok := chk }] ∧
      t.sent = s.sent ∧ Only [.now, .beam] s t) ∧
  (∀ τ (f : FieldId) (header : BitVec 128) (values : List Int) place s h, Ready s → isDark s f.val = false →
    h = decodeChunk header.toNat → h.step = s.tick.step % 65536 → h.roll = s.red.roll → h.op = 0 →
    (commOf s h.comm).add = 1 → sourcesOf s h.comm = [h.src] → h.last = true → h.offset = 0 →
    s.beam.excluded.contains (64 * h.comm + h.src) = false →
    positionOf s (positionKey false 0 h.comm h.position) = {} →
    ∃ t, exec (.chunkPacketArrival τ f header values true place) s = .next t ∧
      positionOf t (positionKey false 0 h.comm h.position) = {} ∧
      t.sent.getLast? = some (.chunkAck h.comm h.src h.position) ∧ Only [.now, .sent, .beam] s t) ∧
  (∀ τ (comm : Fin 64) (source : MemberId) s, Ready s → isPaused s (64 * s.job.group + source.val) = true →
    ∃ t, exec (.lateBoundExpired τ comm source) s = .next t ∧ Only [.now] s t) ∧
  (∀ τ (comm : Fin 64) (source : MemberId) s w, Ready s → isPaused s (64 * s.job.group + source.val) = false →
    isLead s = false → waitingFor s comm.val source.val = [w] → w.2.waitSince = some 0 →
    lateNs s ≤ max s.now τ →
    ∃ t, exec (.lateBoundExpired τ comm source) s = .next t ∧
      t.sent = s.sent ++ [.suspect comm.val (64 * s.job.group + source.val) false] ∧ Only [.now, .sent] s t) ∧
  (∀ τ (comm : Fin 64) (group : GroupId) (member : MemberId) s, Ready s → isLead s = true → s.job.started = true →
    (commOf s comm.val).bulk = true → (commOf s comm.val).excludable = true →
    bitAt (commOf s comm.val).dests member.val = false → s.beam.excluded.contains (64 * comm.val + member.val) = false →
    ∃ t, exec (.suspectReport τ comm false group member) s = .next t ∧ Msg.exclusion comm.val member.val ∈ t.sent ∧
      (64 * comm.val + member.val) ∈ t.beam.excluded ∧ (s.beam.positions = [] → t.grp = s.grp)) ∧
  (∀ τ (comm : Fin 64) (group : GroupId) (member : MemberId) s, Ready s → isJobLead s = true → s.job.started = true →
    (memberS s (64 * group.val + member.val)).state = .active → (s.grp.requests.any fun r => decide (r.1.cause = 9)) = false →
    ∃ t, exec (.suspectReport τ comm true group member) s = .next t ∧
      (memberS t (64 * group.val + member.val)).state = .excluded ∧
      ({ cause := 9, source := selfIndex s }, max s.now τ) ∈ t.grp.requests) ∧
  (∀ (comm : Fin 64) (group : GroupId) (member : MemberId) s, Ready s →
    s.beam.excluded.contains (64 * comm.val + member.val) = false → 0 < s.snap.journalEntries →
    ∃ t, exec (.exclusionNotice comm group member) s = .next t ∧
      t.beam.excluded = s.beam.excluded ++ [64 * comm.val + member.val] ∧
      t.snap.journal.getLast?.map (fun e => (e.kind, e.source)) = some (2, 64 * group.val + member.val) ∧
      (s.beam.positions = [] → Only [.beam, .snap] s t))

/-- The glint path: a packet of another step or generation is dropped and counted (R373); one that leaves its combiner short of
the count expected is combined there (R368); the one that completes a field's count sends one packet with the sum of the counts
to the member's root combiner, and the one that completes the module's total sends one with COUNT 1 toward ROOT. ROOT, at the
group's lead, counts a barrier and sends the result to every member (R372). -/
def Obligations.GlintCombines : Prop :=
  (∀ τ stage (header : BitVec 128) data s, Ready s → (∀ f, stage = GlintStage.field f → isDark s f.val = false) →
    (decodeGlint header.toNat).roll ≠ s.red.roll ∨ (decodeGlint header.toNat).step ≠ s.tick.step % 65536 →
    ∃ t, exec (.glintPacket τ stage header data) s = .next t ∧ counter t cGlintStale = counter s cGlintStale + 1 ∧
      Only [.now, .counters] s t) ∧
  (∀ τ (f : FieldId) (header : BitVec 128) data s h, Ready s → isDark s f.val = false → h = decodeGlint header.toNat →
    h.roll = s.red.roll → h.step = s.tick.step % 65536 → h.op ≤ 4 →
    (mapGet {} s.beam.combines (combineKey f.val h.comm h.seq h.piece)).count + h.count <
      nth 0 (glintCountsOf s h.comm) f.val →
    ∃ t, exec (.glintPacket τ (.field f) header data) s = .next t ∧
      (mapGet {} t.beam.combines (combineKey f.val h.comm h.seq h.piece)).count =
        (mapGet {} s.beam.combines (combineKey f.val h.comm h.seq h.piece)).count + h.count ∧ Only [.now, .beam] s t) ∧
  (∀ τ (f : FieldId) (header : BitVec 128) (data : List (BitVec 64)) s h, Ready s → isDark s f.val = false →
    h = decodeGlint header.toNat → h.roll = s.red.roll → h.step = s.tick.step % 65536 → h.op = 1 → h.scope ≠ 0 →
    data.length = 1 → h.bytes = 8 →
    0 < (mapGet {} s.beam.combines (combineKey f.val h.comm h.seq h.piece)).count →
    (mapGet {} s.beam.combines (combineKey f.val h.comm h.seq h.piece)).data.length = 8 →
    nth 0 (glintCountsOf s h.comm) f.val =
      (mapGet {} s.beam.combines (combineKey f.val h.comm h.seq h.piece)).count + h.count →
    ∃ t, exec (.glintPacket τ (.field f) header data) s = .next t ∧
      t.sent = s.sent ++ [.glint .moduleRoot (some (selfIndex s))
        (encodeGlint { h with count := (mapGet {} s.beam.combines (combineKey f.val h.comm h.seq h.piece)).count + h.count })
        (bytesLE 8 (ofBytesLE (mapGet {} s.beam.combines (combineKey f.val h.comm h.seq h.piece)).data +
          (nth 0#64 data 0).toNat))] ∧
      mapGet {} t.beam.combines (combineKey f.val h.comm h.seq h.piece) = {} ∧ Only [.now, .sent, .beam] s t) ∧
  (∀ τ (header : BitVec 128) (data : List (BitVec 64)) s h, Ready s → h = decodeGlint header.toNat → h.roll = s.red.roll →
    h.step = s.tick.step % 65536 → h.op ≤ 4 → 2 ≤ h.scope → h.bytes = 0 → data = [] →
    (mapGet {} s.beam.combines (combineKey 84 h.comm h.seq h.piece)).count = 0 →
    (glintCountsOf s h.comm).sum ≤ h.count →
    ∃ t, exec (.glintPacket τ .moduleRoot header data) s = .next t ∧
      t.sent = s.sent ++ [.glint .rootRoot (some (64 * s.job.group + (commOf s h.comm).root))
        (encodeGlint { h with count := 1 }) []] ∧ Only [.now, .sent, .beam] s t) ∧
  (∀ τ (header : BitVec 128) (data : List (BitVec 64)) s h, Ready s → h = decodeGlint header.toNat → h.roll = s.red.roll →
    h.step = s.tick.step % 65536 → h.op = 0 → h.scope = 2 → h.piece = 0 → isLead s = true →
    (maskMembers (commOf s h.comm).sources).length ≤
      (mapGet {} s.beam.combines (combineKey 85 h.comm h.seq h.piece)).count + h.count →
    ∃ t, exec (.glintPacket τ .rootRoot header data) s = .next t ∧
      t.sent.length = s.sent.length + 1 + ((groupMembers s).filter fun m => decide (m ≠ s.job.member)).length ∧
      counter t cBarriers = counter s cBarriers + 1 ∧ counter t cGlintOps = counter s cGlintOps + 1)

/-! ## Placement (chapter 12) -/

/-- Placement: a core found failed has its block retired at once where no step runs, else it is noted for the next step boundary
(R104); a replacement that is ready, every summary DONE, puts the image for the fields out of service in force, with homes and
contribution map of its own, and is reported to the lead (R98, R382); where its image is not sound or the copies of the unit map
differ, an on-demand layout is needed (R386); the return to the primary waits for a hold, and there asks for re-placement; a
layout set that its checks pass is put in force, one that they refuse leaves everything as it was (R378). -/
def Obligations.LayoutsAreReplaced : Prop :=
  (∀ (core : CoreRef) s, Ready s → heldOrIdle s = false → s.fabric.outBlocks.contains core.block.val = false →
    ∃ t, exec (.coreFailedRebind core) s = .next t ∧ core.block.val ∈ t.fabric.retireNext ∧
      coreKey core.block.val core.core.val ∈ t.fabric.failedCores ∧ t.fabric.outBlocks = s.fabric.outBlocks ∧
      t.fabric.unitMap = s.fabric.unitMap ∧ Only [.fabric] s t) ∧
  (∀ (core : CoreRef) s, Ready s → heldOrIdle s = true → allDone s = true → s.fabric.retireNext = [] →
    s.fabric.outBlocks.contains core.block.val = false →
    ∃ t, exec (.coreFailedRebind core) s = .next t ∧ core.block.val ∈ t.fabric.outBlocks ∧ t.fabric.retireNext = [] ∧
      coreKey core.block.val core.core.val ∈ t.fabric.failedCores) ∧
  (∀ τ s ix i m, Ready s → allDone s = true → s.place.replacing = true → s.fabric.rebuildPending = false →
    s.fabric.retireNext = [] →
    matching s s.place.set = some (ix, i) → bindProblem s i = none → bindMap s (writeMap i.unitMap []) = some m →
    ∃ t, exec (.replacementReady τ true true) s = .next t ∧
      t.place.inForce = some { i with homes := (t.place.inForce.map (·.homes)).getD []
                                      contrib := (t.place.inForce.map (·.contrib)).getD [] } ∧ t.place.inForceIx = ix ∧
      t.place.replacing = false ∧ t.fabric.unitMap = m ∧ t.fabric.size.mapVersion = (s.fabric.size.mapVersion + 1) % 2 ^ 32 ∧
      Msg.ready s.job.member ∈ t.sent) ∧
  (∀ τ s sound copies, Ready s → allDone s = true → s.place.replacing = true → s.fabric.rebuildPending = false →
    s.fabric.retireNext = [] → s.job.started = true → sound = false ∨ copies = false →
    ∃ t, exec (.replacementReady τ sound copies) s = .next t ∧ t.place.inForce = s.place.inForce ∧ t.place.needLayout = true ∧
      t.place.replacing = false ∧ t.fabric = s.fabric) ∧
  (∀ s, Ready s → s.job.started = true → s.place.degraded = true → allLitInJob s = true → s.job.held = false →
    ∃ t, exec .returnToPrimary s = .next t ∧ t.place = { s.place with returnDue := true } ∧ Only [.place] s t) ∧
  (∀ s, Ready s → s.job.started = true → s.place.degraded = true → allLitInJob s = true → s.job.held = true →
    s.grp.rolling = false → s.place.set ≠ [] →
    ∃ t, exec .returnToPrimary s = .next t ∧ t.place.degraded = false ∧ t.place.returnDue = false ∧
      t.place.replacing = true) ∧
  (∀ τ s o is ix i m, Ready s → s.job.started = false → allDone s = true → s.place.loading = some o →
    (checkSet s o).toOption = some is → matching s is = some (ix, i) → bindProblem s i = none →
    bindMap s (writeMap i.unitMap []) = some m →
    ∃ t, exec (.layoutLoadDone τ true) s = .next (finish isLayoutLoad 0 0 [] t) ∧ t.place.inForce = some i ∧ t.place.set = is ∧
      t.place.loading = none ∧ t.fabric.unitMap = m) ∧
  (∀ τ s o r copies, Ready s → s.job.started = false → allDone s = true → s.place.loading = some o →
    (match checkSet s o with | .error q => some q | .ok _ => none) = some r →
    ∃ t, exec (.layoutLoadDone τ copies) s = .next (finish isLayoutLoad r.status r.detail r.body t) ∧
      t.place = { s.place with loading := none } ∧ Only [.now, .place] s t)

/-! ## The host interface (chapter 13) -/

/-- A reply goes where its command came from (R404 to R406): one datagram to the source, kept for a repetition of its SEQ
(R396), none where QUIET drops a status of 0x0000; the sideband's reply; or the completion ring, whose TAIL moves on by one
entry of 4,096 bytes while the submission ring's count of outstanding commands falls by one. Said of IDENTIFY, whose reply is 64
bytes in an order that is the model's (log entry 60). -/
def Obligations.RepliesReachTheirSender : Prop :=
  (∀ (h : CmdHdr) source s, ModuleLevel h s → h.origin = .datagram source → h.quiet = false →
    ∃ t, exec (.identify h) s = .next t ∧
      t.sent = s.sent ++ [.datagram source (encodeStatus
        { status := 0, detail := 0, seq := h.seq.toNat, length := 64,
          ring := 0xFFFF, event := false, cont := false, final := true, ctx := 0xFF } ++ identifyBody s)] ∧
      (keptFor t source h.seq.toNat).isSome = true ∧ Only [.sent, .host] s t) ∧
  (∀ (h : CmdHdr) source s, ModuleLevel h s → h.origin = .datagram source → h.quiet = true →
    ∃ t, exec (.identify h) s = .next t ∧ t.sent = s.sent ∧ Only [.host] s t) ∧
  (∀ (h : CmdHdr) s, ModuleLevel h s → h.origin = .sideband → h.quiet = false →
    ∃ t, exec (.identify h) s = .next t ∧ t.side.replyReady = true ∧
      t.side.reply = [encodeStatus
        { status := 0, detail := 0, seq := h.seq.toNat, length := 64, ring := 0xFFFF, event := false, cont := false,
          final := true, ctx := 0xFF } ++ identifyBody s] ∧ t.side.mailbox = s.side.mailbox ∧
      Only [.side] s t) ∧
  (∀ (h : CmdHdr) n s, ModuleLevel h s → h.origin = .ring n → h.quiet = false → (ringS s n.val).kind = 1 →
    (ringS s n.val).cq ≠ n.val → (ringS s (ringS s n.val).cq).entryShift = 12 → (ringS s (ringS s n.val).cq).notifyAddr = 0 →
    ∃ t, exec (.identify h) s = .next t ∧
      (ringS t (ringS s n.val).cq).tail = ((ringS s (ringS s n.val).cq).tail + 1) % 65536 ∧
      (ringS t n.val).outstanding = (ringS s n.val).outstanding - 1 ∧ t.sent = s.sent ∧ Only [.mem, .host] s t)

/-- A command datagram: a fragment, or one at a port that takes none, changes nothing but the time (R390, R391); a source that
the allow list does not let in is counted and not answered (R395, a copy of its port is kept); one whose size is not 32 plus
LENGTH is refused (R394), one whose SEQ has a kept reply gets that again (R396). Of the rest, a packet with an opcode that no
table lists is refused with 0x0101, one that recovery mode does not execute with 0x0305 (R410), one with a wrong CTX with 0x0104
(R405), and a job-scope command at a module that is not the job lead with 0x0306 (R409); one that nothing refuses runs as its
row does, said of IDENTIFY, JOB_PAUSE and CONTEXT_CLOSE. The port is noted for the source's replies (R394). -/
def Obligations.DatagramsAreAdmitted : Prop :=
  (∀ τ (port : PortId) source bytes pkt s, portHears s port.val = false →
    exec (.commandDatagram τ port source bytes false pkt) s = .next (atTime τ s)) ∧
  (∀ τ (port : PortId) source bytes pkt s,
    exec (.commandDatagram τ port source bytes true pkt) s = .next (atTime τ s)) ∧
  (∀ τ (port : PortId) (source : BitVec 160) bytes pkt s, executes s = true → portHears s port.val = true →
    allowed s source.toNat = false →
    ∃ t, exec (.commandDatagram τ port source bytes false pkt) s = .next t ∧ counter t cUdpDenied = counter s cUdpDenied + 1 ∧
      Only [.now, .host, .counters] s t) ∧
  (∀ τ (port : PortId) (source : BitVec 160) (bytes : Fin 65536) (pkt : Packet) s, executes s = true →
    portHears s port.val = true → allowed s source.toNat = true →
    bytes.val ≠ 32 + pkt.length.toNat → 8 ≤ bytes.val →
    ∃ t, exec (.commandDatagram τ port source bytes false pkt) s = .next t ∧
      t.sent = s.sent ++ [.datagram source.toNat (encodeStatus
        { status := 0x0105, detail := bytes.val, seq := pkt.seq.toNat, length := 0, ring := 0xFFFF, event := false,
          cont := false, final := true, ctx := pkt.ctx.toNat })] ∧ Only [.now, .sent, .host] s t) ∧
  (∀ τ (port : PortId) (source : BitVec 160) (bytes : Fin 65536) (pkt : Packet) s k, executes s = true →
    portHears s port.val = true → allowed s source.toNat = true →
    bytes.val = 32 + pkt.length.toNat → keptFor (atTime τ s) source.toNat pkt.seq.toNat = some k →
    ∃ t, exec (.commandDatagram τ port source bytes false pkt) s = .next t ∧
      t.sent = s.sent ++ k.reply.map (fun e => .datagram source.toNat e) ∧ Only [.now, .sent, .host] s t) ∧
  (∀ τ (port : PortId) (source : BitVec 160) (bytes : Fin 65536) (pkt : Packet) s, executes s = true →
    portHears s port.val = true → allowed s source.toNat = true →
    bytes.val = 32 + pkt.length.toNat → keptFor (atTime τ s) source.toNat pkt.seq.toNat = none →
    opcodes.contains pkt.opcode.toNat = false →
    exec (.commandDatagram τ port source bytes false pkt) s =
      .next (refuse (headerOf (.datagram source.toNat) pkt) 0x0101 0 (cameThrough port.val source.toNat (atTime τ s)))) ∧
  (∀ τ (port : PortId) (source : BitVec 160) (bytes : Fin 65536) (pkt : Packet) s b, s.boot.state = .recovery →
    portHears s port.val = true →
    allowed s source.toNat = true → bytes.val = 32 + pkt.length.toNat →
    keptFor (atTime τ s) source.toNat pkt.seq.toNat = none → formatRefusal pkt = none → pkt.body = some b →
    inRecovery b = false →
    exec (.commandDatagram τ port source bytes false pkt) s =
      .next (refuse (headerOf (.datagram source.toNat) pkt) 0x0305 0 (cameThrough port.val source.toNat (atTime τ s)))) ∧
  (∀ τ (port : PortId) (source : BitVec 160) (bytes : Fin 65536) (pkt : Packet) s b, Ready s → portHears s port.val = true →
    allowed s source.toNat = true → bytes.val = 32 + pkt.length.toNat →
    keptFor (atTime τ s) source.toNat pkt.seq.toNat = none → formatRefusal pkt = none → pkt.body = some b →
    (scopeOf b = .module ∧ pkt.ctx.toNat ≠ 0xFF) ∨ (scopeOf b ≠ .module ∧ pkt.ctx.toNat ≠ 0xFF ∧
    ctxOpen s pkt.ctx.toNat = false) →
    exec (.commandDatagram τ port source bytes false pkt) s =
      .next (refuse (headerOf (.datagram source.toNat) pkt) 0x0104 pkt.ctx.toNat (cameThrough port.val source.toNat (atTime τ s)))) ∧
  (∀ τ (port : PortId) (source : BitVec 160) (bytes : Fin 65536) (pkt : Packet) s b, Ready s → portHears s port.val = true →
    allowed s source.toNat = true → bytes.val = 32 + pkt.length.toNat →
    keptFor (atTime τ s) source.toNat pkt.seq.toNat = none → formatRefusal pkt = none → pkt.body = some b →
    scopeOf b = .job → pkt.ctx.toNat = 0xFF → isJobLead s = false → s.job.configured = true → s.job.group = 0 →
    s.grp.noLead = false →
    exec (.commandDatagram τ port source bytes false pkt) s =
      .next (refuse (headerOf (.datagram source.toNat) pkt) 0x0306 s.job.leadMember (cameThrough port.val source.toNat (atTime τ s)))) ∧
  (∀ τ (port : PortId) (source : BitVec 160) (bytes : Fin 65536) (pkt : Packet) s b, executes s = true →
    portHears s port.val = true →
    allowed s source.toNat = true → bytes.val = 32 + pkt.length.toNat →
    keptFor (atTime τ s) source.toNat pkt.seq.toNat = none → formatRefusal pkt = none → pkt.body = some b →
    (b = .identify → exec (.commandDatagram τ port source bytes false pkt) s =
      exec (.identify (headerOf (.datagram source.toNat) pkt)) (cameThrough port.val source.toNat (atTime τ s))) ∧
    (b = .jobPause → exec (.commandDatagram τ port source bytes false pkt) s =
      exec (.jobPause (headerOf (.datagram source.toNat) pkt)) (cameThrough port.val source.toNat (atTime τ s))) ∧
    (b = .contextClose → exec (.commandDatagram τ port source bytes false pkt) s =
      exec (.contextClose (headerOf (.datagram source.toNat) pkt)) (cameThrough port.val source.toNat (atTime τ s))))

/-- Hosts at the rings (R392, R393, R401, R402): a bad doorbell is counted and changes nothing, a good one moves TAIL of a
submission ring or HEAD of a completion ring; the scheduler core takes the packet at the HEAD of the ring whose turn it is,
refuses it or runs it (IDENTIFY); a write in its turn through the grant of a RINGS region is placed in SYSTEM and acknowledged,
and a read through any grant is answered with the region's bytes; one whose PSN is ahead is refused as a sequence error, one
that no grant covers as an access error, and a write had already is acknowledged again (log entry 61). -/
def Obligations.HostsReachTheRings : Prop :=
  (∀ (ring : Fin 2048) (value : BitVec 32) s, Ready s → doorbellIsBad s ring.val value.toNat = true →
    ∃ t, exec (.doorbell ring value) s = .next t ∧ counter t cDoorbellBad = counter s cDoorbellBad + 1 ∧
      Only [.counters] s t) ∧
  (∀ (ring : Fin 2048) (value : BitVec 32) s, Ready s → doorbellIsBad s ring.val value.toNat = false →
    (ringS s ring.val).kind = 1 →
    ∃ t, exec (.doorbell ring value) s = .next t ∧ ringS t ring.val = { ringS s ring.val with tail := value.toNat } ∧
      (∀ n, n ≠ ring.val → ringS t n = ringS s n) ∧ Only [.mem, .host] s t) ∧
  (∀ (ring : Fin 2048) (value : BitVec 32) s, Ready s → doorbellIsBad s ring.val value.toNat = false →
    (ringS s ring.val).kind = 2 →
    ∃ t, exec (.doorbell ring value) s = .next t ∧ ringS t ring.val = { ringS s ring.val with head := value.toNat } ∧
      (∀ n, n ≠ ring.val → ringS t n = ringS s n) ∧ Only [.mem, .host] s t) ∧
  (∀ τ s, Ready s → nextRing (atTime τ s) = none → ∃ t, exec (.packetParse τ) s = .next t ∧ Only [.now] s t) ∧
  (∀ τ s n p st d, Ready s → nextRing (atTime τ s) = some n → n < 1024 → entryAt s n (ringS s n).head = p →
    formatRefusal p = some (st, d) →
    ∃ t, exec (.packetParse τ) s = .next (refuse (headerOf (.ring (Fin.ofNat 1024 n)) p) st d t) ∧
      (ringS t n).head = ((ringS s n).head + 1) % 65536 ∧ (ringS t n).outstanding = (ringS s n).outstanding + 1 ∧
      (∀ k, k ≠ n → ringS t k = ringS s k) ∧ Only [.now, .mem, .host] s t) ∧
  (∀ τ s n p, Ready s → nextRing (atTime τ s) = some n → n < 1024 → entryAt s n (ringS s n).head = p →
    formatRefusal p = none → p.body = some .identify → p.ctx = 0xFF#8 →
    ∃ t, exec (.packetParse τ) s = .next (done (headerOf (.ring (Fin.ofNat 1024 n)) p) (identifyBody s) t) ∧
      (ringS t n).head = ((ringS s n).head + 1) % 65536 ∧ Only [.now, .mem, .host] s t) ∧
  (∀ (h : RoceHdr) (data : RdmaData) s m, Ready s → roceHeard s h = true → h.ce = false → h.opcodeOk = true →
    h.psn = (mapGet {} s.host.qps h.qpn).psn → grantOf s h true (dataBytes data) = some m → m.kind = 1 →
    ∃ t, exec (.rdmaWrite h data) s = .next t ∧ t.sent = s.sent ++ [.roceAck h.qpn h.psn] ∧
      t.mem = (systemPut (m.offset + h.offset) data s).mem ∧
      (mapGet {} t.host.qps h.qpn).psn = (h.psn + 1) % 2 ^ 24 ∧ t.host.mrs = s.host.mrs ∧ t.host.rings = s.host.rings ∧
      Only [.now, .sent, .mem, .place, .host] s t) ∧
  (∀ (h : RoceHdr) data s, Ready s → roceHeard s h = true → h.ce = false →
    isDuplicate (mapGet {} s.host.qps h.qpn).psn h.psn = true →
    ∃ t, exec (.rdmaWrite h data) s = .next t ∧ t.sent = s.sent ++ [.roceAck h.qpn h.psn] ∧ Only [.now, .sent] s t) ∧
  (∀ (h : RoceHdr) (data : RdmaData) s, Ready s → roceHeard s h = true → h.ce = false →
    isDuplicate (mapGet {} s.host.qps h.qpn).psn h.psn = false → h.psn ≠ (mapGet {} s.host.qps h.qpn).psn →
    ∃ t, exec (.rdmaWrite h data) s = .next t ∧ t.sent = s.sent ++ [.roceNak h.qpn 0] ∧ Only [.now, .sent] s t) ∧
  (∀ (h : RoceHdr) (data : RdmaData) s, Ready s → roceHeard s h = true → h.ce = false → h.opcodeOk = true →
    h.psn = (mapGet {} s.host.qps h.qpn).psn → grantOf s h true (dataBytes data) = none →
    ∃ t, exec (.rdmaWrite h data) s = .next t ∧ t.sent = s.sent ++ [.roceNak h.qpn 2] ∧ Only [.now, .sent] s t) ∧
  (∀ (h : RoceHdr) (len : BitVec 32) s m, Ready s → roceHeard s h = true → h.ce = false → h.opcodeOk = true →
    h.psn = (mapGet {} s.host.qps h.qpn).psn → grantOf s h false len.toNat = some m →
    ∃ t, exec (.rdmaRead h len) s = .next t ∧
      t.sent = s.sent ++ [.roceData h.qpn (readRegion s m (m.offset + h.offset) len.toNat)] ∧
      (mapGet {} t.host.qps h.qpn).psn =
        (h.psn + max 1 (ceilDiv len.toNat (mapGet {} s.host.qps h.qpn).mtu)) % 2 ^ 24 ∧ Only [.now, .sent, .host] s t)

/-- Ports and clocks (R389 to R391, R397, R398): a port that goes down takes its network with it when it is the last of the
four, which is one event; a port that comes up brings the network back; an address of a port that is up is answered for. An IEEE
1588 message sets its network's instance, and the better-ranking of two locked grandmasters is followed; a lost instance is left
for the other where that one is locked. -/
def Obligations.PortsAndClocksFollow : Prop :=
  (∀ (port : PortId) s, Ready s → networkDown (setPort port.val { portS s port.val with down := true } s) (port.val / 4) = true →
    s.host.netLost.contains (port.val / 4) = false →
    ∃ t, exec (.portDown port) s = .next t ∧ (portS t port.val).down = true ∧ port.val / 4 ∈ t.host.netLost ∧
      t.host.eventNumber = s.host.eventNumber + 1) ∧
  (∀ (port : PortId) s, Ready s →
    networkDown (setPort port.val { portS s port.val with down := true } s) (port.val / 4) = false →
    ∃ t, exec (.portDown port) s = .next t ∧ portS t port.val = { portS s port.val with down := true } ∧
      (∀ p, p ≠ port.val → portS t p = portS s p) ∧ t.host.netLost = s.host.netLost ∧ Only [.host] s t) ∧
  (∀ (port : PortId) s, Ready s →
    ∃ t, exec (.portUp port) s = .next t ∧ portS t port.val = { portS s port.val with down := false } ∧
      port.val / 4 ∉ t.host.netLost ∧ Only [.host] s t) ∧
  (∀ (port : PortId) (target : BitVec 128) (echo : BitVec 64) s, executes s = true →
    exec (.arpNdIcmpRequest port target echo) s =
      .next (if answersFor s port.val target.toNat = true then emit (.answer port.val (portMac s port.val) echo.toNat) s else s)) ∧
  (∀ τ (port : PortId) offset rank s, Ready s → port.val < 4 → s.host.ptpB.locked = true → rank < s.host.ptpB.rank →
    ∃ t, exec (.ptpEventMessage τ port offset true rank) s = .next t ∧
      t.host.ptpA = { locked := true, rank := rank, offset := offset } ∧ t.host.ptpB = s.host.ptpB ∧
      t.host.followB = false ∧ Only [.now, .host] s t) ∧
  (∀ τ (port : PortId) offset rank s, Ready s → 4 ≤ port.val → s.host.ptpA.locked = true → rank < s.host.ptpA.rank →
    ∃ t, exec (.ptpEventMessage τ port offset true rank) s = .next t ∧
      t.host.ptpB = { locked := true, rank := rank, offset := offset } ∧ t.host.ptpA = s.host.ptpA ∧
      t.host.followB = true ∧ Only [.now, .host] s t) ∧
  (∀ s, Ready s → s.host.followB = false → s.host.ptpB.locked = true →
    ∃ t, exec .ptpInstanceChange s = .next t ∧ t.host.followB = true ∧ t.host.ptpA.locked = false ∧
      t.host.ptpB = s.host.ptpB ∧ Only [.host] s t)

/-- Identity and management (Table 13.8): IDENTIFY and SIZE_TABLE reply with what they name; SET_NET stores a port's settings;
RING_CREATE makes a ring that is empty, RING_DESTROY of an idle ring removes it; regions and queue pairs are granted under a key
or number not in use before, and revoked or destroyed by it. Every effect comes with a reply of status 0x0000, and a parameter
out of its range is refused with 0x0201 and has no effect. Where SYSTEM places a ring, and which keys and numbers are given, is
the model's choice (log entries 62, 63). -/
def Obligations.ModuleCommandsComplete : Prop :=
  (∀ (h : CmdHdr) s, ModuleLevel h s → exec (.identify h) s = .next (done h (identifyBody s) s)) ∧
  (∀ (h : CmdHdr) s, ModuleLevel h s → exec (.sizeTable h) s = .next (done h (sizeBody s) s)) ∧
  (∀ (h : CmdHdr) (p : NetSettings) s, ModuleLevel h s → (netChecks p).all (·.2) = true →
    ∃ t, exec (.setNet h p) s = .next (storeNet p (done h [] s)) ∧ t = storeNet p (done h [] s) ∧
      (portS t p.port).ipv4 = p.ipv4 ∧ (portS t p.port).mtu = p.mtu ∧ (portS t p.port).down = (portS s p.port).down ∧
      t.host.allow = p.allow ∧ t.flash.allow = p.allow) ∧
  (∀ (h : CmdHdr) (p : NetSettings) s, ModuleLevel h s → 8 ≤ p.port →
    exec (.setNet h p) s = .next (refuse h 0x0201 (Config.paramOffset 0x0103 0) s)) ∧
  (∀ (h : CmdHdr) (p : RingParams) s base, ModuleLevel h s → (ringChecks s p).all (·.2) = true →
    placeRing s (2 ^ (p.order + p.entryShift)) = some base →
    ∃ t, exec (.ringCreate h p) s = .next (done h [] t) ∧ (ringS t p.ring).kind = p.kind ∧ (ringS t p.ring).base = base ∧
      (ringS t p.ring).head = 0 ∧ (ringS t p.ring).tail = 0 ∧ (∀ n, n ≠ p.ring → ringS t n = ringS s n) ∧
      Only [.mem, .host] s t) ∧
  (∀ (h : CmdHdr) (p : RingParams) s, ModuleLevel h s → (ringChecks s p).all (·.2) = true →
    placeRing s (2 ^ (p.order + p.entryShift)) = none → exec (.ringCreate h p) s = .next (refuse h 0x0401 5 s)) ∧
  (∀ (h : CmdHdr) (n : BitVec 16) source s, ModuleLevel h s → h.origin = .datagram source → ringExists s n.toNat = true →
    (ringS s n.toNat).head = (ringS s n.toNat).tail → usedAsCq s n.toNat = false →
    ∃ t, exec (.ringDestroy h n) s = .next t ∧ ringExists t n.toNat = false ∧ (∀ k, k ≠ n.toNat → ringS t k = ringS s k) ∧
      Only [.sent, .mem, .host] s t) ∧
  (∀ (h : CmdHdr) (p : MrParams) s, ModuleLevel h s → (mrChecks s p).all (·.2) = true →
    ∃ t, exec (.mrRegister h p) s = .next (done h (bytesLE 4 (freshKey (s.host.mrs.map (·.rkey)) 32 s).1) t) ∧
      t.host.mrs = s.host.mrs ++ [
        { rkey := (freshKey (s.host.mrs.map (·.rkey)) 32 s).1, kind := p.kind, ctx := p.ctx,
          read := p.read, write := p.write, offset := p.offset, length := p.length, exposed := false }] ∧
      Only [.freeCtr, .host] s t) ∧
  (∀ (h : CmdHdr) (rkey : BitVec 32) s, ModuleLevel h s → (s.host.mrs.any fun m => decide (m.rkey = rkey.toNat)) = true →
    ∃ t, exec (.mrRevoke h rkey) s = .next (done h [] t) ∧
      t.host.mrs = s.host.mrs.filter (fun m => decide (m.rkey ≠ rkey.toNat)) ∧ Only [.host] s t) ∧
  (∀ (h : CmdHdr) (p : QpParams) s, ModuleLevel h s → (qpChecks p).all (·.2) = true → s.host.qps.length < 2048 →
    ∃ t, exec (.qpCreate h p) s = .next (done h (bytesLE 4 (freshKey (s.host.qps.map (·.1)) 24 s).1 ++
        bytesLE 4 (mapGet {} t.host.qps (freshKey (s.host.qps.map (·.1)) 24 s).1).modulePsn) t) ∧
      (mapGet {} t.host.qps (freshKey (s.host.qps.map (·.1)) 24 s).1).open_ = true ∧
      (mapGet {} t.host.qps (freshKey (s.host.qps.map (·.1)) 24 s).1).psn = p.psn % 2 ^ 24 ∧ Only [.freeCtr, .host] s t) ∧
  (∀ (h : CmdHdr) (p : QpParams) s, ModuleLevel h s → (qpChecks p).all (·.2) = true → 2048 ≤ s.host.qps.length →
    exec (.qpCreate h p) s = .next (refuse h 0x0401 5 s)) ∧
  (∀ (h : CmdHdr) (qpn : BitVec 24) s, ModuleLevel h s → (mapGet {} s.host.qps qpn.toNat).open_ = true →
    ∃ t, exec (.qpDestroy h qpn) s = .next (done h [] t) ∧ (mapGet {} t.host.qps qpn.toNat).open_ = false ∧
      (∀ n, n ≠ qpn.toNat → mapGet {} t.host.qps n = mapGet {} s.host.qps n) ∧ Only [.host] s t)

/-- Commands of the job (Table 13.9): JOB_CONFIGURE takes the values it names while no job runs, where the straps of the lead
and standby lead that it names allow it; JOB_START begins a job of no committed step, generation 0 and every member ACTIVE, and
passes the command on; JOB_PAUSE asks for the pause, JOB_RESUME releases a pause's hold and is refused in the hold of a lost
lead, JOB_END stops the stream and closes every context; NAME_LEAD, where the lead is lost, gives the roles named and leaves
that hold (R412). The FINAL reply of a deferred command is owed when it has been accepted, behind 0x0001 (R406). -/
def Obligations.JobCommandsComplete : Prop :=
  (∀ (h : CmdHdr) (p : JobParams) s, ModuleLevel h s → s.job.started = false → (jobChecks p).all (·.2) = true →
    strapIn p.member p.straps p.lead s = true → (1 < p.members → strapIn p.member p.straps p.standby s = true) →
    ∃ t, exec (.jobConfigure h p) s = .next (done h [] t) ∧ t.job.configured = true ∧ t.job.tag = p.jobTag ∧
      t.job.group = p.group ∧ t.job.member = p.member ∧ t.job.groups = p.groups ∧ t.job.members = p.members ∧
      t.job.leadMember = p.lead ∧ t.job.role = roleIn p.member p.lead p.standby ∧ t.tick.period = p.period ∧
      t.tick.grace = p.grace ∧ t.stream.windowGib = p.windowGib ∧ t.mem.systemGib = p.systemGib ∧ t.mem.kvGib = p.kvGib ∧
      t.beam.lateTicks = p.lateTicks ∧ t.mem.bytes = s.mem.bytes ∧ Only [.tick, .job, .grp, .stream, .mem, .red, .beam] s t) ∧
  (∀ (h : CmdHdr) (p : JobParams) s, ModuleLevel h s → s.job.started = false → (jobChecks p).all (·.2) = true →
    strapIn p.member p.straps p.lead s = false →
    exec (.jobConfigure h p) s = .next (refuse h 0x0503 p.lead s)) ∧
  (∀ (h : CmdHdr) (p : JobParams) s, ModuleLevel h s → s.job.started = false → (jobChecks p).all (·.2) = true →
    strapIn p.member p.straps p.lead s = true → 1 < p.members → strapIn p.member p.straps p.standby s = false →
    exec (.jobConfigure h p) s = .next (refuse h 0x0503 p.standby s)) ∧
  (∀ (h : CmdHdr) p s, ModuleLevel h s → s.job.started = true →
    exec (.jobConfigure h p) s = .next (refuse h 0x0302 0 s)) ∧
  (∀ (h : CmdHdr) facts s, ModuleLevel h s → isJobLead s = true → s.job.started = false →
    startRefusal facts (reply h 1 0 [] false s) = none →
    ∃ t, exec (.jobStart h facts) s = .next t ∧ t.job.started = true ∧ t.job.holds = [] ∧ t.red.committed = 0 ∧
      t.red.roll = 0 ∧ t.grp.mask = 2 ^ s.job.members - 1 ∧ t.stream.epochA = 0 ∧ t.stream.pending = some s.job.initialEpoch ∧
      Msg.distribute h (.jobStart facts) ∈ t.sent ∧ { hdr := h, body := .jobStart facts } ∈ t.host.deferred) ∧
  (∀ (h : CmdHdr) facts s r, ModuleLevel h s → isJobLead s = true → s.job.started = false →
    startRefusal facts (reply h 1 0 [] false s) = some r →
    exec (.jobStart h facts) s = .next (refuse h r.1 r.2 (reply h 1 0 [] false s))) ∧
  (∀ (h : CmdHdr) s, JobLevel h s → s.job.hostPause = false → s.job.holds.contains 1 = false →
    ∃ t, exec (.jobPause h) s = .next t ∧ t.job.hostPause = true ∧ 1 ∈ t.job.pauseFor ∧ t.job.holds = s.job.holds ∧
      Msg.distribute h .jobPause ∈ t.sent ∧ { hdr := h, body := .jobPause } ∈ t.host.deferred ∧
      Only [.sent, .side, .job, .mem, .host] s t) ∧
  (∀ (h : CmdHdr) s, JobLevel h s → s.job.hostPause = true →
    exec (.jobPause h) s = .next (refuse h 0x0002 0 (reply h 1 0 [] false s))) ∧
  (∀ (h : CmdHdr) s, JobLevel h s → s.job.holds = [1] → s.job.haltPause = false →
    ∃ t, exec (.jobResume h) s = .next t ∧ t.job.holds = [] ∧ t.job.hostPause = false ∧
      Msg.distribute h .jobResume ∈ t.sent ∧ { hdr := h, body := .jobResume } ∈ t.host.deferred ∧
      Only [.sent, .side, .job, .mem, .host] s t) ∧
  (∀ (h : CmdHdr) s, JobLevel h s → s.job.holds = [4] →
    exec (.jobResume h) s = .next (refuse h 0x0303 4 (reply h 1 0 [] false s))) ∧
  (∀ (h : CmdHdr) s, JobLevel h s →
    ∃ t, exec (.jobEnd h) s = .next t ∧ t.job.ending = true ∧ t.stream.stop = true ∧
      (∀ n, n < 64 → (ctxOf t n).kind = none) ∧ Msg.distribute h .jobEnd ∈ t.sent ∧
      { hdr := h, body := .jobEnd } ∈ t.host.deferred ∧ Only [.sent, .side, .job, .stream, .mem, .host] s t) ∧
  (∀ (h : CmdHdr) (lead standby : BitVec 8) (straps : BitVec 64) s, ModuleLevel h s → s.job.started = true →
    s.job.holds.contains 4 = true → (nameChecks s lead.toNat standby.toNat).all (·.2) = true →
    strapOf s straps.toNat lead.toNat = true → (standby.toNat ≠ 0xFF → strapOf s straps.toNat standby.toNat = true) →
    ∃ t, exec (.nameLead h lead standby straps) s = .next t ∧ t.job.leadMember = lead.toNat ∧ 4 ∉ t.job.holds ∧
      t.job.standbyMember = (if standby.toNat = 0xFF then none else some standby.toNat) ∧
      t.job.role = roleIn s.job.member lead.toNat standby.toNat ∧ t.job.held = true ∧ t.grp.noLead = false ∧
      Msg.roles lead.toNat t.job.standbyMember ∈ t.sent ∧
      { hdr := h, body := .nameLead lead.toNat standby.toNat straps.toNat } ∈ t.host.deferred) ∧
  (∀ (h : CmdHdr) (lead standby : BitVec 8) (straps : BitVec 64) s, ModuleLevel h s → s.job.holds.contains 4 = false →
    exec (.nameLead h lead standby straps) s = .next (refuse h 0x0303 (s.job.holds.headD 0) (reply h 1 0 [] false s)))

/-- Commands of contexts, requests and epochs (Tables 13.9 and 13.10): CONTEXT_OPEN makes the context it names, CONTEXT_CLOSE
leaves it empty; SET_RULE waits for the step boundary in a running job and is passed on; BATCH_READY notes a step's input; a
REQUEST waits where no epoch is open, is admitted under the tick's epoch with KV pages of its own (which ones, log entry 128),
or is refused where MAX_REQUESTS are reached; CANCEL marks a request for the next pass boundary; EPOCH_SWITCH makes its epoch
the pending one and EPOCH_WITHDRAW ends the open one, both at the job lead and passed on; STREAM_LIMITS sets the two limits in a
hold; STREAM_STATUS reads the stream's counters. -/
def Obligations.ContextCommandsComplete : Prop :=
  (∀ (h : CmdHdr) (p : CtxParams) s, ModuleLevel h s → s.job.configured = true → (contextChecks s p).all (·.2) = true →
    p.kind ≠ .serve ∨ kvPageBytes s (newContext p) = 0 ∨ freePages s (newContext p) ≠ 0 →
    ∃ t, exec (.contextOpen h p) s = .next (done h [] t) ∧ ctxOf t p.ctx = newContext p ∧
      (∀ n, n ≠ p.ctx → ctxOf t n = ctxOf s n) ∧ Only [.host] s t) ∧
  (∀ (h : CmdHdr) p s, ModuleLevel h s → s.job.configured = false →
    exec (.contextOpen h p) s = .next (refuse h 0x0304 0 s)) ∧
  (∀ (h : CmdHdr) s, ContextLevel h s →
    ∃ t, exec (.contextClose h) s = .next (done h [] t) ∧ ctxOf t h.ctx.toNat = {} ∧
      (∀ n, n ≠ h.ctx.toNat → ctxOf t n = ctxOf s n) ∧ Only [.sent, .side, .mem, .host] s t) ∧
  (∀ (h : CmdHdr) (tensor : BitVec 32) f (value : BitVec 32) s, JobLevel h s → s.job.configured = true →
    (ruleChecks s tensor.toNat f value.toNat).all (·.2) = true →
    ∃ t, exec (.setRule h tensor f value) s = .next (done h [] t) ∧
      t.host.ruleWrites = s.host.ruleWrites ++ [(tensor.toNat, f, value.toNat)] ∧
      t.sent = s.sent ++ [.distribute h (.setRule tensor.toNat f value.toNat)] ∧ t.red = s.red ∧ Only [.sent, .host] s t) ∧
  (∀ (h : CmdHdr) (tensor value : BitVec 32) s, ModuleLevel h s → isJobLead s = true → s.job.started = false →
    s.job.configured = true → knowsTensor s tensor.toNat = true →
    ∃ t, exec (.setRule h tensor .gscale value) s = .next (done h [] t) ∧ t.red = { s.red with gscale := value.toNat } ∧
      Only [.sent, .red] s t) ∧
  (∀ (h : CmdHdr) (step : BitVec 40) (bytes : BitVec 64) s, ContextLevel h s →
    (ctxOf s h.ctx.toNat).kind = some .train → step.toNat = batchStep s → 0 < bytes.toNat →
    bytes.toNat ≤ (ctxOf s h.ctx.toNat).inputMib * 2 ^ 20 →
    ∃ t, exec (.batchReady h step bytes) s = .next (done h [] t) ∧
      ctxOf t h.ctx.toNat = { ctxOf s h.ctx.toNat with ready := some step.toNat, readyBytes := bytes.toNat } ∧
      Only [.host] s t) ∧
  (∀ (h : CmdHdr) (step : BitVec 40) (bytes : BitVec 64) s, ContextLevel h s →
    (ctxOf s h.ctx.toNat).kind = some .eval → 0 < bytes.toNat → bytes.toNat ≤ (ctxOf s h.ctx.toNat).inputMib * 2 ^ 20 →
    ∃ t, exec (.batchReady h step bytes) s = .next t ∧ (ctxOf t h.ctx.toNat).ready = some step.toNat ∧
      { hdr := h, body := .batchReady step.toNat bytes.toNat } ∈ t.host.deferred) ∧
  (∀ (h : CmdHdr) (p : RequestParams) s, ContextLevel h s → (ctxOf s h.ctx.toNat).kind = some .serve →
    kvPageBytes s (ctxOf s h.ctx.toNat) ≠ 0 → (requestChecks (ctxOf s h.ctx.toNat) p).all (·.2) = true → s.tick.epoch = 0 →
    ∃ t, exec (.request h p) s = .next t ∧
      (ctxOf t h.ctx.toNat).requests.length = (ctxOf s h.ctx.toNat).requests.length + 1 ∧
      (ctxOf t h.ctx.toNat).requests.getLast?.map (fun r => (r.hdr, r.epoch, r.promptLen, r.newLen)) =
        some (h, none, p.promptLen, p.newLen) ∧ Only [.host] s t) ∧
  (∀ (h : CmdHdr) (p : RequestParams) s, ContextLevel h s → (ctxOf s h.ctx.toNat).kind = some .serve →
    kvPageBytes s (ctxOf s h.ctx.toNat) ≠ 0 → (requestChecks (ctxOf s h.ctx.toNat) p).all (·.2) = true → s.tick.epoch ≠ 0 →
    (ctxOf s h.ctx.toNat).maxRequests ≤ nextCount s (ctxOf s h.ctx.toNat) →
    exec (.request h p) s = .next (refuse h 0x0401 1 s)) ∧
  (∀ (h : CmdHdr) (p : RequestParams) s, ContextLevel h s → (ctxOf s h.ctx.toNat).kind = some .serve →
    kvPageBytes s (ctxOf s h.ctx.toNat) ≠ 0 → (requestChecks (ctxOf s h.ctx.toNat) p).all (·.2) = true → s.tick.epoch ≠ 0 →
    nextCount s (ctxOf s h.ctx.toNat) < (ctxOf s h.ctx.toNat).maxRequests →
    nextTokens s (ctxOf s h.ctx.toNat) + p.promptLen ≤ (ctxOf s h.ctx.toNat).passTokens →
    pagesFor (ctxOf s h.ctx.toNat) p.promptLen p.newLen ≤ freePages s (ctxOf s h.ctx.toNat) →
    ∃ t, exec (.request h p) s = .next t ∧
      (ctxOf t h.ctx.toNat).requests.length = (ctxOf s h.ctx.toNat).requests.length + 1 ∧
      (ctxOf t h.ctx.toNat).requests.getLast?.map (fun r => (r.hdr, r.epoch, r.promptLen, r.newLen)) =
        some (h, some s.tick.epoch, p.promptLen, p.newLen) ∧
      (ctxOf t h.ctx.toNat).requests.getLast?.map (·.held) =
        some (pickPages s (ctxOf s h.ctx.toNat) (pagesFor (ctxOf s h.ctx.toNat) p.promptLen p.newLen)) ∧ Only [.host] s t) ∧
  (∀ (h : CmdHdr) (seq : BitVec 32) s, ContextLevel h s → (ctxOf s h.ctx.toNat).kind = some .serve →
    (ctxOf s h.ctx.toNat).requests.any (cancellable s seq) = true → s.job.started = true →
    ∃ t, exec (.cancel h seq) s = .next (done h [] t) ∧
      (ctxOf t h.ctx.toNat).requests = (ctxOf s h.ctx.toNat).requests.map
        (fun r => if cancellable s seq r = true then { r with cancelled := true } else r) ∧ Only [.host] s t) ∧
  (∀ (h : CmdHdr) (seq : BitVec 32) s, ContextLevel h s → (ctxOf s h.ctx.toNat).kind = some .serve →
    (ctxOf s h.ctx.toNat).requests.any (cancellable s seq) = false →
    exec (.cancel h seq) s = .next (refuse h 0x0002 0 s)) ∧
  (∀ (h : CmdHdr) (epoch : BitVec 16) s, JobLevel h s → s.stream.dual = false → epoch.toNat ≠ 0 →
    ∃ t, exec (.epochSwitch h epoch) s = .next t ∧ t.stream = { s.stream with pending := some epoch.toNat } ∧
      Msg.distribute h (.epochSwitch epoch.toNat) ∈ t.sent ∧
      { hdr := h, body := .epochSwitch epoch.toNat } ∈ t.host.deferred) ∧
  (∀ (h : CmdHdr) s, JobLevel h s → s.stream.epochA ≠ 0 →
    ∃ t, exec (.epochWithdraw h) s = .next t ∧ t.stream = { s.stream with withdraw := true } ∧
      Msg.distribute h .epochWithdraw ∈ t.sent ∧ { hdr := h, body := .epochWithdraw } ∈ t.host.deferred) ∧
  (∀ (h : CmdHdr) (dual rep : BitVec 8) s, JobLevel h s → s.job.held = true → 1 ≤ dual.toNat → dual.toNat ≤ 64 →
    1 ≤ rep.toNat →
    ∃ t, exec (.streamLimits h dual rep) s = .next (done h [] t) ∧
      t.stream = { s.stream with dualLimit := dual.toNat, repeatLimit := rep.toNat } ∧ Only [.sent, .stream] s t) ∧
  (∀ (h : CmdHdr) s, ModuleLevel h s →
    exec (.streamStatus h) s = .next (done h (((rangeFrom 194 202).flatMap fun k => bytesLE 8 (counter s k)) ++
      bytesLE 8 s.stream.oldest ++ bytesLE 8 (creditLimit s) ++ bytesLE 8 s.stream.activeLanes) s))

/-- Commands of layouts and owners (Table 13.11) and the self-test: LAYOUT_LOAD begins a load whose end is a command of its own;
LAYOUT_QUERY names the layout in force; OWNER_LOADED makes bank A the current one and lets a job start; OWNER_EXPOSE grants
reads of the owner state in a hold; SELF_TEST is owed while no work runs, and its end, with no work on the module, stores the
defect map formed of its findings and answers. The exponents of blocks as loaded are free values (log entry 64). -/
def Obligations.LayoutCommandsComplete : Prop :=
  (∀ (h : CmdHdr) (offset length : BitVec 64) s, ModuleLevel h s → s.place.replacing = false → s.place.loading = none →
    heldOrIdle s = true →
    ∃ t, exec (.layoutLoad h offset length) s = .next t ∧ t.place = { s.place with loading := some offset.toNat } ∧
      { hdr := h, body := .layoutLoad offset.toNat length.toNat } ∈ t.host.deferred ∧
      Only [.sent, .side, .mem, .place, .host] s t) ∧
  (∀ (h : CmdHdr) (offset length : BitVec 64) s, ModuleLevel h s → s.place.replacing = false → s.place.loading.isSome = true →
    exec (.layoutLoad h offset length) s = .next (refuse h 0x0301 0x0401 (reply h 1 0 [] false s))) ∧
  (∀ (h : CmdHdr) s i, ModuleLevel h s → s.place.inForce = some i →
    exec (.layoutQuery h) s = .next (done h (bytesLE 8 i.layoutId ++ bytesLE 1 i.kind ++ bytesLE 1 i.field ++
      bytesLE 2 (b2n (s.place.degraded || i.primary.isNone)) ++ bytesLE 4 s.fabric.size.mapVersion) s)) ∧
  (∀ (h : CmdHdr) s, ModuleLevel h s → s.place.inForce = none →
    exec (.layoutQuery h) s = .next (refuse h 0x0505 3 s)) ∧
  (∀ (h : CmdHdr) s, ModuleLevel h s → s.job.started = false → s.place.inForce.isSome = true →
    ∃ t, exec (.ownerLoaded h) s = .next (done h [] t) ∧ t.mem = { s.mem with ownerCur := false } ∧
      t.job = { s.job with ownersLoaded := true } ∧ (∀ b, b ∈ ownedBlocks s → (blockS t b).state = .idle) ∧
      Only [.freeCtr, .job, .mem, .red] s t) ∧
  (∀ (h : CmdHdr) s, ModuleLevel h s → s.job.started = true → exec (.ownerLoaded h) s = .next (refuse h 0x0302 0 s)) ∧
  (∀ (h : CmdHdr) s, ModuleLevel h s → s.job.held = true →
    ∃ t, exec (.ownerExpose h) s = .next (done h (bytesLE 4 (freshKey (s.host.mrs.map (·.rkey)) 32 s).1) t) ∧
      t.host.mrs.length = s.host.mrs.length + 1 ∧
      t.host.mrs.getLast?.map (fun m => (m.kind, m.read, m.write, m.exposed)) = some (3, true, false, true) ∧
      Only [.freeCtr, .host] s t) ∧
  (∀ (h : CmdHdr) quick s, ModuleLevel h s → anyWork s = false →
    ∃ t, exec (.selfTest h quick) s = .next t ∧ { hdr := h, body := .selfTest quick } ∈ t.host.deferred ∧
      t.flash = s.flash ∧ Only [.sent, .side, .mem, .host] s t) ∧
  (∀ τ (result : TestResult) s d, Ready s → (s.host.deferred.find? fun d => (isSelfTest d).isSome) = some d →
    d.body = .selfTest false → s.grp.drainHold = false → anyWork s = false →
    ∃ t, exec (.selfTestDone τ result) s = .next (reply d.hdr 0 0 (bytesLE 8 t.fabric.size.defectAge) true t) ∧
      t.flash.defectMap = moduleDefects (coreVerdicts s result) .full result (atTime τ s) ∧
      t.flash.defectMap.quick = false ∧ t.flash.defectQuick = false ∧ t.fabric.failedCores = t.flash.defectMap.cores ∧
      t.fabric.failedRouters = t.flash.defectMap.routers ∧ t.fabric.failedWires = t.flash.defectMap.wires ∧
      t.host.deferred = s.host.deferred.erase d)

/-- Commands of power, faults and fields (Tables 13.12 and 13.13): the caps, the ramp, the safe cap and the glow floor take
values in range and refuse others with 0x0201; a hard cap below DRAW_MIN takes every lit field to S = 4 (R455); HEARTBEAT arms
the timer; POWER_STATUS and FAULT_READ reply with what they name, and FAULT_CLEAR clears the VALID bits of its mask (R551);
ROLLBACK and EXCLUDE request a rollback of cause 12; SHADOW_SET names the member to shadow; FIELD_RETURN begins the return of a
dark field whose protection has been reset, which ends lit where a lit neighbour holds the map (R99), and else dark with 0x0F01
(R108, R387; the status, log entry 108). -/
def Obligations.PowerAndFaultCommandsComplete : Prop :=
  (∀ (h : CmdHdr) (watts : BitVec 16) s, ModuleLevel h s → 2400 ≤ watts.toNat → watts.toNat ≤ 24000 →
    ∃ t, exec (.capSet h watts false) s = .next (done h [] t) ∧ t.power.capSoft = watts.toNat ∧
      t.power.capHard = s.power.capHard ∧ Only [.sent, .side, .power, .mem, .host] s t) ∧
  (∀ (h : CmdHdr) (watts : BitVec 16) s, ModuleLevel h s → 2400 ≤ watts.toNat → watts.toNat ≤ 24000 →
    s.power.drawMin ≤ watts.toNat → s.power.inputW ≤ watts.toNat →
    ∃ t, exec (.capSet h watts true) s = .next (done h [] t) ∧ t.power.capHard = watts.toNat ∧
      t.power.ceilingMw = min s.power.ceilingMw (1000 * watts.toNat) ∧ Only [.power] s t) ∧
  (∀ (h : CmdHdr) (watts : BitVec 16) s, ModuleLevel h s → 2400 ≤ watts.toNat → watts.toNat ≤ 24000 →
    watts.toNat < s.power.drawMin →
    ∃ t, exec (.capSet h watts true) s = .next (done h [] t) ∧ t.power.capHard = watts.toNat ∧
      (∀ f, f < 84 → isLit s f = true → (fieldPower t f).sCap = 4 ∧ (fieldPower t f).glow = 0) ∧
      s.host.eventNumber < t.host.eventNumber) ∧
  (∀ (h : CmdHdr) (watts : BitVec 16) hard s, ModuleLevel h s → watts.toNat < 2400 ∨ 24000 < watts.toNat →
    exec (.capSet h watts hard) s = .next (refuse h 0x0201 (Config.paramOffset 0x0501 0) s)) ∧
  (∀ (h : CmdHdr) (rate : BitVec 16) s, ModuleLevel h s → 50 ≤ rate.toNat → rate.toNat ≤ 4800 →
    ∃ t, exec (.rampSet h rate) s = .next (done h [] t) ∧
      t.power = (if s.job.started then { s.power with rampNext := some rate.toNat } else { s.power with ramp := rate.toNat }) ∧
      Only [.power] s t) ∧
  (∀ (h : CmdHdr) (id : BitVec 32) s, ModuleLevel h s →
    ∃ t, exec (.heartbeat h id) s = .next (done h [] t) ∧
      t.power = { s.power with hbArmed := true, hbId := id.toNat, hbAt := s.now, hbLost := false } ∧
      (s.power.hbLost = false → Only [.power] s t)) ∧
  (∀ (h : CmdHdr) (percent : BitVec 8) s, ModuleLevel h s → 10 ≤ percent.toNat → percent.toNat ≤ 100 →
    ∃ t, exec (.safeCapSet h percent) s = .next (done h [] t) ∧ t.power = { s.power with safeCap := percent.toNat } ∧
      Only [.power] s t) ∧
  (∀ (h : CmdHdr) (percent : BitVec 8) s, ModuleLevel h s → percent.toNat ≤ 60 →
    ∃ t, exec (.glowFloorSet h percent) s = .next (done h [] t) ∧ t.power = { s.power with glowFloor := percent.toNat } ∧
      Only [.power] s t) ∧
  (∀ (h : CmdHdr) s, ModuleLevel h s → exec (.powerStatus h) s = .next (done h (powerBody s) s) ∧ (powerBody s).length = 188) ∧
  (∀ (h : CmdHdr) (first count : BitVec 16) s, ModuleLevel h s → first.toNat < 256 → 1 ≤ count.toNat → count.toNat ≤ 63 →
    exec (.faultRead h first count) s = .next (done h ((List.range count.toNat).flatMap fun i =>
      bytesLE 64 (encodeFault (mapGet {} s.fault.records ((first.toNat + i) % 256)))) s)) ∧
  (∀ (h : CmdHdr) (mask : BitVec 256) s, ModuleLevel h s →
    ∃ t, exec (.faultClear h mask) s = .next (done h [] t) ∧
      (∀ i, i < 256 → mapGet {} t.fault.records i = { mapGet {} s.fault.records i with
        valid := (mapGet {} s.fault.records i).valid && !bitAt mask.toNat i }) ∧ t.fault.head = s.fault.head ∧
      Only [.fault] s t) ∧
  (∀ (h : CmdHdr) s, JobLevel h s →
    ∃ t, exec (.rollback h) s = .next t ∧ ({ cause := 12, source := selfIndex s }, s.now) ∈ t.grp.requests ∧
      { hdr := h, body := .rollback } ∈ t.host.deferred ∧ Only [.sent, .side, .grp, .mem, .host] s t) ∧
  (∀ (h : CmdHdr) (index : BitVec 16) s, JobLevel h s → (jobModules s).contains index.toNat = true →
    (memberS s index.toNat).state = .active →
    ∃ t, exec (.exclude h index) s = .next t ∧ (memberS t index.toNat).state = .excluded ∧
      ({ cause := 12, source := selfIndex s }, s.now) ∈ t.grp.requests ∧
      { hdr := h, body := .exclude index.toNat } ∈ t.host.deferred) ∧
  (∀ (h : CmdHdr) (member : BitVec 8) s, ModuleLevel h s → s.job.started = false → s.job.groups ≤ 1 →
    member.toNat < s.job.members → member.toNat ≠ s.job.member →
    ∃ t, exec (.shadowSet h member) s = .next (done h [] t) ∧ t.grp = { s.grp with shadowed := some member.toNat } ∧
      Only [.grp] s t) ∧
  (∀ (h : CmdHdr) (f : BitVec 8) s, ModuleLevel h s → heldOrIdle s = true → f.toNat < 84 → isDark s f.toNat = true →
    protectionReset s f.toNat = true →
    ∃ t, exec (.fieldReturn h f) s = .next t ∧ (fieldS t f.toNat).returning = true ∧ isDark t f.toNat = true ∧
      { hdr := h, body := .fieldReturn f.toNat } ∈ t.host.deferred ∧ Only [.sent, .side, .fabric, .mem, .host] s t) ∧
  (∀ (h : CmdHdr) (f : BitVec 8) s, ModuleLevel h s → heldOrIdle s = true → f.toNat < 84 → isLit s f.toNat = true →
    exec (.fieldReturn h f) s = .next (refuse h 0x0002 0 (reply h 1 0 [] false s))) ∧
  (∀ (f : FieldId) s, Ready s → (fieldS s f.val).returning = true → mapToCopy s f.val = true →
    ∃ t, exec (.fieldReturnComplete f true) s = .next (finish (isFieldReturn f.val) 0 0 [] t) ∧ isLit t f.val = true ∧
      (isLit s f.val = false → (fieldS t f.val).returning = false) ∧ t.fabric.rebuildPending = true ∧
      (fieldPower t f.val).heatDark = false) ∧
  (∀ (f : FieldId) ok s, Ready s → (fieldS s f.val).returning = true → ok = false ∨ mapToCopy s f.val = false →
    ∃ t, exec (.fieldReturnComplete f ok) s = .next (finish (isFieldReturn f.val) 0x0F01 4 [] t) ∧
      fieldS t f.val = { fieldS s f.val with returning := false } ∧ Only [.fabric] s t)

/-- Commands of snapshots, security and firmware (Tables 13.14 and 13.15): SHUTTER_FIRE latches the banks of an armed module,
and a group's at its lead goes out as one packet (R508, R511); the reads reply with what they name, SNAPSHOT_READ not while the
latch runs (R512); ATTEST's reply is 3,885 bytes; FLASH_WRITE stages its bytes, without room it is not executed, and a sector
that failed is reported by it once (R416 to R418); a staged write of slot A that drains changes its bytes and erases the sectors
it opens, one that fails leaves the slots as they are; a bundle that passes every check leaves a VERIFIED entry (R420), one that
fails the Format check is answered with 0x0803, and a verified slot may be activated; RESET replies and resets, in a hold or
without a job (R433). -/
def Obligations.SnapshotAndFirmwareCommandsComplete : Prop :=
  (∀ (h : CmdHdr) s, ModuleLevel h s → bitAt s.snap.sources 0 = true → s.snap.armed = true →
    ∃ t, exec (.shutterFire h .module) s = .next (done h [] t) ∧ t.snap.armed = false ∧ t.snap.latching = true ∧
      t.snap.lastSource = 1 ∧ t.snap.lastId = nextShutterId s ∧ t.snap.lastTick = s.tick.tickCount ∧
      t.snap.image = some (latchImage (nextShutterId s) s) ∧ Only [.snap] s t) ∧
  (∀ (h : CmdHdr) s, ModuleLevel h s → bitAt s.snap.sources 0 = true → s.snap.armed = true → isLead s = true →
    ∃ t, exec (.shutterFire h .group) s = .next (done h [] t) ∧ t.snap.armed = false ∧
      t.sent = s.sent ++ [.shutterPacket (pack [(16, nextShutterId s), (4, 1), (10, selfIndex s)]) (sendDelays s)] ∧
      Only [.sent, .snap] s t) ∧
  (∀ (h : CmdHdr) s, ModuleLevel h s → isLead s = false → s.job.configured = true → s.job.group = 0 → s.grp.noLead = false →
    exec (.shutterFire h .group) s = .next (refuse h 0x0306 s.job.leadMember s)) ∧
  (∀ (h : CmdHdr) (kind : BitVec 8) (index offset length : BitVec 32) s, ModuleLevel h s → s.snap.latching = false →
    (snapshotChecks kind.toNat index.toNat offset.toNat length.toNat).all (·.2) = true →
    exec (.snapshotRead h kind index offset length) s =
      .next (done h (bankRead s kind.toNat index.toNat offset.toNat length.toNat) s)) ∧
  (∀ (h : CmdHdr) kind index offset length s, ModuleLevel h s → s.snap.latching = true →
    exec (.snapshotRead h kind index offset length) s = .next (refuseBusy h s)) ∧
  (∀ (h : CmdHdr) (first count : BitVec 16) s, ModuleLevel h s → 1 ≤ count.toNat → count.toNat ≤ 508 →
    first.toNat + count.toNat ≤ 1856 →
    exec (.countersRead h first count) s =
      .next (done h ((List.range count.toNat).flatMap fun i => bytesLE 8 (counter s (first.toNat + i))) s)) ∧
  (∀ (h : CmdHdr) (first : BitVec 40) (count : BitVec 16) s, ModuleLevel h s → 1 ≤ count.toNat → count.toNat ≤ 63 →
    exec (.journalRead h first count) s = .next (done h ((((journalSorted s).filter fun e =>
      decide (first.toNat ≤ e.step)).take count.toNat).flatMap encodeStepEntry) s)) ∧
  (∀ (h : CmdHdr) (first : BitVec 32) (count : BitVec 16) s, ModuleLevel h s → 1 ≤ count.toNat → count.toNat ≤ 63 →
    s.flash.journalBase = 0 →
    exec (.bootJournalRead h first count) s = .next (done h (((s.flash.journal.drop first.toNat).take
      count.toNat).zipIdx.flatMap fun e => encodeBootEntry (first.toNat + e.2) e.1) s)) ∧
  (∀ (h : CmdHdr) (nonce : List Byte) s, ModuleLevel h s → 16 ≤ nonce.length → nonce.length ≤ 64 →
    ∃ body, exec (.attest h nonce) s = .next (done h body s) ∧ body.length = 3885 ∧
      body.take 4 = bytesLE 4 0x54414456) ∧
  (∀ (h : CmdHdr) (slotB : Bool) (offset : BitVec 32) (data : List Byte) s, ModuleLevel h s → s.boot.slotB ≠ slotB →
    offset.toNat % 256 = 0 → offset.toNat + data.length ≤ 96 * 2 ^ 20 → 0 < data.length → data.length ≤ 4032 →
    (if slotB then s.boot.devB else s.boot.devA) = true → failedSector s slotB = none → stagingRoom s data.length = true →
    ∃ t, exec (.flashWrite h slotB offset data) s = .next (done h [] t) ∧
      t.boot.staging = s.boot.staging ++ [{ slotB := slotB, offset := offset.toNat, data := data }] ∧
      t.flash.bundleA = s.flash.bundleA ∧ t.flash.bundleB = s.flash.bundleB ∧ Only [.flash, .boot] s t) ∧
  (∀ (h : CmdHdr) (slotB : Bool) (offset : BitVec 32) (data : List Byte) s, ModuleLevel h s → s.boot.slotB ≠ slotB →
    offset.toNat % 256 = 0 → offset.toNat + data.length ≤ 96 * 2 ^ 20 → 0 < data.length → data.length ≤ 4032 →
    (if slotB then s.boot.devB else s.boot.devA) = true → failedSector s slotB = none → stagingRoom s data.length = false →
    exec (.flashWrite h slotB offset data) s = .next s) ∧
  (∀ (h : CmdHdr) (slotB : Bool) (offset : BitVec 32) (data : List Byte) s n, ModuleLevel h s → s.boot.slotB ≠ slotB →
    offset.toNat % 256 = 0 → offset.toNat + data.length ≤ 96 * 2 ^ 20 → 0 < data.length → data.length ≤ 4032 →
    (if slotB then s.boot.devB else s.boot.devA) = true → failedSector s slotB = some n →
    ∃ t, exec (.flashWrite h slotB offset data) s = .next (refuse h 0x0804 n t) ∧
      t.flash.failedSectors = s.flash.failedSectors.erase (slotB, n) ∧ t.boot.staging = s.boot.staging ∧ Only [.flash] s t) ∧
  (∀ w rest s, executes s = true → s.boot.staging = w :: rest → w.slotB = false →
    ∃ t, exec (.flashStageDrain true) s = .next t ∧ t.boot.staging = rest ∧
      (∀ a, mapGet 0xFF#8 t.flash.bundleA a = if w.offset ≤ a ∧ a < w.offset + w.data.length then nth 0#8 w.data (a - w.offset)
        else if a / 65536 ∈ openedSectors w.offset w.data.length then 0xFF#8 else mapGet 0xFF#8 s.flash.bundleA a) ∧
      t.flash.bundleB = s.flash.bundleB ∧ Only [.flash, .boot] s t) ∧
  (∀ w rest s, executes s = true → s.boot.staging = w :: rest →
    ∃ t, exec (.flashStageDrain false) s = .next t ∧ t.boot.staging = rest ∧ t.flash.bundleA = s.flash.bundleA ∧
      t.flash.bundleB = s.flash.bundleB ∧ (w.slotB, w.offset / 65536) ∈ t.flash.failedSectors ∧ Only [.flash, .boot] s t) ∧
  (∀ (h : CmdHdr) slotB s, ModuleLevel h s →
    ∃ t, exec (.bundleVerify h slotB) s = .next t ∧ { hdr := h, body := .bundleVerify slotB } ∈ t.host.deferred ∧
      t.flash = s.flash ∧ Only [.sent, .side, .mem, .host] s t) ∧
  (∀ τ (checks : BundleChecks) s d slotB, executes s = true → s.boot.staging = [] → bundleFault s slotB checks = none →
    s.flash.outOfOrder.contains (b2n slotB) = false →
    (s.host.deferred.find? fun d => (isVerify d).isSome) = some d → d.body = .bundleVerify slotB →
    ∃ t, exec (.bundleVerifyDone τ checks) s = .next (reply d.hdr 0 0 [] true t) ∧ slotVerified t slotB = true ∧
      t.host.deferred = s.host.deferred.erase d ∧ Only [.now, .flash, .host] s t) ∧
  (∀ τ (checks : BundleChecks) s d slotB, executes s = true → s.boot.staging = [] → bundleFault s slotB checks = some .format →
    (s.host.deferred.find? fun d => (isVerify d).isSome) = some d → d.body = .bundleVerify slotB →
    ∃ t, exec (.bundleVerifyDone τ checks) s = .next (reply d.hdr 0x0803 0xFFFF [] true t) ∧ t.flash = s.flash ∧
      Only [.now, .host] s t) ∧
  (∀ (h : CmdHdr) slotB s, ModuleLevel h s → slotVerified s slotB = true →
    ∃ t, exec (.bundleActivate h slotB) s = .next (done h [] t) ∧
      (lastEntry t 0x20).map (·.slotB) = some slotB ∧ Only [.flash] s t) ∧
  (∀ (h : CmdHdr) slotB s, ModuleLevel h s → slotVerified s slotB = false →
    exec (.bundleActivate h slotB) s = .next (refuse h 0x0201 (Config.paramOffset 0x0804 0) s)) ∧
  (∀ (h : CmdHdr) s, ModuleLevel h s → heldOrIdle s = true →
    ∃ t, exec (.resetCmd h) s = .next t ∧ t.sent = (done h [] s).sent ∧ t.boot.startPending = true ∧
      t.boot.state = State.reset.boot.state ∧ t.job = State.reset.job ∧ t.mem = State.reset.mem ∧
      t.host = State.reset.host ∧ t.flash = s.flash ∧ t.counters = State.reset.counters) ∧
  (∀ (h : CmdHdr) s, ModuleLevel h s → heldOrIdle s = false → exec (.resetCmd h) s = .next (refuse h 0x0302 0 s))

/-- Registers (chapter 19): REG_READ replies with its words through the command path's latch (R540), an unaligned address is
refused with 0x0902 and an unmapped one with 0x0901; a write is clamped to its field's range and the clamp counted (R541), and
is refused with 0x0302 where a running job fixes the field (R411, R542); REG_RMW replies with the word before it. SNAPSHOT.REARM
arms, the W1C bits clear a record's VALID bit and BOOT.HELD (R551, R544), and the low word of a counter latches the high one. -/
def Obligations.RegistersAreReadAndWritten : Prop :=
  (∀ (h : CmdHdr) (addr : BitVec 32) (count : BitVec 16) s, ModuleLevel h s → 1 ≤ count.toNat → count.toNat ≤ 1016 →
    firstProblem s ((List.range count.toNat).map fun i => addr.toNat + 4 * i) = none →
    exec (.regRead h addr count) s =
      .next (done h (regWords ((List.range count.toNat).map fun i => addr.toNat + 4 * i) [] s).1
        (regWords ((List.range count.toNat).map fun i => addr.toNat + 4 * i) [] s).2)) ∧
  (∀ (h : CmdHdr) s, ModuleLevel h s →
    exec (.regRead h 0x10000 1) s = .next (done h (bytesLE 4 0xD718) s)) ∧
  (∀ (h : CmdHdr) (addr : BitVec 32) s, ModuleLevel h s → addr.toNat % 4 ≠ 0 →
    exec (.regRead h addr 1) s = .next (refuse h 0x0902 (addr.toNat % 65536) s)) ∧
  (∀ (h : CmdHdr) (addr : BitVec 32) s, ModuleLevel h s → addr.toNat % 4 = 0 → 0x100000 ≤ addr.toNat →
    exec (.regRead h addr 1) s = .next (refuse h 0x0901 (addr.toNat % 65536) s)) ∧
  (∀ (h : CmdHdr) (v : BitVec 32) s, ModuleLevel h s → s.job.started = false →
    ∃ t, exec (.regWrite h [(0x30000, v)]) s = .next (done h [] t) ∧
      t.tick = { s.tick with period := max 25 (min 5000 (v.toNat % 8192)) } ∧
      counter t cRegClamp = counter s cRegClamp + (if v.toNat % 8192 < 25 ∨ 5000 < v.toNat % 8192 then 1 else 0) ∧
      Only [.tick, .counters] s t) ∧
  (∀ (h : CmdHdr) (v : BitVec 32) s, ModuleLevel h s → s.job.started = true → v.toNat % 8192 ≠ s.tick.period →
    exec (.regWrite h [(0x30000, v)]) s = .next (refuse h 0x0302 0 s)) ∧
  (∀ (h : CmdHdr) (mask value : BitVec 32) s, ModuleLevel h s → s.power.throttleC ≤ 95 →
    ∃ t, exec (.regRmw h 0xB0000 mask value) s = .next (done h (bytesLE 4 s.power.throttleC) t) ∧
      t.power.throttleC = max 70 (min 95 (mergeBits s.power.throttleC mask.toNat value.toNat % 128)) ∧
      Only [.power, .counters] s t) ∧
  (∀ (v : BitVec 32) s, Ready s →
    ∃ t, exec (.registerWrite 0xC0020 v) s = .next t ∧ t.grp = { s.grp with
        suspectWindow := max 100 (v.toNat % 65536), suspectPct := max 5 (min 100 (v.toNat / 65536 % 128)) } ∧
      Only [.grp, .counters] s t) ∧
  (∀ (addr v : BitVec 32) s, Ready s → addr.toNat % 4 ≠ 0 → exec (.registerWrite addr v) s = .next s) ∧
  (∀ (v : BitVec 32) s, Ready s → 2400 ≤ v.toNat → v.toNat ≤ 24000 → v.toNat ≠ s.power.capSoft →
    ∃ t, exec (.capSoftWrite v) s = .next t ∧ t.power.capSoft = v.toNat ∧ Only [.sent, .side, .power, .mem, .host] s t) ∧
  (∀ (v : BitVec 32) s, Ready s → 2400 ≤ v.toNat → v.toNat ≤ 24000 → v.toNat ≠ s.power.capHard →
    s.power.drawMin ≤ v.toNat → s.power.inputW ≤ v.toNat →
    ∃ t, exec (.capHardWrite v) s = .next t ∧ t.power.capHard = v.toNat ∧
      t.power.ceilingMw = min s.power.ceilingMw (1000 * v.toNat) ∧ Only [.power] s t) ∧
  (∀ s, Ready s → s.snap.latching = false →
    ∃ t, exec .rearm s = .next t ∧ t.snap = { s.snap with armed := true } ∧ Only [.snap] s t) ∧
  (∀ s, Ready s → s.snap.latching = true →
    ∃ t, exec .rearm s = .next t ∧ t.snap = { s.snap with rearmPending := true } ∧ Only [.snap] s t) ∧
  (∀ (i : Fin 256) s, Ready s →
    ∃ t, exec (.recordValidClear i) s = .next t ∧
      mapGet {} t.fault.records i.val = { mapGet {} s.fault.records i.val with valid := false } ∧
      (∀ k, k ≠ i.val → mapGet {} t.fault.records k = mapGet {} s.fault.records k) ∧ Only [.fault] s t) ∧
  (∀ (v : BitVec 32) s, Ready s →
    ∃ t, exec (.heldClear v) s = .next t ∧
      t.flash = { s.flash with rstHeld := s.flash.rstHeld && !bitAt v.toNat 0, pgHeld := s.flash.pgHeld && !bitAt v.toNat 1 } ∧
      Only [.flash] s t) ∧
  (∀ (addr : BitVec 32) s k, Ready s → k < 64 → addr.toNat = 0xC8000 + 8 * k →
    ∃ t, exec (.counterLowWordRead addr false) s = .next t ∧
      t.cmdLatch = some (addr.toNat + 4, counter s (448 + k) / 2 ^ 32 % 2 ^ 32) ∧ Only [.cmdLatch] s t)

/-- The sideband (R533 to R535): a command is taken while the mailbox is free and runs as any other, and refused with a NACK
while a reply is owed or unread; a FINAL reply that is read frees the mailbox; register reads use the sideband's own latch
(R540); the bus address is given once, and I2C is the fallback of a module without one. A module that does not answer has none
of it. Which accesses meet a NACK, and that a whole reply is read at once, is the model's choice (log entry 65). -/
def Obligations.SidebandAnswers : Prop :=
  (∀ (bytes : Fin 65536) (pkt : Packet) (s : State), s.side.answering = true → s.side.mailbox.isSome = true →
    ∃ t, exec (.sidebandCommandWrite bytes pkt) s = .next t ∧ t.side = { s.side with nack := true } ∧ Only [.side] s t) ∧
  (∀ (bytes : Fin 65536) (pkt : Packet) (s : State), s.side.answering = true → Ready s → s.side.mailbox = none →
    bytes.val = 32 + pkt.length.toNat → formatRefusal pkt = none → pkt.body = some .identify → pkt.ctx = 0xFF#8 →
    bitAt pkt.flags.toNat 0 = false →
    ∃ t, exec (.sidebandCommandWrite bytes pkt) s = .next t ∧ t.side.mailbox = some pkt ∧ t.side.nack = false ∧
      t.side.replyReady = true ∧ (t.side.reply.flatten.drop 16) = identifyBody s ∧ Only [.side] s t) ∧
  (∀ p (s : State), s.side.answering = true → s.side.mailbox = some p → s.side.replyReady = true →
    ∃ t, exec .sidebandReplyRead s = .next t ∧ t.side.read = s.side.reply.flatten ∧ t.side.mailbox = none ∧
      t.side.reply = [] ∧ t.side.replyReady = false ∧ Only [.side] s t) ∧
  (∀ p (s : State), s.side.answering = true → s.side.mailbox = some p → s.side.replyReady = false → s.side.i2c = true →
    ∃ t, exec .sidebandReplyRead s = .next t ∧ t.side = { s.side with read := busyRecord p, nack := false } ∧
      Only [.side] s t) ∧
  (∀ (addr : BitVec 32) v u (s : State), s.side.answering = true → addrProblem s addr.toNat = none →
    readWord true addr.toNat s = some (v, u) →
    ∃ t, exec (.sidebandRegRead addr) s = .next t ∧ t.side = { s.side with read := bytesLE 4 v, nack := false } ∧
      t.sideLatch = u.sideLatch ∧ t.cmdLatch = s.cmdLatch ∧ Only [.side, .sideLatch] s t) ∧
  (∀ (addr : BitVec 32) (s : State), s.side.answering = true → addr.toNat % 4 ≠ 0 →
    ∃ t, exec (.sidebandRegRead addr) s = .next t ∧ t.side = { s.side with nack := true } ∧ Only [.side] s t) ∧
  (∀ (v : BitVec 32) (s : State), s.side.answering = true → Ready s →
    ∃ t, exec (.sidebandRegWrite 0xB0000 v) s = .next t ∧ t.power.throttleC = max 70 (min 95 (v.toNat % 128)) ∧
      t.side = { s.side with nack := false } ∧ Only [.side, .power, .counters] s t) ∧
  (∀ (addr : BitVec 7) (s : State), s.side.answering = true → s.side.dynAddr = none → s.side.i2c = false →
    ∃ t, exec (.entdaa addr) s = .next t ∧ t.side.dynAddr = some addr.toNat ∧ t.side.mailbox = s.side.mailbox ∧
      Only [.freeCtr, .side] s t) ∧
  (∀ (s : State), s.side.answering = true → s.side.dynAddr = none →
    ∃ t, exec .i2cFallback s = .next t ∧ t.side = { s.side with i2c := true } ∧ Only [.side] s t) ∧
  (∀ (bytes : Fin 65536) pkt (s : State), s.side.answering = false → exec (.sidebandCommandWrite bytes pkt) s = .next s)



/-! ## Boot (chapter 14) -/

/-- MODULE_START (R426 to R432, R425): a start whose checks pass runs in the preferred slot to READY, answers on the sideband,
takes the stored port configuration, keeps the memory defects that no spare row repairs out of its carve, and has extended each
of MEAS0 to MEAS4 once, from zero, by the running bundle's digests; one that fails at MEMORY_TRAIN resets with the next start
due; a third failed start leads to recovery, which answers with nothing measured. A start waits for REFCLK in ROM_START (R530),
and a module in which none is due stays as it is. -/
def Obligations.StartsReachReadyOrRecovery : Prop :=
  (∀ (n : Nat) (facts : StartFacts) s, startDue s = true → s.boot.refclk = true → s.boot.meas = [] → s.flash.heldDue = false →
    s.flash.watchdog = false → failRun s = 0 → facts.devA = true → facts.devB = true → facts.contactFails = false →
    facts.failStep = none → facts.hangs = none → facts.darkFields = [] → (∀ f, f < 84 → isDark s f = false) →
    (∃ m, m < 32 ∧ stackReachable s m = true) →
    bundleFault s (preferredSlot s) (if preferredSlot s = true then facts.checksB else facts.checksA) = none →
    ∃ t, exec (.moduleStart n facts) s = .next t ∧ t.boot.state = .ready ∧ t.boot.slotB = preferredSlot s ∧
      t.side.answering = true ∧ t.host.ports = s.flash.ports ∧
      t.flash.memDefects = (s.flash.memDefects.filter fun e => !facts.repaired.contains e) ∧
      (∀ e, e ∈ t.flash.memDefects → (e.1, e.2 / 2 ^ 14) ∈ t.mem.excluded) ∧
      (∀ i, i < 5 → mapGet 0 t.boot.meas i = Config.sha384 (bytesLE 48 0 ++ bytesLE 48
        (nth 0 (bundleMeasures s (preferredSlot s)) i)) % 2 ^ 384)) ∧
  (∀ (n : Nat) (facts : StartFacts) s, startDue s = true → s.boot.refclk = true → s.flash.heldDue = false →
    s.flash.watchdog = false →
    failRun s = 0 → facts.devA = true → facts.devB = true → facts.contactFails = false → facts.failStep = some (8, 0x0041) →
    facts.hangs = none →
    bundleFault s (preferredSlot s) (if preferredSlot s = true then facts.checksB else facts.checksA) = none →
    ∃ t, exec (.moduleStart n facts) s = .next t ∧ t.boot.state = .reset ∧ t.boot.startPending = true ∧ t.cores = [] ∧
      (t.flash.journal.getLast?.map fun e => (e.step, e.result, e.code)) = some (8, 2, 0x0041)) ∧
  (∀ (n : Nat) (facts : StartFacts) s, startDue s = true → s.boot.refclk = true → s.flash.heldDue = false →
    s.flash.watchdog = false →
    3 ≤ failRun s → facts.contactFails = false → facts.failStep = none → facts.hangs = none →
    ∃ t, exec (.moduleStart n facts) s = .next t ∧ t.boot.state = .recovery ∧ t.boot.meas = [] ∧ t.boot.failRun = failRun s ∧
      t.side.answering = true ∧ t.host.ports = s.flash.ports ∧ Only [.now, .flash, .boot, .side, .host] s t) ∧
  (∀ (n : Nat) (facts : StartFacts) s, startDue s = true → s.boot.refclk = false →
    ∃ t, exec (.moduleStart n facts) s = .next t ∧ t.boot = { s.boot with refclkWait := true } ∧ Only [.now, .boot] s t) ∧
  (∀ (n : Nat) (facts : StartFacts) s, startDue s = false →
    ∃ t, exec (.moduleStart n facts) s = .next t ∧ Only [.now] s t) ∧
  (∀ (n : Nat) (s : State), s.boot.state = .starting → s.boot.begunAt + 2000000000 ≤ n →
    ∃ t, exec (.startStepTimeout n) s = .next t ∧ t.boot.state = .reset ∧ t.boot.startPending = true ∧
      (t.flash.journal.getLast?.map fun e => (e.step, e.result, e.code)) = some (s.boot.step, 2, 0x0040)) ∧
  (∀ (n : Nat) (s : State), s.boot.state = .starting → n < s.boot.begunAt + 2000000000 →
    ∃ t, exec (.startStepTimeout n) s = .next t ∧ Only [.now] s t)

/-- Resets (R443, R526, R530, R532, Table 14.10): the watchdogs of the scheduler and of power management, and a lost REFCLK,
journal a FAULT_RESET entry that names the image and reset the module with a start due; the security image's watchdog leaves its
entry to the next start. Flash and the fuses stay, and every register is at its reset value. A field's control core alone stops,
until its image has passed its digest again. The input's return takes the module from off to reset. -/
def Obligations.ResetsKeepFlashAlone : Prop :=
  (∀ (n : Nat) (s : State), Ready s →
    ∃ t, exec (.schedulerWatchdog n) s = .next t ∧ t.boot.state = .reset ∧ t.boot.startPending = true ∧
      (t.flash.journal.getLast?.map fun e => (e.step, e.code)) = some (0x25, 3) ∧ t.flash.bundleA = s.flash.bundleA ∧
      t.flash.bundleB = s.flash.bundleB ∧ fuses t.flash = fuses s.flash ∧ t.tick = State.reset.tick ∧
      t.stream = State.reset.stream ∧ t.mem = State.reset.mem ∧ t.fault = State.reset.fault ∧ t.job = State.reset.job ∧
      t.counters = State.reset.counters ∧ t.pins = pinsAfterReset (atTime n s) ∧ t.tap = s.tap) ∧
  (∀ (n : Nat) (s : State), Ready s →
    ∃ t, exec (.powerMgmtWatchdog n) s = .next t ∧ t.boot.state = .reset ∧ t.boot.startPending = true ∧
      (t.flash.journal.getLast?.map fun e => (e.step, e.code)) = some (0x25, 2) ∧ t.tick = State.reset.tick ∧
      t.mem = State.reset.mem ∧ t.red = State.reset.red ∧ t.host = State.reset.host ∧ t.pins = pinsAfterReset (atTime n s) ∧
      t.tap = s.tap) ∧
  (∀ (n : Nat) (s : State), Ready s →
    ∃ t, exec (.securityWatchdog n) s = .next t ∧ t.boot.state = .reset ∧ t.boot.startPending = true ∧
      t.flash = { s.flash with watchdog := true } ∧ t.tick = State.reset.tick ∧ t.mem = State.reset.mem ∧
      t.grp = State.reset.grp ∧ t.beam = State.reset.beam ∧ t.pins = pinsAfterReset (atTime n s) ∧ t.tap = s.tap) ∧
  (∀ (n : Nat) (s : State), Ready s →
    ∃ t, exec (.refclkLost n) s = .next t ∧ t.boot.state = .reset ∧ t.boot.startPending = true ∧ t.boot.refclk = false ∧
      (t.flash.journal.getLast?.map fun e => (e.step, e.code)) = some (0x25, 0) ∧ t.mem = State.reset.mem) ∧
  (∀ (n : Nat) (s : State), s.boot.state = .reset →
    ∃ t, exec (.refclkLost n) s = .next t ∧ t.boot = { s.boot with refclk := false } ∧ Only [.now, .boot] s t) ∧
  (∀ (n : Nat) (s : State), s.boot.state ≠ .off →
    ∃ t, exec (.refclkPresent n) s = .next t ∧ t.boot = { s.boot with refclk := true, refclkWait := false } ∧
      Only [.now, .boot] s t) ∧
  (∀ (n : Nat) (s : State), s.boot.state = .off →
    ∃ t, exec (.inputPowerPresent n) s = .next t ∧ t.boot.state = .reset ∧ t.boot.startPending = false ∧
      t.power = { s.power with present := true } ∧ Only [.now, .boot, .power] s t) ∧
  (∀ (f : FieldId) s, Ready s → isDark s f.val = false → (fieldS s f.val).controlRunning = true → s.job.started = false →
    ∃ t, exec (.fieldControlWatchdog f) s = .next t ∧
      fieldS t f.val = { fieldS s f.val with controlRunning := false } ∧ t.boot.reloading = s.boot.reloading ++ [f.val] ∧
      (∀ g, g ≠ f.val → fieldS t g = fieldS s g) ∧
      (mapGet {} t.fault.records t.fault.head).cls = 9 ∧ (mapGet {} t.fault.records t.fault.head).field = f.val ∧
      Only [.sent, .boot, .side, .fault, .grp, .fabric, .mem, .host] s t) ∧
  (∀ (f : FieldId) s, Ready s → f.val ∈ s.boot.reloading → s.place.replacing = false →
    ∃ t, exec (.fieldControlReloadDone f true) s = .next t ∧
      fieldS t f.val = { fieldS s f.val with controlRunning := true } ∧ f.val ∉ t.boot.reloading ∧
      (∀ g, g ≠ f.val → fieldS t g = fieldS s g) ∧ Only [.boot, .fabric] s t) ∧
  (∀ (f : FieldId) s, Ready s → f.val ∈ s.boot.reloading →
    ∃ t, exec (.fieldControlReloadDone f false) s = .next t ∧ t.boot = s.boot ∧ t.fabric = s.fabric ∧
      (mapGet {} t.fault.records t.fault.head).code = 0x0035 ∧ Only [.sent, .side, .fault, .grp, .mem, .host] s t)


/-! ## Power and heat (chapter 15) -/

/-- Ramps and caps (R441, R446 to R450, R452, R454 to R456): the recomputation takes the new readings, keeps the ceiling within
the hard cap; the limit that the caps set moves, while the hard cap does not bite, by no more than the ramp allows, and the
ceiling is the smaller of it and the present draw with the ramp's rise; a 100 µs window within the rule is kept and one beyond
it counted, an excepted one begins the rule again; the lead sends what the requests ask for while their sum lies within the
bound; a grant of tick n bounds tick n + 2, and a missing one falls back to the smaller of r × T and B over the members; the lit
field of highest index is shaded under a hard cap below DRAW_MIN; five seconds without a heartbeat take the safe cap. -/
def Obligations.RampsAndCapsBind : Prop :=
  (∀ (n : Nat) mv w d (s : State), Ready s →
    ∃ t, exec (.powerControlRecompute n mv w d) s = .next t ∧ t.power.inputMv = mv.toNat ∧ t.power.inputW = w.toNat ∧
      t.power.drawMin = (if s.job.started = true ∧ s.power.drawMinStep = some s.tick.step then s.power.drawMin else d.toNat) ∧
      t.power.ceilingMw ≤ 1000 * s.power.capHard ∧ t.power.floorMw ≤ t.power.ceilingMw ∧
      Only [.now, .sent, .side, .power, .mem, .host, .counters] s t) ∧
  (∀ (n : Nat) mv (w : BitVec 16) d (s : State), Ready s → s.power.limitMw ≤ 1000 * s.power.capHard →
    ∃ t, exec (.powerControlRecompute n mv w d) s = .next t ∧ t.power.controlAt = n ∧
      s.power.limitMw ≤ t.power.limitMw + rampMw s (n - s.power.controlAt) ∧
      t.power.limitMw ≤ s.power.limitMw + rampMw s (n - s.power.controlAt) ∧
      t.power.ceilingMw = min t.power.limitMw (1000 * w.toNat + rampMw s (n - s.power.controlAt))) ∧
  (∀ (n : Nat) (avg : BitVec 16) (s : State), Ready s →
    ∃ t, exec (.rampWindow n avg true) s = .next t ∧ t.power = { s.power with windows := [avg.toNat] } ∧
      Only [.now, .power] s t) ∧
  (∀ (n : Nat) (avg : BitVec 16) (s : State), Ready s →
    (∀ w ∈ s.power.windows.zipIdx,
      1000 * (Int.natAbs ((avg.toNat : Int) - (w.1 : Int))) ≤ 100000 + rampMw s 100000 * (w.2 + 1)) →
    ∃ t, exec (.rampWindow n avg false) s = .next t ∧
      t.power = { s.power with windows := (avg.toNat :: s.power.windows).take 5000 } ∧ Only [.now, .power] s t) ∧
  (∀ (n : Nat) (avg : BitVec 16) (s : State) old rest, Ready s → s.power.windows = old :: rest →
    100000 + rampMw s 100000 < 1000 * (Int.natAbs ((avg.toNat : Int) - (old : Int))) →
    ∃ t, exec (.rampWindow n avg false) s = .next t ∧ counter t cRampViol = counter s cRampViol + 1 ∧
      t.power = { s.power with windows := (avg.toNat :: s.power.windows).take 5000, violStep := some s.tick.step } ∧
      (∀ k, k ≠ cRampViol → counter t k = counter s k) ∧
      Only [.now, .sent, .side, .power, .mem, .host, .counters] s t) ∧
  (∀ (n : Nat) (s : State), Ready s → isLead s = true → s.job.started = true → 2 ≤ s.job.members →
    Int.natAbs (s.power.requests.map fun r => r.2).sum ≤ groupTick s →
    ∃ t, exec (.beaconsCollected n) s = .next t ∧ t.sent = s.sent ++ [.grants (s.tick.tickCount + 2) s.power.requests] ∧
      t.power = { s.power with requests := [] } ∧ Only [.now, .sent, .power] s t) ∧
  (∀ (tick : BitVec 48) (g : Int) (s : State), Ready s →
    ∃ t, exec (.rampAllocation tick g) s = .next t ∧
      { tick := tick.toNat + 2, bound := g.natAbs, change := g } ∈ t.power.allocs ∧ Only [.power] s t) ∧
  (∀ (tick : BitVec 48) (s : State), Ready s → 2 ≤ s.job.members → (∀ a ∈ s.power.allocs, a.tick ≠ tick.toNat + 2) →
    ∃ t, exec (.allocationMissing tick) s = .next t ∧
      { tick := tick.toNat + 2, bound := min (rampTick s) (groupTick s / s.job.members), change := 0 } ∈ t.power.allocs ∧
      Only [.power] s t) ∧
  (∀ (draw : BitVec 16) (s : State) f, Ready s → s.power.capHard < s.power.drawMin → s.power.capHard < draw.toNat →
    isLit s f = true → f < 84 → (∀ g, g < 84 → f < g → isLit s g = false) → s.job.started = false →
    ∃ t, exec (.hardCapShade draw) s = .next t ∧ fieldState t f = .shade ∧ (∀ g, g ≠ f → fieldState t g = fieldState s g) ∧
      Only [.sent, .side, .grp, .fabric, .cores, .mem, .place, .host] s t) ∧
  (∀ (n : Nat) (s : State), Ready s → s.power.hbArmed = true → s.power.hbLost = false → s.power.hbAt + 5000000000 ≤ n →
    ∃ t, exec (.heartbeatTimeout n) s = .next t ∧ t.power = { s.power with hbLost := true } ∧
      softCeiling t ≤ ofEnvelope s.power.safeCap ∧ Only [.now, .sent, .side, .power, .mem, .host] s t)

/-- Supply faults (R459 to R462, R470 to R472): an undervoltage dim takes every lit field to S = 8 or less without glow until it
is released; an undervoltage or overvoltage stop takes them to S = 4, stops the stream and asks for a rollback with cause 11;
the drop-out of a regulator and a control trip turn the module off, with its flash kept. A trip of a field's protection darkens
that field, a probe resets or latches it, and a shoulder's trip loses its eight stacks with their contents. -/
def Obligations.SupplyFaultsAct : Prop :=
  (∀ (s : State), Ready s → s.power.dimmed = false →
    ∃ t, exec .undervoltageDim s = .next t ∧ t.power = { s.power with dimmed := true, fields := t.power.fields } ∧
      (∀ f, f < 84 → isLit s f = true → stretchOf t f ≤ 8 ∧ (fieldPower t f).glow = 0 ∧ glowAllowed t f = false) ∧
      (∀ f, f < 84 → isLit s f = false → fieldPower t f = fieldPower s f) ∧ Only [.sent, .side, .power, .mem, .host] s t) ∧
  (∀ (s : State), Ready s → s.power.dimmed = true →
    ∃ t, exec .dimRelease s = .next t ∧ t.power = { s.power with dimmed := false, fields := t.power.fields } ∧
      (∀ f, f < 84 → fieldPower t f = { fieldPower s f with sDim := 16, sCtl := min (fieldPower s f).sCtl 8 }) ∧
      Only [.power] s t) ∧
  (∀ (s : State), Ready s → s.power.stopCause = 0 → s.job.started = true → isJobLead s = true →
    ∃ t, exec .undervoltageStop s = .next t ∧ t.power = { s.power with stopCause := 2, fields := t.power.fields } ∧
    t.stream.stop = true ∧
      (∀ f, f < 84 → isLit s f = true → stretchOf t f ≤ 4 ∧ (fieldPower t f).glow = 0) ∧
      (mapGet {} t.fault.records t.fault.head).cls = 8 ∧ (mapGet {} t.fault.records t.fault.head).code = 2 ∧
      t.grp.requests = s.grp.requests ++ [({ cause := 11, source := selfIndex s }, s.now)] ∧
      Only [.sent, .side, .power, .fault, .grp, .stream, .mem, .host] s t) ∧
  (∀ (s : State), Ready s → s.power.stopCause = 0 →
    ∃ t, exec .overvoltageStop s = .next t ∧ t.power = { s.power with stopCause := 16, fields := t.power.fields } ∧
    t.stream.stop = true ∧
      (∀ f, f < 84 → isLit s f = true → stretchOf t f ≤ 4 ∧ (fieldPower t f).glow = 0) ∧
      (mapGet {} t.fault.records t.fault.head).cls = 8 ∧ (mapGet {} t.fault.records t.fault.head).code = 16 ∧
      Only [.sent, .side, .power, .fault, .grp, .stream, .mem, .host] s t) ∧
  (∀ (s : State), Ready s → s.power.stopCause ≠ 0 →
    ∃ t, exec .supplyStopRecovery s = .next t ∧ t.power = { s.power with stopCause := 0, fields := t.power.fields } ∧
      (∀ f, f < 84 → (fieldPower t f).sCap = 16) ∧ Only [.sent, .side, .power, .mem, .host] s t) ∧
  (∀ (s : State), s.boot.state ≠ .off →
    ∃ t, exec .regulatorDropout s = .next t ∧ t.boot.state = .off ∧ t.power.present = false ∧ t.mem = State.reset.mem ∧
      t.cores = State.reset.cores ∧ t.tick = State.reset.tick ∧ t.flash.journal = s.flash.journal ∧
      t.flash.bundleA = s.flash.bundleA ∧ t.flash.rstHeld = false ∧ t.flash.pgHeld = false ∧ t.sent = s.sent) ∧
  (∀ (s : State), s.boot.state ≠ .off →
    ∃ t, exec .controlTrip s = .next t ∧ t.boot.state = .off ∧ t.power.present = false ∧ t.mem = State.reset.mem ∧
      t.job = State.reset.job ∧ t.flash.journal = s.flash.journal ∧ t.flash.bundleB = s.flash.bundleB ∧ t.sent = s.sent) ∧
  (∀ (f : FieldId) (s : State), Ready s → bitAt s.power.fieldProt f.val = false →
    ∃ t, exec (.fieldProtectionTrip f) s = .next t ∧ t.power = { s.power with fieldProt := s.power.fieldProt + 2 ^ f.val } ∧
      fieldState t f.val = .dark ∧ Only [.sent, .side, .power, .grp, .fabric, .cores, .mem, .beam, .place, .host] s t) ∧
  (∀ (f : FieldId) (s : State), Ready s → bitAt s.power.fieldProt f.val = true → bitAt s.power.fieldLatched f.val = false →
    ∃ t, exec (.protectionProbe f true) s = .next t ∧
      t.power = { s.power with fieldProt := s.power.fieldProt - 2 ^ f.val } ∧ Only [.power] s t) ∧
  (∀ (f : FieldId) (s : State), Ready s → bitAt s.power.fieldProt f.val = true → bitAt s.power.fieldLatched f.val = false →
    ∃ t, exec (.protectionProbe f false) s = .next t ∧
      t.power = { s.power with fieldLatched := s.power.fieldLatched + 2 ^ f.val } ∧ Only [.power] s t) ∧
  (∀ (side : Fin 4) (s : State), Ready s → bitAt s.power.shoulderProt side.val = false → s.mem.lost = [] →
    ∃ t, exec (.shoulderTrip side) s = .next t ∧
      t.power = { s.power with shoulderProt := s.power.shoulderProt + 2 ^ side.val } ∧
      (∀ m, 8 * side.val ≤ m → m < 8 * side.val + 8 → m ∈ t.mem.lostNext) ∧
      (mapGet {} t.fault.records t.fault.head).cls = 4 ∧ Only [.sent, .side, .power, .fault, .grp, .mem, .host] s t)

/-- Heat (R451, R463 to R469): a sample is kept for every sensor; at 105 °C a lit field is shaded and at 115 °C a field goes
dark; each throttle step lowers S by one, down to 8, at or above the threshold and raises it once 5 °C below; three seconds at 8
shade the field, at once without a job and at the next boundary with one; a field shaded for heat returns after ten seconds
below 90 °C. A governor's step sheds glow, then S, above the field's share, raises glow below its share of the floor where glow
is allowed and the module's is below 60 % of the envelope (in what unit glow is counted, log entry 134), and raises S between
them. -/
def Obligations.HeatIsShed : Prop :=
  (∀ (n : Nat) (facts : SensorFacts) (s : State), Ready s → (∀ m, m < 32 → nth (0 : Int) facts.stacksC m < 105) →
    (∀ f, f < 84 → hottest (nth [] facts.fieldsC f) < 105) →
    ∃ t, exec (.sensorSample n facts) s = .next t ∧ t.power.inletC = facts.inlet ∧ t.power.outletC = facts.outlet ∧
      t.power.inletHot = decide (45 < facts.inlet) ∧ t.power.inletCold = decide (facts.inlet < 18) ∧
      (∀ f, f < 84 → (fieldPower t f).tj = hottest (nth [] facts.fieldsC f) ∧ fieldState t f = fieldState s f) ∧
      (∀ m, m < 32 → mapGet 0 t.power.stackC m = nth 0 facts.stacksC m) ∧
      Only [.now, .sent, .side, .power, .mem, .host] s t) ∧
  (∀ (n : Nat) (facts : SensorFacts) (s : State), Ready s →
    ∃ t, exec (.sensorSample n facts) s = .next t ∧
      (∀ f, f < 84 → 105 ≤ hottest (nth [] facts.fieldsC f) → hottest (nth [] facts.fieldsC f) < 115 → isLit s f = true →
        fieldState t f = .shade ∧ (fieldPower t f).heatShaded = true) ∧
      (∀ f, f < 84 → 115 ≤ hottest (nth [] facts.fieldsC f) → fieldState t f = .dark) ∧
      Only [.now, .sent, .side, .power, .grp, .fabric, .cores, .mem, .beam, .place, .host] s t) ∧
  (∀ (n : Nat) (f : FieldId) (s : State), Ready s → isLit s f.val = true →
    (s.power.throttleC : Int) ≤ (fieldPower s f.val).tj → 9 ≤ (fieldPower s f.val).sThrottle →
    ∃ t, exec (.throttleStep n f) s = .next t ∧ (fieldPower t f.val).sThrottle = (fieldPower s f.val).sThrottle - 1 ∧
      (∀ g, g ≠ f.val → fieldPower t g = fieldPower s g) ∧ t.power = { s.power with fields := t.power.fields } ∧
      Only [.now, .power] s t) ∧
  (∀ (n : Nat) (f : FieldId) (s : State), Ready s → isLit s f.val = true →
    (s.power.throttleC : Int) ≤ (fieldPower s f.val).tj → (fieldPower s f.val).sThrottle = 8 →
    exec (.throttleStep n f) s = .next (setFieldPower f.val { fieldPower s f.val with
        at8Since := some ((fieldPower s f.val).at8Since.getD n) } (atTime n s))) ∧
  (∀ (n : Nat) (f : FieldId) (s : State), Ready s → isLit s f.val = true →
    (fieldPower s f.val).tj + 5 ≤ (s.power.throttleC : Int) →
    exec (.throttleStep n f) s = .next (setFieldPower f.val { fieldPower s f.val with
        sThrottle := min 16 ((fieldPower s f.val).sThrottle + 1), at8Since := none } (atTime n s))) ∧
  (∀ (n : Nat) (f : FieldId) (s : State) a, Ready s → isLit s f.val = true → (fieldPower s f.val).at8Since = some a →
    a + 3000000000 ≤ n → s.job.started = false →
    ∃ t, exec (.throttleShade n f) s = .next t ∧ fieldState t f.val = .shade ∧ (fieldPower t f.val).heatShaded = true ∧
      (∀ g, g ≠ f.val → fieldState t g = fieldState s g) ∧
      Only [.now, .sent, .side, .power, .grp, .fabric, .cores, .mem, .place, .host] s t) ∧
  (∀ (n : Nat) (f : FieldId) (s : State) a, Ready s → isLit s f.val = true → (fieldPower s f.val).at8Since = some a →
    a + 3000000000 ≤ n → s.job.started = true →
    exec (.throttleShade n f) s = .next (setFieldPower f.val { fieldPower s f.val with shadeDue := true } (atTime n s))) ∧
  (∀ (n : Nat) (f : FieldId) (s : State), Ready s → heatReturnOk n f.val s = true → s.job.started = false →
    ∃ t, exec (.heatReturn n f) s = .next t ∧ fieldState t f.val = .lit ∧ (fieldPower t f.val).heatShaded = false ∧
      (∀ g, g ≠ f.val → fieldState t g = fieldState s g) ∧ Only [.now, .sent, .side, .power, .fabric, .mem, .host] s t) ∧
  (∀ (n : Nat) (f : FieldId) (s : State), Ready s → heatReturnOk n f.val s = true → s.job.started = true →
    exec (.heatReturn n f) s = .next (setFieldPower f.val { fieldPower s f.val with returnDue := true } (atTime n s))) ∧
  (∀ (f : FieldId) (draw share low : BitVec 16) (s : State), Ready s → isLit s f.val = true → share < draw →
    exec (.fieldGovernorStep f draw share low) s = .next (setFieldPower f.val
        (if 0 < (fieldPower s f.val).glow then { fieldPower s f.val with glow := (fieldPower s f.val).glow - 1 }
         else { fieldPower s f.val with sCtl := max 4 ((fieldPower s f.val).sCtl - 1) }) s)) ∧
  (∀ (f : FieldId) (draw share low : BitVec 16) (s : State), Ready s → isLit s f.val = true → draw ≤ share → draw < low →
    exec (.fieldGovernorStep f draw share low) s = .next (setFieldPower f.val { fieldPower s f.val with
        glow := if glowAllowed s f.val = false then 0 else if glowTotal s < ofEnvelope 60 then (fieldPower s f.val).glow + 1
          else (fieldPower s f.val).glow } s)) ∧
  (∀ (f : FieldId) (draw share low : BitVec 16) (s : State), Ready s → isLit s f.val = true → draw ≤ share → low ≤ draw →
    (fieldPower s f.val).sCtl < 16 →
    exec (.fieldGovernorStep f draw share low) s = .next (setFieldPower f.val { fieldPower s f.val with
        sCtl := (fieldPower s f.val).sCtl + 1 } s))


/-! ## Membership, mirrors and rollback (chapter 16) -/

/-- Members (R477 to R484): a lead keeps what a beacon whose CHECK passes says of its member, and counts one whose CHECK fails;
a member that is silent for 3 ticks and 2 ms is LOST, as one that drains for 5 s, and each asks for a rollback; a group that is
left without lead and standby lead has its first ACTIVE members of high LEAD_SEL named by the job lead (R23, log entry 99); a
suspect drains in a hold and owes its self-test; a member that joins in a hold with the job lead's GPE, the layout and its lanes
is ACTIVE, and one with another GPE is EXCLUDED. -/
def Obligations.MembersComeAndGo : Prop :=
  (∀ (n : Nat) (b : Beacon) (raw : BitVec 384) (s : State), Ready s → isLead s = true →
    decodeBeacon raw.toNat = b → beaconCheckOk raw.toNat = true → b.group = s.job.group →
    (memberS s (64 * b.group + b.member)).state = .active →
    ∃ t, exec (.lanternBeacon n raw) s = .next t ∧
      memberS t (64 * b.group + b.member) = { memberS s (64 * b.group + b.member) with
        beaconAt := some t.now, beaconState := b.state, outMask := b.outMask
        ready := bitAt b.state 1 && decide (b.roll = s.red.roll), inputComplete := bitAt b.state 0, joining := false
        ramp := b.rampReq } ∧
      (∀ k, k ≠ 64 * b.group + b.member → memberS t k = memberS s k) ∧ (b.member, b.rampReq) ∈ t.power.requests ∧
      Only [.now, .power, .grp] s t) ∧
  (∀ (n : Nat) (raw : BitVec 384) (s : State), Ready s → isLead s = true → beaconCheckOk raw.toNat = false →
    ∃ t, exec (.lanternBeacon n raw) s = .next t ∧ counter t cBeaconBad = counter s cBeaconBad + 1 ∧
      (∀ k, k ≠ cBeaconBad → counter t k = counter s k) ∧ Only [.now, .counters] s t) ∧
  (∀ (n : Nat) (g : GroupId) (m : MemberId) (s : State) t0, Ready s → isJobLead s = true → s.job.started = true →
    g.val = 0 → m.val < s.job.members → m.val ≠ s.job.member → s.job.standbyMember ≠ some m.val →
    (memberS s m.val).state = .active → (memberS s m.val).beaconAt = some t0 → t0 + silenceBound s ≤ n →
    ∃ t, exec (.beaconSilence n g m) s = .next t ∧
      memberS t m.val = { memberS s m.val with joining := false, state := .lost } ∧
      (∀ k, k ≠ m.val → memberS t k = memberS s k) ∧
      t.grp.requests = s.grp.requests ++ [({ cause := 1, source := selfIndex s }, t.now)] ∧
      (mapGet {} t.fault.records t.fault.head).cls = 10 ∧ Only [.now, .sent, .side, .fault, .grp, .mem, .host] s t) ∧
  (∀ (n : Nat) (g : GroupId) (m : MemberId) (s : State) t0, Ready s → isLead s = true → s.job.started = true →
    (memberS s (64 * g.val + m.val)).beaconAt = some t0 → max s.now n < t0 + silenceBound s →
    ∃ t, exec (.beaconSilence n g m) s = .next t ∧ Only [.now] s t) ∧
  (∀ (n : Nat) (g : GroupId) (m : MemberId) (s : State) t0 (e : GroupRoles) k ks, Ready s → isJobLead s = true →
    s.job.started = true →
    g.val ≠ 0 → m.val < s.job.members → (memberS s (64 * g.val + m.val)).state = .active →
    (memberS s (64 * g.val + m.val)).beaconAt = some t0 → t0 + silenceBound s ≤ n →
    (s.grp.roles.find? fun x => decide (x.group = g.val)) = some e → e.lead = m.val → e.standby = none →
    ((List.range s.job.members).filter fun x => bitAt e.straps x && decide (x ≠ m.val) &&
      decide ((memberS s (64 * g.val + x)).state = .active)) = k :: ks →
    ∃ t, exec (.beaconSilence n g m) s = .next t ∧ (memberS t (64 * g.val + m.val)).state = .lost ∧
      Msg.groupRoles g.val k ks.head? ∈ t.sent ∧
      t.grp.requests = s.grp.requests ++ [({ cause := 1, source := selfIndex s }, t.now)] ∧
      Only [.now, .sent, .side, .grp, .mem, .host] s t) ∧
  (∀ (n : Nat) (m : MemberId) (s : State), Ready s → isLead s = true → s.job.started = true → s.job.held = true →
    s.grp.rolling = false → (memberS s (64 * s.job.group + m.val)).state = .active →
    (memberS s (64 * s.job.group + m.val)).suspect = true →
    ∃ t, exec (.memberDrain n m) s = .next t ∧
      memberS t (64 * s.job.group + m.val) = { memberS s (64 * s.job.group + m.val) with
        state := .draining, drainAt := some t.now } ∧
      t.grp.drainHold = (s.grp.drainHold || decide (m.val = s.job.member)) ∧
      Only [.now, .sent, .side, .grp, .mem, .host] s t) ∧
  (∀ (n : Nat) (m : MemberId) (s : State) t0, Ready s → isJobLead s = true → s.job.started = true →
    s.job.standbyMember ≠ some m.val →
    (memberS s m.val).state = .draining → (memberS s m.val).drainAt = some t0 → t0 + 5000000000 ≤ n →
    ∃ t, exec (.drainTimeout n m) s = .next t ∧ (memberS t m.val).state = .lost ∧ (memberS t m.val).drainAt = none ∧
      t.grp.requests = s.grp.requests ++ [({ cause := 1, source := selfIndex s }, t.now)] ∧
      Only [.now, .sent, .side, .grp, .mem, .host] s t) ∧
  (∀ (m : MemberId) (gpe : BitVec 16) (id : BitVec 64) (s : State) i, Ready s → isLead s = true → s.job.started = true →
    s.job.held = true → s.grp.rolling = false → (memberS s (64 * s.job.group + m.val)).joining = true →
    (memberS s (64 * s.job.group + m.val)).state = .lost → gpe.toNat = s.boot.gpe → s.place.inForce = some i →
    i.layoutId = id.toNat →
    ∃ t, exec (.memberJoin m gpe id true) s = .next t ∧
      memberS t (64 * s.job.group + m.val) = { memberS s (64 * s.job.group + m.val) with
        joining := false, state := .active, late := [], suspect := false } ∧
      t.grp.mask = activeMask t ∧ Only [.sent, .side, .fault, .grp, .mem, .beam, .host] s t) ∧
  (∀ (m : MemberId) (gpe : BitVec 16) (id : BitVec 64) (lanes : Bool) (s : State), Ready s → isLead s = true →
    s.job.started = true → s.job.held = true → s.grp.rolling = false →
    (memberS s (64 * s.job.group + m.val)).joining = true → (memberS s (64 * s.job.group + m.val)).state = .lost →
    gpe.toNat ≠ s.boot.gpe →
    ∃ t, exec (.memberJoin m gpe id lanes) s = .next t ∧
      memberS t (64 * s.job.group + m.val) = { memberS s (64 * s.job.group + m.val) with joining := false, state := .excluded } ∧
      Only [.sent, .side, .grp, .mem, .host] s t)

/-- Rollbacks (R485 to R488): a request waits at the job lead with its time, and another group's lead passes it on; a notice of
a new generation for the last committed step puts that generation in force, holds the job, stops the stream and discards what it
brings, journals the rollback and clears the collectives; one of the generation in force, or for a step before, does nothing. -/
def Obligations.RollbacksRestartFromTheCommit : Prop :=
  (∀ (n : Nat) req (s : State), Ready s → s.job.started = true → isJobLead s = true →
    ∃ t, exec (.rollbackRequest n req) s = .next t ∧
      t.grp = { s.grp with requests := s.grp.requests ++ [(req, t.now)] } ∧ Only [.now, .grp] s t) ∧
  (∀ (n : Nat) (req : RollbackReq) (s : State), Ready s → s.job.started = true → isLead s = true → isJobLead s = false →
    ∃ t, exec (.rollbackRequest n req) s = .next t ∧ t.sent = s.sent ++ [.rollbackRequest req.cause req.source] ∧
      Only [.now, .sent] s t) ∧
  (∀ (n : Nat) (msg : RollbackMsg) (s : State), Ready s → s.job.started = true → msg.roll ≠ s.red.roll →
    msg.target = s.red.committed →
    ∃ t, exec (.rollbackNotice n msg) s = .next t ∧ t.red.roll = msg.roll ∧ t.red.committed = s.red.committed ∧
      t.grp.rolling = true ∧ t.grp.rollTarget = msg.target ∧ t.grp.rollCause = msg.cause ∧ t.grp.mask = msg.members ∧
      t.job.held = true ∧ t.stream.stop = true ∧ t.stream.discard = true ∧ t.beam.chunks = [] ∧ t.beam.positions = [] ∧
      t.tick.units = [] ∧ t.tick.slipRun = 0 ∧ counter t cRollbacks = counter s cRollbacks + 1) ∧
  (∀ (n : Nat) (msg : RollbackMsg) (s : State), Ready s → s.job.started = true → msg.roll = s.red.roll →
    ∃ t, exec (.rollbackNotice n msg) s = .next t ∧ Only [.now] s t) ∧
  (∀ (n : Nat) (msg : RollbackMsg) (s : State), Ready s → s.job.started = true → msg.target < s.red.committed →
    ∃ t, exec (.rollbackNotice n msg) s = .next t ∧ Only [.now] s t)

/-- The mirror check (R491 to R495) and shadows (R499): a digest list waits at the job lead until every owner's is there;
replicas whose CRC values are equal settle their tensor without a copy; in a job of two groups a block beyond tolerance is
recomputed, and where one replica alone matches, the other is overwritten from it and a rollback to the commit is due; with no
match the job rolls back with cause 10. A total for a block that no member shadows here is counted as stale, and one of seven
pieces waits for the eighth. -/
def Obligations.MirrorsAreCompared : Prop :=
  (∀ (g : GroupId) e (s : State), Ready s → isJobLead s = true → s.job.started = true → 2 ≤ s.job.groups →
    s.red.mirrorDone = false →
    listsIn { s with grp := { s.grp with digests := s.grp.digests ++ [(g.val, e)] } } = false →
    ∃ t, exec (.digestList g e) s = .next t ∧ t.grp = { s.grp with digests := s.grp.digests ++ [(g.val, e)] } ∧
      Only [.grp] s t) ∧
  (∀ (tensor : BitVec 32) (rule : Fin 8) (reps : List (Nat × List (Nat × MirDigest))) (s : State), Ready s →
    isJobLead s = true → tensor.toNat ∈ s.grp.disputed → 2 ≤ (s.grp.disputed.filter fun x => decide (x ≠ tensor.toNat)).length →
    (∀ b ∈ listedBlocks reps, differs ((replicasOf reps b).map (·.2.crc)) = false) →
    ∃ t, exec (.blockDigests tensor rule reps) s = .next t ∧
      t.grp = { s.grp with disputed := s.grp.disputed.filter fun x => decide (x ≠ tensor.toNat) } ∧ Only [.grp] s t) ∧
  (∀ (tensor : BitVec 32) (rule : Fin 8) (b : Nat) (x y : MirDigest) (s : State), Ready s → isJobLead s = true →
    s.job.groups = 2 → tensor.toNat ∈ s.grp.disputed → x.crc ≠ y.crc → agree rule.val x y = false →
    ∃ t, exec (.blockDigests tensor rule [(0, [(b, x)]), (1, [(b, y)])]) s = .next t ∧ t.sent = s.sent ++ [.recompute b] ∧
      t.grp = { s.grp with disputed := s.grp.disputed.filter fun k => decide (k ≠ tensor.toNat)
                           verdicts := s.grp.verdicts ++ [(b, false)] } ∧ Only [.sent, .grp] s t) ∧
  (∀ (b : BitVec 32) (s : State), Ready s → isJobLead s = true → (b.toNat, false) ∈ s.grp.verdicts →
    s.grp.disputed ≠ [] → s.place.inForce = none →
    ∃ t, exec (.recomputeDone b true false) s = .next t ∧ t.sent = s.sent ++ [.repairCopy b.toNat 0 1] ∧
      t.grp.mirrorRollback = true ∧ t.grp.repaired = s.grp.repaired + 1 ∧ (∀ v ∈ t.grp.verdicts, v.1 ≠ b.toNat) ∧
      counter t cMirRepairs = counter s cMirRepairs + 1 ∧ Only [.sent, .grp, .red, .counters] s t) ∧
  (∀ (b : BitVec 32) (s : State), Ready s → isJobLead s = true → s.job.started = true → (b.toNat, false) ∈ s.grp.verdicts →
    s.place.inForce = none →
    ∃ t, exec (.recomputeDone b false false) s = .next t ∧ (b.toNat, true) ∈ t.grp.verdicts ∧
      t.grp.requests = s.grp.requests ++ [({ cause := 10, source := selfIndex s }, s.now)] ∧
      counter t cMirRollbacks = counter s cMirRollbacks + 1 ∧ Only [.grp, .counters] s t) ∧
  (∀ (p : PieceData) (s : State), Ready s → shadowAt s (decodeContrib p.header.toNat).block = none →
    ∃ t, exec (.shadowTotal p) s = .next t ∧ counter t cStaleDrops = counter s cStaleDrops + 1 ∧ Only [.counters] s t) ∧
  (∀ (p : PieceData) (h : ContribHdr) l bn (s : State), Ready s → decodeContrib p.header.toNat = h →
    shadowAt s h.block = some (l, bn) → h.step = s.tick.step % 65536 → h.roll = s.red.roll → h.mode = 3 → h.maxb = 0 →
    residue p.values = h.res → (shadowBlock s h.block).totalPieces = [] →
    ∃ t, exec (.shadowTotal p) s = .next t ∧ (shadowBlock t h.block).totalPieces = [h.piece] ∧
      (shadowBlock t h.block).acc = mapSetList 0 (shadowBlock s h.block).acc (512 * h.piece) p.values ∧
      (∀ k, k ≠ h.block → shadowBlock t k = shadowBlock s k) ∧ counter t cPieces = counter s cPieces + 1 ∧
      Only [.red, .counters] s t)


/-! ## Shutter and test access (chapter 17) -/

/-- Shutters (R507 to R511): a shutter of a source that is enabled, on a module whose ARMED is 1, latches every bank under its
SHUTTER_ID and clears ARMED; while ARMED is 0 it is counted, and a source that is not enabled does nothing. Several requests of
one tick fire once. The latch ends after 20 µs, and a REARM that came meanwhile takes effect then. -/
def Obligations.ShuttersLatchOnce : Prop :=
  (∀ (n : Nat) (s : State), Ready s → bitAt s.snap.sources 1 = true → s.snap.armed = true →
    ∃ t, exec (.shutterInEdge n) s = .next t ∧ t.snap.armed = false ∧ t.snap.latching = true ∧ t.snap.latchAt = t.now ∧
      t.snap.lastSource = 2 ∧ t.snap.lastTick = s.tick.tickCount ∧ t.snap.lastId = nextShutterId s ∧
      t.snap.image = some (latchImage (nextShutterId s) s) ∧ Only [.now, .pins, .snap] s t) ∧
  (∀ (n : Nat) (s : State), Ready s → bitAt s.snap.sources 1 = true → s.snap.armed = false →
    ∃ t, exec (.shutterInEdge n) s = .next t ∧ counter t cShutterMissed = counter s cShutterMissed + 1 ∧
      Only [.now, .pins, .counters] s t) ∧
  (∀ (n : Nat) (s : State), Ready s → bitAt s.snap.sources 1 = false →
    ∃ t, exec (.shutterInEdge n) s = .next t ∧ Only [.now, .pins] s t) ∧
  (∀ (n : Nat) (s : State), Ready s → bitAt s.snap.sources 2 = true → s.snap.faultScopeGroup = true →
    s.job.configured = true → isLead s = false → s.snap.armed = true →
    ∃ t, exec (.faultShutter n) s = .next t ∧ t.snap.armed = false ∧ t.snap.lastSource = 3 ∧
      t.sent = s.sent ++ [.shutterRequest 3] ∧ Only [.now, .sent, .snap] s t) ∧
  (∀ (n : Nat) (s : State), Ready s → bitAt s.snap.sources 2 = true → s.snap.faultScopeGroup = false → s.snap.armed = true →
    ∃ t, exec (.faultShutter n) s = .next t ∧ t.snap.armed = false ∧ t.snap.lastSource = 3 ∧ Only [.now, .snap] s t) ∧
  (∀ (n : Nat) m (src : Fin 16) (s : State), Ready s → isLead s = true → bitAt s.snap.sources 4 = true →
    s.snap.armed = true → s.snap.requests = [] →
    ∃ t, exec (.shutterRequest n m src) s = .next t ∧ t.snap.lastSource = 5 ∧
      t.snap.requests = [(m.val, s.tick.tickCount)] ∧
      t.sent = s.sent ++ [.shutterPacket (pack [(16, nextShutterId s), (4, src.val), (10, m.val)]) (sendDelays s)] ∧
      Only [.now, .sent, .snap] s t) ∧
  (∀ (n : Nat) m (src : Fin 16) (s : State) k, Ready s → isLead s = true → (k, s.tick.tickCount) ∈ s.snap.requests →
    ∃ t, exec (.shutterRequest n m src) s = .next t ∧ (m.val, s.tick.tickCount) ∈ t.snap.requests ∧
      t.snap.image = s.snap.image ∧ t.snap.armed = s.snap.armed ∧ Only [.now, .snap] s t) ∧
  (∀ (n : Nat) p (s : State), Ready s → isLead s = false → bitAt s.snap.sources 4 = true → s.snap.armed = true →
    ∃ t, exec (.glintShutter n p) s = .next t ∧ t.snap.lastId = p.toNat % 65536 ∧ t.snap.lastSource = 5 ∧
      t.snap.armed = false ∧ Only [.now, .snap] s t) ∧
  (∀ (n : Nat) (s : State), Ready s → s.snap.latching = true → s.snap.latchAt + 20000 ≤ n →
    ∃ t, exec (.bankLatchComplete n) s = .next t ∧ t.snap = { s.snap with
        latching := false, armed := s.snap.armed || s.snap.rearmPending, rearmPending := false } ∧ Only [.now, .snap] s t)

/-- Test access (R516, R517, Table 17.6), on a module with its input present: BYPASS shifts one bit, IDCODE gives the stepping's
code, SAMPLE captures the pins, EXTEST drives them while RST_N is low and else acts as BYPASS, and SNAP_READ gives eight bytes
of a bank that exists. None of them touches the rest of the module. -/
def Obligations.TestAccessReads : Prop :=
  (∀ (tdi : Bool) (s : State), s.boot.state ≠ .off →
    ∃ t, exec (.tapBypass tdi) s = .next t ∧ t.tap = { s.tap with instr := .bypass, bypassBit := tdi, driven := none } ∧
      Only [.tap] s t) ∧
  (∀ (s : State), s.boot.state ≠ .off →
    ∃ t, exec .tapIdcode s = .next t ∧ t.tap = { s.tap with instr := .idcode, driven := none, data := t.tap.data } ∧
      t.tap.data = (if s.flash.stepping = 0xA0 then 0x0D7184B7 else 0x1D7184B7) ∧ Only [.tap] s t) ∧
  (∀ (pins : BitVec 64) (s : State), s.boot.state ≠ .off →
    ∃ t, exec (.tapSamplePreload pins) s = .next t ∧
      t.tap = { s.tap with instr := .sample, boundary := pins.toNat, driven := none } ∧ Only [.tap] s t) ∧
  (∀ (v : BitVec 64) (s : State), s.boot.state ≠ .off → bitAt s.pins.asserted 0 = true →
    ∃ t, exec (.tapExtest v) s = .next t ∧
      t.tap = { s.tap with instr := .extest, boundary := v.toNat, driven := some v.toNat } ∧ Only [.tap] s t) ∧
  (∀ (v : BitVec 64) (s : State), s.boot.state ≠ .off → bitAt s.pins.asserted 0 = false →
    ∃ t, exec (.tapExtest v) s = .next t ∧ t.tap = { s.tap with instr := .bypass, driven := none } ∧ Only [.tap] s t) ∧
  (∀ (kind index offset : BitVec 32) (s : State), s.boot.state ≠ .off → s.snap.latching = false →
    index.toNat < bankCount kind.toNat → offset.toNat + 8 ≤ bankBytesOf kind.toNat →
    ∃ t, exec (.tapSnapRead kind index offset) s = .next t ∧ t.tap.instr = .snapRead ∧
      t.tap.data = ofBytesLE (bankRead s kind.toNat index.toNat offset.toNat 8) ∧ Only [.tap] s t) ∧
  (∀ (tdi : Bool) (s : State), s.boot.state = .off → exec (.tapBypass tdi) s = .next s)


/-! ## Pins (chapter 18) -/

/-- THR_N, TEMP_ALERT_N and HALT_N (R457, R458, R527): an accepted level is in PIN_STATE; THR_N bounds the ceiling by the
throttle floor and TEMP_ALERT_N by the safe cap; HALT_N at a member goes to its lead, which pauses the job once for all who ask
and lets it go on once none asks any more. -/
def Obligations.InputsAreHeeded : Prop :=
  (∀ (n : Nat) (s : State), Ready s →
    ∃ t, exec (.thrNAssert n) s = .next t ∧ t.power = { s.power with thr := true } ∧ bitAt t.pins.asserted 2 = true ∧
      softCeiling t ≤ ofEnvelope s.power.thrFloor ∧ Only [.now, .sent, .pins, .side, .power, .mem, .host] s t) ∧
  (∀ (n : Nat) (s : State), Ready s →
    ∃ t, exec (.thrNRelease n) s = .next t ∧ t.power = { s.power with thr := false } ∧ bitAt t.pins.asserted 2 = false ∧
      bitAt t.pins.stuck 2 = false ∧ Only [.now, .sent, .pins, .side, .power, .mem, .host] s t) ∧
  (∀ (n : Nat) (s : State), Ready s →
    ∃ t, exec (.tempAlertAssert n) s = .next t ∧ t.power = { s.power with alert := true } ∧
      bitAt t.pins.asserted 4 = true ∧ softCeiling t ≤ ofEnvelope s.power.safeCap ∧ glowTarget t = 0 ∧
      Only [.now, .sent, .pins, .side, .power, .mem, .host] s t) ∧
  (∀ (n : Nat) (s : State), Ready s →
    ∃ t, exec (.tempAlertRelease n) s = .next t ∧ t.power = { s.power with alert := false } ∧
      bitAt t.pins.asserted 4 = false ∧ bitAt t.pins.stuck 4 = false ∧
      Only [.now, .sent, .pins, .side, .power, .mem, .host] s t) ∧
  (∀ (n : Nat) (s : State), Ready s → s.job.started = true → isJobLead s = false →
    ∃ t, exec (.haltNAssert n) s = .next t ∧ t.sent = s.sent ++ [.halt (selfIndex s) false] ∧ bitAt t.pins.asserted 3 = true ∧
      t.pins.haltSent = true ∧ Only [.now, .sent, .pins] s t) ∧
  (∀ (n : Nat) (s : State), Ready s → s.job.started = false →
    ∃ t, exec (.haltNAssert n) s = .next t ∧ bitAt t.pins.asserted 3 = true ∧ Only [.now, .pins] s t) ∧
  (∀ (n : Nat) (s : State), Ready s → s.job.started = true → isJobLead s = true → s.job.haltPause = false →
    s.job.holds = [] → s.job.pauseFor = [] →
    ∃ t, exec (.haltNAssert n) s = .next t ∧ t.job = { s.job with haltPause := true, pauseFor := [1] } ∧
      t.sent = s.sent ++ [.distribute cmdHdrNone .jobPause] ∧ Only [.now, .sent, .pins, .job] s t) ∧
  (∀ (n : Nat) (s : State), Ready s → s.job.started = true → isJobLead s = false → s.pins.haltSent = true →
    ∃ t, exec (.haltNRelease n) s = .next t ∧ t.sent = s.sent ++ [.halt (selfIndex s) true] ∧ bitAt t.pins.asserted 3 = false ∧
      t.pins.haltSent = false ∧ Only [.now, .sent, .pins] s t) ∧
  (∀ (m : Fin 1024) (s : State), Ready s → isJobLead s = true → s.job.started = true → s.job.haltPause = true →
    ∃ t, exec (.haltRequest m false) s = .next t ∧ memberS t m.val = { memberS s m.val with halt := true } ∧
      (∀ k, k ≠ m.val → memberS t k = memberS s k) ∧ Only [.grp] s t) ∧
  (∀ (m : Fin 1024) (s : State), Ready s → isJobLead s = true → s.job.started = true → s.job.haltPause = true →
    s.job.hostPause = false → s.grp.members = mapSet {} [] m.val { halt := true } → bitAt s.pins.asserted 3 = false →
    ∃ t, exec (.haltRequest m true) s = .next t ∧ t.job.haltPause = false ∧ 1 ∉ t.job.holds ∧ 1 ∉ t.job.pauseFor ∧
      t.sent = s.sent ++ [.distribute cmdHdrNone .jobResume] ∧ Only [.sent, .job, .grp] s t) ∧
  (∀ (m : Fin 1024) (w : Bool) (s : State), Ready s → isLead s = true → isJobLead s = false → s.job.started = true →
    ∃ t, exec (.haltRequest m w) s = .next t ∧ t.sent = s.sent ++ [.halt m.val w] ∧ Only [.sent] s t)

/-- RST_N, PWR_GOOD and LEAD_SEL (R443, R525, R526, R528, R549): either held level keeps the module in reset with no start due;
the release of the last one latches LEAD_SEL and makes a start due; LEAD_SEL is reported once when it leaves its latched level.
A level held for its stuck time is recorded as Table 18.4 has it, and a rejected transition counts for its input. The class and
codes of these records are the model's numbering of Table 18.4's rows. -/
def Obligations.ResetPinsHold : Prop :=
  (∀ (n : Nat) (s : State), Ready s →
    ∃ t, exec (.rstNAssert n) s = .next t ∧ t.boot.state = .reset ∧ t.boot.startPending = false ∧
      bitAt t.pins.asserted 0 = true ∧ t.tick = State.reset.tick ∧ t.stream = State.reset.stream ∧
      t.mem = State.reset.mem ∧ t.cores = State.reset.cores ∧ t.flash = s.flash) ∧
  (∀ (n : Nat) (s : State), Ready s →
    ∃ t, exec (.pwrGoodFall n) s = .next t ∧ t.boot.state = .reset ∧ t.boot.startPending = false ∧
      bitAt t.pins.asserted 1 = false ∧ t.job = State.reset.job ∧ t.red = State.reset.red ∧ t.mem = State.reset.mem ∧
      t.flash = s.flash) ∧
  (∀ (n : Nat) (l : Bool) (s : State), s.boot.state = .reset → bitAt s.pins.asserted 0 = true →
    bitAt s.pins.asserted 1 = true →
    ∃ t, exec (.rstNRelease n l) s = .next t ∧ t.boot = { s.boot with startPending := true } ∧ t.pins.leadSel = l ∧
      bitAt t.pins.asserted 0 = false ∧ bitAt t.pins.asserted 1 = true ∧ bitAt t.pins.asserted 7 = l ∧
      Only [.now, .boot, .pins] s t) ∧
  (∀ (n : Nat) (l : Bool) (s : State), s.boot.state = .reset → bitAt s.pins.asserted 0 = true →
    bitAt s.pins.asserted 1 = false →
    ∃ t, exec (.rstNRelease n l) s = .next t ∧ t.pins.leadSel = l ∧ Only [.now, .pins] s t) ∧
  (∀ (n : Nat) (s : State), s.boot.state = .reset → bitAt s.pins.asserted 0 = false → bitAt s.pins.asserted 1 = false →
    ∃ t, exec (.pwrGoodRise n) s = .next t ∧ t.boot = { s.boot with startPending := true } ∧
      bitAt t.pins.asserted 1 = true ∧ bitAt t.pins.stuck 1 = false ∧ Only [.now, .boot, .pins] s t) ∧
  (∀ (n : Nat) (s : State), Ready s → s.pins.leadSelReported = false →
    ∃ t, exec (.leadSelChange n) s = .next t ∧ t.pins.leadSelReported = true ∧ bitAt t.pins.stuck 7 = true ∧
      (mapGet {} t.fault.records t.fault.head).cls = 11 ∧ Only [.now, .sent, .pins, .side, .fault, .grp, .mem, .host] s t) ∧
  (∀ (n : Nat) (s : State), Ready s → s.pins.leadSelReported = true →
    ∃ t, exec (.leadSelChange n) s = .next t ∧ Only [.now] s t) ∧
  (∀ (n : Nat) (s : State), Ready s → stuckDue .haltN (atTime n s) = true →
    ∃ t, exec (.pinStuck n .haltN) s = .next t ∧ bitAt t.pins.stuck 3 = true ∧
      (mapGet {} t.fault.records t.fault.head).cls = 11 ∧ (mapGet {} t.fault.records t.fault.head).code = 4 ∧
      Only [.now, .sent, .pins, .side, .fault, .grp, .mem, .host] s t) ∧
  (∀ (n : Nat) (s : State), bitAt s.pins.asserted 0 = true → stuckDue .rstN (atTime n s) = true →
    ∃ t, exec (.pinStuck n .rstN) s = .next t ∧ bitAt t.pins.stuck 0 = true ∧
      t.flash = { s.flash with rstHeld := true, heldDue := true } ∧ Only [.now, .flash, .pins] s t) ∧
  (∀ (n : Nat) (p : PinIn) (s : State), stuckDue p (atTime n s) = false → p ≠ .leadSel →
    ∃ t, exec (.pinStuck n p) s = .next t ∧ Only [.now] s t) ∧
  (∀ (p : PinIn) (s : State), s.boot.state ≠ .off →
    ∃ t, exec (.pinTransitionRejected p) s = .next t ∧
      counter t (cPinChatter + pinBit p) = counter s (cPinChatter + pinBit p) + 1 ∧
      (∀ k, k ≠ cPinChatter + pinBit p → counter t k = counter s k) ∧ Only [.counters] s t)


/-! ## Rules of the whole module -/

/-- A module that neither executes commands nor answers on the sideband (off, in reset, or starting: R443, R533) keeps its
working state: whatever the command, ticks, the lead's work, the job, stream, reduction and snapshots stand as they stood or at
their reset values, and, but for a start, which darkens the fields that it cuts off (R81), the group, cores and placement too.
-/
def Obligations.ModulesThatDoNotRunStandStill : Prop :=
  ∀ (c : Instr) (s t : State), exec c s = .next t → executes s = false → s.side.answering = false →
    (∀ p ∈ [Part.tick, .lead, .job, .stream, .red, .snap], p.same s t ∨ p.same State.reset t) ∧
      ((∀ n facts, c ≠ .moduleStart n facts) → ∀ p ∈ [Part.grp, .cores, .place], p.same s t ∨ p.same State.reset t)

/-- What is written is what is read: a tick message (Table 2.2), a beacon (Table 16.1), a header flit (Table 3.2), a unit map
entry (Table 3.5) and a contribution header (Table 10.3) read back, field by field, with every field at every value of its
width, and the CHECK of the first two passes. -/
def Obligations.EncodedMessagesReadBack : Prop :=
  (∀ (m : TickMsg), m.tickCount < 2 ^ 48 → m.step < 2 ^ 40 → m.slot < 2 ^ 24 → m.epoch < 2 ^ 16 → m.group < 16 →
    decodeTick (encodeTick m) = m ∧ tickCheckOk (encodeTick m) = true ∧ encodeTick m < 2 ^ 160) ∧
  (∀ (b : Beacon), b.member < 64 → b.group < 16 → b.tickCount < 2 ^ 48 → b.step < 2 ^ 40 → b.roll < 256 → b.state < 256 →
    -(2 ^ 31 : Int) ≤ b.rampReq → b.rampReq < 2 ^ 31 → b.outMask < 2 ^ 84 → b.tjMax < 256 → b.newFaults < 65536 →
    b.lastFault < 65536 →
    decodeBeacon (encodeBeacon b) = b ∧ beaconCheckOk (encodeBeacon b) = true ∧ encodeBeacon b < 2 ^ 384) ∧
  (∀ (f : Flit), f.fmt < 16 → f.type < 16 → f.vc < 8 → f.destBx < 256 → f.destBy < 512 → f.srcBx < 256 → f.srcBy < 512 →
    f.len < 512 → f.destKind < 4 → f.addr < 2 ^ 32 → f.tag < 65536 → f.ctx < 64 → f.comm < 64 →
    decodeFlit (encodeFlit f) = f) ∧
  (∀ (e : MapEntry), e.kind < 4 → e.level < 16 → e.parent < 65536 → e.target < 65536 → e.cw < 64 → e.ch < 64 →
    decodeMapEntry (encodeMapEntry e) = e) ∧
  (∀ (c : ContribHdr), c.block < 2 ^ 32 → c.piece < 8 → c.mode < 8 → c.shift < 16 → c.group < 16 → c.member < 64 →
    c.maxb < 64 → c.step < 65536 → c.roll < 256 → c.core < 16 → c.res < 65536 → c.ackAddr < 65536 →
    decodeContrib (encodeContrib c) = c)

/-- R462: below the drop-out level, which is the command REGULATOR_DROPOUT, the module is off at once, with nothing sent,
nothing journaled and stacked memory lost; the lead of its group, after three ticks and 2 ms without a beacon, has it LOST and a
rollback requested. -/
def Obligations.DropoutIsALostModule : Prop :=
  (∀ (s : State), s.boot.state ≠ .off →
    ∃ t, exec .regulatorDropout s = .next t ∧ t.boot.state = .off ∧ t.power.present = false ∧ t.sent = s.sent ∧
      t.flash.journal = s.flash.journal ∧ t.mem = State.reset.mem ∧ t.cores = State.reset.cores ∧
      t.stream = State.reset.stream ∧ t.side.answering = false ∧ t.pending = s.pending) ∧
  (∀ (s : State), s.boot.state = .off → exec .regulatorDropout s = .next s) ∧
  (∀ (n : Nat) (g : GroupId) (m : MemberId) (s : State) t0, Ready s → isJobLead s = true → s.job.started = true →
    g.val = 0 → m.val < s.job.members → m.val ≠ s.job.member → (memberS s m.val).state = .active →
    (memberS s m.val).beaconAt = some t0 → t0 + max (3 * periodNs s) 2000000 ≤ n →
    ∃ t, exec (.beaconSilence n g m) s = .next t ∧ (memberS t m.val).state = .lost ∧
      ({ cause := 1, source := selfIndex s }, t.now) ∈ t.grp.requests ∧
      (∀ k, k ≠ m.val → memberS t k = memberS s k) ∧ Only [.now, .sent, .side, .fault, .grp, .mem, .host] s t)

/-- R509: a reset arms the shutter and a start leaves it armed; a shutter of an enabled source latches only while ARMED is 1 and
clears it; one that arrives while ARMED is 0 leaves image and ARMED as they are and is counted, whichever its source; one that
starts a glint shutter is sent all the same; a write to REARM arms again. -/
def Obligations.ShutterIsArmedOnce : Prop :=
  (∀ (b : Bool) (s : State), (resetModule b s).snap.armed = true ∧ (powerOff s).snap.armed = true) ∧
  (∀ (n : Nat) (facts : StartFacts) (s : State), s.snap.armed = true →
    ∃ t, exec (.moduleStart n facts) s = .next t ∧ t.snap.armed = true) ∧
  (∀ (n : Nat) (s : State), Ready s → bitAt s.snap.sources 1 = true → s.snap.armed = true →
    ∃ t, exec (.shutterInEdge n) s = .next t ∧ t.snap.armed = false ∧ t.snap.image.isSome = true ∧
      Only [.now, .pins, .snap] s t) ∧
  (∀ (n : Nat) (s : State), Ready s → bitAt s.snap.sources 1 = true → s.snap.armed = false →
    ∃ t, exec (.shutterInEdge n) s = .next t ∧ t.snap = s.snap ∧
      counter t cShutterMissed = counter s cShutterMissed + 1 ∧ Only [.now, .pins, .counters] s t) ∧
  (∀ (code : Nat) (id : Option Nat) (s : State), bitAt s.snap.sources (code - 1) = true → s.snap.armed = false →
    (fireShutter code id s).snap = s.snap ∧ counter (fireShutter code id s) cShutterMissed = counter s cShutterMissed + 1 ∧
      Only [.counters] s (fireShutter code id s)) ∧
  (∀ (n : Nat) m (src : Fin 16) (s : State), Ready s → isLead s = true → bitAt s.snap.sources 4 = true →
    s.snap.armed = false → s.snap.requests = [] →
    ∃ t, exec (.shutterRequest n m src) s = .next t ∧ t.snap.image = s.snap.image ∧ t.snap.armed = false ∧
      t.sent = s.sent ++ [.shutterPacket (pack [(16, s.snap.lastId), (4, src.val), (10, m.val)]) (sendDelays s)] ∧
      counter t cShutterMissed = counter s cShutterMissed + 1 ∧ Only [.now, .sent, .snap, .counters] s t) ∧
  (∀ (s : State), Ready s → s.snap.latching = false →
    ∃ t, exec .rearm s = .next t ∧ t.snap = { s.snap with armed := true } ∧ Only [.snap] s t)
end

