-- ==== Sys2Proof/Laws/Maps.lean ====
section
/-! SUPPORT. Sparse stores: a write is read back, leaves every other number alone, and keeps the canonical form. -/

namespace Sys2Proof.Machine

variable {α : Type} [DecidableEq α] {d : α}

@[simp] theorem mapGet_nil (n : Nat) : mapGet d [] n = d := rfl

/-- Below its first number a canonical store reads as the default. -/
theorem mapGet_below {m : Map α} {lo n : Nat} (h : mapWfFrom d (some lo) m = true) (hn : n ≤ lo) : mapGet d m n = d := by
  induction m generalizing lo with
  | nil => rfl
  | cons e m ih =>
    obtain ⟨k, v⟩ := e
    simp [mapWfFrom] at h
    simp only [mapGet]
    rw [if_neg (by omega)]
    exact ih h.2 (by omega)

theorem mapWfFrom_mono {m : Map α} {lo lo' : Nat} (h : mapWfFrom d (some lo) m = true) (hl : lo' ≤ lo) :
    mapWfFrom d (some lo') m = true := by
  cases m with
  | nil => rfl
  | cons e m => obtain ⟨k, v⟩ := e; simp [mapWfFrom] at h ⊢; exact ⟨⟨by omega, h.1.2⟩, h.2⟩

theorem mapWf_of_from {m : Map α} {lo : Option Nat} (h : mapWfFrom d lo m = true) : mapWf d m = true := by
  cases m with
  | nil => rfl
  | cons e m => obtain ⟨k, v⟩ := e; simp [mapWf, mapWfFrom] at h ⊢; exact ⟨h.1.2, h.2⟩

theorem mapWfFrom_filter {m : Map α} {lo : Option Nat} {p : Nat → α → Bool} (h : mapWfFrom d lo m = true) :
    mapWfFrom d lo (mapFilter p m) = true := by
  induction m generalizing lo with
  | nil => rfl
  | cons e m ih =>
    obtain ⟨k, w⟩ := e
    simp only [mapWfFrom, Bool.and_eq_true, decide_eq_true_eq] at h
    simp only [mapFilter, List.filter_cons]
    split
    · simp only [mapWfFrom, Bool.and_eq_true, decide_eq_true_eq]; exact ⟨h.1, ih h.2⟩
    · cases lo with
      | none => exact mapWf_of_from (ih h.2)
      | some l => exact ih (mapWfFrom_mono h.2 (by have := h.1.1; simp at this; omega))

/-- A filter keeps the canonical form. -/
theorem mapFilter_wf {m : Map α} {p : Nat → α → Bool} (h : mapWf d m = true) : mapWf d (mapFilter p m) = true :=
  mapWfFrom_filter h

theorem mapWfFrom_mapPut {m : Map α} {lo : Option Nat} {n : Nat} {v : α} (h : mapWfFrom d lo m = true)
    (hn : ∀ l, lo = some l → l < n) (hv : v ≠ d) : mapWfFrom d lo (mapPut m n v) = true := by
  induction m generalizing lo with
  | nil => cases lo with
    | none => simp [mapPut, mapWfFrom, hv]
    | some l => simp [mapPut, mapWfFrom, hv, hn l rfl]
  | cons e m ih =>
    obtain ⟨k, w⟩ := e
    simp only [mapWfFrom, Bool.and_eq_true, decide_eq_true_eq] at h
    obtain ⟨⟨hk, hw⟩, hr⟩ := h
    simp only [mapPut]
    split
    · next hlt =>
      simp only [mapWfFrom, Bool.and_eq_true, decide_eq_true_eq]
      refine ⟨⟨?_, hv⟩, ⟨by simpa using hlt, hw⟩, hr⟩
      cases lo with
      | none => rfl
      | some l => simpa using hn l rfl
    · split
      · simp only [mapWfFrom, Bool.and_eq_true, decide_eq_true_eq]; exact ⟨⟨hk, hv⟩, hr⟩
      · simp only [mapWfFrom, Bool.and_eq_true, decide_eq_true_eq]
        exact ⟨⟨hk, hw⟩, ih hr (by intro l hl; cases hl; omega)⟩

/-- A write keeps the canonical form. -/
theorem mapSet_wf {m : Map α} {n : Nat} {v : α} (h : mapWf d m = true) : mapWf d (mapSet d m n v) = true := by
  unfold mapSet
  split
  · exact mapFilter_wf (p := fun k _ => decide (k ≠ n)) h
  · next hv => exact mapWfFrom_mapPut h (by simp) hv

theorem mapSetList_wf {m : Map α} {n : Nat} {vs : List α} (h : mapWf d m = true) :
    mapWf d (mapSetList d m n vs) = true := by
  induction vs generalizing m n with
  | nil => exact h
  | cons v vs ih => exact ih (mapSet_wf h)

theorem mapUpd_wf {m : Map α} {n : Nat} {f : α → α} (h : mapWf d m = true) : mapWf d (mapUpd d m n f) = true :=
  mapSet_wf h

theorem mapGet_erase_same {m : Map α} {n : Nat} : mapGet d (m.filter fun e => decide (e.1 ≠ n)) n = d := by
  induction m with
  | nil => rfl
  | cons e m ih =>
    obtain ⟨k, w⟩ := e
    by_cases hk : k = n
    · simpa [List.filter_cons, hk] using ih
    · simpa [List.filter_cons, hk, mapGet, Ne.symm hk] using ih

theorem mapGet_erase_ne {m : Map α} {n k : Nat} (hk : k ≠ n) :
    mapGet d (m.filter fun e => decide (e.1 ≠ n)) k = mapGet d m k := by
  induction m with
  | nil => rfl
  | cons e m ih =>
    obtain ⟨j, w⟩ := e
    by_cases hj : j = n
    · subst hj; simpa [List.filter_cons, mapGet, hk] using ih
    · simp only [List.filter_cons, hj, ne_eq, not_false_eq_true, decide_true, if_true, mapGet]
      rw [← ih]

theorem mapGet_mapPut {m : Map α} {n k : Nat} {v : α} :
    mapGet d (mapPut m n v) k = if k = n then v else mapGet d m k := by
  induction m with
  | nil => simp [mapPut, mapGet]
  | cons e m ih =>
    obtain ⟨j, w⟩ := e
    simp only [mapPut]
    split
    · simp [mapGet]
    · split
      · next heq => subst heq; simp only [mapGet]; split <;> rfl
      · next h1 h2 =>
        simp only [mapGet, ih]
        by_cases hk : k = j
        · subst hk; rw [if_pos rfl, if_neg (Ne.symm h2), if_pos rfl]
        · rw [if_neg hk, if_neg hk]

/-- A write is read back. -/
@[simp] theorem mapGet_mapSet_same {m : Map α} {n : Nat} {v : α} : mapGet d (mapSet d m n v) n = v := by
  unfold mapSet
  split
  · next hv => rw [hv]; exact mapGet_erase_same
  · simp [mapGet_mapPut]

/-- A write leaves every other number alone. -/
@[simp] theorem mapGet_mapSet_ne {m : Map α} {n k : Nat} {v : α} (hk : k ≠ n) :
    mapGet d (mapSet d m n v) k = mapGet d m k := by
  unfold mapSet
  split
  · exact mapGet_erase_ne hk
  · simp [mapGet_mapPut, hk]

end Sys2Proof.Machine
end

