-- ==== Sys2Proof/Laws/Grows.lean ====
section
/-! SUPPORT. What an operation does to the state, said coarsely and once: the parts it leaves alone (a bit mask of those it
may change), time and the count of free values never going back, messages never taken back, the fuses, and legality. Each
operation of the model has one lemma of this form (Laws/Grows*.lean), which its callers cite. -/

namespace Sys2Proof.Machine

/-- The bit of a part. -/
def Part.bit : Part → Nat
  | .now => 0
  | .freeCtr => 1
  | .sent => 2
  | .pending => 3
  | .flash => 4
  | .boot => 5
  | .pins => 6
  | .side => 7
  | .power => 8
  | .fault => 9
  | .snap => 10
  | .tap => 11
  | .tick => 12
  | .lead => 13
  | .job => 14
  | .grp => 15
  | .fabric => 16
  | .cores => 17
  | .stream => 18
  | .mem => 19
  | .red => 20
  | .beam => 21
  | .place => 22
  | .host => 23
  | .counters => 24
  | .cmdLatch => 25
  | .sideLatch => 26
  | .fieldWrites => 27

/-- The mask of a list of parts. -/
def maskOfParts (ps : List Part) : Nat := ps.foldl (fun m p => m ||| 2 ^ p.bit) 0

/-- `t` comes from `s` by an operation that changes at most the parts in the mask `m`. -/
structure Grows (m : Nat) (s t : State) : Prop where
  same : ∀ p : Part, m.testBit p.bit = false → p.same s t
  now : s.now ≤ t.now
  ctr : s.freeCtr ≤ t.freeCtr
  sent : s.sent <+: t.sent
  fuses : fuses t.flash = fuses s.flash
  legal : Legal s → Legal t

theorem Grows.refl (m : Nat) (s : State) : Grows m s s :=
  ⟨fun p _ => by cases p <;> rfl, Nat.le_refl _, Nat.le_refl _, List.prefix_rfl, rfl, id⟩

theorem Part.same_trans {p : Part} {s t u : State} (h : p.same s t) (k : p.same t u) : p.same s u := by
  cases p <;> simp_all [Part.same]

theorem Grows.trans {m : Nat} {s t u : State} (h : Grows m s t) (k : Grows m t u) : Grows m s u :=
  ⟨fun p hp => Part.same_trans (h.same p hp) (k.same p hp), Nat.le_trans h.now k.now, Nat.le_trans h.ctr k.ctr,
    h.sent.trans k.sent, k.fuses.trans h.fuses, fun l => k.legal (h.legal l)⟩

theorem Grows.trans' {m : Nat} {s t u : State} (k : Grows m t u) (h : Grows m s t) : Grows m s u := h.trans k

theorem Grows.mono {m n : Nat} {s t : State} (h : Grows m s t) (hm : m ||| n = n) : Grows n s t :=
  { h with same := fun p hp => h.same p (by
      rw [← hm, Nat.testBit_or, Bool.or_eq_false_iff] at hp; exact hp.1) }

/-- One more operation, whose mask lies in this one's. -/
theorem Grows.step {m n : Nat} {s t u : State} (k : Grows m t u) (hm : m ||| n = n) (h : Grows n s t) : Grows n s u :=
  h.trans (k.mono hm)

/-- The same inside an operation that runs another: `M` is its own mask, `m` that and the other's. -/
theorem Grows.step2 {M m n : Nat} {s t u : State} (k : Grows n t u) (hn : n ||| M = M) (hm : M ||| m = m)
    (h : Grows m s t) : Grows m s u := (k.mono hn).step hm h

theorem kept_of {b : Bool} {q : Prop} (h : b = true ∨ q) (k : b = false) : q := h.resolve_left (by simp [k])

/-- A record update: each field is the old one's or in the mask, and each range still holds. -/
theorem Grows.updLegal {m : Nat} {s t : State} (h : Grows m s t)
    {now : Nat}
    {freeCtr : Nat}
    {sent : List Msg}
    {pending : List Instr}
    {flash : FlashS}
    {boot : BootS}
    {pins : PinsS}
    {side : SidebandS}
    {power : PowerS}
    {fault : FaultS}
    {snap : SnapS}
    {tap : TapS}
    {tick : TickS}
    {lead : LeadS}
    {job : JobS}
    {grp : GroupS}
    {fabric : FabricS}
    {cores : Map CoreS}
    {stream : StreamS}
    {mem : MemS}
    {red : ReduceS}
    {beam : BeamS}
    {place : PlaceS}
    {host : HostS}
    {counters : Map Nat}
    {cmdLatch : Option (Nat × Nat)}
    {sideLatch : Option (Nat × Nat)}
    {fieldWrites : List (Nat × Nat)}
    (c0 : m.testBit 0 = true ∨ now = t.now)
    (c1 : m.testBit 1 = true ∨ freeCtr = t.freeCtr)
    (c2 : m.testBit 2 = true ∨ sent = t.sent)
    (c3 : m.testBit 3 = true ∨ pending = t.pending)
    (c4 : m.testBit 4 = true ∨ flash = t.flash)
    (c5 : m.testBit 5 = true ∨ boot = t.boot)
    (c6 : m.testBit 6 = true ∨ pins = t.pins)
    (c7 : m.testBit 7 = true ∨ side = t.side)
    (c8 : m.testBit 8 = true ∨ power = t.power)
    (c9 : m.testBit 9 = true ∨ fault = t.fault)
    (c10 : m.testBit 10 = true ∨ snap = t.snap)
    (c11 : m.testBit 11 = true ∨ tap = t.tap)
    (c12 : m.testBit 12 = true ∨ tick = t.tick)
    (c13 : m.testBit 13 = true ∨ lead = t.lead)
    (c14 : m.testBit 14 = true ∨ job = t.job)
    (c15 : m.testBit 15 = true ∨ grp = t.grp)
    (c16 : m.testBit 16 = true ∨ fabric = t.fabric)
    (c17 : m.testBit 17 = true ∨ cores = t.cores)
    (c18 : m.testBit 18 = true ∨ stream = t.stream)
    (c19 : m.testBit 19 = true ∨ mem = t.mem)
    (c20 : m.testBit 20 = true ∨ red = t.red)
    (c21 : m.testBit 21 = true ∨ beam = t.beam)
    (c22 : m.testBit 22 = true ∨ place = t.place)
    (c23 : m.testBit 23 = true ∨ host = t.host)
    (c24 : m.testBit 24 = true ∨ counters = t.counters)
    (c25 : m.testBit 25 = true ∨ cmdLatch = t.cmdLatch)
    (c26 : m.testBit 26 = true ∨ sideLatch = t.sideLatch)
    (c27 : m.testBit 27 = true ∨ fieldWrites = t.fieldWrites)
    (g0 : t.now ≤ now) (g1 : t.freeCtr ≤ freeCtr) (g2 : t.sent <+: sent) (g3 : Machine.fuses flash = Machine.fuses t.flash)
    (g4 : tickInRange t.tick → tickInRange tick) (g5 : streamInRange t.stream → streamInRange stream)
    (g6 : memoryInRange t.mem → memoryInRange mem) (g7 : reduceInRange t.red → reduceInRange red)
    (g8 : beamInRange t.beam → beamInRange beam) (g9 : powerInRange t.power → powerInRange power)
    (g10 : groupInRange t.grp → groupInRange grp) (g11 : snapInRange t.snap → snapInRange snap)
    (g12 : flashInRange t.flash → flashInRange flash) (g13 : headLegal t.fault → headLegal fault)
    (g14 : memCanonical t.mem → memCanonical mem) :
    Grows m s ⟨now, freeCtr, sent, pending, flash, boot, pins, side, power, fault, snap, tap, tick, lead, job, grp, fabric, cores, stream, mem, red, beam, place, host, counters, cmdLatch, sideLatch, fieldWrites⟩ := by
  refine h.trans ⟨fun p hp => ?_, g0, g1, g2, g3, fun l => ?_⟩
  · cases p
    · exact kept_of c0 hp
    · exact kept_of c1 hp
    · exact kept_of c2 hp
    · exact kept_of c3 hp
    · exact kept_of c4 hp
    · exact kept_of c5 hp
    · exact kept_of c6 hp
    · exact kept_of c7 hp
    · exact kept_of c8 hp
    · exact kept_of c9 hp
    · exact kept_of c10 hp
    · exact kept_of c11 hp
    · exact kept_of c12 hp
    · exact kept_of c13 hp
    · exact kept_of c14 hp
    · exact kept_of c15 hp
    · exact kept_of c16 hp
    · exact kept_of c17 hp
    · exact kept_of c18 hp
    · exact kept_of c19 hp
    · exact kept_of c20 hp
    · exact kept_of c21 hp
    · exact kept_of c22 hp
    · exact kept_of c23 hp
    · exact kept_of c24 hp
    · exact kept_of c25 hp
    · exact kept_of c26 hp
    · exact kept_of c27 hp
  · obtain ⟨⟨a, b, c, d, e, f, g, h, i⟩, j, k⟩ := l
    exact ⟨⟨g4 a, g5 b, g6 c, g7 d, g8 e, g9 f, g10 g, g11 h, g12 i⟩, g13 j, g14 k⟩

/-! ## The registers of a part that have a stated range -/

def tickKept (a b : TickS) : Prop := b.period = a.period ∧ b.grace = a.grace
def streamKept (a b : StreamS) : Prop := b.windowGib = a.windowGib ∧ b.repeatLimit = a.repeatLimit ∧ b.dualLimit = a.dualLimit
def memoryKept (a b : MemS) : Prop := b.systemGib = a.systemGib ∧ b.stashGib = a.stashGib ∧ b.kvGib = a.kvGib
def reduceKept (a b : ReduceS) : Prop := b.headroom = a.headroom ∧ b.nonfiniteSteps = a.nonfiniteSteps ∧ b.pruneHold = a.pruneHold ∧ b.refreshSteps = a.refreshSteps ∧ b.driftK = a.driftK ∧ b.grossK = a.grossK
def beamKept (a b : BeamS) : Prop := b.chunkCode = a.chunkCode ∧ b.collMib = a.collMib ∧ b.lateTicks = a.lateTicks
def powerKept (a b : PowerS) : Prop := b.ramp = a.ramp ∧ b.rampNext = a.rampNext ∧ b.groupRamp = a.groupRamp ∧ b.groupRampNext = a.groupRampNext ∧ b.capSoft = a.capSoft ∧ b.capHard = a.capHard ∧ b.safeCap = a.safeCap ∧ b.thrFloor = a.thrFloor ∧ b.glowFloor = a.glowFloor ∧ b.throttleC = a.throttleC
def groupKept (a b : GroupS) : Prop := b.suspectWindow = a.suspectWindow ∧ b.suspectPct = a.suspectPct ∧ b.reconcileSteps = a.reconcileSteps ∧ b.reconcileNext = a.reconcileNext
def snapKept (a b : SnapS) : Prop := b.sources = a.sources ∧ b.journalEntries = a.journalEntries
def flashKept (a b : FlashS) : Prop := b.freshStarts = a.freshStarts

theorem tickKept.inRange {a b : TickS} (h : tickKept a b) : tickInRange a → tickInRange b := by
  simp only [tickKept] at h; simp [tickInRange, h]
theorem streamKept.inRange {a b : StreamS} (h : streamKept a b) : streamInRange a → streamInRange b := by
  simp only [streamKept] at h; simp [streamInRange, h]
theorem memoryKept.inRange {a b : MemS} (h : memoryKept a b) : memoryInRange a → memoryInRange b := by
  simp only [memoryKept] at h; simp [memoryInRange, h]
theorem reduceKept.inRange {a b : ReduceS} (h : reduceKept a b) : reduceInRange a → reduceInRange b := by
  simp only [reduceKept] at h; simp [reduceInRange, h]
theorem beamKept.inRange {a b : BeamS} (h : beamKept a b) : beamInRange a → beamInRange b := by
  simp only [beamKept] at h; simp [beamInRange, h]
theorem powerKept.inRange {a b : PowerS} (h : powerKept a b) : powerInRange a → powerInRange b := by
  simp only [powerKept] at h; simp [powerInRange, h]
theorem groupKept.inRange {a b : GroupS} (h : groupKept a b) : groupInRange a → groupInRange b := by
  simp only [groupKept] at h; simp [groupInRange, h]
theorem snapKept.inRange {a b : SnapS} (h : snapKept a b) : snapInRange a → snapInRange b := by
  simp only [snapKept] at h; simp [snapInRange, h]
theorem flashKept.inRange {a b : FlashS} (h : flashKept a b) : flashInRange a → flashInRange b := by
  simp only [flashKept] at h; simp [flashInRange, h]

/-- What stacked memory holds: its bytes and the check bits of its units. -/
def memStore (m : MemS) : Map Byte × Map Nat := (m.bytes, m.checks)

theorem memStore.canonical {a b : MemS} (h : memStore b = memStore a) : memCanonical a → memCanonical b := by
  simp only [memStore, Prod.mk.injEq] at h; simp [memCanonical, h]

/-- A record update that leaves the registers of stated range and the contents of memory alone. -/
theorem Grows.upd {m : Nat} {s t : State} (h : Grows m s t)
    {now : Nat}
    {freeCtr : Nat}
    {sent : List Msg}
    {pending : List Instr}
    {flash : FlashS}
    {boot : BootS}
    {pins : PinsS}
    {side : SidebandS}
    {power : PowerS}
    {fault : FaultS}
    {snap : SnapS}
    {tap : TapS}
    {tick : TickS}
    {lead : LeadS}
    {job : JobS}
    {grp : GroupS}
    {fabric : FabricS}
    {cores : Map CoreS}
    {stream : StreamS}
    {mem : MemS}
    {red : ReduceS}
    {beam : BeamS}
    {place : PlaceS}
    {host : HostS}
    {counters : Map Nat}
    {cmdLatch : Option (Nat × Nat)}
    {sideLatch : Option (Nat × Nat)}
    {fieldWrites : List (Nat × Nat)}
    (c0 : m.testBit 0 = true ∨ now = t.now)
    (c1 : m.testBit 1 = true ∨ freeCtr = t.freeCtr)
    (c2 : m.testBit 2 = true ∨ sent = t.sent)
    (c3 : m.testBit 3 = true ∨ pending = t.pending)
    (c4 : m.testBit 4 = true ∨ flash = t.flash)
    (c5 : m.testBit 5 = true ∨ boot = t.boot)
    (c6 : m.testBit 6 = true ∨ pins = t.pins)
    (c7 : m.testBit 7 = true ∨ side = t.side)
    (c8 : m.testBit 8 = true ∨ power = t.power)
    (c9 : m.testBit 9 = true ∨ fault = t.fault)
    (c10 : m.testBit 10 = true ∨ snap = t.snap)
    (c11 : m.testBit 11 = true ∨ tap = t.tap)
    (c12 : m.testBit 12 = true ∨ tick = t.tick)
    (c13 : m.testBit 13 = true ∨ lead = t.lead)
    (c14 : m.testBit 14 = true ∨ job = t.job)
    (c15 : m.testBit 15 = true ∨ grp = t.grp)
    (c16 : m.testBit 16 = true ∨ fabric = t.fabric)
    (c17 : m.testBit 17 = true ∨ cores = t.cores)
    (c18 : m.testBit 18 = true ∨ stream = t.stream)
    (c19 : m.testBit 19 = true ∨ mem = t.mem)
    (c20 : m.testBit 20 = true ∨ red = t.red)
    (c21 : m.testBit 21 = true ∨ beam = t.beam)
    (c22 : m.testBit 22 = true ∨ place = t.place)
    (c23 : m.testBit 23 = true ∨ host = t.host)
    (c24 : m.testBit 24 = true ∨ counters = t.counters)
    (c25 : m.testBit 25 = true ∨ cmdLatch = t.cmdLatch)
    (c26 : m.testBit 26 = true ∨ sideLatch = t.sideLatch)
    (c27 : m.testBit 27 = true ∨ fieldWrites = t.fieldWrites)
    (g0 : t.now ≤ now) (g1 : t.freeCtr ≤ freeCtr) (g2 : t.sent <+: sent) (g3 : Machine.fuses flash = Machine.fuses t.flash)
    (g4 : tickKept t.tick tick) (g5 : streamKept t.stream stream) (g6 : memoryKept t.mem mem) (g7 : reduceKept t.red red)
    (g8 : beamKept t.beam beam) (g9 : powerKept t.power power) (g10 : groupKept t.grp grp) (g11 : snapKept t.snap snap)
    (g12 : flashKept t.flash flash) (g13 : fault.head = t.fault.head) (g14 : memStore mem = memStore t.mem) :
    Grows m s ⟨now, freeCtr, sent, pending, flash, boot, pins, side, power, fault, snap, tap, tick, lead, job, grp, fabric, cores, stream, mem, red, beam, place, host, counters, cmdLatch, sideLatch, fieldWrites⟩ :=
  h.updLegal c0 c1 c2 c3 c4 c5 c6 c7 c8 c9 c10 c11 c12 c13 c14 c15 c16 c17 c18 c19 c20 c21 c22 c23 c24 c25 c26 c27 g0 g1 g2 g3 g4.inRange g5.inRange g6.inRange g7.inRange
    g8.inRange g9.inRange g10.inRange g11.inRange g12.inRange (by simp [headLegal, g13]) (memStore.canonical g14)

/-! ## The forms that operations are built of -/

/-- New contents of stacked memory in canonical form. -/
theorem Grows.memCells {m : Nat} {s t : State} {b : Map Byte} {c : Map Nat} (h : Grows m s t) (hm : m.testBit 19 = true)
    (hb : memCanonical t.mem → mapWf 0#8 b = true ∧ mapWf 0 c = true) :
    Grows m s { t with mem := { t.mem with bytes := b, checks := c } } :=
  h.updLegal (.inr rfl) (.inr rfl) (.inr rfl) (.inr rfl) (.inr rfl) (.inr rfl) (.inr rfl) (.inr rfl) (.inr rfl) (.inr rfl)
    (.inr rfl) (.inr rfl) (.inr rfl) (.inr rfl) (.inr rfl) (.inr rfl) (.inr rfl) (.inr rfl) (.inr rfl) (.inl hm) (.inr rfl)
    (.inr rfl) (.inr rfl) (.inr rfl) (.inr rfl) (.inr rfl) (.inr rfl) (.inr rfl) (Nat.le_refl _) (Nat.le_refl _)
    List.prefix_rfl rfl id id id id id id id id id id hb

theorem clamp_between {lo hi v : Nat} (h : lo ≤ hi) : between lo hi (clamp lo hi v) := by
  unfold clamp between; split <;> (try split) <;> omega

/-- A value that waited, where there is one, else the one in force. -/
theorem getD_of {p : Nat → Prop} {o : Option Nat} {d : Nat} (h : ∀ v ∈ o, p v) (hd : p d) : p (o.getD d) := by
  cases o with
  | none => exact hd
  | some v => exact h v rfl

theorem none_of {p : Nat → Prop} : ∀ v ∈ (none : Option Nat), p v := fun _ h => nomatch h

/-! ## The parts right after reset -/

theorem reset_tick_inRange : tickInRange State.reset.tick := by unfold tickInRange; decide
theorem reset_stream_inRange : streamInRange State.reset.stream := by unfold streamInRange; decide
theorem reset_memory_inRange : memoryInRange State.reset.mem := by unfold memoryInRange; decide
theorem reset_reduce_inRange : reduceInRange State.reset.red := by unfold reduceInRange; decide
theorem reset_beam_inRange : beamInRange State.reset.beam := by unfold beamInRange; decide
theorem reset_power_inRange (a b : Bool) : powerInRange { State.reset.power with thr := a, alert := b } :=
  powerKept.inRange (a := State.reset.power) ⟨rfl, rfl, rfl, rfl, rfl, rfl, rfl, rfl, rfl, rfl⟩
    (by unfold powerInRange; decide)
theorem reset_group_inRange : groupInRange State.reset.grp := by unfold groupInRange; decide
theorem reset_snap_inRange : snapInRange State.reset.snap := by unfold snapInRange; decide
theorem reset_flash_inRange : flashInRange State.reset.flash := by unfold flashInRange; decide
theorem reset_head_legal : headLegal State.reset.fault := by unfold headLegal; decide
theorem reset_mem_canonical : memCanonical State.reset.mem := by unfold memCanonical; decide

theorem Grows.each {α : Type} {m : Nat} {s t : State} {l : List α} {f : α → State → State} (h : Grows m s t)
    (hf : ∀ a u, Grows m u (f a u)) : Grows m s (each l f t) := by
  unfold Machine.each
  induction l generalizing t with
  | nil => exact h
  | cons a l ih => exact ih (h.trans (hf a t))

theorem Grows.ite {m : Nat} {s t u : State} {c : Prop} [Decidable c] (h : c → Grows m s t) (k : ¬c → Grows m s u) :
    Grows m s (if c then t else u) := by split <;> first | exact h ‹_› | exact k ‹_›

theorem Grows.whenReady {m : Nat} {s t : State} {f : State → State} (h : Grows m s t) (hf : Grows m t (f t)) :
    Grows m s (whenReady f t) := by unfold Machine.whenReady; split <;> first | exact h.trans hf | exact h

theorem Grows.whenPowered {m : Nat} {s t : State} {f : State → State} (h : Grows m s t) (hf : Grows m t (f t)) :
    Grows m s (whenPowered f t) := by unfold Machine.whenPowered; split <;> first | exact h | exact h.trans hf

theorem Grows.ifReady {m : Nat} {s t : State} {f : State → State} (h : Grows m s t) (hf : Grows m t (f t)) :
    Grows m s (ifReady f t) := by unfold Machine.ifReady; split <;> first | exact h.trans hf | exact h

theorem Grows.whenAnswering {m : Nat} {s t : State} {f : State → State} (h : Grows m s t) (hf : Grows m t (f t)) :
    Grows m s (whenAnswering f t) := by unfold Machine.whenAnswering; split <;> first | exact h.trans hf | exact h

/-- The effect an instruction's issue answers, one that goes on waiting included. -/
def ActGrows (m : Nat) (s : State) : Act → Prop
  | .act f => Grows m s (f s)
  | .wait f => Grows m s (f s)
  | _ => True

theorem act_grows {m : Nat} {s : State} {a : Act} {f : State → State} (e : a = .act f) (h : ActGrows m s a) :
    Grows m s (f s) := by subst e; exact h
theorem wait_grows {m : Nat} {s : State} {a : Act} {f : State → State} (e : a = .wait f) (h : ActGrows m s a) :
    Grows m s (f s) := by subst e; exact h
theorem ActGrows.act {m : Nat} {s : State} {f : State → State} (h : Grows m s (f s)) : ActGrows m s (.act f) := h
theorem ActGrows.ite {m : Nat} {s : State} {c : Prop} [Decidable c] {a b : Act} (h : c → ActGrows m s a)
    (k : ¬c → ActGrows m s b) : ActGrows m s (if c then a else b) := by split <;> first | exact h ‹_› | exact k ‹_›

end Sys2Proof.Machine
end

