-- ==== Sys2Proof/Laws/GrowsOps.lean ====
section
/-! SUPPORT. What each operation of Machine/Ops.lean does to the state, in the form of `Grows`. -/

namespace Sys2Proof.Machine

theorem atTime_grows (x1) (s : State) : Grows 1 s (atTime x1 s) := by
  exact Grows.upd (Grows.refl _ s) (.inl rfl) (.inr rfl) (.inr rfl) (.inr rfl) (.inr rfl) (.inr rfl) (.inr rfl) (.inr rfl) (.inr rfl) (.inr rfl) (.inr rfl) (.inr rfl) (.inr rfl) (.inr rfl) (.inr rfl) (.inr rfl) (.inr rfl) (.inr rfl) (.inr rfl) (.inr rfl) (.inr rfl) (.inr rfl) (.inr rfl) (.inr rfl) (.inr rfl) (.inr rfl) (.inr rfl) (.inr rfl)
    (Nat.le_max_left ..) (Nat.le_refl _) List.prefix_rfl rfl ⟨rfl, rfl⟩ ⟨rfl, rfl, rfl⟩ ⟨rfl, rfl, rfl⟩ ⟨rfl, rfl, rfl, rfl, rfl, rfl⟩ ⟨rfl, rfl, rfl⟩ ⟨rfl, rfl, rfl, rfl, rfl, rfl, rfl, rfl, rfl, rfl⟩ ⟨rfl, rfl, rfl, rfl⟩ ⟨rfl, rfl⟩ rfl rfl rfl

theorem count_grows (x1 x2) (s : State) : Grows 16777216 s (count x1 x2 s) := by
  unfold count
  try dsimp only
  repeat' first
    | with_reducible exact Grows.refl _ _
    | (with_reducible apply Grows.ite) <;> intro _
    | dsimp only
    | split
    | refine Grows.upd ?_ (.inr rfl) (.inr rfl) (.inr rfl) (.inr rfl) (.inr rfl) (.inr rfl) (.inr rfl) (.inr rfl) (.inr rfl) (.inr rfl) (.inr rfl) (.inr rfl) (.inr rfl) (.inr rfl) (.inr rfl) (.inr rfl) (.inr rfl) (.inr rfl) (.inr rfl) (.inr rfl) (.inr rfl) (.inr rfl) (.inr rfl) (.inr rfl) (.inl rfl) (.inr rfl) (.inr rfl) (.inr rfl)
        (Nat.le_refl _) (Nat.le_refl _) List.prefix_rfl rfl ⟨rfl, rfl⟩ ⟨rfl, rfl, rfl⟩ ⟨rfl, rfl, rfl⟩ ⟨rfl, rfl, rfl, rfl, rfl, rfl⟩ ⟨rfl, rfl, rfl⟩ ⟨rfl, rfl, rfl, rfl, rfl, rfl, rfl, rfl, rfl, rfl⟩ ⟨rfl, rfl, rfl, rfl⟩ ⟨rfl, rfl⟩ rfl rfl rfl

theorem setCounter_grows (x1 x2) (s : State) : Grows 16777216 s (setCounter x1 x2 s) := by
  unfold setCounter
  try dsimp only
  repeat' first
    | with_reducible exact Grows.refl _ _
    | (with_reducible apply Grows.ite) <;> intro _
    | dsimp only
    | split
    | refine Grows.upd ?_ (.inr rfl) (.inr rfl) (.inr rfl) (.inr rfl) (.inr rfl) (.inr rfl) (.inr rfl) (.inr rfl) (.inr rfl) (.inr rfl) (.inr rfl) (.inr rfl) (.inr rfl) (.inr rfl) (.inr rfl) (.inr rfl) (.inr rfl) (.inr rfl) (.inr rfl) (.inr rfl) (.inr rfl) (.inr rfl) (.inr rfl) (.inr rfl) (.inl rfl) (.inr rfl) (.inr rfl) (.inr rfl)
        (Nat.le_refl _) (Nat.le_refl _) List.prefix_rfl rfl ⟨rfl, rfl⟩ ⟨rfl, rfl, rfl⟩ ⟨rfl, rfl, rfl⟩ ⟨rfl, rfl, rfl, rfl, rfl, rfl⟩ ⟨rfl, rfl, rfl⟩ ⟨rfl, rfl, rfl, rfl, rfl, rfl, rfl, rfl, rfl, rfl⟩ ⟨rfl, rfl, rfl, rfl⟩ ⟨rfl, rfl⟩ rfl rfl rfl

theorem emit_grows (x1) (s : State) : Grows 4 s (emit x1 s) := by
  exact Grows.upd (Grows.refl _ s) (.inr rfl) (.inr rfl) (.inl rfl) (.inr rfl) (.inr rfl) (.inr rfl) (.inr rfl) (.inr rfl) (.inr rfl) (.inr rfl) (.inr rfl) (.inr rfl) (.inr rfl) (.inr rfl) (.inr rfl) (.inr rfl) (.inr rfl) (.inr rfl) (.inr rfl) (.inr rfl) (.inr rfl) (.inr rfl) (.inr rfl) (.inr rfl) (.inr rfl) (.inr rfl) (.inr rfl) (.inr rfl)
    (Nat.le_refl _) (Nat.le_refl _) (List.prefix_append ..) rfl ⟨rfl, rfl⟩ ⟨rfl, rfl, rfl⟩ ⟨rfl, rfl, rfl⟩ ⟨rfl, rfl, rfl, rfl, rfl, rfl⟩ ⟨rfl, rfl, rfl⟩ ⟨rfl, rfl, rfl, rfl, rfl, rfl, rfl, rfl, rfl, rfl⟩ ⟨rfl, rfl, rfl, rfl⟩ ⟨rfl, rfl⟩ rfl rfl rfl

theorem emitAll_grows (x1) (s : State) : Grows 4 s (emitAll x1 s) := by
  exact Grows.upd (Grows.refl _ s) (.inr rfl) (.inr rfl) (.inl rfl) (.inr rfl) (.inr rfl) (.inr rfl) (.inr rfl) (.inr rfl) (.inr rfl) (.inr rfl) (.inr rfl) (.inr rfl) (.inr rfl) (.inr rfl) (.inr rfl) (.inr rfl) (.inr rfl) (.inr rfl) (.inr rfl) (.inr rfl) (.inr rfl) (.inr rfl) (.inr rfl) (.inr rfl) (.inr rfl) (.inr rfl) (.inr rfl) (.inr rfl)
    (Nat.le_refl _) (Nat.le_refl _) (List.prefix_append ..) rfl ⟨rfl, rfl⟩ ⟨rfl, rfl, rfl⟩ ⟨rfl, rfl, rfl⟩ ⟨rfl, rfl, rfl, rfl, rfl, rfl⟩ ⟨rfl, rfl, rfl⟩ ⟨rfl, rfl, rfl, rfl, rfl, rfl, rfl, rfl, rfl, rfl⟩ ⟨rfl, rfl, rfl, rfl⟩ ⟨rfl, rfl⟩ rfl rfl rfl

theorem drawFree_grows (s : State) : Grows 2 s (drawFree s).2 := by
  exact Grows.upd (Grows.refl _ s) (.inr rfl) (.inl rfl) (.inr rfl) (.inr rfl) (.inr rfl) (.inr rfl) (.inr rfl) (.inr rfl) (.inr rfl) (.inr rfl) (.inr rfl) (.inr rfl) (.inr rfl) (.inr rfl) (.inr rfl) (.inr rfl) (.inr rfl) (.inr rfl) (.inr rfl) (.inr rfl) (.inr rfl) (.inr rfl) (.inr rfl) (.inr rfl) (.inr rfl) (.inr rfl) (.inr rfl) (.inr rfl)
    (Nat.le_refl _) (Nat.le_succ _) List.prefix_rfl rfl ⟨rfl, rfl⟩ ⟨rfl, rfl, rfl⟩ ⟨rfl, rfl, rfl⟩ ⟨rfl, rfl, rfl, rfl, rfl, rfl⟩ ⟨rfl, rfl, rfl⟩ ⟨rfl, rfl, rfl, rfl, rfl, rfl, rfl, rfl, rfl, rfl⟩ ⟨rfl, rfl, rfl, rfl⟩ ⟨rfl, rfl⟩ rfl rfl rfl

theorem drawFree_out {s t : State} {y} (h : drawFree s = (y, t)) : Grows 2 s t := by
  have := drawFree_grows s; rw [h] at this; exact this

theorem pulseAt_grows (x1) (s : State) : Grows 64 s (pulseAt x1 s) := by
  unfold pulseAt
  try dsimp only
  repeat' first
    | with_reducible exact Grows.refl _ _
    | (with_reducible apply Grows.ite) <;> intro _
    | dsimp only
    | split
    | refine Grows.upd ?_ (.inr rfl) (.inr rfl) (.inr rfl) (.inr rfl) (.inr rfl) (.inr rfl) (.inl rfl) (.inr rfl) (.inr rfl) (.inr rfl) (.inr rfl) (.inr rfl) (.inr rfl) (.inr rfl) (.inr rfl) (.inr rfl) (.inr rfl) (.inr rfl) (.inr rfl) (.inr rfl) (.inr rfl) (.inr rfl) (.inr rfl) (.inr rfl) (.inr rfl) (.inr rfl) (.inr rfl) (.inr rfl)
        (Nat.le_refl _) (Nat.le_refl _) List.prefix_rfl rfl ⟨rfl, rfl⟩ ⟨rfl, rfl, rfl⟩ ⟨rfl, rfl, rfl⟩ ⟨rfl, rfl, rfl, rfl, rfl, rfl⟩ ⟨rfl, rfl, rfl⟩ ⟨rfl, rfl, rfl, rfl, rfl, rfl, rfl, rfl, rfl, rfl⟩ ⟨rfl, rfl, rfl, rfl⟩ ⟨rfl, rfl⟩ rfl rfl rfl

theorem setField_grows (x1 x2) (s : State) : Grows 65536 s (setField x1 x2 s) := by
  unfold setField
  try dsimp only
  repeat' first
    | with_reducible exact Grows.refl _ _
    | (with_reducible apply Grows.ite) <;> intro _
    | dsimp only
    | split
    | refine Grows.upd ?_ (.inr rfl) (.inr rfl) (.inr rfl) (.inr rfl) (.inr rfl) (.inr rfl) (.inr rfl) (.inr rfl) (.inr rfl) (.inr rfl) (.inr rfl) (.inr rfl) (.inr rfl) (.inr rfl) (.inr rfl) (.inr rfl) (.inl rfl) (.inr rfl) (.inr rfl) (.inr rfl) (.inr rfl) (.inr rfl) (.inr rfl) (.inr rfl) (.inr rfl) (.inr rfl) (.inr rfl) (.inr rfl)
        (Nat.le_refl _) (Nat.le_refl _) List.prefix_rfl rfl ⟨rfl, rfl⟩ ⟨rfl, rfl, rfl⟩ ⟨rfl, rfl, rfl⟩ ⟨rfl, rfl, rfl, rfl, rfl, rfl⟩ ⟨rfl, rfl, rfl⟩ ⟨rfl, rfl, rfl, rfl, rfl, rfl, rfl, rfl, rfl, rfl⟩ ⟨rfl, rfl, rfl, rfl⟩ ⟨rfl, rfl⟩ rfl rfl rfl

theorem setCore_grows (x1 x2) (s : State) : Grows 131072 s (setCore x1 x2 s) := by
  unfold setCore
  try dsimp only
  repeat' first
    | with_reducible exact Grows.refl _ _
    | (with_reducible apply Grows.ite) <;> intro _
    | dsimp only
    | split
    | refine Grows.upd ?_ (.inr rfl) (.inr rfl) (.inr rfl) (.inr rfl) (.inr rfl) (.inr rfl) (.inr rfl) (.inr rfl) (.inr rfl) (.inr rfl) (.inr rfl) (.inr rfl) (.inr rfl) (.inr rfl) (.inr rfl) (.inr rfl) (.inr rfl) (.inl rfl) (.inr rfl) (.inr rfl) (.inr rfl) (.inr rfl) (.inr rfl) (.inr rfl) (.inr rfl) (.inr rfl) (.inr rfl) (.inr rfl)
        (Nat.le_refl _) (Nat.le_refl _) List.prefix_rfl rfl ⟨rfl, rfl⟩ ⟨rfl, rfl, rfl⟩ ⟨rfl, rfl, rfl⟩ ⟨rfl, rfl, rfl, rfl, rfl, rfl⟩ ⟨rfl, rfl, rfl⟩ ⟨rfl, rfl, rfl, rfl, rfl, rfl, rfl, rfl, rfl, rfl⟩ ⟨rfl, rfl, rfl, rfl⟩ ⟨rfl, rfl⟩ rfl rfl rfl

theorem updCore_grows (x1 x2) (s : State) : Grows 131072 s (updCore x1 x2 s) := by
  unfold updCore
  try dsimp only
  repeat' first
    | with_reducible exact Grows.refl _ _
    | (with_reducible apply Grows.step (setCore_grows ..)) <;> [exact rfl; skip]
    | (with_reducible apply Grows.ite) <;> intro _
    | dsimp only
    | split

theorem setLink_grows (x1 x2) (s : State) : Grows 65536 s (setLink x1 x2 s) := by
  unfold setLink
  try dsimp only
  repeat' first
    | with_reducible exact Grows.refl _ _
    | (with_reducible apply Grows.ite) <;> intro _
    | dsimp only
    | split
    | refine Grows.upd ?_ (.inr rfl) (.inr rfl) (.inr rfl) (.inr rfl) (.inr rfl) (.inr rfl) (.inr rfl) (.inr rfl) (.inr rfl) (.inr rfl) (.inr rfl) (.inr rfl) (.inr rfl) (.inr rfl) (.inr rfl) (.inr rfl) (.inl rfl) (.inr rfl) (.inr rfl) (.inr rfl) (.inr rfl) (.inr rfl) (.inr rfl) (.inr rfl) (.inr rfl) (.inr rfl) (.inr rfl) (.inr rfl)
        (Nat.le_refl _) (Nat.le_refl _) List.prefix_rfl rfl ⟨rfl, rfl⟩ ⟨rfl, rfl, rfl⟩ ⟨rfl, rfl, rfl⟩ ⟨rfl, rfl, rfl, rfl, rfl, rfl⟩ ⟨rfl, rfl, rfl⟩ ⟨rfl, rfl, rfl, rfl, rfl, rfl, rfl, rfl, rfl, rfl⟩ ⟨rfl, rfl, rfl, rfl⟩ ⟨rfl, rfl⟩ rfl rfl rfl

theorem setUnitRun_grows (x1 x2) (s : State) : Grows 4096 s (setUnitRun x1 x2 s) := by
  unfold setUnitRun
  try dsimp only
  repeat' first
    | with_reducible exact Grows.refl _ _
    | (with_reducible apply Grows.ite) <;> intro _
    | dsimp only
    | split
    | refine Grows.upd ?_ (.inr rfl) (.inr rfl) (.inr rfl) (.inr rfl) (.inr rfl) (.inr rfl) (.inr rfl) (.inr rfl) (.inr rfl) (.inr rfl) (.inr rfl) (.inr rfl) (.inl rfl) (.inr rfl) (.inr rfl) (.inr rfl) (.inr rfl) (.inr rfl) (.inr rfl) (.inr rfl) (.inr rfl) (.inr rfl) (.inr rfl) (.inr rfl) (.inr rfl) (.inr rfl) (.inr rfl) (.inr rfl)
        (Nat.le_refl _) (Nat.le_refl _) List.prefix_rfl rfl (by refine ⟨?_, ?_⟩ <;> first | with_reducible rfl | rfl) ⟨rfl, rfl, rfl⟩ ⟨rfl, rfl, rfl⟩ ⟨rfl, rfl, rfl, rfl, rfl, rfl⟩ ⟨rfl, rfl, rfl⟩ ⟨rfl, rfl, rfl, rfl, rfl, rfl, rfl, rfl, rfl, rfl⟩ ⟨rfl, rfl, rfl, rfl⟩ ⟨rfl, rfl⟩ rfl rfl rfl

theorem setLane_grows (x1 x2) (s : State) : Grows 2097152 s (setLane x1 x2 s) := by
  unfold setLane
  try dsimp only
  repeat' first
    | with_reducible exact Grows.refl _ _
    | (with_reducible apply Grows.ite) <;> intro _
    | dsimp only
    | split
    | refine Grows.upd ?_ (.inr rfl) (.inr rfl) (.inr rfl) (.inr rfl) (.inr rfl) (.inr rfl) (.inr rfl) (.inr rfl) (.inr rfl) (.inr rfl) (.inr rfl) (.inr rfl) (.inr rfl) (.inr rfl) (.inr rfl) (.inr rfl) (.inr rfl) (.inr rfl) (.inr rfl) (.inr rfl) (.inr rfl) (.inl rfl) (.inr rfl) (.inr rfl) (.inr rfl) (.inr rfl) (.inr rfl) (.inr rfl)
        (Nat.le_refl _) (Nat.le_refl _) List.prefix_rfl rfl ⟨rfl, rfl⟩ ⟨rfl, rfl, rfl⟩ ⟨rfl, rfl, rfl⟩ ⟨rfl, rfl, rfl, rfl, rfl, rfl⟩ (by refine ⟨?_, ?_, ?_⟩ <;> first | with_reducible rfl | rfl) ⟨rfl, rfl, rfl, rfl, rfl, rfl, rfl, rfl, rfl, rfl⟩ ⟨rfl, rfl, rfl, rfl⟩ ⟨rfl, rfl⟩ rfl rfl rfl

theorem setStreamLane_grows (x1 x2) (s : State) : Grows 262144 s (setStreamLane x1 x2 s) := by
  unfold setStreamLane
  try dsimp only
  repeat' first
    | with_reducible exact Grows.refl _ _
    | (with_reducible apply Grows.ite) <;> intro _
    | dsimp only
    | split
    | refine Grows.upd ?_ (.inr rfl) (.inr rfl) (.inr rfl) (.inr rfl) (.inr rfl) (.inr rfl) (.inr rfl) (.inr rfl) (.inr rfl) (.inr rfl) (.inr rfl) (.inr rfl) (.inr rfl) (.inr rfl) (.inr rfl) (.inr rfl) (.inr rfl) (.inr rfl) (.inl rfl) (.inr rfl) (.inr rfl) (.inr rfl) (.inr rfl) (.inr rfl) (.inr rfl) (.inr rfl) (.inr rfl) (.inr rfl)
        (Nat.le_refl _) (Nat.le_refl _) List.prefix_rfl rfl ⟨rfl, rfl⟩ (by refine ⟨?_, ?_, ?_⟩ <;> first | with_reducible rfl | rfl) ⟨rfl, rfl, rfl⟩ ⟨rfl, rfl, rfl, rfl, rfl, rfl⟩ ⟨rfl, rfl, rfl⟩ ⟨rfl, rfl, rfl, rfl, rfl, rfl, rfl, rfl, rfl, rfl⟩ ⟨rfl, rfl, rfl, rfl⟩ ⟨rfl, rfl⟩ rfl rfl rfl

theorem setSlot_grows (x1 x2) (s : State) : Grows 262144 s (setSlot x1 x2 s) := by
  unfold setSlot
  try dsimp only
  repeat' first
    | with_reducible exact Grows.refl _ _
    | (with_reducible apply Grows.ite) <;> intro _
    | dsimp only
    | split
    | refine Grows.upd ?_ (.inr rfl) (.inr rfl) (.inr rfl) (.inr rfl) (.inr rfl) (.inr rfl) (.inr rfl) (.inr rfl) (.inr rfl) (.inr rfl) (.inr rfl) (.inr rfl) (.inr rfl) (.inr rfl) (.inr rfl) (.inr rfl) (.inr rfl) (.inr rfl) (.inl rfl) (.inr rfl) (.inr rfl) (.inr rfl) (.inr rfl) (.inr rfl) (.inr rfl) (.inr rfl) (.inr rfl) (.inr rfl)
        (Nat.le_refl _) (Nat.le_refl _) List.prefix_rfl rfl ⟨rfl, rfl⟩ (by refine ⟨?_, ?_, ?_⟩ <;> first | with_reducible rfl | rfl) ⟨rfl, rfl, rfl⟩ ⟨rfl, rfl, rfl, rfl, rfl, rfl⟩ ⟨rfl, rfl, rfl⟩ ⟨rfl, rfl, rfl, rfl, rfl, rfl, rfl, rfl, rfl, rfl⟩ ⟨rfl, rfl, rfl, rfl⟩ ⟨rfl, rfl⟩ rfl rfl rfl

theorem setBlock_grows (x1 x2) (s : State) : Grows 1048576 s (setBlock x1 x2 s) := by
  unfold setBlock
  try dsimp only
  repeat' first
    | with_reducible exact Grows.refl _ _
    | (with_reducible apply Grows.ite) <;> intro _
    | dsimp only
    | split
    | refine Grows.upd ?_ (.inr rfl) (.inr rfl) (.inr rfl) (.inr rfl) (.inr rfl) (.inr rfl) (.inr rfl) (.inr rfl) (.inr rfl) (.inr rfl) (.inr rfl) (.inr rfl) (.inr rfl) (.inr rfl) (.inr rfl) (.inr rfl) (.inr rfl) (.inr rfl) (.inr rfl) (.inr rfl) (.inl rfl) (.inr rfl) (.inr rfl) (.inr rfl) (.inr rfl) (.inr rfl) (.inr rfl) (.inr rfl)
        (Nat.le_refl _) (Nat.le_refl _) List.prefix_rfl rfl ⟨rfl, rfl⟩ ⟨rfl, rfl, rfl⟩ ⟨rfl, rfl, rfl⟩ (by refine ⟨?_, ?_, ?_, ?_, ?_, ?_⟩ <;> first | with_reducible rfl | rfl) ⟨rfl, rfl, rfl⟩ ⟨rfl, rfl, rfl, rfl, rfl, rfl, rfl, rfl, rfl, rfl⟩ ⟨rfl, rfl, rfl, rfl⟩ ⟨rfl, rfl⟩ rfl rfl rfl

theorem setOther_grows (x1 x2) (s : State) : Grows 1048576 s (setOther x1 x2 s) := by
  unfold setOther
  try dsimp only
  repeat' first
    | with_reducible exact Grows.refl _ _
    | (with_reducible apply Grows.ite) <;> intro _
    | dsimp only
    | split
    | refine Grows.upd ?_ (.inr rfl) (.inr rfl) (.inr rfl) (.inr rfl) (.inr rfl) (.inr rfl) (.inr rfl) (.inr rfl) (.inr rfl) (.inr rfl) (.inr rfl) (.inr rfl) (.inr rfl) (.inr rfl) (.inr rfl) (.inr rfl) (.inr rfl) (.inr rfl) (.inr rfl) (.inr rfl) (.inl rfl) (.inr rfl) (.inr rfl) (.inr rfl) (.inr rfl) (.inr rfl) (.inr rfl) (.inr rfl)
        (Nat.le_refl _) (Nat.le_refl _) List.prefix_rfl rfl ⟨rfl, rfl⟩ ⟨rfl, rfl, rfl⟩ ⟨rfl, rfl, rfl⟩ (by refine ⟨?_, ?_, ?_, ?_, ?_, ?_⟩ <;> first | with_reducible rfl | rfl) ⟨rfl, rfl, rfl⟩ ⟨rfl, rfl, rfl, rfl, rfl, rfl, rfl, rfl, rfl, rfl⟩ ⟨rfl, rfl, rfl, rfl⟩ ⟨rfl, rfl⟩ rfl rfl rfl

theorem setCur_grows (x1 x2) (s : State) : Grows 1048576 s (setCur x1 x2 s) := by
  unfold setCur
  try dsimp only
  repeat' first
    | with_reducible exact Grows.refl _ _
    | (with_reducible apply Grows.ite) <;> intro _
    | dsimp only
    | split
    | refine Grows.upd ?_ (.inr rfl) (.inr rfl) (.inr rfl) (.inr rfl) (.inr rfl) (.inr rfl) (.inr rfl) (.inr rfl) (.inr rfl) (.inr rfl) (.inr rfl) (.inr rfl) (.inr rfl) (.inr rfl) (.inr rfl) (.inr rfl) (.inr rfl) (.inr rfl) (.inr rfl) (.inr rfl) (.inl rfl) (.inr rfl) (.inr rfl) (.inr rfl) (.inr rfl) (.inr rfl) (.inr rfl) (.inr rfl)
        (Nat.le_refl _) (Nat.le_refl _) List.prefix_rfl rfl ⟨rfl, rfl⟩ ⟨rfl, rfl, rfl⟩ ⟨rfl, rfl, rfl⟩ (by refine ⟨?_, ?_, ?_, ?_, ?_, ?_⟩ <;> first | with_reducible rfl | rfl) ⟨rfl, rfl, rfl⟩ ⟨rfl, rfl, rfl, rfl, rfl, rfl, rfl, rfl, rfl, rfl⟩ ⟨rfl, rfl, rfl, rfl⟩ ⟨rfl, rfl⟩ rfl rfl rfl

theorem setMember_grows (x1 x2) (s : State) : Grows 32768 s (setMember x1 x2 s) := by
  unfold setMember
  try dsimp only
  repeat' first
    | with_reducible exact Grows.refl _ _
    | (with_reducible apply Grows.ite) <;> intro _
    | dsimp only
    | split
    | refine Grows.upd ?_ (.inr rfl) (.inr rfl) (.inr rfl) (.inr rfl) (.inr rfl) (.inr rfl) (.inr rfl) (.inr rfl) (.inr rfl) (.inr rfl) (.inr rfl) (.inr rfl) (.inr rfl) (.inr rfl) (.inr rfl) (.inl rfl) (.inr rfl) (.inr rfl) (.inr rfl) (.inr rfl) (.inr rfl) (.inr rfl) (.inr rfl) (.inr rfl) (.inr rfl) (.inr rfl) (.inr rfl) (.inr rfl)
        (Nat.le_refl _) (Nat.le_refl _) List.prefix_rfl rfl ⟨rfl, rfl⟩ ⟨rfl, rfl, rfl⟩ ⟨rfl, rfl, rfl⟩ ⟨rfl, rfl, rfl, rfl, rfl, rfl⟩ ⟨rfl, rfl, rfl⟩ ⟨rfl, rfl, rfl, rfl, rfl, rfl, rfl, rfl, rfl, rfl⟩ (by refine ⟨?_, ?_, ?_, ?_⟩ <;> first | with_reducible rfl | rfl) ⟨rfl, rfl⟩ rfl rfl rfl

theorem setPort_grows (x1 x2) (s : State) : Grows 8388608 s (setPort x1 x2 s) := by
  unfold setPort
  try dsimp only
  repeat' first
    | with_reducible exact Grows.refl _ _
    | (with_reducible apply Grows.ite) <;> intro _
    | dsimp only
    | split
    | refine Grows.upd ?_ (.inr rfl) (.inr rfl) (.inr rfl) (.inr rfl) (.inr rfl) (.inr rfl) (.inr rfl) (.inr rfl) (.inr rfl) (.inr rfl) (.inr rfl) (.inr rfl) (.inr rfl) (.inr rfl) (.inr rfl) (.inr rfl) (.inr rfl) (.inr rfl) (.inr rfl) (.inr rfl) (.inr rfl) (.inr rfl) (.inr rfl) (.inl rfl) (.inr rfl) (.inr rfl) (.inr rfl) (.inr rfl)
        (Nat.le_refl _) (Nat.le_refl _) List.prefix_rfl rfl ⟨rfl, rfl⟩ ⟨rfl, rfl, rfl⟩ ⟨rfl, rfl, rfl⟩ ⟨rfl, rfl, rfl, rfl, rfl, rfl⟩ ⟨rfl, rfl, rfl⟩ ⟨rfl, rfl, rfl, rfl, rfl, rfl, rfl, rfl, rfl, rfl⟩ ⟨rfl, rfl, rfl, rfl⟩ ⟨rfl, rfl⟩ rfl rfl rfl

theorem setCtx_grows (x1 x2) (s : State) : Grows 8388608 s (setCtx x1 x2 s) := by
  unfold setCtx
  try dsimp only
  repeat' first
    | with_reducible exact Grows.refl _ _
    | (with_reducible apply Grows.ite) <;> intro _
    | dsimp only
    | split
    | refine Grows.upd ?_ (.inr rfl) (.inr rfl) (.inr rfl) (.inr rfl) (.inr rfl) (.inr rfl) (.inr rfl) (.inr rfl) (.inr rfl) (.inr rfl) (.inr rfl) (.inr rfl) (.inr rfl) (.inr rfl) (.inr rfl) (.inr rfl) (.inr rfl) (.inr rfl) (.inr rfl) (.inr rfl) (.inr rfl) (.inr rfl) (.inr rfl) (.inl rfl) (.inr rfl) (.inr rfl) (.inr rfl) (.inr rfl)
        (Nat.le_refl _) (Nat.le_refl _) List.prefix_rfl rfl ⟨rfl, rfl⟩ ⟨rfl, rfl, rfl⟩ ⟨rfl, rfl, rfl⟩ ⟨rfl, rfl, rfl, rfl, rfl, rfl⟩ ⟨rfl, rfl, rfl⟩ ⟨rfl, rfl, rfl, rfl, rfl, rfl, rfl, rfl, rfl, rfl⟩ ⟨rfl, rfl, rfl, rfl⟩ ⟨rfl, rfl⟩ rfl rfl rfl

theorem setFieldPower_grows (x1 x2) (s : State) : Grows 256 s (setFieldPower x1 x2 s) := by
  unfold setFieldPower
  try dsimp only
  repeat' first
    | with_reducible exact Grows.refl _ _
    | (with_reducible apply Grows.ite) <;> intro _
    | dsimp only
    | split
    | refine Grows.upd ?_ (.inr rfl) (.inr rfl) (.inr rfl) (.inr rfl) (.inr rfl) (.inr rfl) (.inr rfl) (.inr rfl) (.inl rfl) (.inr rfl) (.inr rfl) (.inr rfl) (.inr rfl) (.inr rfl) (.inr rfl) (.inr rfl) (.inr rfl) (.inr rfl) (.inr rfl) (.inr rfl) (.inr rfl) (.inr rfl) (.inr rfl) (.inr rfl) (.inr rfl) (.inr rfl) (.inr rfl) (.inr rfl)
        (Nat.le_refl _) (Nat.le_refl _) List.prefix_rfl rfl ⟨rfl, rfl⟩ ⟨rfl, rfl, rfl⟩ ⟨rfl, rfl, rfl⟩ ⟨rfl, rfl, rfl, rfl, rfl, rfl⟩ ⟨rfl, rfl, rfl⟩ (by refine ⟨?_, ?_, ?_, ?_, ?_, ?_, ?_, ?_, ?_, ?_⟩ <;> first | with_reducible rfl | rfl) ⟨rfl, rfl, rfl, rfl⟩ ⟨rfl, rfl⟩ rfl rfl rfl

theorem setMemByte_grows (x1 x2 x3) (s : State) : Grows 524288 s (setMemByte x1 x2 x3 s) := by
  exact Grows.memCells (Grows.refl _ s) rfl fun h => ⟨mapSet_wf h.1, h.2⟩

theorem sealUnit_grows (x1 x2) (s : State) : Grows 524288 s (sealUnit x1 x2 s) := by
  exact Grows.memCells (Grows.refl _ s) rfl fun h => ⟨h.1, mapSet_wf h.2⟩

theorem memWrite_grows (x1 x2 x3) (s : State) : Grows 524288 s (memWrite x1 x2 x3 s) := by
  unfold memWrite
  apply Grows.each
  · exact Grows.memCells (Grows.refl _ s) rfl fun h => ⟨mapSetList_wf h.1, h.2⟩
  · intro _ _; exact (sealUnit_grows ..).mono rfl

theorem systemBytes_grows (x1 x2) (s : State) : Grows 524288 s (systemBytes x1 x2 s) := by
  fun_induction systemBytes x1 x2 s
  all_goals try dsimp only
  all_goals repeat' first
    | with_reducible exact Grows.refl _ _
    | with_reducible refine Grows.trans ?_ (by assumption)
    | (with_reducible apply Grows.step (setMemByte_grows ..)) <;> [exact rfl; skip]
    | (with_reducible apply Grows.ite) <;> intro _
    | dsimp only
    | split
    | refine Grows.upd ?_ (.inr rfl) (.inr rfl) (.inr rfl) (.inr rfl) (.inr rfl) (.inr rfl) (.inr rfl) (.inr rfl) (.inr rfl) (.inr rfl) (.inr rfl) (.inr rfl) (.inr rfl) (.inr rfl) (.inr rfl) (.inr rfl) (.inr rfl) (.inr rfl) (.inr rfl) (.inl rfl) (.inr rfl) (.inr rfl) (.inr rfl) (.inr rfl) (.inr rfl) (.inr rfl) (.inr rfl) (.inr rfl)
        (Nat.le_refl _) (Nat.le_refl _) List.prefix_rfl rfl ⟨rfl, rfl⟩ ⟨rfl, rfl, rfl⟩ (by refine ⟨?_, ?_, ?_⟩ <;> first | with_reducible rfl | rfl) ⟨rfl, rfl, rfl, rfl, rfl, rfl⟩ ⟨rfl, rfl, rfl⟩ ⟨rfl, rfl, rfl, rfl, rfl, rfl, rfl, rfl, rfl, rfl⟩ ⟨rfl, rfl, rfl, rfl⟩ ⟨rfl, rfl⟩ rfl rfl (by first | with_reducible rfl | rfl)

theorem systemWrite_grows (x1 x2) (s : State) : Grows 524288 s (systemWrite x1 x2 s) := by
  unfold systemWrite
  try dsimp only
  repeat' first
    | with_reducible exact Grows.refl _ _
    | (with_reducible apply Grows.each) <;> [skip; intro _ _]
    | (with_reducible apply Grows.step (sealUnit_grows ..)) <;> [exact rfl; skip]
    | (with_reducible apply Grows.step (systemBytes_grows ..)) <;> [exact rfl; skip]
    | (with_reducible apply Grows.ite) <;> intro _
    | dsimp only
    | split

theorem sealStriped_grows (x1 x2 x3) (s : State) : Grows 524288 s (sealStriped x1 x2 x3 s) := by
  unfold sealStriped
  try dsimp only
  repeat' first
    | with_reducible exact Grows.refl _ _
    | (with_reducible apply Grows.each) <;> [skip; intro _ _]
    | (with_reducible apply Grows.step (sealUnit_grows ..)) <;> [exact rfl; skip]
    | (with_reducible apply Grows.ite) <;> intro _
    | dsimp only
    | split

theorem stripedBytes_grows (x1 x2 x3) (s : State) : Grows 524288 s (stripedBytes x1 x2 x3 s) := by
  fun_induction stripedBytes x1 x2 x3 s
  all_goals try dsimp only
  all_goals repeat' first
    | with_reducible exact Grows.refl _ _
    | with_reducible refine Grows.trans ?_ (by assumption)
    | (with_reducible apply Grows.step (setMemByte_grows ..)) <;> [exact rfl; skip]
    | (with_reducible apply Grows.ite) <;> intro _
    | dsimp only
    | split
    | refine Grows.upd ?_ (.inr rfl) (.inr rfl) (.inr rfl) (.inr rfl) (.inr rfl) (.inr rfl) (.inr rfl) (.inr rfl) (.inr rfl) (.inr rfl) (.inr rfl) (.inr rfl) (.inr rfl) (.inr rfl) (.inr rfl) (.inr rfl) (.inr rfl) (.inr rfl) (.inr rfl) (.inl rfl) (.inr rfl) (.inr rfl) (.inr rfl) (.inr rfl) (.inr rfl) (.inr rfl) (.inr rfl) (.inr rfl)
        (Nat.le_refl _) (Nat.le_refl _) List.prefix_rfl rfl ⟨rfl, rfl⟩ ⟨rfl, rfl, rfl⟩ (by refine ⟨?_, ?_, ?_⟩ <;> first | with_reducible rfl | rfl) ⟨rfl, rfl, rfl, rfl, rfl, rfl⟩ ⟨rfl, rfl, rfl⟩ ⟨rfl, rfl, rfl, rfl, rfl, rfl, rfl, rfl, rfl, rfl⟩ ⟨rfl, rfl, rfl, rfl⟩ ⟨rfl, rfl⟩ rfl rfl (by first | with_reducible rfl | rfl)

theorem stripedWrite_grows (x1 x2 x3) (s : State) : Grows 524288 s (stripedWrite x1 x2 x3 s) := by
  unfold stripedWrite
  try dsimp only
  repeat' first
    | with_reducible exact Grows.refl _ _
    | (with_reducible apply Grows.step (sealStriped_grows ..)) <;> [exact rfl; skip]
    | (with_reducible apply Grows.step (stripedBytes_grows ..)) <;> [exact rfl; skip]
    | (with_reducible apply Grows.ite) <;> intro _
    | dsimp only
    | split

theorem loseHomed_grows (x1) (s : State) : Grows 1048576 s (loseHomed x1 s) := by
  unfold loseHomed
  try dsimp only
  repeat' first
    | with_reducible exact Grows.refl _ _
    | (with_reducible apply Grows.ite) <;> intro _
    | dsimp only
    | split
    | refine Grows.upd ?_ (.inr rfl) (.inr rfl) (.inr rfl) (.inr rfl) (.inr rfl) (.inr rfl) (.inr rfl) (.inr rfl) (.inr rfl) (.inr rfl) (.inr rfl) (.inr rfl) (.inr rfl) (.inr rfl) (.inr rfl) (.inr rfl) (.inr rfl) (.inr rfl) (.inr rfl) (.inr rfl) (.inl rfl) (.inr rfl) (.inr rfl) (.inr rfl) (.inr rfl) (.inr rfl) (.inr rfl) (.inr rfl)
        (Nat.le_refl _) (Nat.le_refl _) List.prefix_rfl rfl ⟨rfl, rfl⟩ ⟨rfl, rfl, rfl⟩ ⟨rfl, rfl, rfl⟩ (by refine ⟨?_, ?_, ?_, ?_, ?_, ?_⟩ <;> first | with_reducible rfl | rfl) ⟨rfl, rfl, rfl⟩ ⟨rfl, rfl, rfl, rfl, rfl, rfl, rfl, rfl, rfl, rfl⟩ ⟨rfl, rfl, rfl, rfl⟩ ⟨rfl, rfl⟩ rfl rfl rfl

end Sys2Proof.Machine
end

