-- ==== Sys2Proof/Laws/GrowsRecords.lean ====
section
/-! SUPPORT. What each operation of Machine/Records.lean does to the state, in the form of `Grows`. -/

namespace Sys2Proof.Machine

theorem nextRecord_legal (f : FaultS) : headLegal f → nextRecord f.head ≤ 255 ∨ nextRecord f.head = 0xFFFF := by
  unfold nextRecord headLegal; intro _; split <;> omega

theorem recordFault_grows (r) (s : State) : Grows 33280 s (recordFault r s) := by
  exact Grows.updLegal (Grows.refl _ s) (.inr rfl) (.inr rfl) (.inr rfl) (.inr rfl) (.inr rfl) (.inr rfl) (.inr rfl) (.inr rfl) (.inr rfl) (.inl rfl) (.inr rfl) (.inr rfl) (.inr rfl) (.inr rfl) (.inr rfl) (.inl rfl) (.inr rfl) (.inr rfl) (.inr rfl) (.inr rfl) (.inr rfl) (.inr rfl) (.inr rfl) (.inr rfl) (.inr rfl) (.inr rfl) (.inr rfl) (.inr rfl)
    (Nat.le_refl _) (Nat.le_refl _) List.prefix_rfl rfl id id id id id id (groupKept.inRange ⟨rfl, rfl, rfl, rfl⟩) id id (nextRecord_legal _) id
theorem clearRecord_grows (x1) (s : State) : Grows 512 s (clearRecord x1 s) := by
  unfold clearRecord
  try dsimp only
  repeat' first
    | with_reducible exact Grows.refl _ _
    | (with_reducible apply Grows.ite) <;> intro _
    | dsimp only
    | split
    | refine Grows.upd ?_ (.inr rfl) (.inr rfl) (.inr rfl) (.inr rfl) (.inr rfl) (.inr rfl) (.inr rfl) (.inr rfl) (.inr rfl) (.inl rfl) (.inr rfl) (.inr rfl) (.inr rfl) (.inr rfl) (.inr rfl) (.inr rfl) (.inr rfl) (.inr rfl) (.inr rfl) (.inr rfl) (.inr rfl) (.inr rfl) (.inr rfl) (.inr rfl) (.inr rfl) (.inr rfl) (.inr rfl) (.inr rfl)
        (Nat.le_refl _) (Nat.le_refl _) List.prefix_rfl rfl ⟨rfl, rfl⟩ ⟨rfl, rfl, rfl⟩ ⟨rfl, rfl, rfl⟩ ⟨rfl, rfl, rfl, rfl, rfl, rfl⟩ ⟨rfl, rfl, rfl⟩ ⟨rfl, rfl, rfl, rfl, rfl, rfl, rfl, rfl, rfl, rfl⟩ ⟨rfl, rfl, rfl, rfl⟩ ⟨rfl, rfl⟩ rfl (by first | with_reducible rfl | rfl) rfl

theorem setRing_grows (x1 x2) (s : State) : Grows 8912896 s (setRing x1 x2 s) := by
  unfold setRing
  try dsimp only
  repeat' first
    | with_reducible exact Grows.refl _ _
    | (with_reducible apply Grows.step (systemWrite_grows ..)) <;> [exact rfl; skip]
    | (with_reducible apply Grows.ite) <;> intro _
    | dsimp only
    | split
    | refine Grows.upd ?_ (.inr rfl) (.inr rfl) (.inr rfl) (.inr rfl) (.inr rfl) (.inr rfl) (.inr rfl) (.inr rfl) (.inr rfl) (.inr rfl) (.inr rfl) (.inr rfl) (.inr rfl) (.inr rfl) (.inr rfl) (.inr rfl) (.inr rfl) (.inr rfl) (.inr rfl) (.inl rfl) (.inr rfl) (.inr rfl) (.inr rfl) (.inl rfl) (.inr rfl) (.inr rfl) (.inr rfl) (.inr rfl)
        (Nat.le_refl _) (Nat.le_refl _) List.prefix_rfl rfl ⟨rfl, rfl⟩ ⟨rfl, rfl, rfl⟩ (by refine ⟨?_, ?_, ?_⟩ <;> first | with_reducible rfl | rfl) ⟨rfl, rfl, rfl, rfl, rfl, rfl⟩ ⟨rfl, rfl, rfl⟩ ⟨rfl, rfl, rfl, rfl, rfl, rfl, rfl, rfl, rfl, rfl⟩ ⟨rfl, rfl, rfl, rfl⟩ ⟨rfl, rfl⟩ rfl rfl (by first | with_reducible rfl | rfl)

theorem ringNotice_grows (x1) (s : State) : Grows 8912900 s (ringNotice x1 s) := by
  unfold ringNotice
  try dsimp only
  repeat' first
    | with_reducible exact Grows.refl _ _
    | (with_reducible apply Grows.step (emit_grows ..)) <;> [exact rfl; skip]
    | (with_reducible apply Grows.step (setRing_grows ..)) <;> [exact rfl; skip]
    | (with_reducible apply Grows.ite) <;> intro _
    | dsimp only
    | split

theorem ringEntry_grows (x1 x2) (s : State) : Grows 8912896 s (ringEntry x1 x2 s) := by
  unfold ringEntry
  try dsimp only
  repeat' first
    | with_reducible exact Grows.refl _ _
    | (with_reducible apply Grows.step (systemWrite_grows ..)) <;> [exact rfl; skip]
    | (with_reducible apply Grows.step (setRing_grows ..)) <;> [exact rfl; skip]
    | (with_reducible apply Grows.ite) <;> intro _
    | dsimp only
    | split

theorem ringReply_grows (x1 x2 x3) (s : State) : Grows 8912900 s (ringReply x1 x2 x3 s) := by
  unfold ringReply
  try dsimp only
  repeat' first
    | with_reducible exact Grows.refl _ _
    | (with_reducible apply Grows.step (ringNotice_grows ..)) <;> [exact rfl; skip]
    | (with_reducible apply Grows.each) <;> [skip; intro _ _]
    | (with_reducible apply Grows.step (ringEntry_grows ..)) <;> [exact rfl; skip]
    | (with_reducible apply Grows.ite) <;> intro _
    | dsimp only
    | split

theorem eventToRing_grows (x1 x2 x3) (s : State) : Grows 8912900 s (eventToRing x1 x2 x3 s) := by
  unfold eventToRing
  try dsimp only
  repeat' first
    | with_reducible exact Grows.refl _ _
    | (with_reducible apply Grows.step (ringReply_grows ..)) <;> [exact rfl; skip]
    | (with_reducible apply Grows.step (setRing_grows ..)) <;> [exact rfl; skip]
    | (with_reducible apply Grows.ite) <;> intro _
    | dsimp only
    | split

theorem eventCtx_grows (x1 x2 x3 x4) (s : State) : Grows 8913028 s (eventCtx x1 x2 x3 x4 s) := by
  unfold eventCtx
  try dsimp only
  repeat' first
    | with_reducible exact Grows.refl _ _
    | (with_reducible apply Grows.each) <;> [skip; intro _ _]
    | (with_reducible apply Grows.step (eventToRing_grows ..)) <;> [exact rfl; skip]
    | (with_reducible apply Grows.ite) <;> intro _
    | dsimp only
    | split
    | refine Grows.upd ?_ (.inr rfl) (.inr rfl) (.inl rfl) (.inr rfl) (.inr rfl) (.inr rfl) (.inr rfl) (.inl rfl) (.inr rfl) (.inr rfl) (.inr rfl) (.inr rfl) (.inr rfl) (.inr rfl) (.inr rfl) (.inr rfl) (.inr rfl) (.inr rfl) (.inr rfl) (.inl rfl) (.inr rfl) (.inr rfl) (.inr rfl) (.inl rfl) (.inr rfl) (.inr rfl) (.inr rfl) (.inr rfl)
        (Nat.le_refl _) (Nat.le_refl _) List.prefix_rfl rfl ⟨rfl, rfl⟩ ⟨rfl, rfl, rfl⟩ (by refine ⟨?_, ?_, ?_⟩ <;> first | with_reducible rfl | rfl) ⟨rfl, rfl, rfl, rfl, rfl, rfl⟩ ⟨rfl, rfl, rfl⟩ ⟨rfl, rfl, rfl, rfl, rfl, rfl, rfl, rfl, rfl, rfl⟩ ⟨rfl, rfl, rfl, rfl⟩ ⟨rfl, rfl⟩ rfl rfl (by first | with_reducible rfl | rfl)

theorem event_grows (x1 x2) (s : State) : Grows 8913028 s (event x1 x2 s) := by
  unfold event
  try dsimp only
  repeat' first
    | with_reducible exact Grows.refl _ _
    | (with_reducible apply Grows.step (eventCtx_grows ..)) <;> [exact rfl; skip]
    | (with_reducible apply Grows.ite) <;> intro _
    | dsimp only
    | split

theorem eventsLost_grows (x1) (s : State) : Grows 8912900 s (eventsLost x1 s) := by
  unfold eventsLost
  try dsimp only
  repeat' first
    | with_reducible exact Grows.refl _ _
    | (with_reducible apply Grows.step (ringReply_grows ..)) <;> [exact rfl; skip]
    | (with_reducible apply Grows.step (setRing_grows ..)) <;> [exact rfl; skip]
    | (with_reducible apply Grows.ite) <;> intro _
    | dsimp only
    | split
    | refine Grows.upd ?_ (.inr rfl) (.inr rfl) (.inl rfl) (.inr rfl) (.inr rfl) (.inr rfl) (.inr rfl) (.inr rfl) (.inr rfl) (.inr rfl) (.inr rfl) (.inr rfl) (.inr rfl) (.inr rfl) (.inr rfl) (.inr rfl) (.inr rfl) (.inr rfl) (.inr rfl) (.inl rfl) (.inr rfl) (.inr rfl) (.inr rfl) (.inl rfl) (.inr rfl) (.inr rfl) (.inr rfl) (.inr rfl)
        (Nat.le_refl _) (Nat.le_refl _) List.prefix_rfl rfl ⟨rfl, rfl⟩ ⟨rfl, rfl, rfl⟩ (by refine ⟨?_, ?_, ?_⟩ <;> first | with_reducible rfl | rfl) ⟨rfl, rfl, rfl, rfl, rfl, rfl⟩ ⟨rfl, rfl, rfl⟩ ⟨rfl, rfl, rfl, rfl, rfl, rfl, rfl, rfl, rfl, rfl⟩ ⟨rfl, rfl, rfl, rfl⟩ ⟨rfl, rfl⟩ rfl rfl (by first | with_reducible rfl | rfl)

theorem faultEvent_grows (x1) (s : State) : Grows 8946308 s (faultEvent x1 s) := by
  unfold faultEvent
  try dsimp only
  repeat' first
    | with_reducible exact Grows.refl _ _
    | (with_reducible apply Grows.step (recordFault_grows ..)) <;> [exact rfl; skip]
    | (with_reducible apply Grows.step (event_grows ..)) <;> [exact rfl; skip]
    | (with_reducible apply Grows.ite) <;> intro _
    | dsimp only
    | split

theorem powerEvent_grows (x1 x2) (s : State) : Grows 8913028 s (powerEvent x1 x2 s) := by
  unfold powerEvent
  try dsimp only
  repeat' first
    | with_reducible exact Grows.refl _ _
    | (with_reducible apply Grows.step (eventCtx_grows ..)) <;> [exact rfl; skip]
    | (with_reducible apply Grows.ite) <;> intro _
    | dsimp only
    | split

theorem fieldEvent_grows (x1 x2 x3) (s : State) : Grows 8913028 s (fieldEvent x1 x2 x3 s) := by
  unfold fieldEvent
  try dsimp only
  repeat' first
    | with_reducible exact Grows.refl _ _
    | (with_reducible apply Grows.step (eventCtx_grows ..)) <;> [exact rfl; skip]
    | (with_reducible apply Grows.ite) <;> intro _
    | dsimp only
    | split

theorem memberEvent_grows (x1) (s : State) : Grows 8913028 s (memberEvent x1 s) := by
  unfold memberEvent
  try dsimp only
  repeat' first
    | with_reducible exact Grows.refl _ _
    | (with_reducible apply Grows.step (event_grows ..)) <;> [exact rfl; skip]
    | (with_reducible apply Grows.ite) <;> intro _
    | dsimp only
    | split

theorem keepReply_grows (x1 x2 x3) (s : State) : Grows 8388608 s (keepReply x1 x2 x3 s) := by
  unfold keepReply
  try dsimp only
  repeat' first
    | with_reducible exact Grows.refl _ _
    | (with_reducible apply Grows.ite) <;> intro _
    | dsimp only
    | split
    | refine Grows.upd ?_ (.inr rfl) (.inr rfl) (.inr rfl) (.inr rfl) (.inr rfl) (.inr rfl) (.inr rfl) (.inr rfl) (.inr rfl) (.inr rfl) (.inr rfl) (.inr rfl) (.inr rfl) (.inr rfl) (.inr rfl) (.inr rfl) (.inr rfl) (.inr rfl) (.inr rfl) (.inr rfl) (.inr rfl) (.inr rfl) (.inr rfl) (.inl rfl) (.inr rfl) (.inr rfl) (.inr rfl) (.inr rfl)
        (Nat.le_refl _) (Nat.le_refl _) List.prefix_rfl rfl ⟨rfl, rfl⟩ ⟨rfl, rfl, rfl⟩ ⟨rfl, rfl, rfl⟩ ⟨rfl, rfl, rfl, rfl, rfl, rfl⟩ ⟨rfl, rfl, rfl⟩ ⟨rfl, rfl, rfl, rfl, rfl, rfl, rfl, rfl, rfl, rfl⟩ ⟨rfl, rfl, rfl, rfl⟩ ⟨rfl, rfl⟩ rfl rfl rfl

theorem reply_grows (x1 x2 x3 x4 x5) (s : State) : Grows 8913028 s (reply x1 x2 x3 x4 x5 s) := by
  unfold reply
  try dsimp only
  repeat' first
    | with_reducible exact Grows.refl _ _
    | (with_reducible apply Grows.step (setRing_grows ..)) <;> [exact rfl; skip]
    | (with_reducible apply Grows.step (ringReply_grows ..)) <;> [exact rfl; skip]
    | (with_reducible apply Grows.step (keepReply_grows ..)) <;> [exact rfl; skip]
    | (with_reducible apply Grows.step (emitAll_grows ..)) <;> [exact rfl; skip]
    | (with_reducible apply Grows.ite) <;> intro _
    | dsimp only
    | split
    | refine Grows.upd ?_ (.inr rfl) (.inr rfl) (.inl rfl) (.inr rfl) (.inr rfl) (.inr rfl) (.inr rfl) (.inl rfl) (.inr rfl) (.inr rfl) (.inr rfl) (.inr rfl) (.inr rfl) (.inr rfl) (.inr rfl) (.inr rfl) (.inr rfl) (.inr rfl) (.inr rfl) (.inl rfl) (.inr rfl) (.inr rfl) (.inr rfl) (.inl rfl) (.inr rfl) (.inr rfl) (.inr rfl) (.inr rfl)
        (Nat.le_refl _) (Nat.le_refl _) List.prefix_rfl rfl ⟨rfl, rfl⟩ ⟨rfl, rfl, rfl⟩ (by refine ⟨?_, ?_, ?_⟩ <;> first | with_reducible rfl | rfl) ⟨rfl, rfl, rfl, rfl, rfl, rfl⟩ ⟨rfl, rfl, rfl⟩ ⟨rfl, rfl, rfl, rfl, rfl, rfl, rfl, rfl, rfl, rfl⟩ ⟨rfl, rfl, rfl, rfl⟩ ⟨rfl, rfl⟩ rfl rfl (by first | with_reducible rfl | rfl)

theorem done_grows (x1 x2) (s : State) : Grows 8913028 s (done x1 x2 s) := by
  unfold done
  try dsimp only
  repeat' first
    | with_reducible exact Grows.refl _ _
    | (with_reducible apply Grows.step (reply_grows ..)) <;> [exact rfl; skip]
    | (with_reducible apply Grows.ite) <;> intro _
    | dsimp only
    | split

theorem refuse_grows (x1 x2 x3) (s : State) : Grows 8913028 s (refuse x1 x2 x3 s) := by
  unfold refuse
  try dsimp only
  repeat' first
    | with_reducible exact Grows.refl _ _
    | (with_reducible apply Grows.step (reply_grows ..)) <;> [exact rfl; skip]
    | (with_reducible apply Grows.ite) <;> intro _
    | dsimp only
    | split

theorem defer_grows (x1 x2) (s : State) : Grows 8913028 s (defer x1 x2 s) := by
  unfold defer
  try dsimp only
  repeat' first
    | with_reducible exact Grows.refl _ _
    | (with_reducible apply Grows.step (reply_grows ..)) <;> [exact rfl; skip]
    | (with_reducible apply Grows.ite) <;> intro _
    | dsimp only
    | split
    | refine Grows.upd ?_ (.inr rfl) (.inr rfl) (.inl rfl) (.inr rfl) (.inr rfl) (.inr rfl) (.inr rfl) (.inl rfl) (.inr rfl) (.inr rfl) (.inr rfl) (.inr rfl) (.inr rfl) (.inr rfl) (.inr rfl) (.inr rfl) (.inr rfl) (.inr rfl) (.inr rfl) (.inl rfl) (.inr rfl) (.inr rfl) (.inr rfl) (.inl rfl) (.inr rfl) (.inr rfl) (.inr rfl) (.inr rfl)
        (Nat.le_refl _) (Nat.le_refl _) List.prefix_rfl rfl ⟨rfl, rfl⟩ ⟨rfl, rfl, rfl⟩ (by refine ⟨?_, ?_, ?_⟩ <;> first | with_reducible rfl | rfl) ⟨rfl, rfl, rfl, rfl, rfl, rfl⟩ ⟨rfl, rfl, rfl⟩ ⟨rfl, rfl, rfl, rfl, rfl, rfl, rfl, rfl, rfl, rfl⟩ ⟨rfl, rfl, rfl, rfl⟩ ⟨rfl, rfl⟩ rfl rfl (by first | with_reducible rfl | rfl)

theorem finish_grows (x1 x2 x3 x4) (s : State) : Grows 8913028 s (finish x1 x2 x3 x4 s) := by
  unfold finish
  try dsimp only
  repeat' first
    | with_reducible exact Grows.refl _ _
    | (with_reducible apply Grows.each) <;> [skip; intro _ _]
    | (with_reducible apply Grows.step (reply_grows ..)) <;> [exact rfl; skip]
    | (with_reducible apply Grows.ite) <;> intro _
    | dsimp only
    | split
    | refine Grows.upd ?_ (.inr rfl) (.inr rfl) (.inl rfl) (.inr rfl) (.inr rfl) (.inr rfl) (.inr rfl) (.inl rfl) (.inr rfl) (.inr rfl) (.inr rfl) (.inr rfl) (.inr rfl) (.inr rfl) (.inr rfl) (.inr rfl) (.inr rfl) (.inr rfl) (.inr rfl) (.inl rfl) (.inr rfl) (.inr rfl) (.inr rfl) (.inl rfl) (.inr rfl) (.inr rfl) (.inr rfl) (.inr rfl)
        (Nat.le_refl _) (Nat.le_refl _) List.prefix_rfl rfl ⟨rfl, rfl⟩ ⟨rfl, rfl, rfl⟩ (by refine ⟨?_, ?_, ?_⟩ <;> first | with_reducible rfl | rfl) ⟨rfl, rfl, rfl, rfl, rfl, rfl⟩ ⟨rfl, rfl, rfl⟩ ⟨rfl, rfl, rfl, rfl, rfl, rfl, rfl, rfl, rfl, rfl⟩ ⟨rfl, rfl, rfl, rfl⟩ ⟨rfl, rfl⟩ rfl rfl (by first | with_reducible rfl | rfl)

theorem extendMeas_grows (x1 x2) (s : State) : Grows 32 s (extendMeas x1 x2 s) := by
  unfold extendMeas
  try dsimp only
  repeat' first
    | with_reducible exact Grows.refl _ _
    | (with_reducible apply Grows.ite) <;> intro _
    | dsimp only
    | split
    | refine Grows.upd ?_ (.inr rfl) (.inr rfl) (.inr rfl) (.inr rfl) (.inr rfl) (.inl rfl) (.inr rfl) (.inr rfl) (.inr rfl) (.inr rfl) (.inr rfl) (.inr rfl) (.inr rfl) (.inr rfl) (.inr rfl) (.inr rfl) (.inr rfl) (.inr rfl) (.inr rfl) (.inr rfl) (.inr rfl) (.inr rfl) (.inr rfl) (.inr rfl) (.inr rfl) (.inr rfl) (.inr rfl) (.inr rfl)
        (Nat.le_refl _) (Nat.le_refl _) List.prefix_rfl rfl ⟨rfl, rfl⟩ ⟨rfl, rfl, rfl⟩ ⟨rfl, rfl, rfl⟩ ⟨rfl, rfl, rfl, rfl, rfl, rfl⟩ ⟨rfl, rfl, rfl⟩ ⟨rfl, rfl, rfl, rfl, rfl, rfl, rfl, rfl, rfl, rfl⟩ ⟨rfl, rfl, rfl, rfl⟩ ⟨rfl, rfl⟩ rfl rfl rfl

theorem journalPush_grows (x1) (s : State) : Grows 16 s (journalPush x1 s) := by
  unfold journalPush
  try dsimp only
  repeat' first
    | with_reducible exact Grows.refl _ _
    | (with_reducible apply Grows.ite) <;> intro _
    | dsimp only
    | split
    | refine Grows.upd ?_ (.inr rfl) (.inr rfl) (.inr rfl) (.inr rfl) (.inl rfl) (.inr rfl) (.inr rfl) (.inr rfl) (.inr rfl) (.inr rfl) (.inr rfl) (.inr rfl) (.inr rfl) (.inr rfl) (.inr rfl) (.inr rfl) (.inr rfl) (.inr rfl) (.inr rfl) (.inr rfl) (.inr rfl) (.inr rfl) (.inr rfl) (.inr rfl) (.inr rfl) (.inr rfl) (.inr rfl) (.inr rfl)
        (Nat.le_refl _) (Nat.le_refl _) List.prefix_rfl (by unfold fuses; first | with_reducible rfl | rfl) ⟨rfl, rfl⟩ ⟨rfl, rfl, rfl⟩ ⟨rfl, rfl, rfl⟩ ⟨rfl, rfl, rfl, rfl, rfl, rfl⟩ ⟨rfl, rfl, rfl⟩ ⟨rfl, rfl, rfl, rfl, rfl, rfl, rfl, rfl, rfl, rfl⟩ ⟨rfl, rfl, rfl, rfl⟩ ⟨rfl, rfl⟩ (by unfold flashKept; first | with_reducible rfl | rfl) rfl rfl

theorem journalEntry_grows (x1 x2 x3 x4 x5) (s : State) : Grows 16 s (journalEntry x1 x2 x3 x4 x5 s) := by
  unfold journalEntry
  try dsimp only
  repeat' first
    | with_reducible exact Grows.refl _ _
    | (with_reducible apply Grows.step (journalPush_grows ..)) <;> [exact rfl; skip]
    | (with_reducible apply Grows.ite) <;> intro _
    | dsimp only
    | split

theorem stepJournal_grows (x1 x2 x3 x4) (s : State) : Grows 1024 s (stepJournal x1 x2 x3 x4 s) := by
  unfold stepJournal
  try dsimp only
  repeat' first
    | with_reducible exact Grows.refl _ _
    | (with_reducible apply Grows.ite) <;> intro _
    | dsimp only
    | split
    | refine Grows.upd ?_ (.inr rfl) (.inr rfl) (.inr rfl) (.inr rfl) (.inr rfl) (.inr rfl) (.inr rfl) (.inr rfl) (.inr rfl) (.inr rfl) (.inl rfl) (.inr rfl) (.inr rfl) (.inr rfl) (.inr rfl) (.inr rfl) (.inr rfl) (.inr rfl) (.inr rfl) (.inr rfl) (.inr rfl) (.inr rfl) (.inr rfl) (.inr rfl) (.inr rfl) (.inr rfl) (.inr rfl) (.inr rfl)
        (Nat.le_refl _) (Nat.le_refl _) List.prefix_rfl rfl ⟨rfl, rfl⟩ ⟨rfl, rfl, rfl⟩ ⟨rfl, rfl, rfl⟩ ⟨rfl, rfl, rfl, rfl, rfl, rfl⟩ ⟨rfl, rfl, rfl⟩ ⟨rfl, rfl, rfl, rfl, rfl, rfl, rfl, rfl, rfl, rfl⟩ ⟨rfl, rfl, rfl, rfl⟩ (by refine ⟨?_, ?_⟩ <;> first | with_reducible rfl | rfl) rfl rfl rfl

theorem holdFor_grows (x1) (s : State) : Grows 8929412 s (holdFor x1 s) := by
  unfold holdFor
  try dsimp only
  repeat' first
    | with_reducible exact Grows.refl _ _
    | (with_reducible apply Grows.step (event_grows ..)) <;> [exact rfl; skip]
    | (with_reducible apply Grows.ite) <;> intro _
    | dsimp only
    | split
    | refine Grows.upd ?_ (.inr rfl) (.inr rfl) (.inl rfl) (.inr rfl) (.inr rfl) (.inr rfl) (.inr rfl) (.inl rfl) (.inr rfl) (.inr rfl) (.inr rfl) (.inr rfl) (.inr rfl) (.inr rfl) (.inl rfl) (.inr rfl) (.inr rfl) (.inr rfl) (.inr rfl) (.inl rfl) (.inr rfl) (.inr rfl) (.inr rfl) (.inl rfl) (.inr rfl) (.inr rfl) (.inr rfl) (.inr rfl)
        (Nat.le_refl _) (Nat.le_refl _) List.prefix_rfl rfl ⟨rfl, rfl⟩ ⟨rfl, rfl, rfl⟩ (by refine ⟨?_, ?_, ?_⟩ <;> first | with_reducible rfl | rfl) ⟨rfl, rfl, rfl, rfl, rfl, rfl⟩ ⟨rfl, rfl, rfl⟩ ⟨rfl, rfl, rfl, rfl, rfl, rfl, rfl, rfl, rfl, rfl⟩ ⟨rfl, rfl, rfl, rfl⟩ ⟨rfl, rfl⟩ rfl rfl (by first | with_reducible rfl | rfl)

theorem requestRollback_grows (x1) (s : State) : Grows 32772 s (requestRollback x1 s) := by
  unfold requestRollback
  try dsimp only
  repeat' first
    | with_reducible exact Grows.refl _ _
    | (with_reducible apply Grows.step (emit_grows ..)) <;> [exact rfl; skip]
    | (with_reducible apply Grows.ite) <;> intro _
    | dsimp only
    | split
    | refine Grows.upd ?_ (.inr rfl) (.inr rfl) (.inl rfl) (.inr rfl) (.inr rfl) (.inr rfl) (.inr rfl) (.inr rfl) (.inr rfl) (.inr rfl) (.inr rfl) (.inr rfl) (.inr rfl) (.inr rfl) (.inr rfl) (.inl rfl) (.inr rfl) (.inr rfl) (.inr rfl) (.inr rfl) (.inr rfl) (.inr rfl) (.inr rfl) (.inr rfl) (.inr rfl) (.inr rfl) (.inr rfl) (.inr rfl)
        (Nat.le_refl _) (Nat.le_refl _) List.prefix_rfl rfl ⟨rfl, rfl⟩ ⟨rfl, rfl, rfl⟩ ⟨rfl, rfl, rfl⟩ ⟨rfl, rfl, rfl, rfl, rfl, rfl⟩ ⟨rfl, rfl, rfl⟩ ⟨rfl, rfl, rfl, rfl, rfl, rfl, rfl, rfl, rfl, rfl⟩ (by refine ⟨?_, ?_, ?_, ?_⟩ <;> first | with_reducible rfl | rfl) ⟨rfl, rfl⟩ rfl rfl rfl

theorem rollFault_grows (x1 x2) (s : State) : Grows 8946308 s (rollFault x1 x2 s) := by
  unfold rollFault
  try dsimp only
  repeat' first
    | with_reducible exact Grows.refl _ _
    | (with_reducible apply Grows.step (requestRollback_grows ..)) <;> [exact rfl; skip]
    | (with_reducible apply Grows.step (faultEvent_grows ..)) <;> [exact rfl; skip]
    | (with_reducible apply Grows.ite) <;> intro _
    | dsimp only
    | split

end Sys2Proof.Machine
end

