-- ==== Sys2Proof/Laws/GrowsMembers.lean ====
section
/-! SUPPORT. What each operation of Machine/Members.lean does to the state, in the form of `Grows`. -/

namespace Sys2Proof.Machine

theorem setMemberState_grows (x1 x2) (s : State) : Grows 8945796 s (setMemberState x1 x2 s) := by
  unfold setMemberState
  try dsimp only
  repeat' first
    | with_reducible exact Grows.refl _ _
    | (with_reducible apply Grows.step (memberEvent_grows ..)) <;> [exact rfl; skip]
    | (with_reducible apply Grows.step (setMember_grows ..)) <;> [exact rfl; skip]
    | (with_reducible apply Grows.ite) <;> intro _
    | dsimp only
    | split

theorem leaveRoles_grows (x1) (s : State) : Grows 8946308 s (leaveRoles x1 s) := by
  unfold leaveRoles
  try dsimp only
  repeat' first
    | with_reducible exact Grows.refl _ _
    | (with_reducible apply Grows.step (faultEvent_grows ..)) <;> [exact rfl; skip]
    | (with_reducible apply Grows.ite) <;> intro _
    | dsimp only
    | split
    | refine Grows.upd ?_ (.inr rfl) (.inr rfl) (.inl rfl) (.inr rfl) (.inr rfl) (.inr rfl) (.inr rfl) (.inl rfl) (.inr rfl) (.inl rfl) (.inr rfl) (.inr rfl) (.inr rfl) (.inr rfl) (.inr rfl) (.inl rfl) (.inr rfl) (.inr rfl) (.inr rfl) (.inl rfl) (.inr rfl) (.inr rfl) (.inr rfl) (.inl rfl) (.inr rfl) (.inr rfl) (.inr rfl) (.inr rfl)
        (Nat.le_refl _) (Nat.le_refl _) List.prefix_rfl rfl ⟨rfl, rfl⟩ ⟨rfl, rfl, rfl⟩ (by refine ⟨?_, ?_, ?_⟩ <;> first | with_reducible rfl | rfl) ⟨rfl, rfl, rfl, rfl, rfl, rfl⟩ ⟨rfl, rfl, rfl⟩ ⟨rfl, rfl, rfl, rfl, rfl, rfl, rfl, rfl, rfl, rfl⟩ (by refine ⟨?_, ?_, ?_, ?_⟩ <;> first | with_reducible rfl | rfl) ⟨rfl, rfl⟩ rfl (by first | with_reducible rfl | rfl) (by first | with_reducible rfl | rfl)

theorem loseMember_grows (x1) (s : State) : Grows 8946308 s (loseMember x1 s) := by
  unfold loseMember
  try dsimp only
  repeat' first
    | with_reducible exact Grows.refl _ _
    | (with_reducible apply Grows.step (requestRollback_grows ..)) <;> [exact rfl; skip]
    | (with_reducible apply Grows.step (leaveRoles_grows ..)) <;> [exact rfl; skip]
    | (with_reducible apply Grows.step (setMemberState_grows ..)) <;> [exact rfl; skip]
    | (with_reducible apply Grows.ite) <;> intro _
    | dsimp only
    | split

theorem excludeMember_grows (x1 x2) (s : State) : Grows 8946308 s (excludeMember x1 x2 s) := by
  unfold excludeMember
  try dsimp only
  repeat' first
    | with_reducible exact Grows.refl _ _
    | (with_reducible apply Grows.step (requestRollback_grows ..)) <;> [exact rfl; skip]
    | (with_reducible apply Grows.step (leaveRoles_grows ..)) <;> [exact rfl; skip]
    | (with_reducible apply Grows.step (setMemberState_grows ..)) <;> [exact rfl; skip]
    | (with_reducible apply Grows.ite) <;> intro _
    | dsimp only
    | split

end Sys2Proof.Machine
end

