-- ==== Sys2Proof/Laws/GrowsPeers.lean ====
section
/-! SUPPORT. What each operation of Machine/Peers.lean does to the state, in the form of `Grows`. -/

namespace Sys2Proof.Machine

theorem reportUnreachable_grows (x1) (s : State) : Grows 8946308 s (reportUnreachable x1 s) := by
  unfold reportUnreachable
  try dsimp only
  repeat' first
    | with_reducible exact Grows.refl _ _
    | (with_reducible apply Grows.step (faultEvent_grows ..)) <;> [exact rfl; skip]
    | (with_reducible apply Grows.step (loseMember_grows ..)) <;> [exact rfl; skip]
    | (with_reducible apply Grows.step (emit_grows ..)) <;> [exact rfl; skip]
    | (with_reducible apply Grows.ite) <;> intro _
    | dsimp only
    | split

theorem buildPeerRoutes_grows (s : State) : Grows 11043460 s (buildPeerRoutes s) := by
  unfold buildPeerRoutes
  try dsimp only
  repeat' first
    | with_reducible exact Grows.refl _ _
    | (with_reducible apply Grows.each) <;> [skip; intro _ _]
    | (with_reducible apply Grows.step (reportUnreachable_grows ..)) <;> [exact rfl; skip]
    | (with_reducible apply Grows.ite) <;> intro _
    | dsimp only
    | split
    | refine Grows.upd ?_ (.inr rfl) (.inr rfl) (.inl rfl) (.inr rfl) (.inr rfl) (.inr rfl) (.inr rfl) (.inl rfl) (.inr rfl) (.inl rfl) (.inr rfl) (.inr rfl) (.inr rfl) (.inr rfl) (.inr rfl) (.inl rfl) (.inr rfl) (.inr rfl) (.inr rfl) (.inl rfl) (.inr rfl) (.inl rfl) (.inr rfl) (.inl rfl) (.inr rfl) (.inr rfl) (.inr rfl) (.inr rfl)
        (Nat.le_refl _) (Nat.le_refl _) List.prefix_rfl rfl ⟨rfl, rfl⟩ ⟨rfl, rfl, rfl⟩ (by refine ⟨?_, ?_, ?_⟩ <;> first | with_reducible rfl | rfl) ⟨rfl, rfl, rfl, rfl, rfl, rfl⟩ (by refine ⟨?_, ?_, ?_⟩ <;> first | with_reducible rfl | rfl) ⟨rfl, rfl, rfl, rfl, rfl, rfl, rfl, rfl, rfl, rfl⟩ (by refine ⟨?_, ?_, ?_, ?_⟩ <;> first | with_reducible rfl | rfl) ⟨rfl, rfl⟩ rfl (by first | with_reducible rfl | rfl) (by first | with_reducible rfl | rfl)

theorem queueChunks_grows (x1 x2 x3 x4) (s : State) : Grows 2097152 s (queueChunks x1 x2 x3 x4 s) := by
  unfold queueChunks
  try dsimp only
  repeat' first
    | with_reducible exact Grows.refl _ _
    | (with_reducible apply Grows.step (setLane_grows ..)) <;> [exact rfl; skip]
    | (with_reducible apply Grows.ite) <;> intro _
    | dsimp only
    | split

theorem queueManage_grows (x1 x2 x3) (s : State) : Grows 2097152 s (queueManage x1 x2 x3 s) := by
  unfold queueManage
  try dsimp only
  repeat' first
    | with_reducible exact Grows.refl _ _
    | (with_reducible apply Grows.step (queueChunks_grows ..)) <;> [exact rfl; skip]
    | (with_reducible apply Grows.ite) <;> intro _
    | dsimp only
    | split

theorem queueMarker_grows (x1 x2) (s : State) : Grows 2097152 s (queueMarker x1 x2 s) := by
  unfold queueMarker
  try dsimp only
  repeat' first
    | with_reducible exact Grows.refl _ _
    | (with_reducible apply Grows.step (queueChunks_grows ..)) <;> [exact rfl; skip]
    | (with_reducible apply Grows.ite) <;> intro _
    | dsimp only
    | split

theorem sendCodeword_grows (x1) (s : State) : Grows 2097156 s (sendCodeword x1 s) := by
  unfold sendCodeword
  try dsimp only
  repeat' first
    | with_reducible exact Grows.refl _ _
    | (with_reducible apply Grows.step (emit_grows ..)) <;> [exact rfl; skip]
    | (with_reducible apply Grows.step (setLane_grows ..)) <;> [exact rfl; skip]
    | (with_reducible apply Grows.ite) <;> intro _
    | dsimp only
    | split

theorem putOnLane_grows (x1 x2 x3) (s : State) : Grows 18874372 s (putOnLane x1 x2 x3 s) := by
  unfold putOnLane
  try dsimp only
  repeat' first
    | with_reducible exact Grows.refl _ _
    | (with_reducible apply Grows.step (count_grows ..)) <;> [exact rfl; skip]
    | (with_reducible apply Grows.step (emit_grows ..)) <;> [exact rfl; skip]
    | (with_reducible apply Grows.step (setLane_grows ..)) <;> [exact rfl; skip]
    | (with_reducible apply Grows.ite) <;> intro _
    | dsimp only
    | split

theorem drainLane_grows (x1 x2) (s : State) : Grows 18874372 s (drainLane x1 x2 s) := by
  fun_induction drainLane x1 x2 s
  all_goals try dsimp only
  all_goals repeat' first
    | with_reducible exact Grows.refl _ _
    | with_reducible refine Grows.trans ?_ (by assumption)
    | (with_reducible apply Grows.step (putOnLane_grows ..)) <;> [exact rfl; skip]
    | (with_reducible apply Grows.step (setLane_grows ..)) <;> [exact rfl; skip]
    | (with_reducible apply Grows.ite) <;> intro _
    | dsimp only
    | split
    | refine Grows.upd ?_ (.inr rfl) (.inr rfl) (.inl rfl) (.inr rfl) (.inr rfl) (.inr rfl) (.inr rfl) (.inr rfl) (.inr rfl) (.inr rfl) (.inr rfl) (.inr rfl) (.inr rfl) (.inr rfl) (.inr rfl) (.inr rfl) (.inr rfl) (.inr rfl) (.inr rfl) (.inr rfl) (.inr rfl) (.inl rfl) (.inr rfl) (.inr rfl) (.inl rfl) (.inr rfl) (.inr rfl) (.inr rfl)
        (Nat.le_refl _) (Nat.le_refl _) List.prefix_rfl rfl ⟨rfl, rfl⟩ ⟨rfl, rfl, rfl⟩ ⟨rfl, rfl, rfl⟩ ⟨rfl, rfl, rfl, rfl, rfl, rfl⟩ (by refine ⟨?_, ?_, ?_⟩ <;> first | with_reducible rfl | rfl) ⟨rfl, rfl, rfl, rfl, rfl, rfl, rfl, rfl, rfl, rfl⟩ ⟨rfl, rfl, rfl, rfl⟩ ⟨rfl, rfl⟩ rfl rfl rfl

theorem drainAll_grows (x1) (s : State) : Grows 18874372 s (drainAll x1 s) := by
  unfold drainAll
  try dsimp only
  repeat' first
    | with_reducible exact Grows.refl _ _
    | (with_reducible apply Grows.step (drainLane_grows ..)) <;> [exact rfl; skip]
    | (with_reducible apply Grows.ite) <;> intro _
    | dsimp only
    | split

theorem laneSend_grows (x1 x2 x3) (s : State) : Grows 18874372 s (laneSend x1 x2 x3 s) := by
  unfold laneSend
  try dsimp only
  repeat' first
    | with_reducible exact Grows.refl _ _
    | (with_reducible apply Grows.step (drainAll_grows ..)) <;> [exact rfl; skip]
    | (with_reducible apply Grows.step (setLane_grows ..)) <;> [exact rfl; skip]
    | (with_reducible apply Grows.ite) <;> intro _
    | dsimp only
    | split

end Sys2Proof.Machine
end

