-- ==== Sys2Proof/Laws/GrowsUnits.lean ====
section
/-! SUPPORT. What each operation of Machine/Units.lean does to the state, in the form of `Grows`. -/

namespace Sys2Proof.Machine

theorem addOutstanding_grows (x1 x2) (s : State) : Grows 65536 s (addOutstanding x1 x2 s) := by
  unfold addOutstanding
  try dsimp only
  repeat' first
    | with_reducible exact Grows.refl _ _
    | (with_reducible apply Grows.ite) <;> intro _
    | dsimp only
    | split
    | refine Grows.upd ?_ (.inr rfl) (.inr rfl) (.inr rfl) (.inr rfl) (.inr rfl) (.inr rfl) (.inr rfl) (.inr rfl) (.inr rfl) (.inr rfl) (.inr rfl) (.inr rfl) (.inr rfl) (.inr rfl) (.inr rfl) (.inr rfl) (.inl rfl) (.inr rfl) (.inr rfl) (.inr rfl) (.inr rfl) (.inr rfl) (.inr rfl) (.inr rfl) (.inr rfl) (.inr rfl) (.inr rfl) (.inr rfl)
        (Nat.le_refl _) (Nat.le_refl _) List.prefix_rfl rfl ⟨rfl, rfl⟩ ⟨rfl, rfl, rfl⟩ ⟨rfl, rfl, rfl⟩ ⟨rfl, rfl, rfl, rfl, rfl, rfl⟩ ⟨rfl, rfl, rfl⟩ ⟨rfl, rfl, rfl, rfl, rfl, rfl, rfl, rfl, rfl, rfl⟩ ⟨rfl, rfl, rfl, rfl⟩ ⟨rfl, rfl⟩ rfl rfl rfl

theorem subOutstanding_grows (x1 x2) (s : State) : Grows 65536 s (subOutstanding x1 x2 s) := by
  unfold subOutstanding
  try dsimp only
  repeat' first
    | with_reducible exact Grows.refl _ _
    | (with_reducible apply Grows.ite) <;> intro _
    | dsimp only
    | split
    | refine Grows.upd ?_ (.inr rfl) (.inr rfl) (.inr rfl) (.inr rfl) (.inr rfl) (.inr rfl) (.inr rfl) (.inr rfl) (.inr rfl) (.inr rfl) (.inr rfl) (.inr rfl) (.inr rfl) (.inr rfl) (.inr rfl) (.inr rfl) (.inl rfl) (.inr rfl) (.inr rfl) (.inr rfl) (.inr rfl) (.inr rfl) (.inr rfl) (.inr rfl) (.inr rfl) (.inr rfl) (.inr rfl) (.inr rfl)
        (Nat.le_refl _) (Nat.le_refl _) List.prefix_rfl rfl ⟨rfl, rfl⟩ ⟨rfl, rfl, rfl⟩ ⟨rfl, rfl, rfl⟩ ⟨rfl, rfl, rfl, rfl, rfl, rfl⟩ ⟨rfl, rfl, rfl⟩ ⟨rfl, rfl, rfl, rfl, rfl, rfl, rfl, rfl, rfl, rfl⟩ ⟨rfl, rfl, rfl, rfl⟩ ⟨rfl, rfl⟩ rfl rfl rfl

theorem setUnitError_grows (x1 x2) (s : State) : Grows 65536 s (setUnitError x1 x2 s) := by
  unfold setUnitError
  try dsimp only
  repeat' first
    | with_reducible exact Grows.refl _ _
    | (with_reducible apply Grows.ite) <;> intro _
    | dsimp only
    | split
    | refine Grows.upd ?_ (.inr rfl) (.inr rfl) (.inr rfl) (.inr rfl) (.inr rfl) (.inr rfl) (.inr rfl) (.inr rfl) (.inr rfl) (.inr rfl) (.inr rfl) (.inr rfl) (.inr rfl) (.inr rfl) (.inr rfl) (.inr rfl) (.inl rfl) (.inr rfl) (.inr rfl) (.inr rfl) (.inr rfl) (.inr rfl) (.inr rfl) (.inr rfl) (.inr rfl) (.inr rfl) (.inr rfl) (.inr rfl)
        (Nat.le_refl _) (Nat.le_refl _) List.prefix_rfl rfl ⟨rfl, rfl⟩ ⟨rfl, rfl, rfl⟩ ⟨rfl, rfl, rfl⟩ ⟨rfl, rfl, rfl, rfl, rfl, rfl⟩ ⟨rfl, rfl, rfl⟩ ⟨rfl, rfl, rfl, rfl, rfl, rfl, rfl, rfl, rfl, rfl⟩ ⟨rfl, rfl, rfl, rfl⟩ ⟨rfl, rfl⟩ rfl rfl rfl

theorem updCtx_grows (x1 x2 x3) (s : State) : Grows 131072 s (updCtx x1 x2 x3 s) := by
  unfold updCtx
  try dsimp only
  repeat' first
    | with_reducible exact Grows.refl _ _
    | (with_reducible apply Grows.step (updCore_grows ..)) <;> [exact rfl; skip]
    | (with_reducible apply Grows.ite) <;> intro _
    | dsimp only
    | split

theorem pushTask_grows (x1 x2) (s : State) : Grows 16973824 s (pushTask x1 x2 s) := by
  unfold pushTask
  try dsimp only
  repeat' first
    | with_reducible exact Grows.refl _ _
    | (with_reducible apply Grows.step (count_grows ..)) <;> [exact rfl; skip]
    | (with_reducible apply Grows.step (updCore_grows ..)) <;> [exact rfl; skip]
    | (with_reducible apply Grows.step (addOutstanding_grows ..)) <;> [exact rfl; skip]
    | (with_reducible apply Grows.ite) <;> intro _
    | dsimp only
    | split

theorem deliverCopies_grows (x1) (s : State) : Grows 16973824 s (deliverCopies x1 s).1 := by
  fun_induction deliverCopies x1 s
  all_goals try dsimp only
  all_goals repeat' first
    | with_reducible exact Grows.refl _ _
    | with_reducible refine Grows.trans ?_ (by assumption)
    | (with_reducible apply Grows.step (pushTask_grows ..)) <;> [exact rfl; skip]
    | (with_reducible apply Grows.ite) <;> intro _
    | dsimp only
    | split
    | refine Grows.upd ?_ (.inr rfl) (.inr rfl) (.inr rfl) (.inr rfl) (.inr rfl) (.inr rfl) (.inr rfl) (.inr rfl) (.inr rfl) (.inr rfl) (.inr rfl) (.inr rfl) (.inr rfl) (.inr rfl) (.inr rfl) (.inr rfl) (.inl rfl) (.inl rfl) (.inr rfl) (.inr rfl) (.inr rfl) (.inr rfl) (.inr rfl) (.inr rfl) (.inl rfl) (.inr rfl) (.inr rfl) (.inr rfl)
        (Nat.le_refl _) (Nat.le_refl _) List.prefix_rfl rfl ⟨rfl, rfl⟩ ⟨rfl, rfl, rfl⟩ ⟨rfl, rfl, rfl⟩ ⟨rfl, rfl, rfl, rfl, rfl, rfl⟩ ⟨rfl, rfl, rfl⟩ ⟨rfl, rfl, rfl, rfl, rfl, rfl, rfl, rfl, rfl, rfl⟩ ⟨rfl, rfl, rfl, rfl⟩ ⟨rfl, rfl⟩ rfl rfl rfl

theorem deliverCopies_out {x1} {s t : State} {y} (h : deliverCopies x1 s = (t, y)) : Grows 16973824 s t := by
  have := deliverCopies_grows x1 s; rw [h] at this; exact this

theorem deliverSpreads_grows (x1) (s : State) : Grows 16973824 s (deliverSpreads x1 s).1 := by
  fun_induction deliverSpreads x1 s
  all_goals try dsimp only
  all_goals repeat' first
    | with_reducible exact Grows.refl _ _
    | with_reducible refine Grows.trans ?_ (by assumption)
    | (with_reducible apply Grows.step (deliverCopies_grows ..)) <;> [exact rfl; skip]
    | (with_reducible apply Grows.step (deliverCopies_out (by assumption))) <;> [exact rfl; skip]
    | (with_reducible apply Grows.step (subOutstanding_grows ..)) <;> [exact rfl; skip]
    | (with_reducible apply Grows.ite) <;> intro _
    | dsimp only
    | split
    | refine Grows.upd ?_ (.inr rfl) (.inr rfl) (.inr rfl) (.inr rfl) (.inr rfl) (.inr rfl) (.inr rfl) (.inr rfl) (.inr rfl) (.inr rfl) (.inr rfl) (.inr rfl) (.inr rfl) (.inr rfl) (.inr rfl) (.inr rfl) (.inl rfl) (.inl rfl) (.inr rfl) (.inr rfl) (.inr rfl) (.inr rfl) (.inr rfl) (.inr rfl) (.inl rfl) (.inr rfl) (.inr rfl) (.inr rfl)
        (Nat.le_refl _) (Nat.le_refl _) List.prefix_rfl rfl ⟨rfl, rfl⟩ ⟨rfl, rfl, rfl⟩ ⟨rfl, rfl, rfl⟩ ⟨rfl, rfl, rfl, rfl, rfl, rfl⟩ ⟨rfl, rfl, rfl⟩ ⟨rfl, rfl, rfl, rfl, rfl, rfl, rfl, rfl, rfl, rfl⟩ ⟨rfl, rfl, rfl, rfl⟩ ⟨rfl, rfl⟩ rfl rfl rfl

theorem deliverSpreads_out {x1} {s t : State} {y} (h : deliverSpreads x1 s = (t, y)) : Grows 16973824 s t := by
  have := deliverSpreads_grows x1 s; rw [h] at this; exact this

theorem deliverAll_grows (s : State) : Grows 16973824 s (deliverAll s) := by
  unfold deliverAll
  try dsimp only
  repeat' first
    | with_reducible exact Grows.refl _ _
    | (with_reducible apply Grows.step (deliverSpreads_grows ..)) <;> [exact rfl; skip]
    | (with_reducible apply Grows.step (deliverSpreads_out (by assumption))) <;> [exact rfl; skip]
    | (with_reducible apply Grows.ite) <;> intro _
    | dsimp only
    | split
    | refine Grows.upd ?_ (.inr rfl) (.inr rfl) (.inr rfl) (.inr rfl) (.inr rfl) (.inr rfl) (.inr rfl) (.inr rfl) (.inr rfl) (.inr rfl) (.inr rfl) (.inr rfl) (.inr rfl) (.inr rfl) (.inr rfl) (.inr rfl) (.inl rfl) (.inl rfl) (.inr rfl) (.inr rfl) (.inr rfl) (.inr rfl) (.inr rfl) (.inr rfl) (.inl rfl) (.inr rfl) (.inr rfl) (.inr rfl)
        (Nat.le_refl _) (Nat.le_refl _) List.prefix_rfl rfl ⟨rfl, rfl⟩ ⟨rfl, rfl, rfl⟩ ⟨rfl, rfl, rfl⟩ ⟨rfl, rfl, rfl, rfl, rfl, rfl⟩ ⟨rfl, rfl, rfl⟩ ⟨rfl, rfl, rfl, rfl, rfl, rfl, rfl, rfl, rfl, rfl⟩ ⟨rfl, rfl, rfl, rfl⟩ ⟨rfl, rfl⟩ rfl rfl rfl

theorem startSpread_grows (x1 x2 x3 x4) (s : State) : Grows 16973824 s (startSpread x1 x2 x3 x4 s) := by
  unfold startSpread
  try dsimp only
  repeat' first
    | with_reducible exact Grows.refl _ _
    | (with_reducible apply Grows.step (addOutstanding_grows ..)) <;> [exact rfl; skip]
    | (with_reducible apply Grows.step (deliverAll_grows ..)) <;> [exact rfl; skip]
    | (with_reducible apply Grows.ite) <;> intro _
    | dsimp only
    | split
    | refine Grows.upd ?_ (.inr rfl) (.inr rfl) (.inr rfl) (.inr rfl) (.inr rfl) (.inr rfl) (.inr rfl) (.inr rfl) (.inr rfl) (.inr rfl) (.inr rfl) (.inr rfl) (.inr rfl) (.inr rfl) (.inr rfl) (.inr rfl) (.inl rfl) (.inl rfl) (.inr rfl) (.inr rfl) (.inr rfl) (.inr rfl) (.inr rfl) (.inr rfl) (.inl rfl) (.inr rfl) (.inr rfl) (.inr rfl)
        (Nat.le_refl _) (Nat.le_refl _) List.prefix_rfl rfl ⟨rfl, rfl⟩ ⟨rfl, rfl, rfl⟩ ⟨rfl, rfl, rfl⟩ ⟨rfl, rfl, rfl, rfl, rfl, rfl⟩ ⟨rfl, rfl, rfl⟩ ⟨rfl, rfl, rfl, rfl, rfl, rfl, rfl, rfl, rfl, rfl⟩ ⟨rfl, rfl, rfl, rfl⟩ ⟨rfl, rfl⟩ rfl rfl rfl

theorem taskFault_grows (x1 x2 x3) (s : State) : Grows 9077380 s (taskFault x1 x2 x3 s) := by
  unfold taskFault
  try dsimp only
  repeat' first
    | with_reducible exact Grows.refl _ _
    | (with_reducible apply Grows.step (rollFault_grows ..)) <;> [exact rfl; skip]
    | (with_reducible apply Grows.step (updCtx_grows ..)) <;> [exact rfl; skip]
    | (with_reducible apply Grows.ite) <;> intro _
    | dsimp only
    | split

theorem queueFault_grows (x1 x2 x3) (s : State) : Grows 8946308 s (queueFault x1 x2 x3 s) := by
  unfold queueFault
  try dsimp only
  repeat' first
    | with_reducible exact Grows.refl _ _
    | (with_reducible apply Grows.step (rollFault_grows ..)) <;> [exact rfl; skip]
    | (with_reducible apply Grows.ite) <;> intro _
    | dsimp only
    | split

theorem arrive_grows (x1 x2 x3) (s : State) : Grows 9077380 s (arrive x1 x2 x3 s) := by
  unfold arrive
  try dsimp only
  repeat' first
    | with_reducible exact Grows.refl _ _
    | (with_reducible apply Grows.step (taskFault_grows ..)) <;> [exact rfl; skip]
    | (with_reducible apply Grows.step (queueFault_grows ..)) <;> [exact rfl; skip]
    | (with_reducible apply Grows.step (setCore_grows ..)) <;> [exact rfl; skip]
    | (with_reducible apply Grows.ite) <;> intro _
    | dsimp only
    | split

theorem dispatchCore_grows (x1) (s : State) : Grows 25920132 s (dispatchCore x1 s) := by
  unfold dispatchCore
  try dsimp only
  repeat' first
    | with_reducible exact Grows.refl _ _
    | (with_reducible apply Grows.step (queueFault_grows ..)) <;> [exact rfl; skip]
    | (with_reducible apply Grows.step (count_grows ..)) <;> [exact rfl; skip]
    | (with_reducible apply Grows.step (setCore_grows ..)) <;> [exact rfl; skip]
    | (with_reducible apply Grows.step (deliverAll_grows ..)) <;> [exact rfl; skip]
    | (with_reducible apply Grows.ite) <;> intro _
    | dsimp only
    | split

theorem translate_grows (x1 x2) (s : State) : Grows 131072 s (translate x1 x2 s) := by
  unfold translate
  try dsimp only
  repeat' first
    | with_reducible exact Grows.refl _ _
    | (with_reducible apply Grows.step (updCore_grows ..)) <;> [exact rfl; skip]
    | (with_reducible apply Grows.ite) <;> intro _
    | dsimp only
    | split

theorem dropTranslations_grows (s : State) : Grows 131072 s (dropTranslations s) := by
  unfold dropTranslations
  try dsimp only
  repeat' first
    | with_reducible exact Grows.refl _ _
    | (with_reducible apply Grows.ite) <;> intro _
    | dsimp only
    | split
    | refine Grows.upd ?_ (.inr rfl) (.inr rfl) (.inr rfl) (.inr rfl) (.inr rfl) (.inr rfl) (.inr rfl) (.inr rfl) (.inr rfl) (.inr rfl) (.inr rfl) (.inr rfl) (.inr rfl) (.inr rfl) (.inr rfl) (.inr rfl) (.inr rfl) (.inl rfl) (.inr rfl) (.inr rfl) (.inr rfl) (.inr rfl) (.inr rfl) (.inr rfl) (.inr rfl) (.inr rfl) (.inr rfl) (.inr rfl)
        (Nat.le_refl _) (Nat.le_refl _) List.prefix_rfl rfl ⟨rfl, rfl⟩ ⟨rfl, rfl, rfl⟩ ⟨rfl, rfl, rfl⟩ ⟨rfl, rfl, rfl, rfl, rfl, rfl⟩ ⟨rfl, rfl, rfl⟩ ⟨rfl, rfl, rfl, rfl, rfl, rfl, rfl, rfl, rfl, rfl⟩ ⟨rfl, rfl, rfl, rfl⟩ ⟨rfl, rfl⟩ rfl rfl rfl

theorem sendFrom_grows {m : Nat} {s t : State} {key c : Nat} {act : State → State} (hm : 131072 ||| m = m) (h : Grows m s t)
    (ha : ∀ u, Grows m u (act u)) : Grows m s (sendFrom key c act t) := by
  unfold sendFrom
  try dsimp only
  repeat' first
    | exact h
    | with_reducible refine Grows.trans ?_ (ha _)
    | (with_reducible apply Grows.step2 (M := 131072) (updCtx_grows ..)) <;> [exact rfl; exact hm; skip]
    | (with_reducible apply Grows.ite) <;> intro _
    | dsimp only
    | split

theorem endTaskAt_grows (x1 x2) (s : State) : Grows 196612 s (endTaskAt x1 x2 s) := by
  unfold endTaskAt
  try dsimp only
  repeat' first
    | with_reducible exact Grows.refl _ _
    | (with_reducible apply sendFrom_grows) <;> [exact rfl; skip; intro _]
    | (with_reducible apply Grows.step (emit_grows ..)) <;> [exact rfl; skip]
    | (with_reducible apply Grows.step (translate_grows ..)) <;> [exact rfl; skip]
    | (with_reducible apply Grows.step (subOutstanding_grows ..)) <;> [exact rfl; skip]
    | (with_reducible apply Grows.step (updCore_grows ..)) <;> [exact rfl; skip]
    | (with_reducible apply Grows.ite) <;> intro _
    | dsimp only
    | split

theorem replayTask_grows (x1 x2) (s : State) : Grows 16908288 s (replayTask x1 x2 s) := by
  unfold replayTask
  try dsimp only
  repeat' first
    | with_reducible exact Grows.refl _ _
    | (with_reducible apply Grows.step (count_grows ..)) <;> [exact rfl; skip]
    | (with_reducible apply Grows.step (updCore_grows ..)) <;> [exact rfl; skip]
    | (with_reducible apply Grows.ite) <;> intro _
    | dsimp only
    | split

theorem replayProducer_grows (x1 x2 x3) (s : State) : Grows 16973824 s (replayProducer x1 x2 x3 s) := by
  unfold replayProducer
  try dsimp only
  repeat' first
    | with_reducible exact Grows.refl _ _
    | (with_reducible apply Grows.step (count_grows ..)) <;> [exact rfl; skip]
    | (with_reducible apply Grows.step (setCore_grows ..)) <;> [exact rfl; skip]
    | (with_reducible apply Grows.step (addOutstanding_grows ..)) <;> [exact rfl; skip]
    | (with_reducible apply Grows.ite) <;> intro _
    | dsimp only
    | split

theorem unrecovered_grows (x1 x2) (s : State) : Grows 16941060 s (unrecovered x1 x2 s) := by
  unfold unrecovered
  try dsimp only
  repeat' first
    | with_reducible exact Grows.refl _ _
    | (with_reducible apply Grows.step (requestRollback_grows ..)) <;> [exact rfl; skip]
    | (with_reducible apply Grows.step (count_grows ..)) <;> [exact rfl; skip]
    | (with_reducible apply Grows.step (updCtx_grows ..)) <;> [exact rfl; skip]
    | (with_reducible apply Grows.ite) <;> intro _
    | dsimp only
    | split

theorem checkError_grows (x1 x2 x3) (s : State) : Grows 25920132 s (checkError x1 x2 x3 s) := by
  unfold checkError
  try dsimp only
  repeat' first
    | with_reducible exact Grows.refl _ _
    | (with_reducible apply Grows.step (count_grows ..)) <;> [exact rfl; skip]
    | (with_reducible apply Grows.step (faultEvent_grows ..)) <;> [exact rfl; skip]
    | (with_reducible apply Grows.step (setUnitError_grows ..)) <;> [exact rfl; skip]
    | (with_reducible apply Grows.step (unrecovered_grows ..)) <;> [exact rfl; skip]
    | (with_reducible apply Grows.step (replayTask_grows ..)) <;> [exact rfl; skip]
    | (with_reducible apply Grows.step (replayProducer_grows ..)) <;> [exact rfl; skip]
    | (with_reducible apply Grows.ite) <;> intro _
    | dsimp only
    | split

theorem replayListed_grows (x1 x2) (s : State) : Grows 16973824 s (replayListed x1 x2 s) := by
  unfold replayListed
  try dsimp only
  repeat' first
    | with_reducible exact Grows.refl _ _
    | (with_reducible apply Grows.step (replayTask_grows ..)) <;> [exact rfl; skip]
    | (with_reducible apply Grows.step (count_grows ..)) <;> [exact rfl; skip]
    | (with_reducible apply Grows.step (setCore_grows ..)) <;> [exact rfl; skip]
    | (with_reducible apply Grows.step (addOutstanding_grows ..)) <;> [exact rfl; skip]
    | (with_reducible apply Grows.ite) <;> intro _
    | dsimp only
    | split

theorem readParity_grows (x1 x2) (s : State) : Grows 25920132 s (readParity x1 x2 s) := by
  unfold readParity
  try dsimp only
  repeat' first
    | with_reducible exact Grows.refl _ _
    | (with_reducible apply Grows.step (count_grows ..)) <;> [exact rfl; skip]
    | (with_reducible apply Grows.step (faultEvent_grows ..)) <;> [exact rfl; skip]
    | (with_reducible apply Grows.step (setUnitError_grows ..)) <;> [exact rfl; skip]
    | (with_reducible apply Grows.step (requestRollback_grows ..)) <;> [exact rfl; skip]
    | (with_reducible apply Grows.step (replayListed_grows ..)) <;> [exact rfl; skip]
    | (with_reducible apply Grows.ite) <;> intro _
    | dsimp only
    | split

theorem promoteCore_grows (x1 x2) (s : State) : Grows 16973824 s (promoteCore x1 x2 s) := by
  unfold promoteCore
  try dsimp only
  repeat' first
    | with_reducible exact Grows.refl _ _
    | (with_reducible apply Grows.step (count_grows ..)) <;> [exact rfl; skip]
    | (with_reducible apply Grows.step (addOutstanding_grows ..)) <;> [exact rfl; skip]
    | (with_reducible apply Grows.step (setCore_grows ..)) <;> [exact rfl; skip]
    | (with_reducible apply Grows.ite) <;> intro _
    | dsimp only
    | split

theorem promoteAll_grows (x1) (s : State) : Grows 16973824 s (promoteAll x1 s) := by
  unfold promoteAll
  try dsimp only
  repeat' first
    | with_reducible exact Grows.refl _ _
    | (with_reducible apply Grows.each) <;> [skip; intro _ _]
    | (with_reducible apply Grows.step (promoteCore_grows ..)) <;> [exact rfl; skip]
    | (with_reducible apply Grows.ite) <;> intro _
    | dsimp only
    | split

theorem newSlot_grows (x1) (s : State) : Grows 196608 s (newSlot x1 s) := by
  unfold newSlot
  try dsimp only
  repeat' first
    | with_reducible exact Grows.refl _ _
    | (with_reducible apply Grows.step (setUnitError_grows ..)) <;> [exact rfl; skip]
    | (with_reducible apply Grows.each) <;> [skip; intro _ _]
    | (with_reducible apply Grows.step (updCore_grows ..)) <;> [exact rfl; skip]
    | (with_reducible apply Grows.ite) <;> intro _
    | dsimp only
    | split

theorem clearCores_grows (s : State) : Grows 196608 s (clearCores s) := by
  unfold clearCores
  try dsimp only
  repeat' first
    | with_reducible exact Grows.refl _ _
    | (with_reducible apply Grows.ite) <;> intro _
    | dsimp only
    | split
    | refine Grows.upd ?_ (.inr rfl) (.inr rfl) (.inr rfl) (.inr rfl) (.inr rfl) (.inr rfl) (.inr rfl) (.inr rfl) (.inr rfl) (.inr rfl) (.inr rfl) (.inr rfl) (.inr rfl) (.inr rfl) (.inr rfl) (.inr rfl) (.inl rfl) (.inl rfl) (.inr rfl) (.inr rfl) (.inr rfl) (.inr rfl) (.inr rfl) (.inr rfl) (.inr rfl) (.inr rfl) (.inr rfl) (.inr rfl)
        (Nat.le_refl _) (Nat.le_refl _) List.prefix_rfl rfl ⟨rfl, rfl⟩ ⟨rfl, rfl, rfl⟩ ⟨rfl, rfl, rfl⟩ ⟨rfl, rfl, rfl, rfl, rfl, rfl⟩ ⟨rfl, rfl, rfl⟩ ⟨rfl, rfl, rfl, rfl, rfl, rfl, rfl, rfl, rfl, rfl⟩ ⟨rfl, rfl, rfl, rfl⟩ ⟨rfl, rfl⟩ rfl rfl rfl

theorem taskSpreadTo_grows (x1 x2) (s : State) : Grows 25920132 s (taskSpreadTo x1 x2 s) := by
  unfold taskSpreadTo
  try dsimp only
  repeat' first
    | with_reducible exact Grows.refl _ _
    | (with_reducible apply Grows.step (count_grows ..)) <;> [exact rfl; skip]
    | (with_reducible apply Grows.step (queueFault_grows ..)) <;> [exact rfl; skip]
    | (with_reducible apply Grows.step (startSpread_grows ..)) <;> [exact rfl; skip]
    | (with_reducible apply Grows.ite) <;> intro _
    | dsimp only
    | split

theorem releaseSlot_grows (x1 x2) (s : State) : Grows 25924228 s (releaseSlot x1 x2 s) := by
  unfold releaseSlot
  try dsimp only
  repeat' first
    | with_reducible exact Grows.refl _ _
    | (with_reducible apply Grows.each) <;> [skip; intro _ _]
    | (with_reducible apply Grows.step (newSlot_grows ..)) <;> [exact rfl; skip]
    | (with_reducible apply Grows.step (setUnitRun_grows ..)) <;> [exact rfl; skip]
    | (with_reducible apply Grows.step (taskSpreadTo_grows ..)) <;> [exact rfl; skip]
    | (with_reducible apply Grows.ite) <;> intro _
    | dsimp only
    | split

theorem releaseUnit_grows (x1 x2) (s : State) : Grows 25924228 s (releaseUnit x1 x2 s) := by
  fun_induction releaseUnit x1 x2 s
  all_goals try dsimp only
  all_goals repeat' first
    | with_reducible exact Grows.refl _ _
    | with_reducible refine Grows.trans ?_ (by assumption)
    | (with_reducible apply Grows.step (releaseSlot_grows ..)) <;> [exact rfl; skip]
    | (with_reducible apply Grows.step (setUnitRun_grows ..)) <;> [exact rfl; skip]
    | (with_reducible apply Grows.ite) <;> intro _
    | dsimp only
    | split
    | refine Grows.upd ?_ (.inr rfl) (.inr rfl) (.inl rfl) (.inr rfl) (.inr rfl) (.inr rfl) (.inr rfl) (.inl rfl) (.inr rfl) (.inl rfl) (.inr rfl) (.inr rfl) (.inl rfl) (.inr rfl) (.inr rfl) (.inl rfl) (.inl rfl) (.inl rfl) (.inr rfl) (.inl rfl) (.inr rfl) (.inr rfl) (.inr rfl) (.inl rfl) (.inl rfl) (.inr rfl) (.inr rfl) (.inr rfl)
        (Nat.le_refl _) (Nat.le_refl _) List.prefix_rfl rfl (by refine ⟨?_, ?_⟩ <;> first | with_reducible rfl | rfl) ⟨rfl, rfl, rfl⟩ (by refine ⟨?_, ?_, ?_⟩ <;> first | with_reducible rfl | rfl) ⟨rfl, rfl, rfl, rfl, rfl, rfl⟩ ⟨rfl, rfl, rfl⟩ ⟨rfl, rfl, rfl, rfl, rfl, rfl, rfl, rfl, rfl, rfl⟩ (by refine ⟨?_, ?_, ?_, ?_⟩ <;> first | with_reducible rfl | rfl) ⟨rfl, rfl⟩ rfl (by first | with_reducible rfl | rfl) (by first | with_reducible rfl | rfl)

theorem settleUnit_grows (x1) (s : State) : Grows 25924228 s (settleUnit x1 s) := by
  unfold settleUnit
  try dsimp only
  repeat' first
    | with_reducible exact Grows.refl _ _
    | (with_reducible apply Grows.step (releaseUnit_grows ..)) <;> [exact rfl; skip]
    | (with_reducible apply Grows.step (setUnitRun_grows ..)) <;> [exact rfl; skip]
    | (with_reducible apply Grows.ite) <;> intro _
    | dsimp only
    | split

theorem settleUnits_grows (s : State) : Grows 25924228 s (settleUnits s) := by
  unfold settleUnits
  try dsimp only
  repeat' first
    | with_reducible exact Grows.refl _ _
    | (with_reducible apply Grows.each) <;> [skip; intro _ _]
    | (with_reducible apply Grows.step (settleUnit_grows ..)) <;> [exact rfl; skip]
    | (with_reducible apply Grows.ite) <;> intro _
    | dsimp only
    | split

theorem spreadParity_grows (x1 x2 x3) (s : State) : Grows 25920132 s (spreadParity x1 x2 x3 s) := by
  unfold spreadParity
  try dsimp only
  repeat' first
    | with_reducible exact Grows.refl _ _
    | (with_reducible apply Grows.step (taskSpreadTo_grows ..)) <;> [exact rfl; skip]
    | (with_reducible apply Grows.step (emit_grows ..)) <;> [exact rfl; skip]
    | (with_reducible apply Grows.step (readParity_grows ..)) <;> [exact rfl; skip]
    | (with_reducible apply Grows.ite) <;> intro _
    | dsimp only
    | split

end Sys2Proof.Machine
end

