-- ==== Sys2Proof/Laws/GrowsBoot.lean ====
section
/-! SUPPORT. What each operation of Machine/Boot.lean does to the state, in the form of `Grows`. -/

namespace Sys2Proof.Machine

theorem resetModule_grows (x1) (s : State) : Grows 268433376 s (resetModule x1 s) := by
  refine ⟨fun p hp => ?_, Nat.le_refl _, Nat.le_refl _, List.prefix_rfl, rfl, fun l => ?_⟩
  · cases p <;> first | rfl | cases hp
  · obtain ⟨⟨a, b, c, d, e, f, g, h, i⟩, j, k⟩ := l
    exact ⟨⟨reset_tick_inRange, reset_stream_inRange, reset_memory_inRange, reset_reduce_inRange, reset_beam_inRange,
      reset_power_inRange .., reset_group_inRange, reset_snap_inRange, i⟩, reset_head_legal, reset_mem_canonical⟩

theorem powerOff_grows (s : State) : Grows 268433392 s (powerOff s) := by
  unfold powerOff
  try dsimp only
  repeat' first
    | with_reducible exact Grows.refl _ _
    | (with_reducible apply Grows.step (resetModule_grows ..)) <;> [exact rfl; skip]
    | (with_reducible apply Grows.ite) <;> intro _
    | dsimp only
    | split
    | refine Grows.upd ?_ (.inr rfl) (.inr rfl) (.inr rfl) (.inr rfl) (.inl rfl) (.inl rfl) (.inl rfl) (.inl rfl) (.inl rfl) (.inl rfl) (.inl rfl) (.inr rfl) (.inl rfl) (.inl rfl) (.inl rfl) (.inl rfl) (.inl rfl) (.inl rfl) (.inl rfl) (.inl rfl) (.inl rfl) (.inl rfl) (.inl rfl) (.inl rfl) (.inl rfl) (.inl rfl) (.inl rfl) (.inl rfl)
        (Nat.le_refl _) (Nat.le_refl _) List.prefix_rfl (by unfold fuses; first | with_reducible rfl | rfl) (by refine ⟨?_, ?_⟩ <;> first | with_reducible rfl | rfl) (by refine ⟨?_, ?_, ?_⟩ <;> first | with_reducible rfl | rfl) (by refine ⟨?_, ?_, ?_⟩ <;> first | with_reducible rfl | rfl) (by refine ⟨?_, ?_, ?_, ?_, ?_, ?_⟩ <;> first | with_reducible rfl | rfl) (by refine ⟨?_, ?_, ?_⟩ <;> first | with_reducible rfl | rfl) (by refine ⟨?_, ?_, ?_, ?_, ?_, ?_, ?_, ?_, ?_, ?_⟩ <;> first | with_reducible rfl | rfl) (by refine ⟨?_, ?_, ?_, ?_⟩ <;> first | with_reducible rfl | rfl) (by refine ⟨?_, ?_⟩ <;> first | with_reducible rfl | rfl) (by unfold flashKept; first | with_reducible rfl | rfl) (by first | with_reducible rfl | rfl) (by first | with_reducible rfl | rfl)

theorem faultReset_grows (x1) (s : State) : Grows 268433392 s (faultReset x1 s) := by
  unfold faultReset
  try dsimp only
  repeat' first
    | with_reducible exact Grows.refl _ _
    | (with_reducible apply Grows.step (resetModule_grows ..)) <;> [exact rfl; skip]
    | (with_reducible apply Grows.step (journalEntry_grows ..)) <;> [exact rfl; skip]
    | (with_reducible apply Grows.ite) <;> intro _
    | dsimp only
    | split

theorem passStep_grows (x1 x2) (s : State) : Grows 48 s (passStep x1 x2 s) := by
  unfold passStep
  try dsimp only
  repeat' first
    | with_reducible exact Grows.refl _ _
    | (with_reducible apply Grows.step (journalEntry_grows ..)) <;> [exact rfl; skip]
    | (with_reducible apply Grows.ite) <;> intro _
    | dsimp only
    | split
    | refine Grows.upd ?_ (.inr rfl) (.inr rfl) (.inr rfl) (.inr rfl) (.inl rfl) (.inl rfl) (.inr rfl) (.inr rfl) (.inr rfl) (.inr rfl) (.inr rfl) (.inr rfl) (.inr rfl) (.inr rfl) (.inr rfl) (.inr rfl) (.inr rfl) (.inr rfl) (.inr rfl) (.inr rfl) (.inr rfl) (.inr rfl) (.inr rfl) (.inr rfl) (.inr rfl) (.inr rfl) (.inr rfl) (.inr rfl)
        (Nat.le_refl _) (Nat.le_refl _) List.prefix_rfl (by unfold fuses; first | with_reducible rfl | rfl) ⟨rfl, rfl⟩ ⟨rfl, rfl, rfl⟩ ⟨rfl, rfl, rfl⟩ ⟨rfl, rfl, rfl, rfl, rfl, rfl⟩ ⟨rfl, rfl, rfl⟩ ⟨rfl, rfl, rfl, rfl, rfl, rfl, rfl, rfl, rfl, rfl⟩ ⟨rfl, rfl, rfl, rfl⟩ ⟨rfl, rfl⟩ (by unfold flashKept; first | with_reducible rfl | rfl) rfl rfl

theorem failStep_grows (x1 x2) (s : State) : Grows 268433392 s (failStep x1 x2 s) := by
  unfold failStep
  try dsimp only
  repeat' first
    | with_reducible exact Grows.refl _ _
    | (with_reducible apply Grows.step (resetModule_grows ..)) <;> [exact rfl; skip]
    | (with_reducible apply Grows.step (journalEntry_grows ..)) <;> [exact rfl; skip]
    | (with_reducible apply Grows.ite) <;> intro _
    | dsimp only
    | split

theorem hangStep_grows (x1) (s : State) : Grows 48 s (hangStep x1 s) := by
  unfold hangStep
  try dsimp only
  repeat' first
    | with_reducible exact Grows.refl _ _
    | (with_reducible apply Grows.step (journalEntry_grows ..)) <;> [exact rfl; skip]
    | (with_reducible apply Grows.ite) <;> intro _
    | dsimp only
    | split
    | refine Grows.upd ?_ (.inr rfl) (.inr rfl) (.inr rfl) (.inr rfl) (.inl rfl) (.inl rfl) (.inr rfl) (.inr rfl) (.inr rfl) (.inr rfl) (.inr rfl) (.inr rfl) (.inr rfl) (.inr rfl) (.inr rfl) (.inr rfl) (.inr rfl) (.inr rfl) (.inr rfl) (.inr rfl) (.inr rfl) (.inr rfl) (.inr rfl) (.inr rfl) (.inr rfl) (.inr rfl) (.inr rfl) (.inr rfl)
        (Nat.le_refl _) (Nat.le_refl _) List.prefix_rfl (by unfold fuses; first | with_reducible rfl | rfl) ⟨rfl, rfl⟩ ⟨rfl, rfl, rfl⟩ ⟨rfl, rfl, rfl⟩ ⟨rfl, rfl, rfl, rfl, rfl, rfl⟩ ⟨rfl, rfl, rfl⟩ ⟨rfl, rfl, rfl, rfl, rfl, rfl, rfl, rfl, rfl, rfl⟩ ⟨rfl, rfl, rfl, rfl⟩ ⟨rfl, rfl⟩ (by unfold flashKept; first | with_reducible rfl | rfl) rfl rfl

theorem beginStart_grows (x1) (s : State) : Grows 32 s (beginStart x1 s) := by
  unfold beginStart
  try dsimp only
  repeat' first
    | with_reducible exact Grows.refl _ _
    | (with_reducible apply Grows.ite) <;> intro _
    | dsimp only
    | split
    | refine Grows.upd ?_ (.inr rfl) (.inr rfl) (.inr rfl) (.inr rfl) (.inr rfl) (.inl rfl) (.inr rfl) (.inr rfl) (.inr rfl) (.inr rfl) (.inr rfl) (.inr rfl) (.inr rfl) (.inr rfl) (.inr rfl) (.inr rfl) (.inr rfl) (.inr rfl) (.inr rfl) (.inr rfl) (.inr rfl) (.inr rfl) (.inr rfl) (.inr rfl) (.inr rfl) (.inr rfl) (.inr rfl) (.inr rfl)
        (Nat.le_refl _) (Nat.le_refl _) List.prefix_rfl rfl ⟨rfl, rfl⟩ ⟨rfl, rfl, rfl⟩ ⟨rfl, rfl, rfl⟩ ⟨rfl, rfl, rfl, rfl, rfl, rfl⟩ ⟨rfl, rfl, rfl⟩ ⟨rfl, rfl, rfl, rfl, rfl, rfl, rfl, rfl, rfl, rfl⟩ ⟨rfl, rfl, rfl, rfl⟩ ⟨rfl, rfl⟩ rfl rfl rfl

theorem enterRecovery_grows (s : State) : Grows 8388768 s (enterRecovery s) := by
  unfold enterRecovery
  try dsimp only
  repeat' first
    | with_reducible exact Grows.refl _ _
    | (with_reducible apply Grows.ite) <;> intro _
    | dsimp only
    | split
    | refine Grows.upd ?_ (.inr rfl) (.inr rfl) (.inr rfl) (.inr rfl) (.inr rfl) (.inl rfl) (.inr rfl) (.inl rfl) (.inr rfl) (.inr rfl) (.inr rfl) (.inr rfl) (.inr rfl) (.inr rfl) (.inr rfl) (.inr rfl) (.inr rfl) (.inr rfl) (.inr rfl) (.inr rfl) (.inr rfl) (.inr rfl) (.inr rfl) (.inl rfl) (.inr rfl) (.inr rfl) (.inr rfl) (.inr rfl)
        (Nat.le_refl _) (Nat.le_refl _) List.prefix_rfl rfl ⟨rfl, rfl⟩ ⟨rfl, rfl, rfl⟩ ⟨rfl, rfl, rfl⟩ ⟨rfl, rfl, rfl, rfl, rfl, rfl⟩ ⟨rfl, rfl, rfl⟩ ⟨rfl, rfl, rfl, rfl, rfl, rfl, rfl, rfl, rfl, rfl⟩ ⟨rfl, rfl, rfl, rfl⟩ ⟨rfl, rfl⟩ rfl rfl rfl

theorem storeDefects_grows (x1 x2) (s : State) : Grows 65584 s (storeDefects x1 x2 s) := by
  unfold storeDefects
  try dsimp only
  repeat' first
    | with_reducible exact Grows.refl _ _
    | (with_reducible apply Grows.step (putSize_grows ..)) <;> [exact rfl; skip]
    | (with_reducible apply Grows.step (journalEntry_grows ..)) <;> [exact rfl; skip]
    | (with_reducible apply Grows.step (extendMeas_grows ..)) <;> [exact rfl; skip]
    | (with_reducible apply Grows.ite) <;> intro _
    | dsimp only
    | split
    | refine Grows.upd ?_ (.inr rfl) (.inr rfl) (.inr rfl) (.inr rfl) (.inl rfl) (.inl rfl) (.inr rfl) (.inr rfl) (.inr rfl) (.inr rfl) (.inr rfl) (.inr rfl) (.inr rfl) (.inr rfl) (.inr rfl) (.inr rfl) (.inl rfl) (.inr rfl) (.inr rfl) (.inr rfl) (.inr rfl) (.inr rfl) (.inr rfl) (.inr rfl) (.inr rfl) (.inr rfl) (.inr rfl) (.inr rfl)
        (Nat.le_refl _) (Nat.le_refl _) List.prefix_rfl (by unfold fuses; first | with_reducible rfl | rfl) ⟨rfl, rfl⟩ ⟨rfl, rfl, rfl⟩ ⟨rfl, rfl, rfl⟩ ⟨rfl, rfl, rfl, rfl, rfl, rfl⟩ ⟨rfl, rfl, rfl⟩ ⟨rfl, rfl, rfl, rfl, rfl, rfl, rfl, rfl, rfl, rfl⟩ ⟨rfl, rfl, rfl, rfl⟩ ⟨rfl, rfl⟩ (by unfold flashKept; first | with_reducible rfl | rfl) rfl rfl

theorem leaveDark_grows (x1) (s : State) : Grows 65536 s (leaveDark x1 s) := by
  unfold leaveDark
  try dsimp only
  repeat' first
    | with_reducible exact Grows.refl _ _
    | (with_reducible apply Grows.each) <;> [skip; intro _ _]
    | (with_reducible apply Grows.step (setField_grows ..)) <;> [exact rfl; skip]
    | (with_reducible apply Grows.ite) <;> intro _
    | dsimp only
    | split

theorem trainLanes_grows (x1) (s : State) : Grows 2097152 s (trainLanes x1 s) := by
  unfold trainLanes
  try dsimp only
  repeat' first
    | with_reducible exact Grows.refl _ _
    | (with_reducible apply Grows.each) <;> [skip; intro _ _]
    | (with_reducible apply Grows.step (setLane_grows ..)) <;> [exact rfl; skip]
    | (with_reducible apply Grows.ite) <;> intro _
    | dsimp only
    | split

theorem trainMemory_grows (x1) (s : State) : Grows 524304 s (trainMemory x1 s) := by
  unfold trainMemory
  try dsimp only
  repeat' first
    | with_reducible exact Grows.refl _ _
    | (with_reducible apply Grows.ite) <;> intro _
    | dsimp only
    | split
    | refine Grows.upd ?_ (.inr rfl) (.inr rfl) (.inr rfl) (.inr rfl) (.inl rfl) (.inr rfl) (.inr rfl) (.inr rfl) (.inr rfl) (.inr rfl) (.inr rfl) (.inr rfl) (.inr rfl) (.inr rfl) (.inr rfl) (.inr rfl) (.inr rfl) (.inr rfl) (.inr rfl) (.inl rfl) (.inr rfl) (.inr rfl) (.inr rfl) (.inr rfl) (.inr rfl) (.inr rfl) (.inr rfl) (.inr rfl)
        (Nat.le_refl _) (Nat.le_refl _) List.prefix_rfl (by unfold fuses; first | with_reducible rfl | rfl) ⟨rfl, rfl⟩ ⟨rfl, rfl, rfl⟩ (by refine ⟨?_, ?_, ?_⟩ <;> first | with_reducible rfl | rfl) ⟨rfl, rfl, rfl, rfl, rfl, rfl⟩ ⟨rfl, rfl, rfl⟩ ⟨rfl, rfl, rfl, rfl, rfl, rfl, rfl, rfl, rfl, rfl⟩ ⟨rfl, rfl, rfl, rfl⟩ ⟨rfl, rfl⟩ (by unfold flashKept; first | with_reducible rfl | rfl) rfl (by first | with_reducible rfl | rfl)

theorem startSteps_grows (facts : StartFacts) (kind : TestKind) :
    ∀ p ∈ startSteps facts kind, ∀ u, Grows 11075760 u (p.2 u) := by
  unfold startSteps
  simp only [List.forall_mem_cons, id]
  refine ⟨fun u => .refl _ u, fun u => ?_, fun u => .refl _ u, fun u => .refl _ u, fun u => ?_, fun u => ?_, fun u => ?_,
    fun u => ?_, fun u => ?_, fun u => ?_, by simp⟩
  · exact (leaveDark_grows ..).step rfl (Grows.upd (Grows.refl _ u) (.inr rfl) (.inr rfl) (.inr rfl) (.inr rfl) (.inl rfl) (.inl rfl) (.inr rfl) (.inl rfl) (.inr rfl) (.inr rfl) (.inr rfl) (.inr rfl) (.inr rfl) (.inr rfl) (.inr rfl) (.inr rfl) (.inl rfl) (.inr rfl) (.inr rfl) (.inl rfl) (.inr rfl) (.inl rfl) (.inr rfl) (.inl rfl) (.inr rfl) (.inr rfl) (.inr rfl) (.inr rfl)
      (Nat.le_refl _) (Nat.le_refl _) List.prefix_rfl rfl ⟨rfl, rfl⟩ ⟨rfl, rfl, rfl⟩ ⟨rfl, rfl, rfl⟩ ⟨rfl, rfl, rfl, rfl, rfl, rfl⟩ ⟨rfl, rfl, rfl⟩ ⟨rfl, rfl, rfl, rfl, rfl, rfl, rfl, rfl, rfl, rfl⟩ ⟨rfl, rfl, rfl, rfl⟩ ⟨rfl, rfl⟩ rfl rfl rfl)
  · exact (trainMemory_grows ..).mono rfl
  · exact (journalEntry_grows ..).mono rfl
  · exact (storeDefects_grows ..).mono rfl
  · exact (trainLanes_grows ..).mono rfl
  · exact Grows.upd (Grows.refl _ u) (.inr rfl) (.inr rfl) (.inr rfl) (.inr rfl) (.inl rfl) (.inl rfl) (.inr rfl) (.inl rfl) (.inr rfl) (.inr rfl) (.inr rfl) (.inr rfl) (.inr rfl) (.inr rfl) (.inr rfl) (.inr rfl) (.inl rfl) (.inr rfl) (.inr rfl) (.inl rfl) (.inr rfl) (.inl rfl) (.inr rfl) (.inl rfl) (.inr rfl) (.inr rfl) (.inr rfl) (.inr rfl)
      (Nat.le_refl _) (Nat.le_refl _) List.prefix_rfl rfl ⟨rfl, rfl⟩ ⟨rfl, rfl, rfl⟩ ⟨rfl, rfl, rfl⟩ ⟨rfl, rfl, rfl, rfl, rfl, rfl⟩ ⟨rfl, rfl, rfl⟩ ⟨rfl, rfl, rfl, rfl, rfl, rfl, rfl, rfl, rfl, rfl⟩ ⟨rfl, rfl, rfl, rfl⟩ ⟨rfl, rfl⟩ rfl rfl rfl
  · exact Grows.upd (Grows.refl _ u) (.inr rfl) (.inr rfl) (.inr rfl) (.inr rfl) (.inl rfl) (.inl rfl) (.inr rfl) (.inl rfl) (.inr rfl) (.inr rfl) (.inr rfl) (.inr rfl) (.inr rfl) (.inr rfl) (.inr rfl) (.inr rfl) (.inl rfl) (.inr rfl) (.inr rfl) (.inl rfl) (.inr rfl) (.inl rfl) (.inr rfl) (.inl rfl) (.inr rfl) (.inr rfl) (.inr rfl) (.inr rfl)
      (Nat.le_refl _) (Nat.le_refl _) List.prefix_rfl rfl ⟨rfl, rfl⟩ ⟨rfl, rfl, rfl⟩ ⟨rfl, rfl, rfl⟩ ⟨rfl, rfl, rfl, rfl, rfl, rfl⟩ ⟨rfl, rfl, rfl⟩ ⟨rfl, rfl, rfl, rfl, rfl, rfl, rfl, rfl, rfl, rfl⟩ ⟨rfl, rfl, rfl, rfl⟩ ⟨rfl, rfl⟩ rfl rfl rfl

theorem runSteps_grows {m : Nat} {facts : StartFacts} {l : List (Nat × (State → State))} {s t : State} (hm : 268433392 ||| m = m)
    (h : ∀ p ∈ l, ∀ u, Grows m u (p.2 u)) (k : Grows m s t) : Grows m s (runSteps facts l t) := by
  induction l generalizing t with
  | nil => exact k
  | cons p l ih =>
    unfold runSteps
    split
    · exact .step2 (M := 268433392) (hangStep_grows ..) rfl hm k
    · split
      · exact .step2 (M := 268433392) (failStep_grows ..) rfl hm k
      · exact ih (fun q hq => h q (by simp [hq]))
          (.step2 (M := 268433392) (passStep_grows ..) rfl hm (k.trans (h p (by simp) t)))

theorem afterReady_grows (s : State) : Grows 32211588 s (afterReady s) := by
  unfold afterReady
  try dsimp only
  repeat' first
    | with_reducible exact Grows.refl _ _
    | (with_reducible apply Grows.step (refreshSize_grows ..)) <;> [exact rfl; skip]
    | (with_reducible apply Grows.step (installRoutes_grows ..)) <;> [exact rfl; skip]
    | (with_reducible apply Grows.step (darkenParts_grows ..)) <;> [exact rfl; skip]
    | (with_reducible apply Grows.each) <;> [skip; intro _ _]
    | (with_reducible apply Grows.step (fieldEvent_grows ..)) <;> [exact rfl; skip]
    | (with_reducible apply Grows.ite) <;> intro _
    | dsimp only
    | split

theorem startVerified_grows (x1 x2 x3) (s : State) : Grows 268433396 s (startVerified x1 x2 x3 s) := by
  unfold startVerified
  try dsimp only
  repeat' first
    | with_reducible exact Grows.refl _ _
    | (with_reducible apply Grows.each) <;> [skip; intro _ _]
    | (with_reducible apply Grows.step (extendMeas_grows ..)) <;> [exact rfl; skip]
    | (with_reducible apply Grows.step (afterReady_grows ..)) <;> [exact rfl; skip]
    | (with_reducible apply runSteps_grows) <;> [exact rfl; exact fun p hp u => (startSteps_grows _ _ p hp u).mono rfl; skip]
    | (with_reducible apply Grows.step (passStep_grows ..)) <;> [exact rfl; skip]
    | (with_reducible apply Grows.ite) <;> intro _
    | dsimp only
    | split
    | refine Grows.upd ?_ (.inr rfl) (.inr rfl) (.inl rfl) (.inr rfl) (.inl rfl) (.inl rfl) (.inl rfl) (.inl rfl) (.inl rfl) (.inl rfl) (.inl rfl) (.inr rfl) (.inl rfl) (.inl rfl) (.inl rfl) (.inl rfl) (.inl rfl) (.inl rfl) (.inl rfl) (.inl rfl) (.inl rfl) (.inl rfl) (.inl rfl) (.inl rfl) (.inl rfl) (.inl rfl) (.inl rfl) (.inl rfl)
        (Nat.le_refl _) (Nat.le_refl _) List.prefix_rfl (by unfold fuses; first | with_reducible rfl | rfl) (by refine ⟨?_, ?_⟩ <;> first | with_reducible rfl | rfl) (by refine ⟨?_, ?_, ?_⟩ <;> first | with_reducible rfl | rfl) (by refine ⟨?_, ?_, ?_⟩ <;> first | with_reducible rfl | rfl) (by refine ⟨?_, ?_, ?_, ?_, ?_, ?_⟩ <;> first | with_reducible rfl | rfl) (by refine ⟨?_, ?_, ?_⟩ <;> first | with_reducible rfl | rfl) (by refine ⟨?_, ?_, ?_, ?_, ?_, ?_, ?_, ?_, ?_, ?_⟩ <;> first | with_reducible rfl | rfl) (by refine ⟨?_, ?_, ?_, ?_⟩ <;> first | with_reducible rfl | rfl) (by refine ⟨?_, ?_⟩ <;> first | with_reducible rfl | rfl) (by unfold flashKept; first | with_reducible rfl | rfl) (by first | with_reducible rfl | rfl) (by first | with_reducible rfl | rfl)

theorem attempt_grows (x1 x2) (s : State) : Grows 268433396 s (attempt x1 x2 s) := by
  fun_induction attempt x1 x2 s
  all_goals try dsimp only
  all_goals repeat' first
    | with_reducible exact Grows.refl _ _
    | with_reducible refine Grows.trans ?_ (by assumption)
    | (with_reducible apply Grows.step (enterRecovery_grows ..)) <;> [exact rfl; skip]
    | (with_reducible apply Grows.step (passStep_grows ..)) <;> [exact rfl; skip]
    | (with_reducible apply Grows.step (failStep_grows ..)) <;> [exact rfl; skip]
    | (with_reducible apply Grows.step (startVerified_grows ..)) <;> [exact rfl; skip]
    | (with_reducible apply Grows.step (journalEntry_grows ..)) <;> [exact rfl; skip]
    | (with_reducible apply Grows.step (hangStep_grows ..)) <;> [exact rfl; skip]
    | (with_reducible apply Grows.step (beginStart_grows ..)) <;> [exact rfl; skip]
    | (with_reducible apply Grows.ite) <;> intro _
    | dsimp only
    | split
    | refine Grows.upd ?_ (.inr rfl) (.inr rfl) (.inl rfl) (.inr rfl) (.inl rfl) (.inl rfl) (.inl rfl) (.inl rfl) (.inl rfl) (.inl rfl) (.inl rfl) (.inr rfl) (.inl rfl) (.inl rfl) (.inl rfl) (.inl rfl) (.inl rfl) (.inl rfl) (.inl rfl) (.inl rfl) (.inl rfl) (.inl rfl) (.inl rfl) (.inl rfl) (.inl rfl) (.inl rfl) (.inl rfl) (.inl rfl)
        (Nat.le_refl _) (Nat.le_refl _) List.prefix_rfl (by unfold fuses; first | with_reducible rfl | rfl) (by refine ⟨?_, ?_⟩ <;> first | with_reducible rfl | rfl) (by refine ⟨?_, ?_, ?_⟩ <;> first | with_reducible rfl | rfl) (by refine ⟨?_, ?_, ?_⟩ <;> first | with_reducible rfl | rfl) (by refine ⟨?_, ?_, ?_, ?_, ?_, ?_⟩ <;> first | with_reducible rfl | rfl) (by refine ⟨?_, ?_, ?_⟩ <;> first | with_reducible rfl | rfl) (by refine ⟨?_, ?_, ?_, ?_, ?_, ?_, ?_, ?_, ?_, ?_⟩ <;> first | with_reducible rfl | rfl) (by refine ⟨?_, ?_, ?_, ?_⟩ <;> first | with_reducible rfl | rfl) (by refine ⟨?_, ?_⟩ <;> first | with_reducible rfl | rfl) (by unfold flashKept; first | with_reducible rfl | rfl) (by first | with_reducible rfl | rfl) (by first | with_reducible rfl | rfl)

theorem startPreamble_grows (s : State) : Grows 18 s (startPreamble s) := by
  unfold startPreamble
  try dsimp only
  repeat' first
    | with_reducible exact Grows.refl _ _
    | (with_reducible apply Grows.step (drawFree_grows ..)) <;> [exact rfl; skip]
    | (with_reducible apply Grows.step (drawFree_out (by assumption))) <;> [exact rfl; skip]
    | (with_reducible apply Grows.step (journalEntry_grows ..)) <;> [exact rfl; skip]
    | (with_reducible apply Grows.ite) <;> intro _
    | dsimp only
    | split
    | refine Grows.upd ?_ (.inr rfl) (.inl rfl) (.inr rfl) (.inr rfl) (.inl rfl) (.inr rfl) (.inr rfl) (.inr rfl) (.inr rfl) (.inr rfl) (.inr rfl) (.inr rfl) (.inr rfl) (.inr rfl) (.inr rfl) (.inr rfl) (.inr rfl) (.inr rfl) (.inr rfl) (.inr rfl) (.inr rfl) (.inr rfl) (.inr rfl) (.inr rfl) (.inr rfl) (.inr rfl) (.inr rfl) (.inr rfl)
        (Nat.le_refl _) (Nat.le_refl _) List.prefix_rfl (by unfold fuses; first | with_reducible rfl | rfl) ⟨rfl, rfl⟩ ⟨rfl, rfl, rfl⟩ ⟨rfl, rfl, rfl⟩ ⟨rfl, rfl, rfl, rfl, rfl, rfl⟩ ⟨rfl, rfl, rfl⟩ ⟨rfl, rfl, rfl, rfl, rfl, rfl, rfl, rfl, rfl, rfl⟩ ⟨rfl, rfl, rfl, rfl⟩ ⟨rfl, rfl⟩ (by unfold flashKept; first | with_reducible rfl | rfl) rfl rfl

end Sys2Proof.Machine
end

