-- ==== Sys2Proof/Laws/GrowsReduce.lean ====
section
/-! SUPPORT. What each operation of Machine/Reduce.lean does to the state, in the form of `Grows`. -/

namespace Sys2Proof.Machine

theorem openRecord_grows (x1 x2 x3 x4) (s : State) : Grows 1048576 s (openRecord x1 x2 x3 x4 s) := by
  unfold openRecord
  try dsimp only
  repeat' first
    | with_reducible exact Grows.refl _ _
    | (with_reducible apply Grows.step (setBlock_grows ..)) <;> [exact rfl; skip]
    | (with_reducible apply Grows.ite) <;> intro _
    | dsimp only
    | split

theorem touchCache_grows (x1 x2) (s : State) : Grows 17301504 s (touchCache x1 x2 s) := by
  unfold touchCache
  try dsimp only
  repeat' first
    | with_reducible exact Grows.refl _ _
    | (with_reducible apply Grows.step (count_grows ..)) <;> [exact rfl; skip]
    | (with_reducible apply Grows.ite) <;> intro _
    | dsimp only
    | split
    | refine Grows.upd ?_ (.inr rfl) (.inr rfl) (.inr rfl) (.inr rfl) (.inr rfl) (.inr rfl) (.inr rfl) (.inr rfl) (.inr rfl) (.inr rfl) (.inr rfl) (.inr rfl) (.inr rfl) (.inr rfl) (.inr rfl) (.inr rfl) (.inr rfl) (.inr rfl) (.inr rfl) (.inl rfl) (.inr rfl) (.inr rfl) (.inr rfl) (.inr rfl) (.inl rfl) (.inr rfl) (.inr rfl) (.inr rfl)
        (Nat.le_refl _) (Nat.le_refl _) List.prefix_rfl rfl ⟨rfl, rfl⟩ ⟨rfl, rfl, rfl⟩ (by refine ⟨?_, ?_, ?_⟩ <;> first | with_reducible rfl | rfl) ⟨rfl, rfl, rfl, rfl, rfl, rfl⟩ ⟨rfl, rfl, rfl⟩ ⟨rfl, rfl, rfl, rfl, rfl, rfl, rfl, rfl, rfl, rfl⟩ ⟨rfl, rfl, rfl, rfl⟩ ⟨rfl, rfl⟩ rfl rfl (by first | with_reducible rfl | rfl)

theorem leaveCache_grows (x1) (s : State) : Grows 524288 s (leaveCache x1 s) := by
  unfold leaveCache
  try dsimp only
  repeat' first
    | with_reducible exact Grows.refl _ _
    | (with_reducible apply Grows.ite) <;> intro _
    | dsimp only
    | split
    | refine Grows.upd ?_ (.inr rfl) (.inr rfl) (.inr rfl) (.inr rfl) (.inr rfl) (.inr rfl) (.inr rfl) (.inr rfl) (.inr rfl) (.inr rfl) (.inr rfl) (.inr rfl) (.inr rfl) (.inr rfl) (.inr rfl) (.inr rfl) (.inr rfl) (.inr rfl) (.inr rfl) (.inl rfl) (.inr rfl) (.inr rfl) (.inr rfl) (.inr rfl) (.inr rfl) (.inr rfl) (.inr rfl) (.inr rfl)
        (Nat.le_refl _) (Nat.le_refl _) List.prefix_rfl rfl ⟨rfl, rfl⟩ ⟨rfl, rfl, rfl⟩ (by refine ⟨?_, ?_, ?_⟩ <;> first | with_reducible rfl | rfl) ⟨rfl, rfl, rfl, rfl, rfl, rfl⟩ ⟨rfl, rfl, rfl⟩ ⟨rfl, rfl, rfl, rfl, rfl, rfl, rfl, rfl, rfl, rfl⟩ ⟨rfl, rfl, rfl, rfl⟩ ⟨rfl, rfl⟩ rfl rfl (by first | with_reducible rfl | rfl)

theorem checkUnit_grows (x1 x2 x3 x4) (r : List Nat × State) : Grows 17301520 r.2 (checkUnit x1 x2 x3 x4 r).2 := by
  unfold checkUnit
  dsimp only
  split
  · exact Grows.refl _ _
  · split
    · exact (count_grows ..).mono rfl
    · refine Grows.step (count_grows ..) rfl ?_
      refine Grows.upd (.refl _ _) (.inr rfl) (.inr rfl) (.inr rfl) (.inr rfl) (.inl rfl) (.inr rfl) (.inr rfl) (.inr rfl) (.inr rfl) (.inr rfl) (.inr rfl) (.inr rfl) (.inr rfl) (.inr rfl) (.inr rfl) (.inr rfl) (.inr rfl) (.inr rfl) (.inr rfl) (.inl rfl) (.inr rfl) (.inr rfl) (.inr rfl) (.inr rfl) (.inl rfl) (.inr rfl) (.inr rfl) (.inr rfl)
        (Nat.le_refl _) (Nat.le_refl _) List.prefix_rfl (by unfold fuses; first | with_reducible rfl | rfl) ⟨rfl, rfl⟩ ⟨rfl, rfl, rfl⟩ (by refine ⟨?_, ?_, ?_⟩ <;> first | with_reducible rfl | rfl) ⟨rfl, rfl, rfl, rfl, rfl, rfl⟩ ⟨rfl, rfl, rfl⟩ ⟨rfl, rfl, rfl, rfl, rfl, rfl, rfl, rfl, rfl, rfl⟩ ⟨rfl, rfl, rfl, rfl⟩ ⟨rfl, rfl⟩ (by unfold flashKept; first | with_reducible rfl | rfl) rfl (by first | with_reducible rfl | rfl)

theorem checkedRead_grows (x1 x2 x3 x4) (s : State) : Grows 17301520 s (checkedRead x1 x2 x3 x4 s).2 := by
  unfold checkedRead
  suffices h : ∀ (l : List Nat) (r : List Nat × State), Grows 17301520 r.2 (l.foldl (fun r i => checkUnit x1 x2 x4 i r) r).2 from
    h x3 ([], s)
  intro l
  induction l with
  | nil => exact fun r => .refl _ _
  | cons i l ih => exact fun r => ((checkUnit_grows x1 x2 x4 i r).mono rfl).trans (ih _)

theorem checkedRead_out {x1 x2 x3 x4} {s t : State} {y} (h : checkedRead x1 x2 x3 x4 s = (y, t)) : Grows 17301520 s t := by
  have := checkedRead_grows x1 x2 x3 x4 s; rw [h] at this; exact this

theorem countBus_grows (x1) (s : State) : Grows 16777216 s (countBus x1 s) := by
  unfold countBus
  try dsimp only
  repeat' first
    | with_reducible exact Grows.refl _ _
    | (with_reducible apply Grows.step (count_grows ..)) <;> [exact rfl; skip]
    | (with_reducible apply Grows.ite) <;> intro _
    | dsimp only
    | split

theorem ackMembers_grows (x1) (s : State) : Grows 1048580 s (ackMembers x1 s) := by
  unfold ackMembers
  try dsimp only
  repeat' first
    | with_reducible exact Grows.refl _ _
    | (with_reducible apply Grows.step (setBlock_grows ..)) <;> [exact rfl; skip]
    | (with_reducible apply Grows.step (emitAll_grows ..)) <;> [exact rfl; skip]
    | (with_reducible apply Grows.ite) <;> intro _
    | dsimp only
    | split

theorem reRequestBlock_grows (x1 x2) (s : State) : Grows 1048580 s (reRequestBlock x1 x2 s) := by
  unfold reRequestBlock
  try dsimp only
  repeat' first
    | with_reducible exact Grows.refl _ _
    | (with_reducible apply Grows.step (emit_grows ..)) <;> [exact rfl; skip]
    | (with_reducible apply Grows.step (setBlock_grows ..)) <;> [exact rfl; skip]
    | (with_reducible apply Grows.ite) <;> intro _
    | dsimp only
    | split

theorem reductionFault_grows (x1 x2) (s : State) : Grows 8946308 s (reductionFault x1 x2 s) := by
  unfold reductionFault
  try dsimp only
  repeat' first
    | with_reducible exact Grows.refl _ _
    | (with_reducible apply Grows.step (rollFault_grows ..)) <;> [exact rfl; skip]
    | (with_reducible apply Grows.ite) <;> intro _
    | dsimp only
    | split

theorem failBlock_grows (x1) (s : State) : Grows 26772100 s (failBlock x1 s) := by
  unfold failBlock
  try dsimp only
  repeat' first
    | with_reducible exact Grows.refl _ _
    | (with_reducible apply Grows.step (count_grows ..)) <;> [exact rfl; skip]
    | (with_reducible apply Grows.step (setBlock_grows ..)) <;> [exact rfl; skip]
    | (with_reducible apply Grows.step (reductionFault_grows ..)) <;> [exact rfl; skip]
    | (with_reducible apply Grows.step (reRequestBlock_grows ..)) <;> [exact rfl; skip]
    | (with_reducible apply Grows.ite) <;> intro _
    | dsimp only
    | split

theorem bindRefresh_grows (x1 x2) (s : State) : Grows 1048576 s (bindRefresh x1 x2 s).2 := by
  unfold bindRefresh
  try dsimp only
  repeat' first
    | with_reducible exact Grows.refl _ _
    | (with_reducible apply Grows.ite) <;> intro _
    | dsimp only
    | split
    | refine Grows.upd ?_ (.inr rfl) (.inr rfl) (.inr rfl) (.inr rfl) (.inr rfl) (.inr rfl) (.inr rfl) (.inr rfl) (.inr rfl) (.inr rfl) (.inr rfl) (.inr rfl) (.inr rfl) (.inr rfl) (.inr rfl) (.inr rfl) (.inr rfl) (.inr rfl) (.inr rfl) (.inr rfl) (.inl rfl) (.inr rfl) (.inr rfl) (.inr rfl) (.inr rfl) (.inr rfl) (.inr rfl) (.inr rfl)
        (Nat.le_refl _) (Nat.le_refl _) List.prefix_rfl rfl ⟨rfl, rfl⟩ ⟨rfl, rfl, rfl⟩ ⟨rfl, rfl, rfl⟩ (by refine ⟨?_, ?_, ?_, ?_, ?_, ?_⟩ <;> first | with_reducible rfl | rfl) ⟨rfl, rfl, rfl⟩ ⟨rfl, rfl, rfl, rfl, rfl, rfl, rfl, rfl, rfl, rfl⟩ ⟨rfl, rfl, rfl, rfl⟩ ⟨rfl, rfl⟩ rfl rfl rfl

theorem bindRefresh_out {x1 x2} {s t : State} {y} (h : bindRefresh x1 x2 s = (y, t)) : Grows 1048576 s t := by
  have := bindRefresh_grows x1 x2 s; rw [h] at this; exact this

theorem noteChurn_grows (x1 x2 x3) (s : State) : Grows 26738820 s (noteChurn x1 x2 x3 s) := by
  unfold noteChurn
  try dsimp only
  repeat' first
    | with_reducible exact Grows.refl _ _
    | (with_reducible apply Grows.step (count_grows ..)) <;> [exact rfl; skip]
    | (with_reducible apply Grows.step (event_grows ..)) <;> [exact rfl; skip]
    | (with_reducible apply Grows.ite) <;> intro _
    | dsimp only
    | split
    | refine Grows.upd ?_ (.inr rfl) (.inr rfl) (.inl rfl) (.inr rfl) (.inr rfl) (.inr rfl) (.inr rfl) (.inl rfl) (.inr rfl) (.inr rfl) (.inr rfl) (.inr rfl) (.inr rfl) (.inr rfl) (.inr rfl) (.inr rfl) (.inr rfl) (.inr rfl) (.inr rfl) (.inl rfl) (.inl rfl) (.inr rfl) (.inr rfl) (.inl rfl) (.inl rfl) (.inr rfl) (.inr rfl) (.inr rfl)
        (Nat.le_refl _) (Nat.le_refl _) List.prefix_rfl rfl ⟨rfl, rfl⟩ ⟨rfl, rfl, rfl⟩ (by refine ⟨?_, ?_, ?_⟩ <;> first | with_reducible rfl | rfl) (by refine ⟨?_, ?_, ?_, ?_, ?_, ?_⟩ <;> first | with_reducible rfl | rfl) ⟨rfl, rfl, rfl⟩ ⟨rfl, rfl, rfl, rfl, rfl, rfl, rfl, rfl, rfl, rfl⟩ ⟨rfl, rfl, rfl, rfl⟩ ⟨rfl, rfl⟩ rfl rfl (by first | with_reducible rfl | rfl)

theorem noteNonfinite_grows (x1) (s : State) : Grows 17825792 s (noteNonfinite x1 s) := by
  unfold noteNonfinite
  try dsimp only
  repeat' first
    | with_reducible exact Grows.refl _ _
    | (with_reducible apply Grows.step (count_grows ..)) <;> [exact rfl; skip]
    | (with_reducible apply Grows.ite) <;> intro _
    | dsimp only
    | split
    | refine Grows.upd ?_ (.inr rfl) (.inr rfl) (.inr rfl) (.inr rfl) (.inr rfl) (.inr rfl) (.inr rfl) (.inr rfl) (.inr rfl) (.inr rfl) (.inr rfl) (.inr rfl) (.inr rfl) (.inr rfl) (.inr rfl) (.inr rfl) (.inr rfl) (.inr rfl) (.inr rfl) (.inr rfl) (.inl rfl) (.inr rfl) (.inr rfl) (.inr rfl) (.inl rfl) (.inr rfl) (.inr rfl) (.inr rfl)
        (Nat.le_refl _) (Nat.le_refl _) List.prefix_rfl rfl ⟨rfl, rfl⟩ ⟨rfl, rfl, rfl⟩ ⟨rfl, rfl, rfl⟩ (by refine ⟨?_, ?_, ?_, ?_, ?_, ?_⟩ <;> first | with_reducible rfl | rfl) ⟨rfl, rfl, rfl⟩ ⟨rfl, rfl, rfl, rfl, rfl, rfl, rfl, rfl, rfl, rfl⟩ ⟨rfl, rfl, rfl, rfl⟩ ⟨rfl, rfl⟩ rfl rfl rfl

theorem noteUpdated_grows (x1 x2) (s : State) : Grows 1048576 s (noteUpdated x1 x2 s) := by
  unfold noteUpdated
  try dsimp only
  repeat' first
    | with_reducible exact Grows.refl _ _
    | (with_reducible apply Grows.ite) <;> intro _
    | dsimp only
    | split
    | refine Grows.upd ?_ (.inr rfl) (.inr rfl) (.inr rfl) (.inr rfl) (.inr rfl) (.inr rfl) (.inr rfl) (.inr rfl) (.inr rfl) (.inr rfl) (.inr rfl) (.inr rfl) (.inr rfl) (.inr rfl) (.inr rfl) (.inr rfl) (.inr rfl) (.inr rfl) (.inr rfl) (.inr rfl) (.inl rfl) (.inr rfl) (.inr rfl) (.inr rfl) (.inr rfl) (.inr rfl) (.inr rfl) (.inr rfl)
        (Nat.le_refl _) (Nat.le_refl _) List.prefix_rfl rfl ⟨rfl, rfl⟩ ⟨rfl, rfl, rfl⟩ ⟨rfl, rfl, rfl⟩ (by refine ⟨?_, ?_, ?_, ?_, ?_, ?_⟩ <;> first | with_reducible rfl | rfl) ⟨rfl, rfl, rfl⟩ ⟨rfl, rfl, rfl, rfl, rfl, rfl, rfl, rfl, rfl, rfl⟩ ⟨rfl, rfl, rfl, rfl⟩ ⟨rfl, rfl⟩ rfl rfl rfl

theorem noteNorm_grows (x1 x2) (s : State) : Grows 1048576 s (noteNorm x1 x2 s) := by
  unfold noteNorm
  try dsimp only
  repeat' first
    | with_reducible exact Grows.refl _ _
    | (with_reducible apply Grows.ite) <;> intro _
    | dsimp only
    | split
    | refine Grows.upd ?_ (.inr rfl) (.inr rfl) (.inr rfl) (.inr rfl) (.inr rfl) (.inr rfl) (.inr rfl) (.inr rfl) (.inr rfl) (.inr rfl) (.inr rfl) (.inr rfl) (.inr rfl) (.inr rfl) (.inr rfl) (.inr rfl) (.inr rfl) (.inr rfl) (.inr rfl) (.inr rfl) (.inl rfl) (.inr rfl) (.inr rfl) (.inr rfl) (.inr rfl) (.inr rfl) (.inr rfl) (.inr rfl)
        (Nat.le_refl _) (Nat.le_refl _) List.prefix_rfl rfl ⟨rfl, rfl⟩ ⟨rfl, rfl, rfl⟩ ⟨rfl, rfl, rfl⟩ (by refine ⟨?_, ?_, ?_, ?_, ?_, ?_⟩ <;> first | with_reducible rfl | rfl) ⟨rfl, rfl, rfl⟩ ⟨rfl, rfl, rfl, rfl, rfl, rfl, rfl, rfl, rfl, rfl⟩ ⟨rfl, rfl, rfl, rfl⟩ ⟨rfl, rfl⟩ rfl rfl rfl

theorem pipeWrite_grows (x1 x2) (s : State) : Grows 26771588 s (pipeWrite x1 x2 s) := by
  unfold pipeWrite
  try dsimp only
  repeat' first
    | with_reducible exact Grows.refl _ _
    | (with_reducible apply Grows.step (bindRefresh_grows ..)) <;> [exact rfl; skip]
    | (with_reducible apply Grows.step (bindRefresh_out (by assumption))) <;> [exact rfl; skip]
    | (with_reducible apply Grows.step (setOther_grows ..)) <;> [exact rfl; skip]
    | (with_reducible apply Grows.step (setBlock_grows ..)) <;> [exact rfl; skip]
    | (with_reducible apply Grows.step (noteUpdated_grows ..)) <;> [exact rfl; skip]
    | (with_reducible apply Grows.step (count_grows ..)) <;> [exact rfl; skip]
    | (with_reducible apply Grows.step (noteChurn_grows ..)) <;> [exact rfl; skip]
    | (with_reducible apply Grows.step (noteNonfinite_grows ..)) <;> [exact rfl; skip]
    | (with_reducible apply Grows.step (leaveCache_grows ..)) <;> [exact rfl; skip]
    | (with_reducible apply Grows.step (noteNorm_grows ..)) <;> [exact rfl; skip]
    | (with_reducible apply Grows.step (openRecord_grows ..)) <;> [exact rfl; skip]
    | (with_reducible apply Grows.ite) <;> intro _
    | dsimp only
    | split
    | refine Grows.upd ?_ (.inr rfl) (.inr rfl) (.inl rfl) (.inr rfl) (.inr rfl) (.inr rfl) (.inr rfl) (.inl rfl) (.inr rfl) (.inr rfl) (.inr rfl) (.inr rfl) (.inr rfl) (.inr rfl) (.inr rfl) (.inl rfl) (.inr rfl) (.inr rfl) (.inr rfl) (.inl rfl) (.inl rfl) (.inr rfl) (.inr rfl) (.inl rfl) (.inl rfl) (.inr rfl) (.inr rfl) (.inr rfl)
        (Nat.le_refl _) (Nat.le_refl _) List.prefix_rfl rfl ⟨rfl, rfl⟩ ⟨rfl, rfl, rfl⟩ (by refine ⟨?_, ?_, ?_⟩ <;> first | with_reducible rfl | rfl) (by refine ⟨?_, ?_, ?_, ?_, ?_, ?_⟩ <;> first | with_reducible rfl | rfl) ⟨rfl, rfl, rfl⟩ ⟨rfl, rfl, rfl, rfl, rfl, rfl, rfl, rfl, rfl, rfl⟩ (by refine ⟨?_, ?_, ?_, ?_⟩ <;> first | with_reducible rfl | rfl) ⟨rfl, rfl⟩ rfl rfl (by first | with_reducible rfl | rfl)

theorem trigger_grows (x1) (s : State) : Grows 26771588 s (trigger x1 s) := by
  unfold trigger
  try dsimp only
  repeat' first
    | with_reducible exact Grows.refl _ _
    | (with_reducible apply Grows.step (setBlock_grows ..)) <;> [exact rfl; skip]
    | (with_reducible apply Grows.step (pipeWrite_grows ..)) <;> [exact rfl; skip]
    | (with_reducible apply Grows.step (leaveCache_grows ..)) <;> [exact rfl; skip]
    | (with_reducible apply Grows.ite) <;> intro _
    | dsimp only
    | split

theorem freeSign_grows (x1 x2) (s : State) : Grows 2 s (freeSign x1 x2 s).2 := by
  unfold freeSign
  try dsimp only
  repeat' first
    | with_reducible exact Grows.refl _ _
    | (with_reducible apply Grows.step (drawFree_grows ..)) <;> [exact rfl; skip]
    | (with_reducible apply Grows.step (drawFree_out (by assumption))) <;> [exact rfl; skip]
    | (with_reducible apply Grows.ite) <;> intro _
    | dsimp only
    | split

theorem freeSign_out {x1 x2} {s t : State} {y} (h : freeSign x1 x2 s = (y, t)) : Grows 2 s t := by
  have := freeSign_grows x1 x2 s; rw [h] at this; exact this

theorem sendSum_grows (x1 x2 x3 x4) (s : State) : Grows 1048582 s (sendSum x1 x2 x3 x4 s) := by
  unfold sendSum
  try dsimp only
  repeat' first
    | with_reducible exact Grows.refl _ _
    | (with_reducible apply Grows.step (setBlock_grows ..)) <;> [exact rfl; skip]
    | (with_reducible apply Grows.step (emit_grows ..)) <;> [exact rfl; skip]
    | (with_reducible apply Grows.step (freeSign_grows ..)) <;> [exact rfl; skip]
    | (with_reducible apply Grows.step (freeSign_out (by assumption))) <;> [exact rfl; skip]
    | (with_reducible apply Grows.step (setOther_grows ..)) <;> [exact rfl; skip]
    | (with_reducible apply Grows.step (emitAll_grows ..)) <;> [exact rfl; skip]
    | (with_reducible apply Grows.ite) <;> intro _
    | dsimp only
    | split

theorem sendTotal_grows (x1 x2) (s : State) : Grows 4 s (sendTotal x1 x2 s) := by
  unfold sendTotal
  try dsimp only
  repeat' first
    | with_reducible exact Grows.refl _ _
    | (with_reducible apply Grows.step (emitAll_grows ..)) <;> [exact rfl; skip]
    | (with_reducible apply Grows.ite) <;> intro _
    | dsimp only
    | split

theorem formSumsq_grows (x1 x2 x3) (s : State) : Grows 1048576 s (formSumsq x1 x2 x3 s) := by
  unfold formSumsq
  try dsimp only
  repeat' first
    | with_reducible exact Grows.refl _ _
    | (with_reducible apply Grows.step (setBlock_grows ..)) <;> [exact rfl; skip]
    | (with_reducible apply Grows.ite) <;> intro _
    | dsimp only
    | split

theorem keepTotal_grows (x1) (s : State) : Grows 32768 s (keepTotal x1 s) := by
  unfold keepTotal
  try dsimp only
  repeat' first
    | with_reducible exact Grows.refl _ _
    | (with_reducible apply Grows.ite) <;> intro _
    | dsimp only
    | split
    | refine Grows.upd ?_ (.inr rfl) (.inr rfl) (.inr rfl) (.inr rfl) (.inr rfl) (.inr rfl) (.inr rfl) (.inr rfl) (.inr rfl) (.inr rfl) (.inr rfl) (.inr rfl) (.inr rfl) (.inr rfl) (.inr rfl) (.inl rfl) (.inr rfl) (.inr rfl) (.inr rfl) (.inr rfl) (.inr rfl) (.inr rfl) (.inr rfl) (.inr rfl) (.inr rfl) (.inr rfl) (.inr rfl) (.inr rfl)
        (Nat.le_refl _) (Nat.le_refl _) List.prefix_rfl rfl ⟨rfl, rfl⟩ ⟨rfl, rfl, rfl⟩ ⟨rfl, rfl, rfl⟩ ⟨rfl, rfl, rfl, rfl, rfl, rfl⟩ ⟨rfl, rfl, rfl⟩ ⟨rfl, rfl, rfl, rfl, rfl, rfl, rfl, rfl, rfl, rfl⟩ (by refine ⟨?_, ?_, ?_, ?_⟩ <;> first | with_reducible rfl | rfl) ⟨rfl, rfl⟩ rfl rfl rfl

theorem reachTotal_grows (x1 x2 x3) (s : State) : Grows 26771590 s (reachTotal x1 x2 x3 s) := by
  unfold reachTotal
  try dsimp only
  repeat' first
    | with_reducible exact Grows.refl _ _
    | (with_reducible apply Grows.step (freeSign_grows ..)) <;> [exact rfl; skip]
    | (with_reducible apply Grows.step (freeSign_out (by assumption))) <;> [exact rfl; skip]
    | (with_reducible apply Grows.step (setOther_grows ..)) <;> [exact rfl; skip]
    | (with_reducible apply Grows.step (setBlock_grows ..)) <;> [exact rfl; skip]
    | (with_reducible apply Grows.step (keepTotal_grows ..)) <;> [exact rfl; skip]
    | (with_reducible apply Grows.step (formSumsq_grows ..)) <;> [exact rfl; skip]
    | (with_reducible apply Grows.each) <;> [skip; intro _ _]
    | (with_reducible apply Grows.step (sendTotal_grows ..)) <;> [exact rfl; skip]
    | (with_reducible apply Grows.step (ackMembers_grows ..)) <;> [exact rfl; skip]
    | (with_reducible apply Grows.step (trigger_grows ..)) <;> [exact rfl; skip]
    | (with_reducible apply Grows.ite) <;> intro _
    | dsimp only
    | split

theorem raiseTo_grows (x1 x2) (s : State) : Grows 26772100 s (raiseTo x1 x2 s) := by
  unfold raiseTo
  try dsimp only
  repeat' first
    | with_reducible exact Grows.refl _ _
    | (with_reducible apply Grows.step (count_grows ..)) <;> [exact rfl; skip]
    | (with_reducible apply Grows.step (setBlock_grows ..)) <;> [exact rfl; skip]
    | (with_reducible apply Grows.step (reductionFault_grows ..)) <;> [exact rfl; skip]
    | (with_reducible apply Grows.step (reRequestBlock_grows ..)) <;> [exact rfl; skip]
    | (with_reducible apply Grows.ite) <;> intro _
    | dsimp only
    | split

theorem raiseNonfinite_grows (x1) (s : State) : Grows 26771588 s (raiseNonfinite x1 s) := by
  unfold raiseNonfinite
  try dsimp only
  repeat' first
    | with_reducible exact Grows.refl _ _
    | (with_reducible apply Grows.step (ackMembers_grows ..)) <;> [exact rfl; skip]
    | (with_reducible apply Grows.step (trigger_grows ..)) <;> [exact rfl; skip]
    | (with_reducible apply Grows.step (setBlock_grows ..)) <;> [exact rfl; skip]
    | (with_reducible apply Grows.ite) <;> intro _
    | dsimp only
    | split

theorem raiseAll_grows (x1) (s : State) : Grows 26772100 s (raiseAll x1 s) := by
  unfold raiseAll
  try dsimp only
  repeat' first
    | with_reducible exact Grows.refl _ _
    | (with_reducible apply Grows.step (raiseNonfinite_grows ..)) <;> [exact rfl; skip]
    | (with_reducible apply Grows.step (emit_grows ..)) <;> [exact rfl; skip]
    | (with_reducible apply Grows.step (raiseTo_grows ..)) <;> [exact rfl; skip]
    | (with_reducible apply Grows.ite) <;> intro _
    | dsimp only
    | split

theorem checkBlock_grows (x1 x2 x3) (s : State) : Grows 26772102 s (checkBlock x1 x2 x3 s) := by
  unfold checkBlock
  try dsimp only
  repeat' first
    | with_reducible exact Grows.refl _ _
    | (with_reducible apply Grows.step (failBlock_grows ..)) <;> [exact rfl; skip]
    | (with_reducible apply Grows.step (trigger_grows ..)) <;> [exact rfl; skip]
    | (with_reducible apply Grows.step (ackMembers_grows ..)) <;> [exact rfl; skip]
    | (with_reducible apply Grows.step (raiseAll_grows ..)) <;> [exact rfl; skip]
    | (with_reducible apply Grows.step (sendSum_grows ..)) <;> [exact rfl; skip]
    | (with_reducible apply Grows.step (reachTotal_grows ..)) <;> [exact rfl; skip]
    | (with_reducible apply Grows.ite) <;> intro _
    | dsimp only
    | split

theorem totalPiece_grows (x1 x2 x3 x4 x5) (s : State) : Grows 26772100 s (totalPiece x1 x2 x3 x4 x5 s) := by
  unfold totalPiece
  try dsimp only
  repeat' first
    | with_reducible exact Grows.refl _ _
    | (with_reducible apply Grows.step (count_grows ..)) <;> [exact rfl; skip]
    | (with_reducible apply Grows.step (setBlock_grows ..)) <;> [exact rfl; skip]
    | (with_reducible apply Grows.step (reductionFault_grows ..)) <;> [exact rfl; skip]
    | (with_reducible apply Grows.step (emit_grows ..)) <;> [exact rfl; skip]
    | (with_reducible apply Grows.step (ackMembers_grows ..)) <;> [exact rfl; skip]
    | (with_reducible apply Grows.step (trigger_grows ..)) <;> [exact rfl; skip]
    | (with_reducible apply Grows.step (formSumsq_grows ..)) <;> [exact rfl; skip]
    | (with_reducible apply Grows.step (keepTotal_grows ..)) <;> [exact rfl; skip]
    | (with_reducible apply Grows.ite) <;> intro _
    | dsimp only
    | split

theorem stale_grows (s : State) : Grows 16777216 s (stale s) := by
  unfold stale
  try dsimp only
  repeat' first
    | with_reducible exact Grows.refl _ _
    | (with_reducible apply Grows.step (count_grows ..)) <;> [exact rfl; skip]
    | (with_reducible apply Grows.ite) <;> intro _
    | dsimp only
    | split

theorem fetchBlock_grows (x1 x2 x3) (s : State) : Grows 17301520 s (fetchBlock x1 x2 x3 s).2 := by
  unfold fetchBlock
  try dsimp only
  repeat' first
    | with_reducible exact Grows.refl _ _
    | (with_reducible apply Grows.step (touchCache_grows ..)) <;> [exact rfl; skip]
    | (with_reducible apply Grows.step (checkedRead_grows ..)) <;> [exact rfl; skip]
    | (with_reducible apply Grows.step (checkedRead_out (by assumption))) <;> [exact rfl; skip]
    | (with_reducible apply Grows.ite) <;> intro _
    | dsimp only
    | split

theorem fetchBlock_out {x1 x2 x3} {s t : State} {y} (h : fetchBlock x1 x2 x3 s = (y, t)) : Grows 17301520 s t := by
  have := fetchBlock_grows x1 x2 x3 s; rw [h] at this; exact this

theorem pieceArrives_grows (x1 x2 x3) (s : State) : Grows 26772118 s (pieceArrives x1 x2 x3 s) := by
  unfold pieceArrives
  try dsimp only
  repeat' first
    | with_reducible exact Grows.refl _ _
    | (with_reducible apply Grows.step (countBus_grows ..)) <;> [exact rfl; skip]
    | (with_reducible apply Grows.step (stale_grows ..)) <;> [exact rfl; skip]
    | (with_reducible apply Grows.step (fetchBlock_grows ..)) <;> [exact rfl; skip]
    | (with_reducible apply Grows.step (fetchBlock_out (by assumption))) <;> [exact rfl; skip]
    | (with_reducible apply Grows.step (reRequestBlock_grows ..)) <;> [exact rfl; skip]
    | (with_reducible apply Grows.step (count_grows ..)) <;> [exact rfl; skip]
    | (with_reducible apply Grows.step (setBlock_grows ..)) <;> [exact rfl; skip]
    | (with_reducible apply Grows.step (checkBlock_grows ..)) <;> [exact rfl; skip]
    | (with_reducible apply Grows.step (raiseAll_grows ..)) <;> [exact rfl; skip]
    | (with_reducible apply Grows.step (totalPiece_grows ..)) <;> [exact rfl; skip]
    | (with_reducible apply Grows.ite) <;> intro _
    | dsimp only
    | split

theorem sendHeld_grows (x1) (s : State) : Grows 16777220 s (sendHeld x1 s) := by
  unfold sendHeld
  try dsimp only
  repeat' first
    | with_reducible exact Grows.refl _ _
    | (with_reducible apply Grows.step (emit_grows ..)) <;> [exact rfl; skip]
    | (with_reducible apply Grows.step (count_grows ..)) <;> [exact rfl; skip]
    | (with_reducible apply Grows.ite) <;> intro _
    | dsimp only
    | split

theorem resendHeld_grows (x1 x2 x3) (s : State) : Grows 17825796 s (resendHeld x1 x2 x3 s) := by
  unfold resendHeld
  try dsimp only
  repeat' first
    | with_reducible exact Grows.refl _ _
    | (with_reducible apply Grows.each) <;> [skip; intro _ _]
    | (with_reducible apply Grows.step (sendHeld_grows ..)) <;> [exact rfl; skip]
    | (with_reducible apply Grows.ite) <;> intro _
    | dsimp only
    | split
    | refine Grows.upd ?_ (.inr rfl) (.inr rfl) (.inl rfl) (.inr rfl) (.inr rfl) (.inr rfl) (.inr rfl) (.inr rfl) (.inr rfl) (.inr rfl) (.inr rfl) (.inr rfl) (.inr rfl) (.inr rfl) (.inr rfl) (.inr rfl) (.inr rfl) (.inr rfl) (.inr rfl) (.inr rfl) (.inl rfl) (.inr rfl) (.inr rfl) (.inr rfl) (.inl rfl) (.inr rfl) (.inr rfl) (.inr rfl)
        (Nat.le_refl _) (Nat.le_refl _) List.prefix_rfl rfl ⟨rfl, rfl⟩ ⟨rfl, rfl, rfl⟩ ⟨rfl, rfl, rfl⟩ (by refine ⟨?_, ?_, ?_, ?_, ?_, ?_⟩ <;> first | with_reducible rfl | rfl) ⟨rfl, rfl, rfl⟩ ⟨rfl, rfl, rfl, rfl, rfl, rfl, rfl, rfl, rfl, rfl⟩ ⟨rfl, rfl, rfl, rfl⟩ ⟨rfl, rfl⟩ rfl rfl rfl

end Sys2Proof.Machine
end

