-- ==== Sys2Proof/Laws/GrowsPredict.lean ====
section
/-! SUPPORT. What each operation of Machine/Predict.lean does to the state, in the form of `Grows`. -/

namespace Sys2Proof.Machine

theorem setPredict_grows (x1) (s : State) : Grows 4194304 s (setPredict x1 s) := by
  unfold setPredict
  try dsimp only
  repeat' first
    | with_reducible exact Grows.refl _ _
    | (with_reducible apply Grows.ite) <;> intro _
    | dsimp only
    | split
    | refine Grows.upd ?_ (.inr rfl) (.inr rfl) (.inr rfl) (.inr rfl) (.inr rfl) (.inr rfl) (.inr rfl) (.inr rfl) (.inr rfl) (.inr rfl) (.inr rfl) (.inr rfl) (.inr rfl) (.inr rfl) (.inr rfl) (.inr rfl) (.inr rfl) (.inr rfl) (.inr rfl) (.inr rfl) (.inr rfl) (.inr rfl) (.inl rfl) (.inr rfl) (.inr rfl) (.inr rfl) (.inr rfl) (.inr rfl)
        (Nat.le_refl _) (Nat.le_refl _) List.prefix_rfl rfl ⟨rfl, rfl⟩ ⟨rfl, rfl, rfl⟩ ⟨rfl, rfl, rfl⟩ ⟨rfl, rfl, rfl, rfl, rfl, rfl⟩ ⟨rfl, rfl, rfl⟩ ⟨rfl, rfl, rfl, rfl, rfl, rfl, rfl, rfl, rfl, rfl⟩ ⟨rfl, rfl, rfl, rfl⟩ ⟨rfl, rfl⟩ rfl rfl rfl

theorem setPair_grows (x1 x2) (s : State) : Grows 4194304 s (setPair x1 x2 s) := by
  unfold setPair
  try dsimp only
  repeat' first
    | with_reducible exact Grows.refl _ _
    | (with_reducible apply Grows.step (setPredict_grows ..)) <;> [exact rfl; skip]
    | (with_reducible apply Grows.ite) <;> intro _
    | dsimp only
    | split

theorem countPred_grows (x1 x2 x3) (s : State) : Grows 20971520 s (countPred x1 x2 x3 s) := by
  unfold countPred
  try dsimp only
  repeat' first
    | with_reducible exact Grows.refl _ _
    | (with_reducible apply Grows.step (count_grows ..)) <;> [exact rfl; skip]
    | (with_reducible apply Grows.step (setPredict_grows ..)) <;> [exact rfl; skip]
    | (with_reducible apply Grows.ite) <;> intro _
    | dsimp only
    | split

theorem scorePair_grows (x1 x2 x3 x4) (s : State) : Grows 20971520 s (scorePair x1 x2 x3 x4 s) := by
  unfold scorePair
  try dsimp only
  repeat' first
    | with_reducible exact Grows.refl _ _
    | (with_reducible apply Grows.step (setPair_grows ..)) <;> [exact rfl; skip]
    | (with_reducible apply Grows.step (countPred_grows ..)) <;> [exact rfl; skip]
    | (with_reducible apply Grows.ite) <;> intro _
    | dsimp only
    | split

theorem shadowPair_grows (x1 x2 x3) (s : State) : Grows 20971520 s (shadowPair x1 x2 x3 s) := by
  unfold shadowPair
  try dsimp only
  repeat' first
    | with_reducible exact Grows.refl _ _
    | (with_reducible apply Grows.step (countPred_grows ..)) <;> [exact rfl; skip]
    | (with_reducible apply Grows.step (setPair_grows ..)) <;> [exact rfl; skip]
    | (with_reducible apply Grows.ite) <;> intro _
    | dsimp only
    | split

theorem workPair_grows (x1 x2) (s : State) : Grows 20971520 s (workPair x1 x2 s) := by
  unfold workPair
  try dsimp only
  repeat' first
    | with_reducible exact Grows.refl _ _
    | (with_reducible apply Grows.step (setPair_grows ..)) <;> [exact rfl; skip]
    | (with_reducible apply Grows.step (countPred_grows ..)) <;> [exact rfl; skip]
    | (with_reducible apply Grows.ite) <;> intro _
    | dsimp only
    | split

theorem loadMask_grows (x1 x2) (s : State) : Grows 4194304 s (loadMask x1 x2 s) := by
  unfold loadMask
  try dsimp only
  repeat' first
    | with_reducible exact Grows.refl _ _
    | (with_reducible apply Grows.each) <;> [skip; intro _ _]
    | (with_reducible apply Grows.step (setPair_grows ..)) <;> [exact rfl; skip]
    | (with_reducible apply Grows.ite) <;> intro _
    | dsimp only
    | split

theorem endLayerPass_grows (x1) (s : State) : Grows 29884548 s (endLayerPass x1 s) := by
  unfold endLayerPass
  try dsimp only
  repeat' first
    | with_reducible exact Grows.refl _ _
    | (with_reducible apply Grows.step (countPred_grows ..)) <;> [exact rfl; skip]
    | (with_reducible apply Grows.step (event_grows ..)) <;> [exact rfl; skip]
    | (with_reducible apply Grows.step (setPredict_grows ..)) <;> [exact rfl; skip]
    | (with_reducible apply Grows.ite) <;> intro _
    | dsimp only
    | split

theorem predictPass_grows (x1) (s : State) : Grows 29884548 s (predictPass x1 s) := by
  unfold predictPass
  try dsimp only
  repeat' first
    | with_reducible exact Grows.refl _ _
    | (with_reducible apply Grows.each) <;> [skip; intro _ _]
    | (with_reducible apply Grows.step (endLayerPass_grows ..)) <;> [exact rfl; skip]
    | (with_reducible apply Grows.step (setPredict_grows ..)) <;> [exact rfl; skip]
    | (with_reducible apply Grows.ite) <;> intro _
    | dsimp only
    | split

theorem predictStep_grows (s : State) : Grows 4194304 s (predictStep s) := by
  unfold predictStep
  try dsimp only
  repeat' first
    | with_reducible exact Grows.refl _ _
    | (with_reducible apply Grows.step (setPredict_grows ..)) <;> [exact rfl; skip]
    | (with_reducible apply Grows.ite) <;> intro _
    | dsimp only
    | split

theorem predictUndo_grows (s : State) : Grows 4194304 s (predictUndo s) := by
  unfold predictUndo
  try dsimp only
  repeat' first
    | with_reducible exact Grows.refl _ _
    | (with_reducible apply Grows.step (setPredict_grows ..)) <;> [exact rfl; skip]
    | (with_reducible apply Grows.ite) <;> intro _
    | dsimp only
    | split

end Sys2Proof.Machine
end

