-- ==== Sys2Proof/Laws/GrowsCores.lean ====
section
/-! SUPPORT. What each operation of Machine/Cores.lean does to the state, in the form of `Grows`. -/

namespace Sys2Proof.Machine

theorem advance_grows (x1 x2) (s : State) : Grows 131072 s (advance x1 x2 s) := by
  unfold advance
  try dsimp only
  repeat' first
    | with_reducible exact Grows.refl _ _
    | (with_reducible apply Grows.step (updCore_grows ..)) <;> [exact rfl; skip]
    | (with_reducible apply Grows.ite) <;> intro _
    | dsimp only
    | split

theorem issueAct_grows {m : Nat} {s t : State} {k : Issue} {f : State → CoreS → CtxS → QTask → Nat → Nat → Act} (hm : 25920132 ||| m = m) (h : Grows m s t)
    (ha : ∀ o x q key c, ActGrows m t (f t o x q key c)) : Grows m s (issueAct k f t) := by
  unfold issueAct
  try dsimp only
  repeat' first
    | exact h
    | exact h.trans (act_grows (by assumption) (ha _ _ _ _ _))
    | exact h.trans (wait_grows (by assumption) (ha _ _ _ _ _))
    | (with_reducible apply Grows.step2 (M := 25920132) (count_grows ..)) <;> [exact rfl; exact hm; skip]
    | (with_reducible apply Grows.step2 (M := 25920132) (taskFault_grows ..)) <;> [exact rfl; exact hm; skip]
    | (with_reducible apply Grows.step2 (M := 25920132) (advance_grows ..)) <;> [exact rfl; exact hm; skip]
    | (with_reducible apply Grows.step2 (M := 25920132) (checkError_grows ..)) <;> [exact rfl; exact hm; skip]
    | (with_reducible apply Grows.step2 (M := 25920132) (updCtx_grows ..)) <;> [exact rfl; exact hm; skip]
    | (with_reducible apply Grows.ite) <;> intro _
    | dsimp only
    | split

theorem runInstr_grows {m : Nat} {s t : State} {k : Issue} {f : State → CoreS → CtxS → QTask → Nat → Nat → Act} (hm : 25920132 ||| m = m) (h : Grows m s t)
    (ha : ∀ o x q key c, ActGrows m t (f t o x q key c)) : Grows m s (runInstr k f t) := by
  unfold runInstr
  try dsimp only
  repeat' first
    | exact h
    | exact issueAct_grows hm (Grows.refl _ _) ha
    | with_reducible apply Grows.whenReady
    | (with_reducible apply issueAct_grows) <;> [exact rfl; skip; intro _ _ _ _ _]
    | (with_reducible apply Grows.ite) <;> intro _
    | dsimp only
    | split

theorem writeSram_grows (x1 x2 x3) (s : State) : Grows 131072 s (writeSram x1 x2 x3 s) := by
  unfold writeSram
  try dsimp only
  repeat' first
    | with_reducible exact Grows.refl _ _
    | (with_reducible apply Grows.step (updCore_grows ..)) <;> [exact rfl; skip]
    | (with_reducible apply Grows.ite) <;> intro _
    | dsimp only
    | split

theorem jump_grows (x1 x2 x3 x4) (s : State) : Grows 131072 s (jump x1 x2 x3 x4 s) := by
  unfold jump
  try dsimp only
  repeat' first
    | with_reducible exact Grows.refl _ _
    | (with_reducible apply Grows.step (updCore_grows ..)) <;> [exact rfl; skip]
    | (with_reducible apply Grows.ite) <;> intro _
    | dsimp only
    | split

theorem loopTo_grows (x1 x2 x3 x4 x5) (s : State) : Grows 131072 s (loopTo x1 x2 x3 x4 x5 s) := by
  unfold loopTo
  try dsimp only
  repeat' first
    | with_reducible exact Grows.refl _ _
    | (with_reducible apply Grows.step (jump_grows ..)) <;> [exact rfl; skip]
    | (with_reducible apply Grows.ite) <;> intro _
    | dsimp only
    | split

theorem signalFrom_grows (x1 x2 x3 x4 x5) (s : State) : Grows 9077380 s (signalFrom x1 x2 x3 x4 x5 s) := by
  unfold signalFrom
  try dsimp only
  repeat' first
    | with_reducible exact Grows.refl _ _
    | (with_reducible apply sendFrom_grows) <;> [exact rfl; skip; intro _]
    | (with_reducible apply Grows.step (arrive_grows ..)) <;> [exact rfl; skip]
    | (with_reducible apply Grows.step (emit_grows ..)) <;> [exact rfl; skip]
    | (with_reducible apply Grows.step (translate_grows ..)) <;> [exact rfl; skip]
    | (with_reducible apply Grows.ite) <;> intro _
    | dsimp only
    | split

theorem spawnTask_grows (x1 x2 x3 x4) (s : State) : Grows 131076 s (spawnTask x1 x2 x3 x4 s) := by
  unfold spawnTask
  try dsimp only
  repeat' first
    | with_reducible exact Grows.refl _ _
    | (with_reducible apply Grows.step (emit_grows ..)) <;> [exact rfl; skip]
    | (with_reducible apply Grows.step (translate_grows ..)) <;> [exact rfl; skip]
    | (with_reducible apply Grows.step (updCore_grows ..)) <;> [exact rfl; skip]
    | (with_reducible apply Grows.ite) <;> intro _
    | dsimp only
    | split

theorem scatterItems_grows (x1 x2 x3 x4) (s : State) : Grows 131072 s (scatterItems x1 x2 x3 x4 s) := by
  fun_induction scatterItems x1 x2 x3 x4 s
  all_goals try dsimp only
  all_goals repeat' first
    | with_reducible exact Grows.refl _ _
    | with_reducible refine Grows.trans ?_ (by assumption)
    | (with_reducible apply Grows.step (writeSram_grows ..)) <;> [exact rfl; skip]
    | (with_reducible apply Grows.ite) <;> intro _
    | dsimp only
    | split
    | refine Grows.upd ?_ (.inr rfl) (.inr rfl) (.inr rfl) (.inr rfl) (.inr rfl) (.inr rfl) (.inr rfl) (.inr rfl) (.inr rfl) (.inr rfl) (.inr rfl) (.inr rfl) (.inr rfl) (.inr rfl) (.inr rfl) (.inr rfl) (.inr rfl) (.inl rfl) (.inr rfl) (.inr rfl) (.inr rfl) (.inr rfl) (.inr rfl) (.inr rfl) (.inr rfl) (.inr rfl) (.inr rfl) (.inr rfl)
        (Nat.le_refl _) (Nat.le_refl _) List.prefix_rfl rfl ⟨rfl, rfl⟩ ⟨rfl, rfl, rfl⟩ ⟨rfl, rfl, rfl⟩ ⟨rfl, rfl, rfl, rfl, rfl, rfl⟩ ⟨rfl, rfl, rfl⟩ ⟨rfl, rfl, rfl, rfl, rfl, rfl, rfl, rfl, rfl, rfl⟩ ⟨rfl, rfl, rfl, rfl⟩ ⟨rfl, rfl⟩ rfl rfl rfl

end Sys2Proof.Machine
end

