-- ==== Sys2Proof/Laws/GrowsGlint.lean ====
section
/-! SUPPORT. What each operation of Machine/Glint.lean does to the state, in the form of `Grows`. -/

namespace Sys2Proof.Machine

theorem noteLateMember_grows (x1 x2) (s : State) : Grows 32768 s (noteLateMember x1 x2 s) := by
  unfold noteLateMember
  try dsimp only
  repeat' first
    | with_reducible exact Grows.refl _ _
    | (with_reducible apply Grows.step (setMember_grows ..)) <;> [exact rfl; skip]
    | (with_reducible apply Grows.ite) <;> intro _
    | dsimp only
    | split
    | dsimp only [id]

theorem noteBarrier_grows (x1 x2) (s : State) : Grows 16809988 s (noteBarrier x1 x2 s) := by
  unfold noteBarrier
  try dsimp only
  repeat' first
    | with_reducible exact Grows.refl _ _
    | (with_reducible apply Grows.step (count_grows ..)) <;> [exact rfl; skip]
    | (with_reducible apply Grows.each) <;> [skip; intro _ _]
    | (with_reducible apply Grows.step (noteLateMember_grows ..)) <;> [exact rfl; skip]
    | (with_reducible apply Grows.step (emit_grows ..)) <;> [exact rfl; skip]
    | (with_reducible apply Grows.ite) <;> intro _
    | dsimp only
    | split

theorem glintOn_grows (x1 x2 x3 x4) (s : State) : Grows 4 s (glintOn x1 x2 x3 x4 s) := by
  unfold glintOn
  try dsimp only
  repeat' first
    | with_reducible exact Grows.refl _ _
    | (with_reducible apply Grows.step (emit_grows ..)) <;> [exact rfl; skip]
    | (with_reducible apply Grows.ite) <;> intro _
    | dsimp only
    | split

theorem deliverGlint_grows (x1 x2) (s : State) : Grows 16777220 s (deliverGlint x1 x2 s) := by
  unfold deliverGlint
  try dsimp only
  repeat' first
    | with_reducible exact Grows.refl _ _
    | (with_reducible apply Grows.step (glintOn_grows ..)) <;> [exact rfl; skip]
    | (with_reducible apply Grows.step (count_grows ..)) <;> [exact rfl; skip]
    | (with_reducible apply Grows.ite) <;> intro _
    | dsimp only
    | split

theorem spreadResult_grows (x1 x2) (s : State) : Grows 16777220 s (spreadResult x1 x2 s) := by
  unfold spreadResult
  try dsimp only
  repeat' first
    | with_reducible exact Grows.refl _ _
    | (with_reducible apply Grows.step (deliverGlint_grows ..)) <;> [exact rfl; skip]
    | (with_reducible apply Grows.each) <;> [skip; intro _ _]
    | (with_reducible apply Grows.step (glintOn_grows ..)) <;> [exact rfl; skip]
    | (with_reducible apply Grows.ite) <;> intro _
    | dsimp only
    | split

theorem spreadJob_grows (x1 x2) (s : State) : Grows 16777220 s (spreadJob x1 x2 s) := by
  unfold spreadJob
  try dsimp only
  repeat' first
    | with_reducible exact Grows.refl _ _
    | (with_reducible apply Grows.step (spreadResult_grows ..)) <;> [exact rfl; skip]
    | (with_reducible apply Grows.each) <;> [skip; intro _ _]
    | (with_reducible apply Grows.step (glintOn_grows ..)) <;> [exact rfl; skip]
    | (with_reducible apply Grows.ite) <;> intro _
    | dsimp only
    | split

theorem stageDone_grows (x1 x2 x3 x4 x5) (s : State) : Grows 16809988 s (stageDone x1 x2 x3 x4 x5 s) := by
  unfold stageDone
  try dsimp only
  repeat' first
    | with_reducible exact Grows.refl _ _
    | (with_reducible apply Grows.step (deliverGlint_grows ..)) <;> [exact rfl; skip]
    | (with_reducible apply Grows.step (glintOn_grows ..)) <;> [exact rfl; skip]
    | (with_reducible apply Grows.step (noteBarrier_grows ..)) <;> [exact rfl; skip]
    | (with_reducible apply Grows.step (spreadResult_grows ..)) <;> [exact rfl; skip]
    | (with_reducible apply Grows.step (count_grows ..)) <;> [exact rfl; skip]
    | (with_reducible apply Grows.step (spreadJob_grows ..)) <;> [exact rfl; skip]
    | (with_reducible apply Grows.ite) <;> intro _
    | dsimp only
    | split

theorem combineAt_grows (x1 x2 x3) (s : State) : Grows 18907140 s (combineAt x1 x2 x3 s) := by
  unfold combineAt
  try dsimp only
  repeat' first
    | with_reducible exact Grows.refl _ _
    | (with_reducible apply Grows.step (stageDone_grows ..)) <;> [exact rfl; skip]
    | (with_reducible apply Grows.ite) <;> intro _
    | dsimp only
    | split
    | refine Grows.upd ?_ (.inr rfl) (.inr rfl) (.inl rfl) (.inr rfl) (.inr rfl) (.inr rfl) (.inr rfl) (.inr rfl) (.inr rfl) (.inr rfl) (.inr rfl) (.inr rfl) (.inr rfl) (.inr rfl) (.inr rfl) (.inl rfl) (.inr rfl) (.inr rfl) (.inr rfl) (.inr rfl) (.inr rfl) (.inl rfl) (.inr rfl) (.inr rfl) (.inl rfl) (.inr rfl) (.inr rfl) (.inr rfl)
        (Nat.le_refl _) (Nat.le_refl _) List.prefix_rfl rfl ⟨rfl, rfl⟩ ⟨rfl, rfl, rfl⟩ ⟨rfl, rfl, rfl⟩ ⟨rfl, rfl, rfl, rfl, rfl, rfl⟩ (by refine ⟨?_, ?_, ?_⟩ <;> first | with_reducible rfl | rfl) ⟨rfl, rfl, rfl, rfl, rfl, rfl, rfl, rfl, rfl, rfl⟩ (by refine ⟨?_, ?_, ?_, ?_⟩ <;> first | with_reducible rfl | rfl) ⟨rfl, rfl⟩ rfl rfl rfl

theorem broadcast_grows (x1 x2 x3) (s : State) : Grows 16777220 s (broadcast x1 x2 x3 s) := by
  unfold broadcast
  try dsimp only
  repeat' first
    | with_reducible exact Grows.refl _ _
    | (with_reducible apply Grows.step (glintOn_grows ..)) <;> [exact rfl; skip]
    | (with_reducible apply Grows.step (deliverGlint_grows ..)) <;> [exact rfl; skip]
    | (with_reducible apply Grows.step (spreadResult_grows ..)) <;> [exact rfl; skip]
    | (with_reducible apply Grows.step (spreadJob_grows ..)) <;> [exact rfl; skip]
    | (with_reducible apply Grows.ite) <;> intro _
    | dsimp only
    | split

theorem resultAt_grows (x1 x2) (s : State) : Grows 16777220 s (resultAt x1 x2 s) := by
  unfold resultAt
  try dsimp only
  repeat' first
    | with_reducible exact Grows.refl _ _
    | (with_reducible apply Grows.step (spreadResult_grows ..)) <;> [exact rfl; skip]
    | (with_reducible apply Grows.step (deliverGlint_grows ..)) <;> [exact rfl; skip]
    | (with_reducible apply Grows.ite) <;> intro _
    | dsimp only
    | split

theorem glintAt_grows (x1 x2 x3) (s : State) : Grows 18907140 s (glintAt x1 x2 x3 s) := by
  unfold glintAt
  try dsimp only
  repeat' first
    | with_reducible exact Grows.refl _ _
    | (with_reducible apply Grows.step (count_grows ..)) <;> [exact rfl; skip]
    | (with_reducible apply Grows.step (resultAt_grows ..)) <;> [exact rfl; skip]
    | (with_reducible apply Grows.step (combineAt_grows ..)) <;> [exact rfl; skip]
    | (with_reducible apply Grows.step (broadcast_grows ..)) <;> [exact rfl; skip]
    | (with_reducible apply Grows.ite) <;> intro _
    | dsimp only
    | split

end Sys2Proof.Machine
end

