-- ==== Sys2Proof/Laws/GrowsMemory.lean ====
section
/-! SUPPORT. What each operation of Machine/Memory.lean does to the state, in the form of `Grows`. -/

namespace Sys2Proof.Machine

theorem putBank_grows (x1 x2 x3) (s : State) : Grows 1048576 s (putBank x1 x2 x3 s) := by
  unfold putBank
  try dsimp only
  repeat' first
    | with_reducible exact Grows.refl _ _
    | (with_reducible apply Grows.step (setCur_grows ..)) <;> [exact rfl; skip]
    | (with_reducible apply Grows.step (setOther_grows ..)) <;> [exact rfl; skip]
    | (with_reducible apply Grows.ite) <;> intro _
    | dsimp only
    | split
    | refine Grows.upd ?_ (.inr rfl) (.inr rfl) (.inr rfl) (.inr rfl) (.inr rfl) (.inr rfl) (.inr rfl) (.inr rfl) (.inr rfl) (.inr rfl) (.inr rfl) (.inr rfl) (.inr rfl) (.inr rfl) (.inr rfl) (.inr rfl) (.inr rfl) (.inr rfl) (.inr rfl) (.inr rfl) (.inl rfl) (.inr rfl) (.inr rfl) (.inr rfl) (.inr rfl) (.inr rfl) (.inr rfl) (.inr rfl)
        (Nat.le_refl _) (Nat.le_refl _) List.prefix_rfl rfl ⟨rfl, rfl⟩ ⟨rfl, rfl, rfl⟩ ⟨rfl, rfl, rfl⟩ (by refine ⟨?_, ?_, ?_, ?_, ?_, ?_⟩ <;> first | with_reducible rfl | rfl) ⟨rfl, rfl, rfl⟩ ⟨rfl, rfl, rfl, rfl, rfl, rfl, rfl, rfl, rfl, rfl⟩ ⟨rfl, rfl, rfl, rfl⟩ ⟨rfl, rfl⟩ rfl rfl rfl

theorem writeBlock_grows (x1 x2 x3 x4 x5) (s : State) : Grows 1572864 s (writeBlock x1 x2 x3 x4 x5 s) := by
  unfold writeBlock
  try dsimp only
  repeat' first
    | with_reducible exact Grows.refl _ _
    | (with_reducible apply Grows.step (memWrite_grows ..)) <;> [exact rfl; skip]
    | (with_reducible apply Grows.step (putBank_grows ..)) <;> [exact rfl; skip]
    | (with_reducible apply Grows.ite) <;> intro _
    | dsimp only
    | split

theorem writeAt_grows (x1 x2 x3) (s : State) : Grows 1572864 s (writeAt x1 x2 x3 s) := by
  unfold writeAt
  try dsimp only
  repeat' first
    | with_reducible exact Grows.refl _ _
    | (with_reducible apply Grows.step (memWrite_grows ..)) <;> [exact rfl; skip]
    | (with_reducible apply Grows.step (writeBlock_grows ..)) <;> [exact rfl; skip]
    | (with_reducible apply Grows.ite) <;> intro _
    | dsimp only
    | split

theorem loseKv_grows (x2) (s : State) : Grows 8388608 s (loseKv s x2) := by
  unfold loseKv
  try dsimp only
  repeat' first
    | with_reducible exact Grows.refl _ _
    | (with_reducible apply Grows.step (setCtx_grows ..)) <;> [exact rfl; skip]
    | (with_reducible apply Grows.ite) <;> intro _
    | dsimp only
    | split

theorem persistentReduce_grows (x1) (s : State) : Grows 1048580 s (persistentReduce x1 s) := by
  unfold persistentReduce
  try dsimp only
  repeat' first
    | with_reducible exact Grows.refl _ _
    | (with_reducible apply Grows.step (reRequestBlock_grows ..)) <;> [exact rfl; skip]
    | (with_reducible apply Grows.ite) <;> intro _
    | dsimp only
    | split

theorem askCopy_grows (x1) (s : State) : Grows 1048580 s (askCopy x1 s) := by
  unfold askCopy
  try dsimp only
  repeat' first
    | with_reducible exact Grows.refl _ _
    | (with_reducible apply Grows.step (setBlock_grows ..)) <;> [exact rfl; skip]
    | (with_reducible apply Grows.step (emit_grows ..)) <;> [exact rfl; skip]
    | (with_reducible apply Grows.ite) <;> intro _
    | dsimp only
    | split

theorem persistentOwner_grows (x1 x2 x3 x4) (s : State) : Grows 10011268 s (persistentOwner x1 x2 x3 x4 s) := by
  unfold persistentOwner
  try dsimp only
  repeat' first
    | with_reducible exact Grows.refl _ _
    | (with_reducible apply Grows.step (recordFault_grows ..)) <;> [exact rfl; skip]
    | (with_reducible apply Grows.step (rollFault_grows ..)) <;> [exact rfl; skip]
    | (with_reducible apply Grows.step (askCopy_grows ..)) <;> [exact rfl; skip]
    | (with_reducible apply Grows.step (holdFor_grows ..)) <;> [exact rfl; skip]
    | (with_reducible apply Grows.ite) <;> intro _
    | dsimp only
    | split

theorem persistentAt_grows (x1 x2 x3) (s : State) : Grows 10011268 s (persistentAt x1 x2 x3 s) := by
  unfold persistentAt
  try dsimp only
  repeat' first
    | with_reducible exact Grows.refl _ _
    | (with_reducible apply Grows.step (requestRollback_grows ..)) <;> [exact rfl; skip]
    | (with_reducible apply Grows.step (holdFor_grows ..)) <;> [exact rfl; skip]
    | (with_reducible apply Grows.step (faultEvent_grows ..)) <;> [exact rfl; skip]
    | (with_reducible apply Grows.step (rollFault_grows ..)) <;> [exact rfl; skip]
    | (with_reducible apply Grows.step (loseKv_grows ..)) <;> [exact rfl; skip]
    | (with_reducible apply Grows.step (persistentReduce_grows ..)) <;> [exact rfl; skip]
    | (with_reducible apply Grows.step (persistentOwner_grows ..)) <;> [exact rfl; skip]
    | (with_reducible apply Grows.step (recordFault_grows ..)) <;> [exact rfl; skip]
    | (with_reducible apply Grows.ite) <;> intro _
    | dsimp only
    | split

theorem mendCopy_grows (x1 x2 x3) (s : State) : Grows 524288 s (mendCopy x1 x2 x3 s) := by
  unfold mendCopy
  try dsimp only
  repeat' first
    | with_reducible exact Grows.refl _ _
    | (with_reducible apply Grows.each) <;> [skip; intro _ _]
    | (with_reducible apply Grows.step (memWrite_grows ..)) <;> [exact rfl; skip]
    | (with_reducible apply Grows.ite) <;> intro _
    | dsimp only
    | split

theorem deliver_grows (x1 x2 x3) (s : State) : Grows 16777220 s (deliver x1 x2 x3 s) := by
  unfold deliver
  try dsimp only
  repeat' first
    | with_reducible exact Grows.refl _ _
    | (with_reducible apply Grows.step (count_grows ..)) <;> [exact rfl; skip]
    | (with_reducible apply Grows.step (emit_grows ..)) <;> [exact rfl; skip]
    | (with_reducible apply Grows.ite) <;> intro _
    | dsimp only
    | split

theorem serveRead_grows (x1 x2 x3 x4) (s : State) : Grows 26788500 s (serveRead x1 x2 x3 x4 s) := by
  unfold serveRead
  try dsimp only
  repeat' first
    | with_reducible exact Grows.refl _ _
    | (with_reducible apply Grows.step (deliver_grows ..)) <;> [exact rfl; skip]
    | (with_reducible apply Grows.step (checkedRead_grows ..)) <;> [exact rfl; skip]
    | (with_reducible apply Grows.step (checkedRead_out (by assumption))) <;> [exact rfl; skip]
    | (with_reducible apply Grows.step (mendCopy_grows ..)) <;> [exact rfl; skip]
    | (with_reducible apply Grows.step (persistentAt_grows ..)) <;> [exact rfl; skip]
    | (with_reducible apply Grows.ite) <;> intro _
    | dsimp only
    | split

theorem holdWrite_grows (x1 x2 x3) (s : State) : Grows 524288 s (holdWrite x1 x2 x3 s) := by
  unfold holdWrite
  try dsimp only
  repeat' first
    | with_reducible exact Grows.refl _ _
    | (with_reducible apply Grows.ite) <;> intro _
    | dsimp only
    | split
    | refine Grows.upd ?_ (.inr rfl) (.inr rfl) (.inr rfl) (.inr rfl) (.inr rfl) (.inr rfl) (.inr rfl) (.inr rfl) (.inr rfl) (.inr rfl) (.inr rfl) (.inr rfl) (.inr rfl) (.inr rfl) (.inr rfl) (.inr rfl) (.inr rfl) (.inr rfl) (.inr rfl) (.inl rfl) (.inr rfl) (.inr rfl) (.inr rfl) (.inr rfl) (.inr rfl) (.inr rfl) (.inr rfl) (.inr rfl)
        (Nat.le_refl _) (Nat.le_refl _) List.prefix_rfl rfl ⟨rfl, rfl⟩ ⟨rfl, rfl, rfl⟩ (by refine ⟨?_, ?_, ?_⟩ <;> first | with_reducible rfl | rfl) ⟨rfl, rfl, rfl, rfl, rfl, rfl⟩ ⟨rfl, rfl, rfl⟩ ⟨rfl, rfl, rfl, rfl, rfl, rfl, rfl, rfl, rfl, rfl⟩ ⟨rfl, rfl, rfl, rfl⟩ ⟨rfl, rfl⟩ rfl rfl (by first | with_reducible rfl | rfl)

theorem putWrite_grows (x1 x2 x3) (s : State) : Grows 18350080 s (putWrite x1 x2 x3 s) := by
  unfold putWrite
  try dsimp only
  repeat' first
    | with_reducible exact Grows.refl _ _
    | (with_reducible apply Grows.step (count_grows ..)) <;> [exact rfl; skip]
    | (with_reducible apply Grows.step (writeAt_grows ..)) <;> [exact rfl; skip]
    | (with_reducible apply Grows.ite) <;> intro _
    | dsimp only
    | split

theorem serveWrite_grows (x1 x2 x3 x4 x5) (s : State) : Grows 26788500 s (serveWrite x1 x2 x3 x4 x5 s) := by
  unfold serveWrite
  try dsimp only
  repeat' first
    | with_reducible exact Grows.refl _ _
    | (with_reducible apply Grows.step (count_grows ..)) <;> [exact rfl; skip]
    | (with_reducible apply Grows.step (checkedRead_grows ..)) <;> [exact rfl; skip]
    | (with_reducible apply Grows.step (checkedRead_out (by assumption))) <;> [exact rfl; skip]
    | (with_reducible apply Grows.step (putWrite_grows ..)) <;> [exact rfl; skip]
    | (with_reducible apply Grows.step (mendCopy_grows ..)) <;> [exact rfl; skip]
    | (with_reducible apply Grows.step (persistentAt_grows ..)) <;> [exact rfl; skip]
    | (with_reducible apply Grows.step (holdWrite_grows ..)) <;> [exact rfl; skip]
    | (with_reducible apply Grows.ite) <;> intro _
    | dsimp only
    | split

theorem completeWrites_grows (s : State) : Grows 18350080 s (completeWrites s) := by
  unfold completeWrites
  try dsimp only
  repeat' first
    | with_reducible exact Grows.refl _ _
    | (with_reducible apply Grows.each) <;> [skip; intro _ _]
    | (with_reducible apply Grows.step (putWrite_grows ..)) <;> [exact rfl; skip]
    | (with_reducible apply Grows.ite) <;> intro _
    | dsimp only
    | split
    | refine Grows.upd ?_ (.inr rfl) (.inr rfl) (.inr rfl) (.inr rfl) (.inr rfl) (.inr rfl) (.inr rfl) (.inr rfl) (.inr rfl) (.inr rfl) (.inr rfl) (.inr rfl) (.inr rfl) (.inr rfl) (.inr rfl) (.inr rfl) (.inr rfl) (.inr rfl) (.inr rfl) (.inl rfl) (.inl rfl) (.inr rfl) (.inr rfl) (.inr rfl) (.inl rfl) (.inr rfl) (.inr rfl) (.inr rfl)
        (Nat.le_refl _) (Nat.le_refl _) List.prefix_rfl rfl ⟨rfl, rfl⟩ ⟨rfl, rfl, rfl⟩ (by refine ⟨?_, ?_, ?_⟩ <;> first | with_reducible rfl | rfl) (by refine ⟨?_, ?_, ?_, ?_, ?_, ?_⟩ <;> first | with_reducible rfl | rfl) ⟨rfl, rfl, rfl⟩ ⟨rfl, rfl, rfl, rfl, rfl, rfl, rfl, rfl, rfl, rfl⟩ ⟨rfl, rfl, rfl, rfl⟩ ⟨rfl, rfl⟩ rfl rfl (by first | with_reducible rfl | rfl)

theorem memoryOp_grows (x1 x2) (s : State) : Grows 26788500 s (memoryOp x1 x2 s) := by
  unfold memoryOp
  try dsimp only
  repeat' first
    | with_reducible exact Grows.refl _ _
    | (with_reducible apply Grows.step (count_grows ..)) <;> [exact rfl; skip]
    | (with_reducible apply Grows.step (serveRead_grows ..)) <;> [exact rfl; skip]
    | (with_reducible apply Grows.step (countBus_grows ..)) <;> [exact rfl; skip]
    | (with_reducible apply Grows.step (serveWrite_grows ..)) <;> [exact rfl; skip]
    | (with_reducible apply Grows.ite) <;> intro _
    | dsimp only
    | split

theorem dropOwner_grows (x1) (s : State) : Grows 9994884 s (dropOwner x1 s) := by
  unfold dropOwner
  try dsimp only
  repeat' first
    | with_reducible exact Grows.refl _ _
    | (with_reducible apply Grows.step (faultEvent_grows ..)) <;> [exact rfl; skip]
    | (with_reducible apply Grows.step (loseHomed_grows ..)) <;> [exact rfl; skip]
    | (with_reducible apply Grows.each) <;> [skip; intro _ _]
    | (with_reducible apply Grows.step (askCopy_grows ..)) <;> [exact rfl; skip]
    | (with_reducible apply Grows.ite) <;> intro _
    | dsimp only
    | split

theorem shrinkStripe_grows (s : State) : Grows 14271108 s (shrinkStripe s) := by
  unfold shrinkStripe
  try dsimp only
  repeat' first
    | with_reducible exact Grows.refl _ _
    | (with_reducible apply Grows.step (dropOwner_grows ..)) <;> [exact rfl; skip]
    | (with_reducible apply Grows.each) <;> [skip; intro _ _]
    | (with_reducible apply Grows.step (event_grows ..)) <;> [exact rfl; skip]
    | (with_reducible apply Grows.step (refreshSize_grows ..)) <;> [exact rfl; skip]
    | (with_reducible apply Grows.step (holdFor_grows ..)) <;> [exact rfl; skip]
    | (with_reducible apply Grows.ite) <;> intro _
    | dsimp only
    | split
    | refine Grows.upd ?_ (.inr rfl) (.inr rfl) (.inl rfl) (.inr rfl) (.inr rfl) (.inr rfl) (.inr rfl) (.inl rfl) (.inr rfl) (.inl rfl) (.inr rfl) (.inr rfl) (.inr rfl) (.inr rfl) (.inl rfl) (.inl rfl) (.inl rfl) (.inr rfl) (.inr rfl) (.inl rfl) (.inl rfl) (.inr rfl) (.inl rfl) (.inl rfl) (.inr rfl) (.inr rfl) (.inr rfl) (.inr rfl)
        (Nat.le_refl _) (Nat.le_refl _) List.prefix_rfl rfl ⟨rfl, rfl⟩ ⟨rfl, rfl, rfl⟩ (by refine ⟨?_, ?_, ?_⟩ <;> first | with_reducible rfl | rfl) (by refine ⟨?_, ?_, ?_, ?_, ?_, ?_⟩ <;> first | with_reducible rfl | rfl) ⟨rfl, rfl, rfl⟩ ⟨rfl, rfl, rfl, rfl, rfl, rfl, rfl, rfl, rfl, rfl⟩ (by refine ⟨?_, ?_, ?_, ?_⟩ <;> first | with_reducible rfl | rfl) ⟨rfl, rfl⟩ rfl (by first | with_reducible rfl | rfl) (by first | with_reducible rfl | rfl)

end Sys2Proof.Machine
end

