-- ==== Sys2Proof/Laws/GrowsTensor.lean ====
section
/-! SUPPORT. What each operation of Machine/Tensor.lean does to the state, in the form of `Grows`. -/

namespace Sys2Proof.Machine

theorem useSet_grows (x1 x2 x3) (s : State) : Grows 131072 s (useSet x1 x2 x3 s) := by
  unfold useSet
  try dsimp only
  repeat' first
    | with_reducible exact Grows.refl _ _
    | (with_reducible apply Grows.step (updCtx_grows ..)) <;> [exact rfl; skip]
    | (with_reducible apply Grows.ite) <;> intro _
    | dsimp only
    | split

theorem usePairs_grows (x1 x2 x3 x4) (s : State) : Grows 20971520 s (usePairs x1 x2 x3 x4 s) := by
  unfold usePairs
  try dsimp only
  repeat' first
    | with_reducible exact Grows.refl _ _
    | (with_reducible apply Grows.each) <;> [skip; intro _ _]
    | (with_reducible apply Grows.step (scorePair_grows ..)) <;> [exact rfl; skip]
    | (with_reducible apply Grows.step (shadowPair_grows ..)) <;> [exact rfl; skip]
    | (with_reducible apply Grows.step (workPair_grows ..)) <;> [exact rfl; skip]
    | (with_reducible apply Grows.ite) <;> intro _
    | dsimp only
    | split

end Sys2Proof.Machine
end

