-- ==== Sys2Proof/Laws/GrowsVector.lean ====
section
/-! SUPPORT. What each operation of Machine/Vector.lean does to the state, in the form of `Grows`. -/

namespace Sys2Proof.Machine

theorem addNans_grows (x1 x2) (s : State) : Grows 16908288 s (addNans x1 x2 s) := by
  unfold addNans
  try dsimp only
  repeat' first
    | with_reducible exact Grows.refl _ _
    | (with_reducible apply Grows.step (count_grows ..)) <;> [exact rfl; skip]
    | (with_reducible apply Grows.step (updCore_grows ..)) <;> [exact rfl; skip]
    | (with_reducible apply Grows.ite) <;> intro _
    | dsimp only
    | split

theorem addCvt_grows (x1 x2) (s : State) : Grows 16908288 s (addCvt x1 x2 s) := by
  unfold addCvt
  try dsimp only
  repeat' first
    | with_reducible exact Grows.refl _ _
    | (with_reducible apply Grows.step (count_grows ..)) <;> [exact rfl; skip]
    | (with_reducible apply Grows.step (updCore_grows ..)) <;> [exact rfl; skip]
    | (with_reducible apply Grows.ite) <;> intro _
    | dsimp only
    | split

end Sys2Proof.Machine
end

