-- ==== Sys2Proof/Laws/GrowsActs.lean ====
section
/-! SUPPORT. What the effect of an instruction's issue does to the state, in the form of `ActGrows`. -/

namespace Sys2Proof.Machine

theorem ActGrows.wait {m : Nat} {s : State} : ActGrows m s .wait := Grows.refl _ _
theorem ActGrows.waitDo {m : Nat} {s : State} {f : State → State} (h : Grows m s (f s)) : ActGrows m s (.wait f) := h
theorem ActGrows.fault {m : Nat} {s : State} {c : Nat} : ActGrows m s (.fault c) := trivial
theorem ActGrows.check {m : Nat} {s : State} {q : CoreCheck} : ActGrows m s (.check q) := trivial

theorem ActGrows.mono {m n : Nat} {s : State} {a : Act} (h : ActGrows m s a) (hm : m ||| n = n) : ActGrows n s a := by
  cases a with
  | act f => exact Grows.mono h hm
  | wait f => exact Grows.mono h hm
  | fault c => trivial
  | check q => trivial

theorem onMove_acts {m : Nat} {f : State → CoreS → CtxS → QTask → Nat → Nat → Act} {s : State} {o : CoreS} {x : CtxS} {t : QTask}
    {key c : Nat} (hm : 131072 ||| m = m) (h : ∀ _ : o.move.isNone = true, ActGrows m s (f s o x t key c)) :
    ActGrows m s (onMove f s o x t key c) := by
  unfold onMove
  split
  · exact ActGrows.wait
  · rename_i hv
    have hf := h (by cases e : o.move <;> simp_all)
    split
    · rename_i g e
      rw [e] at hf
      exact ActGrows.act (.step2 (M := 131072) (advance_grows ..) rfl hm (.step2 (M := 131072) (updCore_grows ..) rfl hm hf))
    · exact hf

theorem onVector_acts {m : Nat} {f : State → CoreS → CtxS → QTask → Nat → Nat → Act} {s : State} {o : CoreS} {x : CtxS} {t : QTask}
    {key c : Nat} (hm : 131072 ||| m = m) (h : ∀ _ : o.vector.isNone = true, ActGrows m s (f s o x t key c)) :
    ActGrows m s (onVector f s o x t key c) := by
  unfold onVector
  split
  · exact ActGrows.wait
  · rename_i hv
    have hf := h (by cases e : o.vector <;> simp_all)
    split
    · rename_i g e
      rw [e] at hf
      exact ActGrows.act (.step2 (M := 131072) (advance_grows ..) rfl hm (.step2 (M := 131072) (updCore_grows ..) rfl hm hf))
    · exact hf

theorem onComm_acts {m : Nat} {f : State → CoreS → CtxS → QTask → Nat → Nat → Act} {s : State} {o : CoreS} {x : CtxS} {t : QTask}
    {key c : Nat} (hm : 131072 ||| m = m) (h : ∀ _ : o.comm.isNone = true, ActGrows m s (f s o x t key c)) :
    ActGrows m s (onComm f s o x t key c) := by
  unfold onComm
  split
  · exact ActGrows.wait
  · rename_i hv
    have hf := h (by cases e : o.comm <;> simp_all)
    split
    · rename_i g e
      rw [e] at hf
      exact ActGrows.act (.step2 (M := 131072) (advance_grows ..) rfl hm (.step2 (M := 131072) (updCore_grows ..) rfl hm hf))
    · exact hf

theorem gatherPlain_acts (x1 x2 x3 x4 x5) (s : State) : ActGrows 131072 s (gatherPlain x1 x2 x3 x4 x5) := by
  unfold gatherPlain
  try dsimp only
  repeat' first
    | with_reducible exact Grows.refl _ _
    | with_reducible exact ActGrows.wait
    | with_reducible exact ActGrows.fault
    | with_reducible exact ActGrows.check
    | (with_reducible apply Grows.step (writeSram_grows ..)) <;> [exact rfl; skip]
    | (with_reducible apply ActGrows.ite) <;> intro _
    | with_reducible apply ActGrows.act
    | with_reducible apply ActGrows.waitDo
    | (with_reducible apply Grows.ite) <;> intro _
    | dsimp only
    | split

theorem gatherUnion_acts (x1 x2 x3 x4 x5 x6 x7 x8) (s : State) : ActGrows 16908288 s (gatherUnion x1 x2 x3 x4 x5 x6 x7 x8) := by
  unfold gatherUnion
  try dsimp only
  repeat' first
    | with_reducible exact Grows.refl _ _
    | with_reducible exact ActGrows.wait
    | with_reducible exact ActGrows.fault
    | with_reducible exact ActGrows.check
    | (with_reducible apply Grows.step (count_grows ..)) <;> [exact rfl; skip]
    | (with_reducible apply Grows.step (updCtx_grows ..)) <;> [exact rfl; skip]
    | (with_reducible apply Grows.step (writeSram_grows ..)) <;> [exact rfl; skip]
    | (with_reducible apply ActGrows.ite) <;> intro _
    | with_reducible apply ActGrows.act
    | with_reducible apply ActGrows.waitDo
    | (with_reducible apply Grows.ite) <;> intro _
    | dsimp only
    | split

theorem convertArray_acts (x1 x2 x3 x4 x5 x6 x7 x8 x9 x10 x11 x12) (s : State) : ActGrows 16908288 s (convertArray x1 x2 x3 x4 x5 x6 x7 x8 x9 x10 x11 x12) := by
  unfold convertArray
  try dsimp only
  repeat' first
    | with_reducible exact Grows.refl _ _
    | with_reducible exact ActGrows.wait
    | with_reducible exact ActGrows.fault
    | with_reducible exact ActGrows.check
    | (with_reducible apply Grows.step (addCvt_grows ..)) <;> [exact rfl; skip]
    | (with_reducible apply Grows.step (updCtx_grows ..)) <;> [exact rfl; skip]
    | (with_reducible apply Grows.step (writeSram_grows ..)) <;> [exact rfl; skip]
    | (with_reducible apply ActGrows.ite) <;> intro _
    | with_reducible apply ActGrows.act
    | with_reducible apply ActGrows.waitDo
    | (with_reducible apply Grows.ite) <;> intro _
    | dsimp only
    | split

theorem fused_acts {m : Nat} {b : Nat} {w : Nat} {o : CoreS} {x : CtxS} {t : QTask} {key c : Nat}
    {f : List Nat → State → State} {s : State} (hm : 131072 ||| m = m) (h : ∀ l u, Grows m u (f l u)) :
    ActGrows m s (fused b w o x t key c f) := by
  unfold fused
  split
  · exact ActGrows.wait
  · split
    · trivial
    · dsimp only
      split
      · trivial
      · trivial
      · exact ActGrows.act (.step2 (M := 131072) (advance_grows ..) rfl hm (Grows.trans (.step2 (M := 131072) (useSet_grows ..) rfl hm
          (.step2 (M := 131072) (setCore_grows ..) rfl hm (.refl _ s))) (h _ _)))

end Sys2Proof.Machine
end

