-- ==== Sys2Proof/Laws/GrowsRegisters.lean ====
section
/-! SUPPORT. What each operation of Machine/Registers.lean does to the state, in the form of `Grows`. -/

namespace Sys2Proof.Machine

theorem readWord_out {side : Bool} {a : Nat} {s t : State} {v : Nat} (h : readWord side a s = some (v, t)) :
    Grows 100663296 s t := by
  unfold readWord at h
  dsimp only at h
  repeat' (first | contradiction | split at h)
  all_goals cases h
  all_goals first
    | with_reducible exact Grows.refl _ _
    | refine Grows.upd ?_ (.inr rfl) (.inr rfl) (.inr rfl) (.inr rfl) (.inr rfl) (.inr rfl) (.inr rfl) (.inr rfl) (.inr rfl) (.inr rfl) (.inr rfl) (.inr rfl) (.inr rfl) (.inr rfl) (.inr rfl) (.inr rfl) (.inr rfl) (.inr rfl) (.inr rfl) (.inr rfl) (.inr rfl) (.inr rfl) (.inr rfl) (.inr rfl) (.inr rfl) (.inl rfl) (.inl rfl) (.inr rfl)
        (Nat.le_refl _) (Nat.le_refl _) List.prefix_rfl rfl ⟨rfl, rfl⟩ ⟨rfl, rfl, rfl⟩ ⟨rfl, rfl, rfl⟩ ⟨rfl, rfl, rfl, rfl, rfl, rfl⟩ ⟨rfl, rfl, rfl⟩ ⟨rfl, rfl, rfl, rfl, rfl, rfl, rfl, rfl, rfl, rfl⟩ ⟨rfl, rfl, rfl, rfl⟩ ⟨rfl, rfl⟩ rfl rfl rfl
      exact Grows.refl _ _

theorem atBoundary_grows {m : Nat} {s t : State} {f g : State → State} (_hm : 0 ||| m = m) (h : Grows m s t)
    (ha : ∀ u, Grows m u (f u)) (hb : ∀ u, Grows m u (g u)) : Grows m s (atBoundary f g t) := by
  unfold atBoundary
  try dsimp only
  repeat' first
    | exact h
    | with_reducible refine Grows.trans ?_ (ha _)
    | with_reducible refine Grows.trans ?_ (hb _)
    | (with_reducible apply Grows.ite) <;> intro _
    | dsimp only
    | split

theorem ruleLater_grows (x1 x2) (s : State) : Grows 9437184 s (ruleLater x1 x2 s) := by
  unfold ruleLater
  try dsimp only
  repeat' first
    | with_reducible exact Grows.refl _ _
    | (with_reducible apply atBoundary_grows) <;> [exact rfl; skip; intro _; intro _]
    | (with_reducible apply Grows.step (applyRule_grows ..)) <;> [exact rfl; skip]
    | (with_reducible apply Grows.ite) <;> intro _
    | dsimp only
    | split
    | refine Grows.upd ?_ (.inr rfl) (.inr rfl) (.inr rfl) (.inr rfl) (.inr rfl) (.inr rfl) (.inr rfl) (.inr rfl) (.inr rfl) (.inr rfl) (.inr rfl) (.inr rfl) (.inr rfl) (.inr rfl) (.inr rfl) (.inr rfl) (.inr rfl) (.inr rfl) (.inr rfl) (.inr rfl) (.inl rfl) (.inr rfl) (.inr rfl) (.inl rfl) (.inr rfl) (.inr rfl) (.inr rfl) (.inr rfl)
        (Nat.le_refl _) (Nat.le_refl _) List.prefix_rfl rfl ⟨rfl, rfl⟩ ⟨rfl, rfl, rfl⟩ ⟨rfl, rfl, rfl⟩ (by refine ⟨?_, ?_, ?_, ?_, ?_, ?_⟩ <;> first | with_reducible rfl | rfl) ⟨rfl, rfl, rfl⟩ ⟨rfl, rfl, rfl, rfl, rfl, rfl, rfl, rfl, rfl, rfl⟩ ⟨rfl, rfl, rfl, rfl⟩ ⟨rfl, rfl⟩ rfl rfl rfl

theorem Grows.set_tick {m : Nat} {s t : State} {x : TickS} (h : Grows m s t) (hm : m.testBit 12 = true)
    (hr : tickInRange t.tick → tickInRange x) : Grows m s { t with tick := x } :=
  h.updLegal (.inr rfl) (.inr rfl) (.inr rfl) (.inr rfl) (.inr rfl) (.inr rfl) (.inr rfl) (.inr rfl) (.inr rfl) (.inr rfl) (.inr rfl) (.inr rfl) (.inl hm) (.inr rfl) (.inr rfl) (.inr rfl) (.inr rfl) (.inr rfl) (.inr rfl) (.inr rfl) (.inr rfl) (.inr rfl) (.inr rfl) (.inr rfl) (.inr rfl) (.inr rfl) (.inr rfl) (.inr rfl)
    (Nat.le_refl _) (Nat.le_refl _) List.prefix_rfl rfl hr id id id id id id id id id id

theorem Grows.set_stream {m : Nat} {s t : State} {x : StreamS} (h : Grows m s t) (hm : m.testBit 18 = true)
    (hr : streamInRange t.stream → streamInRange x) : Grows m s { t with stream := x } :=
  h.updLegal (.inr rfl) (.inr rfl) (.inr rfl) (.inr rfl) (.inr rfl) (.inr rfl) (.inr rfl) (.inr rfl) (.inr rfl) (.inr rfl) (.inr rfl) (.inr rfl) (.inr rfl) (.inr rfl) (.inr rfl) (.inr rfl) (.inr rfl) (.inr rfl) (.inl hm) (.inr rfl) (.inr rfl) (.inr rfl) (.inr rfl) (.inr rfl) (.inr rfl) (.inr rfl) (.inr rfl) (.inr rfl)
    (Nat.le_refl _) (Nat.le_refl _) List.prefix_rfl rfl id hr id id id id id id id id id

theorem Grows.set_red {m : Nat} {s t : State} {x : ReduceS} (h : Grows m s t) (hm : m.testBit 20 = true)
    (hr : reduceInRange t.red → reduceInRange x) : Grows m s { t with red := x } :=
  h.updLegal (.inr rfl) (.inr rfl) (.inr rfl) (.inr rfl) (.inr rfl) (.inr rfl) (.inr rfl) (.inr rfl) (.inr rfl) (.inr rfl) (.inr rfl) (.inr rfl) (.inr rfl) (.inr rfl) (.inr rfl) (.inr rfl) (.inr rfl) (.inr rfl) (.inr rfl) (.inr rfl) (.inl hm) (.inr rfl) (.inr rfl) (.inr rfl) (.inr rfl) (.inr rfl) (.inr rfl) (.inr rfl)
    (Nat.le_refl _) (Nat.le_refl _) List.prefix_rfl rfl id id id hr id id id id id id id

theorem Grows.set_beam {m : Nat} {s t : State} {x : BeamS} (h : Grows m s t) (hm : m.testBit 21 = true)
    (hr : beamInRange t.beam → beamInRange x) : Grows m s { t with beam := x } :=
  h.updLegal (.inr rfl) (.inr rfl) (.inr rfl) (.inr rfl) (.inr rfl) (.inr rfl) (.inr rfl) (.inr rfl) (.inr rfl) (.inr rfl) (.inr rfl) (.inr rfl) (.inr rfl) (.inr rfl) (.inr rfl) (.inr rfl) (.inr rfl) (.inr rfl) (.inr rfl) (.inr rfl) (.inr rfl) (.inl hm) (.inr rfl) (.inr rfl) (.inr rfl) (.inr rfl) (.inr rfl) (.inr rfl)
    (Nat.le_refl _) (Nat.le_refl _) List.prefix_rfl rfl id id id id hr id id id id id id

theorem Grows.set_power {m : Nat} {s t : State} {x : PowerS} (h : Grows m s t) (hm : m.testBit 8 = true)
    (hr : powerInRange t.power → powerInRange x) : Grows m s { t with power := x } :=
  h.updLegal (.inr rfl) (.inr rfl) (.inr rfl) (.inr rfl) (.inr rfl) (.inr rfl) (.inr rfl) (.inr rfl) (.inl hm) (.inr rfl) (.inr rfl) (.inr rfl) (.inr rfl) (.inr rfl) (.inr rfl) (.inr rfl) (.inr rfl) (.inr rfl) (.inr rfl) (.inr rfl) (.inr rfl) (.inr rfl) (.inr rfl) (.inr rfl) (.inr rfl) (.inr rfl) (.inr rfl) (.inr rfl)
    (Nat.le_refl _) (Nat.le_refl _) List.prefix_rfl rfl id id id id id hr id id id id id

theorem Grows.set_grp {m : Nat} {s t : State} {x : GroupS} (h : Grows m s t) (hm : m.testBit 15 = true)
    (hr : groupInRange t.grp → groupInRange x) : Grows m s { t with grp := x } :=
  h.updLegal (.inr rfl) (.inr rfl) (.inr rfl) (.inr rfl) (.inr rfl) (.inr rfl) (.inr rfl) (.inr rfl) (.inr rfl) (.inr rfl) (.inr rfl) (.inr rfl) (.inr rfl) (.inr rfl) (.inr rfl) (.inl hm) (.inr rfl) (.inr rfl) (.inr rfl) (.inr rfl) (.inr rfl) (.inr rfl) (.inr rfl) (.inr rfl) (.inr rfl) (.inr rfl) (.inr rfl) (.inr rfl)
    (Nat.le_refl _) (Nat.le_refl _) List.prefix_rfl rfl id id id id id id hr id id id id

theorem Grows.set_snap {m : Nat} {s t : State} {x : SnapS} (h : Grows m s t) (hm : m.testBit 10 = true)
    (hr : snapInRange t.snap → snapInRange x) : Grows m s { t with snap := x } :=
  h.updLegal (.inr rfl) (.inr rfl) (.inr rfl) (.inr rfl) (.inr rfl) (.inr rfl) (.inr rfl) (.inr rfl) (.inr rfl) (.inr rfl) (.inl hm) (.inr rfl) (.inr rfl) (.inr rfl) (.inr rfl) (.inr rfl) (.inr rfl) (.inr rfl) (.inr rfl) (.inr rfl) (.inr rfl) (.inr rfl) (.inr rfl) (.inr rfl) (.inr rfl) (.inr rfl) (.inr rfl) (.inr rfl)
    (Nat.le_refl _) (Nat.le_refl _) List.prefix_rfl rfl id id id id id id id hr id id id

theorem Grows.set_mem {m : Nat} {s t : State} {x : MemS} (h : Grows m s t) (hm : m.testBit 19 = true) (hb : memStore x = memStore t.mem)
    (hr : memoryInRange t.mem → memoryInRange x) : Grows m s { t with mem := x } :=
  h.updLegal (.inr rfl) (.inr rfl) (.inr rfl) (.inr rfl) (.inr rfl) (.inr rfl) (.inr rfl) (.inr rfl) (.inr rfl) (.inr rfl) (.inr rfl) (.inr rfl) (.inr rfl) (.inr rfl) (.inr rfl) (.inr rfl) (.inr rfl) (.inr rfl) (.inr rfl) (.inl hm) (.inr rfl) (.inr rfl) (.inr rfl) (.inr rfl) (.inr rfl) (.inr rfl) (.inr rfl) (.inr rfl)
    (Nat.le_refl _) (Nat.le_refl _) List.prefix_rfl rfl id id hr id id id id id id id (memStore.canonical hb)

theorem Grows.set_flash {m : Nat} {s t : State} {x : FlashS} (h : Grows m s t) (hm : m.testBit 4 = true) (hf : Machine.fuses x = Machine.fuses t.flash)
    (hr : flashInRange t.flash → flashInRange x) : Grows m s { t with flash := x } :=
  h.updLegal (.inr rfl) (.inr rfl) (.inr rfl) (.inr rfl) (.inl hm) (.inr rfl) (.inr rfl) (.inr rfl) (.inr rfl) (.inr rfl) (.inr rfl) (.inr rfl) (.inr rfl) (.inr rfl) (.inr rfl) (.inr rfl) (.inr rfl) (.inr rfl) (.inr rfl) (.inr rfl) (.inr rfl) (.inr rfl) (.inr rfl) (.inr rfl) (.inr rfl) (.inr rfl) (.inr rfl) (.inr rfl)
    (Nat.le_refl _) (Nat.le_refl _) List.prefix_rfl hf id id id id id id id id hr id id

theorem setRamp_grows {x1} (h : between 50 4800 x1) (s : State) : Grows 256 s (setRamp x1 s) := by
  unfold setRamp
  try dsimp only
  repeat' first
    | with_reducible exact Grows.refl _ _
    | (with_reducible apply atBoundary_grows) <;> [exact rfl; skip; intro _; intro _]
    | (with_reducible apply Grows.ite) <;> intro _
    | dsimp only
    | split
    | refine Grows.updLegal ?_ (.inr rfl) (.inr rfl) (.inr rfl) (.inr rfl) (.inr rfl) (.inr rfl) (.inr rfl) (.inr rfl) (.inl rfl) (.inr rfl) (.inr rfl) (.inr rfl) (.inr rfl) (.inr rfl) (.inr rfl) (.inr rfl) (.inr rfl) (.inr rfl) (.inr rfl) (.inr rfl) (.inr rfl) (.inr rfl) (.inr rfl) (.inr rfl) (.inr rfl) (.inr rfl) (.inr rfl) (.inr rfl)
        (Nat.le_refl _) (Nat.le_refl _) List.prefix_rfl rfl (tickKept.inRange ⟨rfl, rfl⟩) (streamKept.inRange ⟨rfl, rfl, rfl⟩) (memoryKept.inRange ⟨rfl, rfl, rfl⟩) (reduceKept.inRange ⟨rfl, rfl, rfl, rfl, rfl, rfl⟩) (beamKept.inRange ⟨rfl, rfl, rfl⟩) (fun ⟨a, _, c⟩ => ⟨a, fun _ e => Option.mem_some_iff.mp e ▸ h, c⟩) (groupKept.inRange ⟨rfl, rfl, rfl, rfl⟩) (snapKept.inRange ⟨rfl, rfl⟩) (flashKept.inRange rfl) id id
    | refine Grows.updLegal ?_ (.inr rfl) (.inr rfl) (.inr rfl) (.inr rfl) (.inr rfl) (.inr rfl) (.inr rfl) (.inr rfl) (.inl rfl) (.inr rfl) (.inr rfl) (.inr rfl) (.inr rfl) (.inr rfl) (.inr rfl) (.inr rfl) (.inr rfl) (.inr rfl) (.inr rfl) (.inr rfl) (.inr rfl) (.inr rfl) (.inr rfl) (.inr rfl) (.inr rfl) (.inr rfl) (.inr rfl) (.inr rfl)
        (Nat.le_refl _) (Nat.le_refl _) List.prefix_rfl rfl (tickKept.inRange ⟨rfl, rfl⟩) (streamKept.inRange ⟨rfl, rfl, rfl⟩) (memoryKept.inRange ⟨rfl, rfl, rfl⟩) (reduceKept.inRange ⟨rfl, rfl, rfl, rfl, rfl, rfl⟩) (beamKept.inRange ⟨rfl, rfl, rfl⟩) (fun ⟨_, a1, a2, a3, a4, a5, a6, a7, a8, a9⟩ => ⟨h, a1, a2, a3, a4, a5, a6, a7, a8, a9⟩) (groupKept.inRange ⟨rfl, rfl, rfl, rfl⟩) (snapKept.inRange ⟨rfl, rfl⟩) (flashKept.inRange rfl) id id
    | refine Grows.upd ?_ (.inr rfl) (.inr rfl) (.inr rfl) (.inr rfl) (.inr rfl) (.inr rfl) (.inr rfl) (.inr rfl) (.inl rfl) (.inr rfl) (.inr rfl) (.inr rfl) (.inr rfl) (.inr rfl) (.inr rfl) (.inr rfl) (.inr rfl) (.inr rfl) (.inr rfl) (.inr rfl) (.inr rfl) (.inr rfl) (.inr rfl) (.inr rfl) (.inr rfl) (.inr rfl) (.inr rfl) (.inr rfl)
        (Nat.le_refl _) (Nat.le_refl _) List.prefix_rfl rfl ⟨rfl, rfl⟩ ⟨rfl, rfl, rfl⟩ ⟨rfl, rfl, rfl⟩ ⟨rfl, rfl, rfl, rfl, rfl, rfl⟩ ⟨rfl, rfl, rfl⟩ (by refine ⟨?_, ?_, ?_, ?_, ?_, ?_, ?_, ?_, ?_, ?_⟩ <;> first | with_reducible rfl | rfl) ⟨rfl, rfl, rfl, rfl⟩ ⟨rfl, rfl⟩ rfl rfl rfl

theorem setGroupRamp_grows {x1} (h : between 50 307200 x1) (s : State) : Grows 256 s (setGroupRamp x1 s) := by
  unfold setGroupRamp
  try dsimp only
  repeat' first
    | with_reducible exact Grows.refl _ _
    | (with_reducible apply atBoundary_grows) <;> [exact rfl; skip; intro _; intro _]
    | (with_reducible apply Grows.ite) <;> intro _
    | dsimp only
    | split
    | refine Grows.updLegal ?_ (.inr rfl) (.inr rfl) (.inr rfl) (.inr rfl) (.inr rfl) (.inr rfl) (.inr rfl) (.inr rfl) (.inl rfl) (.inr rfl) (.inr rfl) (.inr rfl) (.inr rfl) (.inr rfl) (.inr rfl) (.inr rfl) (.inr rfl) (.inr rfl) (.inr rfl) (.inr rfl) (.inr rfl) (.inr rfl) (.inr rfl) (.inr rfl) (.inr rfl) (.inr rfl) (.inr rfl) (.inr rfl)
        (Nat.le_refl _) (Nat.le_refl _) List.prefix_rfl rfl (tickKept.inRange ⟨rfl, rfl⟩) (streamKept.inRange ⟨rfl, rfl, rfl⟩) (memoryKept.inRange ⟨rfl, rfl, rfl⟩) (reduceKept.inRange ⟨rfl, rfl, rfl, rfl, rfl, rfl⟩) (beamKept.inRange ⟨rfl, rfl, rfl⟩) (fun ⟨a, b, c, _, e⟩ => ⟨a, b, c, fun _ q => Option.mem_some_iff.mp q ▸ h, e⟩) (groupKept.inRange ⟨rfl, rfl, rfl, rfl⟩) (snapKept.inRange ⟨rfl, rfl⟩) (flashKept.inRange rfl) id id
    | refine Grows.updLegal ?_ (.inr rfl) (.inr rfl) (.inr rfl) (.inr rfl) (.inr rfl) (.inr rfl) (.inr rfl) (.inr rfl) (.inl rfl) (.inr rfl) (.inr rfl) (.inr rfl) (.inr rfl) (.inr rfl) (.inr rfl) (.inr rfl) (.inr rfl) (.inr rfl) (.inr rfl) (.inr rfl) (.inr rfl) (.inr rfl) (.inr rfl) (.inr rfl) (.inr rfl) (.inr rfl) (.inr rfl) (.inr rfl)
        (Nat.le_refl _) (Nat.le_refl _) List.prefix_rfl rfl (tickKept.inRange ⟨rfl, rfl⟩) (streamKept.inRange ⟨rfl, rfl, rfl⟩) (memoryKept.inRange ⟨rfl, rfl, rfl⟩) (reduceKept.inRange ⟨rfl, rfl, rfl, rfl, rfl, rfl⟩) (beamKept.inRange ⟨rfl, rfl, rfl⟩) (fun ⟨a0, a1, _, a3, a4, a5, a6, a7, a8, a9⟩ => ⟨a0, a1, h, a3, a4, a5, a6, a7, a8, a9⟩) (groupKept.inRange ⟨rfl, rfl, rfl, rfl⟩) (snapKept.inRange ⟨rfl, rfl⟩) (flashKept.inRange rfl) id id
    | refine Grows.upd ?_ (.inr rfl) (.inr rfl) (.inr rfl) (.inr rfl) (.inr rfl) (.inr rfl) (.inr rfl) (.inr rfl) (.inl rfl) (.inr rfl) (.inr rfl) (.inr rfl) (.inr rfl) (.inr rfl) (.inr rfl) (.inr rfl) (.inr rfl) (.inr rfl) (.inr rfl) (.inr rfl) (.inr rfl) (.inr rfl) (.inr rfl) (.inr rfl) (.inr rfl) (.inr rfl) (.inr rfl) (.inr rfl)
        (Nat.le_refl _) (Nat.le_refl _) List.prefix_rfl rfl ⟨rfl, rfl⟩ ⟨rfl, rfl, rfl⟩ ⟨rfl, rfl, rfl⟩ ⟨rfl, rfl, rfl, rfl, rfl, rfl⟩ ⟨rfl, rfl, rfl⟩ (by refine ⟨?_, ?_, ?_, ?_, ?_, ?_, ?_, ?_, ?_, ?_⟩ <;> first | with_reducible rfl | rfl) ⟨rfl, rfl, rfl, rfl⟩ ⟨rfl, rfl⟩ rfl rfl rfl

theorem setReconcile_grows {x1} (h : between 0 1024 x1) (s : State) : Grows 32768 s (setReconcile x1 s) := by
  unfold setReconcile
  try dsimp only
  repeat' first
    | with_reducible exact Grows.refl _ _
    | (with_reducible apply atBoundary_grows) <;> [exact rfl; skip; intro _; intro _]
    | (with_reducible apply Grows.ite) <;> intro _
    | dsimp only
    | split
    | refine Grows.updLegal ?_ (.inr rfl) (.inr rfl) (.inr rfl) (.inr rfl) (.inr rfl) (.inr rfl) (.inr rfl) (.inr rfl) (.inr rfl) (.inr rfl) (.inr rfl) (.inr rfl) (.inr rfl) (.inr rfl) (.inr rfl) (.inl rfl) (.inr rfl) (.inr rfl) (.inr rfl) (.inr rfl) (.inr rfl) (.inr rfl) (.inr rfl) (.inr rfl) (.inr rfl) (.inr rfl) (.inr rfl) (.inr rfl)
        (Nat.le_refl _) (Nat.le_refl _) List.prefix_rfl rfl (tickKept.inRange ⟨rfl, rfl⟩) (streamKept.inRange ⟨rfl, rfl, rfl⟩) (memoryKept.inRange ⟨rfl, rfl, rfl⟩) (reduceKept.inRange ⟨rfl, rfl, rfl, rfl, rfl, rfl⟩) (beamKept.inRange ⟨rfl, rfl, rfl⟩) (powerKept.inRange ⟨rfl, rfl, rfl, rfl, rfl, rfl, rfl, rfl, rfl, rfl⟩) (fun ⟨a, b, c, _⟩ => ⟨a, b, c, fun _ q => Option.mem_some_iff.mp q ▸ h.2⟩) (snapKept.inRange ⟨rfl, rfl⟩) (flashKept.inRange rfl) id id
    | refine Grows.updLegal ?_ (.inr rfl) (.inr rfl) (.inr rfl) (.inr rfl) (.inr rfl) (.inr rfl) (.inr rfl) (.inr rfl) (.inr rfl) (.inr rfl) (.inr rfl) (.inr rfl) (.inr rfl) (.inr rfl) (.inr rfl) (.inl rfl) (.inr rfl) (.inr rfl) (.inr rfl) (.inr rfl) (.inr rfl) (.inr rfl) (.inr rfl) (.inr rfl) (.inr rfl) (.inr rfl) (.inr rfl) (.inr rfl)
        (Nat.le_refl _) (Nat.le_refl _) List.prefix_rfl rfl (tickKept.inRange ⟨rfl, rfl⟩) (streamKept.inRange ⟨rfl, rfl, rfl⟩) (memoryKept.inRange ⟨rfl, rfl, rfl⟩) (reduceKept.inRange ⟨rfl, rfl, rfl, rfl, rfl, rfl⟩) (beamKept.inRange ⟨rfl, rfl, rfl⟩) (powerKept.inRange ⟨rfl, rfl, rfl, rfl, rfl, rfl, rfl, rfl, rfl, rfl⟩) (fun ⟨a0, a1, _, a3⟩ => ⟨a0, a1, h.2, a3⟩) (snapKept.inRange ⟨rfl, rfl⟩) (flashKept.inRange rfl) id id
    | refine Grows.upd ?_ (.inr rfl) (.inr rfl) (.inr rfl) (.inr rfl) (.inr rfl) (.inr rfl) (.inr rfl) (.inr rfl) (.inr rfl) (.inr rfl) (.inr rfl) (.inr rfl) (.inr rfl) (.inr rfl) (.inr rfl) (.inl rfl) (.inr rfl) (.inr rfl) (.inr rfl) (.inr rfl) (.inr rfl) (.inr rfl) (.inr rfl) (.inr rfl) (.inr rfl) (.inr rfl) (.inr rfl) (.inr rfl)
        (Nat.le_refl _) (Nat.le_refl _) List.prefix_rfl rfl ⟨rfl, rfl⟩ ⟨rfl, rfl, rfl⟩ ⟨rfl, rfl, rfl⟩ ⟨rfl, rfl, rfl, rfl, rfl, rfl⟩ ⟨rfl, rfl, rfl⟩ ⟨rfl, rfl, rfl, rfl, rfl, rfl, rfl, rfl, rfl, rfl⟩ (by refine ⟨?_, ?_, ?_, ?_⟩ <;> first | with_reducible rfl | rfl) ⟨rfl, rfl⟩ rfl rfl rfl

theorem setGross_grows {x1} (h : between 1 255 x1) (s : State) : Grows 17825792 s (setGross x1 s) := by
  unfold setGross
  try dsimp only
  repeat' first
    | with_reducible exact Grows.refl _ _
    | (with_reducible apply Grows.step (count_grows ..)) <;> [exact rfl; skip]
    | (with_reducible apply Grows.ite) <;> intro _
    | dsimp only
    | split
    | refine Grows.updLegal ?_ (.inr rfl) (.inr rfl) (.inr rfl) (.inr rfl) (.inr rfl) (.inr rfl) (.inr rfl) (.inr rfl) (.inr rfl) (.inr rfl) (.inr rfl) (.inr rfl) (.inr rfl) (.inr rfl) (.inr rfl) (.inr rfl) (.inr rfl) (.inr rfl) (.inr rfl) (.inr rfl) (.inl rfl) (.inr rfl) (.inr rfl) (.inr rfl) (.inl rfl) (.inr rfl) (.inr rfl) (.inr rfl)
        (Nat.le_refl _) (Nat.le_refl _) List.prefix_rfl rfl (tickKept.inRange ⟨rfl, rfl⟩) (streamKept.inRange ⟨rfl, rfl, rfl⟩) (memoryKept.inRange ⟨rfl, rfl, rfl⟩) (fun ⟨a, b, c, d, e, _⟩ => ⟨a, b, c, d, e, Nat.le_trans h.1 (Nat.le_max_left ..), Nat.max_le.mpr ⟨h.2, e.2⟩⟩) (beamKept.inRange ⟨rfl, rfl, rfl⟩) (powerKept.inRange ⟨rfl, rfl, rfl, rfl, rfl, rfl, rfl, rfl, rfl, rfl⟩) (groupKept.inRange ⟨rfl, rfl, rfl, rfl⟩) (snapKept.inRange ⟨rfl, rfl⟩) (flashKept.inRange rfl) id id
    | refine Grows.upd ?_ (.inr rfl) (.inr rfl) (.inr rfl) (.inr rfl) (.inr rfl) (.inr rfl) (.inr rfl) (.inr rfl) (.inr rfl) (.inr rfl) (.inr rfl) (.inr rfl) (.inr rfl) (.inr rfl) (.inr rfl) (.inr rfl) (.inr rfl) (.inr rfl) (.inr rfl) (.inr rfl) (.inl rfl) (.inr rfl) (.inr rfl) (.inr rfl) (.inl rfl) (.inr rfl) (.inr rfl) (.inr rfl)
        (Nat.le_refl _) (Nat.le_refl _) List.prefix_rfl rfl ⟨rfl, rfl⟩ ⟨rfl, rfl, rfl⟩ ⟨rfl, rfl, rfl⟩ (by refine ⟨?_, ?_, ?_, ?_, ?_, ?_⟩ <;> first | with_reducible rfl | rfl) ⟨rfl, rfl, rfl⟩ ⟨rfl, rfl, rfl, rfl, rfl, rfl, rfl, rfl, rfl, rfl⟩ ⟨rfl, rfl, rfl, rfl⟩ ⟨rfl, rfl⟩ rfl rfl rfl

/-- Every writable field, at a value of its range. -/
theorem rwFields_grows : ∀ f ∈ rwFields, ∀ v, between f.min f.max v → ∀ s, Grows 29136276 s (f.set v s) := by
  unfold rwFields
  simp only [List.forall_mem_append, List.forall_mem_cons]
  refine ⟨⟨⟨⟨?_, ?_, ?_, ?_, ?_, ?_, ?_, ?_, ?_, ?_, by simp⟩, ?_, ?_, ?_, ?_, ?_, ?_, ?_, ?_, ?_, by simp⟩, ?_, ?_, ?_, ?_, ?_, ?_, ?_, ?_, ?_, ?_, ?_, by simp⟩, ?_, ?_, ?_, ?_, ?_, ?_, ?_, by simp⟩
  · exact fun _ h s => .set_tick (.refl _ s) rfl (fun ⟨_, a1⟩ => ⟨h, a1⟩)
  · exact fun _ h s => .set_tick (.refl _ s) rfl (fun ⟨a0, _⟩ => ⟨a0, h.2⟩)
  · exact fun _ _ s => .set_tick (.refl _ s) rfl id
  · exact fun _ _ s => .set_tick (.refl _ s) rfl id
  · exact fun _ h s => .set_stream (.refl _ s) rfl (fun ⟨_, a1, a2⟩ => ⟨h, a1, a2⟩)
  · exact fun _ h s => .set_stream (.refl _ s) rfl (fun ⟨a0, _, a2⟩ => ⟨a0, h, a2⟩)
  · exact fun _ h s => .set_stream (.refl _ s) rfl (fun ⟨a0, a1, _⟩ => ⟨a0, a1, h⟩)
  · exact fun _ h s => .set_mem (.refl _ s) rfl rfl (fun ⟨_, a1, a2⟩ => ⟨h, a1, a2⟩)
  · exact fun _ h s => .set_mem (.refl _ s) rfl rfl (fun ⟨a0, _, a2⟩ => ⟨a0, h.2, a2⟩)
  · exact fun _ h s => .set_mem (.refl _ s) rfl rfl (fun ⟨a0, a1, _⟩ => ⟨a0, a1, h.2⟩)
  · exact fun _ h s => .set_red (.refl _ s) rfl (fun ⟨_, a1, a2, a3, a4, a5⟩ => ⟨h, a1, a2, a3, a4, a5⟩)
  · exact fun _ h s => .set_red (.refl _ s) rfl (fun ⟨a0, _, a2, a3, a4, a5⟩ => ⟨a0, h, a2, a3, a4, a5⟩)
  · exact fun _ h s => .set_red (.refl _ s) rfl (fun ⟨a0, a1, _, a3, a4, a5⟩ => ⟨a0, a1, h.2, a3, a4, a5⟩)
  · exact fun _ _ s => (ruleLater_grows _ _ s).mono rfl
  · exact fun _ _ s => (ruleLater_grows _ _ s).mono rfl
  · exact fun _ _ s => (ruleLater_grows _ _ s).mono rfl
  · exact fun _ h s => .set_red (.refl _ s) rfl (fun ⟨a0, a1, a2, a3, _, a5⟩ => ⟨a0, a1, a2, a3, h, a5⟩)
  · exact fun _ h s => (setGross_grows h s).mono rfl
  · exact fun _ _ s => .set_red (.refl _ s) rfl id
  · exact fun _ h s => .set_beam (.refl _ s) rfl (fun ⟨_, a1, a2⟩ => ⟨h.2, a1, a2⟩)
  · exact fun _ h s => .set_beam (.refl _ s) rfl (fun ⟨a0, _, a2⟩ => ⟨a0, h, a2⟩)
  · exact fun _ h s => .set_beam (.refl _ s) rfl (fun ⟨a0, a1, _⟩ => ⟨a0, a1, h⟩)
  · exact fun _ h s => (setRamp_grows h s).mono rfl
  · exact fun _ h s => (setGroupRamp_grows h s).mono rfl
  · exact fun _ h s => by
      split
      · exact .refl _ s
      · exact (setSoftCap_grows h s).mono rfl
  · exact fun _ h s => by
      split
      · exact .refl _ s
      · exact (setHardCap_grows h s).mono rfl
  · exact fun _ h s => .set_power (.refl _ s) rfl (fun ⟨a0, a1, a2, a3, a4, a5, _, a7, a8, a9⟩ => ⟨a0, a1, a2, a3, a4, a5, h, a7, a8, a9⟩)
  · exact fun _ h s => .set_power (.refl _ s) rfl (fun ⟨a0, a1, a2, a3, a4, a5, a6, _, a8, a9⟩ => ⟨a0, a1, a2, a3, a4, a5, a6, h, a8, a9⟩)
  · exact fun _ h s => .set_power (.refl _ s) rfl (fun ⟨a0, a1, a2, a3, a4, a5, a6, a7, _, a9⟩ => ⟨a0, a1, a2, a3, a4, a5, a6, a7, h.2, a9⟩)
  · exact fun _ h s => .set_power (.refl _ s) rfl (fun ⟨a0, a1, a2, a3, a4, a5, a6, a7, a8, _⟩ => ⟨a0, a1, a2, a3, a4, a5, a6, a7, a8, h⟩)
  · exact fun _ h s => .set_grp (.refl _ s) rfl (fun ⟨_, a1, a2, a3⟩ => ⟨h, a1, a2, a3⟩)
  · exact fun _ h s => .set_grp (.refl _ s) rfl (fun ⟨a0, _, a2, a3⟩ => ⟨a0, h, a2, a3⟩)
  · exact fun _ h s => (setReconcile_grows h s).mono rfl
  · exact fun _ h s => .set_snap (.refl _ s) rfl (fun ⟨_, a1⟩ => ⟨h.2, a1⟩)
  · exact fun _ _ s => .set_snap (.refl _ s) rfl id
  · exact fun _ h s => .set_snap (.refl _ s) rfl (fun ⟨a0, _⟩ => ⟨a0, h⟩)
  · exact fun _ h s => .set_flash (.refl _ s) rfl rfl (fun _ => h)

theorem rw_ranges : ∀ f ∈ rwFields, f.min ≤ f.max := by decide

theorem writeField_grows (v) {f : RwField} (hf : f ∈ rwFields) (s : State) : Grows 29136276 s (writeField v f s) := by
  unfold writeField
  dsimp only
  refine ((rwFields_grows f hf _ (clamp_between (rw_ranges f hf)) _).mono rfl).trans' ?_
  split
  · exact (count_grows ..).mono rfl
  · exact Grows.refl _ s

theorem writeBits_grows (x1 x2) (s : State) : Grows 1552 s (writeBits x1 x2 s) := by
  unfold writeBits
  try dsimp only
  repeat' first
    | with_reducible exact Grows.refl _ _
    | (with_reducible apply Grows.step (rearmOp_grows ..)) <;> [exact rfl; skip]
    | (with_reducible apply Grows.step (clearRecord_grows ..)) <;> [exact rfl; skip]
    | (with_reducible apply Grows.ite) <;> intro _
    | dsimp only
    | split
    | refine Grows.upd ?_ (.inr rfl) (.inr rfl) (.inr rfl) (.inr rfl) (.inl rfl) (.inr rfl) (.inr rfl) (.inr rfl) (.inr rfl) (.inl rfl) (.inl rfl) (.inr rfl) (.inr rfl) (.inr rfl) (.inr rfl) (.inr rfl) (.inr rfl) (.inr rfl) (.inr rfl) (.inr rfl) (.inr rfl) (.inr rfl) (.inr rfl) (.inr rfl) (.inr rfl) (.inr rfl) (.inr rfl) (.inr rfl)
        (Nat.le_refl _) (Nat.le_refl _) List.prefix_rfl (by unfold fuses; first | with_reducible rfl | rfl) ⟨rfl, rfl⟩ ⟨rfl, rfl, rfl⟩ ⟨rfl, rfl, rfl⟩ ⟨rfl, rfl, rfl, rfl, rfl, rfl⟩ ⟨rfl, rfl, rfl⟩ ⟨rfl, rfl, rfl, rfl, rfl, rfl, rfl, rfl, rfl, rfl⟩ ⟨rfl, rfl, rfl, rfl⟩ (by refine ⟨?_, ?_⟩ <;> first | with_reducible rfl | rfl) (by unfold flashKept; first | with_reducible rfl | rfl) (by first | with_reducible rfl | rfl) rfl

theorem writeWord_grows (x1 x2) (s : State) : Grows 29136788 s (writeWord x1 x2 s) := by
  unfold writeWord fieldsAt
  refine ((writeBits_grows ..).mono rfl).trans' ?_
  unfold each
  suffices h : ∀ l : List RwField, (∀ f ∈ l, f ∈ rwFields) → ∀ u, Grows 29136788 s u →
      Grows 29136788 s (l.foldl (fun st a => writeField x2 a st) u) from
    h _ (fun f hf => (List.mem_filter.mp hf).1) s (.refl _ s)
  intro l
  induction l with
  | nil => exact fun _ _ k => k
  | cons f l ih =>
    exact fun hl u k => ih (fun g hg => hl g (by simp [hg])) _ (k.trans ((writeField_grows _ (hl f (by simp)) u).mono rfl))

end Sys2Proof.Machine
end

