-- ==== Sys2Proof/Laws/GrowsCommand.lean ====
section
/-! SUPPORT. What each operation of Machine/Command.lean does to the state, in the form of `Grows`. -/

namespace Sys2Proof.Machine

theorem leadDetail_grows (s : State) : Grows 2 s (leadDetail s).2 := by
  unfold leadDetail
  try dsimp only
  repeat' first
    | with_reducible exact Grows.refl _ _
    | (with_reducible apply Grows.step (drawFree_grows ..)) <;> [exact rfl; skip]
    | (with_reducible apply Grows.step (drawFree_out (by assumption))) <;> [exact rfl; skip]
    | (with_reducible apply Grows.ite) <;> intro _
    | dsimp only
    | split

theorem leadDetail_out {s t : State} {y} (h : leadDetail s = (y, t)) : Grows 2 s t := by
  have := leadDetail_grows s; rw [h] at this; exact this

theorem admission_out {h : CmdHdr} {b : CmdBody} {s : State} {r : Refused} (e : admission h b s = some r) :
    Grows 2 s r.st := by
  unfold admission at e
  repeat' (first | contradiction | split at e)
  all_goals cases e
  all_goals first | exact Grows.refl _ _ | exact leadDetail_grows s

theorem command_grows {m : Nat} {s t : State} {h' : CmdHdr} {b : CmdBody} {act : State → State} (hm : 8913030 ||| m = m) (h : Grows m s t)
    (ha : ∀ u, Grows m u (act u)) : Grows m s (command h' b act t) := by
  unfold command
  try dsimp only
  repeat' first
    | exact h
    | with_reducible refine Grows.trans ?_ (ha _)
    | with_reducible exact Grows.refl _ _
    | (with_reducible apply Grows.step2 (M := 8913030) (admission_out (by assumption))) <;> [exact rfl; exact hm; skip]
    | with_reducible apply Grows.whenReady
    | (with_reducible apply Grows.step2 (M := 8913030) (leadDetail_grows ..)) <;> [exact rfl; exact hm; skip]
    | (with_reducible apply Grows.step2 (M := 8913030) (refuse_grows ..)) <;> [exact rfl; exact hm; skip]
    | (with_reducible apply Grows.step2 (M := 8913030) (reply_grows ..)) <;> [exact rfl; exact hm; skip]
    | (with_reducible apply Grows.ite) <;> intro _
    | dsimp only
    | split

theorem owe_grows (x1 x2) (s : State) : Grows 8388608 s (owe x1 x2 s) := by
  unfold owe
  try dsimp only
  repeat' first
    | with_reducible exact Grows.refl _ _
    | (with_reducible apply Grows.ite) <;> intro _
    | dsimp only
    | split
    | refine Grows.upd ?_ (.inr rfl) (.inr rfl) (.inr rfl) (.inr rfl) (.inr rfl) (.inr rfl) (.inr rfl) (.inr rfl) (.inr rfl) (.inr rfl) (.inr rfl) (.inr rfl) (.inr rfl) (.inr rfl) (.inr rfl) (.inr rfl) (.inr rfl) (.inr rfl) (.inr rfl) (.inr rfl) (.inr rfl) (.inr rfl) (.inr rfl) (.inl rfl) (.inr rfl) (.inr rfl) (.inr rfl) (.inr rfl)
        (Nat.le_refl _) (Nat.le_refl _) List.prefix_rfl rfl ⟨rfl, rfl⟩ ⟨rfl, rfl, rfl⟩ ⟨rfl, rfl, rfl⟩ ⟨rfl, rfl, rfl, rfl, rfl, rfl⟩ ⟨rfl, rfl, rfl⟩ ⟨rfl, rfl, rfl, rfl, rfl, rfl, rfl, rfl, rfl, rfl⟩ ⟨rfl, rfl, rfl, rfl⟩ ⟨rfl, rfl⟩ rfl rfl rfl

theorem within_between {lo hi v : Nat} (h : within lo hi v = true) : between lo hi v := by
  simpa [within] using h

theorem badParam_none {b : CmdBody} {cs : List (Nat × Bool)} (h : badParam b cs = none) : ∀ c ∈ cs, c.2 = true := by
  simpa [badParam, List.find?_eq_none] using h

theorem checked_grows {m : Nat} {s t : State} {h' : CmdHdr} {b : CmdBody} {cs : List (Nat × Bool)} {act : State → State}
    (hm : 8913028 ||| m = m) (h : Grows m s t) (ha : (∀ c ∈ cs, c.2 = true) → ∀ u, Grows m u (act u)) :
    Grows m s (checked h' b cs act t) := by
  unfold checked
  split
  · exact .step2 (M := 8913028) (refuse_grows ..) rfl hm h
  · exact h.trans (ha (badParam_none ‹_›) t)

theorem refuseBusy_grows (x1) (s : State) : Grows 8913030 s (refuseBusy x1 s) := by
  unfold refuseBusy
  try dsimp only
  repeat' first
    | with_reducible exact Grows.refl _ _
    | (with_reducible apply Grows.step (drawFree_grows ..)) <;> [exact rfl; skip]
    | (with_reducible apply Grows.step (drawFree_out (by assumption))) <;> [exact rfl; skip]
    | (with_reducible apply Grows.step (refuse_grows ..)) <;> [exact rfl; skip]
    | (with_reducible apply Grows.ite) <;> intro _
    | dsimp only
    | split

theorem distribute_grows (x1 x2) (s : State) : Grows 4 s (distribute x1 x2 s) := by
  unfold distribute
  try dsimp only
  repeat' first
    | with_reducible exact Grows.refl _ _
    | (with_reducible apply Grows.step (emit_grows ..)) <;> [exact rfl; skip]
    | (with_reducible apply Grows.ite) <;> intro _
    | dsimp only
    | split

end Sys2Proof.Machine
end

