-- ==== Sys2Proof/Laws/GrowsService.lean ====
section
/-! SUPPORT. What each operation of Machine/Service.lean does to the state, in the form of `Grows`. -/

namespace Sys2Proof.Machine

theorem capSetOp_grows (x1 x2 x3) (s : State) : Grows 8913284 s (capSetOp x1 x2 x3 s) := by
  unfold capSetOp
  refine checked_grows rfl (.refl _ s) fun hc u => ?_
  have hv := within_between (hc _ (List.mem_singleton.mpr rfl))
  refine .step (done_grows ..) rfl ?_
  split
  · exact (setHardCap_grows hv _).mono rfl
  · exact (setSoftCap_grows hv _).mono rfl

theorem rampSetOp_grows (x1 x2) (s : State) : Grows 8913284 s (rampSetOp x1 x2 s) := by
  unfold rampSetOp
  refine checked_grows rfl (.refl _ s) fun hc u => ?_
  have hv := within_between (hc _ (List.mem_singleton.mpr rfl))
  exact .step (done_grows ..) rfl ((setRamp_grows hv _).mono rfl)

theorem heartbeatCmd_grows (x1 x2) (s : State) : Grows 8913284 s (heartbeatCmd x1 x2 s) := by
  unfold heartbeatCmd
  try dsimp only
  repeat' first
    | with_reducible exact Grows.refl _ _
    | (with_reducible apply Grows.step (done_grows ..)) <;> [exact rfl; skip]
    | (with_reducible apply Grows.step (heartbeatOp_grows ..)) <;> [exact rfl; skip]
    | (with_reducible apply Grows.ite) <;> intro _
    | dsimp only
    | split
    | dsimp only [id]

theorem safeCapOp_grows (x1 x2) (s : State) : Grows 8913284 s (safeCapOp x1 x2 s) := by
  unfold safeCapOp
  refine checked_grows rfl (.refl _ s) fun hc u => ?_
  have hv := within_between (hc _ (List.mem_singleton.mpr rfl))
  exact .step (done_grows ..) rfl (.set_power (.refl _ u) rfl (fun ⟨a0, a1, a2, a3, a4, a5, _, a7, a8, a9⟩ => ⟨a0, a1, a2, a3, a4, a5, hv, a7, a8, a9⟩))

theorem glowFloorOp_grows (x1 x2) (s : State) : Grows 8913284 s (glowFloorOp x1 x2 s) := by
  unfold glowFloorOp
  refine checked_grows rfl (.refl _ s) fun hc u => ?_
  have hv := of_decide_eq_true (hc _ (List.mem_singleton.mpr rfl))
  exact .step (done_grows ..) rfl (.set_power (.refl _ u) rfl (fun ⟨a0, a1, a2, a3, a4, a5, a6, a7, _, a9⟩ => ⟨a0, a1, a2, a3, a4, a5, a6, a7, hv, a9⟩))

theorem powerStatusOp_grows (x1) (s : State) : Grows 8913028 s (powerStatusOp x1 s) := by
  unfold powerStatusOp
  try dsimp only
  repeat' first
    | with_reducible exact Grows.refl _ _
    | (with_reducible apply Grows.step (done_grows ..)) <;> [exact rfl; skip]
    | (with_reducible apply Grows.ite) <;> intro _
    | dsimp only
    | split

theorem faultReadOp_grows (x1 x2 x3) (s : State) : Grows 8913028 s (faultReadOp x1 x2 x3 s) := by
  unfold faultReadOp
  try dsimp only
  repeat' first
    | with_reducible exact Grows.refl _ _
    | (with_reducible apply checked_grows) <;> [exact rfl; skip; intro _ _]
    | (with_reducible apply Grows.step (done_grows ..)) <;> [exact rfl; skip]
    | (with_reducible apply Grows.ite) <;> intro _
    | dsimp only
    | split

theorem faultClearOp_grows (x1 x2) (s : State) : Grows 8913540 s (faultClearOp x1 x2 s) := by
  unfold faultClearOp
  try dsimp only
  repeat' first
    | with_reducible exact Grows.refl _ _
    | (with_reducible apply Grows.step (done_grows ..)) <;> [exact rfl; skip]
    | (with_reducible apply Grows.each) <;> [skip; intro _ _]
    | (with_reducible apply Grows.step (clearRecord_grows ..)) <;> [exact rfl; skip]
    | (with_reducible apply Grows.ite) <;> intro _
    | dsimp only
    | split

theorem fieldReturnOp_grows (x1 x2) (s : State) : Grows 8978564 s (fieldReturnOp x1 x2 s) := by
  unfold fieldReturnOp
  try dsimp only
  repeat' first
    | with_reducible exact Grows.refl _ _
    | (with_reducible apply Grows.step (refuse_grows ..)) <;> [exact rfl; skip]
    | (with_reducible apply checked_grows) <;> [exact rfl; skip; intro _ _]
    | (with_reducible apply Grows.step (owe_grows ..)) <;> [exact rfl; skip]
    | (with_reducible apply Grows.step (setField_grows ..)) <;> [exact rfl; skip]
    | (with_reducible apply Grows.ite) <;> intro _
    | dsimp only
    | split

theorem shutterFireOp_grows (x1 x2) (s : State) : Grows 25691270 s (shutterFireOp x1 x2 s) := by
  unfold shutterFireOp
  try dsimp only
  repeat' first
    | with_reducible exact Grows.refl _ _
    | (with_reducible apply Grows.step (leadDetail_grows ..)) <;> [exact rfl; skip]
    | (with_reducible apply Grows.step (leadDetail_out (by assumption))) <;> [exact rfl; skip]
    | (with_reducible apply Grows.step (refuse_grows ..)) <;> [exact rfl; skip]
    | (with_reducible apply Grows.step (done_grows ..)) <;> [exact rfl; skip]
    | (with_reducible apply Grows.step (fireShutter_grows ..)) <;> [exact rfl; skip]
    | (with_reducible apply Grows.step (fireGroup_grows ..)) <;> [exact rfl; skip]
    | (with_reducible apply Grows.ite) <;> intro _
    | dsimp only
    | split

theorem snapshotReadOp_grows (x1 x2 x3 x4 x5) (s : State) : Grows 8913030 s (snapshotReadOp x1 x2 x3 x4 x5 s) := by
  unfold snapshotReadOp
  try dsimp only
  repeat' first
    | with_reducible exact Grows.refl _ _
    | (with_reducible apply Grows.step (refuseBusy_grows ..)) <;> [exact rfl; skip]
    | (with_reducible apply checked_grows) <;> [exact rfl; skip; intro _ _]
    | (with_reducible apply Grows.step (done_grows ..)) <;> [exact rfl; skip]
    | (with_reducible apply Grows.ite) <;> intro _
    | dsimp only
    | split

theorem countersReadOp_grows (x1 x2 x3) (s : State) : Grows 8913028 s (countersReadOp x1 x2 x3 s) := by
  unfold countersReadOp
  try dsimp only
  repeat' first
    | with_reducible exact Grows.refl _ _
    | (with_reducible apply checked_grows) <;> [exact rfl; skip; intro _ _]
    | (with_reducible apply Grows.step (done_grows ..)) <;> [exact rfl; skip]
    | (with_reducible apply Grows.ite) <;> intro _
    | dsimp only
    | split

theorem journalReadOp_grows (x1 x2 x3) (s : State) : Grows 8913028 s (journalReadOp x1 x2 x3 s) := by
  unfold journalReadOp
  try dsimp only
  repeat' first
    | with_reducible exact Grows.refl _ _
    | (with_reducible apply checked_grows) <;> [exact rfl; skip; intro _ _]
    | (with_reducible apply Grows.step (done_grows ..)) <;> [exact rfl; skip]
    | (with_reducible apply Grows.ite) <;> intro _
    | dsimp only
    | split

theorem bootJournalReadOp_grows (x1 x2 x3) (s : State) : Grows 8913028 s (bootJournalReadOp x1 x2 x3 s) := by
  unfold bootJournalReadOp
  try dsimp only
  repeat' first
    | with_reducible exact Grows.refl _ _
    | (with_reducible apply checked_grows) <;> [exact rfl; skip; intro _ _]
    | (with_reducible apply Grows.step (done_grows ..)) <;> [exact rfl; skip]
    | (with_reducible apply Grows.ite) <;> intro _
    | dsimp only
    | split

theorem attestOp_grows (x1 x2) (s : State) : Grows 8913028 s (attestOp x1 x2 s) := by
  unfold attestOp
  try dsimp only
  repeat' first
    | with_reducible exact Grows.refl _ _
    | (with_reducible apply checked_grows) <;> [exact rfl; skip; intro _ _]
    | (with_reducible apply Grows.step (done_grows ..)) <;> [exact rfl; skip]
    | (with_reducible apply Grows.ite) <;> intro _
    | dsimp only
    | split

theorem noteOrder_grows (x1 x2 x3) (s : State) : Grows 16 s (noteOrder x1 x2 x3 s) := by
  unfold noteOrder
  try dsimp only
  repeat' first
    | with_reducible exact Grows.refl _ _
    | (with_reducible apply Grows.ite) <;> intro _
    | dsimp only
    | split
    | refine Grows.upd ?_ (.inr rfl) (.inr rfl) (.inr rfl) (.inr rfl) (.inl rfl) (.inr rfl) (.inr rfl) (.inr rfl) (.inr rfl) (.inr rfl) (.inr rfl) (.inr rfl) (.inr rfl) (.inr rfl) (.inr rfl) (.inr rfl) (.inr rfl) (.inr rfl) (.inr rfl) (.inr rfl) (.inr rfl) (.inr rfl) (.inr rfl) (.inr rfl) (.inr rfl) (.inr rfl) (.inr rfl) (.inr rfl)
        (Nat.le_refl _) (Nat.le_refl _) List.prefix_rfl (by unfold fuses; first | with_reducible rfl | rfl) ⟨rfl, rfl⟩ ⟨rfl, rfl, rfl⟩ ⟨rfl, rfl, rfl⟩ ⟨rfl, rfl, rfl, rfl, rfl, rfl⟩ ⟨rfl, rfl, rfl⟩ ⟨rfl, rfl, rfl, rfl, rfl, rfl, rfl, rfl, rfl, rfl⟩ ⟨rfl, rfl, rfl, rfl⟩ ⟨rfl, rfl⟩ (by unfold flashKept; first | with_reducible rfl | rfl) rfl rfl

theorem stageWrite_grows (x1 x2 x3) (s : State) : Grows 48 s (stageWrite x1 x2 x3 s) := by
  unfold stageWrite
  try dsimp only
  repeat' first
    | with_reducible exact Grows.refl _ _
    | (with_reducible apply Grows.step (journalEntry_grows ..)) <;> [exact rfl; skip]
    | (with_reducible apply Grows.step (noteOrder_grows ..)) <;> [exact rfl; skip]
    | (with_reducible apply Grows.ite) <;> intro _
    | dsimp only
    | split
    | refine Grows.upd ?_ (.inr rfl) (.inr rfl) (.inr rfl) (.inr rfl) (.inl rfl) (.inl rfl) (.inr rfl) (.inr rfl) (.inr rfl) (.inr rfl) (.inr rfl) (.inr rfl) (.inr rfl) (.inr rfl) (.inr rfl) (.inr rfl) (.inr rfl) (.inr rfl) (.inr rfl) (.inr rfl) (.inr rfl) (.inr rfl) (.inr rfl) (.inr rfl) (.inr rfl) (.inr rfl) (.inr rfl) (.inr rfl)
        (Nat.le_refl _) (Nat.le_refl _) List.prefix_rfl (by unfold fuses; first | with_reducible rfl | rfl) ⟨rfl, rfl⟩ ⟨rfl, rfl, rfl⟩ ⟨rfl, rfl, rfl⟩ ⟨rfl, rfl, rfl, rfl, rfl, rfl⟩ ⟨rfl, rfl, rfl⟩ ⟨rfl, rfl, rfl, rfl, rfl, rfl, rfl, rfl, rfl, rfl⟩ ⟨rfl, rfl, rfl, rfl⟩ ⟨rfl, rfl⟩ (by unfold flashKept; first | with_reducible rfl | rfl) rfl rfl

theorem flashWriteOp_grows (x1 x2 x3 x4) (s : State) : Grows 8913076 s (flashWriteOp x1 x2 x3 x4 s) := by
  unfold flashWriteOp
  try dsimp only
  repeat' first
    | with_reducible exact Grows.refl _ _
    | (with_reducible apply checked_grows) <;> [exact rfl; skip; intro _ _]
    | (with_reducible apply Grows.step (refuse_grows ..)) <;> [exact rfl; skip]
    | (with_reducible apply Grows.step (done_grows ..)) <;> [exact rfl; skip]
    | (with_reducible apply Grows.step (stageWrite_grows ..)) <;> [exact rfl; skip]
    | (with_reducible apply Grows.ite) <;> intro _
    | dsimp only
    | split
    | refine Grows.upd ?_ (.inr rfl) (.inr rfl) (.inl rfl) (.inr rfl) (.inl rfl) (.inl rfl) (.inr rfl) (.inl rfl) (.inr rfl) (.inr rfl) (.inr rfl) (.inr rfl) (.inr rfl) (.inr rfl) (.inr rfl) (.inr rfl) (.inr rfl) (.inr rfl) (.inr rfl) (.inl rfl) (.inr rfl) (.inr rfl) (.inr rfl) (.inl rfl) (.inr rfl) (.inr rfl) (.inr rfl) (.inr rfl)
        (Nat.le_refl _) (Nat.le_refl _) List.prefix_rfl (by unfold fuses; first | with_reducible rfl | rfl) ⟨rfl, rfl⟩ ⟨rfl, rfl, rfl⟩ (by refine ⟨?_, ?_, ?_⟩ <;> first | with_reducible rfl | rfl) ⟨rfl, rfl, rfl, rfl, rfl, rfl⟩ ⟨rfl, rfl, rfl⟩ ⟨rfl, rfl, rfl, rfl, rfl, rfl, rfl, rfl, rfl, rfl⟩ ⟨rfl, rfl, rfl, rfl⟩ ⟨rfl, rfl⟩ (by unfold flashKept; first | with_reducible rfl | rfl) rfl (by first | with_reducible rfl | rfl)

theorem bundleVerifyOp_grows (x1 x2) (s : State) : Grows 8388608 s (bundleVerifyOp x1 x2 s) := by
  unfold bundleVerifyOp
  try dsimp only
  repeat' first
    | with_reducible exact Grows.refl _ _
    | (with_reducible apply Grows.step (owe_grows ..)) <;> [exact rfl; skip]
    | (with_reducible apply Grows.ite) <;> intro _
    | dsimp only
    | split

theorem bundleActivateOp_grows (x1 x2) (s : State) : Grows 8913044 s (bundleActivateOp x1 x2 s) := by
  unfold bundleActivateOp
  try dsimp only
  repeat' first
    | with_reducible exact Grows.refl _ _
    | (with_reducible apply checked_grows) <;> [exact rfl; skip; intro _ _]
    | (with_reducible apply Grows.step (done_grows ..)) <;> [exact rfl; skip]
    | (with_reducible apply Grows.step (journalEntry_grows ..)) <;> [exact rfl; skip]
    | (with_reducible apply Grows.ite) <;> intro _
    | dsimp only
    | split

theorem resetOp_grows (x1) (s : State) : Grows 268433396 s (resetOp x1 s) := by
  unfold resetOp
  try dsimp only
  repeat' first
    | with_reducible exact Grows.refl _ _
    | (with_reducible apply Grows.step (refuse_grows ..)) <;> [exact rfl; skip]
    | (with_reducible apply Grows.step (journalEntry_grows ..)) <;> [exact rfl; skip]
    | (with_reducible apply Grows.step (resetModule_grows ..)) <;> [exact rfl; skip]
    | (with_reducible apply Grows.step (done_grows ..)) <;> [exact rfl; skip]
    | (with_reducible apply Grows.ite) <;> intro _
    | dsimp only
    | split

end Sys2Proof.Machine
end

