-- ==== Sys2Proof/Laws/GrowsContexts.lean ====
section
/-! SUPPORT. What each operation of Machine/Contexts.lean does to the state, in the form of `Grows`. -/

namespace Sys2Proof.Machine

theorem contextOpenOp_grows (x1 x2) (s : State) : Grows 8913028 s (contextOpenOp x1 x2 s) := by
  unfold contextOpenOp
  try dsimp only
  repeat' first
    | with_reducible exact Grows.refl _ _
    | (with_reducible apply Grows.step (refuse_grows ..)) <;> [exact rfl; skip]
    | (with_reducible apply checked_grows) <;> [exact rfl; skip; intro _ _]
    | (with_reducible apply Grows.step (done_grows ..)) <;> [exact rfl; skip]
    | (with_reducible apply Grows.step (setCtx_grows ..)) <;> [exact rfl; skip]
    | (with_reducible apply Grows.ite) <;> intro _
    | dsimp only
    | split

theorem contextCloseOp_grows (x1) (s : State) : Grows 8913028 s (contextCloseOp x1 s) := by
  unfold contextCloseOp
  try dsimp only
  repeat' first
    | with_reducible exact Grows.refl _ _
    | (with_reducible apply Grows.step (done_grows ..)) <;> [exact rfl; skip]
    | (with_reducible apply Grows.step (closeContext_grows ..)) <;> [exact rfl; skip]
    | (with_reducible apply Grows.ite) <;> intro _
    | dsimp only
    | split

theorem setRuleNow_grows (x1 x2 x3) (s : State) : Grows 9437184 s (setRuleNow x1 x2 x3 s) := by
  unfold setRuleNow
  try dsimp only
  repeat' first
    | with_reducible exact Grows.refl _ _
    | (with_reducible apply atBoundary_grows) <;> [exact rfl; skip; intro _; intro _]
    | (with_reducible apply Grows.step (applyRule_grows ..)) <;> [exact rfl; skip]
    | (with_reducible apply Grows.ite) <;> intro _
    | dsimp only
    | split
    | refine Grows.upd ?_ (.inr rfl) (.inr rfl) (.inr rfl) (.inr rfl) (.inr rfl) (.inr rfl) (.inr rfl) (.inr rfl) (.inr rfl) (.inr rfl) (.inr rfl) (.inr rfl) (.inr rfl) (.inr rfl) (.inr rfl) (.inr rfl) (.inr rfl) (.inr rfl) (.inr rfl) (.inr rfl) (.inl rfl) (.inr rfl) (.inr rfl) (.inl rfl) (.inr rfl) (.inr rfl) (.inr rfl) (.inr rfl)
        (Nat.le_refl _) (Nat.le_refl _) List.prefix_rfl rfl ⟨rfl, rfl⟩ ⟨rfl, rfl, rfl⟩ ⟨rfl, rfl, rfl⟩ (by refine ⟨?_, ?_, ?_, ?_, ?_, ?_⟩ <;> first | with_reducible rfl | rfl) ⟨rfl, rfl, rfl⟩ ⟨rfl, rfl, rfl, rfl, rfl, rfl, rfl, rfl, rfl, rfl⟩ ⟨rfl, rfl, rfl, rfl⟩ ⟨rfl, rfl⟩ rfl rfl rfl

theorem setRuleOp_grows (x1 x2 x3 x4) (s : State) : Grows 9961604 s (setRuleOp x1 x2 x3 x4 s) := by
  unfold setRuleOp
  try dsimp only
  repeat' first
    | with_reducible exact Grows.refl _ _
    | (with_reducible apply Grows.step (setRuleNow_grows ..)) <;> [exact rfl; skip]
    | (with_reducible apply Grows.step (refuse_grows ..)) <;> [exact rfl; skip]
    | (with_reducible apply checked_grows) <;> [exact rfl; skip; intro _ _]
    | (with_reducible apply Grows.step (done_grows ..)) <;> [exact rfl; skip]
    | (with_reducible apply Grows.step (distribute_grows ..)) <;> [exact rfl; skip]
    | (with_reducible apply Grows.ite) <;> intro _
    | dsimp only
    | split

theorem batchReadyOp_grows (x1 x2 x3) (s : State) : Grows 8913028 s (batchReadyOp x1 x2 x3 s) := by
  unfold batchReadyOp
  try dsimp only
  repeat' first
    | with_reducible exact Grows.refl _ _
    | (with_reducible apply Grows.step (refuse_grows ..)) <;> [exact rfl; skip]
    | (with_reducible apply checked_grows) <;> [exact rfl; skip; intro _ _]
    | (with_reducible apply Grows.step (setCtx_grows ..)) <;> [exact rfl; skip]
    | (with_reducible apply Grows.step (done_grows ..)) <;> [exact rfl; skip]
    | (with_reducible apply Grows.step (owe_grows ..)) <;> [exact rfl; skip]
    | (with_reducible apply Grows.step (reply_grows ..)) <;> [exact rfl; skip]
    | (with_reducible apply Grows.ite) <;> intro _
    | dsimp only
    | split

theorem requestOp_grows (x1 x2) (s : State) : Grows 8913028 s (requestOp x1 x2 s) := by
  unfold requestOp
  try dsimp only
  repeat' first
    | with_reducible exact Grows.refl _ _
    | (with_reducible apply Grows.step (refuse_grows ..)) <;> [exact rfl; skip]
    | (with_reducible apply checked_grows) <;> [exact rfl; skip; intro _ _]
    | (with_reducible apply Grows.step (admitRequest_grows ..)) <;> [exact rfl; skip]
    | (with_reducible apply Grows.ite) <;> intro _
    | dsimp only
    | split

theorem cancelOp_grows (x1 x2) (s : State) : Grows 8913028 s (cancelOp x1 x2 s) := by
  unfold cancelOp
  try dsimp only
  repeat' first
    | with_reducible exact Grows.refl _ _
    | (with_reducible apply Grows.step (refuse_grows ..)) <;> [exact rfl; skip]
    | (with_reducible apply Grows.step (done_grows ..)) <;> [exact rfl; skip]
    | (with_reducible apply Grows.step (endRequests_grows ..)) <;> [exact rfl; skip]
    | (with_reducible apply Grows.step (setCtx_grows ..)) <;> [exact rfl; skip]
    | (with_reducible apply Grows.ite) <;> intro _
    | dsimp only
    | split

theorem pendEpoch_grows (x1) (s : State) : Grows 9175172 s (pendEpoch x1 s) := by
  unfold pendEpoch
  try dsimp only
  repeat' first
    | with_reducible exact Grows.refl _ _
    | (with_reducible apply Grows.step (finish_grows ..)) <;> [exact rfl; skip]
    | (with_reducible apply Grows.ite) <;> intro _
    | dsimp only
    | split
    | refine Grows.upd ?_ (.inr rfl) (.inr rfl) (.inl rfl) (.inr rfl) (.inr rfl) (.inr rfl) (.inr rfl) (.inl rfl) (.inr rfl) (.inr rfl) (.inr rfl) (.inr rfl) (.inr rfl) (.inr rfl) (.inr rfl) (.inr rfl) (.inr rfl) (.inr rfl) (.inl rfl) (.inl rfl) (.inr rfl) (.inr rfl) (.inr rfl) (.inl rfl) (.inr rfl) (.inr rfl) (.inr rfl) (.inr rfl)
        (Nat.le_refl _) (Nat.le_refl _) List.prefix_rfl rfl ⟨rfl, rfl⟩ (by refine ⟨?_, ?_, ?_⟩ <;> first | with_reducible rfl | rfl) (by refine ⟨?_, ?_, ?_⟩ <;> first | with_reducible rfl | rfl) ⟨rfl, rfl, rfl, rfl, rfl, rfl⟩ ⟨rfl, rfl, rfl⟩ ⟨rfl, rfl, rfl, rfl, rfl, rfl, rfl, rfl, rfl, rfl⟩ ⟨rfl, rfl, rfl, rfl⟩ ⟨rfl, rfl⟩ rfl rfl (by first | with_reducible rfl | rfl)

theorem epochSwitchOp_grows (x1 x2) (s : State) : Grows 9175172 s (epochSwitchOp x1 x2 s) := by
  unfold epochSwitchOp
  try dsimp only
  repeat' first
    | with_reducible exact Grows.refl _ _
    | (with_reducible apply Grows.step (pendEpoch_grows ..)) <;> [exact rfl; skip]
    | (with_reducible apply Grows.step (refuse_grows ..)) <;> [exact rfl; skip]
    | (with_reducible apply checked_grows) <;> [exact rfl; skip; intro _ _]
    | (with_reducible apply Grows.step (owe_grows ..)) <;> [exact rfl; skip]
    | (with_reducible apply Grows.step (distribute_grows ..)) <;> [exact rfl; skip]
    | (with_reducible apply Grows.ite) <;> intro _
    | dsimp only
    | split

theorem epochWithdrawOp_grows (x1) (s : State) : Grows 9175172 s (epochWithdrawOp x1 s) := by
  unfold epochWithdrawOp
  try dsimp only
  repeat' first
    | with_reducible exact Grows.refl _ _
    | (with_reducible apply Grows.step (refuse_grows ..)) <;> [exact rfl; skip]
    | (with_reducible apply Grows.step (done_grows ..)) <;> [exact rfl; skip]
    | (with_reducible apply Grows.step (owe_grows ..)) <;> [exact rfl; skip]
    | (with_reducible apply Grows.step (distribute_grows ..)) <;> [exact rfl; skip]
    | (with_reducible apply Grows.ite) <;> intro _
    | dsimp only
    | split
    | refine Grows.upd ?_ (.inr rfl) (.inr rfl) (.inl rfl) (.inr rfl) (.inr rfl) (.inr rfl) (.inr rfl) (.inl rfl) (.inr rfl) (.inr rfl) (.inr rfl) (.inr rfl) (.inr rfl) (.inr rfl) (.inr rfl) (.inr rfl) (.inr rfl) (.inr rfl) (.inl rfl) (.inl rfl) (.inr rfl) (.inr rfl) (.inr rfl) (.inl rfl) (.inr rfl) (.inr rfl) (.inr rfl) (.inr rfl)
        (Nat.le_refl _) (Nat.le_refl _) List.prefix_rfl rfl ⟨rfl, rfl⟩ (by refine ⟨?_, ?_, ?_⟩ <;> first | with_reducible rfl | rfl) (by refine ⟨?_, ?_, ?_⟩ <;> first | with_reducible rfl | rfl) ⟨rfl, rfl, rfl, rfl, rfl, rfl⟩ ⟨rfl, rfl, rfl⟩ ⟨rfl, rfl, rfl, rfl, rfl, rfl, rfl, rfl, rfl, rfl⟩ ⟨rfl, rfl, rfl, rfl⟩ ⟨rfl, rfl⟩ rfl rfl (by first | with_reducible rfl | rfl)

theorem streamLimitsOp_grows (x1 x2 x3) (s : State) : Grows 9175172 s (streamLimitsOp x1 x2 x3 s) := by
  unfold streamLimitsOp
  try dsimp only
  repeat' first
    | with_reducible exact Grows.refl _ _
    | (with_reducible apply Grows.step (refuse_grows ..)) <;> [exact rfl; skip]
    | (with_reducible apply checked_grows) <;> [exact rfl; skip; intro _ _]
    | (with_reducible apply Grows.step (done_grows ..)) <;> [exact rfl; skip]
    | (with_reducible apply Grows.step (distribute_grows ..)) <;> [exact rfl; skip]
    | (with_reducible apply Grows.ite) <;> intro _
    | dsimp only
    | split
    | refine Grows.updLegal ?_ (.inr rfl) (.inr rfl) (.inl rfl) (.inr rfl) (.inr rfl) (.inr rfl) (.inr rfl) (.inl rfl) (.inr rfl) (.inr rfl) (.inr rfl) (.inr rfl) (.inr rfl) (.inr rfl) (.inr rfl) (.inr rfl) (.inr rfl) (.inr rfl) (.inl rfl) (.inl rfl) (.inr rfl) (.inr rfl) (.inr rfl) (.inl rfl) (.inr rfl) (.inr rfl) (.inr rfl) (.inr rfl)
        (Nat.le_refl _) (Nat.le_refl _) List.prefix_rfl rfl (tickKept.inRange ⟨rfl, rfl⟩) (fun ⟨a, _, _⟩ => ⟨a, clamp_between (by decide), clamp_between (by decide)⟩) (memoryKept.inRange ⟨rfl, rfl, rfl⟩) (reduceKept.inRange ⟨rfl, rfl, rfl, rfl, rfl, rfl⟩) (beamKept.inRange ⟨rfl, rfl, rfl⟩) (powerKept.inRange ⟨rfl, rfl, rfl, rfl, rfl, rfl, rfl, rfl, rfl, rfl⟩) (groupKept.inRange ⟨rfl, rfl, rfl, rfl⟩) (snapKept.inRange ⟨rfl, rfl⟩) (flashKept.inRange rfl) id id
    | refine Grows.upd ?_ (.inr rfl) (.inr rfl) (.inl rfl) (.inr rfl) (.inr rfl) (.inr rfl) (.inr rfl) (.inl rfl) (.inr rfl) (.inr rfl) (.inr rfl) (.inr rfl) (.inr rfl) (.inr rfl) (.inr rfl) (.inr rfl) (.inr rfl) (.inr rfl) (.inl rfl) (.inl rfl) (.inr rfl) (.inr rfl) (.inr rfl) (.inl rfl) (.inr rfl) (.inr rfl) (.inr rfl) (.inr rfl)
        (Nat.le_refl _) (Nat.le_refl _) List.prefix_rfl rfl ⟨rfl, rfl⟩ (by refine ⟨?_, ?_, ?_⟩ <;> first | with_reducible rfl | rfl) (by refine ⟨?_, ?_, ?_⟩ <;> first | with_reducible rfl | rfl) ⟨rfl, rfl, rfl, rfl, rfl, rfl⟩ ⟨rfl, rfl, rfl⟩ ⟨rfl, rfl, rfl, rfl, rfl, rfl, rfl, rfl, rfl, rfl⟩ ⟨rfl, rfl, rfl, rfl⟩ ⟨rfl, rfl⟩ rfl rfl (by first | with_reducible rfl | rfl)

theorem streamStatusOp_grows (x1) (s : State) : Grows 8913028 s (streamStatusOp x1 s) := by
  unfold streamStatusOp
  try dsimp only
  repeat' first
    | with_reducible exact Grows.refl _ _
    | (with_reducible apply Grows.step (done_grows ..)) <;> [exact rfl; skip]
    | (with_reducible apply Grows.ite) <;> intro _
    | dsimp only
    | split

end Sys2Proof.Machine
end

