-- ==== Sys2Proof/Laws/GrowsHost.lean ====
section
/-! SUPPORT. What each operation of Machine/Host.lean does to the state, in the form of `Grows`. -/

namespace Sys2Proof.Machine

theorem runBody_grows (x1 x2) (s : State) : Grows 268433398 s (runBody x1 x2 s) := by
  unfold runBody
  try dsimp only
  repeat' first
    | with_reducible exact Grows.refl _ _
    | (with_reducible apply command_grows) <;> [exact rfl; skip; intro _]
    | (with_reducible apply Grows.step (identifyOp_grows ..)) <;> [exact rfl; skip]
    | (with_reducible apply Grows.step (sizeTableOp_grows ..)) <;> [exact rfl; skip]
    | (with_reducible apply Grows.step (setNetOp_grows ..)) <;> [exact rfl; skip]
    | (with_reducible apply Grows.step (ringCreateOp_grows ..)) <;> [exact rfl; skip]
    | (with_reducible apply Grows.step (ringDestroyOp_grows ..)) <;> [exact rfl; skip]
    | (with_reducible apply Grows.step (mrRegisterOp_grows ..)) <;> [exact rfl; skip]
    | (with_reducible apply Grows.step (mrRevokeOp_grows ..)) <;> [exact rfl; skip]
    | (with_reducible apply Grows.step (qpCreateOp_grows ..)) <;> [exact rfl; skip]
    | (with_reducible apply Grows.step (qpDestroyOp_grows ..)) <;> [exact rfl; skip]
    | (with_reducible apply Grows.step (jobConfigureOp_grows ..)) <;> [exact rfl; skip]
    | (with_reducible apply Grows.step (jobStartOp_grows ..)) <;> [exact rfl; skip]
    | (with_reducible apply Grows.step (jobPauseOp_grows ..)) <;> [exact rfl; skip]
    | (with_reducible apply Grows.step (jobResumeOp_grows ..)) <;> [exact rfl; skip]
    | (with_reducible apply Grows.step (jobEndOp_grows ..)) <;> [exact rfl; skip]
    | (with_reducible apply Grows.step (nameLeadOp_grows ..)) <;> [exact rfl; skip]
    | (with_reducible apply Grows.step (contextOpenOp_grows ..)) <;> [exact rfl; skip]
    | (with_reducible apply Grows.step (contextCloseOp_grows ..)) <;> [exact rfl; skip]
    | (with_reducible apply Grows.step (setRuleOp_grows ..)) <;> [exact rfl; skip]
    | (with_reducible apply Grows.step (batchReadyOp_grows ..)) <;> [exact rfl; skip]
    | (with_reducible apply Grows.step (requestOp_grows ..)) <;> [exact rfl; skip]
    | (with_reducible apply Grows.step (cancelOp_grows ..)) <;> [exact rfl; skip]
    | (with_reducible apply Grows.step (epochSwitchOp_grows ..)) <;> [exact rfl; skip]
    | (with_reducible apply Grows.step (epochWithdrawOp_grows ..)) <;> [exact rfl; skip]
    | (with_reducible apply Grows.step (streamLimitsOp_grows ..)) <;> [exact rfl; skip]
    | (with_reducible apply Grows.step (streamStatusOp_grows ..)) <;> [exact rfl; skip]
    | (with_reducible apply Grows.step (layoutLoadOp_grows ..)) <;> [exact rfl; skip]
    | (with_reducible apply Grows.step (layoutQueryOp_grows ..)) <;> [exact rfl; skip]
    | (with_reducible apply Grows.step (ownerLoadedOp_grows ..)) <;> [exact rfl; skip]
    | (with_reducible apply Grows.step (ownerExposeOp_grows ..)) <;> [exact rfl; skip]
    | (with_reducible apply Grows.step (selfTestOp_grows ..)) <;> [exact rfl; skip]
    | (with_reducible apply Grows.step (capSetOp_grows ..)) <;> [exact rfl; skip]
    | (with_reducible apply Grows.step (rampSetOp_grows ..)) <;> [exact rfl; skip]
    | (with_reducible apply Grows.step (heartbeatCmd_grows ..)) <;> [exact rfl; skip]
    | (with_reducible apply Grows.step (safeCapOp_grows ..)) <;> [exact rfl; skip]
    | (with_reducible apply Grows.step (glowFloorOp_grows ..)) <;> [exact rfl; skip]
    | (with_reducible apply Grows.step (powerStatusOp_grows ..)) <;> [exact rfl; skip]
    | (with_reducible apply Grows.step (faultReadOp_grows ..)) <;> [exact rfl; skip]
    | (with_reducible apply Grows.step (faultClearOp_grows ..)) <;> [exact rfl; skip]
    | (with_reducible apply Grows.step (rollbackOp_grows ..)) <;> [exact rfl; skip]
    | (with_reducible apply Grows.step (excludeOp_grows ..)) <;> [exact rfl; skip]
    | (with_reducible apply Grows.step (shadowSetOp_grows ..)) <;> [exact rfl; skip]
    | (with_reducible apply Grows.step (fieldReturnOp_grows ..)) <;> [exact rfl; skip]
    | (with_reducible apply Grows.step (shutterFireOp_grows ..)) <;> [exact rfl; skip]
    | (with_reducible apply Grows.step (snapshotReadOp_grows ..)) <;> [exact rfl; skip]
    | (with_reducible apply Grows.step (countersReadOp_grows ..)) <;> [exact rfl; skip]
    | (with_reducible apply Grows.step (journalReadOp_grows ..)) <;> [exact rfl; skip]
    | (with_reducible apply Grows.step (bootJournalReadOp_grows ..)) <;> [exact rfl; skip]
    | (with_reducible apply Grows.step (attestOp_grows ..)) <;> [exact rfl; skip]
    | (with_reducible apply Grows.step (flashWriteOp_grows ..)) <;> [exact rfl; skip]
    | (with_reducible apply Grows.step (bundleVerifyOp_grows ..)) <;> [exact rfl; skip]
    | (with_reducible apply Grows.step (bundleActivateOp_grows ..)) <;> [exact rfl; skip]
    | (with_reducible apply Grows.step (resetOp_grows ..)) <;> [exact rfl; skip]
    | (with_reducible apply Grows.step (regReadOp_grows ..)) <;> [exact rfl; skip]
    | (with_reducible apply Grows.step (regWriteOp_grows ..)) <;> [exact rfl; skip]
    | (with_reducible apply Grows.step (regRmwOp_grows ..)) <;> [exact rfl; skip]
    | (with_reducible apply Grows.ite) <;> intro _
    | dsimp only
    | split
    | dsimp only [id]

theorem runPacket_grows (x1 x2) (s : State) : Grows 268433398 s (runPacket x1 x2 s) := by
  unfold runPacket
  try dsimp only
  repeat' first
    | with_reducible exact Grows.refl _ _
    | (with_reducible apply Grows.step (refuse_grows ..)) <;> [exact rfl; skip]
    | (with_reducible apply Grows.step (runBody_grows ..)) <;> [exact rfl; skip]
    | (with_reducible apply Grows.ite) <;> intro _
    | dsimp only
    | split

theorem doorbellOp_grows (x1 x2) (s : State) : Grows 25690116 s (doorbellOp x1 x2 s) := by
  unfold doorbellOp
  try dsimp only
  repeat' first
    | with_reducible exact Grows.refl _ _
    | (with_reducible apply Grows.step (count_grows ..)) <;> [exact rfl; skip]
    | (with_reducible apply Grows.step (setRing_grows ..)) <;> [exact rfl; skip]
    | (with_reducible apply Grows.step (eventsLost_grows ..)) <;> [exact rfl; skip]
    | (with_reducible apply Grows.ite) <;> intro _
    | dsimp only
    | split

theorem answerMark_grows (x1) (s : State) : Grows 8388612 s (answerMark x1 s) := by
  unfold answerMark
  try dsimp only
  repeat' first
    | with_reducible exact Grows.refl _ _
    | (with_reducible apply Grows.step (emit_grows ..)) <;> [exact rfl; skip]
    | (with_reducible apply Grows.ite) <;> intro _
    | dsimp only
    | split
    | refine Grows.upd ?_ (.inr rfl) (.inr rfl) (.inl rfl) (.inr rfl) (.inr rfl) (.inr rfl) (.inr rfl) (.inr rfl) (.inr rfl) (.inr rfl) (.inr rfl) (.inr rfl) (.inr rfl) (.inr rfl) (.inr rfl) (.inr rfl) (.inr rfl) (.inr rfl) (.inr rfl) (.inr rfl) (.inr rfl) (.inr rfl) (.inr rfl) (.inl rfl) (.inr rfl) (.inr rfl) (.inr rfl) (.inr rfl)
        (Nat.le_refl _) (Nat.le_refl _) List.prefix_rfl rfl ⟨rfl, rfl⟩ ⟨rfl, rfl, rfl⟩ ⟨rfl, rfl, rfl⟩ ⟨rfl, rfl, rfl, rfl, rfl, rfl⟩ ⟨rfl, rfl, rfl⟩ ⟨rfl, rfl, rfl, rfl, rfl, rfl, rfl, rfl, rfl, rfl⟩ ⟨rfl, rfl, rfl, rfl⟩ ⟨rfl, rfl⟩ rfl rfl rfl

theorem roceAnswer_grows {m : Nat} {s t : State} {h' : RoceHdr} {w : Bool} {len n : Nat} {f : State → State} {g : MrS → State → State} (hm : 8388613 ||| m = m) (h : Grows m s t)
    (ha : ∀ u, Grows m u (f u)) (hb : ∀ a u, Grows m u (g a u)) : Grows m s (roceAnswer h' w len n f g t) := by
  unfold roceAnswer
  try dsimp only
  repeat' first
    | exact h
    | with_reducible refine Grows.trans ?_ (ha _)
    | with_reducible refine Grows.trans ?_ (hb _ _)
    | (with_reducible apply Grows.step2 (M := 8388613) (answerMark_grows ..)) <;> [exact rfl; exact hm; skip]
    | (with_reducible apply Grows.step2 (M := 8388613) (atTime_grows ..)) <;> [exact rfl; exact hm; skip]
    | (with_reducible apply Grows.step2 (M := 8388613) (emit_grows ..)) <;> [exact rfl; exact hm; skip]
    | (with_reducible apply Grows.ite) <;> intro _
    | dsimp only
    | split
    | refine Grows.step2 (M := 8388613) (n := 8388613) (Grows.upd (.refl _ _) (.inl rfl) (.inr rfl) (.inl rfl) (.inr rfl) (.inr rfl) (.inr rfl) (.inr rfl) (.inr rfl) (.inr rfl) (.inr rfl) (.inr rfl) (.inr rfl) (.inr rfl) (.inr rfl) (.inr rfl) (.inr rfl) (.inr rfl) (.inr rfl) (.inr rfl) (.inr rfl) (.inr rfl) (.inr rfl) (.inr rfl) (.inl rfl) (.inr rfl) (.inr rfl) (.inr rfl) (.inr rfl)
        (Nat.le_refl _) (Nat.le_refl _) List.prefix_rfl rfl ⟨rfl, rfl⟩ ⟨rfl, rfl, rfl⟩ ⟨rfl, rfl, rfl⟩ ⟨rfl, rfl, rfl, rfl, rfl, rfl⟩ ⟨rfl, rfl, rfl⟩ ⟨rfl, rfl, rfl, rfl, rfl, rfl, rfl, rfl, rfl, rfl⟩ ⟨rfl, rfl, rfl, rfl⟩ ⟨rfl, rfl⟩ rfl rfl rfl) rfl hm ?_

theorem doorbellWords_grows (x1 x2) (s : State) : Grows 25690116 s (doorbellWords x1 x2 s) := by
  fun_induction doorbellWords x1 x2 s
  all_goals try dsimp only
  all_goals repeat' first
    | with_reducible exact Grows.refl _ _
    | with_reducible refine Grows.trans ?_ (by assumption)
    | (with_reducible apply Grows.step (doorbellOp_grows ..)) <;> [exact rfl; skip]
    | (with_reducible apply Grows.ite) <;> intro _
    | dsimp only
    | split
    | refine Grows.upd ?_ (.inr rfl) (.inr rfl) (.inl rfl) (.inr rfl) (.inr rfl) (.inr rfl) (.inr rfl) (.inr rfl) (.inr rfl) (.inr rfl) (.inr rfl) (.inr rfl) (.inr rfl) (.inr rfl) (.inr rfl) (.inr rfl) (.inr rfl) (.inr rfl) (.inr rfl) (.inl rfl) (.inr rfl) (.inr rfl) (.inr rfl) (.inl rfl) (.inl rfl) (.inr rfl) (.inr rfl) (.inr rfl)
        (Nat.le_refl _) (Nat.le_refl _) List.prefix_rfl rfl ⟨rfl, rfl⟩ ⟨rfl, rfl, rfl⟩ (by refine ⟨?_, ?_, ?_⟩ <;> first | with_reducible rfl | rfl) ⟨rfl, rfl, rfl, rfl, rfl, rfl⟩ ⟨rfl, rfl, rfl⟩ ⟨rfl, rfl, rfl, rfl, rfl, rfl, rfl, rfl, rfl, rfl⟩ ⟨rfl, rfl, rfl, rfl⟩ ⟨rfl, rfl⟩ rfl rfl (by first | with_reducible rfl | rfl)

theorem ownerWrite_grows (x1 x2) (s : State) : Grows 1572864 s (ownerWrite x1 x2 s) := by
  fun_induction ownerWrite x1 x2 s
  all_goals try dsimp only
  all_goals repeat' first
    | with_reducible exact Grows.refl _ _
    | with_reducible refine Grows.trans ?_ (by assumption)
    | (with_reducible apply Grows.step (writeAt_grows ..)) <;> [exact rfl; skip]
    | (with_reducible apply Grows.ite) <;> intro _
    | dsimp only
    | split
    | refine Grows.upd ?_ (.inr rfl) (.inr rfl) (.inr rfl) (.inr rfl) (.inr rfl) (.inr rfl) (.inr rfl) (.inr rfl) (.inr rfl) (.inr rfl) (.inr rfl) (.inr rfl) (.inr rfl) (.inr rfl) (.inr rfl) (.inr rfl) (.inr rfl) (.inr rfl) (.inr rfl) (.inl rfl) (.inl rfl) (.inr rfl) (.inr rfl) (.inr rfl) (.inr rfl) (.inr rfl) (.inr rfl) (.inr rfl)
        (Nat.le_refl _) (Nat.le_refl _) List.prefix_rfl rfl ⟨rfl, rfl⟩ ⟨rfl, rfl, rfl⟩ (by refine ⟨?_, ?_, ?_⟩ <;> first | with_reducible rfl | rfl) (by refine ⟨?_, ?_, ?_, ?_, ?_, ?_⟩ <;> first | with_reducible rfl | rfl) ⟨rfl, rfl, rfl⟩ ⟨rfl, rfl, rfl, rfl, rfl, rfl, rfl, rfl, rfl, rfl⟩ ⟨rfl, rfl, rfl, rfl⟩ ⟨rfl, rfl⟩ rfl rfl (by first | with_reducible rfl | rfl)

theorem spoil_grows (x1 x2) (s : State) : Grows 12582912 s (spoil x1 x2 s) := by
  unfold spoil
  try dsimp only
  repeat' first
    | with_reducible exact Grows.refl _ _
    | (with_reducible apply Grows.ite) <;> intro _
    | dsimp only
    | split
    | refine Grows.upd ?_ (.inr rfl) (.inr rfl) (.inr rfl) (.inr rfl) (.inr rfl) (.inr rfl) (.inr rfl) (.inr rfl) (.inr rfl) (.inr rfl) (.inr rfl) (.inr rfl) (.inr rfl) (.inr rfl) (.inr rfl) (.inr rfl) (.inr rfl) (.inr rfl) (.inr rfl) (.inr rfl) (.inr rfl) (.inr rfl) (.inl rfl) (.inl rfl) (.inr rfl) (.inr rfl) (.inr rfl) (.inr rfl)
        (Nat.le_refl _) (Nat.le_refl _) List.prefix_rfl rfl ⟨rfl, rfl⟩ ⟨rfl, rfl, rfl⟩ ⟨rfl, rfl, rfl⟩ ⟨rfl, rfl, rfl, rfl, rfl, rfl⟩ ⟨rfl, rfl, rfl⟩ ⟨rfl, rfl, rfl, rfl, rfl, rfl, rfl, rfl, rfl, rfl⟩ ⟨rfl, rfl, rfl, rfl⟩ ⟨rfl, rfl⟩ rfl rfl rfl

theorem systemPut_grows (x1 x2) (s : State) : Grows 13107200 s (systemPut x1 x2 s) := by
  unfold systemPut
  try dsimp only
  repeat' first
    | with_reducible exact Grows.refl _ _
    | (with_reducible apply Grows.step (systemWrite_grows ..)) <;> [exact rfl; skip]
    | (with_reducible apply Grows.step (spoil_grows ..)) <;> [exact rfl; skip]
    | (with_reducible apply Grows.ite) <;> intro _
    | dsimp only
    | split
    | refine Grows.upd ?_ (.inr rfl) (.inr rfl) (.inr rfl) (.inr rfl) (.inr rfl) (.inr rfl) (.inr rfl) (.inr rfl) (.inr rfl) (.inr rfl) (.inr rfl) (.inr rfl) (.inr rfl) (.inr rfl) (.inr rfl) (.inr rfl) (.inr rfl) (.inr rfl) (.inr rfl) (.inl rfl) (.inr rfl) (.inr rfl) (.inl rfl) (.inl rfl) (.inr rfl) (.inr rfl) (.inr rfl) (.inr rfl)
        (Nat.le_refl _) (Nat.le_refl _) List.prefix_rfl rfl ⟨rfl, rfl⟩ ⟨rfl, rfl, rfl⟩ (by refine ⟨?_, ?_, ?_⟩ <;> first | with_reducible rfl | rfl) ⟨rfl, rfl, rfl, rfl, rfl, rfl⟩ ⟨rfl, rfl, rfl⟩ ⟨rfl, rfl, rfl, rfl, rfl, rfl, rfl, rfl, rfl, rfl⟩ ⟨rfl, rfl, rfl, rfl⟩ ⟨rfl, rfl⟩ rfl rfl (by first | with_reducible rfl | rfl)

theorem placeWrite_grows (x1 x2 x3) (s : State) : Grows 30932996 s (placeWrite x1 x2 x3 s) := by
  unfold placeWrite
  try dsimp only
  repeat' first
    | with_reducible exact Grows.refl _ _
    | (with_reducible apply Grows.step (doorbellWords_grows ..)) <;> [exact rfl; skip]
    | (with_reducible apply Grows.step (systemPut_grows ..)) <;> [exact rfl; skip]
    | (with_reducible apply Grows.step (ownerWrite_grows ..)) <;> [exact rfl; skip]
    | (with_reducible apply Grows.ite) <;> intro _
    | dsimp only
    | split

theorem truncated_grows (x1 x2 x3) (s : State) : Grows 4 s (truncated x1 x2 x3 s) := by
  unfold truncated
  try dsimp only
  repeat' first
    | with_reducible exact Grows.refl _ _
    | (with_reducible apply Grows.step (emit_grows ..)) <;> [exact rfl; skip]
    | (with_reducible apply Grows.ite) <;> intro _
    | dsimp only
    | split

end Sys2Proof.Machine
end

