-- ==== Sys2Proof/Laws/MeaningsBeam.lean ====
section
/-! SUPPORT. What each meaning of Machine/Beam.lean answers: a next state, and what it may have changed. -/

namespace Sys2Proof.Machine

theorem execRetrainNotice_next (x1 x2 x3) (s : State) : ∃ t, execRetrainNotice x1 x2 x3 s = .next t ∧ Grows 2097153 s t := by
  refine ⟨_, rfl, ?_⟩
  try dsimp only
  repeat' first
    | with_reducible exact Grows.refl _ _
    | with_reducible exact ActGrows.wait
    | with_reducible exact ActGrows.fault
    | with_reducible exact ActGrows.check
    | with_reducible apply Grows.whenReady
    | (with_reducible apply Grows.step (pauseOn_grows ..)) <;> [exact rfl; skip]
    | (with_reducible apply Grows.step (pauseOff_grows ..)) <;> [exact rfl; skip]
    | (with_reducible apply Grows.step (atTime_grows ..)) <;> [exact rfl; skip]
    | (with_reducible apply ActGrows.ite) <;> intro _
    | with_reducible apply ActGrows.act
    | with_reducible apply ActGrows.waitDo
    | (with_reducible apply Grows.ite) <;> intro _
    | dsimp only
    | split

theorem execLaneRetrain_next (x1 x2) (s : State) : ∃ t, execLaneRetrain x1 x2 s = .next t ∧ Grows 27820677 s t := by
  refine ⟨_, rfl, ?_⟩
  try dsimp only
  repeat' first
    | with_reducible exact Grows.refl _ _
    | with_reducible exact ActGrows.wait
    | with_reducible exact ActGrows.fault
    | with_reducible exact ActGrows.check
    | with_reducible apply Grows.whenReady
    | (with_reducible apply Grows.step (atTime_grows ..)) <;> [exact rfl; skip]
    | (with_reducible apply Grows.step (count_grows ..)) <;> [exact rfl; skip]
    | (with_reducible apply Grows.step (setLane_grows ..)) <;> [exact rfl; skip]
    | (with_reducible apply Grows.step (retireLane_grows ..)) <;> [exact rfl; skip]
    | (with_reducible apply Grows.step (noteRetrain_grows ..)) <;> [exact rfl; skip]
    | (with_reducible apply ActGrows.ite) <;> intro _
    | with_reducible apply ActGrows.act
    | with_reducible apply ActGrows.waitDo
    | (with_reducible apply Grows.ite) <;> intro _
    | dsimp only
    | split

theorem execLaneRetrainDone_next (x1 x2 x3 x4) (s : State) : ∃ t, execLaneRetrainDone x1 x2 x3 x4 s = .next t ∧ Grows 27820677 s t := by
  refine ⟨_, rfl, ?_⟩
  try dsimp only
  repeat' first
    | with_reducible exact Grows.refl _ _
    | with_reducible exact ActGrows.wait
    | with_reducible exact ActGrows.fault
    | with_reducible exact ActGrows.check
    | with_reducible apply Grows.whenReady
    | (with_reducible apply Grows.step (atTime_grows ..)) <;> [exact rfl; skip]
    | (with_reducible apply Grows.step (retireLane_grows ..)) <;> [exact rfl; skip]
    | (with_reducible apply Grows.step (setLane_grows ..)) <;> [exact rfl; skip]
    | (with_reducible apply Grows.step (noteRetrain_grows ..)) <;> [exact rfl; skip]
    | (with_reducible apply Grows.step (drainAll_grows ..)) <;> [exact rfl; skip]
    | (with_reducible apply ActGrows.ite) <;> intro _
    | with_reducible apply ActGrows.act
    | with_reducible apply ActGrows.waitDo
    | (with_reducible apply Grows.ite) <;> intro _
    | dsimp only
    | split

theorem execLaneSignalLoss_next (x1 x2) (s : State) : ∃ t, execLaneSignalLoss x1 x2 s = .next t ∧ Grows 11043461 s t := by
  refine ⟨_, rfl, ?_⟩
  try dsimp only
  repeat' first
    | with_reducible exact Grows.refl _ _
    | with_reducible exact ActGrows.wait
    | with_reducible exact ActGrows.fault
    | with_reducible exact ActGrows.check
    | with_reducible apply Grows.whenReady
    | (with_reducible apply Grows.step (atTime_grows ..)) <;> [exact rfl; skip]
    | (with_reducible apply Grows.step (retireLane_grows ..)) <;> [exact rfl; skip]
    | (with_reducible apply ActGrows.ite) <;> intro _
    | with_reducible apply ActGrows.act
    | with_reducible apply ActGrows.waitDo
    | (with_reducible apply Grows.ite) <;> intro _
    | dsimp only
    | split

theorem execLaneTraining_next (x1 x2 x3 x4) (s : State) : ∃ t, execLaneTraining x1 x2 x3 x4 s = .next t ∧ Grows 2097156 s t := by
  refine ⟨_, rfl, ?_⟩
  try dsimp only
  repeat' first
    | with_reducible exact Grows.refl _ _
    | with_reducible exact ActGrows.wait
    | with_reducible exact ActGrows.fault
    | with_reducible exact ActGrows.check
    | with_reducible apply Grows.whenReady
    | (with_reducible apply Grows.step (queueManage_grows ..)) <;> [exact rfl; skip]
    | (with_reducible apply Grows.step (emit_grows ..)) <;> [exact rfl; skip]
    | (with_reducible apply Grows.step (setLane_grows ..)) <;> [exact rfl; skip]
    | (with_reducible apply ActGrows.ite) <;> intro _
    | with_reducible apply ActGrows.act
    | with_reducible apply ActGrows.waitDo
    | (with_reducible apply Grows.ite) <;> intro _
    | dsimp only
    | split

theorem execLaneLoopbackDone_next (x1 x2) (s : State) : ∃ t, execLaneLoopbackDone x1 x2 s = .next t ∧ Grows 11043460 s t := by
  refine ⟨_, rfl, ?_⟩
  try dsimp only
  repeat' first
    | with_reducible exact Grows.refl _ _
    | with_reducible exact ActGrows.wait
    | with_reducible exact ActGrows.fault
    | with_reducible exact ActGrows.check
    | with_reducible apply Grows.whenReady
    | (with_reducible apply Grows.step (setLane_grows ..)) <;> [exact rfl; skip]
    | (with_reducible apply Grows.step (loseChannel_grows ..)) <;> [exact rfl; skip]
    | (with_reducible apply Grows.step (takeEngine_grows ..)) <;> [exact rfl; skip]
    | (with_reducible apply ActGrows.ite) <;> intro _
    | with_reducible apply ActGrows.act
    | with_reducible apply ActGrows.waitDo
    | (with_reducible apply Grows.ite) <;> intro _
    | dsimp only
    | split

theorem execCodewordReceived_next (x1 x2 x3) (s : State) : ∃ t, execCodewordReceived x1 x2 x3 s = .next t ∧ Grows 18939909 s t := by
  refine ⟨_, rfl, ?_⟩
  try dsimp only
  repeat' first
    | with_reducible exact Grows.refl _ _
    | with_reducible exact ActGrows.wait
    | with_reducible exact ActGrows.fault
    | with_reducible exact ActGrows.check
    | with_reducible apply Grows.whenReady
    | (with_reducible apply Grows.step (atTime_grows ..)) <;> [exact rfl; skip]
    | (with_reducible apply Grows.step (sendCodeword_grows ..)) <;> [exact rfl; skip]
    | (with_reducible apply Grows.step (badCodeword_grows ..)) <;> [exact rfl; skip]
    | (with_reducible apply Grows.step (takeCodeword_grows ..)) <;> [exact rfl; skip]
    | (with_reducible apply ActGrows.ite) <;> intro _
    | with_reducible apply ActGrows.act
    | with_reducible apply ActGrows.waitDo
    | (with_reducible apply Grows.ite) <;> intro _
    | dsimp only
    | split

theorem execNakReceived_next (x1 x2) (s : State) : ∃ t, execNakReceived x1 x2 s = .next t ∧ Grows 4 s t := by
  refine ⟨_, rfl, ?_⟩
  try dsimp only
  repeat' first
    | with_reducible exact Grows.refl _ _
    | with_reducible exact ActGrows.wait
    | with_reducible exact ActGrows.fault
    | with_reducible exact ActGrows.check
    | with_reducible apply Grows.whenReady
    | (with_reducible apply Grows.step (emitAll_grows ..)) <;> [exact rfl; skip]
    | (with_reducible apply Grows.step (emit_grows ..)) <;> [exact rfl; skip]
    | (with_reducible apply ActGrows.ite) <;> intro _
    | with_reducible apply ActGrows.act
    | with_reducible apply ActGrows.waitDo
    | (with_reducible apply Grows.ite) <;> intro _
    | dsimp only
    | split

theorem execBeamPacketArrival_next (x1 x2 x3) (s : State) : ∃ t, execBeamPacketArrival x1 x2 x3 s = .next t ∧ Grows 18939908 s t := by
  refine ⟨_, rfl, ?_⟩
  try dsimp only
  repeat' first
    | with_reducible exact Grows.refl _ _
    | with_reducible exact ActGrows.wait
    | with_reducible exact ActGrows.fault
    | with_reducible exact ActGrows.check
    | with_reducible apply Grows.whenReady
    | (with_reducible apply Grows.step (beamArrival_grows ..)) <;> [exact rfl; skip]
    | (with_reducible apply ActGrows.ite) <;> intro _
    | with_reducible apply ActGrows.act
    | with_reducible apply ActGrows.waitDo
    | (with_reducible apply Grows.ite) <;> intro _
    | dsimp only
    | split

end Sys2Proof.Machine
end

