-- ==== Sys2Proof/Laws/MeaningsBoot.lean ====
section
/-! SUPPORT. What each meaning of Machine/Boot.lean answers: a next state, and what it may have changed. -/

namespace Sys2Proof.Machine

theorem execModuleStart_next (x1 x2) (s : State) : ∃ t, execModuleStart x1 x2 s = .next t ∧ Grows 268433399 s t := by
  refine ⟨_, rfl, ?_⟩
  try dsimp only
  repeat' first
    | with_reducible exact Grows.refl _ _
    | with_reducible exact ActGrows.wait
    | with_reducible exact ActGrows.fault
    | with_reducible exact ActGrows.check
    | (with_reducible apply Grows.step (atTime_grows ..)) <;> [exact rfl; skip]
    | (with_reducible apply Grows.step (attempt_grows ..)) <;> [exact rfl; skip]
    | (with_reducible apply Grows.step (startPreamble_grows ..)) <;> [exact rfl; skip]
    | (with_reducible apply ActGrows.ite) <;> intro _
    | with_reducible apply ActGrows.act
    | with_reducible apply ActGrows.waitDo
    | (with_reducible apply Grows.ite) <;> intro _
    | dsimp only
    | split
    | refine Grows.upd ?_ (.inl rfl) (.inl rfl) (.inl rfl) (.inr rfl) (.inl rfl) (.inl rfl) (.inl rfl) (.inl rfl) (.inl rfl) (.inl rfl) (.inl rfl) (.inr rfl) (.inl rfl) (.inl rfl) (.inl rfl) (.inl rfl) (.inl rfl) (.inl rfl) (.inl rfl) (.inl rfl) (.inl rfl) (.inl rfl) (.inl rfl) (.inl rfl) (.inl rfl) (.inl rfl) (.inl rfl) (.inl rfl)
        (Nat.le_refl _) (Nat.le_refl _) List.prefix_rfl (by unfold fuses; first | with_reducible rfl | rfl) (by refine ⟨?_, ?_⟩ <;> first | with_reducible rfl | rfl) (by refine ⟨?_, ?_, ?_⟩ <;> first | with_reducible rfl | rfl) (by refine ⟨?_, ?_, ?_⟩ <;> first | with_reducible rfl | rfl) (by refine ⟨?_, ?_, ?_, ?_, ?_, ?_⟩ <;> first | with_reducible rfl | rfl) (by refine ⟨?_, ?_, ?_⟩ <;> first | with_reducible rfl | rfl) (by refine ⟨?_, ?_, ?_, ?_, ?_, ?_, ?_, ?_, ?_, ?_⟩ <;> first | with_reducible rfl | rfl) (by refine ⟨?_, ?_, ?_, ?_⟩ <;> first | with_reducible rfl | rfl) (by refine ⟨?_, ?_⟩ <;> first | with_reducible rfl | rfl) (by unfold flashKept; first | with_reducible rfl | rfl) (by first | with_reducible rfl | rfl) (by first | with_reducible rfl | rfl)

theorem execStartStepTimeout_next (x1) (s : State) : ∃ t, execStartStepTimeout x1 s = .next t ∧ Grows 268433393 s t := by
  refine ⟨_, rfl, ?_⟩
  try dsimp only
  repeat' first
    | with_reducible exact Grows.refl _ _
    | with_reducible exact ActGrows.wait
    | with_reducible exact ActGrows.fault
    | with_reducible exact ActGrows.check
    | (with_reducible apply Grows.step (atTime_grows ..)) <;> [exact rfl; skip]
    | (with_reducible apply Grows.step (resetModule_grows ..)) <;> [exact rfl; skip]
    | (with_reducible apply Grows.step (journalEntry_grows ..)) <;> [exact rfl; skip]
    | (with_reducible apply ActGrows.ite) <;> intro _
    | with_reducible apply ActGrows.act
    | with_reducible apply ActGrows.waitDo
    | (with_reducible apply Grows.ite) <;> intro _
    | dsimp only
    | split

theorem execRefclkPresent_next (x1) (s : State) : ∃ t, execRefclkPresent x1 s = .next t ∧ Grows 33 s t := by
  refine ⟨_, rfl, ?_⟩
  try dsimp only
  repeat' first
    | with_reducible exact Grows.refl _ _
    | with_reducible exact ActGrows.wait
    | with_reducible exact ActGrows.fault
    | with_reducible exact ActGrows.check
    | (with_reducible apply Grows.step (atTime_grows ..)) <;> [exact rfl; skip]
    | with_reducible apply Grows.whenPowered
    | (with_reducible apply ActGrows.ite) <;> intro _
    | with_reducible apply ActGrows.act
    | with_reducible apply ActGrows.waitDo
    | (with_reducible apply Grows.ite) <;> intro _
    | dsimp only
    | split
    | refine Grows.upd ?_ (.inl rfl) (.inr rfl) (.inr rfl) (.inr rfl) (.inr rfl) (.inl rfl) (.inr rfl) (.inr rfl) (.inr rfl) (.inr rfl) (.inr rfl) (.inr rfl) (.inr rfl) (.inr rfl) (.inr rfl) (.inr rfl) (.inr rfl) (.inr rfl) (.inr rfl) (.inr rfl) (.inr rfl) (.inr rfl) (.inr rfl) (.inr rfl) (.inr rfl) (.inr rfl) (.inr rfl) (.inr rfl)
        (Nat.le_refl _) (Nat.le_refl _) List.prefix_rfl rfl ⟨rfl, rfl⟩ ⟨rfl, rfl, rfl⟩ ⟨rfl, rfl, rfl⟩ ⟨rfl, rfl, rfl, rfl, rfl, rfl⟩ ⟨rfl, rfl, rfl⟩ ⟨rfl, rfl, rfl, rfl, rfl, rfl, rfl, rfl, rfl, rfl⟩ ⟨rfl, rfl, rfl, rfl⟩ ⟨rfl, rfl⟩ rfl rfl rfl

theorem execRefclkLost_next (x1) (s : State) : ∃ t, execRefclkLost x1 s = .next t ∧ Grows 268433393 s t := by
  refine ⟨_, rfl, ?_⟩
  try dsimp only
  repeat' first
    | with_reducible exact Grows.refl _ _
    | with_reducible exact ActGrows.wait
    | with_reducible exact ActGrows.fault
    | with_reducible exact ActGrows.check
    | (with_reducible apply Grows.step (atTime_grows ..)) <;> [exact rfl; skip]
    | with_reducible apply Grows.whenPowered
    | (with_reducible apply Grows.step (faultReset_grows ..)) <;> [exact rfl; skip]
    | (with_reducible apply ActGrows.ite) <;> intro _
    | with_reducible apply ActGrows.act
    | with_reducible apply ActGrows.waitDo
    | (with_reducible apply Grows.ite) <;> intro _
    | dsimp only
    | split
    | refine Grows.upd ?_ (.inl rfl) (.inr rfl) (.inr rfl) (.inr rfl) (.inl rfl) (.inl rfl) (.inl rfl) (.inl rfl) (.inl rfl) (.inl rfl) (.inl rfl) (.inr rfl) (.inl rfl) (.inl rfl) (.inl rfl) (.inl rfl) (.inl rfl) (.inl rfl) (.inl rfl) (.inl rfl) (.inl rfl) (.inl rfl) (.inl rfl) (.inl rfl) (.inl rfl) (.inl rfl) (.inl rfl) (.inl rfl)
        (Nat.le_refl _) (Nat.le_refl _) List.prefix_rfl (by unfold fuses; first | with_reducible rfl | rfl) (by refine ⟨?_, ?_⟩ <;> first | with_reducible rfl | rfl) (by refine ⟨?_, ?_, ?_⟩ <;> first | with_reducible rfl | rfl) (by refine ⟨?_, ?_, ?_⟩ <;> first | with_reducible rfl | rfl) (by refine ⟨?_, ?_, ?_, ?_, ?_, ?_⟩ <;> first | with_reducible rfl | rfl) (by refine ⟨?_, ?_, ?_⟩ <;> first | with_reducible rfl | rfl) (by refine ⟨?_, ?_, ?_, ?_, ?_, ?_, ?_, ?_, ?_, ?_⟩ <;> first | with_reducible rfl | rfl) (by refine ⟨?_, ?_, ?_, ?_⟩ <;> first | with_reducible rfl | rfl) (by refine ⟨?_, ?_⟩ <;> first | with_reducible rfl | rfl) (by unfold flashKept; first | with_reducible rfl | rfl) (by first | with_reducible rfl | rfl) (by first | with_reducible rfl | rfl)

theorem execInputPowerPresent_next (x1) (s : State) : ∃ t, execInputPowerPresent x1 s = .next t ∧ Grows 289 s t := by
  refine ⟨_, rfl, ?_⟩
  try dsimp only
  repeat' first
    | with_reducible exact Grows.refl _ _
    | with_reducible exact ActGrows.wait
    | with_reducible exact ActGrows.fault
    | with_reducible exact ActGrows.check
    | (with_reducible apply Grows.step (atTime_grows ..)) <;> [exact rfl; skip]
    | (with_reducible apply ActGrows.ite) <;> intro _
    | with_reducible apply ActGrows.act
    | with_reducible apply ActGrows.waitDo
    | (with_reducible apply Grows.ite) <;> intro _
    | dsimp only
    | split
    | refine Grows.upd ?_ (.inl rfl) (.inr rfl) (.inr rfl) (.inr rfl) (.inr rfl) (.inl rfl) (.inr rfl) (.inr rfl) (.inl rfl) (.inr rfl) (.inr rfl) (.inr rfl) (.inr rfl) (.inr rfl) (.inr rfl) (.inr rfl) (.inr rfl) (.inr rfl) (.inr rfl) (.inr rfl) (.inr rfl) (.inr rfl) (.inr rfl) (.inr rfl) (.inr rfl) (.inr rfl) (.inr rfl) (.inr rfl)
        (Nat.le_refl _) (Nat.le_refl _) List.prefix_rfl rfl ⟨rfl, rfl⟩ ⟨rfl, rfl, rfl⟩ ⟨rfl, rfl, rfl⟩ ⟨rfl, rfl, rfl, rfl, rfl, rfl⟩ ⟨rfl, rfl, rfl⟩ (by refine ⟨?_, ?_, ?_, ?_, ?_, ?_, ?_, ?_, ?_, ?_⟩ <;> first | with_reducible rfl | rfl) ⟨rfl, rfl, rfl, rfl⟩ ⟨rfl, rfl⟩ rfl rfl rfl

theorem execFieldControlWatchdog_next (x1) (s : State) : ∃ t, execFieldControlWatchdog x1 s = .next t ∧ Grows 9011876 s t := by
  refine ⟨_, rfl, ?_⟩
  try dsimp only
  repeat' first
    | with_reducible exact Grows.refl _ _
    | with_reducible exact ActGrows.wait
    | with_reducible exact ActGrows.fault
    | with_reducible exact ActGrows.check
    | with_reducible apply Grows.whenReady
    | (with_reducible apply Grows.step (setField_grows ..)) <;> [exact rfl; skip]
    | (with_reducible apply Grows.step (finish_grows ..)) <;> [exact rfl; skip]
    | (with_reducible apply Grows.step (rollFault_grows ..)) <;> [exact rfl; skip]
    | (with_reducible apply ActGrows.ite) <;> intro _
    | with_reducible apply ActGrows.act
    | with_reducible apply ActGrows.waitDo
    | (with_reducible apply Grows.ite) <;> intro _
    | dsimp only
    | split
    | refine Grows.upd ?_ (.inr rfl) (.inr rfl) (.inl rfl) (.inr rfl) (.inr rfl) (.inl rfl) (.inr rfl) (.inl rfl) (.inr rfl) (.inl rfl) (.inr rfl) (.inr rfl) (.inr rfl) (.inr rfl) (.inr rfl) (.inl rfl) (.inl rfl) (.inr rfl) (.inr rfl) (.inl rfl) (.inr rfl) (.inr rfl) (.inr rfl) (.inl rfl) (.inr rfl) (.inr rfl) (.inr rfl) (.inr rfl)
        (Nat.le_refl _) (Nat.le_refl _) List.prefix_rfl rfl ⟨rfl, rfl⟩ ⟨rfl, rfl, rfl⟩ (by refine ⟨?_, ?_, ?_⟩ <;> first | with_reducible rfl | rfl) ⟨rfl, rfl, rfl, rfl, rfl, rfl⟩ ⟨rfl, rfl, rfl⟩ ⟨rfl, rfl, rfl, rfl, rfl, rfl, rfl, rfl, rfl, rfl⟩ (by refine ⟨?_, ?_, ?_, ?_⟩ <;> first | with_reducible rfl | rfl) ⟨rfl, rfl⟩ rfl (by first | with_reducible rfl | rfl) (by first | with_reducible rfl | rfl)

theorem execFieldControlReloadDone_next (x1 x2) (s : State) : ∃ t, execFieldControlReloadDone x1 x2 s = .next t ∧ Grows 13206180 s t := by
  refine ⟨_, rfl, ?_⟩
  try dsimp only
  repeat' first
    | with_reducible exact Grows.refl _ _
    | with_reducible exact ActGrows.wait
    | with_reducible exact ActGrows.fault
    | with_reducible exact ActGrows.check
    | with_reducible apply Grows.whenReady
    | (with_reducible apply Grows.step (faultEvent_grows ..)) <;> [exact rfl; skip]
    | (with_reducible apply Grows.step (setField_grows ..)) <;> [exact rfl; skip]
    | (with_reducible apply ActGrows.ite) <;> intro _
    | with_reducible apply ActGrows.act
    | with_reducible apply ActGrows.waitDo
    | (with_reducible apply Grows.ite) <;> intro _
    | dsimp only
    | split
    | refine Grows.upd ?_ (.inr rfl) (.inr rfl) (.inl rfl) (.inr rfl) (.inr rfl) (.inl rfl) (.inr rfl) (.inl rfl) (.inr rfl) (.inl rfl) (.inr rfl) (.inr rfl) (.inr rfl) (.inr rfl) (.inr rfl) (.inl rfl) (.inl rfl) (.inr rfl) (.inr rfl) (.inl rfl) (.inr rfl) (.inr rfl) (.inl rfl) (.inl rfl) (.inr rfl) (.inr rfl) (.inr rfl) (.inr rfl)
        (Nat.le_refl _) (Nat.le_refl _) List.prefix_rfl rfl ⟨rfl, rfl⟩ ⟨rfl, rfl, rfl⟩ (by refine ⟨?_, ?_, ?_⟩ <;> first | with_reducible rfl | rfl) ⟨rfl, rfl, rfl, rfl, rfl, rfl⟩ ⟨rfl, rfl, rfl⟩ ⟨rfl, rfl, rfl, rfl, rfl, rfl, rfl, rfl, rfl, rfl⟩ (by refine ⟨?_, ?_, ?_, ?_⟩ <;> first | with_reducible rfl | rfl) ⟨rfl, rfl⟩ rfl (by first | with_reducible rfl | rfl) (by first | with_reducible rfl | rfl)

theorem execSchedulerWatchdog_next (x1) (s : State) : ∃ t, execSchedulerWatchdog x1 s = .next t ∧ Grows 268433393 s t := by
  refine ⟨_, rfl, ?_⟩
  try dsimp only
  repeat' first
    | with_reducible exact Grows.refl _ _
    | with_reducible exact ActGrows.wait
    | with_reducible exact ActGrows.fault
    | with_reducible exact ActGrows.check
    | with_reducible apply Grows.whenReady
    | (with_reducible apply Grows.step (faultReset_grows ..)) <;> [exact rfl; skip]
    | (with_reducible apply Grows.step (atTime_grows ..)) <;> [exact rfl; skip]
    | (with_reducible apply ActGrows.ite) <;> intro _
    | with_reducible apply ActGrows.act
    | with_reducible apply ActGrows.waitDo
    | (with_reducible apply Grows.ite) <;> intro _
    | dsimp only
    | split

theorem execPowerMgmtWatchdog_next (x1) (s : State) : ∃ t, execPowerMgmtWatchdog x1 s = .next t ∧ Grows 268433393 s t := by
  refine ⟨_, rfl, ?_⟩
  try dsimp only
  repeat' first
    | with_reducible exact Grows.refl _ _
    | with_reducible exact ActGrows.wait
    | with_reducible exact ActGrows.fault
    | with_reducible exact ActGrows.check
    | with_reducible apply Grows.whenReady
    | (with_reducible apply Grows.step (faultReset_grows ..)) <;> [exact rfl; skip]
    | (with_reducible apply Grows.step (atTime_grows ..)) <;> [exact rfl; skip]
    | (with_reducible apply ActGrows.ite) <;> intro _
    | with_reducible apply ActGrows.act
    | with_reducible apply ActGrows.waitDo
    | (with_reducible apply Grows.ite) <;> intro _
    | dsimp only
    | split

theorem execSecurityWatchdog_next (x1) (s : State) : ∃ t, execSecurityWatchdog x1 s = .next t ∧ Grows 268433393 s t := by
  refine ⟨_, rfl, ?_⟩
  try dsimp only
  repeat' first
    | with_reducible exact Grows.refl _ _
    | with_reducible exact ActGrows.wait
    | with_reducible exact ActGrows.fault
    | with_reducible exact ActGrows.check
    | with_reducible apply Grows.whenReady
    | (with_reducible apply Grows.step (resetModule_grows ..)) <;> [exact rfl; skip]
    | (with_reducible apply Grows.step (atTime_grows ..)) <;> [exact rfl; skip]
    | (with_reducible apply ActGrows.ite) <;> intro _
    | with_reducible apply ActGrows.act
    | with_reducible apply ActGrows.waitDo
    | (with_reducible apply Grows.ite) <;> intro _
    | dsimp only
    | split
    | refine Grows.upd ?_ (.inl rfl) (.inr rfl) (.inr rfl) (.inr rfl) (.inl rfl) (.inl rfl) (.inl rfl) (.inl rfl) (.inl rfl) (.inl rfl) (.inl rfl) (.inr rfl) (.inl rfl) (.inl rfl) (.inl rfl) (.inl rfl) (.inl rfl) (.inl rfl) (.inl rfl) (.inl rfl) (.inl rfl) (.inl rfl) (.inl rfl) (.inl rfl) (.inl rfl) (.inl rfl) (.inl rfl) (.inl rfl)
        (Nat.le_refl _) (Nat.le_refl _) List.prefix_rfl (by unfold fuses; first | with_reducible rfl | rfl) (by refine ⟨?_, ?_⟩ <;> first | with_reducible rfl | rfl) (by refine ⟨?_, ?_, ?_⟩ <;> first | with_reducible rfl | rfl) (by refine ⟨?_, ?_, ?_⟩ <;> first | with_reducible rfl | rfl) (by refine ⟨?_, ?_, ?_, ?_, ?_, ?_⟩ <;> first | with_reducible rfl | rfl) (by refine ⟨?_, ?_, ?_⟩ <;> first | with_reducible rfl | rfl) (by refine ⟨?_, ?_, ?_, ?_, ?_, ?_, ?_, ?_, ?_, ?_⟩ <;> first | with_reducible rfl | rfl) (by refine ⟨?_, ?_, ?_, ?_⟩ <;> first | with_reducible rfl | rfl) (by refine ⟨?_, ?_⟩ <;> first | with_reducible rfl | rfl) (by unfold flashKept; first | with_reducible rfl | rfl) (by first | with_reducible rfl | rfl) (by first | with_reducible rfl | rfl)

end Sys2Proof.Machine
end

