-- ==== Sys2Proof/Laws/MeaningsCollective.lean ====
section
/-! SUPPORT. What each meaning of Machine/Collective.lean answers: a next state, and what it may have changed. -/

namespace Sys2Proof.Machine

theorem execChunkSend_next (x1 x2) (s : State) : ∃ t, execChunkSend x1 x2 s = .next t ∧ Grows 18874372 s t := by
  refine ⟨_, rfl, ?_⟩
  try dsimp only
  repeat' first
    | with_reducible exact Grows.refl _ _
    | with_reducible exact ActGrows.wait
    | with_reducible exact ActGrows.fault
    | with_reducible exact ActGrows.check
    | with_reducible apply Grows.whenReady
    | (with_reducible apply Grows.step (sendChunk_grows ..)) <;> [exact rfl; skip]
    | (with_reducible apply Grows.step (formGather_grows ..)) <;> [exact rfl; skip]
    | (with_reducible apply ActGrows.ite) <;> intro _
    | with_reducible apply ActGrows.act
    | with_reducible apply ActGrows.waitDo
    | (with_reducible apply Grows.ite) <;> intro _
    | dsimp only
    | split

theorem execChunkAck_next (x1 x2 x3 x4) (s : State) : ∃ t, execChunkAck x1 x2 x3 x4 s = .next t ∧ Grows 2097152 s t := by
  refine ⟨_, rfl, ?_⟩
  try dsimp only
  repeat' first
    | with_reducible exact Grows.refl _ _
    | with_reducible exact ActGrows.wait
    | with_reducible exact ActGrows.fault
    | with_reducible exact ActGrows.check
    | with_reducible apply Grows.whenReady
    | (with_reducible apply Grows.step (ackChunk_grows ..)) <;> [exact rfl; skip]
    | (with_reducible apply ActGrows.ite) <;> intro _
    | with_reducible apply ActGrows.act
    | with_reducible apply ActGrows.waitDo
    | (with_reducible apply Grows.ite) <;> intro _
    | dsimp only
    | split

theorem execChunkRerequest_next (x1 x2 x3 x4) (s : State) : ∃ t, execChunkRerequest x1 x2 x3 x4 s = .next t ∧ Grows 2097152 s t := by
  refine ⟨_, rfl, ?_⟩
  try dsimp only
  repeat' first
    | with_reducible exact Grows.refl _ _
    | with_reducible exact ActGrows.wait
    | with_reducible exact ActGrows.fault
    | with_reducible exact ActGrows.check
    | with_reducible apply Grows.whenReady
    | (with_reducible apply Grows.step (againChunk_grows ..)) <;> [exact rfl; skip]
    | (with_reducible apply ActGrows.ite) <;> intro _
    | with_reducible apply ActGrows.act
    | with_reducible apply ActGrows.waitDo
    | (with_reducible apply Grows.ite) <;> intro _
    | dsimp only
    | split

theorem execChunkPacketArrival_next (x1 x2 x3 x4 x5 x6) (s : State) : ∃ t, execChunkPacketArrival x1 x2 x3 x4 x5 x6 s = .next t ∧ Grows 27951749 s t := by
  refine ⟨_, rfl, ?_⟩
  try dsimp only
  repeat' first
    | with_reducible exact Grows.refl _ _
    | with_reducible exact ActGrows.wait
    | with_reducible exact ActGrows.fault
    | with_reducible exact ActGrows.check
    | with_reducible apply Grows.whenReady
    | (with_reducible apply Grows.step (chunkPacket_grows ..)) <;> [exact rfl; skip]
    | (with_reducible apply Grows.step (atTime_grows ..)) <;> [exact rfl; skip]
    | (with_reducible apply ActGrows.ite) <;> intro _
    | with_reducible apply ActGrows.act
    | with_reducible apply ActGrows.waitDo
    | (with_reducible apply Grows.ite) <;> intro _
    | dsimp only
    | split

theorem execLateBoundExpired_next (x1 x2 x3) (s : State) : ∃ t, execLateBoundExpired x1 x2 x3 s = .next t ∧ Grows 11044485 s t := by
  refine ⟨_, rfl, ?_⟩
  try dsimp only
  repeat' first
    | with_reducible exact Grows.refl _ _
    | with_reducible exact ActGrows.wait
    | with_reducible exact ActGrows.fault
    | with_reducible exact ActGrows.check
    | with_reducible apply Grows.whenReady
    | (with_reducible apply Grows.step (atTime_grows ..)) <;> [exact rfl; skip]
    | (with_reducible apply Grows.step (onSuspect_grows ..)) <;> [exact rfl; skip]
    | (with_reducible apply Grows.step (emit_grows ..)) <;> [exact rfl; skip]
    | (with_reducible apply ActGrows.ite) <;> intro _
    | with_reducible apply ActGrows.act
    | with_reducible apply ActGrows.waitDo
    | (with_reducible apply Grows.ite) <;> intro _
    | dsimp only
    | split

theorem execSuspectReport_next (x1 x2 x3 x4 x5) (s : State) : ∃ t, execSuspectReport x1 x2 x3 x4 x5 s = .next t ∧ Grows 11044485 s t := by
  refine ⟨_, rfl, ?_⟩
  try dsimp only
  repeat' first
    | with_reducible exact Grows.refl _ _
    | with_reducible exact ActGrows.wait
    | with_reducible exact ActGrows.fault
    | with_reducible exact ActGrows.check
    | with_reducible apply Grows.whenReady
    | (with_reducible apply Grows.step (atTime_grows ..)) <;> [exact rfl; skip]
    | (with_reducible apply Grows.step (onSuspect_grows ..)) <;> [exact rfl; skip]
    | (with_reducible apply ActGrows.ite) <;> intro _
    | with_reducible apply ActGrows.act
    | with_reducible apply ActGrows.waitDo
    | (with_reducible apply Grows.ite) <;> intro _
    | dsimp only
    | split

theorem execExclusionNotice_next (x1 x2 x3) (s : State) : ∃ t, execExclusionNotice x1 x2 x3 s = .next t ∧ Grows 11044484 s t := by
  refine ⟨_, rfl, ?_⟩
  try dsimp only
  repeat' first
    | with_reducible exact Grows.refl _ _
    | with_reducible exact ActGrows.wait
    | with_reducible exact ActGrows.fault
    | with_reducible exact ActGrows.check
    | with_reducible apply Grows.whenReady
    | (with_reducible apply Grows.step (excludeSource_grows ..)) <;> [exact rfl; skip]
    | (with_reducible apply ActGrows.ite) <;> intro _
    | with_reducible apply ActGrows.act
    | with_reducible apply ActGrows.waitDo
    | (with_reducible apply Grows.ite) <;> intro _
    | dsimp only
    | split

end Sys2Proof.Machine
end

