-- ==== Sys2Proof/Laws/MeaningsContexts.lean ====
section
/-! SUPPORT. What each meaning of Machine/Contexts.lean answers: a next state, and what it may have changed. -/

namespace Sys2Proof.Machine

theorem execContextOpen_next (x1 x2) (s : State) : ∃ t, execContextOpen x1 x2 s = .next t ∧ Grows 8913030 s t := by
  refine ⟨_, rfl, ?_⟩
  try dsimp only
  repeat' first
    | with_reducible exact Grows.refl _ _
    | with_reducible exact ActGrows.wait
    | with_reducible exact ActGrows.fault
    | with_reducible exact ActGrows.check
    | (with_reducible apply command_grows) <;> [exact rfl; skip; intro _]
    | (with_reducible apply Grows.step (contextOpenOp_grows ..)) <;> [exact rfl; skip]
    | (with_reducible apply ActGrows.ite) <;> intro _
    | with_reducible apply ActGrows.act
    | with_reducible apply ActGrows.waitDo
    | (with_reducible apply Grows.ite) <;> intro _
    | dsimp only
    | split

theorem execContextClose_next (x1) (s : State) : ∃ t, execContextClose x1 s = .next t ∧ Grows 8913030 s t := by
  refine ⟨_, rfl, ?_⟩
  try dsimp only
  repeat' first
    | with_reducible exact Grows.refl _ _
    | with_reducible exact ActGrows.wait
    | with_reducible exact ActGrows.fault
    | with_reducible exact ActGrows.check
    | (with_reducible apply command_grows) <;> [exact rfl; skip; intro _]
    | (with_reducible apply Grows.step (contextCloseOp_grows ..)) <;> [exact rfl; skip]
    | (with_reducible apply ActGrows.ite) <;> intro _
    | with_reducible apply ActGrows.act
    | with_reducible apply ActGrows.waitDo
    | (with_reducible apply Grows.ite) <;> intro _
    | dsimp only
    | split

theorem execSetRule_next (x1 x2 x3 x4) (s : State) : ∃ t, execSetRule x1 x2 x3 x4 s = .next t ∧ Grows 9961606 s t := by
  refine ⟨_, rfl, ?_⟩
  try dsimp only
  repeat' first
    | with_reducible exact Grows.refl _ _
    | with_reducible exact ActGrows.wait
    | with_reducible exact ActGrows.fault
    | with_reducible exact ActGrows.check
    | (with_reducible apply command_grows) <;> [exact rfl; skip; intro _]
    | (with_reducible apply Grows.step (setRuleOp_grows ..)) <;> [exact rfl; skip]
    | (with_reducible apply ActGrows.ite) <;> intro _
    | with_reducible apply ActGrows.act
    | with_reducible apply ActGrows.waitDo
    | (with_reducible apply Grows.ite) <;> intro _
    | dsimp only
    | split

theorem execBatchReady_next (x1 x2 x3) (s : State) : ∃ t, execBatchReady x1 x2 x3 s = .next t ∧ Grows 8913030 s t := by
  refine ⟨_, rfl, ?_⟩
  try dsimp only
  repeat' first
    | with_reducible exact Grows.refl _ _
    | with_reducible exact ActGrows.wait
    | with_reducible exact ActGrows.fault
    | with_reducible exact ActGrows.check
    | (with_reducible apply command_grows) <;> [exact rfl; skip; intro _]
    | (with_reducible apply Grows.step (batchReadyOp_grows ..)) <;> [exact rfl; skip]
    | (with_reducible apply ActGrows.ite) <;> intro _
    | with_reducible apply ActGrows.act
    | with_reducible apply ActGrows.waitDo
    | (with_reducible apply Grows.ite) <;> intro _
    | dsimp only
    | split

theorem execRequest_next (x1 x2) (s : State) : ∃ t, execRequest x1 x2 s = .next t ∧ Grows 8913030 s t := by
  refine ⟨_, rfl, ?_⟩
  try dsimp only
  repeat' first
    | with_reducible exact Grows.refl _ _
    | with_reducible exact ActGrows.wait
    | with_reducible exact ActGrows.fault
    | with_reducible exact ActGrows.check
    | (with_reducible apply command_grows) <;> [exact rfl; skip; intro _]
    | (with_reducible apply Grows.step (requestOp_grows ..)) <;> [exact rfl; skip]
    | (with_reducible apply ActGrows.ite) <;> intro _
    | with_reducible apply ActGrows.act
    | with_reducible apply ActGrows.waitDo
    | (with_reducible apply Grows.ite) <;> intro _
    | dsimp only
    | split

theorem execCancel_next (x1 x2) (s : State) : ∃ t, execCancel x1 x2 s = .next t ∧ Grows 8913030 s t := by
  refine ⟨_, rfl, ?_⟩
  try dsimp only
  repeat' first
    | with_reducible exact Grows.refl _ _
    | with_reducible exact ActGrows.wait
    | with_reducible exact ActGrows.fault
    | with_reducible exact ActGrows.check
    | (with_reducible apply command_grows) <;> [exact rfl; skip; intro _]
    | (with_reducible apply Grows.step (cancelOp_grows ..)) <;> [exact rfl; skip]
    | (with_reducible apply ActGrows.ite) <;> intro _
    | with_reducible apply ActGrows.act
    | with_reducible apply ActGrows.waitDo
    | (with_reducible apply Grows.ite) <;> intro _
    | dsimp only
    | split

theorem execEpochSwitch_next (x1 x2) (s : State) : ∃ t, execEpochSwitch x1 x2 s = .next t ∧ Grows 9175174 s t := by
  refine ⟨_, rfl, ?_⟩
  try dsimp only
  repeat' first
    | with_reducible exact Grows.refl _ _
    | with_reducible exact ActGrows.wait
    | with_reducible exact ActGrows.fault
    | with_reducible exact ActGrows.check
    | (with_reducible apply command_grows) <;> [exact rfl; skip; intro _]
    | (with_reducible apply Grows.step (epochSwitchOp_grows ..)) <;> [exact rfl; skip]
    | (with_reducible apply ActGrows.ite) <;> intro _
    | with_reducible apply ActGrows.act
    | with_reducible apply ActGrows.waitDo
    | (with_reducible apply Grows.ite) <;> intro _
    | dsimp only
    | split

theorem execEpochWithdraw_next (x1) (s : State) : ∃ t, execEpochWithdraw x1 s = .next t ∧ Grows 9175174 s t := by
  refine ⟨_, rfl, ?_⟩
  try dsimp only
  repeat' first
    | with_reducible exact Grows.refl _ _
    | with_reducible exact ActGrows.wait
    | with_reducible exact ActGrows.fault
    | with_reducible exact ActGrows.check
    | (with_reducible apply command_grows) <;> [exact rfl; skip; intro _]
    | (with_reducible apply Grows.step (epochWithdrawOp_grows ..)) <;> [exact rfl; skip]
    | (with_reducible apply ActGrows.ite) <;> intro _
    | with_reducible apply ActGrows.act
    | with_reducible apply ActGrows.waitDo
    | (with_reducible apply Grows.ite) <;> intro _
    | dsimp only
    | split

theorem execStreamLimits_next (x1 x2 x3) (s : State) : ∃ t, execStreamLimits x1 x2 x3 s = .next t ∧ Grows 9175174 s t := by
  refine ⟨_, rfl, ?_⟩
  try dsimp only
  repeat' first
    | with_reducible exact Grows.refl _ _
    | with_reducible exact ActGrows.wait
    | with_reducible exact ActGrows.fault
    | with_reducible exact ActGrows.check
    | (with_reducible apply command_grows) <;> [exact rfl; skip; intro _]
    | (with_reducible apply Grows.step (streamLimitsOp_grows ..)) <;> [exact rfl; skip]
    | (with_reducible apply ActGrows.ite) <;> intro _
    | with_reducible apply ActGrows.act
    | with_reducible apply ActGrows.waitDo
    | (with_reducible apply Grows.ite) <;> intro _
    | dsimp only
    | split

theorem execStreamStatus_next (x1) (s : State) : ∃ t, execStreamStatus x1 s = .next t ∧ Grows 8913030 s t := by
  refine ⟨_, rfl, ?_⟩
  try dsimp only
  repeat' first
    | with_reducible exact Grows.refl _ _
    | with_reducible exact ActGrows.wait
    | with_reducible exact ActGrows.fault
    | with_reducible exact ActGrows.check
    | (with_reducible apply command_grows) <;> [exact rfl; skip; intro _]
    | (with_reducible apply Grows.step (streamStatusOp_grows ..)) <;> [exact rfl; skip]
    | (with_reducible apply ActGrows.ite) <;> intro _
    | with_reducible apply ActGrows.act
    | with_reducible apply ActGrows.waitDo
    | (with_reducible apply Grows.ite) <;> intro _
    | dsimp only
    | split

end Sys2Proof.Machine
end

