-- ==== Sys2Proof/Laws/MeaningsCores.lean ====
section
/-! SUPPORT. What each meaning of Machine/Cores.lean answers: a next state, and what it may have changed. -/

namespace Sys2Proof.Machine

theorem execNop_next (x1 x2) (s : State) : ∃ t, execNop x1 x2 s = .next t ∧ Grows 25920132 s t := by
  refine ⟨_, rfl, ?_⟩
  try dsimp only
  repeat' first
    | with_reducible exact Grows.refl _ _
    | with_reducible exact ActGrows.wait
    | with_reducible exact ActGrows.fault
    | with_reducible exact ActGrows.check
    | (with_reducible apply runInstr_grows) <;> [exact rfl; skip; intro _ _ _ _ _]
    | (with_reducible apply Grows.step (advance_grows ..)) <;> [exact rfl; skip]
    | (with_reducible apply ActGrows.ite) <;> intro _
    | with_reducible apply ActGrows.act
    | with_reducible apply ActGrows.waitDo
    | (with_reducible apply Grows.ite) <;> intro _
    | dsimp only
    | split

theorem execEndTask_next (x1) (s : State) : ∃ t, execEndTask x1 s = .next t ∧ Grows 25924228 s t := by
  refine ⟨_, rfl, ?_⟩
  try dsimp only
  repeat' first
    | with_reducible exact Grows.refl _ _
    | with_reducible exact ActGrows.wait
    | with_reducible exact ActGrows.fault
    | with_reducible exact ActGrows.check
    | (with_reducible apply runInstr_grows) <;> [exact rfl; skip; intro _ _ _ _ _]
    | (with_reducible apply Grows.step (settleUnits_grows ..)) <;> [exact rfl; skip]
    | (with_reducible apply Grows.step (endTaskAt_grows ..)) <;> [exact rfl; skip]
    | (with_reducible apply ActGrows.ite) <;> intro _
    | with_reducible apply ActGrows.act
    | with_reducible apply ActGrows.waitDo
    | (with_reducible apply Grows.ite) <;> intro _
    | dsimp only
    | split

theorem execBranch_next (x1 x2) (s : State) : ∃ t, execBranch x1 x2 s = .next t ∧ Grows 25920132 s t := by
  refine ⟨_, rfl, ?_⟩
  try dsimp only
  repeat' first
    | with_reducible exact Grows.refl _ _
    | with_reducible exact ActGrows.wait
    | with_reducible exact ActGrows.fault
    | with_reducible exact ActGrows.check
    | (with_reducible apply runInstr_grows) <;> [exact rfl; skip; intro _ _ _ _ _]
    | (with_reducible apply Grows.step (jump_grows ..)) <;> [exact rfl; skip]
    | (with_reducible apply ActGrows.ite) <;> intro _
    | with_reducible apply ActGrows.act
    | with_reducible apply ActGrows.waitDo
    | (with_reducible apply Grows.ite) <;> intro _
    | dsimp only
    | split

theorem execLoop_next (x1 x2 x3) (s : State) : ∃ t, execLoop x1 x2 x3 s = .next t ∧ Grows 25920132 s t := by
  refine ⟨_, rfl, ?_⟩
  try dsimp only
  repeat' first
    | with_reducible exact Grows.refl _ _
    | with_reducible exact ActGrows.wait
    | with_reducible exact ActGrows.fault
    | with_reducible exact ActGrows.check
    | (with_reducible apply runInstr_grows) <;> [exact rfl; skip; intro _ _ _ _ _]
    | (with_reducible apply Grows.step (loopTo_grows ..)) <;> [exact rfl; skip]
    | (with_reducible apply ActGrows.ite) <;> intro _
    | with_reducible apply ActGrows.act
    | with_reducible apply ActGrows.waitDo
    | (with_reducible apply Grows.ite) <;> intro _
    | dsimp only
    | split

theorem execArm_next (x1 x2 x3) (s : State) : ∃ t, execArm x1 x2 x3 s = .next t ∧ Grows 25920132 s t := by
  refine ⟨_, rfl, ?_⟩
  try dsimp only
  repeat' first
    | with_reducible exact Grows.refl _ _
    | with_reducible exact ActGrows.wait
    | with_reducible exact ActGrows.fault
    | with_reducible exact ActGrows.check
    | (with_reducible apply runInstr_grows) <;> [exact rfl; skip; intro _ _ _ _ _]
    | (with_reducible apply Grows.step (advance_grows ..)) <;> [exact rfl; skip]
    | (with_reducible apply Grows.step (updCore_grows ..)) <;> [exact rfl; skip]
    | (with_reducible apply ActGrows.ite) <;> intro _
    | with_reducible apply ActGrows.act
    | with_reducible apply ActGrows.waitDo
    | (with_reducible apply Grows.ite) <;> intro _
    | dsimp only
    | split

theorem execSignal_next (x1 x2 x3 x4) (s : State) : ∃ t, execSignal x1 x2 x3 x4 s = .next t ∧ Grows 25920132 s t := by
  refine ⟨_, rfl, ?_⟩
  try dsimp only
  repeat' first
    | with_reducible exact Grows.refl _ _
    | with_reducible exact ActGrows.wait
    | with_reducible exact ActGrows.fault
    | with_reducible exact ActGrows.check
    | (with_reducible apply runInstr_grows) <;> [exact rfl; skip; intro _ _ _ _ _]
    | (with_reducible apply Grows.step (advance_grows ..)) <;> [exact rfl; skip]
    | (with_reducible apply Grows.step (signalFrom_grows ..)) <;> [exact rfl; skip]
    | (with_reducible apply ActGrows.ite) <;> intro _
    | with_reducible apply ActGrows.act
    | with_reducible apply ActGrows.waitDo
    | (with_reducible apply Grows.ite) <;> intro _
    | dsimp only
    | split

theorem execSeed_next (x1 x2 x3) (s : State) : ∃ t, execSeed x1 x2 x3 s = .next t ∧ Grows 25920132 s t := by
  refine ⟨_, rfl, ?_⟩
  try dsimp only
  repeat' first
    | with_reducible exact Grows.refl _ _
    | with_reducible exact ActGrows.wait
    | with_reducible exact ActGrows.fault
    | with_reducible exact ActGrows.check
    | (with_reducible apply runInstr_grows) <;> [exact rfl; skip; intro _ _ _ _ _]
    | (with_reducible apply Grows.step (advance_grows ..)) <;> [exact rfl; skip]
    | (with_reducible apply Grows.step (updCtx_grows ..)) <;> [exact rfl; skip]
    | (with_reducible apply ActGrows.ite) <;> intro _
    | with_reducible apply ActGrows.act
    | with_reducible apply ActGrows.waitDo
    | (with_reducible apply Grows.ite) <;> intro _
    | dsimp only
    | split

theorem execSpawn_next (x1 x2 x3 x4) (s : State) : ∃ t, execSpawn x1 x2 x3 x4 s = .next t ∧ Grows 25920132 s t := by
  refine ⟨_, rfl, ?_⟩
  try dsimp only
  repeat' first
    | with_reducible exact Grows.refl _ _
    | with_reducible exact ActGrows.wait
    | with_reducible exact ActGrows.fault
    | with_reducible exact ActGrows.check
    | (with_reducible apply runInstr_grows) <;> [exact rfl; skip; intro _ _ _ _ _]
    | (with_reducible apply Grows.step (advance_grows ..)) <;> [exact rfl; skip]
    | (with_reducible apply Grows.step (spawnTask_grows ..)) <;> [exact rfl; skip]
    | (with_reducible apply ActGrows.ite) <;> intro _
    | with_reducible apply ActGrows.act
    | with_reducible apply ActGrows.waitDo
    | (with_reducible apply Grows.ite) <;> intro _
    | dsimp only
    | split

theorem execCopy_next (x1 x2 x3 x4 x5) (s : State) : ∃ t, execCopy x1 x2 x3 x4 x5 s = .next t ∧ Grows 30114436 s t := by
  refine ⟨_, rfl, ?_⟩
  try dsimp only
  repeat' first
    | with_reducible exact Grows.refl _ _
    | with_reducible exact ActGrows.wait
    | with_reducible exact ActGrows.fault
    | with_reducible exact ActGrows.check
    | (with_reducible apply runInstr_grows) <;> [exact rfl; skip; intro _ _ _ _ _]
    | (with_reducible apply onMove_acts) <;> [exact rfl; intro _]
    | (with_reducible apply Grows.step (writeSram_grows ..)) <;> [exact rfl; skip]
    | (with_reducible apply Grows.step (loadMask_grows ..)) <;> [exact rfl; skip]
    | (with_reducible apply ActGrows.ite) <;> intro _
    | with_reducible apply ActGrows.act
    | with_reducible apply ActGrows.waitDo
    | (with_reducible apply Grows.ite) <;> intro _
    | dsimp only
    | split

theorem execFill_next (x1 x2 x3 x4) (s : State) : ∃ t, execFill x1 x2 x3 x4 s = .next t ∧ Grows 25920132 s t := by
  refine ⟨_, rfl, ?_⟩
  try dsimp only
  repeat' first
    | with_reducible exact Grows.refl _ _
    | with_reducible exact ActGrows.wait
    | with_reducible exact ActGrows.fault
    | with_reducible exact ActGrows.check
    | (with_reducible apply runInstr_grows) <;> [exact rfl; skip; intro _ _ _ _ _]
    | (with_reducible apply onMove_acts) <;> [exact rfl; intro _]
    | (with_reducible apply Grows.step (writeSram_grows ..)) <;> [exact rfl; skip]
    | (with_reducible apply ActGrows.ite) <;> intro _
    | with_reducible apply ActGrows.act
    | with_reducible apply ActGrows.waitDo
    | (with_reducible apply Grows.ite) <;> intro _
    | dsimp only
    | split

theorem execScatter_next (x1 x2 x3 x4) (s : State) : ∃ t, execScatter x1 x2 x3 x4 s = .next t ∧ Grows 25920132 s t := by
  refine ⟨_, rfl, ?_⟩
  try dsimp only
  repeat' first
    | with_reducible exact Grows.refl _ _
    | with_reducible exact ActGrows.wait
    | with_reducible exact ActGrows.fault
    | with_reducible exact ActGrows.check
    | (with_reducible apply runInstr_grows) <;> [exact rfl; skip; intro _ _ _ _ _]
    | (with_reducible apply onMove_acts) <;> [exact rfl; intro _]
    | (with_reducible apply Grows.step (scatterItems_grows ..)) <;> [exact rfl; skip]
    | (with_reducible apply ActGrows.ite) <;> intro _
    | with_reducible apply ActGrows.act
    | with_reducible apply ActGrows.waitDo
    | (with_reducible apply Grows.ite) <;> intro _
    | dsimp only
    | split

theorem execGather_next (x1 x2 x3 x4 x5) (s : State) : ∃ t, execGather x1 x2 x3 x4 x5 s = .next t ∧ Grows 25920132 s t := by
  refine ⟨_, rfl, ?_⟩
  try dsimp only
  repeat' first
    | with_reducible exact Grows.refl _ _
    | with_reducible exact ActGrows.wait
    | with_reducible exact ActGrows.fault
    | with_reducible exact ActGrows.check
    | (with_reducible apply runInstr_grows) <;> [exact rfl; skip; intro _ _ _ _ _]
    | (with_reducible apply onMove_acts) <;> [exact rfl; intro _]
    | exact ActGrows.mono (gatherPlain_acts ..) rfl
    | exact ActGrows.mono (gatherUnion_acts ..) rfl
    | (with_reducible apply ActGrows.ite) <;> intro _
    | with_reducible apply ActGrows.act
    | with_reducible apply ActGrows.waitDo
    | (with_reducible apply Grows.ite) <;> intro _
    | dsimp only
    | split

theorem execLatch_next (x1 x2 x3) (s : State) : ∃ t, execLatch x1 x2 x3 s = .next t ∧ Grows 25920132 s t := by
  refine ⟨_, rfl, ?_⟩
  try dsimp only
  repeat' first
    | with_reducible exact Grows.refl _ _
    | with_reducible exact ActGrows.wait
    | with_reducible exact ActGrows.fault
    | with_reducible exact ActGrows.check
    | (with_reducible apply runInstr_grows) <;> [exact rfl; skip; intro _ _ _ _ _]
    | (with_reducible apply onMove_acts) <;> [exact rfl; intro _]
    | (with_reducible apply Grows.step (updCore_grows ..)) <;> [exact rfl; skip]
    | (with_reducible apply ActGrows.ite) <;> intro _
    | with_reducible apply ActGrows.act
    | with_reducible apply ActGrows.waitDo
    | (with_reducible apply Grows.ite) <;> intro _
    | dsimp only
    | split

end Sys2Proof.Machine
end

