-- ==== Sys2Proof/Laws/MeaningsFabric.lean ====
section
/-! SUPPORT. What each meaning of Machine/Fabric.lean answers: a next state, and what it may have changed. -/

namespace Sys2Proof.Machine

theorem execFlitReceived_next (x1 x2 x3 x4) (s : State) : ∃ t, execFlitReceived x1 x2 x3 x4 s = .next t ∧ Grows 16842757 s t := by
  refine ⟨_, rfl, ?_⟩
  try dsimp only
  repeat' first
    | with_reducible exact Grows.refl _ _
    | with_reducible exact ActGrows.wait
    | with_reducible exact ActGrows.fault
    | with_reducible exact ActGrows.check
    | with_reducible apply Grows.whenReady
    | (with_reducible apply Grows.step (atTime_grows ..)) <;> [exact rfl; skip]
    | (with_reducible apply Grows.step (setLink_grows ..)) <;> [exact rfl; skip]
    | (with_reducible apply Grows.step (emit_grows ..)) <;> [exact rfl; skip]
    | (with_reducible apply Grows.step (count_grows ..)) <;> [exact rfl; skip]
    | (with_reducible apply ActGrows.ite) <;> intro _
    | with_reducible apply ActGrows.act
    | with_reducible apply ActGrows.waitDo
    | (with_reducible apply Grows.ite) <;> intro _
    | dsimp only
    | split

theorem execFlitResend_next (x1) (s : State) : ∃ t, execFlitResend x1 s = .next t ∧ Grows 65540 s t := by
  refine ⟨_, rfl, ?_⟩
  try dsimp only
  repeat' first
    | with_reducible exact Grows.refl _ _
    | with_reducible exact ActGrows.wait
    | with_reducible exact ActGrows.fault
    | with_reducible exact ActGrows.check
    | with_reducible apply Grows.whenReady
    | (with_reducible apply Grows.step (emit_grows ..)) <;> [exact rfl; skip]
    | (with_reducible apply Grows.step (setLink_grows ..)) <;> [exact rfl; skip]
    | (with_reducible apply ActGrows.ite) <;> intro _
    | with_reducible apply ActGrows.act
    | with_reducible apply ActGrows.waitDo
    | (with_reducible apply Grows.ite) <;> intro _
    | dsimp only
    | split

theorem execLinkRetrain_next (x1) (s : State) : ∃ t, execLinkRetrain x1 s = .next t ∧ Grows 16842752 s t := by
  refine ⟨_, rfl, ?_⟩
  try dsimp only
  repeat' first
    | with_reducible exact Grows.refl _ _
    | with_reducible exact ActGrows.wait
    | with_reducible exact ActGrows.fault
    | with_reducible exact ActGrows.check
    | with_reducible apply Grows.whenReady
    | (with_reducible apply Grows.step (count_grows ..)) <;> [exact rfl; skip]
    | (with_reducible apply Grows.step (setLink_grows ..)) <;> [exact rfl; skip]
    | (with_reducible apply ActGrows.ite) <;> intro _
    | with_reducible apply ActGrows.act
    | with_reducible apply ActGrows.waitDo
    | (with_reducible apply Grows.ite) <;> intro _
    | dsimp only
    | split

theorem execLinkRetrainDone_next (x1 x2 x3) (s : State) : ∃ t, execLinkRetrainDone x1 x2 x3 s = .next t ∧ Grows 32211588 s t := by
  refine ⟨_, rfl, ?_⟩
  try dsimp only
  repeat' first
    | with_reducible exact Grows.refl _ _
    | with_reducible exact ActGrows.wait
    | with_reducible exact ActGrows.fault
    | with_reducible exact ActGrows.check
    | with_reducible apply Grows.whenReady
    | (with_reducible apply Grows.each) <;> [skip; intro _ _]
    | (with_reducible apply Grows.step (setQueue_grows ..)) <;> [exact rfl; skip]
    | (with_reducible apply Grows.step (drainLink_grows ..)) <;> [exact rfl; skip]
    | (with_reducible apply Grows.step (setLink_grows ..)) <;> [exact rfl; skip]
    | (with_reducible apply Grows.step (retireLink_grows ..)) <;> [exact rfl; skip]
    | (with_reducible apply ActGrows.ite) <;> intro _
    | with_reducible apply ActGrows.act
    | with_reducible apply ActGrows.waitDo
    | (with_reducible apply Grows.ite) <;> intro _
    | dsimp only
    | split

theorem execPacketForward_next (x1 x2 x3 x4) (s : State) : ∃ t, execPacketForward x1 x2 x3 x4 s = .next t ∧ Grows 18939908 s t := by
  refine ⟨_, rfl, ?_⟩
  try dsimp only
  repeat' first
    | with_reducible exact Grows.refl _ _
    | with_reducible exact ActGrows.wait
    | with_reducible exact ActGrows.fault
    | with_reducible exact ActGrows.check
    | with_reducible apply Grows.whenReady
    | (with_reducible apply Grows.step (count_grows ..)) <;> [exact rfl; skip]
    | (with_reducible apply Grows.step (forward_grows ..)) <;> [exact rfl; skip]
    | (with_reducible apply ActGrows.ite) <;> intro _
    | with_reducible apply ActGrows.act
    | with_reducible apply ActGrows.waitDo
    | (with_reducible apply Grows.ite) <;> intro _
    | dsimp only
    | split

theorem execUnitMapChange_next (x1 x2) (s : State) : ∃ t, execUnitMapChange x1 x2 s = .next t ∧ Grows 9142916 s t := by
  refine ⟨_, rfl, ?_⟩
  try dsimp only
  repeat' first
    | with_reducible exact Grows.refl _ _
    | with_reducible exact ActGrows.wait
    | with_reducible exact ActGrows.fault
    | with_reducible exact ActGrows.check
    | with_reducible apply Grows.whenReady
    | (with_reducible apply Grows.step (changeMap_grows ..)) <;> [exact rfl; skip]
    | (with_reducible apply ActGrows.ite) <;> intro _
    | with_reducible apply ActGrows.act
    | with_reducible apply ActGrows.waitDo
    | (with_reducible apply Grows.ite) <;> intro _
    | dsimp only
    | split

theorem execLPortWrite_next (x1 x2 x3) (s : State) : ∃ t, execLPortWrite x1 x2 x3 s = .next t ∧ Grows 26968708 s t := by
  refine ⟨_, rfl, ?_⟩
  try dsimp only
  repeat' first
    | with_reducible exact Grows.refl _ _
    | with_reducible exact ActGrows.wait
    | with_reducible exact ActGrows.fault
    | with_reducible exact ActGrows.check
    | with_reducible apply Grows.whenReady
    | (with_reducible apply Grows.step (anchorPort_grows ..)) <;> [exact rfl; skip]
    | (with_reducible apply Grows.step (portRead_grows ..)) <;> [exact rfl; skip]
    | (with_reducible apply Grows.step (localPort_grows ..)) <;> [exact rfl; skip]
    | (with_reducible apply ActGrows.ite) <;> intro _
    | with_reducible apply ActGrows.act
    | with_reducible apply ActGrows.waitDo
    | (with_reducible apply Grows.ite) <;> intro _
    | dsimp only
    | split

end Sys2Proof.Machine
end

