-- ==== Sys2Proof/Laws/MeaningsFields.lean ====
section
/-! SUPPORT. What each meaning of Machine/Fields.lean answers: a next state, and what it may have changed. -/

namespace Sys2Proof.Machine

theorem execFieldDark_next (x1 x2) (s : State) : ∃ t, execFieldDark x1 x2 s = .next t ∧ Grows 32211076 s t := by
  refine ⟨_, rfl, ?_⟩
  try dsimp only
  repeat' first
    | with_reducible exact Grows.refl _ _
    | with_reducible exact ActGrows.wait
    | with_reducible exact ActGrows.fault
    | with_reducible exact ActGrows.check
    | with_reducible apply Grows.whenReady
    | (with_reducible apply Grows.step (darkField_grows ..)) <;> [exact rfl; skip]
    | (with_reducible apply ActGrows.ite) <;> intro _
    | with_reducible apply ActGrows.act
    | with_reducible apply ActGrows.waitDo
    | (with_reducible apply Grows.ite) <;> intro _
    | dsimp only
    | split

theorem execFieldShade_next (x1 x2) (s : State) : ∃ t, execFieldShade x1 x2 s = .next t ∧ Grows 13336708 s t := by
  refine ⟨_, rfl, ?_⟩
  try dsimp only
  repeat' first
    | with_reducible exact Grows.refl _ _
    | with_reducible exact ActGrows.wait
    | with_reducible exact ActGrows.fault
    | with_reducible exact ActGrows.check
    | with_reducible apply Grows.whenReady
    | (with_reducible apply Grows.step (shadeField_grows ..)) <;> [exact rfl; skip]
    | (with_reducible apply ActGrows.ite) <;> intro _
    | with_reducible apply ActGrows.act
    | with_reducible apply ActGrows.waitDo
    | (with_reducible apply Grows.ite) <;> intro _
    | dsimp only
    | split

theorem execRouteTablesInstalled_next (s : State) : ∃ t, execRouteTablesInstalled s = .next t ∧ Grows 32211588 s t := by
  refine ⟨_, rfl, ?_⟩
  try dsimp only
  repeat' first
    | with_reducible exact Grows.refl _ _
    | with_reducible exact ActGrows.wait
    | with_reducible exact ActGrows.fault
    | with_reducible exact ActGrows.check
    | with_reducible apply Grows.whenReady
    | (with_reducible apply Grows.step (installTables_grows ..)) <;> [exact rfl; skip]
    | (with_reducible apply ActGrows.ite) <;> intro _
    | with_reducible apply ActGrows.act
    | with_reducible apply ActGrows.waitDo
    | (with_reducible apply Grows.ite) <;> intro _
    | dsimp only
    | split

end Sys2Proof.Machine
end

