-- ==== Sys2Proof/Laws/MeaningsFused.lean ====
section
/-! SUPPORT. What each meaning of Machine/Fused.lean answers: a next state, and what it may have changed. -/

namespace Sys2Proof.Machine

theorem execSend_next (x1 x2 x3 x4 x5 x6 x7 x8) (s : State) : ∃ t, execSend x1 x2 x3 x4 x5 x6 x7 x8 s = .next t ∧ Grows 25920132 s t := by
  refine ⟨_, rfl, ?_⟩
  try dsimp only
  repeat' first
    | with_reducible exact Grows.refl _ _
    | with_reducible exact ActGrows.wait
    | with_reducible exact ActGrows.fault
    | with_reducible exact ActGrows.check
    | (with_reducible apply runInstr_grows) <;> [exact rfl; skip; intro _ _ _ _ _]
    | (with_reducible apply onComm_acts) <;> [exact rfl; intro _]
    | (with_reducible apply sendFrom_grows) <;> [exact rfl; skip; intro _]
    | (with_reducible apply Grows.step (sendSpan_grows ..)) <;> [exact rfl; skip]
    | (with_reducible apply ActGrows.ite) <;> intro _
    | with_reducible apply ActGrows.act
    | with_reducible apply ActGrows.waitDo
    | (with_reducible apply Grows.ite) <;> intro _
    | dsimp only
    | split

theorem execRead_next (x1 x2 x3 x4 x5 x6 x7 x8) (s : State) : ∃ t, execRead x1 x2 x3 x4 x5 x6 x7 x8 s = .next t ∧ Grows 25920132 s t := by
  refine ⟨_, rfl, ?_⟩
  try dsimp only
  repeat' first
    | with_reducible exact Grows.refl _ _
    | with_reducible exact ActGrows.wait
    | with_reducible exact ActGrows.fault
    | with_reducible exact ActGrows.check
    | (with_reducible apply runInstr_grows) <;> [exact rfl; skip; intro _ _ _ _ _]
    | (with_reducible apply onComm_acts) <;> [exact rfl; intro _]
    | (with_reducible apply sendFrom_grows) <;> [exact rfl; skip; intro _]
    | (with_reducible apply Grows.step (readSpan_grows ..)) <;> [exact rfl; skip]
    | (with_reducible apply ActGrows.ite) <;> intro _
    | with_reducible apply ActGrows.act
    | with_reducible apply ActGrows.waitDo
    | (with_reducible apply Grows.ite) <;> intro _
    | dsimp only
    | split

theorem execGlint_next (x1 x2 x3 x4) (s : State) : ∃ t, execGlint x1 x2 x3 x4 s = .next t ∧ Grows 28017284 s t := by
  refine ⟨_, rfl, ?_⟩
  try dsimp only
  repeat' first
    | with_reducible exact Grows.refl _ _
    | with_reducible exact ActGrows.wait
    | with_reducible exact ActGrows.fault
    | with_reducible exact ActGrows.check
    | (with_reducible apply runInstr_grows) <;> [exact rfl; skip; intro _ _ _ _ _]
    | (with_reducible apply onComm_acts) <;> [exact rfl; intro _]
    | (with_reducible apply sendFrom_grows) <;> [exact rfl; skip; intro _]
    | (with_reducible apply Grows.step (contribute_grows ..)) <;> [exact rfl; skip]
    | (with_reducible apply ActGrows.ite) <;> intro _
    | with_reducible apply ActGrows.act
    | with_reducible apply ActGrows.waitDo
    | (with_reducible apply Grows.ite) <;> intro _
    | dsimp only
    | split

theorem execRacc_next (x1 x2 x3) (s : State) : ∃ t, execRacc x1 x2 x3 s = .next t ∧ Grows 26968708 s t := by
  refine ⟨_, rfl, ?_⟩
  try dsimp only
  repeat' first
    | with_reducible exact Grows.refl _ _
    | with_reducible exact ActGrows.wait
    | with_reducible exact ActGrows.fault
    | with_reducible exact ActGrows.check
    | (with_reducible apply runInstr_grows) <;> [exact rfl; skip; intro _ _ _ _ _]
    | (with_reducible apply onComm_acts) <;> [exact rfl; intro _]
    | (with_reducible apply sendFrom_grows) <;> [exact rfl; skip; intro _]
    | (with_reducible apply Grows.step (gradientPiece_grows ..)) <;> [exact rfl; skip]
    | (with_reducible apply ActGrows.ite) <;> intro _
    | with_reducible apply ActGrows.act
    | with_reducible apply ActGrows.waitDo
    | (with_reducible apply Grows.ite) <;> intro _
    | dsimp only
    | split

theorem execMmaRs_next (x1 x2 x3 x4 x5) (s : State) : ∃ t, execMmaRs x1 x2 x3 x4 x5 s = .next t ∧ Grows 28017284 s t := by
  refine ⟨_, rfl, ?_⟩
  try dsimp only
  repeat' first
    | with_reducible exact Grows.refl _ _
    | with_reducible exact ActGrows.wait
    | with_reducible exact ActGrows.fault
    | with_reducible exact ActGrows.check
    | (with_reducible apply runInstr_grows) <;> [exact rfl; skip; intro _ _ _ _ _]
    | (with_reducible apply fused_acts) <;> [exact rfl; intro _ _]
    | (with_reducible apply sendFrom_grows) <;> [exact rfl; skip; intro _]
    | (with_reducible apply Grows.step (handTile_grows ..)) <;> [exact rfl; skip]
    | (with_reducible apply ActGrows.ite) <;> intro _
    | with_reducible apply ActGrows.act
    | with_reducible apply ActGrows.waitDo
    | (with_reducible apply Grows.ite) <;> intro _
    | dsimp only
    | split

theorem execAgMma_next (x1 x2 x3) (s : State) : ∃ t, execAgMma x1 x2 x3 s = .next t ∧ Grows 25920132 s t := by
  refine ⟨_, rfl, ?_⟩
  try dsimp only
  repeat' first
    | with_reducible exact Grows.refl _ _
    | with_reducible exact ActGrows.wait
    | with_reducible exact ActGrows.fault
    | with_reducible exact ActGrows.check
    | (with_reducible apply runInstr_grows) <;> [exact rfl; skip; intro _ _ _ _ _]
    | (with_reducible apply Grows.step (updCore_grows ..)) <;> [exact rfl; skip]
    | (with_reducible apply Grows.step (advance_grows ..)) <;> [exact rfl; skip]
    | (with_reducible apply Grows.step (useSet_grows ..)) <;> [exact rfl; skip]
    | (with_reducible apply ActGrows.ite) <;> intro _
    | with_reducible apply ActGrows.act
    | with_reducible apply ActGrows.waitDo
    | (with_reducible apply Grows.ite) <;> intro _
    | dsimp only
    | split

theorem execMmaRacc_next (x1 x2 x3) (s : State) : ∃ t, execMmaRacc x1 x2 x3 s = .next t ∧ Grows 26968708 s t := by
  refine ⟨_, rfl, ?_⟩
  try dsimp only
  repeat' first
    | with_reducible exact Grows.refl _ _
    | with_reducible exact ActGrows.wait
    | with_reducible exact ActGrows.fault
    | with_reducible exact ActGrows.check
    | (with_reducible apply runInstr_grows) <;> [exact rfl; skip; intro _ _ _ _ _]
    | (with_reducible apply fused_acts) <;> [exact rfl; intro _ _]
    | (with_reducible apply Grows.step (drainTile_grows ..)) <;> [exact rfl; skip]
    | (with_reducible apply ActGrows.ite) <;> intro _
    | with_reducible apply ActGrows.act
    | with_reducible apply ActGrows.waitDo
    | (with_reducible apply Grows.ite) <;> intro _
    | dsimp only
    | split

theorem execMmaSpill_next (x1 x2) (s : State) : ∃ t, execMmaSpill x1 x2 s = .next t ∧ Grows 25920132 s t := by
  refine ⟨_, rfl, ?_⟩
  try dsimp only
  repeat' first
    | with_reducible exact Grows.refl _ _
    | with_reducible exact ActGrows.wait
    | with_reducible exact ActGrows.fault
    | with_reducible exact ActGrows.check
    | (with_reducible apply runInstr_grows) <;> [exact rfl; skip; intro _ _ _ _ _]
    | (with_reducible apply fused_acts) <;> [exact rfl; intro _ _]
    | (with_reducible apply sendFrom_grows) <;> [exact rfl; skip; intro _]
    | (with_reducible apply Grows.step (fromBlock_grows ..)) <;> [exact rfl; skip]
    | (with_reducible apply ActGrows.ite) <;> intro _
    | with_reducible apply ActGrows.act
    | with_reducible apply ActGrows.waitDo
    | (with_reducible apply Grows.ite) <;> intro _
    | dsimp only
    | split

end Sys2Proof.Machine
end

