-- ==== Sys2Proof/Laws/MeaningsGlint.lean ====
section
/-! SUPPORT. What each meaning of Machine/Glint.lean answers: a next state, and what it may have changed. -/

namespace Sys2Proof.Machine

theorem execGlintPacket_next (x1 x2 x3 x4) (s : State) : ∃ t, execGlintPacket x1 x2 x3 x4 s = .next t ∧ Grows 18907141 s t := by
  refine ⟨_, rfl, ?_⟩
  try dsimp only
  repeat' first
    | with_reducible exact Grows.refl _ _
    | with_reducible exact ActGrows.wait
    | with_reducible exact ActGrows.fault
    | with_reducible exact ActGrows.check
    | with_reducible apply Grows.whenReady
    | (with_reducible apply Grows.step (atTime_grows ..)) <;> [exact rfl; skip]
    | (with_reducible apply Grows.step (glintAt_grows ..)) <;> [exact rfl; skip]
    | (with_reducible apply ActGrows.ite) <;> intro _
    | with_reducible apply ActGrows.act
    | with_reducible apply ActGrows.waitDo
    | (with_reducible apply Grows.ite) <;> intro _
    | dsimp only
    | split

end Sys2Proof.Machine
end

