-- ==== Sys2Proof/Laws/MeaningsManage.lean ====
section
/-! SUPPORT. What each meaning of Machine/Manage.lean answers: a next state, and what it may have changed. -/

namespace Sys2Proof.Machine

theorem execIdentify_next (x1) (s : State) : ∃ t, execIdentify x1 s = .next t ∧ Grows 8913030 s t := by
  refine ⟨_, rfl, ?_⟩
  try dsimp only
  repeat' first
    | with_reducible exact Grows.refl _ _
    | with_reducible exact ActGrows.wait
    | with_reducible exact ActGrows.fault
    | with_reducible exact ActGrows.check
    | (with_reducible apply command_grows) <;> [exact rfl; skip; intro _]
    | (with_reducible apply Grows.step (identifyOp_grows ..)) <;> [exact rfl; skip]
    | (with_reducible apply ActGrows.ite) <;> intro _
    | with_reducible apply ActGrows.act
    | with_reducible apply ActGrows.waitDo
    | (with_reducible apply Grows.ite) <;> intro _
    | dsimp only
    | split

theorem execSizeTable_next (x1) (s : State) : ∃ t, execSizeTable x1 s = .next t ∧ Grows 8913030 s t := by
  refine ⟨_, rfl, ?_⟩
  try dsimp only
  repeat' first
    | with_reducible exact Grows.refl _ _
    | with_reducible exact ActGrows.wait
    | with_reducible exact ActGrows.fault
    | with_reducible exact ActGrows.check
    | (with_reducible apply command_grows) <;> [exact rfl; skip; intro _]
    | (with_reducible apply Grows.step (sizeTableOp_grows ..)) <;> [exact rfl; skip]
    | (with_reducible apply ActGrows.ite) <;> intro _
    | with_reducible apply ActGrows.act
    | with_reducible apply ActGrows.waitDo
    | (with_reducible apply Grows.ite) <;> intro _
    | dsimp only
    | split

theorem execSetNet_next (x1 x2) (s : State) : ∃ t, execSetNet x1 x2 s = .next t ∧ Grows 8913046 s t := by
  refine ⟨_, rfl, ?_⟩
  try dsimp only
  repeat' first
    | with_reducible exact Grows.refl _ _
    | with_reducible exact ActGrows.wait
    | with_reducible exact ActGrows.fault
    | with_reducible exact ActGrows.check
    | (with_reducible apply command_grows) <;> [exact rfl; skip; intro _]
    | (with_reducible apply Grows.step (setNetOp_grows ..)) <;> [exact rfl; skip]
    | (with_reducible apply ActGrows.ite) <;> intro _
    | with_reducible apply ActGrows.act
    | with_reducible apply ActGrows.waitDo
    | (with_reducible apply Grows.ite) <;> intro _
    | dsimp only
    | split

theorem execRingCreate_next (x1 x2) (s : State) : ∃ t, execRingCreate x1 x2 s = .next t ∧ Grows 8913030 s t := by
  refine ⟨_, rfl, ?_⟩
  try dsimp only
  repeat' first
    | with_reducible exact Grows.refl _ _
    | with_reducible exact ActGrows.wait
    | with_reducible exact ActGrows.fault
    | with_reducible exact ActGrows.check
    | (with_reducible apply command_grows) <;> [exact rfl; skip; intro _]
    | (with_reducible apply Grows.step (ringCreateOp_grows ..)) <;> [exact rfl; skip]
    | (with_reducible apply ActGrows.ite) <;> intro _
    | with_reducible apply ActGrows.act
    | with_reducible apply ActGrows.waitDo
    | (with_reducible apply Grows.ite) <;> intro _
    | dsimp only
    | split

theorem execRingDestroy_next (x1 x2) (s : State) : ∃ t, execRingDestroy x1 x2 s = .next t ∧ Grows 8913030 s t := by
  refine ⟨_, rfl, ?_⟩
  try dsimp only
  repeat' first
    | with_reducible exact Grows.refl _ _
    | with_reducible exact ActGrows.wait
    | with_reducible exact ActGrows.fault
    | with_reducible exact ActGrows.check
    | (with_reducible apply command_grows) <;> [exact rfl; skip; intro _]
    | (with_reducible apply Grows.step (ringDestroyOp_grows ..)) <;> [exact rfl; skip]
    | (with_reducible apply ActGrows.ite) <;> intro _
    | with_reducible apply ActGrows.act
    | with_reducible apply ActGrows.waitDo
    | (with_reducible apply Grows.ite) <;> intro _
    | dsimp only
    | split

theorem execMrRegister_next (x1 x2) (s : State) : ∃ t, execMrRegister x1 x2 s = .next t ∧ Grows 8913030 s t := by
  refine ⟨_, rfl, ?_⟩
  try dsimp only
  repeat' first
    | with_reducible exact Grows.refl _ _
    | with_reducible exact ActGrows.wait
    | with_reducible exact ActGrows.fault
    | with_reducible exact ActGrows.check
    | (with_reducible apply command_grows) <;> [exact rfl; skip; intro _]
    | (with_reducible apply Grows.step (mrRegisterOp_grows ..)) <;> [exact rfl; skip]
    | (with_reducible apply ActGrows.ite) <;> intro _
    | with_reducible apply ActGrows.act
    | with_reducible apply ActGrows.waitDo
    | (with_reducible apply Grows.ite) <;> intro _
    | dsimp only
    | split

theorem execMrRevoke_next (x1 x2) (s : State) : ∃ t, execMrRevoke x1 x2 s = .next t ∧ Grows 8913030 s t := by
  refine ⟨_, rfl, ?_⟩
  try dsimp only
  repeat' first
    | with_reducible exact Grows.refl _ _
    | with_reducible exact ActGrows.wait
    | with_reducible exact ActGrows.fault
    | with_reducible exact ActGrows.check
    | (with_reducible apply command_grows) <;> [exact rfl; skip; intro _]
    | (with_reducible apply Grows.step (mrRevokeOp_grows ..)) <;> [exact rfl; skip]
    | (with_reducible apply ActGrows.ite) <;> intro _
    | with_reducible apply ActGrows.act
    | with_reducible apply ActGrows.waitDo
    | (with_reducible apply Grows.ite) <;> intro _
    | dsimp only
    | split

theorem execQpCreate_next (x1 x2) (s : State) : ∃ t, execQpCreate x1 x2 s = .next t ∧ Grows 8913030 s t := by
  refine ⟨_, rfl, ?_⟩
  try dsimp only
  repeat' first
    | with_reducible exact Grows.refl _ _
    | with_reducible exact ActGrows.wait
    | with_reducible exact ActGrows.fault
    | with_reducible exact ActGrows.check
    | (with_reducible apply command_grows) <;> [exact rfl; skip; intro _]
    | (with_reducible apply Grows.step (qpCreateOp_grows ..)) <;> [exact rfl; skip]
    | (with_reducible apply ActGrows.ite) <;> intro _
    | with_reducible apply ActGrows.act
    | with_reducible apply ActGrows.waitDo
    | (with_reducible apply Grows.ite) <;> intro _
    | dsimp only
    | split

theorem execQpDestroy_next (x1 x2) (s : State) : ∃ t, execQpDestroy x1 x2 s = .next t ∧ Grows 8913030 s t := by
  refine ⟨_, rfl, ?_⟩
  try dsimp only
  repeat' first
    | with_reducible exact Grows.refl _ _
    | with_reducible exact ActGrows.wait
    | with_reducible exact ActGrows.fault
    | with_reducible exact ActGrows.check
    | (with_reducible apply command_grows) <;> [exact rfl; skip; intro _]
    | (with_reducible apply Grows.step (qpDestroyOp_grows ..)) <;> [exact rfl; skip]
    | (with_reducible apply ActGrows.ite) <;> intro _
    | with_reducible apply ActGrows.act
    | with_reducible apply ActGrows.waitDo
    | (with_reducible apply Grows.ite) <;> intro _
    | dsimp only
    | split

theorem execRegRead_next (x1 x2 x3) (s : State) : ∃ t, execRegRead x1 x2 x3 s = .next t ∧ Grows 109576326 s t := by
  refine ⟨_, rfl, ?_⟩
  try dsimp only
  repeat' first
    | with_reducible exact Grows.refl _ _
    | with_reducible exact ActGrows.wait
    | with_reducible exact ActGrows.fault
    | with_reducible exact ActGrows.check
    | (with_reducible apply command_grows) <;> [exact rfl; skip; intro _]
    | (with_reducible apply Grows.step (regReadOp_grows ..)) <;> [exact rfl; skip]
    | (with_reducible apply ActGrows.ite) <;> intro _
    | with_reducible apply ActGrows.act
    | with_reducible apply ActGrows.waitDo
    | (with_reducible apply Grows.ite) <;> intro _
    | dsimp only
    | split

theorem execRegWrite_next (x1 x2) (s : State) : ∃ t, execRegWrite x1 x2 s = .next t ∧ Grows 29136790 s t := by
  refine ⟨_, rfl, ?_⟩
  try dsimp only
  repeat' first
    | with_reducible exact Grows.refl _ _
    | with_reducible exact ActGrows.wait
    | with_reducible exact ActGrows.fault
    | with_reducible exact ActGrows.check
    | (with_reducible apply command_grows) <;> [exact rfl; skip; intro _]
    | (with_reducible apply Grows.step (regWriteOp_grows ..)) <;> [exact rfl; skip]
    | (with_reducible apply ActGrows.ite) <;> intro _
    | with_reducible apply ActGrows.act
    | with_reducible apply ActGrows.waitDo
    | (with_reducible apply Grows.ite) <;> intro _
    | dsimp only
    | split

theorem execRegRmw_next (x1 x2 x3 x4) (s : State) : ∃ t, execRegRmw x1 x2 x3 x4 s = .next t ∧ Grows 29136790 s t := by
  refine ⟨_, rfl, ?_⟩
  try dsimp only
  repeat' first
    | with_reducible exact Grows.refl _ _
    | with_reducible exact ActGrows.wait
    | with_reducible exact ActGrows.fault
    | with_reducible exact ActGrows.check
    | (with_reducible apply command_grows) <;> [exact rfl; skip; intro _]
    | (with_reducible apply Grows.step (regRmwOp_grows ..)) <;> [exact rfl; skip]
    | (with_reducible apply ActGrows.ite) <;> intro _
    | with_reducible apply ActGrows.act
    | with_reducible apply ActGrows.waitDo
    | (with_reducible apply Grows.ite) <;> intro _
    | dsimp only
    | split

end Sys2Proof.Machine
end

