-- ==== Sys2Proof/Laws/MeaningsQueues.lean ====
section
/-! SUPPORT. What each meaning of Machine/Queues.lean answers: a next state, and what it may have changed. -/

namespace Sys2Proof.Machine

theorem execQueueItemWrite_next (x1 x2) (s : State) : ∃ t, execQueueItemWrite x1 x2 s = .next t ∧ Grows 65536 s t := by
  refine ⟨_, rfl, ?_⟩
  try dsimp only
  repeat' first
    | with_reducible exact Grows.refl _ _
    | with_reducible exact ActGrows.wait
    | with_reducible exact ActGrows.fault
    | with_reducible exact ActGrows.check
    | with_reducible apply Grows.whenReady
    | (with_reducible apply Grows.step (setQueue_grows ..)) <;> [exact rfl; skip]
    | (with_reducible apply ActGrows.ite) <;> intro _
    | with_reducible apply ActGrows.act
    | with_reducible apply ActGrows.waitDo
    | (with_reducible apply Grows.ite) <;> intro _
    | dsimp only
    | split

theorem execQueueItemRead_next (x1) (s : State) : ∃ t, execQueueItemRead x1 s = .next t ∧ Grows 327680 s t := by
  refine ⟨_, rfl, ?_⟩
  try dsimp only
  repeat' first
    | with_reducible exact Grows.refl _ _
    | with_reducible exact ActGrows.wait
    | with_reducible exact ActGrows.fault
    | with_reducible exact ActGrows.check
    | with_reducible apply Grows.whenReady
    | (with_reducible apply Grows.step (setQueue_grows ..)) <;> [exact rfl; skip]
    | (with_reducible apply Grows.step (noteTurn_grows ..)) <;> [exact rfl; skip]
    | (with_reducible apply ActGrows.ite) <;> intro _
    | with_reducible apply ActGrows.act
    | with_reducible apply ActGrows.waitDo
    | (with_reducible apply Grows.ite) <;> intro _
    | dsimp only
    | split

theorem execGrayPointerSync_next (x1 x2) (s : State) : ∃ t, execGrayPointerSync x1 x2 s = .next t ∧ Grows 2162688 s t := by
  refine ⟨_, rfl, ?_⟩
  try dsimp only
  repeat' first
    | with_reducible exact Grows.refl _ _
    | with_reducible exact ActGrows.wait
    | with_reducible exact ActGrows.fault
    | with_reducible exact ActGrows.check
    | with_reducible apply Grows.whenReady
    | (with_reducible apply Grows.step (creditFar_grows ..)) <;> [exact rfl; skip]
    | (with_reducible apply Grows.step (setQueue_grows ..)) <;> [exact rfl; skip]
    | (with_reducible apply ActGrows.ite) <;> intro _
    | with_reducible apply ActGrows.act
    | with_reducible apply ActGrows.waitDo
    | (with_reducible apply Grows.ite) <;> intro _
    | dsimp only
    | split

end Sys2Proof.Machine
end

