-- ==== Sys2Proof/Laws/MeaningsTensor.lean ====
section
/-! SUPPORT. What each meaning of Machine/Tensor.lean answers: a next state, and what it may have changed. -/

namespace Sys2Proof.Machine

theorem execMma_next (x1 x2 x3) (s : State) : ∃ t, execMma x1 x2 x3 s = .next t ∧ Grows 30114436 s t := by
  refine ⟨_, rfl, ?_⟩
  try dsimp only
  repeat' first
    | with_reducible exact Grows.refl _ _
    | with_reducible exact ActGrows.wait
    | with_reducible exact ActGrows.fault
    | with_reducible exact ActGrows.check
    | (with_reducible apply runInstr_grows) <;> [exact rfl; skip; intro _ _ _ _ _]
    | (with_reducible apply Grows.step (advance_grows ..)) <;> [exact rfl; skip]
    | (with_reducible apply Grows.step (usePairs_grows ..)) <;> [exact rfl; skip]
    | (with_reducible apply Grows.step (useSet_grows ..)) <;> [exact rfl; skip]
    | (with_reducible apply Grows.step (updCore_grows ..)) <;> [exact rfl; skip]
    | (with_reducible apply ActGrows.ite) <;> intro _
    | with_reducible apply ActGrows.act
    | with_reducible apply ActGrows.waitDo
    | (with_reducible apply Grows.ite) <;> intro _
    | dsimp only
    | split

theorem execDrain_next (x1 x2 x3 x4) (s : State) : ∃ t, execDrain x1 x2 x3 x4 s = .next t ∧ Grows 25920132 s t := by
  refine ⟨_, rfl, ?_⟩
  try dsimp only
  repeat' first
    | with_reducible exact Grows.refl _ _
    | with_reducible exact ActGrows.wait
    | with_reducible exact ActGrows.fault
    | with_reducible exact ActGrows.check
    | (with_reducible apply runInstr_grows) <;> [exact rfl; skip; intro _ _ _ _ _]
    | (with_reducible apply Grows.step (advance_grows ..)) <;> [exact rfl; skip]
    | (with_reducible apply Grows.step (useSet_grows ..)) <;> [exact rfl; skip]
    | (with_reducible apply Grows.step (updCore_grows ..)) <;> [exact rfl; skip]
    | (with_reducible apply Grows.step (writeSram_grows ..)) <;> [exact rfl; skip]
    | (with_reducible apply ActGrows.ite) <;> intro _
    | with_reducible apply ActGrows.act
    | with_reducible apply ActGrows.waitDo
    | (with_reducible apply Grows.ite) <;> intro _
    | dsimp only
    | split

theorem execClear_next (x1 x2) (s : State) : ∃ t, execClear x1 x2 s = .next t ∧ Grows 25920132 s t := by
  refine ⟨_, rfl, ?_⟩
  try dsimp only
  repeat' first
    | with_reducible exact Grows.refl _ _
    | with_reducible exact ActGrows.wait
    | with_reducible exact ActGrows.fault
    | with_reducible exact ActGrows.check
    | (with_reducible apply runInstr_grows) <;> [exact rfl; skip; intro _ _ _ _ _]
    | (with_reducible apply Grows.step (advance_grows ..)) <;> [exact rfl; skip]
    | (with_reducible apply Grows.step (useSet_grows ..)) <;> [exact rfl; skip]
    | (with_reducible apply Grows.step (updCore_grows ..)) <;> [exact rfl; skip]
    | (with_reducible apply ActGrows.ite) <;> intro _
    | with_reducible apply ActGrows.act
    | with_reducible apply ActGrows.waitDo
    | (with_reducible apply Grows.ite) <;> intro _
    | dsimp only
    | split

theorem execEngineInstructionComplete_next (x1 x2) (s : State) : ∃ t, execEngineInstructionComplete x1 x2 s = .next t ∧ Grows 131072 s t := by
  refine ⟨_, rfl, ?_⟩
  try dsimp only
  repeat' first
    | with_reducible exact Grows.refl _ _
    | with_reducible exact ActGrows.wait
    | with_reducible exact ActGrows.fault
    | with_reducible exact ActGrows.check
    | with_reducible apply Grows.whenReady
    | (with_reducible apply Grows.step (updCore_grows ..)) <;> [exact rfl; skip]
    | (with_reducible apply ActGrows.ite) <;> intro _
    | with_reducible apply ActGrows.act
    | with_reducible apply ActGrows.waitDo
    | (with_reducible apply Grows.ite) <;> intro _
    | dsimp only
    | split

end Sys2Proof.Machine
end

