-- ==== Sys2Proof/Laws/MeaningsVector.lean ====
section
/-! SUPPORT. What each meaning of Machine/Vector.lean answers: a next state, and what it may have changed. -/

namespace Sys2Proof.Machine

theorem execVop_next (x1 x2 x3 x4 x5 x6 x7) (s : State) : ∃ t, execVop x1 x2 x3 x4 x5 x6 x7 s = .next t ∧ Grows 25920132 s t := by
  refine ⟨_, rfl, ?_⟩
  try dsimp only
  repeat' first
    | with_reducible exact Grows.refl _ _
    | with_reducible exact ActGrows.wait
    | with_reducible exact ActGrows.fault
    | with_reducible exact ActGrows.check
    | (with_reducible apply runInstr_grows) <;> [exact rfl; skip; intro _ _ _ _ _]
    | (with_reducible apply onVector_acts) <;> [exact rfl; intro _]
    | (with_reducible apply Grows.step (addNans_grows ..)) <;> [exact rfl; skip]
    | (with_reducible apply Grows.step (writeSram_grows ..)) <;> [exact rfl; skip]
    | (with_reducible apply ActGrows.ite) <;> intro _
    | with_reducible apply ActGrows.act
    | with_reducible apply ActGrows.waitDo
    | (with_reducible apply Grows.ite) <;> intro _
    | dsimp only
    | split

theorem execVfn_next (x1 x2 x3 x4 x5) (s : State) : ∃ t, execVfn x1 x2 x3 x4 x5 s = .next t ∧ Grows 25920132 s t := by
  refine ⟨_, rfl, ?_⟩
  try dsimp only
  repeat' first
    | with_reducible exact Grows.refl _ _
    | with_reducible exact ActGrows.wait
    | with_reducible exact ActGrows.fault
    | with_reducible exact ActGrows.check
    | (with_reducible apply runInstr_grows) <;> [exact rfl; skip; intro _ _ _ _ _]
    | (with_reducible apply onVector_acts) <;> [exact rfl; intro _]
    | (with_reducible apply Grows.step (addNans_grows ..)) <;> [exact rfl; skip]
    | (with_reducible apply Grows.step (writeSram_grows ..)) <;> [exact rfl; skip]
    | (with_reducible apply ActGrows.ite) <;> intro _
    | with_reducible apply ActGrows.act
    | with_reducible apply ActGrows.waitDo
    | (with_reducible apply Grows.ite) <;> intro _
    | dsimp only
    | split

theorem execVcvt_next (x1 x2 x3 x4 x5 x6 x7 x8 x9) (s : State) : ∃ t, execVcvt x1 x2 x3 x4 x5 x6 x7 x8 x9 s = .next t ∧ Grows 25920132 s t := by
  refine ⟨_, rfl, ?_⟩
  try dsimp only
  repeat' first
    | with_reducible exact Grows.refl _ _
    | with_reducible exact ActGrows.wait
    | with_reducible exact ActGrows.fault
    | with_reducible exact ActGrows.check
    | (with_reducible apply runInstr_grows) <;> [exact rfl; skip; intro _ _ _ _ _]
    | (with_reducible apply onVector_acts) <;> [exact rfl; intro _]
    | exact ActGrows.mono (convertArray_acts ..) rfl
    | (with_reducible apply ActGrows.ite) <;> intro _
    | with_reducible apply ActGrows.act
    | with_reducible apply ActGrows.waitDo
    | (with_reducible apply Grows.ite) <;> intro _
    | dsimp only
    | split

theorem execVred_next (x1 x2 x3 x4 x5 x6 x7) (s : State) : ∃ t, execVred x1 x2 x3 x4 x5 x6 x7 s = .next t ∧ Grows 25920132 s t := by
  refine ⟨_, rfl, ?_⟩
  try dsimp only
  repeat' first
    | with_reducible exact Grows.refl _ _
    | with_reducible exact ActGrows.wait
    | with_reducible exact ActGrows.fault
    | with_reducible exact ActGrows.check
    | (with_reducible apply runInstr_grows) <;> [exact rfl; skip; intro _ _ _ _ _]
    | (with_reducible apply onVector_acts) <;> [exact rfl; intro _]
    | (with_reducible apply Grows.step (addNans_grows ..)) <;> [exact rfl; skip]
    | (with_reducible apply Grows.step (writeSram_grows ..)) <;> [exact rfl; skip]
    | (with_reducible apply ActGrows.ite) <;> intro _
    | with_reducible apply ActGrows.act
    | with_reducible apply ActGrows.waitDo
    | (with_reducible apply Grows.ite) <;> intro _
    | dsimp only
    | split

end Sys2Proof.Machine
end

