-- ==== Sys2Proof/Laws/State.lean ====
section
/-! SUPPORT. Every field of the state after each shared update, and what a keyed store reads after a write, so that no later proof
unfolds a record update. -/

namespace Sys2Proof.Machine

/-! ### atTime -/

@[simp] theorem atTime_freeCtr (t : Nat) (s : State) : (atTime t s).freeCtr = s.freeCtr := rfl
@[simp] theorem atTime_sent (t : Nat) (s : State) : (atTime t s).sent = s.sent := rfl
@[simp] theorem atTime_pending (t : Nat) (s : State) : (atTime t s).pending = s.pending := rfl
@[simp] theorem atTime_flash (t : Nat) (s : State) : (atTime t s).flash = s.flash := rfl
@[simp] theorem atTime_boot (t : Nat) (s : State) : (atTime t s).boot = s.boot := rfl
@[simp] theorem atTime_pins (t : Nat) (s : State) : (atTime t s).pins = s.pins := rfl
@[simp] theorem atTime_side (t : Nat) (s : State) : (atTime t s).side = s.side := rfl
@[simp] theorem atTime_power (t : Nat) (s : State) : (atTime t s).power = s.power := rfl
@[simp] theorem atTime_fault (t : Nat) (s : State) : (atTime t s).fault = s.fault := rfl
@[simp] theorem atTime_snap (t : Nat) (s : State) : (atTime t s).snap = s.snap := rfl
@[simp] theorem atTime_tap (t : Nat) (s : State) : (atTime t s).tap = s.tap := rfl
@[simp] theorem atTime_tick (t : Nat) (s : State) : (atTime t s).tick = s.tick := rfl
@[simp] theorem atTime_lead (t : Nat) (s : State) : (atTime t s).lead = s.lead := rfl
@[simp] theorem atTime_job (t : Nat) (s : State) : (atTime t s).job = s.job := rfl
@[simp] theorem atTime_grp (t : Nat) (s : State) : (atTime t s).grp = s.grp := rfl
@[simp] theorem atTime_fabric (t : Nat) (s : State) : (atTime t s).fabric = s.fabric := rfl
@[simp] theorem atTime_cores (t : Nat) (s : State) : (atTime t s).cores = s.cores := rfl
@[simp] theorem atTime_stream (t : Nat) (s : State) : (atTime t s).stream = s.stream := rfl
@[simp] theorem atTime_mem (t : Nat) (s : State) : (atTime t s).mem = s.mem := rfl
@[simp] theorem atTime_red (t : Nat) (s : State) : (atTime t s).red = s.red := rfl
@[simp] theorem atTime_beam (t : Nat) (s : State) : (atTime t s).beam = s.beam := rfl
@[simp] theorem atTime_place (t : Nat) (s : State) : (atTime t s).place = s.place := rfl
@[simp] theorem atTime_host (t : Nat) (s : State) : (atTime t s).host = s.host := rfl
@[simp] theorem atTime_counters (t : Nat) (s : State) : (atTime t s).counters = s.counters := rfl
@[simp] theorem atTime_cmdLatch (t : Nat) (s : State) : (atTime t s).cmdLatch = s.cmdLatch := rfl
@[simp] theorem atTime_sideLatch (t : Nat) (s : State) : (atTime t s).sideLatch = s.sideLatch := rfl
@[simp] theorem atTime_fieldWrites (t : Nat) (s : State) : (atTime t s).fieldWrites = s.fieldWrites := rfl

/-! ### count -/

@[simp] theorem count_now (k n : Nat) (s : State) : (count k n s).now = s.now := rfl
@[simp] theorem count_freeCtr (k n : Nat) (s : State) : (count k n s).freeCtr = s.freeCtr := rfl
@[simp] theorem count_sent (k n : Nat) (s : State) : (count k n s).sent = s.sent := rfl
@[simp] theorem count_pending (k n : Nat) (s : State) : (count k n s).pending = s.pending := rfl
@[simp] theorem count_flash (k n : Nat) (s : State) : (count k n s).flash = s.flash := rfl
@[simp] theorem count_boot (k n : Nat) (s : State) : (count k n s).boot = s.boot := rfl
@[simp] theorem count_pins (k n : Nat) (s : State) : (count k n s).pins = s.pins := rfl
@[simp] theorem count_side (k n : Nat) (s : State) : (count k n s).side = s.side := rfl
@[simp] theorem count_power (k n : Nat) (s : State) : (count k n s).power = s.power := rfl
@[simp] theorem count_fault (k n : Nat) (s : State) : (count k n s).fault = s.fault := rfl
@[simp] theorem count_snap (k n : Nat) (s : State) : (count k n s).snap = s.snap := rfl
@[simp] theorem count_tap (k n : Nat) (s : State) : (count k n s).tap = s.tap := rfl
@[simp] theorem count_tick (k n : Nat) (s : State) : (count k n s).tick = s.tick := rfl
@[simp] theorem count_lead (k n : Nat) (s : State) : (count k n s).lead = s.lead := rfl
@[simp] theorem count_job (k n : Nat) (s : State) : (count k n s).job = s.job := rfl
@[simp] theorem count_grp (k n : Nat) (s : State) : (count k n s).grp = s.grp := rfl
@[simp] theorem count_fabric (k n : Nat) (s : State) : (count k n s).fabric = s.fabric := rfl
@[simp] theorem count_cores (k n : Nat) (s : State) : (count k n s).cores = s.cores := rfl
@[simp] theorem count_stream (k n : Nat) (s : State) : (count k n s).stream = s.stream := rfl
@[simp] theorem count_mem (k n : Nat) (s : State) : (count k n s).mem = s.mem := rfl
@[simp] theorem count_red (k n : Nat) (s : State) : (count k n s).red = s.red := rfl
@[simp] theorem count_beam (k n : Nat) (s : State) : (count k n s).beam = s.beam := rfl
@[simp] theorem count_place (k n : Nat) (s : State) : (count k n s).place = s.place := rfl
@[simp] theorem count_host (k n : Nat) (s : State) : (count k n s).host = s.host := rfl
@[simp] theorem count_cmdLatch (k n : Nat) (s : State) : (count k n s).cmdLatch = s.cmdLatch := rfl
@[simp] theorem count_sideLatch (k n : Nat) (s : State) : (count k n s).sideLatch = s.sideLatch := rfl
@[simp] theorem count_fieldWrites (k n : Nat) (s : State) : (count k n s).fieldWrites = s.fieldWrites := rfl

/-! ### setCounter -/

@[simp] theorem setCounter_now (k v : Nat) (s : State) : (setCounter k v s).now = s.now := rfl
@[simp] theorem setCounter_freeCtr (k v : Nat) (s : State) : (setCounter k v s).freeCtr = s.freeCtr := rfl
@[simp] theorem setCounter_sent (k v : Nat) (s : State) : (setCounter k v s).sent = s.sent := rfl
@[simp] theorem setCounter_pending (k v : Nat) (s : State) : (setCounter k v s).pending = s.pending := rfl
@[simp] theorem setCounter_flash (k v : Nat) (s : State) : (setCounter k v s).flash = s.flash := rfl
@[simp] theorem setCounter_boot (k v : Nat) (s : State) : (setCounter k v s).boot = s.boot := rfl
@[simp] theorem setCounter_pins (k v : Nat) (s : State) : (setCounter k v s).pins = s.pins := rfl
@[simp] theorem setCounter_side (k v : Nat) (s : State) : (setCounter k v s).side = s.side := rfl
@[simp] theorem setCounter_power (k v : Nat) (s : State) : (setCounter k v s).power = s.power := rfl
@[simp] theorem setCounter_fault (k v : Nat) (s : State) : (setCounter k v s).fault = s.fault := rfl
@[simp] theorem setCounter_snap (k v : Nat) (s : State) : (setCounter k v s).snap = s.snap := rfl
@[simp] theorem setCounter_tap (k v : Nat) (s : State) : (setCounter k v s).tap = s.tap := rfl
@[simp] theorem setCounter_tick (k v : Nat) (s : State) : (setCounter k v s).tick = s.tick := rfl
@[simp] theorem setCounter_lead (k v : Nat) (s : State) : (setCounter k v s).lead = s.lead := rfl
@[simp] theorem setCounter_job (k v : Nat) (s : State) : (setCounter k v s).job = s.job := rfl
@[simp] theorem setCounter_grp (k v : Nat) (s : State) : (setCounter k v s).grp = s.grp := rfl
@[simp] theorem setCounter_fabric (k v : Nat) (s : State) : (setCounter k v s).fabric = s.fabric := rfl
@[simp] theorem setCounter_cores (k v : Nat) (s : State) : (setCounter k v s).cores = s.cores := rfl
@[simp] theorem setCounter_stream (k v : Nat) (s : State) : (setCounter k v s).stream = s.stream := rfl
@[simp] theorem setCounter_mem (k v : Nat) (s : State) : (setCounter k v s).mem = s.mem := rfl
@[simp] theorem setCounter_red (k v : Nat) (s : State) : (setCounter k v s).red = s.red := rfl
@[simp] theorem setCounter_beam (k v : Nat) (s : State) : (setCounter k v s).beam = s.beam := rfl
@[simp] theorem setCounter_place (k v : Nat) (s : State) : (setCounter k v s).place = s.place := rfl
@[simp] theorem setCounter_host (k v : Nat) (s : State) : (setCounter k v s).host = s.host := rfl
@[simp] theorem setCounter_cmdLatch (k v : Nat) (s : State) : (setCounter k v s).cmdLatch = s.cmdLatch := rfl
@[simp] theorem setCounter_sideLatch (k v : Nat) (s : State) : (setCounter k v s).sideLatch = s.sideLatch := rfl
@[simp] theorem setCounter_fieldWrites (k v : Nat) (s : State) : (setCounter k v s).fieldWrites = s.fieldWrites := rfl

/-! ### emit -/

@[simp] theorem emit_now (m : Msg) (s : State) : (emit m s).now = s.now := rfl
@[simp] theorem emit_freeCtr (m : Msg) (s : State) : (emit m s).freeCtr = s.freeCtr := rfl
@[simp] theorem emit_pending (m : Msg) (s : State) : (emit m s).pending = s.pending := rfl
@[simp] theorem emit_flash (m : Msg) (s : State) : (emit m s).flash = s.flash := rfl
@[simp] theorem emit_boot (m : Msg) (s : State) : (emit m s).boot = s.boot := rfl
@[simp] theorem emit_pins (m : Msg) (s : State) : (emit m s).pins = s.pins := rfl
@[simp] theorem emit_side (m : Msg) (s : State) : (emit m s).side = s.side := rfl
@[simp] theorem emit_power (m : Msg) (s : State) : (emit m s).power = s.power := rfl
@[simp] theorem emit_fault (m : Msg) (s : State) : (emit m s).fault = s.fault := rfl
@[simp] theorem emit_snap (m : Msg) (s : State) : (emit m s).snap = s.snap := rfl
@[simp] theorem emit_tap (m : Msg) (s : State) : (emit m s).tap = s.tap := rfl
@[simp] theorem emit_tick (m : Msg) (s : State) : (emit m s).tick = s.tick := rfl
@[simp] theorem emit_lead (m : Msg) (s : State) : (emit m s).lead = s.lead := rfl
@[simp] theorem emit_job (m : Msg) (s : State) : (emit m s).job = s.job := rfl
@[simp] theorem emit_grp (m : Msg) (s : State) : (emit m s).grp = s.grp := rfl
@[simp] theorem emit_fabric (m : Msg) (s : State) : (emit m s).fabric = s.fabric := rfl
@[simp] theorem emit_cores (m : Msg) (s : State) : (emit m s).cores = s.cores := rfl
@[simp] theorem emit_stream (m : Msg) (s : State) : (emit m s).stream = s.stream := rfl
@[simp] theorem emit_mem (m : Msg) (s : State) : (emit m s).mem = s.mem := rfl
@[simp] theorem emit_red (m : Msg) (s : State) : (emit m s).red = s.red := rfl
@[simp] theorem emit_beam (m : Msg) (s : State) : (emit m s).beam = s.beam := rfl
@[simp] theorem emit_place (m : Msg) (s : State) : (emit m s).place = s.place := rfl
@[simp] theorem emit_host (m : Msg) (s : State) : (emit m s).host = s.host := rfl
@[simp] theorem emit_counters (m : Msg) (s : State) : (emit m s).counters = s.counters := rfl
@[simp] theorem emit_cmdLatch (m : Msg) (s : State) : (emit m s).cmdLatch = s.cmdLatch := rfl
@[simp] theorem emit_sideLatch (m : Msg) (s : State) : (emit m s).sideLatch = s.sideLatch := rfl
@[simp] theorem emit_fieldWrites (m : Msg) (s : State) : (emit m s).fieldWrites = s.fieldWrites := rfl

/-! ### emitAll -/

@[simp] theorem emitAll_now (ms : List Msg) (s : State) : (emitAll ms s).now = s.now := rfl
@[simp] theorem emitAll_freeCtr (ms : List Msg) (s : State) : (emitAll ms s).freeCtr = s.freeCtr := rfl
@[simp] theorem emitAll_pending (ms : List Msg) (s : State) : (emitAll ms s).pending = s.pending := rfl
@[simp] theorem emitAll_flash (ms : List Msg) (s : State) : (emitAll ms s).flash = s.flash := rfl
@[simp] theorem emitAll_boot (ms : List Msg) (s : State) : (emitAll ms s).boot = s.boot := rfl
@[simp] theorem emitAll_pins (ms : List Msg) (s : State) : (emitAll ms s).pins = s.pins := rfl
@[simp] theorem emitAll_side (ms : List Msg) (s : State) : (emitAll ms s).side = s.side := rfl
@[simp] theorem emitAll_power (ms : List Msg) (s : State) : (emitAll ms s).power = s.power := rfl
@[simp] theorem emitAll_fault (ms : List Msg) (s : State) : (emitAll ms s).fault = s.fault := rfl
@[simp] theorem emitAll_snap (ms : List Msg) (s : State) : (emitAll ms s).snap = s.snap := rfl
@[simp] theorem emitAll_tap (ms : List Msg) (s : State) : (emitAll ms s).tap = s.tap := rfl
@[simp] theorem emitAll_tick (ms : List Msg) (s : State) : (emitAll ms s).tick = s.tick := rfl
@[simp] theorem emitAll_lead (ms : List Msg) (s : State) : (emitAll ms s).lead = s.lead := rfl
@[simp] theorem emitAll_job (ms : List Msg) (s : State) : (emitAll ms s).job = s.job := rfl
@[simp] theorem emitAll_grp (ms : List Msg) (s : State) : (emitAll ms s).grp = s.grp := rfl
@[simp] theorem emitAll_fabric (ms : List Msg) (s : State) : (emitAll ms s).fabric = s.fabric := rfl
@[simp] theorem emitAll_cores (ms : List Msg) (s : State) : (emitAll ms s).cores = s.cores := rfl
@[simp] theorem emitAll_stream (ms : List Msg) (s : State) : (emitAll ms s).stream = s.stream := rfl
@[simp] theorem emitAll_mem (ms : List Msg) (s : State) : (emitAll ms s).mem = s.mem := rfl
@[simp] theorem emitAll_red (ms : List Msg) (s : State) : (emitAll ms s).red = s.red := rfl
@[simp] theorem emitAll_beam (ms : List Msg) (s : State) : (emitAll ms s).beam = s.beam := rfl
@[simp] theorem emitAll_place (ms : List Msg) (s : State) : (emitAll ms s).place = s.place := rfl
@[simp] theorem emitAll_host (ms : List Msg) (s : State) : (emitAll ms s).host = s.host := rfl
@[simp] theorem emitAll_counters (ms : List Msg) (s : State) : (emitAll ms s).counters = s.counters := rfl
@[simp] theorem emitAll_cmdLatch (ms : List Msg) (s : State) : (emitAll ms s).cmdLatch = s.cmdLatch := rfl
@[simp] theorem emitAll_sideLatch (ms : List Msg) (s : State) : (emitAll ms s).sideLatch = s.sideLatch := rfl
@[simp] theorem emitAll_fieldWrites (ms : List Msg) (s : State) : (emitAll ms s).fieldWrites = s.fieldWrites := rfl

/-! ### pulseAt -/

@[simp] theorem pulseAt_now (n : Nat) (s : State) : (pulseAt n s).now = s.now := rfl
@[simp] theorem pulseAt_freeCtr (n : Nat) (s : State) : (pulseAt n s).freeCtr = s.freeCtr := rfl
@[simp] theorem pulseAt_sent (n : Nat) (s : State) : (pulseAt n s).sent = s.sent := rfl
@[simp] theorem pulseAt_pending (n : Nat) (s : State) : (pulseAt n s).pending = s.pending := rfl
@[simp] theorem pulseAt_flash (n : Nat) (s : State) : (pulseAt n s).flash = s.flash := rfl
@[simp] theorem pulseAt_boot (n : Nat) (s : State) : (pulseAt n s).boot = s.boot := rfl
@[simp] theorem pulseAt_side (n : Nat) (s : State) : (pulseAt n s).side = s.side := rfl
@[simp] theorem pulseAt_power (n : Nat) (s : State) : (pulseAt n s).power = s.power := rfl
@[simp] theorem pulseAt_fault (n : Nat) (s : State) : (pulseAt n s).fault = s.fault := rfl
@[simp] theorem pulseAt_snap (n : Nat) (s : State) : (pulseAt n s).snap = s.snap := rfl
@[simp] theorem pulseAt_tap (n : Nat) (s : State) : (pulseAt n s).tap = s.tap := rfl
@[simp] theorem pulseAt_tick (n : Nat) (s : State) : (pulseAt n s).tick = s.tick := rfl
@[simp] theorem pulseAt_lead (n : Nat) (s : State) : (pulseAt n s).lead = s.lead := rfl
@[simp] theorem pulseAt_job (n : Nat) (s : State) : (pulseAt n s).job = s.job := rfl
@[simp] theorem pulseAt_grp (n : Nat) (s : State) : (pulseAt n s).grp = s.grp := rfl
@[simp] theorem pulseAt_fabric (n : Nat) (s : State) : (pulseAt n s).fabric = s.fabric := rfl
@[simp] theorem pulseAt_cores (n : Nat) (s : State) : (pulseAt n s).cores = s.cores := rfl
@[simp] theorem pulseAt_stream (n : Nat) (s : State) : (pulseAt n s).stream = s.stream := rfl
@[simp] theorem pulseAt_mem (n : Nat) (s : State) : (pulseAt n s).mem = s.mem := rfl
@[simp] theorem pulseAt_red (n : Nat) (s : State) : (pulseAt n s).red = s.red := rfl
@[simp] theorem pulseAt_beam (n : Nat) (s : State) : (pulseAt n s).beam = s.beam := rfl
@[simp] theorem pulseAt_place (n : Nat) (s : State) : (pulseAt n s).place = s.place := rfl
@[simp] theorem pulseAt_host (n : Nat) (s : State) : (pulseAt n s).host = s.host := rfl
@[simp] theorem pulseAt_counters (n : Nat) (s : State) : (pulseAt n s).counters = s.counters := rfl
@[simp] theorem pulseAt_cmdLatch (n : Nat) (s : State) : (pulseAt n s).cmdLatch = s.cmdLatch := rfl
@[simp] theorem pulseAt_sideLatch (n : Nat) (s : State) : (pulseAt n s).sideLatch = s.sideLatch := rfl
@[simp] theorem pulseAt_fieldWrites (n : Nat) (s : State) : (pulseAt n s).fieldWrites = s.fieldWrites := rfl

/-! ### setField -/

@[simp] theorem setField_now (f : Nat) (v : FieldS) (s : State) : (setField f v s).now = s.now := rfl
@[simp] theorem setField_freeCtr (f : Nat) (v : FieldS) (s : State) : (setField f v s).freeCtr = s.freeCtr := rfl
@[simp] theorem setField_sent (f : Nat) (v : FieldS) (s : State) : (setField f v s).sent = s.sent := rfl
@[simp] theorem setField_pending (f : Nat) (v : FieldS) (s : State) : (setField f v s).pending = s.pending := rfl
@[simp] theorem setField_flash (f : Nat) (v : FieldS) (s : State) : (setField f v s).flash = s.flash := rfl
@[simp] theorem setField_boot (f : Nat) (v : FieldS) (s : State) : (setField f v s).boot = s.boot := rfl
@[simp] theorem setField_pins (f : Nat) (v : FieldS) (s : State) : (setField f v s).pins = s.pins := rfl
@[simp] theorem setField_side (f : Nat) (v : FieldS) (s : State) : (setField f v s).side = s.side := rfl
@[simp] theorem setField_power (f : Nat) (v : FieldS) (s : State) : (setField f v s).power = s.power := rfl
@[simp] theorem setField_fault (f : Nat) (v : FieldS) (s : State) : (setField f v s).fault = s.fault := rfl
@[simp] theorem setField_snap (f : Nat) (v : FieldS) (s : State) : (setField f v s).snap = s.snap := rfl
@[simp] theorem setField_tap (f : Nat) (v : FieldS) (s : State) : (setField f v s).tap = s.tap := rfl
@[simp] theorem setField_tick (f : Nat) (v : FieldS) (s : State) : (setField f v s).tick = s.tick := rfl
@[simp] theorem setField_lead (f : Nat) (v : FieldS) (s : State) : (setField f v s).lead = s.lead := rfl
@[simp] theorem setField_job (f : Nat) (v : FieldS) (s : State) : (setField f v s).job = s.job := rfl
@[simp] theorem setField_grp (f : Nat) (v : FieldS) (s : State) : (setField f v s).grp = s.grp := rfl
@[simp] theorem setField_cores (f : Nat) (v : FieldS) (s : State) : (setField f v s).cores = s.cores := rfl
@[simp] theorem setField_stream (f : Nat) (v : FieldS) (s : State) : (setField f v s).stream = s.stream := rfl
@[simp] theorem setField_mem (f : Nat) (v : FieldS) (s : State) : (setField f v s).mem = s.mem := rfl
@[simp] theorem setField_red (f : Nat) (v : FieldS) (s : State) : (setField f v s).red = s.red := rfl
@[simp] theorem setField_beam (f : Nat) (v : FieldS) (s : State) : (setField f v s).beam = s.beam := rfl
@[simp] theorem setField_place (f : Nat) (v : FieldS) (s : State) : (setField f v s).place = s.place := rfl
@[simp] theorem setField_host (f : Nat) (v : FieldS) (s : State) : (setField f v s).host = s.host := rfl
@[simp] theorem setField_counters (f : Nat) (v : FieldS) (s : State) : (setField f v s).counters = s.counters := rfl
@[simp] theorem setField_cmdLatch (f : Nat) (v : FieldS) (s : State) : (setField f v s).cmdLatch = s.cmdLatch := rfl
@[simp] theorem setField_sideLatch (f : Nat) (v : FieldS) (s : State) : (setField f v s).sideLatch = s.sideLatch := rfl
@[simp] theorem setField_fieldWrites (f : Nat) (v : FieldS) (s : State) : (setField f v s).fieldWrites = s.fieldWrites := rfl

/-! ### setCore -/

@[simp] theorem setCore_now (k : Nat) (v : CoreS) (s : State) : (setCore k v s).now = s.now := rfl
@[simp] theorem setCore_freeCtr (k : Nat) (v : CoreS) (s : State) : (setCore k v s).freeCtr = s.freeCtr := rfl
@[simp] theorem setCore_sent (k : Nat) (v : CoreS) (s : State) : (setCore k v s).sent = s.sent := rfl
@[simp] theorem setCore_pending (k : Nat) (v : CoreS) (s : State) : (setCore k v s).pending = s.pending := rfl
@[simp] theorem setCore_flash (k : Nat) (v : CoreS) (s : State) : (setCore k v s).flash = s.flash := rfl
@[simp] theorem setCore_boot (k : Nat) (v : CoreS) (s : State) : (setCore k v s).boot = s.boot := rfl
@[simp] theorem setCore_pins (k : Nat) (v : CoreS) (s : State) : (setCore k v s).pins = s.pins := rfl
@[simp] theorem setCore_side (k : Nat) (v : CoreS) (s : State) : (setCore k v s).side = s.side := rfl
@[simp] theorem setCore_power (k : Nat) (v : CoreS) (s : State) : (setCore k v s).power = s.power := rfl
@[simp] theorem setCore_fault (k : Nat) (v : CoreS) (s : State) : (setCore k v s).fault = s.fault := rfl
@[simp] theorem setCore_snap (k : Nat) (v : CoreS) (s : State) : (setCore k v s).snap = s.snap := rfl
@[simp] theorem setCore_tap (k : Nat) (v : CoreS) (s : State) : (setCore k v s).tap = s.tap := rfl
@[simp] theorem setCore_tick (k : Nat) (v : CoreS) (s : State) : (setCore k v s).tick = s.tick := rfl
@[simp] theorem setCore_lead (k : Nat) (v : CoreS) (s : State) : (setCore k v s).lead = s.lead := rfl
@[simp] theorem setCore_job (k : Nat) (v : CoreS) (s : State) : (setCore k v s).job = s.job := rfl
@[simp] theorem setCore_grp (k : Nat) (v : CoreS) (s : State) : (setCore k v s).grp = s.grp := rfl
@[simp] theorem setCore_fabric (k : Nat) (v : CoreS) (s : State) : (setCore k v s).fabric = s.fabric := rfl
@[simp] theorem setCore_stream (k : Nat) (v : CoreS) (s : State) : (setCore k v s).stream = s.stream := rfl
@[simp] theorem setCore_mem (k : Nat) (v : CoreS) (s : State) : (setCore k v s).mem = s.mem := rfl
@[simp] theorem setCore_red (k : Nat) (v : CoreS) (s : State) : (setCore k v s).red = s.red := rfl
@[simp] theorem setCore_beam (k : Nat) (v : CoreS) (s : State) : (setCore k v s).beam = s.beam := rfl
@[simp] theorem setCore_place (k : Nat) (v : CoreS) (s : State) : (setCore k v s).place = s.place := rfl
@[simp] theorem setCore_host (k : Nat) (v : CoreS) (s : State) : (setCore k v s).host = s.host := rfl
@[simp] theorem setCore_counters (k : Nat) (v : CoreS) (s : State) : (setCore k v s).counters = s.counters := rfl
@[simp] theorem setCore_cmdLatch (k : Nat) (v : CoreS) (s : State) : (setCore k v s).cmdLatch = s.cmdLatch := rfl
@[simp] theorem setCore_sideLatch (k : Nat) (v : CoreS) (s : State) : (setCore k v s).sideLatch = s.sideLatch := rfl
@[simp] theorem setCore_fieldWrites (k : Nat) (v : CoreS) (s : State) : (setCore k v s).fieldWrites = s.fieldWrites := rfl

/-! ### setLink -/

@[simp] theorem setLink_now (k : Nat) (v : LinkS) (s : State) : (setLink k v s).now = s.now := rfl
@[simp] theorem setLink_freeCtr (k : Nat) (v : LinkS) (s : State) : (setLink k v s).freeCtr = s.freeCtr := rfl
@[simp] theorem setLink_sent (k : Nat) (v : LinkS) (s : State) : (setLink k v s).sent = s.sent := rfl
@[simp] theorem setLink_pending (k : Nat) (v : LinkS) (s : State) : (setLink k v s).pending = s.pending := rfl
@[simp] theorem setLink_flash (k : Nat) (v : LinkS) (s : State) : (setLink k v s).flash = s.flash := rfl
@[simp] theorem setLink_boot (k : Nat) (v : LinkS) (s : State) : (setLink k v s).boot = s.boot := rfl
@[simp] theorem setLink_pins (k : Nat) (v : LinkS) (s : State) : (setLink k v s).pins = s.pins := rfl
@[simp] theorem setLink_side (k : Nat) (v : LinkS) (s : State) : (setLink k v s).side = s.side := rfl
@[simp] theorem setLink_power (k : Nat) (v : LinkS) (s : State) : (setLink k v s).power = s.power := rfl
@[simp] theorem setLink_fault (k : Nat) (v : LinkS) (s : State) : (setLink k v s).fault = s.fault := rfl
@[simp] theorem setLink_snap (k : Nat) (v : LinkS) (s : State) : (setLink k v s).snap = s.snap := rfl
@[simp] theorem setLink_tap (k : Nat) (v : LinkS) (s : State) : (setLink k v s).tap = s.tap := rfl
@[simp] theorem setLink_tick (k : Nat) (v : LinkS) (s : State) : (setLink k v s).tick = s.tick := rfl
@[simp] theorem setLink_lead (k : Nat) (v : LinkS) (s : State) : (setLink k v s).lead = s.lead := rfl
@[simp] theorem setLink_job (k : Nat) (v : LinkS) (s : State) : (setLink k v s).job = s.job := rfl
@[simp] theorem setLink_grp (k : Nat) (v : LinkS) (s : State) : (setLink k v s).grp = s.grp := rfl
@[simp] theorem setLink_cores (k : Nat) (v : LinkS) (s : State) : (setLink k v s).cores = s.cores := rfl
@[simp] theorem setLink_stream (k : Nat) (v : LinkS) (s : State) : (setLink k v s).stream = s.stream := rfl
@[simp] theorem setLink_mem (k : Nat) (v : LinkS) (s : State) : (setLink k v s).mem = s.mem := rfl
@[simp] theorem setLink_red (k : Nat) (v : LinkS) (s : State) : (setLink k v s).red = s.red := rfl
@[simp] theorem setLink_beam (k : Nat) (v : LinkS) (s : State) : (setLink k v s).beam = s.beam := rfl
@[simp] theorem setLink_place (k : Nat) (v : LinkS) (s : State) : (setLink k v s).place = s.place := rfl
@[simp] theorem setLink_host (k : Nat) (v : LinkS) (s : State) : (setLink k v s).host = s.host := rfl
@[simp] theorem setLink_counters (k : Nat) (v : LinkS) (s : State) : (setLink k v s).counters = s.counters := rfl
@[simp] theorem setLink_cmdLatch (k : Nat) (v : LinkS) (s : State) : (setLink k v s).cmdLatch = s.cmdLatch := rfl
@[simp] theorem setLink_sideLatch (k : Nat) (v : LinkS) (s : State) : (setLink k v s).sideLatch = s.sideLatch := rfl
@[simp] theorem setLink_fieldWrites (k : Nat) (v : LinkS) (s : State) : (setLink k v s).fieldWrites = s.fieldWrites := rfl

/-! ### setUnitRun -/

@[simp] theorem setUnitRun_now (u : Nat) (v : UnitRun) (s : State) : (setUnitRun u v s).now = s.now := rfl
@[simp] theorem setUnitRun_freeCtr (u : Nat) (v : UnitRun) (s : State) : (setUnitRun u v s).freeCtr = s.freeCtr := rfl
@[simp] theorem setUnitRun_sent (u : Nat) (v : UnitRun) (s : State) : (setUnitRun u v s).sent = s.sent := rfl
@[simp] theorem setUnitRun_pending (u : Nat) (v : UnitRun) (s : State) : (setUnitRun u v s).pending = s.pending := rfl
@[simp] theorem setUnitRun_flash (u : Nat) (v : UnitRun) (s : State) : (setUnitRun u v s).flash = s.flash := rfl
@[simp] theorem setUnitRun_boot (u : Nat) (v : UnitRun) (s : State) : (setUnitRun u v s).boot = s.boot := rfl
@[simp] theorem setUnitRun_pins (u : Nat) (v : UnitRun) (s : State) : (setUnitRun u v s).pins = s.pins := rfl
@[simp] theorem setUnitRun_side (u : Nat) (v : UnitRun) (s : State) : (setUnitRun u v s).side = s.side := rfl
@[simp] theorem setUnitRun_power (u : Nat) (v : UnitRun) (s : State) : (setUnitRun u v s).power = s.power := rfl
@[simp] theorem setUnitRun_fault (u : Nat) (v : UnitRun) (s : State) : (setUnitRun u v s).fault = s.fault := rfl
@[simp] theorem setUnitRun_snap (u : Nat) (v : UnitRun) (s : State) : (setUnitRun u v s).snap = s.snap := rfl
@[simp] theorem setUnitRun_tap (u : Nat) (v : UnitRun) (s : State) : (setUnitRun u v s).tap = s.tap := rfl
@[simp] theorem setUnitRun_lead (u : Nat) (v : UnitRun) (s : State) : (setUnitRun u v s).lead = s.lead := rfl
@[simp] theorem setUnitRun_job (u : Nat) (v : UnitRun) (s : State) : (setUnitRun u v s).job = s.job := rfl
@[simp] theorem setUnitRun_grp (u : Nat) (v : UnitRun) (s : State) : (setUnitRun u v s).grp = s.grp := rfl
@[simp] theorem setUnitRun_fabric (u : Nat) (v : UnitRun) (s : State) : (setUnitRun u v s).fabric = s.fabric := rfl
@[simp] theorem setUnitRun_cores (u : Nat) (v : UnitRun) (s : State) : (setUnitRun u v s).cores = s.cores := rfl
@[simp] theorem setUnitRun_stream (u : Nat) (v : UnitRun) (s : State) : (setUnitRun u v s).stream = s.stream := rfl
@[simp] theorem setUnitRun_mem (u : Nat) (v : UnitRun) (s : State) : (setUnitRun u v s).mem = s.mem := rfl
@[simp] theorem setUnitRun_red (u : Nat) (v : UnitRun) (s : State) : (setUnitRun u v s).red = s.red := rfl
@[simp] theorem setUnitRun_beam (u : Nat) (v : UnitRun) (s : State) : (setUnitRun u v s).beam = s.beam := rfl
@[simp] theorem setUnitRun_place (u : Nat) (v : UnitRun) (s : State) : (setUnitRun u v s).place = s.place := rfl
@[simp] theorem setUnitRun_host (u : Nat) (v : UnitRun) (s : State) : (setUnitRun u v s).host = s.host := rfl
@[simp] theorem setUnitRun_counters (u : Nat) (v : UnitRun) (s : State) : (setUnitRun u v s).counters = s.counters := rfl
@[simp] theorem setUnitRun_cmdLatch (u : Nat) (v : UnitRun) (s : State) : (setUnitRun u v s).cmdLatch = s.cmdLatch := rfl
@[simp] theorem setUnitRun_sideLatch (u : Nat) (v : UnitRun) (s : State) : (setUnitRun u v s).sideLatch = s.sideLatch := rfl
@[simp] theorem setUnitRun_fieldWrites (u : Nat) (v : UnitRun) (s : State) : (setUnitRun u v s).fieldWrites = s.fieldWrites := rfl

/-! ### setLane -/

@[simp] theorem setLane_now (c : Nat) (v : LaneS) (s : State) : (setLane c v s).now = s.now := rfl
@[simp] theorem setLane_freeCtr (c : Nat) (v : LaneS) (s : State) : (setLane c v s).freeCtr = s.freeCtr := rfl
@[simp] theorem setLane_sent (c : Nat) (v : LaneS) (s : State) : (setLane c v s).sent = s.sent := rfl
@[simp] theorem setLane_pending (c : Nat) (v : LaneS) (s : State) : (setLane c v s).pending = s.pending := rfl
@[simp] theorem setLane_flash (c : Nat) (v : LaneS) (s : State) : (setLane c v s).flash = s.flash := rfl
@[simp] theorem setLane_boot (c : Nat) (v : LaneS) (s : State) : (setLane c v s).boot = s.boot := rfl
@[simp] theorem setLane_pins (c : Nat) (v : LaneS) (s : State) : (setLane c v s).pins = s.pins := rfl
@[simp] theorem setLane_side (c : Nat) (v : LaneS) (s : State) : (setLane c v s).side = s.side := rfl
@[simp] theorem setLane_power (c : Nat) (v : LaneS) (s : State) : (setLane c v s).power = s.power := rfl
@[simp] theorem setLane_fault (c : Nat) (v : LaneS) (s : State) : (setLane c v s).fault = s.fault := rfl
@[simp] theorem setLane_snap (c : Nat) (v : LaneS) (s : State) : (setLane c v s).snap = s.snap := rfl
@[simp] theorem setLane_tap (c : Nat) (v : LaneS) (s : State) : (setLane c v s).tap = s.tap := rfl
@[simp] theorem setLane_tick (c : Nat) (v : LaneS) (s : State) : (setLane c v s).tick = s.tick := rfl
@[simp] theorem setLane_lead (c : Nat) (v : LaneS) (s : State) : (setLane c v s).lead = s.lead := rfl
@[simp] theorem setLane_job (c : Nat) (v : LaneS) (s : State) : (setLane c v s).job = s.job := rfl
@[simp] theorem setLane_grp (c : Nat) (v : LaneS) (s : State) : (setLane c v s).grp = s.grp := rfl
@[simp] theorem setLane_fabric (c : Nat) (v : LaneS) (s : State) : (setLane c v s).fabric = s.fabric := rfl
@[simp] theorem setLane_cores (c : Nat) (v : LaneS) (s : State) : (setLane c v s).cores = s.cores := rfl
@[simp] theorem setLane_stream (c : Nat) (v : LaneS) (s : State) : (setLane c v s).stream = s.stream := rfl
@[simp] theorem setLane_mem (c : Nat) (v : LaneS) (s : State) : (setLane c v s).mem = s.mem := rfl
@[simp] theorem setLane_red (c : Nat) (v : LaneS) (s : State) : (setLane c v s).red = s.red := rfl
@[simp] theorem setLane_place (c : Nat) (v : LaneS) (s : State) : (setLane c v s).place = s.place := rfl
@[simp] theorem setLane_host (c : Nat) (v : LaneS) (s : State) : (setLane c v s).host = s.host := rfl
@[simp] theorem setLane_counters (c : Nat) (v : LaneS) (s : State) : (setLane c v s).counters = s.counters := rfl
@[simp] theorem setLane_cmdLatch (c : Nat) (v : LaneS) (s : State) : (setLane c v s).cmdLatch = s.cmdLatch := rfl
@[simp] theorem setLane_sideLatch (c : Nat) (v : LaneS) (s : State) : (setLane c v s).sideLatch = s.sideLatch := rfl
@[simp] theorem setLane_fieldWrites (c : Nat) (v : LaneS) (s : State) : (setLane c v s).fieldWrites = s.fieldWrites := rfl

/-! ### setStreamLane -/

@[simp] theorem setStreamLane_now (c : Nat) (v : StreamLaneS) (s : State) : (setStreamLane c v s).now = s.now := rfl
@[simp] theorem setStreamLane_freeCtr (c : Nat) (v : StreamLaneS) (s : State) : (setStreamLane c v s).freeCtr = s.freeCtr := rfl
@[simp] theorem setStreamLane_sent (c : Nat) (v : StreamLaneS) (s : State) : (setStreamLane c v s).sent = s.sent := rfl
@[simp] theorem setStreamLane_pending (c : Nat) (v : StreamLaneS) (s : State) : (setStreamLane c v s).pending = s.pending := rfl
@[simp] theorem setStreamLane_flash (c : Nat) (v : StreamLaneS) (s : State) : (setStreamLane c v s).flash = s.flash := rfl
@[simp] theorem setStreamLane_boot (c : Nat) (v : StreamLaneS) (s : State) : (setStreamLane c v s).boot = s.boot := rfl
@[simp] theorem setStreamLane_pins (c : Nat) (v : StreamLaneS) (s : State) : (setStreamLane c v s).pins = s.pins := rfl
@[simp] theorem setStreamLane_side (c : Nat) (v : StreamLaneS) (s : State) : (setStreamLane c v s).side = s.side := rfl
@[simp] theorem setStreamLane_power (c : Nat) (v : StreamLaneS) (s : State) : (setStreamLane c v s).power = s.power := rfl
@[simp] theorem setStreamLane_fault (c : Nat) (v : StreamLaneS) (s : State) : (setStreamLane c v s).fault = s.fault := rfl
@[simp] theorem setStreamLane_snap (c : Nat) (v : StreamLaneS) (s : State) : (setStreamLane c v s).snap = s.snap := rfl
@[simp] theorem setStreamLane_tap (c : Nat) (v : StreamLaneS) (s : State) : (setStreamLane c v s).tap = s.tap := rfl
@[simp] theorem setStreamLane_tick (c : Nat) (v : StreamLaneS) (s : State) : (setStreamLane c v s).tick = s.tick := rfl
@[simp] theorem setStreamLane_lead (c : Nat) (v : StreamLaneS) (s : State) : (setStreamLane c v s).lead = s.lead := rfl
@[simp] theorem setStreamLane_job (c : Nat) (v : StreamLaneS) (s : State) : (setStreamLane c v s).job = s.job := rfl
@[simp] theorem setStreamLane_grp (c : Nat) (v : StreamLaneS) (s : State) : (setStreamLane c v s).grp = s.grp := rfl
@[simp] theorem setStreamLane_fabric (c : Nat) (v : StreamLaneS) (s : State) : (setStreamLane c v s).fabric = s.fabric := rfl
@[simp] theorem setStreamLane_cores (c : Nat) (v : StreamLaneS) (s : State) : (setStreamLane c v s).cores = s.cores := rfl
@[simp] theorem setStreamLane_mem (c : Nat) (v : StreamLaneS) (s : State) : (setStreamLane c v s).mem = s.mem := rfl
@[simp] theorem setStreamLane_red (c : Nat) (v : StreamLaneS) (s : State) : (setStreamLane c v s).red = s.red := rfl
@[simp] theorem setStreamLane_beam (c : Nat) (v : StreamLaneS) (s : State) : (setStreamLane c v s).beam = s.beam := rfl
@[simp] theorem setStreamLane_place (c : Nat) (v : StreamLaneS) (s : State) : (setStreamLane c v s).place = s.place := rfl
@[simp] theorem setStreamLane_host (c : Nat) (v : StreamLaneS) (s : State) : (setStreamLane c v s).host = s.host := rfl
@[simp] theorem setStreamLane_counters (c : Nat) (v : StreamLaneS) (s : State) : (setStreamLane c v s).counters = s.counters := rfl
@[simp] theorem setStreamLane_cmdLatch (c : Nat) (v : StreamLaneS) (s : State) : (setStreamLane c v s).cmdLatch = s.cmdLatch := rfl
@[simp] theorem setStreamLane_sideLatch (c : Nat) (v : StreamLaneS) (s : State) : (setStreamLane c v s).sideLatch = s.sideLatch := rfl
@[simp] theorem setStreamLane_fieldWrites (c : Nat) (v : StreamLaneS) (s : State) : (setStreamLane c v s).fieldWrites = s.fieldWrites := rfl

/-! ### setSlot -/

@[simp] theorem setSlot_now (q : Nat) (v : SlotS) (s : State) : (setSlot q v s).now = s.now := rfl
@[simp] theorem setSlot_freeCtr (q : Nat) (v : SlotS) (s : State) : (setSlot q v s).freeCtr = s.freeCtr := rfl
@[simp] theorem setSlot_sent (q : Nat) (v : SlotS) (s : State) : (setSlot q v s).sent = s.sent := rfl
@[simp] theorem setSlot_pending (q : Nat) (v : SlotS) (s : State) : (setSlot q v s).pending = s.pending := rfl
@[simp] theorem setSlot_flash (q : Nat) (v : SlotS) (s : State) : (setSlot q v s).flash = s.flash := rfl
@[simp] theorem setSlot_boot (q : Nat) (v : SlotS) (s : State) : (setSlot q v s).boot = s.boot := rfl
@[simp] theorem setSlot_pins (q : Nat) (v : SlotS) (s : State) : (setSlot q v s).pins = s.pins := rfl
@[simp] theorem setSlot_side (q : Nat) (v : SlotS) (s : State) : (setSlot q v s).side = s.side := rfl
@[simp] theorem setSlot_power (q : Nat) (v : SlotS) (s : State) : (setSlot q v s).power = s.power := rfl
@[simp] theorem setSlot_fault (q : Nat) (v : SlotS) (s : State) : (setSlot q v s).fault = s.fault := rfl
@[simp] theorem setSlot_snap (q : Nat) (v : SlotS) (s : State) : (setSlot q v s).snap = s.snap := rfl
@[simp] theorem setSlot_tap (q : Nat) (v : SlotS) (s : State) : (setSlot q v s).tap = s.tap := rfl
@[simp] theorem setSlot_tick (q : Nat) (v : SlotS) (s : State) : (setSlot q v s).tick = s.tick := rfl
@[simp] theorem setSlot_lead (q : Nat) (v : SlotS) (s : State) : (setSlot q v s).lead = s.lead := rfl
@[simp] theorem setSlot_job (q : Nat) (v : SlotS) (s : State) : (setSlot q v s).job = s.job := rfl
@[simp] theorem setSlot_grp (q : Nat) (v : SlotS) (s : State) : (setSlot q v s).grp = s.grp := rfl
@[simp] theorem setSlot_fabric (q : Nat) (v : SlotS) (s : State) : (setSlot q v s).fabric = s.fabric := rfl
@[simp] theorem setSlot_cores (q : Nat) (v : SlotS) (s : State) : (setSlot q v s).cores = s.cores := rfl
@[simp] theorem setSlot_mem (q : Nat) (v : SlotS) (s : State) : (setSlot q v s).mem = s.mem := rfl
@[simp] theorem setSlot_red (q : Nat) (v : SlotS) (s : State) : (setSlot q v s).red = s.red := rfl
@[simp] theorem setSlot_beam (q : Nat) (v : SlotS) (s : State) : (setSlot q v s).beam = s.beam := rfl
@[simp] theorem setSlot_place (q : Nat) (v : SlotS) (s : State) : (setSlot q v s).place = s.place := rfl
@[simp] theorem setSlot_host (q : Nat) (v : SlotS) (s : State) : (setSlot q v s).host = s.host := rfl
@[simp] theorem setSlot_counters (q : Nat) (v : SlotS) (s : State) : (setSlot q v s).counters = s.counters := rfl
@[simp] theorem setSlot_cmdLatch (q : Nat) (v : SlotS) (s : State) : (setSlot q v s).cmdLatch = s.cmdLatch := rfl
@[simp] theorem setSlot_sideLatch (q : Nat) (v : SlotS) (s : State) : (setSlot q v s).sideLatch = s.sideLatch := rfl
@[simp] theorem setSlot_fieldWrites (q : Nat) (v : SlotS) (s : State) : (setSlot q v s).fieldWrites = s.fieldWrites := rfl

/-! ### setBlock -/

@[simp] theorem setBlock_now (b : Nat) (v : BlockS) (s : State) : (setBlock b v s).now = s.now := rfl
@[simp] theorem setBlock_freeCtr (b : Nat) (v : BlockS) (s : State) : (setBlock b v s).freeCtr = s.freeCtr := rfl
@[simp] theorem setBlock_sent (b : Nat) (v : BlockS) (s : State) : (setBlock b v s).sent = s.sent := rfl
@[simp] theorem setBlock_pending (b : Nat) (v : BlockS) (s : State) : (setBlock b v s).pending = s.pending := rfl
@[simp] theorem setBlock_flash (b : Nat) (v : BlockS) (s : State) : (setBlock b v s).flash = s.flash := rfl
@[simp] theorem setBlock_boot (b : Nat) (v : BlockS) (s : State) : (setBlock b v s).boot = s.boot := rfl
@[simp] theorem setBlock_pins (b : Nat) (v : BlockS) (s : State) : (setBlock b v s).pins = s.pins := rfl
@[simp] theorem setBlock_side (b : Nat) (v : BlockS) (s : State) : (setBlock b v s).side = s.side := rfl
@[simp] theorem setBlock_power (b : Nat) (v : BlockS) (s : State) : (setBlock b v s).power = s.power := rfl
@[simp] theorem setBlock_fault (b : Nat) (v : BlockS) (s : State) : (setBlock b v s).fault = s.fault := rfl
@[simp] theorem setBlock_snap (b : Nat) (v : BlockS) (s : State) : (setBlock b v s).snap = s.snap := rfl
@[simp] theorem setBlock_tap (b : Nat) (v : BlockS) (s : State) : (setBlock b v s).tap = s.tap := rfl
@[simp] theorem setBlock_tick (b : Nat) (v : BlockS) (s : State) : (setBlock b v s).tick = s.tick := rfl
@[simp] theorem setBlock_lead (b : Nat) (v : BlockS) (s : State) : (setBlock b v s).lead = s.lead := rfl
@[simp] theorem setBlock_job (b : Nat) (v : BlockS) (s : State) : (setBlock b v s).job = s.job := rfl
@[simp] theorem setBlock_grp (b : Nat) (v : BlockS) (s : State) : (setBlock b v s).grp = s.grp := rfl
@[simp] theorem setBlock_fabric (b : Nat) (v : BlockS) (s : State) : (setBlock b v s).fabric = s.fabric := rfl
@[simp] theorem setBlock_cores (b : Nat) (v : BlockS) (s : State) : (setBlock b v s).cores = s.cores := rfl
@[simp] theorem setBlock_stream (b : Nat) (v : BlockS) (s : State) : (setBlock b v s).stream = s.stream := rfl
@[simp] theorem setBlock_mem (b : Nat) (v : BlockS) (s : State) : (setBlock b v s).mem = s.mem := rfl
@[simp] theorem setBlock_beam (b : Nat) (v : BlockS) (s : State) : (setBlock b v s).beam = s.beam := rfl
@[simp] theorem setBlock_place (b : Nat) (v : BlockS) (s : State) : (setBlock b v s).place = s.place := rfl
@[simp] theorem setBlock_host (b : Nat) (v : BlockS) (s : State) : (setBlock b v s).host = s.host := rfl
@[simp] theorem setBlock_counters (b : Nat) (v : BlockS) (s : State) : (setBlock b v s).counters = s.counters := rfl
@[simp] theorem setBlock_cmdLatch (b : Nat) (v : BlockS) (s : State) : (setBlock b v s).cmdLatch = s.cmdLatch := rfl
@[simp] theorem setBlock_sideLatch (b : Nat) (v : BlockS) (s : State) : (setBlock b v s).sideLatch = s.sideLatch := rfl
@[simp] theorem setBlock_fieldWrites (b : Nat) (v : BlockS) (s : State) : (setBlock b v s).fieldWrites = s.fieldWrites := rfl

/-! ### setMember -/

@[simp] theorem setMember_now (m : Nat) (v : MemberS) (s : State) : (setMember m v s).now = s.now := rfl
@[simp] theorem setMember_freeCtr (m : Nat) (v : MemberS) (s : State) : (setMember m v s).freeCtr = s.freeCtr := rfl
@[simp] theorem setMember_sent (m : Nat) (v : MemberS) (s : State) : (setMember m v s).sent = s.sent := rfl
@[simp] theorem setMember_pending (m : Nat) (v : MemberS) (s : State) : (setMember m v s).pending = s.pending := rfl
@[simp] theorem setMember_flash (m : Nat) (v : MemberS) (s : State) : (setMember m v s).flash = s.flash := rfl
@[simp] theorem setMember_boot (m : Nat) (v : MemberS) (s : State) : (setMember m v s).boot = s.boot := rfl
@[simp] theorem setMember_pins (m : Nat) (v : MemberS) (s : State) : (setMember m v s).pins = s.pins := rfl
@[simp] theorem setMember_side (m : Nat) (v : MemberS) (s : State) : (setMember m v s).side = s.side := rfl
@[simp] theorem setMember_power (m : Nat) (v : MemberS) (s : State) : (setMember m v s).power = s.power := rfl
@[simp] theorem setMember_fault (m : Nat) (v : MemberS) (s : State) : (setMember m v s).fault = s.fault := rfl
@[simp] theorem setMember_snap (m : Nat) (v : MemberS) (s : State) : (setMember m v s).snap = s.snap := rfl
@[simp] theorem setMember_tap (m : Nat) (v : MemberS) (s : State) : (setMember m v s).tap = s.tap := rfl
@[simp] theorem setMember_tick (m : Nat) (v : MemberS) (s : State) : (setMember m v s).tick = s.tick := rfl
@[simp] theorem setMember_lead (m : Nat) (v : MemberS) (s : State) : (setMember m v s).lead = s.lead := rfl
@[simp] theorem setMember_job (m : Nat) (v : MemberS) (s : State) : (setMember m v s).job = s.job := rfl
@[simp] theorem setMember_fabric (m : Nat) (v : MemberS) (s : State) : (setMember m v s).fabric = s.fabric := rfl
@[simp] theorem setMember_cores (m : Nat) (v : MemberS) (s : State) : (setMember m v s).cores = s.cores := rfl
@[simp] theorem setMember_stream (m : Nat) (v : MemberS) (s : State) : (setMember m v s).stream = s.stream := rfl
@[simp] theorem setMember_mem (m : Nat) (v : MemberS) (s : State) : (setMember m v s).mem = s.mem := rfl
@[simp] theorem setMember_red (m : Nat) (v : MemberS) (s : State) : (setMember m v s).red = s.red := rfl
@[simp] theorem setMember_beam (m : Nat) (v : MemberS) (s : State) : (setMember m v s).beam = s.beam := rfl
@[simp] theorem setMember_place (m : Nat) (v : MemberS) (s : State) : (setMember m v s).place = s.place := rfl
@[simp] theorem setMember_host (m : Nat) (v : MemberS) (s : State) : (setMember m v s).host = s.host := rfl
@[simp] theorem setMember_counters (m : Nat) (v : MemberS) (s : State) : (setMember m v s).counters = s.counters := rfl
@[simp] theorem setMember_cmdLatch (m : Nat) (v : MemberS) (s : State) : (setMember m v s).cmdLatch = s.cmdLatch := rfl
@[simp] theorem setMember_sideLatch (m : Nat) (v : MemberS) (s : State) : (setMember m v s).sideLatch = s.sideLatch := rfl
@[simp] theorem setMember_fieldWrites (m : Nat) (v : MemberS) (s : State) : (setMember m v s).fieldWrites = s.fieldWrites := rfl

/-! ### setPort -/

@[simp] theorem setPort_now (n : Nat) (v : PortS) (s : State) : (setPort n v s).now = s.now := rfl
@[simp] theorem setPort_freeCtr (n : Nat) (v : PortS) (s : State) : (setPort n v s).freeCtr = s.freeCtr := rfl
@[simp] theorem setPort_sent (n : Nat) (v : PortS) (s : State) : (setPort n v s).sent = s.sent := rfl
@[simp] theorem setPort_pending (n : Nat) (v : PortS) (s : State) : (setPort n v s).pending = s.pending := rfl
@[simp] theorem setPort_flash (n : Nat) (v : PortS) (s : State) : (setPort n v s).flash = s.flash := rfl
@[simp] theorem setPort_boot (n : Nat) (v : PortS) (s : State) : (setPort n v s).boot = s.boot := rfl
@[simp] theorem setPort_pins (n : Nat) (v : PortS) (s : State) : (setPort n v s).pins = s.pins := rfl
@[simp] theorem setPort_side (n : Nat) (v : PortS) (s : State) : (setPort n v s).side = s.side := rfl
@[simp] theorem setPort_power (n : Nat) (v : PortS) (s : State) : (setPort n v s).power = s.power := rfl
@[simp] theorem setPort_fault (n : Nat) (v : PortS) (s : State) : (setPort n v s).fault = s.fault := rfl
@[simp] theorem setPort_snap (n : Nat) (v : PortS) (s : State) : (setPort n v s).snap = s.snap := rfl
@[simp] theorem setPort_tap (n : Nat) (v : PortS) (s : State) : (setPort n v s).tap = s.tap := rfl
@[simp] theorem setPort_tick (n : Nat) (v : PortS) (s : State) : (setPort n v s).tick = s.tick := rfl
@[simp] theorem setPort_lead (n : Nat) (v : PortS) (s : State) : (setPort n v s).lead = s.lead := rfl
@[simp] theorem setPort_job (n : Nat) (v : PortS) (s : State) : (setPort n v s).job = s.job := rfl
@[simp] theorem setPort_grp (n : Nat) (v : PortS) (s : State) : (setPort n v s).grp = s.grp := rfl
@[simp] theorem setPort_fabric (n : Nat) (v : PortS) (s : State) : (setPort n v s).fabric = s.fabric := rfl
@[simp] theorem setPort_cores (n : Nat) (v : PortS) (s : State) : (setPort n v s).cores = s.cores := rfl
@[simp] theorem setPort_stream (n : Nat) (v : PortS) (s : State) : (setPort n v s).stream = s.stream := rfl
@[simp] theorem setPort_mem (n : Nat) (v : PortS) (s : State) : (setPort n v s).mem = s.mem := rfl
@[simp] theorem setPort_red (n : Nat) (v : PortS) (s : State) : (setPort n v s).red = s.red := rfl
@[simp] theorem setPort_beam (n : Nat) (v : PortS) (s : State) : (setPort n v s).beam = s.beam := rfl
@[simp] theorem setPort_place (n : Nat) (v : PortS) (s : State) : (setPort n v s).place = s.place := rfl
@[simp] theorem setPort_counters (n : Nat) (v : PortS) (s : State) : (setPort n v s).counters = s.counters := rfl
@[simp] theorem setPort_cmdLatch (n : Nat) (v : PortS) (s : State) : (setPort n v s).cmdLatch = s.cmdLatch := rfl
@[simp] theorem setPort_sideLatch (n : Nat) (v : PortS) (s : State) : (setPort n v s).sideLatch = s.sideLatch := rfl
@[simp] theorem setPort_fieldWrites (n : Nat) (v : PortS) (s : State) : (setPort n v s).fieldWrites = s.fieldWrites := rfl

/-! ### setCtx -/

@[simp] theorem setCtx_now (n : Nat) (v : ContextS) (s : State) : (setCtx n v s).now = s.now := rfl
@[simp] theorem setCtx_freeCtr (n : Nat) (v : ContextS) (s : State) : (setCtx n v s).freeCtr = s.freeCtr := rfl
@[simp] theorem setCtx_sent (n : Nat) (v : ContextS) (s : State) : (setCtx n v s).sent = s.sent := rfl
@[simp] theorem setCtx_pending (n : Nat) (v : ContextS) (s : State) : (setCtx n v s).pending = s.pending := rfl
@[simp] theorem setCtx_flash (n : Nat) (v : ContextS) (s : State) : (setCtx n v s).flash = s.flash := rfl
@[simp] theorem setCtx_boot (n : Nat) (v : ContextS) (s : State) : (setCtx n v s).boot = s.boot := rfl
@[simp] theorem setCtx_pins (n : Nat) (v : ContextS) (s : State) : (setCtx n v s).pins = s.pins := rfl
@[simp] theorem setCtx_side (n : Nat) (v : ContextS) (s : State) : (setCtx n v s).side = s.side := rfl
@[simp] theorem setCtx_power (n : Nat) (v : ContextS) (s : State) : (setCtx n v s).power = s.power := rfl
@[simp] theorem setCtx_fault (n : Nat) (v : ContextS) (s : State) : (setCtx n v s).fault = s.fault := rfl
@[simp] theorem setCtx_snap (n : Nat) (v : ContextS) (s : State) : (setCtx n v s).snap = s.snap := rfl
@[simp] theorem setCtx_tap (n : Nat) (v : ContextS) (s : State) : (setCtx n v s).tap = s.tap := rfl
@[simp] theorem setCtx_tick (n : Nat) (v : ContextS) (s : State) : (setCtx n v s).tick = s.tick := rfl
@[simp] theorem setCtx_lead (n : Nat) (v : ContextS) (s : State) : (setCtx n v s).lead = s.lead := rfl
@[simp] theorem setCtx_job (n : Nat) (v : ContextS) (s : State) : (setCtx n v s).job = s.job := rfl
@[simp] theorem setCtx_grp (n : Nat) (v : ContextS) (s : State) : (setCtx n v s).grp = s.grp := rfl
@[simp] theorem setCtx_fabric (n : Nat) (v : ContextS) (s : State) : (setCtx n v s).fabric = s.fabric := rfl
@[simp] theorem setCtx_cores (n : Nat) (v : ContextS) (s : State) : (setCtx n v s).cores = s.cores := rfl
@[simp] theorem setCtx_stream (n : Nat) (v : ContextS) (s : State) : (setCtx n v s).stream = s.stream := rfl
@[simp] theorem setCtx_mem (n : Nat) (v : ContextS) (s : State) : (setCtx n v s).mem = s.mem := rfl
@[simp] theorem setCtx_red (n : Nat) (v : ContextS) (s : State) : (setCtx n v s).red = s.red := rfl
@[simp] theorem setCtx_beam (n : Nat) (v : ContextS) (s : State) : (setCtx n v s).beam = s.beam := rfl
@[simp] theorem setCtx_place (n : Nat) (v : ContextS) (s : State) : (setCtx n v s).place = s.place := rfl
@[simp] theorem setCtx_counters (n : Nat) (v : ContextS) (s : State) : (setCtx n v s).counters = s.counters := rfl
@[simp] theorem setCtx_cmdLatch (n : Nat) (v : ContextS) (s : State) : (setCtx n v s).cmdLatch = s.cmdLatch := rfl
@[simp] theorem setCtx_sideLatch (n : Nat) (v : ContextS) (s : State) : (setCtx n v s).sideLatch = s.sideLatch := rfl
@[simp] theorem setCtx_fieldWrites (n : Nat) (v : ContextS) (s : State) : (setCtx n v s).fieldWrites = s.fieldWrites := rfl

/-! ### setFieldPower -/

@[simp] theorem setFieldPower_now (f : Nat) (v : FieldPowerS) (s : State) : (setFieldPower f v s).now = s.now := rfl
@[simp] theorem setFieldPower_freeCtr (f : Nat) (v : FieldPowerS) (s : State) : (setFieldPower f v s).freeCtr = s.freeCtr := rfl
@[simp] theorem setFieldPower_sent (f : Nat) (v : FieldPowerS) (s : State) : (setFieldPower f v s).sent = s.sent := rfl
@[simp] theorem setFieldPower_pending (f : Nat) (v : FieldPowerS) (s : State) : (setFieldPower f v s).pending = s.pending := rfl
@[simp] theorem setFieldPower_flash (f : Nat) (v : FieldPowerS) (s : State) : (setFieldPower f v s).flash = s.flash := rfl
@[simp] theorem setFieldPower_boot (f : Nat) (v : FieldPowerS) (s : State) : (setFieldPower f v s).boot = s.boot := rfl
@[simp] theorem setFieldPower_pins (f : Nat) (v : FieldPowerS) (s : State) : (setFieldPower f v s).pins = s.pins := rfl
@[simp] theorem setFieldPower_side (f : Nat) (v : FieldPowerS) (s : State) : (setFieldPower f v s).side = s.side := rfl
@[simp] theorem setFieldPower_fault (f : Nat) (v : FieldPowerS) (s : State) : (setFieldPower f v s).fault = s.fault := rfl
@[simp] theorem setFieldPower_snap (f : Nat) (v : FieldPowerS) (s : State) : (setFieldPower f v s).snap = s.snap := rfl
@[simp] theorem setFieldPower_tap (f : Nat) (v : FieldPowerS) (s : State) : (setFieldPower f v s).tap = s.tap := rfl
@[simp] theorem setFieldPower_tick (f : Nat) (v : FieldPowerS) (s : State) : (setFieldPower f v s).tick = s.tick := rfl
@[simp] theorem setFieldPower_lead (f : Nat) (v : FieldPowerS) (s : State) : (setFieldPower f v s).lead = s.lead := rfl
@[simp] theorem setFieldPower_job (f : Nat) (v : FieldPowerS) (s : State) : (setFieldPower f v s).job = s.job := rfl
@[simp] theorem setFieldPower_grp (f : Nat) (v : FieldPowerS) (s : State) : (setFieldPower f v s).grp = s.grp := rfl
@[simp] theorem setFieldPower_fabric (f : Nat) (v : FieldPowerS) (s : State) : (setFieldPower f v s).fabric = s.fabric := rfl
@[simp] theorem setFieldPower_cores (f : Nat) (v : FieldPowerS) (s : State) : (setFieldPower f v s).cores = s.cores := rfl
@[simp] theorem setFieldPower_stream (f : Nat) (v : FieldPowerS) (s : State) : (setFieldPower f v s).stream = s.stream := rfl
@[simp] theorem setFieldPower_mem (f : Nat) (v : FieldPowerS) (s : State) : (setFieldPower f v s).mem = s.mem := rfl
@[simp] theorem setFieldPower_red (f : Nat) (v : FieldPowerS) (s : State) : (setFieldPower f v s).red = s.red := rfl
@[simp] theorem setFieldPower_beam (f : Nat) (v : FieldPowerS) (s : State) : (setFieldPower f v s).beam = s.beam := rfl
@[simp] theorem setFieldPower_place (f : Nat) (v : FieldPowerS) (s : State) : (setFieldPower f v s).place = s.place := rfl
@[simp] theorem setFieldPower_host (f : Nat) (v : FieldPowerS) (s : State) : (setFieldPower f v s).host = s.host := rfl
@[simp] theorem setFieldPower_counters (f : Nat) (v : FieldPowerS) (s : State) : (setFieldPower f v s).counters = s.counters := rfl
@[simp] theorem setFieldPower_cmdLatch (f : Nat) (v : FieldPowerS) (s : State) : (setFieldPower f v s).cmdLatch = s.cmdLatch := rfl
@[simp] theorem setFieldPower_sideLatch (f : Nat) (v : FieldPowerS) (s : State) : (setFieldPower f v s).sideLatch = s.sideLatch := rfl
@[simp] theorem setFieldPower_fieldWrites (f : Nat) (v : FieldPowerS) (s : State) : (setFieldPower f v s).fieldWrites = s.fieldWrites := rfl

/-! ### setPredict -/

@[simp] theorem setPredict_now (p : PredictS) (s : State) : (setPredict p s).now = s.now := rfl
@[simp] theorem setPredict_freeCtr (p : PredictS) (s : State) : (setPredict p s).freeCtr = s.freeCtr := rfl
@[simp] theorem setPredict_sent (p : PredictS) (s : State) : (setPredict p s).sent = s.sent := rfl
@[simp] theorem setPredict_pending (p : PredictS) (s : State) : (setPredict p s).pending = s.pending := rfl
@[simp] theorem setPredict_flash (p : PredictS) (s : State) : (setPredict p s).flash = s.flash := rfl
@[simp] theorem setPredict_boot (p : PredictS) (s : State) : (setPredict p s).boot = s.boot := rfl
@[simp] theorem setPredict_pins (p : PredictS) (s : State) : (setPredict p s).pins = s.pins := rfl
@[simp] theorem setPredict_side (p : PredictS) (s : State) : (setPredict p s).side = s.side := rfl
@[simp] theorem setPredict_power (p : PredictS) (s : State) : (setPredict p s).power = s.power := rfl
@[simp] theorem setPredict_fault (p : PredictS) (s : State) : (setPredict p s).fault = s.fault := rfl
@[simp] theorem setPredict_snap (p : PredictS) (s : State) : (setPredict p s).snap = s.snap := rfl
@[simp] theorem setPredict_tap (p : PredictS) (s : State) : (setPredict p s).tap = s.tap := rfl
@[simp] theorem setPredict_tick (p : PredictS) (s : State) : (setPredict p s).tick = s.tick := rfl
@[simp] theorem setPredict_lead (p : PredictS) (s : State) : (setPredict p s).lead = s.lead := rfl
@[simp] theorem setPredict_job (p : PredictS) (s : State) : (setPredict p s).job = s.job := rfl
@[simp] theorem setPredict_grp (p : PredictS) (s : State) : (setPredict p s).grp = s.grp := rfl
@[simp] theorem setPredict_fabric (p : PredictS) (s : State) : (setPredict p s).fabric = s.fabric := rfl
@[simp] theorem setPredict_cores (p : PredictS) (s : State) : (setPredict p s).cores = s.cores := rfl
@[simp] theorem setPredict_stream (p : PredictS) (s : State) : (setPredict p s).stream = s.stream := rfl
@[simp] theorem setPredict_mem (p : PredictS) (s : State) : (setPredict p s).mem = s.mem := rfl
@[simp] theorem setPredict_red (p : PredictS) (s : State) : (setPredict p s).red = s.red := rfl
@[simp] theorem setPredict_beam (p : PredictS) (s : State) : (setPredict p s).beam = s.beam := rfl
@[simp] theorem setPredict_host (p : PredictS) (s : State) : (setPredict p s).host = s.host := rfl
@[simp] theorem setPredict_counters (p : PredictS) (s : State) : (setPredict p s).counters = s.counters := rfl
@[simp] theorem setPredict_cmdLatch (p : PredictS) (s : State) : (setPredict p s).cmdLatch = s.cmdLatch := rfl
@[simp] theorem setPredict_sideLatch (p : PredictS) (s : State) : (setPredict p s).sideLatch = s.sideLatch := rfl
@[simp] theorem setPredict_fieldWrites (p : PredictS) (s : State) : (setPredict p s).fieldWrites = s.fieldWrites := rfl

/-! ### setPair -/

@[simp] theorem setPair_now (k : Nat) (p : PairS) (s : State) : (setPair k p s).now = s.now := rfl
@[simp] theorem setPair_freeCtr (k : Nat) (p : PairS) (s : State) : (setPair k p s).freeCtr = s.freeCtr := rfl
@[simp] theorem setPair_sent (k : Nat) (p : PairS) (s : State) : (setPair k p s).sent = s.sent := rfl
@[simp] theorem setPair_pending (k : Nat) (p : PairS) (s : State) : (setPair k p s).pending = s.pending := rfl
@[simp] theorem setPair_flash (k : Nat) (p : PairS) (s : State) : (setPair k p s).flash = s.flash := rfl
@[simp] theorem setPair_boot (k : Nat) (p : PairS) (s : State) : (setPair k p s).boot = s.boot := rfl
@[simp] theorem setPair_pins (k : Nat) (p : PairS) (s : State) : (setPair k p s).pins = s.pins := rfl
@[simp] theorem setPair_side (k : Nat) (p : PairS) (s : State) : (setPair k p s).side = s.side := rfl
@[simp] theorem setPair_power (k : Nat) (p : PairS) (s : State) : (setPair k p s).power = s.power := rfl
@[simp] theorem setPair_fault (k : Nat) (p : PairS) (s : State) : (setPair k p s).fault = s.fault := rfl
@[simp] theorem setPair_snap (k : Nat) (p : PairS) (s : State) : (setPair k p s).snap = s.snap := rfl
@[simp] theorem setPair_tap (k : Nat) (p : PairS) (s : State) : (setPair k p s).tap = s.tap := rfl
@[simp] theorem setPair_tick (k : Nat) (p : PairS) (s : State) : (setPair k p s).tick = s.tick := rfl
@[simp] theorem setPair_lead (k : Nat) (p : PairS) (s : State) : (setPair k p s).lead = s.lead := rfl
@[simp] theorem setPair_job (k : Nat) (p : PairS) (s : State) : (setPair k p s).job = s.job := rfl
@[simp] theorem setPair_grp (k : Nat) (p : PairS) (s : State) : (setPair k p s).grp = s.grp := rfl
@[simp] theorem setPair_fabric (k : Nat) (p : PairS) (s : State) : (setPair k p s).fabric = s.fabric := rfl
@[simp] theorem setPair_cores (k : Nat) (p : PairS) (s : State) : (setPair k p s).cores = s.cores := rfl
@[simp] theorem setPair_stream (k : Nat) (p : PairS) (s : State) : (setPair k p s).stream = s.stream := rfl
@[simp] theorem setPair_mem (k : Nat) (p : PairS) (s : State) : (setPair k p s).mem = s.mem := rfl
@[simp] theorem setPair_red (k : Nat) (p : PairS) (s : State) : (setPair k p s).red = s.red := rfl
@[simp] theorem setPair_beam (k : Nat) (p : PairS) (s : State) : (setPair k p s).beam = s.beam := rfl
@[simp] theorem setPair_host (k : Nat) (p : PairS) (s : State) : (setPair k p s).host = s.host := rfl
@[simp] theorem setPair_counters (k : Nat) (p : PairS) (s : State) : (setPair k p s).counters = s.counters := rfl
@[simp] theorem setPair_cmdLatch (k : Nat) (p : PairS) (s : State) : (setPair k p s).cmdLatch = s.cmdLatch := rfl
@[simp] theorem setPair_sideLatch (k : Nat) (p : PairS) (s : State) : (setPair k p s).sideLatch = s.sideLatch := rfl
@[simp] theorem setPair_fieldWrites (k : Nat) (p : PairS) (s : State) : (setPair k p s).fieldWrites = s.fieldWrites := rfl

/-! ### setPosition -/

@[simp] theorem setPosition_now (k : Nat) (p : PositionS) (s : State) : (setPosition k p s).now = s.now := rfl
@[simp] theorem setPosition_freeCtr (k : Nat) (p : PositionS) (s : State) : (setPosition k p s).freeCtr = s.freeCtr := rfl
@[simp] theorem setPosition_sent (k : Nat) (p : PositionS) (s : State) : (setPosition k p s).sent = s.sent := rfl
@[simp] theorem setPosition_pending (k : Nat) (p : PositionS) (s : State) : (setPosition k p s).pending = s.pending := rfl
@[simp] theorem setPosition_flash (k : Nat) (p : PositionS) (s : State) : (setPosition k p s).flash = s.flash := rfl
@[simp] theorem setPosition_boot (k : Nat) (p : PositionS) (s : State) : (setPosition k p s).boot = s.boot := rfl
@[simp] theorem setPosition_pins (k : Nat) (p : PositionS) (s : State) : (setPosition k p s).pins = s.pins := rfl
@[simp] theorem setPosition_side (k : Nat) (p : PositionS) (s : State) : (setPosition k p s).side = s.side := rfl
@[simp] theorem setPosition_power (k : Nat) (p : PositionS) (s : State) : (setPosition k p s).power = s.power := rfl
@[simp] theorem setPosition_fault (k : Nat) (p : PositionS) (s : State) : (setPosition k p s).fault = s.fault := rfl
@[simp] theorem setPosition_snap (k : Nat) (p : PositionS) (s : State) : (setPosition k p s).snap = s.snap := rfl
@[simp] theorem setPosition_tap (k : Nat) (p : PositionS) (s : State) : (setPosition k p s).tap = s.tap := rfl
@[simp] theorem setPosition_tick (k : Nat) (p : PositionS) (s : State) : (setPosition k p s).tick = s.tick := rfl
@[simp] theorem setPosition_lead (k : Nat) (p : PositionS) (s : State) : (setPosition k p s).lead = s.lead := rfl
@[simp] theorem setPosition_job (k : Nat) (p : PositionS) (s : State) : (setPosition k p s).job = s.job := rfl
@[simp] theorem setPosition_grp (k : Nat) (p : PositionS) (s : State) : (setPosition k p s).grp = s.grp := rfl
@[simp] theorem setPosition_fabric (k : Nat) (p : PositionS) (s : State) : (setPosition k p s).fabric = s.fabric := rfl
@[simp] theorem setPosition_cores (k : Nat) (p : PositionS) (s : State) : (setPosition k p s).cores = s.cores := rfl
@[simp] theorem setPosition_stream (k : Nat) (p : PositionS) (s : State) : (setPosition k p s).stream = s.stream := rfl
@[simp] theorem setPosition_mem (k : Nat) (p : PositionS) (s : State) : (setPosition k p s).mem = s.mem := rfl
@[simp] theorem setPosition_red (k : Nat) (p : PositionS) (s : State) : (setPosition k p s).red = s.red := rfl
@[simp] theorem setPosition_place (k : Nat) (p : PositionS) (s : State) : (setPosition k p s).place = s.place := rfl
@[simp] theorem setPosition_host (k : Nat) (p : PositionS) (s : State) : (setPosition k p s).host = s.host := rfl
@[simp] theorem setPosition_counters (k : Nat) (p : PositionS) (s : State) : (setPosition k p s).counters = s.counters := rfl
@[simp] theorem setPosition_cmdLatch (k : Nat) (p : PositionS) (s : State) : (setPosition k p s).cmdLatch = s.cmdLatch := rfl
@[simp] theorem setPosition_sideLatch (k : Nat) (p : PositionS) (s : State) : (setPosition k p s).sideLatch = s.sideLatch := rfl
@[simp] theorem setPosition_fieldWrites (k : Nat) (p : PositionS) (s : State) : (setPosition k p s).fieldWrites = s.fieldWrites := rfl

/-! ### setPortArb -/

@[simp] theorem setPortArb_now (k : Nat) (v : PortArb) (s : State) : (setPortArb k v s).now = s.now := rfl
@[simp] theorem setPortArb_freeCtr (k : Nat) (v : PortArb) (s : State) : (setPortArb k v s).freeCtr = s.freeCtr := rfl
@[simp] theorem setPortArb_sent (k : Nat) (v : PortArb) (s : State) : (setPortArb k v s).sent = s.sent := rfl
@[simp] theorem setPortArb_pending (k : Nat) (v : PortArb) (s : State) : (setPortArb k v s).pending = s.pending := rfl
@[simp] theorem setPortArb_flash (k : Nat) (v : PortArb) (s : State) : (setPortArb k v s).flash = s.flash := rfl
@[simp] theorem setPortArb_boot (k : Nat) (v : PortArb) (s : State) : (setPortArb k v s).boot = s.boot := rfl
@[simp] theorem setPortArb_pins (k : Nat) (v : PortArb) (s : State) : (setPortArb k v s).pins = s.pins := rfl
@[simp] theorem setPortArb_side (k : Nat) (v : PortArb) (s : State) : (setPortArb k v s).side = s.side := rfl
@[simp] theorem setPortArb_power (k : Nat) (v : PortArb) (s : State) : (setPortArb k v s).power = s.power := rfl
@[simp] theorem setPortArb_fault (k : Nat) (v : PortArb) (s : State) : (setPortArb k v s).fault = s.fault := rfl
@[simp] theorem setPortArb_snap (k : Nat) (v : PortArb) (s : State) : (setPortArb k v s).snap = s.snap := rfl
@[simp] theorem setPortArb_tap (k : Nat) (v : PortArb) (s : State) : (setPortArb k v s).tap = s.tap := rfl
@[simp] theorem setPortArb_tick (k : Nat) (v : PortArb) (s : State) : (setPortArb k v s).tick = s.tick := rfl
@[simp] theorem setPortArb_lead (k : Nat) (v : PortArb) (s : State) : (setPortArb k v s).lead = s.lead := rfl
@[simp] theorem setPortArb_job (k : Nat) (v : PortArb) (s : State) : (setPortArb k v s).job = s.job := rfl
@[simp] theorem setPortArb_grp (k : Nat) (v : PortArb) (s : State) : (setPortArb k v s).grp = s.grp := rfl
@[simp] theorem setPortArb_cores (k : Nat) (v : PortArb) (s : State) : (setPortArb k v s).cores = s.cores := rfl
@[simp] theorem setPortArb_stream (k : Nat) (v : PortArb) (s : State) : (setPortArb k v s).stream = s.stream := rfl
@[simp] theorem setPortArb_mem (k : Nat) (v : PortArb) (s : State) : (setPortArb k v s).mem = s.mem := rfl
@[simp] theorem setPortArb_red (k : Nat) (v : PortArb) (s : State) : (setPortArb k v s).red = s.red := rfl
@[simp] theorem setPortArb_beam (k : Nat) (v : PortArb) (s : State) : (setPortArb k v s).beam = s.beam := rfl
@[simp] theorem setPortArb_place (k : Nat) (v : PortArb) (s : State) : (setPortArb k v s).place = s.place := rfl
@[simp] theorem setPortArb_host (k : Nat) (v : PortArb) (s : State) : (setPortArb k v s).host = s.host := rfl
@[simp] theorem setPortArb_counters (k : Nat) (v : PortArb) (s : State) : (setPortArb k v s).counters = s.counters := rfl
@[simp] theorem setPortArb_cmdLatch (k : Nat) (v : PortArb) (s : State) : (setPortArb k v s).cmdLatch = s.cmdLatch := rfl
@[simp] theorem setPortArb_sideLatch (k : Nat) (v : PortArb) (s : State) : (setPortArb k v s).sideLatch = s.sideLatch := rfl
@[simp] theorem setPortArb_fieldWrites (k : Nat) (v : PortArb) (s : State) : (setPortArb k v s).fieldWrites = s.fieldWrites := rfl

/-! ### setQueue -/

@[simp] theorem setQueue_now (q : QueueId) (v : QueueS) (s : State) : (setQueue q v s).now = s.now := rfl
@[simp] theorem setQueue_freeCtr (q : QueueId) (v : QueueS) (s : State) : (setQueue q v s).freeCtr = s.freeCtr := rfl
@[simp] theorem setQueue_sent (q : QueueId) (v : QueueS) (s : State) : (setQueue q v s).sent = s.sent := rfl
@[simp] theorem setQueue_pending (q : QueueId) (v : QueueS) (s : State) : (setQueue q v s).pending = s.pending := rfl
@[simp] theorem setQueue_flash (q : QueueId) (v : QueueS) (s : State) : (setQueue q v s).flash = s.flash := rfl
@[simp] theorem setQueue_boot (q : QueueId) (v : QueueS) (s : State) : (setQueue q v s).boot = s.boot := rfl
@[simp] theorem setQueue_pins (q : QueueId) (v : QueueS) (s : State) : (setQueue q v s).pins = s.pins := rfl
@[simp] theorem setQueue_side (q : QueueId) (v : QueueS) (s : State) : (setQueue q v s).side = s.side := rfl
@[simp] theorem setQueue_power (q : QueueId) (v : QueueS) (s : State) : (setQueue q v s).power = s.power := rfl
@[simp] theorem setQueue_fault (q : QueueId) (v : QueueS) (s : State) : (setQueue q v s).fault = s.fault := rfl
@[simp] theorem setQueue_snap (q : QueueId) (v : QueueS) (s : State) : (setQueue q v s).snap = s.snap := rfl
@[simp] theorem setQueue_tap (q : QueueId) (v : QueueS) (s : State) : (setQueue q v s).tap = s.tap := rfl
@[simp] theorem setQueue_tick (q : QueueId) (v : QueueS) (s : State) : (setQueue q v s).tick = s.tick := rfl
@[simp] theorem setQueue_lead (q : QueueId) (v : QueueS) (s : State) : (setQueue q v s).lead = s.lead := rfl
@[simp] theorem setQueue_job (q : QueueId) (v : QueueS) (s : State) : (setQueue q v s).job = s.job := rfl
@[simp] theorem setQueue_grp (q : QueueId) (v : QueueS) (s : State) : (setQueue q v s).grp = s.grp := rfl
@[simp] theorem setQueue_cores (q : QueueId) (v : QueueS) (s : State) : (setQueue q v s).cores = s.cores := rfl
@[simp] theorem setQueue_stream (q : QueueId) (v : QueueS) (s : State) : (setQueue q v s).stream = s.stream := rfl
@[simp] theorem setQueue_mem (q : QueueId) (v : QueueS) (s : State) : (setQueue q v s).mem = s.mem := rfl
@[simp] theorem setQueue_red (q : QueueId) (v : QueueS) (s : State) : (setQueue q v s).red = s.red := rfl
@[simp] theorem setQueue_beam (q : QueueId) (v : QueueS) (s : State) : (setQueue q v s).beam = s.beam := rfl
@[simp] theorem setQueue_place (q : QueueId) (v : QueueS) (s : State) : (setQueue q v s).place = s.place := rfl
@[simp] theorem setQueue_host (q : QueueId) (v : QueueS) (s : State) : (setQueue q v s).host = s.host := rfl
@[simp] theorem setQueue_counters (q : QueueId) (v : QueueS) (s : State) : (setQueue q v s).counters = s.counters := rfl
@[simp] theorem setQueue_cmdLatch (q : QueueId) (v : QueueS) (s : State) : (setQueue q v s).cmdLatch = s.cmdLatch := rfl
@[simp] theorem setQueue_sideLatch (q : QueueId) (v : QueueS) (s : State) : (setQueue q v s).sideLatch = s.sideLatch := rfl
@[simp] theorem setQueue_fieldWrites (q : QueueId) (v : QueueS) (s : State) : (setQueue q v s).fieldWrites = s.fieldWrites := rfl

/-! ### setShadowBlock -/

@[simp] theorem setShadowBlock_now (b : Nat) (o : BlockS) (s : State) : (setShadowBlock b o s).now = s.now := rfl
@[simp] theorem setShadowBlock_freeCtr (b : Nat) (o : BlockS) (s : State) : (setShadowBlock b o s).freeCtr = s.freeCtr := rfl
@[simp] theorem setShadowBlock_sent (b : Nat) (o : BlockS) (s : State) : (setShadowBlock b o s).sent = s.sent := rfl
@[simp] theorem setShadowBlock_pending (b : Nat) (o : BlockS) (s : State) : (setShadowBlock b o s).pending = s.pending := rfl
@[simp] theorem setShadowBlock_flash (b : Nat) (o : BlockS) (s : State) : (setShadowBlock b o s).flash = s.flash := rfl
@[simp] theorem setShadowBlock_boot (b : Nat) (o : BlockS) (s : State) : (setShadowBlock b o s).boot = s.boot := rfl
@[simp] theorem setShadowBlock_pins (b : Nat) (o : BlockS) (s : State) : (setShadowBlock b o s).pins = s.pins := rfl
@[simp] theorem setShadowBlock_side (b : Nat) (o : BlockS) (s : State) : (setShadowBlock b o s).side = s.side := rfl
@[simp] theorem setShadowBlock_power (b : Nat) (o : BlockS) (s : State) : (setShadowBlock b o s).power = s.power := rfl
@[simp] theorem setShadowBlock_fault (b : Nat) (o : BlockS) (s : State) : (setShadowBlock b o s).fault = s.fault := rfl
@[simp] theorem setShadowBlock_snap (b : Nat) (o : BlockS) (s : State) : (setShadowBlock b o s).snap = s.snap := rfl
@[simp] theorem setShadowBlock_tap (b : Nat) (o : BlockS) (s : State) : (setShadowBlock b o s).tap = s.tap := rfl
@[simp] theorem setShadowBlock_tick (b : Nat) (o : BlockS) (s : State) : (setShadowBlock b o s).tick = s.tick := rfl
@[simp] theorem setShadowBlock_lead (b : Nat) (o : BlockS) (s : State) : (setShadowBlock b o s).lead = s.lead := rfl
@[simp] theorem setShadowBlock_job (b : Nat) (o : BlockS) (s : State) : (setShadowBlock b o s).job = s.job := rfl
@[simp] theorem setShadowBlock_grp (b : Nat) (o : BlockS) (s : State) : (setShadowBlock b o s).grp = s.grp := rfl
@[simp] theorem setShadowBlock_fabric (b : Nat) (o : BlockS) (s : State) : (setShadowBlock b o s).fabric = s.fabric := rfl
@[simp] theorem setShadowBlock_cores (b : Nat) (o : BlockS) (s : State) : (setShadowBlock b o s).cores = s.cores := rfl
@[simp] theorem setShadowBlock_stream (b : Nat) (o : BlockS) (s : State) : (setShadowBlock b o s).stream = s.stream := rfl
@[simp] theorem setShadowBlock_mem (b : Nat) (o : BlockS) (s : State) : (setShadowBlock b o s).mem = s.mem := rfl
@[simp] theorem setShadowBlock_beam (b : Nat) (o : BlockS) (s : State) : (setShadowBlock b o s).beam = s.beam := rfl
@[simp] theorem setShadowBlock_place (b : Nat) (o : BlockS) (s : State) : (setShadowBlock b o s).place = s.place := rfl
@[simp] theorem setShadowBlock_host (b : Nat) (o : BlockS) (s : State) : (setShadowBlock b o s).host = s.host := rfl
@[simp] theorem setShadowBlock_counters (b : Nat) (o : BlockS) (s : State) : (setShadowBlock b o s).counters = s.counters := rfl
@[simp] theorem setShadowBlock_cmdLatch (b : Nat) (o : BlockS) (s : State) : (setShadowBlock b o s).cmdLatch = s.cmdLatch := rfl
@[simp] theorem setShadowBlock_sideLatch (b : Nat) (o : BlockS) (s : State) : (setShadowBlock b o s).sideLatch = s.sideLatch := rfl
@[simp] theorem setShadowBlock_fieldWrites (b : Nat) (o : BlockS) (s : State) : (setShadowBlock b o s).fieldWrites = s.fieldWrites := rfl

/-! ### The changed fields -/

@[simp] theorem atTime_now (t : Nat) (s : State) : (atTime t s).now = max s.now t := rfl
@[simp] theorem emit_sent (m : Msg) (s : State) : (emit m s).sent = s.sent ++ [m] := rfl
@[simp] theorem emitAll_sent (ms : List Msg) (s : State) : (emitAll ms s).sent = s.sent ++ ms := rfl

/-! ### Reading back -/

@[simp] theorem fieldS_setField_same (k : Nat) (v : FieldS) (s : State) : fieldS (setField k v s) k = v := by simp [fieldS, setField]
@[simp] theorem fieldS_setField_ne {k j : Nat} (v : FieldS) (s : State) (h : j ≠ k) : fieldS (setField k v s) j = fieldS s j := by
  simp [fieldS, setField, mapGet_mapSet_ne h]
@[simp] theorem coreS_setCore_same (k : Nat) (v : CoreS) (s : State) : coreS (setCore k v s) k = v := by simp [coreS, setCore]
@[simp] theorem coreS_setCore_ne {k j : Nat} (v : CoreS) (s : State) (h : j ≠ k) : coreS (setCore k v s) j = coreS s j := by
  simp [coreS, setCore, mapGet_mapSet_ne h]
@[simp] theorem linkS_setLink_same (k : Nat) (v : LinkS) (s : State) : linkS (setLink k v s) k = v := by simp [linkS, setLink]
@[simp] theorem linkS_setLink_ne {k j : Nat} (v : LinkS) (s : State) (h : j ≠ k) : linkS (setLink k v s) j = linkS s j := by
  simp [linkS, setLink, mapGet_mapSet_ne h]
@[simp] theorem unitRun_setUnitRun_same (k : Nat) (v : UnitRun) (s : State) : unitRun (setUnitRun k v s) k = v := by simp [unitRun, setUnitRun]
@[simp] theorem unitRun_setUnitRun_ne {k j : Nat} (v : UnitRun) (s : State) (h : j ≠ k) : unitRun (setUnitRun k v s) j = unitRun s j := by
  simp [unitRun, setUnitRun, mapGet_mapSet_ne h]
@[simp] theorem laneS_setLane_same (k : Nat) (v : LaneS) (s : State) : laneS (setLane k v s) k = v := by simp [laneS, setLane]
@[simp] theorem laneS_setLane_ne {k j : Nat} (v : LaneS) (s : State) (h : j ≠ k) : laneS (setLane k v s) j = laneS s j := by
  simp [laneS, setLane, mapGet_mapSet_ne h]
@[simp] theorem streamLane_setStreamLane_same (k : Nat) (v : StreamLaneS) (s : State) : streamLane (setStreamLane k v s) k = v := by simp [streamLane, setStreamLane]
@[simp] theorem streamLane_setStreamLane_ne {k j : Nat} (v : StreamLaneS) (s : State) (h : j ≠ k) : streamLane (setStreamLane k v s) j = streamLane s j := by
  simp [streamLane, setStreamLane, mapGet_mapSet_ne h]
@[simp] theorem slotS_setSlot_same (k : Nat) (v : SlotS) (s : State) : slotS (setSlot k v s) k = v := by simp [slotS, setSlot]
@[simp] theorem slotS_setSlot_ne {k j : Nat} (v : SlotS) (s : State) (h : j ≠ k) : slotS (setSlot k v s) j = slotS s j := by
  simp [slotS, setSlot, mapGet_mapSet_ne h]
@[simp] theorem blockS_setBlock_same (k : Nat) (v : BlockS) (s : State) : blockS (setBlock k v s) k = v := by simp [blockS, setBlock]
@[simp] theorem blockS_setBlock_ne {k j : Nat} (v : BlockS) (s : State) (h : j ≠ k) : blockS (setBlock k v s) j = blockS s j := by
  simp [blockS, setBlock, mapGet_mapSet_ne h]
@[simp] theorem memberS_setMember_same (k : Nat) (v : MemberS) (s : State) : memberS (setMember k v s) k = v := by simp [memberS, setMember]
@[simp] theorem memberS_setMember_ne {k j : Nat} (v : MemberS) (s : State) (h : j ≠ k) : memberS (setMember k v s) j = memberS s j := by
  simp [memberS, setMember, mapGet_mapSet_ne h]
@[simp] theorem portS_setPort_same (k : Nat) (v : PortS) (s : State) : portS (setPort k v s) k = v := by simp [portS, setPort]
@[simp] theorem portS_setPort_ne {k j : Nat} (v : PortS) (s : State) (h : j ≠ k) : portS (setPort k v s) j = portS s j := by
  simp [portS, setPort, mapGet_mapSet_ne h]
@[simp] theorem ctxOf_setCtx_same (k : Nat) (v : ContextS) (s : State) : ctxOf (setCtx k v s) k = v := by simp [ctxOf, setCtx]
@[simp] theorem ctxOf_setCtx_ne {k j : Nat} (v : ContextS) (s : State) (h : j ≠ k) : ctxOf (setCtx k v s) j = ctxOf s j := by
  simp [ctxOf, setCtx, mapGet_mapSet_ne h]
@[simp] theorem fieldPower_setFieldPower_same (k : Nat) (v : FieldPowerS) (s : State) : fieldPower (setFieldPower k v s) k = v := by simp [fieldPower, setFieldPower]
@[simp] theorem fieldPower_setFieldPower_ne {k j : Nat} (v : FieldPowerS) (s : State) (h : j ≠ k) : fieldPower (setFieldPower k v s) j = fieldPower s j := by
  simp [fieldPower, setFieldPower, mapGet_mapSet_ne h]

/-- A counter after a count. -/
@[simp] theorem counter_count_same (k n : Nat) (s : State) : counter (count k n s) k = counter s k + n := by
  simp [counter, count, mapUpd]
@[simp] theorem counter_count_ne {k j : Nat} (n : Nat) (s : State) (h : j ≠ k) : counter (count k n s) j = counter s j := by
  simp [counter, count, mapUpd, mapGet_mapSet_ne h]

end Sys2Proof.Machine
end

