-- ==== Sys2Proof/Tests/Slice0.lean ====
section
/-! SUPPORT. Tests: for every statement with hypotheses a concrete state and operands that meet them, a command that each
well-formedness check refuses, and the worked examples and check values of the manual. -/

open Sys2Proof Sys2Proof.Machine

section Tests

set_option maxRecDepth 100000
set_option Elab.async false

/-! ## States -/

/-- A module that is READY, with nothing configured. -/
def wReady : State := { State.reset with boot := { State.reset.boot with state := .ready } }

/-- A job lead of two groups of two members, in a started job. -/
def wLead : State :=
  { wReady with job := { wReady.job with
      configured := true, started := true, group := 0, member := 0, groups := 2, members := 2, role := .lead, leadMember := 0
      standbyMember := some 1, initialEpoch := 1, straps := 3 } }

/-- The same module as a plain member of group 1. -/
def wMember : State := { wLead with job := { wLead.job with group := 1, member := 1, role := .member, standbyMember := none } }

/-- The last tick issued: slot 0 of step 1. -/
def wTick : TickMsg :=
  { tickCount := 4, step := 1, slot := 0, epoch := 1, slip := false, passBoundary := false, stepBoundary := false
    hold := false, external := false, flywheel := false, group := 0 }

/-- The job lead after that tick. -/
def wTicking : State := { wLead with lead := { wLead.lead with issued := some wTick, expected := 1000000 } }

/-- A schedule of ten slots without tasks. -/
def wSchedule : Schedule := { lastSlot := 9, passStarts := [], tasks := [], stream := [], dualStream := [] }

/-- A layout image with that schedule and empty sections. -/
def wImage : LayoutImage :=
  { magic := 0, format := 0, kind := 0, field := 0, layoutId := 0, period := 200, split := 4, outMask := 0, minBlocks := 0
    hbmMib := 0, digestOk := true, digest := 0, library := 0, stashGib := 0, kvBytesToken := 0, unitMap := [], leaves := []
    primary := some wSchedule, degraded := wSchedule, ingest := [], stash := [], layers := [], owners := [], homes := []
    blockRecords := [], comms := [], glintCounts := [], contrib := [], predictors := [], fallbacks := [] }

/-- The job lead after that tick, with the image in force. -/
def wSlots : State := { wTicking with place := { wTicking.place with inForce := some wImage } }

/-- A member one of whose units still runs when its grace ends. -/
def wGrace : State :=
  { wMember with
    tick := { wMember.tick with units := [(7, { running := some 3, grace := some 200 })] }
    fabric := { wMember.fabric with unitMap := [(7, 1 + 7 * 2 ^ 22)], outstanding := [(7, 1)] } }

/-- A task in FP8. -/
def wTask : QTask := { desc := { fmtA := 4, fmtB := 4, fmtOut := 4, coreMask := 1, signalUnit := 9, signalEntry := 2 } }

/-- Where the test instructions issue: core 2 of block 3, context 0. -/
def wIssue : Issue := { block := 3, core := 2, ctx := 0, pred := false, chk := .ok }

/-- A core that runs the task: registers r1 to r6, and an index list of two items at 0x300. -/
def wCoreS : CoreS :=
  { sram := [(0x100, 0x38#8), (0x200, 0x40#8), (0x300, 2#8), (0x304, 4#8), (0x30C, 1#8)]
    ctxs := [(0, { task := some wTask, pc := 64
                   regs := [(1, 0x100#32), (2, 0x200#32), (3, 16#32), (4, 0x300#32), (5, 0xFFFF#32), (6, 0x2001#32)] })] }

/-- A module with that core. -/
def wCore : State := { wReady with cores := [(50, wCoreS)] }

/-- The same with layer 5 predicted: pair 0 skipped, pair 1 kept. -/
def wPredict : State :=
  { wCore with place := { wCore.place with predict :=
      { recs := [{ layer := 5 }], pairs := [(pairKey 5 0 0, { scored := 15 }), (pairKey 5 0 1, { scored := 15, active := true })], running := true } } }

/-- The same with a communicator in slot 0, for bulk and glint, in FP32. -/
def wComm : State :=
  { wCore with place := { wCore.place with inForce := some { wImage with comms := [BitVec.ofNat 256 (3 + 4 * 1 + 32 * 1)] } } }

/-- The word of a class D tensor's layer record, and a module that defers its block 0x40. -/
def wWordD : BitVec 512 := BitVec.ofNat 512 (9 + 2 * 2 ^ 131 + 4 * 2 ^ 152)
def wDefer : State :=
  { wCore with place := { wCore.place with inForce := some { wImage with
      layers := [wWordD], contrib := [{ tensor := 9, bn := 0, owner := 0, block := 0x40, units := [], racc := [] }] } } }

/-- The job lead with a stream in progress: 96 slots of window, epoch 1. -/
def wStream : State :=
  { wLead with
    mem := { wLead.mem with stripe := [0, 1] }
    stream := { wLead.stream with slotBytes := 2 ^ 30, stop := false, epochA := 1, ranks := [0], activeLanes := 336 } }

/-- The job lead with an image of two owned blocks of one tensor, homed in stacks 0 and 1. -/
def wOwner : State :=
  { wStream with
    place := { wStream.place with inForce := some { wImage with
      layers := [BitVec.ofNat 512 (9 + 64 * 2 ^ 32 + 128 * 2 ^ 64)], homes := [(0, 0), (1, 1)], owners := [(0, 0), (1, 0)] } } }

/-- The same owner with the record of that tensor and one block as given; its second block as the first. -/
def wRed (l : LayerRec) (o : BlockS) : State :=
  { wOwner with red := { wOwner.red with layers := [(9, { l with tensor := 9, k := 64, n := 128 })], blocks := [(0, o), (1, o)] } }

/-- The same as a plain member of a job of one group. -/
def wRedMember (l : LayerRec) (o : BlockS) : State :=
  { wRed l o with job := { wOwner.job with role := .member, member := 1, leadMember := 0, groups := 1 } }

/-- The header of piece 1 of block 0, of member 1, in step 1, with SHIFT 2. -/
def wHeader (mode res : Nat) (clip : Bool) : BitVec 128 :=
  BitVec.ofNat 128 (encodeContrib { block := 0, piece := 1, mode := mode, clip := clip, nonfinite := false, shift := 2, group := 0
                                    member := 1, maxb := 5, step := 1, roll := 0, core := 0, res := res, ackAddr := 0 })

/-- The job lead with one lane of F00 as given, and a spare peer lane. -/
def wBeam (lane : Nat) (l : LaneS) : State :=
  { wLead with beam := { wLead.beam with lanes := [(lane, l), (15, { trained := true, identity := 4 })] } }

/-- The job lead with communicators 0 (FIXED48, members 0 and 1, excludable, no destination) and 1 (glint, the same members),
both rooted at member 0. -/
def wCommOf (m : State) : State :=
  { m with place := { m.place with inForce := some { wImage with
      comms := [BitVec.ofNat 256 (1 + 4 * 2 + 16 + 32 * 3 + 2 ^ 8 + 2 ^ 18 + 3 * 2 ^ 32), BitVec.ofNat 256 (2 + 4 * 2 + 2 ^ 8 + 2 ^ 18 + 3 * 2 ^ 32)]
      glintCounts := [[], [4, 2]] } } }

/-- A glint header of communicator 1. -/
def wGlint (op scope bytes count step : Nat) : BitVec 128 :=
  BitVec.ofNat 128 (encodeGlint { op := op, comm := 1, seq := 3, piece := 0, pieces := 0, bytes := bytes, scope := scope, count := count
                                  roll := 0, step := step })

/-- A chunk header of communicator 0, from member 1 to member 0, position 2. -/
def wChunk (op step : Nat) (last : Bool) : Nat :=
  pack [(6, 0), (2, op), (6, 1), (6, 0), (32, 2), (18, 3), (1, b2n last), (8, 0), (16, step), (16, 9)]

/-- A sound layout image of a module without any unit, for no field out of service. -/
def wSound : LayoutImage :=
  { wImage with magic := 0x59584C53, format := 1, period := 200, split := 4, digest := 1, layoutId := 5 }

/-- The header of a module-level command in a datagram. -/
def wHdr : CmdHdr := { origin := .datagram 77, ctx := 0xFF, seq := 9, quiet := false, fence := false }

/-- The same of context 3. -/
def wCtxHdr : CmdHdr := { wHdr with ctx := 3 }

/-- A packet as it stands in a datagram. -/
def wPacket (opcode : BitVec 16) (ctx : BitVec 8) (b : CmdBody) : Packet :=
  { opcode := opcode, flags := 0, ctx := ctx, seq := 9, length := 0, reservedAt := none, requiredLength := none, body := some b }

/-- A module with submission ring 2, whose packet at HEAD is as given, and its completion ring 3. -/
def wRing (p : Packet) : State :=
  { wReady with host := { wReady.host with
      rings := [(2, { kind := 1, order := 4, entryShift := 12, ctx := 0xFF, cq := 3, base := 65536, tail := 1 }),
                (3, { kind := 2, order := 4, entryShift := 12, ctx := 0xFF, cq := 0xFFFF, base := 131072 })]
      entries := [(4096 * 2, some p)] } }

/-- A module with an open queue pair 5 whose next PSN is 7, and a grant 9 on the first 8 KiB of RINGS. -/
def wRoce : State :=
  { wReady with host := { wReady.host with
      qps := [(5, { open_ := true, psn := 7, mtu := 1024 })]
      mrs := [{ rkey := 9, kind := 1, ctx := 0xFF, read := true, write := true, offset := 0, length := 8192, exposed := false }] } }

/-- A request on that queue pair. -/
def wReq (psn rkey : Nat) : RoceHdr :=
  { at_ := 3, ce := false, qpn := 5, psn := psn, rkey := rkey, offset := 64, icrcOk := true, opcodeOk := true }

/-- Settings of a serving context. -/
def wServe : ServeSettings := { maxRequests := 4, passTokens := 100, maxNew := 20, kvPage := 16, stopTokens := [] }

/-- A request that waits or runs in it. -/
def wRequest : RequestS :=
  { hdr := wCtxHdr, indirect := false, prompt := [5], promptLen := 1, newLen := 3, sampled := false, seed := 0, epoch := none, pages := 1
    tokens := [], inBatch := false, cancelled := false, stopped := false, kvLost := false }

/-- The job lead with context 3 open as given, and 16 bytes of KV to a token. -/
def wCtx (c : ContextS) : State :=
  { wLead with
    host := { wLead.host with contexts := [(3, c)] }
    mem := { wLead.mem with kvGib := 1 }
    place := { wLead.place with inForce := some { wSound with kvBytesToken := 16 } } }

/-- A serving context with one request. -/
def wServing : ContextS := { kind := some .serve, maxRequests := 4, passTokens := 100, maxNew := 20, kvPage := 16, requests := [wRequest] }

/-- A bundle of the module's stepping: its header, its four images' entries and its signature block's key slot. -/
def wManifest : Map Byte :=
  let at_ (o : Nat) (bs : List Byte) : Map Byte := bs.zipIdx.map fun e => (o + e.2, e.1)
  at_ 0 (bytesLE 64 (0x4E444256 + 2 ^ 32 + 4 * 2 ^ 48 + 2 ^ 56 + 7 * 2 ^ 64 + 2 ^ 128 + State.reset.flash.stepping * 2 ^ 192 + 512 * 2 ^ 288)) ++
    ((List.range 4).flatMap fun i => at_ (64 + 64 * i) (bytesLE 16 (i + 1))) ++ at_ 512 (bytesLE 4 0)

/-! ## Witnesses -/

theorem witness_TheLeadIssuesTicks :
    (∃ (s : _), Ready s ∧ issues s = true ∧ s.lead.issued = none ∧ haltAsked s = false) ∧
    (∃ (τ : _) (s : _) (m : _), Ready s ∧ issues s = true ∧ s.lead.issued = some m ∧ s.tick.source = .internal ∧ s.lead.issuedAt + periodNs s ≤ max s.now τ) ∧
    (∃ (τ : _) (s : _) (m : _), Ready s ∧ issues s = true ∧ s.lead.issued = some m ∧ s.tick.source = .internal ∧ s.lead.issuedAt + periodNs s ≤ max s.now τ ∧ s.job.ending = false ∧ s.grp.requests = [] ∧ m.hold = false ∧ s.lead.restartStep = false ∧ s.lead.overruns = [] ∧ s.lead.groupSlip = [] ∧ m.slot < lastSlotOf s) ∧
    (∃ (τ : _) (s : _) (m : _) (o : _), Ready s ∧ issues s = true ∧ s.lead.issued = some m ∧ s.tick.source = .internal ∧ s.lead.issuedAt + periodNs s ≤ max s.now τ ∧ s.job.ending = false ∧ s.grp.requests = [] ∧ m.hold = false ∧ s.lead.restartStep = false ∧ o ∈ s.lead.overruns ∧ o.at_ + 2000 ≤ max s.now τ ∧ (m.slot < lastSlotOf s ∨ inputsIn s = true)) ∧
    (∃ (τ : _) (s : _) (m : _), Ready s ∧ issues s = true ∧ s.lead.issued = some m ∧ s.tick.source = .external ∧ s.lead.expected ≤ max s.now τ + periodNs s / 100 ∧ max s.now τ ≤ s.lead.expected + periodNs s / 100) ∧
    (∃ (τ : _) (s : _) (m : _), Ready s ∧ issues s = true ∧ s.lead.issued = some m ∧ s.tick.source = .external ∧ (s.lead.expected + periodNs s / 100 < max s.now τ ∨ max s.now τ + periodNs s / 100 < s.lead.expected)) ∧
    (∃ (τ : _) (s : _) (m : _), Ready s ∧ issues s = true ∧ s.lead.issued = some m ∧ s.tick.source = .external ∧ s.grp.requests = [] ∧ s.lead.expected + periodNs s / 100 ≤ max s.now τ) :=
  ⟨⟨wLead, by decide +kernel⟩,
    ⟨1000000, wTicking, wTick, by decide +kernel⟩,
    ⟨1000000, wSlots, wTick, by decide +kernel⟩,
    ⟨1000000, { wTicking with lead := { wTicking.lead with overruns := [{ member := 1, unit := 7, slot := 0, at_ := 0 }] } }, wTick, { member := 1, unit := 7, slot := 0, at_ := 0 }, by decide +kernel⟩,
    ⟨1000000, { wTicking with tick := { wTicking.tick with source := .external } }, wTick, by decide +kernel⟩,
    ⟨2000000, { wTicking with tick := { wTicking.tick with source := .external } }, wTick, by decide +kernel⟩,
    ⟨2000000, { wTicking with tick := { wTicking.tick with source := .external }, lead := { wTicking.lead with flyRun := 2 } }, wTick, by decide +kernel⟩⟩

theorem witness_ModulesTakeTicks :
    (∃ (raw : BitVec 160) (s : _) (m : _), Ready s ∧ s.job.started = true ∧ tickCheckOk raw.toNat = true ∧ m = decodeTick raw.toNat ∧ m.hold = true) ∧
    (∃ (raw : BitVec 160) (s : _), Ready s ∧ s.job.started = true ∧ tickCheckOk raw.toNat = false) ∧
    (∃ (τ : _) (s : _) (p : _), Ready s ∧ s.job.started = true ∧ predicted s = some p ∧ p + tickSlack s < max s.now τ) ∧
    (∃ (τ : _) (u : UnitId) (s : _) (e : _), Ready s ∧ s.job.held = false ∧ isLead s = false ∧ (unitRun s u.val).grace = some e ∧ e ≤ max s.now τ ∧ unitBusy s u.val = true) ∧
    (∃ (s : _), Ready s ∧ isJobLead s = true ∧ s.job.started = true ∧ s.job.held = false) ∧
    (∃ (g : GroupId) (s : _), Ready s ∧ issues s = true ∧ s.job.held = false ∧ g.val ≠ 0) ∧
    (∃ (τ : _) (s : _), Ready s ∧ s.job.started = true ∧ s.job.role = .standby ∧ s.tick.lastValidAt.getD 0 + silenceBound s ≤ max s.now τ) ∧
    (∃ (s : _) (m : _), Ready s ∧ isLead s = true ∧ s.job.started = true ∧ s.grp.standbyLost = true ∧ s.job.held = true ∧ (activeMembers s).find? (fun k => decide (k ≠ s.job.member) && bitAt s.job.straps k) = some m) :=
  ⟨⟨BitVec.ofNat 160 (encodeTick { wTick with hold := true }), wMember, { wTick with hold := true }, by decide +kernel⟩,
    ⟨0#160, { wMember with tick := { wMember.tick with missed := 1 } }, by decide +kernel⟩,
    ⟨900000, { wMember with tick := { wMember.tick with lastValidAt := some 0 } }, 200000, by decide +kernel⟩,
    ⟨300, 7, wGrace, 200, by decide +kernel⟩,
    ⟨wLead, by decide +kernel⟩,
    ⟨1, wLead, by decide +kernel⟩,
    ⟨2000000, { wMember with job := { wMember.job with role := .standby } }, by decide +kernel⟩,
    ⟨{ wLead with job := { wLead.job with held := true }, grp := { wLead.grp with standbyLost := true } }, 1, by decide +kernel⟩⟩

theorem witness_LinksCheckEveryFlit :
    (∃ (link : _) (s : _), Ready s ∧ linkUp s link = true) ∧
    (∃ (link : _) (flit : BitVec 128) (s : _), Ready s ∧ linkUp s link = true ∧ flit.toNat ≠ 0xF) ∧
    (∃ (flit : BitVec 128) (s : _), Ready s ∧ flit.toNat = 0xF) ∧
    (∃ (link : _) (s : _) (f : _), Ready s ∧ linkUp s link = true ∧ (linkS s (linkKey link)).resend = true ∧ (linkS s (linkKey link)).retraining = false ∧ unreceived (linkS s (linkKey link)) = some f) ∧
    (∃ (link : _) (s : _), Ready s ∧ linkUp s link = true ∧ (linkS s (linkKey link)).retraining = false ∧ (3 ≤ (linkS s (linkKey link)).failRun ∨ 64 < (linkS s (linkKey link)).errors.length)) ∧
    (∃ (link : _) (wires : List (Fin 140)) (s : _), Ready s ∧ (linkS s (linkKey link)).retraining = true ∧ (linkS s (linkKey link)).spares + wires.length ≤ 4) ∧
    (∃ (link : _) (wires : List (Fin 140)) (repaired : _) (s : _), Ready s ∧ (linkS s (linkKey link)).retraining = true ∧ (repaired = false ∨ 4 < (linkS s (linkKey link)).spares + wires.length)) :=
  ⟨⟨{ router := 100, dir := .e }, wReady, by decide +kernel⟩,
    ⟨{ router := 100, dir := .e }, 0x123#128, { wReady with fabric := { wReady.fabric with links := [(400, { failRun := 1, errors := [3] })] } }, by decide +kernel⟩,
    ⟨0xF#128, wReady, by decide +kernel⟩,
    ⟨{ router := 100, dir := .e }, { wReady with fabric := { wReady.fabric with links := [(400, { replay := [1, 2], resend := true, inFlight := 1 })] } }, 2, by decide +kernel⟩,
    ⟨{ router := 100, dir := .e }, { wReady with fabric := { wReady.fabric with links := [(400, { failRun := 3 })] } }, by decide +kernel⟩,
    ⟨{ router := 100, dir := .e }, [1, 2], { wReady with fabric := { wReady.fabric with links := [(400, { retraining := true, spares := 2 })] } }, by decide +kernel⟩,
    ⟨{ router := 100, dir := .e }, [1, 2, 3], true, { wReady with fabric := { wReady.fabric with links := [(400, { retraining := true, spares := 2 })] } }, by decide +kernel⟩⟩

theorem witness_PacketsFollowTheirRoute :
    (∃ (router : BlockId) (p : Flits) (d : Dir) (r : Nat) (s : _), Ready s ∧ isDark s (router.val / 640) = false ∧ headerOk (decodeFlit p.header.toNat) = true ∧ (decodeFlit p.header.toNat).esc = false ∧ fieldAt (decodeFlit p.header.toNat).destBx (decodeFlit p.header.toNat).destBy = router.val / 640 ∧ dirInField (blockBx router.val) (blockBy router.val) (decodeFlit p.header.toNat).destBx (decodeFlit p.header.toNat).destBy = some d ∧ linkEnd { router := router, dir := d } = some r ∧ isDark s (r / 640) = false ∧ (portS_ s (portKey router.val (.mesh d))).waiting = [] ∧ (linkS s (linkKey { router := router, dir := d })).retraining = false) ∧
    (∃ (router : BlockId) (p : Flits) (s : _), Ready s ∧ isLit s (router.val / 640) = true ∧ headerOk (decodeFlit p.header.toNat) = true ∧ (decodeFlit p.header.toNat).esc = false ∧ (decodeFlit p.header.toNat).destKind = 0 ∧ (decodeFlit p.header.toNat).destBx = blockBx router.val ∧ (decodeFlit p.header.toNat).destBy = blockBy router.val ∧ (portS_ s (portKey router.val .local_)).waiting = []) ∧
    (∃ (router : BlockId) (p : Flits) (s : _), Ready s ∧ isDark s (router.val / 640) = false ∧ (8 < (decodeFlit p.header.toNat).type ∨ (decodeFlit p.header.toNat).type = 0 ∨ 256 < (decodeFlit p.header.toNat).len ∨ (decodeFlit p.header.toNat).destKind = 3)) ∧
    (∃ (router : BlockId) (p : Flits) (d : Dir) (r : Nat) (s : _), Ready s ∧ isDark s (router.val / 640) = false ∧ headerOk (decodeFlit p.header.toNat) = true ∧ routeOut s router.val (decodeFlit p.header.toNat) = some (.mesh d, false) ∧ linkEnd { router := router, dir := d } = some r ∧ isDark s (r / 640) = true ∧ (portS_ s (portKey router.val (.mesh d))).waiting = []) ∧
    (∃ (block : BlockId) (s : _), Ready s ∧ isLit s (block.val / 640) = false) ∧
    (∃ (router : BlockId) (p : Flits) (q : Flits) (m : Flits) (s : _), Ready s ∧ isDark s (router.val / 640) = false ∧ spillMerge p q = some m) ∧
    (∃ (router : BlockId) (p : Flits) (q : Flits) (m : Flits) (s : _), Ready s ∧ isDark s (router.val / 640) = false ∧ spillMerge p q = some m) :=
  ⟨⟨0, { header := BitVec.ofNat 128 (encodeFlit { fmt := 0, type := 2, vc := 2, destBx := 5, destBy := 3, srcBx := 0, srcBy := 0, len := 2, destKind := 0, add := false, esc := false, addr := 65536, tag := 0, ctx := 0, comm := 0 }), payload := List.replicate 32 1#8 }, .e, 1, wReady, by decide +kernel⟩,
    ⟨0, { header := BitVec.ofNat 128 (encodeFlit { fmt := 0, type := 2, vc := 2, destBx := 0, destBy := 0, srcBx := 0, srcBy := 0, len := 2, destKind := 0, add := false, esc := false, addr := 65536, tag := 0, ctx := 0, comm := 0 }), payload := List.replicate 32 1#8 }, wReady, by decide +kernel⟩,
    ⟨0, { header := BitVec.ofNat 128 (encodeFlit { fmt := 0, type := 9, vc := 2, destBx := 5, destBy := 3, srcBx := 0, srcBy := 0, len := 2, destKind := 0, add := false, esc := false, addr := 65536, tag := 0, ctx := 0, comm := 0 }), payload := List.replicate 32 1#8 }, wReady, by decide +kernel⟩,
    ⟨19, { header := BitVec.ofNat 128 (encodeFlit { fmt := 0, type := 2, vc := 2, destBx := 25, destBy := 3, srcBx := 0, srcBy := 0, len := 2, destKind := 0, add := false, esc := false, addr := 65536, tag := 0, ctx := 0, comm := 0 }), payload := List.replicate 32 1#8 }, .e, 640, { wReady with fabric := { wReady.fabric with fields := [(1, { state := .dark })] } }, by decide +kernel⟩,
    ⟨0, { wReady with fabric := { wReady.fabric with fields := [(0, { state := .shade })] } }, by decide +kernel⟩,
    ⟨0, { header := BitVec.ofNat 128 (encodeFlit { fmt := 0, type := 2, vc := 2, destBx := 5, destBy := 3, srcBx := 0, srcBy := 0, len := 2, destKind := 0, add := true, esc := false, addr := 65536, tag := 0, ctx := 0, comm := 0 }), payload := [1#8, 0#8] ++ List.replicate 30 0#8 }, { header := BitVec.ofNat 128 (encodeFlit { fmt := 0, type := 2, vc := 2, destBx := 5, destBy := 3, srcBx := 0, srcBy := 0, len := 2, destKind := 0, add := true, esc := false, addr := 65536, tag := 0, ctx := 0, comm := 0 }), payload := [1#8, 0#8] ++ List.replicate 30 0#8 }, { header := BitVec.ofNat 128 (encodeFlit { fmt := 0, type := 2, vc := 2, destBx := 5, destBy := 3, srcBx := 0, srcBy := 0, len := 2, destKind := 0, add := true, esc := false, addr := 65536, tag := 0, ctx := 0, comm := 0 }), payload := [2#8, 0#8] ++ List.replicate 30 0#8 }, wReady, by decide +kernel⟩,
    ⟨0, { header := BitVec.ofNat 128 (encodeFlit { fmt := 0, type := 2, vc := 2, destBx := 5, destBy := 3, srcBx := 0, srcBy := 0, len := 2, destKind := 0, add := true, esc := false, addr := 65536, tag := 0, ctx := 0, comm := 0 }), payload := [1#8, 0#8] ++ List.replicate 30 0#8 }, { header := BitVec.ofNat 128 (encodeFlit { fmt := 0, type := 2, vc := 2, destBx := 5, destBy := 3, srcBx := 0, srcBy := 0, len := 2, destKind := 0, add := true, esc := false, addr := 65536, tag := 0, ctx := 0, comm := 0 }), payload := [1#8, 0#8] ++ List.replicate 30 0#8 }, { header := BitVec.ofNat 128 (encodeFlit { fmt := 0, type := 2, vc := 2, destBx := 5, destBy := 3, srcBx := 0, srcBy := 0, len := 2, destKind := 0, add := true, esc := false, addr := 65536, tag := 0, ctx := 0, comm := 0 }), payload := [2#8, 0#8] ++ List.replicate 30 0#8 }, wReady, by decide +kernel⟩⟩

theorem witness_PacketsReachSram :
    (∃ (block : BlockId) (p : Flits) (s : _), Ready s ∧ coreOn s (coreKey block.val 0) = true ∧ (decodeFlit p.header.toNat).type = 2 ∧ (decodeFlit p.header.toNat).add = false ∧ bitAt (decodeFlit p.header.toNat).tag 15 = false ∧ maskCores ((decodeFlit p.header.toNat).addr / 65536) ≠ [] ∧ (decodeFlit p.header.toNat).addr % 65536 + p.payload.length ≤ 65536) ∧
    (∃ (block : BlockId) (c : Nat) (p : Flits) (s : _), Ready s ∧ coreOn s (coreKey block.val 0) = true ∧ (decodeFlit p.header.toNat).type = 2 ∧ (decodeFlit p.header.toNat).add = true ∧ bitAt (decodeFlit p.header.toNat).tag 15 = false ∧ maskCores ((decodeFlit p.header.toNat).addr / 65536) = [c] ∧ (decodeFlit p.header.toNat).addr % 65536 + p.payload.length ≤ 65552) :=
  ⟨⟨7, { header := BitVec.ofNat 128 (encodeFlit { fmt := 0, type := 2, vc := 2, destBx := 5, destBy := 3, srcBx := 0, srcBy := 0, len := 2, destKind := 0, add := false, esc := false, addr := 327936, tag := 0, ctx := 0, comm := 0 }), payload := List.replicate 32 1#8 }, wReady, by decide +kernel⟩,
    ⟨7, 2, { header := BitVec.ofNat 128 (encodeFlit { fmt := 0, type := 2, vc := 2, destBx := 5, destBy := 3, srcBx := 0, srcBy := 0, len := 2, destKind := 0, add := true, esc := false, addr := 262400, tag := 0, ctx := 0, comm := 0 }), payload := [1#8, 0#8] ++ List.replicate 30 0#8 }, wReady, by decide +kernel⟩⟩

theorem witness_QueuesKeepTheirItems :
    (∃ (q : _) (item : BitVec 1040) (s : _), Ready s ∧ item.toNat ≠ darkWord q ∧ (queueS s q).kept = none ∧ (queueS s q).spent < queueStages q ∧ queueHeld s q = false) ∧
    (∃ (q : _) (item : BitVec 1040) (s : _), Ready s ∧ item.toNat ≠ darkWord q ∧ (queueS s q).kept = none ∧ (queueStages q ≤ (queueS s q).spent ∨ queueHeld s q = true)) ∧
    (∃ (q : _) (s : _), Ready s ∧ visible q (queueS s q) = 0) ∧
    (∃ (q : _) (s : _) (i : _) (rest : _), Ready s ∧ ingestTurn s q = true ∧ visible q (queueS s q) ≠ 0 ∧ (queueS s q).items = i :: rest ∧ sameClock q = false) ∧
    (∃ (q : _) (s : _) (g : _) (rest : _), Ready s ∧ (queueS s q).writeSync = g :: rest) ∧
    (∃ (q : _) (s : _) (g : _) (rest : _), Ready s ∧ (queueS s q).readSync = g :: rest ∧ (queueS s q).kept = none) :=
  ⟨⟨(.hubToControl 3), 9#1040, wReady, by decide +kernel⟩,
    ⟨(.hubToControl 3), 9#1040, { wReady with fabric := { wReady.fabric with queues := [(queueKey (.hubToControl 3), { spent := 32 })] } }, by decide +kernel⟩,
    ⟨(.hubToControl 3), wReady, by decide +kernel⟩,
    ⟨(.hubToControl 3), { wReady with fabric := { wReady.fabric with queues := [(queueKey (.hubToControl 3), { items := [4, 5], seenWrite := 2, writeCount := 2, spent := 2 })] } }, 4, [5], by decide +kernel⟩,
    ⟨(.hubToControl 3), { wReady with fabric := { wReady.fabric with queues := [(queueKey (.hubToControl 3), { items := [4, 5], writeCount := 2, spent := 2, writeSync := [1, 3] })] } }, 1, [3], by decide +kernel⟩,
    ⟨(.hubToControl 3), { wReady with fabric := { wReady.fabric with queues := [(queueKey (.hubToControl 3), { items := [4, 5], writeCount := 3, readCount := 1, spent := 3, readSync := [1] })] } }, 1, [], by decide +kernel⟩⟩

theorem witness_FieldsAndUnitMapChange :
    (∃ (f : FieldId) (s : _), Ready s ∧ isDark s f.val = false) ∧
    (∃ (f : FieldId) (s : _), Ready s ∧ isLit s f.val = true) ∧
    (∃ (s : _), Ready s ∧ (s.fabric.returnRebuild = false ∨ inStep s = false) ∧ (∀ g ∈ poweredFields s, g ∈ keptPart s)) ∧
    (∃ (s : _) (f : FieldId) (g : FieldId), Ready s ∧ (s.fabric.returnRebuild = false ∨ inStep s = false) ∧ (∀ h ∈ poweredFields s, h ∈ keptPart s) ∧ (∀ h : FieldId, isDark s h.val = false) ∧ f ≠ g) ∧
    (∃ (entries : _) (s : _), Ready s ∧ heldOrIdle s = true ∧ allDone s = true ∧ firstBad s (writeMap entries s.fabric.unitMap) = none) ∧
    (∃ (entries : _) (s : _) (u : _), Ready s ∧ heldOrIdle s = true ∧ allDone s = true ∧ firstBad s (writeMap entries s.fabric.unitMap) = some u) :=
  ⟨⟨3, wReady, by decide +kernel⟩,
    ⟨3, wReady, by decide +kernel⟩,
    ⟨wReady, by decide +kernel⟩,
    ⟨wReady, 3, 9, by decide +kernel⟩,
    ⟨[{ unit := 5, entry := BitVec.ofNat 64 (1 + 7 * 2 ^ 22) }], wReady, by decide +kernel⟩,
    ⟨[{ unit := 5, entry := BitVec.ofNat 64 (3 + 7 * 2 ^ 22) }], wReady, 5, by decide +kernel⟩⟩

theorem witness_ControlInstructionsComplete :
    (∃ (k : _) (s : _) (task : _) (op : BitVec 8), Issues k s task ∧ opcodeListed op.toNat = true) ∧
    (∃ (k : _) (s : _) (task : _) (op : BitVec 8), Issues k s task ∧ opcodeListed op.toNat = false) ∧
    (∃ (k : _) (s : _) (task : _), Issues k s task) ∧
    (∃ (k : _) (s : _) (task : _) (count : _), Issues k s task ∧ 2 ≤ reg (issueCtx k s) count) ∧
    (∃ (k : _) (s : _) (task : _) (count : _), Issues k s task ∧ reg (issueCtx k s) count = 1) ∧
    (∃ (k : _) (s : _) (task : _) (count : _), Issues k s task ∧ reg (issueCtx k s) count = 0) ∧
    (∃ (k : _) (s : _) (task : _), Issues k s task) ∧
    (∃ (k : _) (s : _) (task : _) (unit : _) (entry : Fin 64) (n : BitVec 16), Issues k s task ∧ (issueCtx k s).suppress = 0 ∧ reg (issueCtx k s) unit % 65536 = 0xFFFF ∧ (mapGet {} (issueCore k s).sb entry.val).count + n.toNat ≤ 0xFFFF) ∧
    (∃ (k : _) (s : _) (task : _) (unit : _), Issues k s task ∧ (issueCtx k s).suppress = 0 ∧ reg (issueCtx k s) unit % 65536 ≠ 0xFFFF) ∧
    (∃ (k : _) (s : _) (task : _), Issues k s task) ∧
    (∃ (k : _) (s : _) (task : _) (addr : _), Issues k s task ∧ reg (issueCtx k s) addr + 64 ≤ 0x10000) ∧
    (∃ (k : _) (s : _) (task : _), Issues k s task ∧ (issueCtx k s).suppress = 0 ∧ (issueCtx k s).rerun = [] ∧ task.desc.slack = false ∧ task.desc.signalUnit ≠ 0xFFFF ∧ (∀ e ∈ s.tick.units, e.2.held = [])) :=
  ⟨⟨wIssue, wCore, wTask, 0x00#8, by decide +kernel⟩,
    ⟨wIssue, wCore, wTask, 0x1F#8, by decide +kernel⟩,
    ⟨wIssue, wCore, wTask, by decide +kernel⟩,
    ⟨wIssue, wCore, wTask, 3, by decide +kernel⟩,
    ⟨wIssue, { wCore with cores := [(50, { wCoreS with ctxs := [(0, { task := some wTask, pc := 64, regs := [(3, 1#32)] })] })] }, wTask, 3, by decide +kernel⟩,
    ⟨wIssue, wCore, wTask, 0, by decide +kernel⟩,
    ⟨wIssue, { wCore with cores := [(50, { wCoreS with sb := [(4, { count := 20 })] })] }, wTask, by decide +kernel⟩,
    ⟨wIssue, { wCore with cores := [(50, { wCoreS with sb := [(4, { count := 1, target := 3, state := .armed })] })] }, wTask, 5, 4, 2#16, by decide +kernel⟩,
    ⟨wIssue, wCore, wTask, 1, by decide +kernel⟩,
    ⟨wIssue, wCore, wTask, by decide +kernel⟩,
    ⟨wIssue, wCore, wTask, 1, by decide +kernel⟩,
    ⟨wIssue, { wCore with fabric := { wCore.fabric with outstanding := [(3, 2)] } }, wTask, by decide +kernel⟩⟩

theorem witness_MoveInstructionsComplete :
    (∃ (k : _) (s : _) (task : _) (dst : _) (src : _) (len : _), Issues k s task ∧ (issueCore k s).move = none ∧ reg (issueCtx k s) dst + reg (issueCtx k s) len ≤ 0x10000 ∧ reg (issueCtx k s) src + reg (issueCtx k s) len ≤ 0x10000) ∧
    (∃ (k : _) (s : _) (task : _) (dst : _) (src : _) (len : _), Issues k s task ∧ (issueCore k s).move = none ∧ reg (issueCtx k s) dst + reg (issueCtx k s) len ≤ 0x10000 ∧ reg (issueCtx k s) src + reg (issueCtx k s) len ≤ 0x10000) ∧
    (∃ (k : _) (s : _) (task : _) (dst : _) (src : _) (len : _), Issues k s task ∧ (issueCore k s).move = none ∧ reg (issueCtx k s) dst + reg (issueCtx k s) len ≤ 0x10000 ∧ reg (issueCtx k s) src + reg (issueCtx k s) len ≤ 0x10000) ∧
    (∃ (k : _) (s : _) (task : _) (dst : _) (len : _), Issues k s task ∧ (issueCore k s).move = none ∧ reg (issueCtx k s) dst + reg (issueCtx k s) len ≤ 0x10000) ∧
    (∃ (k : _) (s : _) (task : _) (dst : _) (src : _) (list : _) (l : _), Issues k s task ∧ (issueCore k s).move = none ∧ indexList (issueCore k s) (reg (issueCtx k s) list) = some l ∧ reg (issueCtx k s) dst + l.size * l.indices.length ≤ 0x10000 ∧ (∀ i ∈ l.indices, reg (issueCtx k s) src + i * l.size + l.size ≤ 0x10000)) ∧
    (∃ (k : _) (s : _) (task : _) (dst : _) (src : _) (list : _) (l : _), Issues k s task ∧ (issueCore k s).move = none ∧ indexList (issueCore k s) (reg (issueCtx k s) list) = some l ∧ reg (issueCtx k s) src + l.size * l.indices.length ≤ 0x10000 ∧ (∀ i ∈ l.indices, reg (issueCtx k s) dst + i * l.size + l.size ≤ 0x10000)) ∧
    (∃ (k : _) (s : _) (task : _) (src : _) (grid : Grid) (w : _), Issues k s task ∧ (issueCore k s).move = none ∧ tileElemBytes (match grid with | .la => task.desc.fmtA | .lb => task.desc.fmtB) = some w ∧ reg (issueCtx k s) src + 16 * w ≤ 0x10000) ∧
    (∃ (k : _) (s : _) (task : _) (c : _), Issues k s task ∧ (issueCore k s).move = some c) ∧
    (∃ (k : _) (s : _) (task : _) (dst : _) (len : _), Issues k s task ∧ (issueCore k s).move = none ∧ 0 < reg (issueCtx k s) len ∧ 0x10000 < reg (issueCtx k s) dst + reg (issueCtx k s) len) :=
  ⟨⟨wIssue, wCore, wTask, 2, 1, 3, by decide +kernel⟩,
    ⟨wIssue, wPredict, wTask, 2, 1, 3, by decide +kernel⟩,
    ⟨wIssue, wPredict, wTask, 2, 1, 3, by decide +kernel⟩,
    ⟨wIssue, wCore, wTask, 2, 3, by decide +kernel⟩,
    ⟨wIssue, wCore, wTask, 2, 1, 4, { size := 4, indices := [0, 1] }, by decide +kernel⟩,
    ⟨wIssue, wCore, wTask, 2, 1, 4, { size := 4, indices := [0, 1] }, by decide +kernel⟩,
    ⟨wIssue, wCore, wTask, 1, .la, 1, by decide +kernel⟩,
    ⟨wIssue, { wCore with cores := [(50, { wCoreS with move := some 3 })] }, wTask, 3, by decide +kernel⟩,
    ⟨wIssue, wCore, wTask, 5, 3, by decide +kernel⟩⟩

theorem witness_TensorInstructionsComplete :
    (∃ (k : _) (s : _) (task : _) (word : BitVec 64) (p : _), Issues (withPred k word) s task ∧ (issueCore k s).tensor.length < 2 ∧ (prepare 0x40 (issueCore k s) (issueCtx k s) task word.toNat).toOption = some p ∧ shiftMismatch (issueCore k s) p = none) ∧
    (∃ (k : _) (s : _) (task : _) (word : BitVec 64) (use : _) (p : _), Issues (withPred k word) s task ∧ useRuns s use = true ∧ biasInSram use (issueCtx k s) = true ∧ (issueCore k s).tensor.length < 2 ∧ (prepare 0x40 (issueCore k s) (issueCtx k s) task word.toNat).toOption = some p ∧ shiftMismatch (issueCore k s) p = none) ∧
    (∃ (k : _) (s : _) (task : _) (word : BitVec 64) (use : _), Issues (withPred k word) s task ∧ useRuns s use = false) ∧
    (∃ (k : _) (s : _) (task : _) (word : BitVec 64), Issues (withPred k word) s task ∧ 2 ≤ (issueCore k s).tensor.length) ∧
    (∃ (k : _) (s : _) (task : _) (dst : _) (set : Fin 2), Issues k s task ∧ setInUse (issueCore k s) set.val = false ∧ reg (issueCtx k s) dst + 64 ≤ 0x10000 ∧ drainMismatch (issueCore k s) set.val = none) ∧
    (∃ (k : _) (s : _) (task : _) (set : Fin 2), Issues k s task ∧ setInUse (issueCore k s) set.val = false) ∧
    (∃ (core : CoreRef) (s : _), Ready s ∧ coreOn s (coreKey core.block.val core.core.val) = true) ∧
    (∃ (core : CoreRef) (s : _), Ready s ∧ coreOn s (coreKey core.block.val core.core.val) = true) :=
  ⟨⟨wIssue, wCore, wTask, 0x4140#64, { a := { fmt := .elem .e4m3, elem := .e4m3, base := 0x100, orient := false, scales := 16 }, b := { fmt := .elem .e4m3, elem := .e4m3, base := 0x200, orient := false, scales := 0 }, sparse := .dense, k := 4, set := 0, mode := 0, preload := 0 }, by decide +kernel⟩,
    ⟨wIssue, wPredict, wTask, 0x4140#64, (.pair { layer := 5#16, group := 0#32, block := 1#16 }), { a := { fmt := .elem .e4m3, elem := .e4m3, base := 0x100, orient := false, scales := 16 }, b := { fmt := .elem .e4m3, elem := .e4m3, base := 0x200, orient := false, scales := 0 }, sparse := .dense, k := 4, set := 0, mode := 0, preload := 0 }, by decide +kernel⟩,
    ⟨wIssue, wPredict, wTask, 0x4140#64, (.pair { layer := 5#16, group := 0#32, block := 0#16 }), by decide +kernel⟩,
    ⟨wIssue, { wCore with cores := [(50, { wCoreS with tensor := [0, 1] })] }, wTask, 0x4140#64, by decide +kernel⟩,
    ⟨wIssue, { wCore with cores := [(50, { wCoreS with acc := [(1, { sig := 3, res := 3, valid := true }), (17, { sig := 5, res := 5, valid := true })] })] }, wTask, 2, 0, by decide +kernel⟩,
    ⟨wIssue, { wCore with cores := [(50, { wCoreS with acc := [(1, { sig := 3, valid := true })] })] }, wTask, 0, by decide +kernel⟩,
    ⟨{ block := 3, core := 2 }, { wCore with cores := [(50, { wCoreS with tensor := [0, 1] })] }, by decide +kernel⟩,
    ⟨{ block := 3, core := 2 }, { wCore with cores := [(50, { wCoreS with tensor := [0, 1], move := some 0 })] }, by decide +kernel⟩⟩

theorem witness_VectorInstructionsComplete :
    (∃ (k : _) (s : _) (task : _) (op : _) (dst : _) (a : _) (b : _) (c : _) (count : Fin 4096), Issues k s task ∧ (issueCore k s).vector = none ∧ (∀ r ∈ dst :: [a, b, c].take (vecOpArity op), reg (issueCtx k s) r + 4 * (count.val + 1) ≤ 0x10000)) ∧
    (∃ (k : _) (s : _) (task : _) (dst : _) (a : _) (count : Fin 4096), Issues k s task ∧ (issueCore k s).vector = none ∧ (∀ r ∈ [dst, a], reg (issueCtx k s) r + 4 * (count.val + 1) ≤ 0x10000)) ∧
    (∃ (k : _) (s : _) (task : _) (dst : _) (src : _) (scale : _) (from_ : _) (to_ : _) (f : _) (g : _) (count : Fin 4096), Issues k s task ∧ (issueCore k s).vector = none ∧ (cvtFmtOf from_).toOption = some f ∧ (cvtFmtOf to_).toOption = some g ∧ reg (issueCtx k s) src + cvtBytes f (count.val + 1) ≤ 0x10000 ∧ reg (issueCtx k s) dst + cvtBytes g (count.val + 1) ≤ 0x10000 ∧ reg (issueCtx k s) scale + cvtScaleBytes f (count.val + 1) + cvtScaleBytes g (count.val + 1) ≤ 0x10000 ∧ (f = .t4 → ∀ b ∈ List.range (ceilDiv (count.val + 1) 32), sramNat (issueCore k s) (reg (issueCtx k s) scale + 2 * b) 1 ≠ 0xFF) ∧ (g = .t4 → ∀ i ∈ List.range (count.val + 1), (match cvtValue (issueCore k s) f (reg (issueCtx k s) src) (reg (issueCtx k s) scale) i with | .fin _ _ _ => true | _ => false) = true)) ∧
    (∃ (k : _) (s : _) (task : _) (kind : _) (dst : _) (src : _) (rows : Fin 4096) (cols : Fin 4096), Issues k s task ∧ (issueCore k s).vector = none ∧ (rows.val + 1) * (cols.val + 1) ≤ 4096 ∧ reg (issueCtx k s) src + 4 * ((rows.val + 1) * (cols.val + 1)) ≤ 0x10000 ∧ reg (issueCtx k s) dst + 4 * (redGroups kind (readWords (issueCore k s) (reg (issueCtx k s) src) ((rows.val + 1) * (cols.val + 1))) (rows.val + 1) (cols.val + 1)).length ≤ 0x10000) :=
  ⟨⟨wIssue, { wCore with cores := [(50, { wCoreS with sram := [(0x103, 0x7F#8), (0x102, 0x80#8), (0x203, 0xFF#8), (0x202, 0x80#8)] })] }, wTask, .add, 3, 1, 2, 6, 1, by decide +kernel⟩,
    ⟨wIssue, wCore, wTask, 3, 1, 2, by decide +kernel⟩,
    ⟨wIssue, wCore, wTask, 2, 1, 4, { code := 4, elem := 0 }, { code := 9, elem := 8 }, .elem .e4m3, .mx .e2m1, 39, by decide +kernel⟩,
    ⟨wIssue, wCore, wTask, .column, 2, 1, 1, 2, by decide +kernel⟩⟩

theorem witness_CommunicateInstructionsComplete :
    (∃ (k : _) (s : _) (task : _) (src : _) (len : _), Issues k s task ∧ (issueCore k s).comm = none ∧ (issueCtx k s).suppress = 0 ∧ (fmtOfCode task.desc.fmtOut).isSome = true ∧ 0 < reg (issueCtx k s) len ∧ reg (issueCtx k s) len ≤ 4096 ∧ reg (issueCtx k s) src + reg (issueCtx k s) len ≤ 0x10000) ∧
    (∃ (k : _) (s : _) (task : _) (src : _) (len : _), Issues k s task ∧ (issueCore k s).comm = none ∧ (issueCtx k s).suppress = 0 ∧ (fmtOfCode task.desc.fmtOut).isSome = true ∧ reg (issueCtx k s) src + reg (issueCtx k s) len ≤ 0x10000) ∧
    (∃ (k : _) (s : _) (task : _) (m : Fin 1024) (src : _) (len : _) (tag : BitVec 16) (lane : _), Issues k s task ∧ (issueCore k s).comm = none ∧ (issueCtx k s).suppress = 0 ∧ (fmtOfCode task.desc.fmtOut).isSome = true ∧ 0 < reg (issueCtx k s) len ∧ reg (issueCtx k s) len ≤ 4064 ∧ reg (issueCtx k s) src + reg (issueCtx k s) len ≤ 0x10000 ∧ peerLane s m.val (blockBx k.block.val) (blockBy k.block.val) tag.toNat = some lane) ∧
    (∃ (k : _) (s : _) (task : _) (dst : _) (len : _), Issues k s task ∧ (issueCore k s).comm = none ∧ (issueCtx k s).suppress = 0 ∧ (fmtOfCode task.desc.fmtOut).isSome = true ∧ 0 < reg (issueCtx k s) len ∧ reg (issueCtx k s) len ≤ 4096 ∧ reg (issueCtx k s) dst + reg (issueCtx k s) len ≤ 0x10000) ∧
    (∃ (k : _) (s : _) (task : _) (table : _) (src : _), Issues k s task ∧ (issueCore k s).comm = none ∧ (issueCtx k s).suppress = 0 ∧ reg (issueCtx k s) table + 16 ≤ 0x10000 ∧ reg (issueCtx k s) src + 2048 ≤ 0x10000 ∧ deferredLayer s (decodeRacc (sramNat (issueCore k s) (reg (issueCtx k s) table) 16)) = none) ∧
    (∃ (k : _) (s : _) (task : _) (table : _) (src : _) (l : _), Issues k s task ∧ (issueCore k s).comm = none ∧ (issueCtx k s).suppress = 0 ∧ reg (issueCtx k s) table + 16 ≤ 0x10000 ∧ reg (issueCtx k s) src + 2048 ≤ 0x10000 ∧ deferredLayer s (decodeRacc (sramNat (issueCore k s) (reg (issueCtx k s) table) 16)) = some l ∧ s.tick.step ≤ s.red.committed + 1 ∧ sendStep l s.tick.step = false) ∧
    (∃ (k : _) (s : _) (task : _) (op : Fin 16) (src : _) (len : _), Issues k s task ∧ (issueCore k s).comm = none ∧ (issueCtx k s).suppress = 0 ∧ op.val < 0xA ∧ (commOf s task.desc.comm).glint = true ∧ reg (issueCtx k s) len ≤ glintPiece ∧ reg (issueCtx k s) src + reg (issueCtx k s) len ≤ 0x10000) :=
  ⟨⟨wIssue, wCore, wTask, 1, 3, by decide +kernel⟩,
    ⟨wIssue, wCore, wTask, 1, 6, by decide +kernel⟩,
    ⟨wIssue, { wCore with beam := { wCore.beam with routes := [(1, 1 + 4 * 1 + 4096 * 1)], lanes := [(24, { trained := true, identity := 4 })] } }, wTask, 1, 1, 3, 5#16, 24, by decide +kernel⟩,
    ⟨wIssue, wCore, wTask, 2, 3, by decide +kernel⟩,
    ⟨wIssue, wCore, wTask, 2, 1, by decide +kernel⟩,
    ⟨wIssue, wDefer, wTask, 2, 1, (decodeLayer wWordD.toNat), by decide +kernel⟩,
    ⟨wIssue, wComm, wTask, 1, 1, 3, by decide +kernel⟩⟩

theorem witness_FusedInstructionsComplete :
    (∃ (k : _) (s : _) (task : _) (word : BitVec 64) (p : _), Issues (withPred k word) s task ∧ (issueCore k s).comm = none ∧ (issueCtx k s).suppress = 0 ∧ (issueCore k s).tensor.length < 2 ∧ (commOf s task.desc.comm).bulk = true ∧ (commOf s task.desc.comm).add = 1 ∧ (prepare 0xA0 (issueCore k s) (issueCtx k s) task word.toNat).toOption = some p ∧ shiftMismatch (issueCore k s) p = none ∧ drainMismatch (accumulate p (issueCore k s)) p.set = none) ∧
    (∃ (k : _) (s : _) (task : _) (word : BitVec 64) (chunks : List (Fin 64 × BitVec 16)) (p : _), Issues (withPred k word) s task ∧ (issueCore k s).tensor.length < 2 ∧ (commOf s task.desc.comm).bulk = true ∧ (chunks.all fun e => decide ((mapGet {} (issueCore k s).sb e.1.val).state = .fired)) = true ∧ (prepare 0xA1 (issueCore k s) (issueCtx k s) task word.toNat).toOption = some p ∧ shiftMismatch (issueCore k s) p = none) ∧
    (∃ (k : _) (s : _) (task : _) (word : BitVec 64) (chunks : List (Fin 64 × BitVec 16)) (p : _), Issues (withPred k word) s task ∧ (issueCore k s).tensor.length < 2 ∧ (commOf s task.desc.comm).bulk = true ∧ (prepare 0xA1 (issueCore k s) (issueCtx k s) task word.toNat).toOption = some p ∧ (chunks.any fun e => decide ((mapGet {} (issueCore k s).sb e.1.val).state ≠ .fired)) = true) ∧
    (∃ (k : _) (s : _) (task : _) (word : BitVec 64) (p : _), Issues (withPred k word) s task ∧ (issueCore k s).comm = none ∧ (issueCtx k s).suppress = 0 ∧ (issueCore k s).tensor.length < 2 ∧ reg (issueCtx k s) (Fin.ofNat 32 (decodeMma word.toNat).rc) + 16 ≤ 0x10000 ∧ (prepare 0xA2 (issueCore k s) (pastEntry (issueCtx k s) task (decodeMma word.toNat)) task word.toNat).toOption = some p ∧ shiftMismatch (issueCore k s) p = none ∧ drainMismatch (accumulate p (issueCore k s)) p.set = none ∧ (mapGet [] (issueCore k s).racc (reg (issueCtx k s) (Fin.ofNat 32 (decodeMma word.toNat).rc))).length < 496) ∧
    (∃ (k : _) (s : _) (task : _) (word : BitVec 64) (p : _), Issues (withPred k word) s task ∧ (issueCore k s).comm = none ∧ (issueCtx k s).suppress = 0 ∧ (issueCore k s).tensor.length < 2 ∧ (prepare 0xA3 (issueCore k s) (issueCtx k s) task word.toNat).toOption = some p ∧ shiftMismatch (issueCore k s) p = none ∧ drainMismatch (accumulate p (issueCore k s)) p.set = none) :=
  ⟨⟨wIssue, wComm, wTask, 0x41A0#64, { a := { fmt := .elem .e4m3, elem := .e4m3, base := 0x100, orient := false, scales := 16 }, b := { fmt := .elem .e4m3, elem := .e4m3, base := 0x200, orient := false, scales := 0 }, sparse := .dense, k := 4, set := 0, mode := 0, preload := 0 }, by decide +kernel⟩,
    ⟨wIssue, { wComm with cores := [(50, { wCoreS with sb := [(4, { state := .fired })] })] }, wTask, 0x41A1#64, [(4, 1#16)], { a := { fmt := .elem .e4m3, elem := .e4m3, base := 0x100, orient := false, scales := 16 }, b := { fmt := .elem .e4m3, elem := .e4m3, base := 0x200, orient := false, scales := 0 }, sparse := .dense, k := 4, set := 0, mode := 0, preload := 0 }, by decide +kernel⟩,
    ⟨wIssue, wComm, wTask, 0x41A1#64, [(4, 1#16)], { a := { fmt := .elem .e4m3, elem := .e4m3, base := 0x100, orient := false, scales := 16 }, b := { fmt := .elem .e4m3, elem := .e4m3, base := 0x200, orient := false, scales := 0 }, sparse := .dense, k := 4, set := 0, mode := 0, preload := 0 }, by decide +kernel⟩,
    ⟨wIssue, wCore, wTask, 0x41A2#64, { a := { fmt := .elem .e4m3, elem := .e4m3, base := 0x100, orient := false, scales := 16 }, b := { fmt := .elem .e4m3, elem := .e4m3, base := 0x200, orient := false, scales := 0 }, sparse := .dense, k := 4, set := 0, mode := 0, preload := 0 }, by decide +kernel⟩,
    ⟨wIssue, wCore, wTask, 0x41A3#64, { a := { fmt := .elem .e4m3, elem := .e4m3, base := 0x100, orient := false, scales := 16 }, b := { fmt := .elem .e4m3, elem := .e4m3, base := 0x200, orient := false, scales := 0 }, sparse := .dense, k := 4, set := 0, mode := 0, preload := 0 }, by decide +kernel⟩⟩

theorem witness_TasksReachContexts :
    (∃ (u : UnitId) (desc : BitVec 512) (s : _) (a : _), Ready s ∧ (entryOf s u.val).kind = 1 ∧ (entryOf s u.val).target = a ∧ coreOn s (coreKey a 0) = true ∧ s.fabric.spreads = [] ∧ (decodeDesc desc.toNat).reservedSet = false ∧ (decodeDesc desc.toNat).spill = false ∧ (decodeDesc desc.toNat).slack = false ∧ (decodeDesc desc.toNat).spread = 0 ∧ (decodeDesc desc.toNat).coreMask = 1 ∧ (coreS s (coreKey a 0)).queue.length < 32 ∧ leafOutstanding s a < 1000) ∧
    (∃ (desc : BitVec 512) (s : _), Ready s ∧ (decodeDesc desc.toNat).coreMask = 0) ∧
    (∃ (core : CoreRef) (s : _) (i : _) (c : _), Ready s ∧ coreOn s (coreKey core.block.val core.core.val) = true ∧ s.power.stopCause = 0 ∧ pickTask (coreS s (coreKey core.block.val core.core.val)) = some i ∧ freeCtx (coreS s (coreKey core.block.val core.core.val)) = some c ∧ s.fabric.spreads = [] ∧ (nth {} (coreS s (coreKey core.block.val core.core.val)).queue i).desc.keep = false) ∧
    (∃ (core : CoreRef) (s : _), Ready s ∧ (coreS s (coreKey core.block.val core.core.val)).queue = []) ∧
    (∃ (core : CoreRef) (entry : Fin 64) (n : BitVec 16) (s : _), Ready s ∧ coreOn s (coreKey core.block.val core.core.val) = true ∧ (mapGet {} (coreS s (coreKey core.block.val core.core.val)).sb entry.val).count + n.toNat ≤ 0xFFFF) :=
  ⟨⟨7, BitVec.ofNat 512 (4 * 2 ^ 72 + 4 * 2 ^ 76 + 2 ^ 96), { wReady with fabric := { wReady.fabric with unitMap := [(7, 1 + 3 * 2 ^ 22)] } }, 3, by decide +kernel⟩,
    ⟨0#512, { wReady with fabric := { wReady.fabric with unitMap := [(7, 1 + 3 * 2 ^ 22)] } }, by decide +kernel⟩,
    ⟨{ block := 3, core := 2 }, { wCore with cores := [(50, { wCoreS with queue := [wTask, { wTask with desc := { wTask.desc with prio := 2 } }] })] }, 1, 1, by decide +kernel⟩,
    ⟨{ block := 3, core := 2 }, wCore, by decide +kernel⟩,
    ⟨{ block := 3, core := 2 }, 4, 2#16, { wCore with cores := [(50, { wCoreS with sb := [(4, { count := 1, target := 3, state := .armed })] })] }, by decide +kernel⟩⟩

theorem witness_FramesAreTaken :
    (∃ (lane : LaneId) (raw : BitVec 256) (s : _), Ready s ∧ s.job.started = true ∧ laneActive s lane.val = true ∧ frameCheckOk raw.toNat = true ∧ (decodeFrame raw.toNat).kind = 1 ∧ (decodeFrame raw.toNat).segments ≠ 0 ∧ (streamLane s lane.val).left = 0 ∧ stoppedFor s (decodeFrame raw.toNat) = false ∧ (decodeFrame raw.toNat).seq < creditLimit s ∧ frameExpected s (decodeFrame raw.toNat) = true) ∧
    (∃ (lane : LaneId) (raw : BitVec 256) (s : _), Ready s ∧ s.job.started = true ∧ laneActive s lane.val = true ∧ frameCheckOk raw.toNat = true ∧ (decodeFrame raw.toNat).kind = 0 ∧ (streamLane s lane.val).left = 0 ∧ s.tick.tickCount % 2 ^ 48 < (decodeFrame raw.toNat).tickCount) ∧
    (∃ (lane : LaneId) (raw : BitVec 256) (s : _) (t0 : _), Ready s ∧ s.job.started = true ∧ laneActive s lane.val = true ∧ frameCheckOk raw.toNat = true ∧ (decodeFrame raw.toNat).kind = 0 ∧ (streamLane s lane.val).left = 0 ∧ s.tick.lastValidAt = some t0 ∧ (decodeFrame raw.toNat).tickCount < s.tick.tickCount % 2 ^ 48) ∧
    (∃ (lane : LaneId) (raw : BitVec 256) (s : _), Ready s ∧ s.job.started = true ∧ laneActive s lane.val = true ∧ frameCheckOk raw.toNat = true ∧ (decodeFrame raw.toNat).kind = 1 ∧ (streamLane s lane.val).left = 0 ∧ s.stream.stop = false ∧ creditLimit s ≤ (decodeFrame raw.toNat).seq ∧ (streamLane s lane.val).landing.length < 3) ∧
    (∃ (lane : LaneId) (raw : BitVec 256) (s : _) (n : _), Ready s ∧ s.job.started = true ∧ laneActive s lane.val = true ∧ frameCheckOk raw.toNat = true ∧ (decodeFrame raw.toNat).kind = 1 ∧ (streamLane s lane.val).left = 0 ∧ s.stream.stop = true ∧ s.stream.stopTick = some n ∧ n % 2 ^ 48 ≤ (decodeFrame raw.toNat).tickCount) ∧
    (∃ (lane : LaneId) (raw : BitVec 256) (s : _), Ready s ∧ s.job.started = true ∧ laneActive s lane.val = true ∧ frameCheckOk raw.toNat = false ∧ s.stream.stop = false ∧ (streamLane s lane.val).left = 0 ∧ (streamLane s lane.val).repeatsStep < s.stream.repeatLimit) ∧
    (∃ (lane : LaneId) (seq : BitVec 48) (s : _), Ready s ∧ s.job.started = true ∧ laneActive s lane.val = true ∧ s.stream.stop = false ∧ seq.toNat < creditLimit s ∧ s.stream.oldest ≤ seq.toNat ∧ lane.val ∉ (slotS s seq.toNat).lanes ∧ (streamLane s lane.val).repeatsStep < s.stream.repeatLimit) ∧
    (∃ (lane : LaneId) (seq : BitVec 48) (s : _), Ready s ∧ s.job.started = true ∧ laneActive s lane.val = true ∧ s.stream.stop = false ∧ seq.toNat < creditLimit s ∧ s.stream.oldest ≤ seq.toNat ∧ lane.val ∉ (slotS s seq.toNat).lanes ∧ s.stream.repeatLimit ≤ (streamLane s lane.val).repeatsStep) ∧
    (∃ (τ : _) (lane : LaneId) (s : _) (t0 : _), Ready s ∧ s.job.started = true ∧ laneActive s lane.val = true ∧ (streamLane s lane.val).silent = false ∧ (streamLane s lane.val).lastHeader = some t0 ∧ t0 + silenceBound s ≤ max s.now τ) :=
  ⟨⟨0, BitVec.ofNat 256 ((4 + 0 * 2 ^ 48 + 0 * 2 ^ 96 + 1 * 2 ^ 136 + 1 * 2 ^ 144 + 1 * 2 ^ 176) + (crc32 (bytesLE 28 (4 + 0 * 2 ^ 48 + 0 * 2 ^ 96 + 1 * 2 ^ 136 + 1 * 2 ^ 144 + 1 * 2 ^ 176)) + 0) * 2 ^ 224), wStream, by decide +kernel⟩,
    ⟨0, BitVec.ofNat 256 ((4 + 0 * 2 ^ 48 + 0 * 2 ^ 96 + 0 * 2 ^ 136 + 1 * 2 ^ 144 + 0 * 2 ^ 176) + (crc32 (bytesLE 28 (4 + 0 * 2 ^ 48 + 0 * 2 ^ 96 + 0 * 2 ^ 136 + 1 * 2 ^ 144 + 0 * 2 ^ 176)) + 0) * 2 ^ 224), wStream, by decide +kernel⟩,
    ⟨0, BitVec.ofNat 256 ((3 + 0 * 2 ^ 48 + 0 * 2 ^ 96 + 0 * 2 ^ 136 + 1 * 2 ^ 144 + 0 * 2 ^ 176) + (crc32 (bytesLE 28 (3 + 0 * 2 ^ 48 + 0 * 2 ^ 96 + 0 * 2 ^ 136 + 1 * 2 ^ 144 + 0 * 2 ^ 176)) + 0) * 2 ^ 224), { wStream with tick := { wStream.tick with tickCount := 4, lastValidAt := some 100 } }, 100, by decide +kernel⟩,
    ⟨0, BitVec.ofNat 256 ((4 + 100 * 2 ^ 48 + 0 * 2 ^ 96 + 1 * 2 ^ 136 + 1 * 2 ^ 144 + 1 * 2 ^ 176) + (crc32 (bytesLE 28 (4 + 100 * 2 ^ 48 + 0 * 2 ^ 96 + 1 * 2 ^ 136 + 1 * 2 ^ 144 + 1 * 2 ^ 176)) + 0) * 2 ^ 224), wStream, by decide +kernel⟩,
    ⟨0, BitVec.ofNat 256 ((4 + 0 * 2 ^ 48 + 0 * 2 ^ 96 + 1 * 2 ^ 136 + 1 * 2 ^ 144 + 1 * 2 ^ 176) + (crc32 (bytesLE 28 (4 + 0 * 2 ^ 48 + 0 * 2 ^ 96 + 1 * 2 ^ 136 + 1 * 2 ^ 144 + 1 * 2 ^ 176)) + 0) * 2 ^ 224), { wStream with stream := { wStream.stream with stop := true, stopTick := some 3, lanes := [(0, { landing := [{ hdr := {}, segs := [] }, { hdr := {}, segs := [] }, { hdr := {}, segs := [] }] })] } }, 3, by decide +kernel⟩,
    ⟨0, BitVec.ofNat 256 ((4 + 0 * 2 ^ 48 + 0 * 2 ^ 96 + 1 * 2 ^ 136 + 1 * 2 ^ 144 + 1 * 2 ^ 176) + (crc32 (bytesLE 28 (4 + 0 * 2 ^ 48 + 0 * 2 ^ 96 + 1 * 2 ^ 136 + 1 * 2 ^ 144 + 1 * 2 ^ 176)) + 1) * 2 ^ 224), wStream, by decide +kernel⟩,
    ⟨0, 2#48, wStream, by decide +kernel⟩,
    ⟨0, 2#48, { wStream with stream := { wStream.stream with lanes := [(0, { repeatsStep := 16 })] } }, by decide +kernel⟩,
    ⟨9000000, 0, { wStream with stream := { wStream.stream with lanes := [(0, { lastHeader := some 5 })] } }, 5, by decide +kernel⟩⟩

theorem witness_SegmentsFillTheWindow :
    (∃ (lane : LaneId) (header : BitVec 256) (payload : _) (s : _), Ready s ∧ laneActive s lane.val = true ∧ (streamLane s lane.val).place = .ingest ∧ (streamLane s lane.val).left ≠ 0 ∧ (streamLane s lane.val).bad = false ∧ crc32 payload ≠ (decodeSeg header.toNat).pcrc ∧ s.stream.stop = false ∧ (streamLane s lane.val).repeatsStep < s.stream.repeatLimit) ∧
    (∃ (lane : LaneId) (header : BitVec 256) (payload : _) (s : _) (bs : _) (e : _) (shape : _) (w : _), Ready s ∧ laneActive s lane.val = true ∧ (streamLane s lane.val).place = .ingest ∧ 2 ≤ (streamLane s lane.val).left ∧ crc32 payload = (decodeSeg header.toNat).pcrc ∧ decompress (decodeSeg header.toNat) payload = some bs ∧ ingestEntry s (decodeSeg header.toNat).tensor (slotPlan s (streamLane s lane.val).frame.seq).role = some e ∧ segShape (decodeSeg header.toNat) e = some shape ∧ segMatches s (decodeSeg header.toNat) e = true ∧ (decodeSeg header.toNat).offset + bs.length ≤ imageLen shape ∧ badExponent shape (decodeSeg header.toNat).offset bs = false ∧ e.owned = false ∧ segWrites (seedOf s (stepOfSeq s (streamLane s lane.val).frame.seq)) (decodeSeg header.toNat) e shape (segsWith s (streamLane s lane.val).frame.seq (slotPlan s (streamLane s lane.val).frame.seq).role (decodeSeg header.toNat) bs) bs = some w ∧ e.arriveUnit = 0xFFFF) ∧
    (∃ (lane : LaneId) (header : BitVec 256) (payload : _) (s : _) (bs : _) (e : _) (shape : _) (w : _) (b : _), Ready s ∧ laneActive s lane.val = true ∧ (streamLane s lane.val).place = .ingest ∧ 2 ≤ (streamLane s lane.val).left ∧ crc32 payload = (decodeSeg header.toNat).pcrc ∧ decompress (decodeSeg header.toNat) payload = some bs ∧ ingestEntry s (decodeSeg header.toNat).tensor (slotPlan s (streamLane s lane.val).frame.seq).role = some e ∧ segShape (decodeSeg header.toNat) e = some shape ∧ segMatches s (decodeSeg header.toNat) e = true ∧ (decodeSeg header.toNat).offset + bs.length ≤ imageLen shape ∧ badExponent shape (decodeSeg header.toNat).offset bs = false ∧ e.owned = false ∧ segWrites (seedOf s (stepOfSeq s (streamLane s lane.val).frame.seq)) (decodeSeg header.toNat) e shape (segsWith s (streamLane s lane.val).frame.seq (slotPlan s (streamLane s lane.val).frame.seq).role (decodeSeg header.toNat) bs) bs = some w ∧ e.arriveUnit ≠ 0xFFFF ∧ leavesOf s e.arriveUnit = [b] ∧ (∀ i : Fin 16, coreOn s (coreKey b i.val) = true) ∧ (∀ i : Fin 16, (mapGet {} (coreS s (coreKey b i.val)).sb e.arriveEntry).count < 0xFFFF)) ∧
    (∃ (lane : LaneId) (header : BitVec 256) (payload : _) (s : _) (l : _) (f : _), Ready s ∧ laneActive s lane.val = true ∧ (streamLane s lane.val).place = .landing ∧ (streamLane s lane.val).left ≠ 0 ∧ crc32 payload = (decodeSeg header.toNat).pcrc ∧ (streamLane s lane.val).landing = l ++ [f]) ∧
    (∃ (seq : BitVec 48) (s : _), Ready s ∧ s.stream.oldest ≤ seq.toNat ∧ slotFree s s.stream.oldest = false ∧ seq.toNat ≠ s.stream.oldest) ∧
    (∃ (seq : BitVec 48) (s : _), Ready s ∧ seq.toNat = s.stream.oldest ∧ s.stream.ranks ≠ [] ∧ (∀ c ∈ s.stream.ranks, c ∈ (slotS s seq.toNat).lanes) ∧ (∀ e ∈ s.stream.lanes, e.2.later = []) ∧ (slotPlan s seq.toNat).signals ≤ (slotS s seq.toNat).signals + 1) :=
  ⟨⟨0, BitVec.ofNat 256 (9 + 8 * 2 ^ 80 + 4 * 2 ^ 96 + 7 * 2 ^ 112 + (crc32 [1#8, 2#8, 3#8, 4#8, 5#8, 6#8, 7#8, 8#8] + 1) * 2 ^ 128), [1#8, 2#8, 3#8, 4#8, 5#8, 6#8, 7#8, 8#8], { wStream with stream := { wStream.stream with lanes := [(0, { place := .ingest, left := 2 })] } }, by decide +kernel⟩,
    ⟨0, BitVec.ofNat 256 (9 + 8 * 2 ^ 80 + 4 * 2 ^ 96 + 7 * 2 ^ 112 + (crc32 [1#8, 2#8, 3#8, 4#8, 5#8, 6#8, 7#8, 8#8] + 0) * 2 ^ 128), [1#8, 2#8, 3#8, 4#8, 5#8, 6#8, 7#8, 8#8], { { wStream with stream := { wStream.stream with lanes := [(0, { place := .ingest, left := 2 })] } } with place := { wStream.place with inForce := some { wImage with ingest := [BitVec.ofNat 256 (9 + 4 * 2 ^ 64 + 4 * 2 ^ 96 + 0xFFFF * 2 ^ 192 + 3 * 2 ^ 208)] } } }, [1#8, 2#8, 3#8, 4#8, 5#8, 6#8, 7#8, 8#8], decodeIngest (9 + 4 * 2 ^ 64 + 4 * 2 ^ 96 + 0xFFFF * 2 ^ 192 + 3 * 2 ^ 208), { fmt := .elem .e4m3, elem := .e4m3, sparse := .dense, k := 4, n := 4 }, (keepWrites { fmt := .elem .e4m3, elem := .e4m3, sparse := .dense, k := 4, n := 4 } 0 [1#8, 2#8, 3#8, 4#8, 5#8, 6#8, 7#8, 8#8], []), by decide +kernel⟩,
    ⟨0, BitVec.ofNat 256 (9 + 8 * 2 ^ 80 + 4 * 2 ^ 96 + 7 * 2 ^ 112 + (crc32 [1#8, 2#8, 3#8, 4#8, 5#8, 6#8, 7#8, 8#8] + 0) * 2 ^ 128), [1#8, 2#8, 3#8, 4#8, 5#8, 6#8, 7#8, 8#8], { { wStream with stream := { wStream.stream with lanes := [(0, { place := .ingest, left := 2 })] } } with fabric := { wStream.fabric with unitMap := [(7, 1 + 3 * 2 ^ 22)] }, place := { wStream.place with inForce := some { wImage with ingest := [BitVec.ofNat 256 (9 + 4 * 2 ^ 64 + 4 * 2 ^ 96 + 7 * 2 ^ 192 + 3 * 2 ^ 208)] } } }, [1#8, 2#8, 3#8, 4#8, 5#8, 6#8, 7#8, 8#8], decodeIngest (9 + 4 * 2 ^ 64 + 4 * 2 ^ 96 + 7 * 2 ^ 192 + 3 * 2 ^ 208), { fmt := .elem .e4m3, elem := .e4m3, sparse := .dense, k := 4, n := 4 }, (keepWrites { fmt := .elem .e4m3, elem := .e4m3, sparse := .dense, k := 4, n := 4 } 0 [1#8, 2#8, 3#8, 4#8, 5#8, 6#8, 7#8, 8#8], []), 3, by decide +kernel⟩,
    ⟨0, BitVec.ofNat 256 (9 + 8 * 2 ^ 80 + 4 * 2 ^ 96 + 7 * 2 ^ 112 + (crc32 [1#8, 2#8, 3#8, 4#8, 5#8, 6#8, 7#8, 8#8] + 0) * 2 ^ 128), [1#8, 2#8, 3#8, 4#8, 5#8, 6#8, 7#8, 8#8], { wStream with stream := { wStream.stream with lanes := [(0, { place := .landing, left := 2, landing := [{ hdr := {}, segs := [] }] })] } }, [], { hdr := {}, segs := [] }, by decide +kernel⟩,
    ⟨5#48, wStream, by decide +kernel⟩,
    ⟨0#48, { wStream with stream := { wStream.stream with slots := [(0, { lanes := [0] })], ranks := [0] } }, by decide +kernel⟩⟩

theorem witness_ControllersServeTheirStack :
    (∃ (stack : StackId) (addr : _) (len : _) (f : MemFacts) (s : _), Ready s ∧ stackGone s stack.val = false ∧ memInRange (memAddr addr) len = true ∧ regionOf s (memAddr addr) < 5 ∧ f.ifRetries = 0 ∧ f.odecc = 0 ∧ (∀ i ∈ List.range (ceilDiv (memAddr addr % 64 + len) 64), failedReads s stack.val (memAddr addr / 64 + i) (burstsOf f i) = 0)) ∧
    (∃ (stack : StackId) (addr : _) (len : _) (f : MemFacts) (s : _), Ready s ∧ stackGone s stack.val = false ∧ memInRange (memAddr addr) len = true ∧ regionOf s (memAddr addr) < 5 ∧ 0 < len ∧ memAddr addr % 64 + len ≤ 64 ∧ 0 < failedReads s stack.val (memAddr addr / 64) (burstsOf f 0) ∧ failedReads s stack.val (memAddr addr / 64) (burstsOf f 0) < 3) ∧
    (∃ (stack : StackId) (addr : _) (data : List Byte) (s : _), Ready s ∧ stackGone s stack.val = false ∧ memInRange (memAddr addr) data.length = true ∧ 0 < regionOf s (memAddr addr) ∧ regionOf s (memAddr addr) < 5 ∧ memAddr addr % 64 = 0 ∧ data.length % 64 = 0) ∧
    (∃ (stack : StackId) (addr : _) (data : List Byte) (s : _), Ready s ∧ stackGone s stack.val = false ∧ memInRange (memAddr addr) data.length = true ∧ regionOf s (memAddr addr) = 0 ∧ memAddr addr % 64 = 0 ∧ data.length % 64 = 0) ∧
    (∃ (stack : StackId) (addr : _) (len : _) (s : _), Ready s ∧ stackGone s stack.val = false ∧ 4096 < memAddr addr % 4096 + len) ∧
    (∃ (stack : StackId) (addr : _) (data : List Byte) (s : _), Ready s ∧ stackGone s stack.val = false ∧ memInRange (memAddr addr) data.length = true ∧ regionOf s (memAddr addr) = 7) ∧
    (∃ (stack : StackId) (addr : _) (len : _) (f : MemFacts) (s : _), Ready s ∧ stackGone s stack.val = false ∧ memInRange (memAddr addr) len = true ∧ regionOf s (memAddr addr) = 2 ∧ 0 < len ∧ memAddr addr % 64 + len ≤ 64 ∧ 3 ≤ failedReads s stack.val (memAddr addr / 64) (burstsOf f 0) ∧ isJobLead s = true ∧ s.job.started = true) :=
  ⟨⟨1, 1#32, 64, {}, { wStream with mem := { wStream.mem with systemGib := 2 } }, by decide +kernel⟩,
    ⟨1, 1#32, 64, { units := [{ unit := 0, bursts := [{ data := 1#512, check := 0#16 }, { data := 1#512, check := 0#16 }, { data := 0#512, check := BitVec.ofNat 16 (unitCrc 1 (bytesLE 64 0)) }], copies := [] }] }, { wStream with mem := { wStream.mem with systemGib := 2 } }, by decide +kernel⟩,
    ⟨1, 47775744#32, (List.replicate 64 7#8), wStream, by decide +kernel⟩,
    ⟨1, 2#32, (List.replicate 64 7#8), { wStream with mem := { wStream.mem with systemGib := 2 } }, by decide +kernel⟩,
    ⟨1, 3221225535#32, 20, { wStream with mem := { wStream.mem with systemGib := 2 } }, by decide +kernel⟩,
    ⟨1, 58753024#32, (List.replicate 64 7#8), { wOwner with mem := { wOwner.mem with stripe := List.range 32 } }, by decide +kernel⟩,
    ⟨1, 47775744#32, 64, { units := [{ unit := 0, bursts := [{ data := 1#512, check := 0#16 }, { data := 1#512, check := 0#16 }, { data := 1#512, check := 0#16 }], copies := [] }] }, wStream, by decide +kernel⟩⟩

theorem witness_StacksRefreshAndLeave :
    (∃ (stack : StackId) (s : _), Ready s ∧ stackGone s stack.val = false) ∧
    (∃ (stack : StackId) (s : _), Ready s ∧ stackGone s stack.val = false ∧ isJobLead s = true ∧ s.job.started = true) ∧
    (∃ (stack : StackId) (s : _), Ready s ∧ stackGone s stack.val = false ∧ isJobLead s = false ∧ s.job.started = true) :=
  ⟨⟨3, wReady, by decide +kernel⟩,
    ⟨3, wLead, by decide +kernel⟩,
    ⟨3, wMember, by decide +kernel⟩⟩

theorem witness_PiecesAccumulate :
    (∃ (stack : StackId) (p : PieceData) (f : MemFacts) (s : _) (l : _), Ready s ∧ stackGone s stack.val = false ∧ layerAt s (decodeContrib p.header.toNat).block = some l ∧ (fetchBlock stack.val (decodeContrib p.header.toNat).block f s).1 = false ∧ p.values.length ≤ 512 ∧ (decodeContrib p.header.toNat).step = (blockS s (decodeContrib p.header.toNat).block).step % 65536 ∧ (decodeContrib p.header.toNat).roll = (blockS s (decodeContrib p.header.toNat).block).roll ∧ (blockS s (decodeContrib p.header.toNat).block).state = .open_ ∧ (decodeContrib p.header.toNat).mode = 0 ∧ isUntrained (blockS s (decodeContrib p.header.toNat).block) = false ∧ (decodeContrib p.header.toNat).clip = false ∧ (blockS s (decodeContrib p.header.toNat).block).clip = false ∧ (blockS s (decodeContrib p.header.toNat).block).count + 1 < (blockS s (decodeContrib p.header.toNat).block).target ∧ (∀ k, k < p.values.length → (mapGet 0 (blockS s (decodeContrib p.header.toNat).block).acc (512 * (decodeContrib p.header.toNat).piece + k) + nth 0 p.values k * 2 ^ (decodeContrib p.header.toNat).shift).natAbs < 2 ^ 47)) ∧
    (∃ (stack : StackId) (p : PieceData) (f : MemFacts) (s : _) (l : _), Ready s ∧ stackGone s stack.val = false ∧ layerAt s (decodeContrib p.header.toNat).block = some l ∧ (decodeContrib p.header.toNat).step = (blockS s (decodeContrib p.header.toNat).block).step % 65536 ∧ (decodeContrib p.header.toNat).roll = (blockS s (decodeContrib p.header.toNat).block).roll ∧ (blockS s (decodeContrib p.header.toNat).block).state = .open_ ∧ isUntrained (blockS s (decodeContrib p.header.toNat).block) = true ∧ (fetchBlock stack.val (decodeContrib p.header.toNat).block f s).1 = false ∧ (blockS s (decodeContrib p.header.toNat).block).clip = false ∧ (blockS s (decodeContrib p.header.toNat).block).count + 1 < (blockS s (decodeContrib p.header.toNat).block).target) ∧
    (∃ (stack : StackId) (p : PieceData) (s : _), Ready s ∧ stackGone s stack.val = false ∧ ((decodeContrib p.header.toNat).step ≠ (blockS s (decodeContrib p.header.toNat).block).step % 65536 ∨ (decodeContrib p.header.toNat).roll ≠ (blockS s (decodeContrib p.header.toNat).block).roll)) ∧
    (∃ (stack : StackId) (p : PieceData) (f : MemFacts) (s : _) (l : _) (o : _), Ready s ∧ stackGone s stack.val = false ∧ layerAt s (decodeContrib p.header.toNat).block = some l ∧ o = blockS s (decodeContrib p.header.toNat).block ∧ (fetchBlock stack.val (decodeContrib p.header.toNat).block f s).1 = false ∧ (decodeContrib p.header.toNat).step = o.step % 65536 ∧ (decodeContrib p.header.toNat).roll = o.roll ∧ o.state = .open_ ∧ (decodeContrib p.header.toNat).mode = 0 ∧ o.target = o.count + 1 ∧ o.fails = 0 ∧ o.home = false ∧ o.idsum + pieceId (decodeContrib p.header.toNat).group (decodeContrib p.header.toNat).member (decodeContrib p.header.toNat).piece ≠ o.idexp) ∧
    (∃ (stack : StackId) (p : PieceData) (f : MemFacts) (s : _) (l : LayerRec) (bn : Nat) (o : BlockS) (o' : BlockS), Ready s ∧ stackGone s stack.val = false ∧ layerAt s (decodeContrib p.header.toNat).block = some (l, bn) ∧ o = blockS s (decodeContrib p.header.toNat).block ∧ o' = addPiece (decodeContrib p.header.toNat) p o ∧ (fetchBlock stack.val (decodeContrib p.header.toNat).block f s).1 = false ∧ (decodeContrib p.header.toNat).step = o.step % 65536 ∧ (decodeContrib p.header.toNat).roll = o.roll ∧ o.state = .open_ ∧ (decodeContrib p.header.toNat).mode = 0 ∧ isUntrained o = false ∧ o.target = o.count + 1 ∧ o.home = false ∧ o'.clip = false ∧ o'.idsum = o'.idexp ∧ o'.carried = residue (accList o') ∧ l.cls ≠ 1) ∧
    (∃ (stack : StackId) (p : PieceData) (f : MemFacts) (s : _) (l : LayerRec) (bn : Nat) (o : BlockS) (o' : BlockS), Ready s ∧ stackGone s stack.val = false ∧ layerAt s (decodeContrib p.header.toNat).block = some (l, bn) ∧ o = blockS s (decodeContrib p.header.toNat).block ∧ o' = addPiece (decodeContrib p.header.toNat) p o ∧ (fetchBlock stack.val (decodeContrib p.header.toNat).block f s).1 = false ∧ (decodeContrib p.header.toNat).step = o.step % 65536 ∧ (decodeContrib p.header.toNat).roll = o.roll ∧ o.state = .open_ ∧ (decodeContrib p.header.toNat).mode = 0 ∧ isUntrained o = false ∧ o.target = o.count + 1 ∧ o.home = true ∧ s.job.groups = 1 ∧ s.grp.shadowedBy = none ∧ o'.clip = false ∧ o'.idsum = o'.idexp ∧ o'.carried = residue (accList o') ∧ l.cls = 0 ∧ l.rule < 4 ∧ o.repairWait = false ∧ o.step ≤ s.red.committed + 1) ∧
    (∃ (stack : StackId) (p : PieceData) (f : MemFacts) (s : _) (l : LayerRec) (bn : Nat) (o : BlockS) (o' : BlockS), Ready s ∧ stackGone s stack.val = false ∧ layerAt s (decodeContrib p.header.toNat).block = some (l, bn) ∧ o = blockS s (decodeContrib p.header.toNat).block ∧ o' = addPiece (decodeContrib p.header.toNat) p o ∧ (fetchBlock stack.val (decodeContrib p.header.toNat).block f s).1 = false ∧ (decodeContrib p.header.toNat).step = o.step % 65536 ∧ (decodeContrib p.header.toNat).roll = o.roll ∧ o.state = .open_ ∧ (decodeContrib p.header.toNat).mode = 0 ∧ isUntrained o = false ∧ o.target = o.count + 1 ∧ o.home = true ∧ o'.clip = true ∧ o'.idsum = o'.idexp ∧ o'.carried = residue (accList o') ∧ o.bexp < 97 ∧ o.raises < 2) ∧
    (∃ (stack : StackId) (p : PieceData) (f : MemFacts) (s : _) (l : _) (o : _), Ready s ∧ stackGone s stack.val = false ∧ layerAt s (decodeContrib p.header.toNat).block = some l ∧ o = blockS s (decodeContrib p.header.toNat).block ∧ (decodeContrib p.header.toNat).step = o.step % 65536 ∧ (decodeContrib p.header.toNat).roll = o.roll ∧ o.state = .sent ∧ (decodeContrib p.header.toNat).mode = 3 ∧ (fetchBlock stack.val (decodeContrib p.header.toNat).block f s).1 = false ∧ p.values.length = 512 ∧ residue p.values = (decodeContrib p.header.toNat).res ∧ o.totalPieces.length < 7) ∧
    (∃ (stack : StackId) (p : PieceData) (f : MemFacts) (s : _) (l : _) (o : _), Ready s ∧ stackGone s stack.val = false ∧ layerAt s (decodeContrib p.header.toNat).block = some l ∧ o = blockS s (decodeContrib p.header.toNat).block ∧ (decodeContrib p.header.toNat).step = o.step % 65536 ∧ (decodeContrib p.header.toNat).roll = o.roll ∧ o.state = .sent ∧ (decodeContrib p.header.toNat).mode = 3 ∧ (fetchBlock stack.val (decodeContrib p.header.toNat).block f s).1 = false ∧ residue p.values ≠ (decodeContrib p.header.toNat).res ∧ mapGet 0 o.totalFails (decodeContrib p.header.toNat).piece < 2) :=
  ⟨⟨3, { header := wHeader 0 3 false, values := [1, 2], srcBlock := 5, ackEntry := 2 }, {}, (wRed { rule := 1, lr := 0x3D000000, p1 := 0x3F000000, wd := 0x3C000000 } ({ state := .open_, step := 1, count := 2, target := 8, acc := [(512, 5)], carried := 5 } : BlockS)), (({ tensor := 9, k := 64, n := 128, rule := 1, lr := 0x3D000000, p1 := 0x3F000000, wd := 0x3C000000 } : LayerRec), 0), by decide +kernel⟩,
    ⟨3, { header := wHeader 0 3 false, values := [1, 2], srcBlock := 5, ackEntry := 2 }, {}, (wRed { rule := 1, lr := 0x3D000000, p1 := 0x3F000000, wd := 0x3C000000 } ({ state := .open_, step := 1, train := 1, count := 2, target := 8 } : BlockS)), (({ tensor := 9, k := 64, n := 128, rule := 1, lr := 0x3D000000, p1 := 0x3F000000, wd := 0x3C000000 } : LayerRec), 0), by decide +kernel⟩,
    ⟨3, { header := wHeader 0 3 false, values := [1, 2], srcBlock := 5, ackEntry := 2 }, (wRed { rule := 1, lr := 0x3D000000, p1 := 0x3F000000, wd := 0x3C000000 } ({ state := .open_, step := 1, roll := 1 } : BlockS)), by decide +kernel⟩,
    ⟨3, { header := wHeader 0 3 false, values := [1, 2], srcBlock := 5, ackEntry := 2 }, {}, (wRed { rule := 1, lr := 0x3D000000, p1 := 0x3F000000, wd := 0x3C000000 } ({ state := .open_, step := 1, count := 2, target := 3, idexp := 500 } : BlockS)), (({ tensor := 9, k := 64, n := 128, rule := 1, lr := 0x3D000000, p1 := 0x3F000000, wd := 0x3C000000 } : LayerRec), 0), ({ state := .open_, step := 1, count := 2, target := 3, idexp := 500 } : BlockS), by decide +kernel⟩,
    ⟨3, { header := wHeader 0 3 false, values := [1, 2], srcBlock := 5, ackEntry := 2 }, {}, (wRed { rule := 1, lr := 0x3D000000, p1 := 0x3F000000, wd := 0x3C000000 } ({ state := .open_, step := 1, target := 1, idexp := 10 } : BlockS)), ({ tensor := 9, k := 64, n := 128, rule := 1, lr := 0x3D000000, p1 := 0x3F000000, wd := 0x3C000000 } : LayerRec), 0, ({ state := .open_, step := 1, target := 1, idexp := 10 } : BlockS), (addPiece (decodeContrib (wHeader 0 3 false).toNat) { header := wHeader 0 3 false, values := [1, 2], srcBlock := 5, ackEntry := 2 } ({ state := .open_, step := 1, target := 1, idexp := 10 } : BlockS)), by decide +kernel⟩,
    ⟨3, { header := wHeader 0 3 false, values := [1, 2], srcBlock := 5, ackEntry := 2 }, {}, { wRedMember { rule := 1, lr := 0x3D000000, p1 := 0x3F000000, wd := 0x3C000000 } ({ state := .open_, step := 1, target := 1, idexp := 10, home := true } : BlockS) with counters := [] }, ({ tensor := 9, k := 64, n := 128, rule := 1, lr := 0x3D000000, p1 := 0x3F000000, wd := 0x3C000000 } : LayerRec), 0, ({ state := .open_, step := 1, target := 1, idexp := 10, home := true } : BlockS), (addPiece (decodeContrib (wHeader 0 3 false).toNat) { header := wHeader 0 3 false, values := [1, 2], srcBlock := 5, ackEntry := 2 } ({ state := .open_, step := 1, target := 1, idexp := 10, home := true } : BlockS)), by decide +kernel⟩,
    ⟨3, { header := wHeader 0 3 true, values := [1, 2], srcBlock := 5, ackEntry := 2 }, {}, (wRed { rule := 1, lr := 0x3D000000, p1 := 0x3F000000, wd := 0x3C000000 } ({ state := .open_, step := 1, target := 1, idexp := 10, home := true, raises := 1 } : BlockS)), ({ tensor := 9, k := 64, n := 128, rule := 1, lr := 0x3D000000, p1 := 0x3F000000, wd := 0x3C000000 } : LayerRec), 0, ({ state := .open_, step := 1, target := 1, idexp := 10, home := true, raises := 1 } : BlockS), (addPiece (decodeContrib (wHeader 0 3 true).toNat) { header := wHeader 0 3 true, values := [1, 2], srcBlock := 5, ackEntry := 2 } ({ state := .open_, step := 1, target := 1, idexp := 10, home := true, raises := 1 } : BlockS)), by decide +kernel⟩,
    ⟨3, { header := wHeader 3 1536 false, values := (List.replicate 512 3), srcBlock := 5, ackEntry := 2 }, {}, (wRed { rule := 1, lr := 0x3D000000, p1 := 0x3F000000, wd := 0x3C000000 } ({ state := .sent, step := 1, totalPieces := [3], acc := [(5, 4), (513, 4)] } : BlockS)), (({ tensor := 9, k := 64, n := 128, rule := 1, lr := 0x3D000000, p1 := 0x3F000000, wd := 0x3C000000 } : LayerRec), 0), ({ state := .sent, step := 1, totalPieces := [3], acc := [(5, 4), (513, 4)] } : BlockS), by decide +kernel⟩,
    ⟨3, { header := wHeader 3 1537 false, values := (List.replicate 512 3), srcBlock := 5, ackEntry := 2 }, {}, (wRed { rule := 1, lr := 0x3D000000, p1 := 0x3F000000, wd := 0x3C000000 } ({ state := .sent, step := 1, totalPieces := [3], acc := [(5, 4), (513, 4)] } : BlockS)), (({ tensor := 9, k := 64, n := 128, rule := 1, lr := 0x3D000000, p1 := 0x3F000000, wd := 0x3C000000 } : LayerRec), 0), ({ state := .sent, step := 1, totalPieces := [3], acc := [(5, 4), (513, 4)] } : BlockS), by decide +kernel⟩⟩

theorem witness_BlocksAreAskedAgain :
    (∃ (group : GroupId) (s : _), Ready s ∧ group.val = s.job.group) ∧
    (∃ (group : GroupId) (block : BitVec 32) (s : _) (l : _) (bn : _), Ready s ∧ group.val ≠ s.job.group ∧ layerAt s block.toNat = some (l, bn) ∧ (blockS s block.toNat).state = .sent ∧ (blockS s block.toNat).clip = false ∧ l.cls ≠ 1) ∧
    (∃ (msg : RaiseMsg) (s : _) (l : _), Ready s ∧ layerAt s msg.block = some l ∧ (blockS s msg.block).state = .open_ ∧ msg.nonfinite = false ∧ (blockS s msg.block).raises < 2) ∧
    (∃ (msg : RaiseMsg) (s : _) (l : _), Ready s ∧ layerAt s msg.block = some l ∧ (blockS s msg.block).state = .open_ ∧ msg.nonfinite = true ∧ s.red.committed + 1 < (blockS s msg.block).step) ∧
    (∃ (block : BitVec 32) (group : GroupId) (s : _) (l : _) (bn : _), Ready s ∧ layerAt s block.toNat = some (l, bn) ∧ (blockS s block.toNat).state = .total ∧ (blockS s block.toNat).home = true ∧ group.val ∉ (blockS s block.toNat).totalAcks ∧ (otherGroups s).all ((blockS s block.toNat).totalAcks ++ [group.val]).contains = true ∧ l.cls = 0 ∧ l.rule < 4 ∧ isUntrained (blockS s block.toNat) = false ∧ (blockS s block.toNat).repairWait = false ∧ (blockS s block.toNat).step ≤ s.red.committed + 1) ∧
    (∃ (block : BitVec 32) (group : GroupId) (s : _), Ready s ∧ (blockS s block.toNat).state = .total ∧ (blockS s block.toNat).home = true ∧ group.val ∉ (blockS s block.toNat).totalAcks ∧ (otherGroups s).all ((blockS s block.toNat).totalAcks ++ [group.val]).contains = false) ∧
    (∃ (block : BitVec 32) (group : GroupId) (s : _) (l : _) (bn : _), Ready s ∧ layerAt s block.toNat = some (l, bn) ∧ (blockS s block.toNat).state = .total ∧ group.val ≠ s.job.group) :=
  ⟨⟨0, { wMember with red := { wMember.red with held := [{ core := 5, block := 0, piece := 1, owner := 1, bexp := 0, stack := 2, addr := 7, ackEntry := 1, ackAddr := 2, values := [0x3F800000] }, { core := 5, block := 0, piece := 1, owner := 0, bexp := 0, stack := 2, addr := 7, ackEntry := 1, ackAddr := 2, values := [0x3F800000] }] }, job := { wMember.job with group := 0 } }, by decide +kernel⟩,
    ⟨1, 0, (wRed { rule := 1, lr := 0x3D000000, p1 := 0x3F000000, wd := 0x3C000000 } ({ state := .sent, step := 1, acc := [(1, 2)] } : BlockS)), ({ tensor := 9, k := 64, n := 128, rule := 1, lr := 0x3D000000, p1 := 0x3F000000, wd := 0x3C000000 } : LayerRec), 0, by decide +kernel⟩,
    ⟨{ block := 0, bexp := 120, nonfinite := false }, (wRed { rule := 1, lr := 0x3D000000, p1 := 0x3F000000, wd := 0x3C000000 } ({ state := .open_, step := 1, raises := 1, acc := [(1, 2)], count := 4 } : BlockS)), (({ tensor := 9, k := 64, n := 128, rule := 1, lr := 0x3D000000, p1 := 0x3F000000, wd := 0x3C000000 } : LayerRec), 0), by decide +kernel⟩,
    ⟨{ block := 0, bexp := 120, nonfinite := true }, { wRed { rule := 1, lr := 0x3D000000, p1 := 0x3F000000, wd := 0x3C000000 } ({ state := .open_, step := 2, bexp := 5, senders := [{ member := 1, block := 2, core := 3, entry := 4, addr := 5 }] } : BlockS) with now := 1 }, (({ tensor := 9, k := 64, n := 128, rule := 1, lr := 0x3D000000, p1 := 0x3F000000, wd := 0x3C000000 } : LayerRec), 0), by decide +kernel⟩,
    ⟨0, 1, (wRed { rule := 1, lr := 0x3D000000, p1 := 0x3F000000, wd := 0x3C000000 } ({ state := .total, step := 1, home := true } : BlockS)), ({ tensor := 9, k := 64, n := 128, rule := 1, lr := 0x3D000000, p1 := 0x3F000000, wd := 0x3C000000 } : LayerRec), 0, by decide +kernel⟩,
    ⟨0, 1, { wRed { rule := 1, lr := 0x3D000000, p1 := 0x3F000000, wd := 0x3C000000 } ({ state := .total, step := 1, home := true } : BlockS) with job := { wOwner.job with groups := 3 } }, by decide +kernel⟩,
    ⟨0, 1, (wRed { rule := 1, lr := 0x3D000000, p1 := 0x3F000000, wd := 0x3C000000 } ({ state := .total, step := 1, acc := [(1024, 3)], nextBexp := -4 } : BlockS)), ({ tensor := 9, k := 64, n := 128, rule := 1, lr := 0x3D000000, p1 := 0x3F000000, wd := 0x3C000000 } : LayerRec), 0, by decide +kernel⟩⟩

theorem witness_BlocksAreUpdated :
    (∃ (block : BitVec 32) (s : _) (l : _) (bn : _), Ready s ∧ layerAt s block.toNat = some (l, bn) ∧ (blockS s block.toNat).state = .updating ∧ isLead s = false ∧ s.tick.step ≤ (blockS s block.toNat).step ∧ 0 < l.rule ∧ l.rule < 4 ∧ l.wcFmt ≠ 10) ∧
    (∃ (block : BitVec 32) (s : _), Ready s ∧ (blockS s block.toNat).state = .updating ∧ (blockS s block.toNat).redone = 0) ∧
    (∃ (tensor : BitVec 32) (s : _), Ready s ∧ isMatrixRule (mapGet {} s.red.layers tensor.toNat) = true ∧ (blocksOf s tensor.toNat).all (totalReleased s) = true ∧ blocksOf s tensor.toNat ≠ []) ∧
    (∃ (block : BitVec 32) (s : _) (l : _) (bn : _), Ready s ∧ layerAt s block.toNat = some (l, bn) ∧ (blockS s block.toNat).outSegs ≠ [] ∧ isLead s = false ∧ s.job.groups = 1) :=
  ⟨⟨0, { wRedMember { rule := 1, lr := 0x3D000000, p1 := 0x3F000000, wd := 0x3C000000 } ({ state := .updating, step := 1, acc := [(0, 5), (65, -3)], bexp := -2 } : BlockS) with red := { (wRedMember { rule := 1, lr := 0x3D000000, p1 := 0x3F000000, wd := 0x3C000000 } ({ state := .updating, step := 1, acc := [(0, 5), (65, -3)], bexp := -2 } : BlockS)).red with bankA := [(0, { master := [(0, 0x3F800000), (1, 0x40000000)] })] } }, ({ tensor := 9, k := 64, n := 128, rule := 1, lr := 0x3D000000, p1 := 0x3F000000, wd := 0x3C000000 } : LayerRec), 0, by decide +kernel⟩,
    ⟨0, { wRedMember { rule := 1, lr := 0x3D000000, p1 := 0x3F000000, wd := 0x3C000000 } ({ state := .updating, step := 1, acc := [(0, 5), (65, -3)] } : BlockS) with red := { (wRedMember { rule := 1, lr := 0x3D000000, p1 := 0x3F000000, wd := 0x3C000000 } ({ state := .updating, step := 1, acc := [(0, 5), (65, -3)] } : BlockS)).red with bankA := [(0, { master := [(0, 0x3F800000), (1, 0x40000000)] })] } }, by decide +kernel⟩,
    ⟨9, (wRed { rule := 4, updateUnit := 5, updateEntry := 6 } ({ state := .total, step := 1,  } : BlockS)), by decide +kernel⟩,
    ⟨0, (wRedMember { rule := 1, lr := 0x3D000000, p1 := 0x3F000000, wd := 0x3C000000 } ({ state := .updated, step := 1, outSegs := [(0, [1#8, 2#8]), (3, [0#8])], doneStep := 2 } : BlockS)), ({ tensor := 9, k := 64, n := 128, rule := 1, lr := 0x3D000000, p1 := 0x3F000000, wd := 0x3C000000 } : LayerRec), 0, by decide +kernel⟩⟩

theorem witness_StepsCommit :
    (∃ (group : GroupId) (s : _), Ready s ∧ isJobLead s = true ∧ s.job.started = true ∧ (List.range s.job.groups).all (s.red.groupReported ++ [group.val]).contains = false ∧ group.val ∉ s.red.groupReported) ∧
    (∃ (group : GroupId) (member : MemberId) (s : _), Ready s ∧ isLead s = true ∧ s.job.started = true ∧ group.val = s.job.group ∧ member.val ∉ s.red.reports ∧ (groupOwners s s.job.group).all (s.red.reports ++ [member.val]).contains = false) ∧
    (∃ (group : GroupId) (s : _), Ready s ∧ isJobLead s = true ∧ s.job.started = true ∧ (List.range s.job.groups).all (s.red.groupReported ++ [group.val]).contains = true ∧ group.val ∉ s.red.groupReported ∧ s.red.mirrorDone = true ∧ s.grp.mirrorRollback = false) ∧
    (∃ (step : BitVec 40) (roll : BitVec 8) (s : _), Ready s ∧ s.job.started = true ∧ roll.toNat = s.red.roll ∧ step.toNat = s.red.committed + 1 ∧ (∀ b ∈ ownedBlocks s, (blockS s b).state ≠ .waitCommit)) ∧
    (∃ (step : BitVec 40) (roll : BitVec 8) (s : _), Ready s ∧ (roll.toNat ≠ s.red.roll ∨ step.toNat ≠ s.red.committed + 1)) ∧
    (∃ (block : BitVec 32) (s : _) (l : _), Ready s ∧ layerAt s block.toNat = some l ∧ shadowAt s block.toNat = none ∧ (blockS s block.toNat).mark = true ∧ (blockS s block.toNat).repairWait = false ∧ (blockS s block.toNat).state ≠ .waitCommit) :=
  ⟨⟨0, wLead, by decide +kernel⟩,
    ⟨0, 1, { wOwner with place := { wOwner.place with inForce := some { wImage with owners := [(0, 0), (1, 1)] } } }, by decide +kernel⟩,
    ⟨1, { wRed { rule := 1, lr := 0x3D000000, p1 := 0x3F000000, wd := 0x3C000000 } { state := .updated, step := 1 } with red := { (wRed { rule := 1, lr := 0x3D000000, p1 := 0x3F000000, wd := 0x3C000000 } { state := .updated, step := 1 }).red with groupReported := [0], mirrorDone := true } }, by decide +kernel⟩,
    ⟨1, 0, (wRed { rule := 1, lr := 0x3D000000, p1 := 0x3F000000, wd := 0x3C000000 } { state := .updated, step := 1 }), by decide +kernel⟩,
    ⟨2, 0, (wRed { rule := 1, lr := 0x3D000000, p1 := 0x3F000000, wd := 0x3C000000 } { state := .updated, step := 1 }), by decide +kernel⟩,
    ⟨0, (wRed { rule := 1, lr := 0x3D000000, p1 := 0x3F000000, wd := 0x3C000000 } ({ state := .open_, step := 1, mark := true } : BlockS)), (({ tensor := 9, k := 64, n := 128, rule := 1, lr := 0x3D000000, p1 := 0x3F000000, wd := 0x3C000000 } : LayerRec), 0), by decide +kernel⟩⟩

theorem witness_LanesTrainAndRetire :
    (∃ (lane : LaneId) (s : _), Ready s ∧ isDark s (laneField lane.val) = false ∧ (laneS s lane.val).retired = false) ∧
    (∃ (lane : LaneId) (s : _), Ready s ∧ laneIn s lane.val = true ∧ (laneS s lane.val).retraining = false ∧ (64 < (laneS s lane.val).uncorr.length ∨ 3 ≤ (laneS s lane.val).replays) ∧ (laneS s lane.val).retrains = []) ∧
    (∃ (τ : _) (lane : LaneId) (s : _) (a : _) (b : _), Ready s ∧ laneIn s lane.val = true ∧ (laneS s lane.val).retraining = false ∧ (64 < (laneS s lane.val).uncorr.length ∨ 3 ≤ (laneS s lane.val).replays) ∧ (laneS s lane.val).retrains = [a, b] ∧ τ < a + 1000000000 ∧ τ < b + 1000000000 ∧ isStreamLane s lane.val = true ∧ s.job.started = true ∧ isJobLead s = true) ∧
    (∃ (lane : LaneId) (identity : BitVec 80) (s : _), Ready s ∧ (laneS s lane.val).retraining = true ∧ otherEnd (laneS s lane.val).identity identity.toNat = false ∧ (laneS s lane.val).waiting = []) ∧
    (∃ (lane : LaneId) (identity : BitVec 80) (s : _), Ready s ∧ (laneS s lane.val).retraining = true ∧ otherEnd (laneS s lane.val).identity identity.toNat = true ∧ isStreamLane s lane.val = true ∧ collectiveActive s = false) ∧
    (∃ (lane : LaneId) (ok : _) (s : _), Ready s ∧ ok = false ∧ (laneS s lane.val).retraining = true ∧ s.job.started = true ∧ isJobLead s = true) ∧
    (∃ (lane : LaneId) (s : _), Ready s ∧ laneIn s lane.val = true ∧ s.job.started = true ∧ isJobLead s = true) ∧
    (∃ (lane : LaneId) (s : _), Ready s ∧ (laneS s lane.val).testing = true ∧ isStreamLane s lane.val = false) ∧
    (∃ (lane : LaneId) (s : _), Ready s ∧ (laneS s lane.val).testing = true ∧ isStreamLane s lane.val = true) ∧
    (∃ (lane : LaneId) (p : _) (s : _), Ready s ∧ (laneS s lane.val).testing = true ∧ isStreamLane s lane.val = true ∧ substitute s (laneField lane.val) = some p) :=
  ⟨⟨3, wLead, by decide +kernel⟩,
    ⟨0, (wBeam 0 { trained := true, replays := 3 }), by decide +kernel⟩,
    ⟨5, 0, (wBeam 0 { trained := true, replays := 3, retrains := [1, 2] }), 1, 2, by decide +kernel⟩,
    ⟨0, (BitVec.ofNat 80 (encodeIdentity { role := 2, module := 5, fieldIx := 0, lane := 0, jobTag := 0, gpe := 0, delay := 7 })), (wBeam 0 { trained := true, retraining := true, received := 9, identity := encodeIdentity { role := 2, module := 5, fieldIx := 0, lane := 0, jobTag := 0, gpe := 0, delay := 9 } }), by decide +kernel⟩,
    ⟨0, (BitVec.ofNat 80 (encodeIdentity { role := 2, module := 6, fieldIx := 0, lane := 0, jobTag := 0, gpe := 0, delay := 7 })), (wBeam 0 { trained := true, retraining := true, identity := encodeIdentity { role := 2, module := 5, fieldIx := 0, lane := 0, jobTag := 0, gpe := 0, delay := 9 } }), by decide +kernel⟩,
    ⟨0, false, (wBeam 0 { trained := true, retraining := true, identity := encodeIdentity { role := 2, module := 5, fieldIx := 0, lane := 0, jobTag := 0, gpe := 0, delay := 9 } }), by decide +kernel⟩,
    ⟨8, (wBeam 8 { trained := true, identity := 4 }), by decide +kernel⟩,
    ⟨8, (wBeam 8 { trained := true, testing := true, retired := true }), by decide +kernel⟩,
    ⟨1, { wLead with beam := { wLead.beam with lanes := [(1, { trained := true, testing := true, retired := true }), (15, { trained := true })] } }, by decide +kernel⟩,
    ⟨1, 15, (wBeam 1 { trained := true, testing := true, retired := true }), by decide +kernel⟩⟩

theorem witness_CodewordsAndPacketsArrive :
    (∃ (lane : LaneId) (control : BitVec 80) (data : List (BitVec 64)) (s : _), Ready s ∧ laneIn s lane.val = true ∧ (laneS s lane.val).retraining = false ∧ (laneS s lane.val).awaiting = false ∧ field control.toNat 76 3 = 0 ∧ bitAt control.toNat 79 = false ∧ data = [] ∧ (laneS s lane.val).waiting = []) ∧
    (∃ (lane : LaneId) (s : _), Ready s ∧ laneIn s lane.val = true ∧ (laneS s lane.val).retraining = false ∧ (laneS s lane.val).awaiting = true) ∧
    (∃ (lane : LaneId) (s : _), Ready s ∧ laneIn s lane.val = true ∧ (laneS s lane.val).retraining = false ∧ (laneS s lane.val).awaiting = false) ∧
    (∃ (lane : LaneId) (s : _), Ready s ∧ laneIn s lane.val = true) ∧
    (∃ (f : FieldId) (header : BitVec 128) (s : _), Ready s ∧ isDark s f.val = false ∧ (decodeBeamHdr header.toNat).jobTag ≠ s.job.tag ∨ ((decodeBeamHdr header.toNat).destMod ≠ selfIndex s ∧ (decodeBeamHdr header.toNat).relay = 0)) ∧
    (∃ (f : FieldId) (header : BitVec 128) (s : _), Ready s ∧ isDark s f.val = false ∧ (decodeBeamHdr header.toNat).jobTag = s.job.tag ∧ (decodeBeamHdr header.toNat).destMod = selfIndex s ∧ (decodeBeamHdr header.toNat).kind = 1 ∧ 0 < (decodeBeamHdr header.toNat).flits ∧ (decodeBeamHdr header.toNat).flits ≤ 255) ∧
    (∃ (m : Fin 1024) (s : _), Ready s ∧ isPaused s m.val = false) ∧
    (∃ (m : Fin 1024) (s : _), Ready s ∧ (mapGet {} s.beam.paused m.val).n = 1) :=
  ⟨⟨0, (0x05 * 2 ^ 64), [], (wBeam 0 { trained := true, spent := 9 }), by decide +kernel⟩,
    ⟨0, (wBeam 0 { trained := true, awaiting := true }), by decide +kernel⟩,
    ⟨0, (wBeam 0 { trained := true, received := 70000 }), by decide +kernel⟩,
    ⟨8, (wBeam 8 { trained := true, identity := 4 }), by decide +kernel⟩,
    ⟨0, (BitVec.ofNat 128 (encodeBeamHdr { kind := 1, destMod := 3, srcMod := 3, relay := 0, flits := 1, jobTag := 0 })), wLead, by decide +kernel⟩,
    ⟨0, (BitVec.ofNat 128 (encodeBeamHdr { kind := 1, destMod := 0, srcMod := 3, relay := 1, flits := 1, jobTag := 0 })), wLead, by decide +kernel⟩,
    ⟨64, wLead, by decide +kernel⟩,
    ⟨64, { wLead with now := 20, beam := { wLead.beam with paused := [(64, { n := 1, since := 10 })], positions := [(2, { waitSince := some 4 })] } }, by decide +kernel⟩⟩

theorem witness_CollectivesAdvance :
    (∃ (f : FieldId) (s : _) (comm : _) (left : _) (i : _) (c : _), Ready s ∧ isDark s f.val = false ∧ turnOf s f.val = some (comm, left) ∧ nextChunk s f.val comm = some i ∧ s.beam.chunks[i]? = some c ∧ c.held = false) ∧
    (∃ (f : FieldId) (comm : Fin 64) (dest : MemberId) (position : BitVec 32) (s : _) (i : _), Ready s ∧ s.beam.chunks.findIdx? (isHeldChunk f.val comm.val dest.val position.toNat) = some i) ∧
    (∃ (s : _), Ready s) ∧
    (∃ (f : FieldId) (header : BitVec 128) (s : _), Ready s ∧ isDark s f.val = false ∧ (decodeChunk header.toNat).step ≠ s.tick.step % 65536 ∨ (decodeChunk header.toNat).roll ≠ s.red.roll) ∧
    (∃ (f : FieldId) (header : BitVec 128) (s : _) (h : _), Ready s ∧ isDark s f.val = false ∧ h = decodeChunk header.toNat ∧ h.step = s.tick.step % 65536 ∧ h.roll = s.red.roll ∧ h.op = 0 ∧ s.beam.excluded.contains (64 * h.comm + h.src) = false ∧ sourceIn (positionOf s (positionKey false 0 h.comm h.position)) h.src = false ∧ h.last = false ∧ h.src ∈ sourcesOf s h.comm ∧ 0 < (commOf s h.comm).add ∧ mapGet 0 (positionOf s (positionKey false 0 h.comm h.position)).total h.src = 0) ∧
    (∃ (f : FieldId) (header : BitVec 128) (s : _) (h : _), Ready s ∧ isDark s f.val = false ∧ h = decodeChunk header.toNat ∧ h.step = s.tick.step % 65536 ∧ h.roll = s.red.roll ∧ h.op = 0 ∧ (commOf s h.comm).add = 1 ∧ sourcesOf s h.comm = [h.src] ∧ h.last = true ∧ h.offset = 0 ∧ s.beam.excluded.contains (64 * h.comm + h.src) = false ∧ positionOf s (positionKey false 0 h.comm h.position) = {}) ∧
    (∃ (source : MemberId) (s : _), Ready s ∧ isPaused s (64 * s.job.group + source.val) = true) ∧
    (∃ (τ : _) (comm : Fin 64) (source : MemberId) (s : _) (w : _), Ready s ∧ isPaused s (64 * s.job.group + source.val) = false ∧ isLead s = false ∧ waitingFor s comm.val source.val = [w] ∧ w.2.waitSince = some 0 ∧ lateNs s ≤ max s.now τ) ∧
    (∃ (comm : Fin 64) (member : MemberId) (s : _), Ready s ∧ isLead s = true ∧ s.job.started = true ∧ (commOf s comm.val).bulk = true ∧ (commOf s comm.val).excludable = true ∧ bitAt (commOf s comm.val).dests member.val = false ∧ s.beam.excluded.contains (64 * comm.val + member.val) = false) ∧
    (∃ (group : GroupId) (member : MemberId) (s : _), Ready s ∧ isJobLead s = true ∧ s.job.started = true ∧ (memberS s (64 * group.val + member.val)).state = .active ∧ (s.grp.requests.any fun r => decide (r.1.cause = 9)) = false) ∧
    (∃ (comm : Fin 64) (member : MemberId) (s : _), Ready s ∧ s.beam.excluded.contains (64 * comm.val + member.val) = false ∧ 0 < s.snap.journalEntries) :=
  ⟨⟨0, { wCommOf wLead with beam := { wLead.beam with chunks := [({ field := 0, comm := 0, dest := 1, position := 2, gather := false, tiles := [(0, [1, 2])], total := some 1, held := false, rerequested := false } : ChunkS)] } }, 0, 0, 0, ({ field := 0, comm := 0, dest := 1, position := 2, gather := false, tiles := [(0, [1, 2])], total := some 1, held := false, rerequested := false } : ChunkS), by decide +kernel⟩,
    ⟨0, 0, 1, 2, { wCommOf wLead with beam := { wLead.beam with chunks := [{ ({ field := 0, comm := 0, dest := 1, position := 2, gather := false, tiles := [(0, [1, 2])], total := some 1, held := false, rerequested := false } : ChunkS) with held := true }], credits := [(1, 3), (2, 4)] } }, 0, by decide +kernel⟩,
    ⟨{ wCommOf wLead with beam := { wLead.beam with chunks := [{ ({ field := 0, comm := 0, dest := 1, position := 2, gather := false, tiles := [(0, [1, 2])], total := some 1, held := false, rerequested := false } : ChunkS) with held := true }] } }, by decide +kernel⟩,
    ⟨0, (BitVec.ofNat 128 (wChunk 0 1 false)), (wCommOf wLead), by decide +kernel⟩,
    ⟨0, (BitVec.ofNat 128 (wChunk 0 0 false)), { wCommOf wLead with beam := { wLead.beam with positions := [(2, { got := [(0, 4)] })] } }, (decodeChunk (BitVec.ofNat 128 (wChunk 0 0 false)).toNat), by decide +kernel⟩,
    ⟨0, (BitVec.ofNat 128 (pack [(6, 0), (2, 0), (6, 1), (6, 0), (32, 2), (18, 0), (1, 1), (8, 0), (16, 0), (16, 9)])), { wLead with place := { wLead.place with inForce := some { wImage with comms := [BitVec.ofNat 256 (1 + 4 * 2 + 16 + 32 * 1 + 2 ^ 8 + 2 ^ 18 + 2 * 2 ^ 32)] } } }, (decodeChunk (BitVec.ofNat 128 (pack [(6, 0), (2, 0), (6, 1), (6, 0), (32, 2), (18, 0), (1, 1), (8, 0), (16, 0), (16, 9)])).toNat), by decide +kernel⟩,
    ⟨1, { wLead with beam := { wLead.beam with paused := [(1, { n := 1, since := 10 })] } }, by decide +kernel⟩,
    ⟨5000000, 0, 1, { wCommOf wMember with beam := { wLead.beam with positions := [(2, ({ got := [(0, 4)], total := [(0, 5)], waitSince := some 0 } : PositionS))] } }, (2, ({ got := [(0, 4)], total := [(0, 5)], waitSince := some 0 } : PositionS)), by decide +kernel⟩,
    ⟨0, 1, (wCommOf wLead), by decide +kernel⟩,
    ⟨0, 1, { wCommOf wLead with grp := { wLead.grp with members := [(1, { state := .active })] } }, by decide +kernel⟩,
    ⟨0, 1, (wCommOf wLead), by decide +kernel⟩⟩

theorem witness_GlintCombines :
    (∃ (stage : _) (header : BitVec 128) (s : _), Ready s ∧ (∀ f, stage = GlintStage.field f → isDark s f.val = false) ∧ (decodeGlint header.toNat).roll ≠ s.red.roll ∨ (decodeGlint header.toNat).step ≠ s.tick.step % 65536) ∧
    (∃ (f : FieldId) (header : BitVec 128) (s : _) (h : _), Ready s ∧ isDark s f.val = false ∧ h = decodeGlint header.toNat ∧ h.roll = s.red.roll ∧ h.step = s.tick.step % 65536 ∧ h.op ≤ 4 ∧ (mapGet {} s.beam.combines (combineKey f.val h.comm h.seq h.piece)).count + h.count < nth 0 (glintCountsOf s h.comm) f.val) ∧
    (∃ (f : FieldId) (header : BitVec 128) (data : List (BitVec 64)) (s : _) (h : _), Ready s ∧ isDark s f.val = false ∧ h = decodeGlint header.toNat ∧ h.roll = s.red.roll ∧ h.step = s.tick.step % 65536 ∧ h.op = 1 ∧ h.scope ≠ 0 ∧ data.length = 1 ∧ h.bytes = 8 ∧ 0 < (mapGet {} s.beam.combines (combineKey f.val h.comm h.seq h.piece)).count ∧ (mapGet {} s.beam.combines (combineKey f.val h.comm h.seq h.piece)).data.length = 8 ∧ nth 0 (glintCountsOf s h.comm) f.val = (mapGet {} s.beam.combines (combineKey f.val h.comm h.seq h.piece)).count + h.count) ∧
    (∃ (header : BitVec 128) (data : List (BitVec 64)) (s : _) (h : _), Ready s ∧ h = decodeGlint header.toNat ∧ h.roll = s.red.roll ∧ h.step = s.tick.step % 65536 ∧ h.op ≤ 4 ∧ 2 ≤ h.scope ∧ h.bytes = 0 ∧ data = [] ∧ (mapGet {} s.beam.combines (combineKey 84 h.comm h.seq h.piece)).count = 0 ∧ (glintCountsOf s h.comm).sum ≤ h.count) ∧
    (∃ (header : BitVec 128) (s : _) (h : _), Ready s ∧ h = decodeGlint header.toNat ∧ h.roll = s.red.roll ∧ h.step = s.tick.step % 65536 ∧ h.op = 0 ∧ h.scope = 2 ∧ h.piece = 0 ∧ isLead s = true ∧ (maskMembers (commOf s h.comm).sources).length ≤ (mapGet {} s.beam.combines (combineKey 85 h.comm h.seq h.piece)).count + h.count) :=
  ⟨⟨(.field 0), (wGlint 1 1 8 1 5), (wCommOf wLead), by decide +kernel⟩,
    ⟨0, (wGlint 1 1 8 1 0), { wCommOf wLead with beam := { wLead.beam with combines := [(combineKey 0 1 3 0, { count := 1, data := bytesLE 8 9 })] } }, (decodeGlint (wGlint 1 1 8 1 0).toNat), by decide +kernel⟩,
    ⟨0, (wGlint 1 1 8 3 0), [0xFFFFFFFFFFFFFFFF], { wCommOf wLead with beam := { wLead.beam with combines := [(combineKey 0 1 3 0, { count := 1, data := bytesLE 8 9 })] } }, (decodeGlint (wGlint 1 1 8 3 0).toNat), by decide +kernel⟩,
    ⟨(wGlint 0 2 0 6 0), [], (wCommOf wLead), (decodeGlint (wGlint 0 2 0 6 0).toNat), by decide +kernel⟩,
    ⟨(wGlint 0 2 8 1 0), { wCommOf wLead with beam := { wLead.beam with combines := [(combineKey 85 1 3 0, { count := 1, data := bytesLE 8 2 })] } }, (decodeGlint (wGlint 0 2 8 1 0).toNat), by decide +kernel⟩⟩

theorem witness_LayoutsAreReplaced :
    (∃ (core : CoreRef) (s : _), Ready s ∧ heldOrIdle s = false ∧ s.fabric.outBlocks.contains core.block.val = false) ∧
    (∃ (core : CoreRef) (s : _), Ready s ∧ heldOrIdle s = true ∧ allDone s = true ∧ s.fabric.retireNext = [] ∧ s.fabric.outBlocks.contains core.block.val = false) ∧
    (∃ (s : _) (ix : _) (i : _) (m : _), Ready s ∧ allDone s = true ∧ s.place.replacing = true ∧ s.fabric.rebuildPending = false ∧ s.fabric.retireNext = [] ∧ matching s s.place.set = some (ix, i) ∧ bindProblem s i = none ∧ bindMap s (writeMap i.unitMap []) = some m) ∧
    (∃ (s : _) (sound : _) (copies : _), Ready s ∧ allDone s = true ∧ s.place.replacing = true ∧ s.fabric.rebuildPending = false ∧ s.fabric.retireNext = [] ∧ s.job.started = true ∧ (sound = false ∨ copies = false)) ∧
    (∃ (s : _), Ready s ∧ s.job.started = true ∧ s.place.degraded = true ∧ allLitInJob s = true ∧ s.job.held = false) ∧
    (∃ (s : _), Ready s ∧ s.job.started = true ∧ s.place.degraded = true ∧ allLitInJob s = true ∧ s.job.held = true ∧ s.grp.rolling = false ∧ s.place.set ≠ []) ∧
    (∃ (s : _) (o : _) (is : _) (ix : _) (i : _) (m : _), Ready s ∧ s.job.started = false ∧ allDone s = true ∧ s.place.loading = some o ∧ (checkSet s o).toOption = some is ∧ matching s is = some (ix, i) ∧ bindProblem s i = none ∧ bindMap s (writeMap i.unitMap []) = some m) ∧
    (∃ (s : _) (o : _) (r : _), Ready s ∧ s.job.started = false ∧ allDone s = true ∧ s.place.loading = some o ∧ (match checkSet s o with | .error q => some q | .ok _ => none) = some r) :=
  ⟨⟨{ block := 3, core := 2 }, wLead, by decide +kernel⟩,
    ⟨{ block := 3, core := 2 }, wReady, by decide +kernel⟩,
    ⟨{ wLead with place := { wLead.place with replacing := true, set := [wSound] } }, 0, (wSound), [], by decide +kernel⟩,
    ⟨{ wLead with place := { wLead.place with replacing := true, set := [wSound] } }, false, true, by decide +kernel⟩,
    ⟨{ wLead with place := { wLead.place with degraded := true } }, by decide +kernel⟩,
    ⟨{ wLead with place := { wLead.place with degraded := true, set := [wSound] }, job := { wLead.job with held := true } }, by decide +kernel⟩,
    ⟨{ wReady with place := { wReady.place with loading := some 0, stored := [(0, wSound)] }, job := { wReady.job with split := 4 } }, 0, [wSound], 0, (wSound), [], by decide +kernel⟩,
    ⟨{ wReady with place := { wReady.place with loading := some 0, stored := [(0, { wSound with period := 201 })] } }, 0, { status := 0x0505, detail := 1 }, by decide +kernel⟩⟩

theorem witness_RepliesReachTheirSender :
    (∃ (h : CmdHdr) (source : _) (s : _), ModuleLevel h s ∧ h.origin = .datagram source ∧ h.quiet = false) ∧
    (∃ (h : CmdHdr) (source : _) (s : _), ModuleLevel h s ∧ h.origin = .datagram source ∧ h.quiet = true) ∧
    (∃ (h : CmdHdr) (s : _), ModuleLevel h s ∧ h.origin = .sideband ∧ h.quiet = false) ∧
    (∃ (h : CmdHdr) (n : _) (s : _), ModuleLevel h s ∧ h.origin = .ring n ∧ h.quiet = false ∧ (ringS s n.val).kind = 1 ∧ (ringS s n.val).cq ≠ n.val ∧ (ringS s (ringS s n.val).cq).entryShift = 12 ∧ (ringS s (ringS s n.val).cq).notifyAddr = 0) :=
  ⟨⟨wHdr, 77, wReady, by decide +kernel⟩,
    ⟨{ wHdr with quiet := true }, 77, wReady, by decide +kernel⟩,
    ⟨{ wHdr with origin := .sideband }, wReady, by decide +kernel⟩,
    ⟨{ wHdr with origin := .ring 2 }, 2, (wRing (wPacket 0x0101 0xFF .identify)), by decide +kernel⟩⟩

theorem witness_DatagramsAreAdmitted :
    (∃ (port : PortId) (s : _), portHears s port.val = false) ∧
    (∃ (port : PortId) (source : BitVec 160) (s : _), executes s = true ∧ portHears s port.val = true ∧ allowed s source.toNat = false) ∧
    (∃ (port : PortId) (source : BitVec 160) (bytes : Fin 65536) (pkt : Packet) (s : _), executes s = true ∧ portHears s port.val = true ∧ allowed s source.toNat = true ∧ bytes.val ≠ 32 + pkt.length.toNat ∧ 8 ≤ bytes.val) ∧
    (∃ (τ : _) (port : PortId) (source : BitVec 160) (bytes : Fin 65536) (pkt : Packet) (s : _) (k : _), executes s = true ∧ portHears s port.val = true ∧ allowed s source.toNat = true ∧ bytes.val = 32 + pkt.length.toNat ∧ keptFor (atTime τ s) source.toNat pkt.seq.toNat = some k) ∧
    (∃ (τ : _) (port : PortId) (source : BitVec 160) (bytes : Fin 65536) (pkt : Packet) (s : _), executes s = true ∧ portHears s port.val = true ∧ allowed s source.toNat = true ∧ bytes.val = 32 + pkt.length.toNat ∧ keptFor (atTime τ s) source.toNat pkt.seq.toNat = none ∧ opcodes.contains pkt.opcode.toNat = false) ∧
    (∃ (τ : _) (port : PortId) (source : BitVec 160) (bytes : Fin 65536) (pkt : Packet) (s : _) (b : _), s.boot.state = .recovery ∧ portHears s port.val = true ∧ allowed s source.toNat = true ∧ bytes.val = 32 + pkt.length.toNat ∧ keptFor (atTime τ s) source.toNat pkt.seq.toNat = none ∧ formatRefusal pkt = none ∧ pkt.body = some b ∧ inRecovery b = false) ∧
    (∃ (τ : _) (port : PortId) (source : BitVec 160) (bytes : Fin 65536) (pkt : Packet) (s : _) (b : _), Ready s ∧ portHears s port.val = true ∧ allowed s source.toNat = true ∧ bytes.val = 32 + pkt.length.toNat ∧ keptFor (atTime τ s) source.toNat pkt.seq.toNat = none ∧ formatRefusal pkt = none ∧ pkt.body = some b ∧ (scopeOf b = .module ∧ pkt.ctx.toNat ≠ 0xFF) ∨ (scopeOf b ≠ .module ∧ pkt.ctx.toNat ≠ 0xFF ∧ ctxOpen s pkt.ctx.toNat = false)) ∧
    (∃ (τ : _) (port : PortId) (source : BitVec 160) (bytes : Fin 65536) (pkt : Packet) (s : _) (b : _), Ready s ∧ portHears s port.val = true ∧ allowed s source.toNat = true ∧ bytes.val = 32 + pkt.length.toNat ∧ keptFor (atTime τ s) source.toNat pkt.seq.toNat = none ∧ formatRefusal pkt = none ∧ pkt.body = some b ∧ scopeOf b = .job ∧ pkt.ctx.toNat = 0xFF ∧ isJobLead s = false ∧ s.job.configured = true ∧ s.job.group = 0 ∧ s.grp.noLead = false) ∧
    (∃ (τ : _) (port : PortId) (source : BitVec 160) (bytes : Fin 65536) (pkt : Packet) (s : _) (b : _), executes s = true ∧ portHears s port.val = true ∧ allowed s source.toNat = true ∧ bytes.val = 32 + pkt.length.toNat ∧ keptFor (atTime τ s) source.toNat pkt.seq.toNat = none ∧ formatRefusal pkt = none ∧ pkt.body = some b) :=
  ⟨⟨1, { wReady with boot := { wReady.boot with state := .recovery } }, by decide +kernel⟩,
    ⟨0, 77, { wReady with host := { wReady.host with allow := [(5, 128)] } }, by decide +kernel⟩,
    ⟨0, 77, 31, (wPacket 0x0101 0xFF .identify), wReady, by decide +kernel⟩,
    ⟨5, 0, 77, 32, (wPacket 0x0101 0xFF .identify), { wReady with host := { wReady.host with kept := [{ source := 77, seq := 9, at_ := 0, reply := [[1#8]] }] } }, { source := 77, seq := 9, at_ := 0, reply := [[1#8]] }, by decide +kernel⟩,
    ⟨5, 0, 77, 32, (wPacket 0x0999 0xFF .identify), wReady, by decide +kernel⟩,
    ⟨5, 0, 77, 32, (wPacket 0x0204 0xFF .jobResume), { wReady with boot := { wReady.boot with state := .recovery } }, .jobResume, by decide +kernel⟩,
    ⟨5, 0, 77, 32, (wPacket 0x0101 5 .identify), wReady, .identify, by decide +kernel⟩,
    ⟨5, 0, 77, 32, (wPacket 0x0203 0xFF .jobPause), { wLead with job := { wLead.job with member := 1, role := .member } }, .jobPause, by decide +kernel⟩,
    ⟨5, 0, 77, 32, (wPacket 0x0101 0xFF .identify), wReady, .identify, by decide +kernel⟩⟩

theorem witness_HostsReachTheRings :
    (∃ (ring : Fin 2048) (value : BitVec 32) (s : _), Ready s ∧ doorbellIsBad s ring.val value.toNat = true) ∧
    (∃ (ring : Fin 2048) (value : BitVec 32) (s : _), Ready s ∧ doorbellIsBad s ring.val value.toNat = false ∧ (ringS s ring.val).kind = 1) ∧
    (∃ (ring : Fin 2048) (value : BitVec 32) (s : _), Ready s ∧ doorbellIsBad s ring.val value.toNat = false ∧ (ringS s ring.val).kind = 2) ∧
    (∃ (τ : _) (s : _), Ready s ∧ nextRing (atTime τ s) = none) ∧
    (∃ (τ : _) (s : _) (n : _) (p : _) (st : _) (d : _), Ready s ∧ nextRing (atTime τ s) = some n ∧ n < 1024 ∧ entryAt s n (ringS s n).head = p ∧ formatRefusal p = some (st, d)) ∧
    (∃ (τ : _) (s : _) (n : _) (p : _), Ready s ∧ nextRing (atTime τ s) = some n ∧ n < 1024 ∧ entryAt s n (ringS s n).head = p ∧ formatRefusal p = none ∧ p.body = some .identify ∧ p.ctx = 0xFF#8) ∧
    (∃ (h : RoceHdr) (data : RdmaData) (s : _) (m : _), Ready s ∧ roceHeard s h = true ∧ h.ce = false ∧ h.opcodeOk = true ∧ h.psn = (mapGet {} s.host.qps h.qpn).psn ∧ grantOf s h true (dataBytes data) = some m ∧ m.kind = 1) ∧
    (∃ (h : RoceHdr) (s : _), Ready s ∧ roceHeard s h = true ∧ h.ce = false ∧ isDuplicate (mapGet {} s.host.qps h.qpn).psn h.psn = true) ∧
    (∃ (h : RoceHdr) (s : _), Ready s ∧ roceHeard s h = true ∧ h.ce = false ∧ isDuplicate (mapGet {} s.host.qps h.qpn).psn h.psn = false ∧ h.psn ≠ (mapGet {} s.host.qps h.qpn).psn) ∧
    (∃ (h : RoceHdr) (data : RdmaData) (s : _), Ready s ∧ roceHeard s h = true ∧ h.ce = false ∧ h.opcodeOk = true ∧ h.psn = (mapGet {} s.host.qps h.qpn).psn ∧ grantOf s h true (dataBytes data) = none) ∧
    (∃ (h : RoceHdr) (len : BitVec 32) (s : _) (m : _), Ready s ∧ roceHeard s h = true ∧ h.ce = false ∧ h.opcodeOk = true ∧ h.psn = (mapGet {} s.host.qps h.qpn).psn ∧ grantOf s h false len.toNat = some m) :=
  ⟨⟨2, 65536, (wRing (wPacket 0x0101 0xFF .identify)), by decide +kernel⟩,
    ⟨2, 3, (wRing (wPacket 0x0101 0xFF .identify)), by decide +kernel⟩,
    ⟨3, 0, (wRing (wPacket 0x0101 0xFF .identify)), by decide +kernel⟩,
    ⟨5, wReady, by decide +kernel⟩,
    ⟨5, (wRing { wPacket 0x0101 0xFF .identify with opcode := 0x999 }), 2, { wPacket 0x0101 0xFF .identify with opcode := 0x999 }, 0x0101, 0, by decide +kernel⟩,
    ⟨5, (wRing (wPacket 0x0101 0xFF .identify)), 2, (wPacket 0x0101 0xFF .identify), by decide +kernel⟩,
    ⟨(wReq 7 9), (.bytes [1#8, 2#8]), wRoce, { rkey := 9, kind := 1, ctx := 0xFF, read := true, write := true, offset := 0, length := 8192, exposed := false }, by decide +kernel⟩,
    ⟨(wReq 6 9), wRoce, by decide +kernel⟩,
    ⟨(wReq 8 9), wRoce, by decide +kernel⟩,
    ⟨(wReq 7 8), (.bytes [1#8, 2#8]), wRoce, by decide +kernel⟩,
    ⟨(wReq 7 9), 2000, wRoce, { rkey := 9, kind := 1, ctx := 0xFF, read := true, write := true, offset := 0, length := 8192, exposed := false }, by decide +kernel⟩⟩

theorem witness_PortsAndClocksFollow :
    (∃ (port : PortId) (s : _), Ready s ∧ networkDown (setPort port.val { portS s port.val with down := true } s) (port.val / 4) = true ∧ s.host.netLost.contains (port.val / 4) = false) ∧
    (∃ (port : PortId) (s : _), Ready s ∧ networkDown (setPort port.val { portS s port.val with down := true } s) (port.val / 4) = false) ∧
    (∃ (s : _), Ready s) ∧
    (∃ (s : _), executes s = true) ∧
    (∃ (port : PortId) (rank : _) (s : _), Ready s ∧ port.val < 4 ∧ s.host.ptpB.locked = true ∧ rank < s.host.ptpB.rank) ∧
    (∃ (port : PortId) (rank : _) (s : _), Ready s ∧ 4 ≤ port.val ∧ s.host.ptpA.locked = true ∧ rank < s.host.ptpA.rank) ∧
    (∃ (s : _), Ready s ∧ s.host.followB = false ∧ s.host.ptpB.locked = true) :=
  ⟨⟨3, { wReady with host := { wReady.host with ports := [(0, { portS wReady 0 with down := true }), (1, { portS wReady 0 with down := true }), (2, { portS wReady 0 with down := true })] } }, by decide +kernel⟩,
    ⟨3, wReady, by decide +kernel⟩,
    ⟨{ wReady with host := { wReady.host with netLost := [0] } }, by decide +kernel⟩,
    ⟨wReady, by decide +kernel⟩,
    ⟨1, 4, { wReady with host := { wReady.host with ptpB := { locked := true, rank := 9, offset := 0 } } }, by decide +kernel⟩,
    ⟨5, 4, { wReady with host := { wReady.host with ptpA := { locked := true, rank := 9, offset := 0 } } }, by decide +kernel⟩,
    ⟨{ wReady with host := { wReady.host with ptpB := { locked := true, rank := 9, offset := 0 } } }, by decide +kernel⟩⟩

theorem witness_ModuleCommandsComplete :
    (∃ (h : CmdHdr) (s : _), ModuleLevel h s) ∧
    (∃ (h : CmdHdr) (s : _), ModuleLevel h s) ∧
    (∃ (h : CmdHdr) (p : NetSettings) (s : _), ModuleLevel h s ∧ (netChecks p).all (·.2) = true) ∧
    (∃ (h : CmdHdr) (p : NetSettings) (s : _), ModuleLevel h s ∧ 8 ≤ p.port) ∧
    (∃ (h : CmdHdr) (p : RingParams) (s : _) (base : _), ModuleLevel h s ∧ (ringChecks s p).all (·.2) = true ∧ placeRing s (2 ^ (p.order + p.entryShift)) = some base) ∧
    (∃ (h : CmdHdr) (p : RingParams) (s : _), ModuleLevel h s ∧ (ringChecks s p).all (·.2) = true ∧ placeRing s (2 ^ (p.order + p.entryShift)) = none) ∧
    (∃ (h : CmdHdr) (n : BitVec 16) (source : _) (s : _), ModuleLevel h s ∧ h.origin = .datagram source ∧ ringExists s n.toNat = true ∧ (ringS s n.toNat).head = (ringS s n.toNat).tail ∧ usedAsCq s n.toNat = false) ∧
    (∃ (h : CmdHdr) (p : MrParams) (s : _), ModuleLevel h s ∧ (mrChecks s p).all (·.2) = true) ∧
    (∃ (h : CmdHdr) (rkey : BitVec 32) (s : _), ModuleLevel h s ∧ (s.host.mrs.any fun m => decide (m.rkey = rkey.toNat)) = true) ∧
    (∃ (h : CmdHdr) (p : QpParams) (s : _), ModuleLevel h s ∧ (qpChecks p).all (·.2) = true ∧ s.host.qps.length < 2048) ∧
    (∃ (h : CmdHdr) (p : QpParams) (s : _), ModuleLevel h s ∧ (qpChecks p).all (·.2) = true ∧ 2048 ≤ s.host.qps.length) ∧
    (∃ (h : CmdHdr) (qpn : BitVec 24) (s : _), ModuleLevel h s ∧ (mapGet {} s.host.qps qpn.toNat).open_ = true) :=
  ⟨⟨wHdr, wReady, by decide +kernel⟩,
    ⟨wHdr, wReady, by decide +kernel⟩,
    ⟨wHdr, { port := 3, ipv4 := 77, ipv4Prefix := 24, ipv6 := 0, ipv6Prefix := 64, vlan := 0, mtu := 1500, pfc := 3, allow := [(1, 8)] }, wReady, by decide +kernel⟩,
    ⟨wHdr, { port := 8, ipv4 := 77, ipv4Prefix := 24, ipv6 := 0, ipv6Prefix := 64, vlan := 0, mtu := 1500, pfc := 3, allow := [(1, 8)] }, wReady, by decide +kernel⟩,
    ⟨wHdr, { ring := 7, kind := 2, order := 4, entryShift := 6, ctx := 0xFF, cq := 0, notifyAddr := 0, notifyPort := 0 }, wReady, 65536, by decide +kernel⟩,
    ⟨wHdr, { ring := 7, kind := 2, order := 4, entryShift := 6, ctx := 0xFF, cq := 0, notifyAddr := 0, notifyPort := 0 }, { wReady with mem := { wReady.mem with systemGib := 0 } }, by decide +kernel⟩,
    ⟨wHdr, 7, 77, { wReady with host := { wReady.host with rings := [(7, { kind := 2, order := 4 })], entries := [] } }, by decide +kernel⟩,
    ⟨wHdr, { kind := 1, ctx := 0xFF, read := true, write := true, offset := 0, length := 4096 }, wReady, by decide +kernel⟩,
    ⟨wHdr, 9, wRoce, by decide +kernel⟩,
    ⟨wHdr, { port := 1, gid := 5, qpn := 6, psn := 7, mtu := 1024 }, wReady, by decide +kernel⟩,
    ⟨wHdr, { port := 1, gid := 5, qpn := 6, psn := 7, mtu := 1024 }, { wReady with host := { wReady.host with qps := List.replicate 2048 (1, {}) } }, by decide +kernel⟩,
    ⟨wHdr, 5, wRoce, by decide +kernel⟩⟩

theorem witness_JobCommandsComplete :
    (∃ (h : CmdHdr) (p : JobParams) (s : _), ModuleLevel h s ∧ s.job.started = false ∧ (jobChecks p).all (·.2) = true ∧ strapIn p.member p.straps p.lead s = true ∧ (1 < p.members → strapIn p.member p.straps p.standby s = true)) ∧
    (∃ (h : CmdHdr) (p : JobParams) (s : _), ModuleLevel h s ∧ s.job.started = false ∧ (jobChecks p).all (·.2) = true ∧ strapIn p.member p.straps p.lead s = false) ∧
    (∃ (h : CmdHdr) (p : JobParams) (s : _), ModuleLevel h s ∧ s.job.started = false ∧ (jobChecks p).all (·.2) = true ∧ strapIn p.member p.straps p.lead s = true ∧ 1 < p.members ∧ strapIn p.member p.straps p.standby s = false) ∧
    (∃ (h : CmdHdr) (s : _), ModuleLevel h s ∧ s.job.started = true) ∧
    (∃ (h : CmdHdr) (facts : _) (s : _), ModuleLevel h s ∧ isJobLead s = true ∧ s.job.started = false ∧ startRefusal facts (reply h 1 0 [] false s) = none) ∧
    (∃ (h : CmdHdr) (facts : _) (s : _) (r : _), ModuleLevel h s ∧ isJobLead s = true ∧ s.job.started = false ∧ startRefusal facts (reply h 1 0 [] false s) = some r) ∧
    (∃ (h : CmdHdr) (s : _), JobLevel h s ∧ s.job.hostPause = false ∧ s.job.holds.contains 1 = false) ∧
    (∃ (h : CmdHdr) (s : _), JobLevel h s ∧ s.job.hostPause = true) ∧
    (∃ (h : CmdHdr) (s : _), JobLevel h s ∧ s.job.holds = [1] ∧ s.job.haltPause = false) ∧
    (∃ (h : CmdHdr) (s : _), JobLevel h s ∧ s.job.holds = [4]) ∧
    (∃ (h : CmdHdr) (s : _), JobLevel h s) ∧
    (∃ (h : CmdHdr) (lead : BitVec 8) (standby : BitVec 8) (straps : BitVec 64) (s : _), ModuleLevel h s ∧ s.job.started = true ∧ s.job.holds.contains 4 = true ∧ (nameChecks s lead.toNat standby.toNat).all (·.2) = true ∧ strapOf s straps.toNat lead.toNat = true ∧ (standby.toNat ≠ 0xFF → strapOf s straps.toNat standby.toNat = true)) ∧
    (∃ (h : CmdHdr) (s : _), ModuleLevel h s ∧ s.job.holds.contains 4 = false) :=
  ⟨⟨wHdr, { jobTag := 5, group := 0, member := 0, groups := 2, members := 2, lead := 0, standby := 1, period := 200, grace := 5, slipPause := false, tickExternal := false, split := 4, windowGib := 8, systemGib := 4, kvGib := 2, lateTicks := 3, initialEpoch := 1, straps := 3 }, { wReady with pins := { wReady.pins with leadSel := true } }, by decide +kernel⟩,
    ⟨wHdr, { jobTag := 5, group := 0, member := 0, groups := 2, members := 2, lead := 0, standby := 1, period := 200, grace := 5, slipPause := false, tickExternal := false, split := 4, windowGib := 8, systemGib := 4, kvGib := 2, lateTicks := 3, initialEpoch := 1, straps := 3 }, { wReady with pins := { wReady.pins with leadSel := false } }, by decide +kernel⟩,
    ⟨wHdr, { jobTag := 5, group := 0, member := 0, groups := 2, members := 2, lead := 0, standby := 1, period := 200, grace := 5, slipPause := false, tickExternal := false, split := 4, windowGib := 8, systemGib := 4, kvGib := 2, lateTicks := 3, initialEpoch := 1, straps := 1 }, { wReady with pins := { wReady.pins with leadSel := true } }, by decide +kernel⟩,
    ⟨wHdr, wLead, by decide +kernel⟩,
    ⟨wHdr, { refused := none, missingPeer := none, shadows := [], peerChannels := [] }, { wLead with job := { wLead.job with started := false, groups := 1, members := 1, split := 4 }, place := { wLead.place with inForce := some wSound }, red := { wLead.red with layers := [] }, stream := { wLead.stream with slotBytes := 0 } }, by decide +kernel⟩,
    ⟨wHdr, { refused := none, missingPeer := none, shadows := [], peerChannels := [] }, { wLead with job := { wLead.job with started := false } }, (0x0505, 3), by decide +kernel⟩,
    ⟨wHdr, wLead, by decide +kernel⟩,
    ⟨wHdr, { wLead with job := { wLead.job with hostPause := true } }, by decide +kernel⟩,
    ⟨wHdr, { wLead with job := { wLead.job with holds := [1] } }, by decide +kernel⟩,
    ⟨wHdr, { wLead with job := { wLead.job with holds := [4] } }, by decide +kernel⟩,
    ⟨wHdr, wLead, by decide +kernel⟩,
    ⟨wHdr, 1, 0xFF, 3, { wLead with job := { wLead.job with holds := [4] } }, by decide +kernel⟩,
    ⟨wHdr, wLead, by decide +kernel⟩⟩

theorem witness_ContextCommandsComplete :
    (∃ (h : CmdHdr) (p : CtxParams) (s : _), ModuleLevel h s ∧ s.job.configured = true ∧ (contextChecks s p).all (·.2) = true ∧ (p.kind ≠ .serve ∨ kvPageBytes s (newContext p) = 0 ∨ freePages s (newContext p) ≠ 0)) ∧
    (∃ (h : CmdHdr) (s : _), ModuleLevel h s ∧ s.job.configured = false) ∧
    (∃ (h : CmdHdr) (s : _), ContextLevel h s) ∧
    (∃ (h : CmdHdr) (tensor : BitVec 32) (f : _) (value : BitVec 32) (s : _), JobLevel h s ∧ s.job.configured = true ∧ (ruleChecks s tensor.toNat f value.toNat).all (·.2) = true) ∧
    (∃ (h : CmdHdr) (tensor : BitVec 32) (s : _), ModuleLevel h s ∧ isJobLead s = true ∧ s.job.started = false ∧ s.job.configured = true ∧ knowsTensor s tensor.toNat = true) ∧
    (∃ (h : CmdHdr) (step : BitVec 40) (bytes : BitVec 64) (s : _), ContextLevel h s ∧ (ctxOf s h.ctx.toNat).kind = some .train ∧ step.toNat = batchStep s ∧ 0 < bytes.toNat ∧ bytes.toNat ≤ (ctxOf s h.ctx.toNat).inputMib * 2 ^ 20) ∧
    (∃ (h : CmdHdr) (bytes : BitVec 64) (s : _), ContextLevel h s ∧ (ctxOf s h.ctx.toNat).kind = some .eval ∧ 0 < bytes.toNat ∧ bytes.toNat ≤ (ctxOf s h.ctx.toNat).inputMib * 2 ^ 20) ∧
    (∃ (h : CmdHdr) (p : RequestParams) (s : _), ContextLevel h s ∧ (ctxOf s h.ctx.toNat).kind = some .serve ∧ kvPageBytes s (ctxOf s h.ctx.toNat) ≠ 0 ∧ (requestChecks (ctxOf s h.ctx.toNat) p).all (·.2) = true ∧ s.tick.epoch = 0) ∧
    (∃ (h : CmdHdr) (p : RequestParams) (s : _), ContextLevel h s ∧ (ctxOf s h.ctx.toNat).kind = some .serve ∧ kvPageBytes s (ctxOf s h.ctx.toNat) ≠ 0 ∧ (requestChecks (ctxOf s h.ctx.toNat) p).all (·.2) = true ∧ s.tick.epoch ≠ 0 ∧ (ctxOf s h.ctx.toNat).maxRequests ≤ nextCount s (ctxOf s h.ctx.toNat)) ∧
    (∃ (h : CmdHdr) (p : RequestParams) (s : _), ContextLevel h s ∧ (ctxOf s h.ctx.toNat).kind = some .serve ∧ kvPageBytes s (ctxOf s h.ctx.toNat) ≠ 0 ∧ (requestChecks (ctxOf s h.ctx.toNat) p).all (·.2) = true ∧ s.tick.epoch ≠ 0 ∧ nextCount s (ctxOf s h.ctx.toNat) < (ctxOf s h.ctx.toNat).maxRequests ∧ nextTokens s (ctxOf s h.ctx.toNat) + p.promptLen ≤ (ctxOf s h.ctx.toNat).passTokens ∧ pagesFor (ctxOf s h.ctx.toNat) p.promptLen p.newLen ≤ freePages s (ctxOf s h.ctx.toNat)) ∧
    (∃ (h : CmdHdr) (seq : BitVec 32) (s : _), ContextLevel h s ∧ (ctxOf s h.ctx.toNat).kind = some .serve ∧ (ctxOf s h.ctx.toNat).requests.any (cancellable s seq) = true ∧ s.job.started = true) ∧
    (∃ (h : CmdHdr) (seq : BitVec 32) (s : _), ContextLevel h s ∧ (ctxOf s h.ctx.toNat).kind = some .serve ∧ (ctxOf s h.ctx.toNat).requests.any (cancellable s seq) = false) ∧
    (∃ (h : CmdHdr) (epoch : BitVec 16) (s : _), JobLevel h s ∧ s.stream.dual = false ∧ epoch.toNat ≠ 0) ∧
    (∃ (h : CmdHdr) (s : _), JobLevel h s ∧ s.stream.epochA ≠ 0) ∧
    (∃ (h : CmdHdr) (dual : BitVec 8) (rep : BitVec 8) (s : _), JobLevel h s ∧ s.job.held = true ∧ 1 ≤ dual.toNat ∧ dual.toNat ≤ 64 ∧ 1 ≤ rep.toNat) ∧
    (∃ (h : CmdHdr) (s : _), ModuleLevel h s) :=
  ⟨⟨wHdr, { ctx := 5, kind := .serve, inputMib := 1, serve := wServe }, (wCtx wServing), by decide +kernel⟩,
    ⟨wHdr, wReady, by decide +kernel⟩,
    ⟨wCtxHdr, (wCtx wServing), by decide +kernel⟩,
    ⟨wHdr, 0xFFFFFFFF, .lr, 7, wLead, by decide +kernel⟩,
    ⟨wHdr, 0xFFFFFFFF, { wLead with job := { wLead.job with started := false } }, by decide +kernel⟩,
    ⟨wCtxHdr, 1, 100, (wCtx { kind := some .train, inputMib := 1 }), by decide +kernel⟩,
    ⟨wCtxHdr, 100, (wCtx { kind := some .eval, inputMib := 1 }), by decide +kernel⟩,
    ⟨wCtxHdr, { promptLen := 2, newLen := 3, sampled := false, indirect := false, seed := 0, prompt := [1, 2] }, (wCtx wServing), by decide +kernel⟩,
    ⟨wCtxHdr, { promptLen := 2, newLen := 3, sampled := false, indirect := false, seed := 0, prompt := [1, 2] }, { wCtx { wServing with maxRequests := 0 } with tick := { wLead.tick with epoch := 1 } }, by decide +kernel⟩,
    ⟨wCtxHdr, { promptLen := 2, newLen := 3, sampled := false, indirect := false, seed := 0, prompt := [1, 2] }, { wCtx wServing with tick := { wLead.tick with epoch := 1 } }, by decide +kernel⟩,
    ⟨wCtxHdr, 9, (wCtx wServing), by decide +kernel⟩,
    ⟨wCtxHdr, 8, (wCtx wServing), by decide +kernel⟩,
    ⟨wHdr, 7, wLead, by decide +kernel⟩,
    ⟨wHdr, wStream, by decide +kernel⟩,
    ⟨wHdr, 3, 4, { wLead with job := { wLead.job with held := true } }, by decide +kernel⟩,
    ⟨wHdr, wStream, by decide +kernel⟩⟩

theorem witness_LayoutCommandsComplete :
    (∃ (h : CmdHdr) (s : _), ModuleLevel h s ∧ s.place.replacing = false ∧ s.place.loading = none ∧ heldOrIdle s = true) ∧
    (∃ (h : CmdHdr) (s : _), ModuleLevel h s ∧ s.place.replacing = false ∧ s.place.loading.isSome = true) ∧
    (∃ (h : CmdHdr) (s : _) (i : _), ModuleLevel h s ∧ s.place.inForce = some i) ∧
    (∃ (h : CmdHdr) (s : _), ModuleLevel h s ∧ s.place.inForce = none) ∧
    (∃ (h : CmdHdr) (s : _), ModuleLevel h s ∧ s.job.started = false ∧ s.place.inForce.isSome = true) ∧
    (∃ (h : CmdHdr) (s : _), ModuleLevel h s ∧ s.job.started = true) ∧
    (∃ (h : CmdHdr) (s : _), ModuleLevel h s ∧ s.job.held = true) ∧
    (∃ (h : CmdHdr) (s : _), ModuleLevel h s ∧ anyWork s = false) ∧
    (∃ (s : _) (d : _), Ready s ∧ (s.host.deferred.find? fun d => (isSelfTest d).isSome) = some d ∧ d.body = .selfTest false ∧ s.grp.drainHold = false ∧ anyWork s = false) :=
  ⟨⟨wHdr, wReady, by decide +kernel⟩,
    ⟨wHdr, { wReady with place := { wReady.place with loading := some 0 } }, by decide +kernel⟩,
    ⟨wHdr, { wReady with place := { wReady.place with inForce := some wSound } }, (wSound), by decide +kernel⟩,
    ⟨wHdr, wReady, by decide +kernel⟩,
    ⟨wHdr, { wRed { rule := 1 } {} with job := { (wRed { rule := 1 } {}).job with started := false } }, by decide +kernel⟩,
    ⟨wHdr, wLead, by decide +kernel⟩,
    ⟨wHdr, { wLead with job := { wLead.job with held := true } }, by decide +kernel⟩,
    ⟨wHdr, wReady, by decide +kernel⟩,
    ⟨{ wReady with host := { wReady.host with deferred := [{ hdr := wHdr, body := .selfTest false }] } }, { hdr := wHdr, body := .selfTest false }, by decide +kernel⟩⟩

theorem witness_PowerAndFaultCommandsComplete :
    (∃ (h : CmdHdr) (watts : BitVec 16) (s : _), ModuleLevel h s ∧ 2400 ≤ watts.toNat ∧ watts.toNat ≤ 24000) ∧
    (∃ (h : CmdHdr) (watts : BitVec 16) (s : _), ModuleLevel h s ∧ 2400 ≤ watts.toNat ∧ watts.toNat ≤ 24000 ∧ s.power.drawMin ≤ watts.toNat ∧ s.power.inputW ≤ watts.toNat) ∧
    (∃ (h : CmdHdr) (watts : BitVec 16) (s : _), ModuleLevel h s ∧ 2400 ≤ watts.toNat ∧ watts.toNat ≤ 24000 ∧ watts.toNat < s.power.drawMin) ∧
    (∃ (h : CmdHdr) (watts : BitVec 16) (s : _), ModuleLevel h s ∧ (watts.toNat < 2400 ∨ 24000 < watts.toNat)) ∧
    (∃ (h : CmdHdr) (rate : BitVec 16) (s : _), ModuleLevel h s ∧ 50 ≤ rate.toNat ∧ rate.toNat ≤ 4800) ∧
    (∃ (h : CmdHdr) (s : _), ModuleLevel h s) ∧
    (∃ (h : CmdHdr) (percent : BitVec 8) (s : _), ModuleLevel h s ∧ 10 ≤ percent.toNat ∧ percent.toNat ≤ 100) ∧
    (∃ (h : CmdHdr) (percent : BitVec 8) (s : _), ModuleLevel h s ∧ percent.toNat ≤ 60) ∧
    (∃ (h : CmdHdr) (s : _), ModuleLevel h s) ∧
    (∃ (h : CmdHdr) (first : BitVec 16) (count : BitVec 16) (s : _), ModuleLevel h s ∧ first.toNat < 256 ∧ 1 ≤ count.toNat ∧ count.toNat ≤ 63) ∧
    (∃ (h : CmdHdr) (s : _), ModuleLevel h s) ∧
    (∃ (h : CmdHdr) (s : _), JobLevel h s) ∧
    (∃ (h : CmdHdr) (index : BitVec 16) (s : _), JobLevel h s ∧ (jobModules s).contains index.toNat = true ∧ (memberS s index.toNat).state = .active) ∧
    (∃ (h : CmdHdr) (member : BitVec 8) (s : _), ModuleLevel h s ∧ s.job.started = false ∧ s.job.groups ≤ 1 ∧ member.toNat < s.job.members ∧ member.toNat ≠ s.job.member) ∧
    (∃ (h : CmdHdr) (f : BitVec 8) (s : _), ModuleLevel h s ∧ heldOrIdle s = true ∧ f.toNat < 84 ∧ isDark s f.toNat = true ∧ protectionReset s f.toNat = true) ∧
    (∃ (h : CmdHdr) (f : BitVec 8) (s : _), ModuleLevel h s ∧ heldOrIdle s = true ∧ f.toNat < 84 ∧ isLit s f.toNat = true) ∧
    (∃ (f : FieldId) (s : _), Ready s ∧ (fieldS s f.val).returning = true ∧ mapToCopy s f.val = true) ∧
    (∃ (f : FieldId) (ok : _) (s : _), Ready s ∧ (fieldS s f.val).returning = true ∧ (ok = false ∨ mapToCopy s f.val = false)) :=
  ⟨⟨wHdr, 3000, wReady, by decide +kernel⟩,
    ⟨wHdr, 20000, wReady, by decide +kernel⟩,
    ⟨wHdr, 2500, { wReady with power := { wReady.power with drawMin := 3000 } }, by decide +kernel⟩,
    ⟨wHdr, 2399, wReady, by decide +kernel⟩,
    ⟨wHdr, 100, wReady, by decide +kernel⟩,
    ⟨wHdr, { wReady with power := { wReady.power with hbLost := true } }, by decide +kernel⟩,
    ⟨wHdr, 50, wReady, by decide +kernel⟩,
    ⟨wHdr, 60, wReady, by decide +kernel⟩,
    ⟨wHdr, wReady, by decide +kernel⟩,
    ⟨wHdr, 255, 2, { wReady with fault := { records := [(3, { valid := true }), (4, { valid := true })], head := 4 } }, by decide +kernel⟩,
    ⟨wHdr, { wReady with fault := { records := [(3, { valid := true }), (4, { valid := true })], head := 4 } }, by decide +kernel⟩,
    ⟨wHdr, wLead, by decide +kernel⟩,
    ⟨wHdr, 1, wLead, by decide +kernel⟩,
    ⟨wHdr, 1, { wLead with job := { wLead.job with started := false, groups := 1 } }, by decide +kernel⟩,
    ⟨wHdr, 5, { wReady with fabric := { wReady.fabric with fields := [(5, { state := .dark })] } }, by decide +kernel⟩,
    ⟨wHdr, 5, wReady, by decide +kernel⟩,
    ⟨5, { wReady with fabric := { wReady.fabric with fields := [(5, { state := .dark, returning := true })] } }, by decide +kernel⟩,
    ⟨5, false, { wReady with fabric := { wReady.fabric with fields := [(5, { state := .dark, returning := true })] } }, by decide +kernel⟩⟩

theorem witness_SnapshotAndFirmwareCommandsComplete :
    (∃ (h : CmdHdr) (s : _), ModuleLevel h s ∧ bitAt s.snap.sources 0 = true ∧ s.snap.armed = true) ∧
    (∃ (h : CmdHdr) (s : _), ModuleLevel h s ∧ bitAt s.snap.sources 0 = true ∧ s.snap.armed = true ∧ isLead s = true) ∧
    (∃ (h : CmdHdr) (s : _), ModuleLevel h s ∧ isLead s = false ∧ s.job.configured = true ∧ s.job.group = 0 ∧ s.grp.noLead = false) ∧
    (∃ (h : CmdHdr) (kind : BitVec 8) (index : BitVec 32) (offset : BitVec 32) (length : BitVec 32) (s : _), ModuleLevel h s ∧ s.snap.latching = false ∧ (snapshotChecks kind.toNat index.toNat offset.toNat length.toNat).all (·.2) = true) ∧
    (∃ (h : CmdHdr) (s : _), ModuleLevel h s ∧ s.snap.latching = true) ∧
    (∃ (h : CmdHdr) (first : BitVec 16) (count : BitVec 16) (s : _), ModuleLevel h s ∧ 1 ≤ count.toNat ∧ count.toNat ≤ 508 ∧ first.toNat + count.toNat ≤ 1856) ∧
    (∃ (h : CmdHdr) (count : BitVec 16) (s : _), ModuleLevel h s ∧ 1 ≤ count.toNat ∧ count.toNat ≤ 63) ∧
    (∃ (h : CmdHdr) (count : BitVec 16) (s : _), ModuleLevel h s ∧ 1 ≤ count.toNat ∧ count.toNat ≤ 63 ∧ s.flash.journalBase = 0) ∧
    (∃ (h : CmdHdr) (nonce : List Byte) (s : _), ModuleLevel h s ∧ 16 ≤ nonce.length ∧ nonce.length ≤ 64) ∧
    (∃ (h : CmdHdr) (slotB : Bool) (offset : BitVec 32) (data : List Byte) (s : _), ModuleLevel h s ∧ s.boot.slotB ≠ slotB ∧ offset.toNat % 256 = 0 ∧ offset.toNat + data.length ≤ 96 * 2 ^ 20 ∧ 0 < data.length ∧ data.length ≤ 4032 ∧ (if slotB then s.boot.devB else s.boot.devA) = true ∧ failedSector s slotB = none ∧ stagingRoom s data.length = true) ∧
    (∃ (h : CmdHdr) (slotB : Bool) (offset : BitVec 32) (data : List Byte) (s : _), ModuleLevel h s ∧ s.boot.slotB ≠ slotB ∧ offset.toNat % 256 = 0 ∧ offset.toNat + data.length ≤ 96 * 2 ^ 20 ∧ 0 < data.length ∧ data.length ≤ 4032 ∧ (if slotB then s.boot.devB else s.boot.devA) = true ∧ failedSector s slotB = none ∧ stagingRoom s data.length = false) ∧
    (∃ (h : CmdHdr) (slotB : Bool) (offset : BitVec 32) (data : List Byte) (s : _) (n : _), ModuleLevel h s ∧ s.boot.slotB ≠ slotB ∧ offset.toNat % 256 = 0 ∧ offset.toNat + data.length ≤ 96 * 2 ^ 20 ∧ 0 < data.length ∧ data.length ≤ 4032 ∧ (if slotB then s.boot.devB else s.boot.devA) = true ∧ failedSector s slotB = some n) ∧
    (∃ (w : _) (rest : _) (s : _), executes s = true ∧ s.boot.staging = w :: rest ∧ w.slotB = false) ∧
    (∃ (w : _) (rest : _) (s : _), executes s = true ∧ s.boot.staging = w :: rest) ∧
    (∃ (h : CmdHdr) (s : _), ModuleLevel h s) ∧
    (∃ (checks : BundleChecks) (s : _) (d : _) (slotB : _), executes s = true ∧ s.boot.staging = [] ∧ bundleFault s slotB checks = none ∧ s.flash.outOfOrder.contains (b2n slotB) = false ∧ (s.host.deferred.find? fun d => (isVerify d).isSome) = some d ∧ d.body = .bundleVerify slotB) ∧
    (∃ (checks : BundleChecks) (s : _) (d : _) (slotB : _), executes s = true ∧ s.boot.staging = [] ∧ bundleFault s slotB checks = some .format ∧ (s.host.deferred.find? fun d => (isVerify d).isSome) = some d ∧ d.body = .bundleVerify slotB) ∧
    (∃ (h : CmdHdr) (slotB : _) (s : _), ModuleLevel h s ∧ slotVerified s slotB = true) ∧
    (∃ (h : CmdHdr) (slotB : _) (s : _), ModuleLevel h s ∧ slotVerified s slotB = false) ∧
    (∃ (h : CmdHdr) (s : _), ModuleLevel h s ∧ heldOrIdle s = true) ∧
    (∃ (h : CmdHdr) (s : _), ModuleLevel h s ∧ heldOrIdle s = false) :=
  ⟨⟨wHdr, wReady, by decide +kernel⟩,
    ⟨wHdr, wLead, by decide +kernel⟩,
    ⟨wHdr, { wLead with job := { wLead.job with role := .member } }, by decide +kernel⟩,
    ⟨wHdr, 8, 3, 0, 64, wReady, by decide +kernel⟩,
    ⟨wHdr, { wReady with snap := { wReady.snap with latching := true } }, by decide +kernel⟩,
    ⟨wHdr, 10, 3, wReady, by decide +kernel⟩,
    ⟨wHdr, 3, wReady, by decide +kernel⟩,
    ⟨wHdr, 3, wReady, by decide +kernel⟩,
    ⟨wHdr, (List.replicate 16 3#8), wReady, by decide +kernel⟩,
    ⟨wHdr, true, 256, [1#8], wReady, by decide +kernel⟩,
    ⟨wHdr, true, 256, [1#8], { wReady with boot := { wReady.boot with staging := List.replicate 1024 { slotB := true, offset := 0, data := List.replicate 1024 1#8 } } }, by decide +kernel⟩,
    ⟨wHdr, true, 256, [1#8], { wReady with flash := { wReady.flash with failedSectors := [(true, 3)] } }, 3, by decide +kernel⟩,
    ⟨({ slotB := false, offset := 65536, data := [1#8, 2#8] } : Staged), [], { wReady with boot := { wReady.boot with staging := [({ slotB := false, offset := 65536, data := [1#8, 2#8] } : Staged)] } }, by decide +kernel⟩,
    ⟨({ slotB := false, offset := 65536, data := [1#8, 2#8] } : Staged), [], { wReady with boot := { wReady.boot with staging := [({ slotB := false, offset := 65536, data := [1#8, 2#8] } : Staged)] } }, by decide +kernel⟩,
    ⟨wHdr, wReady, by decide +kernel⟩,
    ⟨{ keyMatches := true, ed := true, mldsa := true, badImage := none }, { wReady with flash := { wReady.flash with bundleB := wManifest }, host := { wReady.host with deferred := [{ hdr := wHdr, body := .bundleVerify true }] } }, { hdr := wHdr, body := .bundleVerify true }, true, by decide +kernel⟩,
    ⟨{ keyMatches := true, ed := true, mldsa := true, badImage := none }, { wReady with host := { wReady.host with deferred := [{ hdr := wHdr, body := .bundleVerify true }] } }, { hdr := wHdr, body := .bundleVerify true }, true, by decide +kernel⟩,
    ⟨wHdr, true, { wReady with flash := (journalEntry 0x21 0 0 true 0 wReady).flash }, by decide +kernel⟩,
    ⟨wHdr, true, wReady, by decide +kernel⟩,
    ⟨wHdr, wReady, by decide +kernel⟩,
    ⟨wHdr, wLead, by decide +kernel⟩⟩

theorem witness_RegistersAreReadAndWritten :
    (∃ (h : CmdHdr) (addr : BitVec 32) (count : BitVec 16) (s : _), ModuleLevel h s ∧ 1 ≤ count.toNat ∧ count.toNat ≤ 1016 ∧ firstProblem s ((List.range count.toNat).map fun i => addr.toNat + 4 * i) = none) ∧
    (∃ (h : CmdHdr) (s : _), ModuleLevel h s) ∧
    (∃ (h : CmdHdr) (addr : BitVec 32) (s : _), ModuleLevel h s ∧ addr.toNat % 4 ≠ 0) ∧
    (∃ (h : CmdHdr) (addr : BitVec 32) (s : _), ModuleLevel h s ∧ addr.toNat % 4 = 0 ∧ 0x100000 ≤ addr.toNat) ∧
    (∃ (h : CmdHdr) (s : _), ModuleLevel h s ∧ s.job.started = false) ∧
    (∃ (h : CmdHdr) (v : BitVec 32) (s : _), ModuleLevel h s ∧ s.job.started = true ∧ v.toNat % 8192 ≠ s.tick.period) ∧
    (∃ (h : CmdHdr) (s : _), ModuleLevel h s ∧ s.power.throttleC ≤ 95) ∧
    (∃ (s : _), Ready s) ∧
    (∃ (addr : BitVec 32) (s : _), Ready s ∧ addr.toNat % 4 ≠ 0) ∧
    (∃ (v : BitVec 32) (s : _), Ready s ∧ 2400 ≤ v.toNat ∧ v.toNat ≤ 24000 ∧ v.toNat ≠ s.power.capSoft) ∧
    (∃ (v : BitVec 32) (s : _), Ready s ∧ 2400 ≤ v.toNat ∧ v.toNat ≤ 24000 ∧ v.toNat ≠ s.power.capHard ∧ s.power.drawMin ≤ v.toNat ∧ s.power.inputW ≤ v.toNat) ∧
    (∃ (s : _), Ready s ∧ s.snap.latching = false) ∧
    (∃ (s : _), Ready s ∧ s.snap.latching = true) ∧
    (∃ (s : _), Ready s) ∧
    (∃ (s : _), Ready s) ∧
    (∃ (addr : BitVec 32) (s : _) (k : _), Ready s ∧ k < 64 ∧ addr.toNat = 0xC8000 + 8 * k) :=
  ⟨⟨wHdr, 0x10008, 4, wReady, by decide +kernel⟩,
    ⟨wHdr, wReady, by decide +kernel⟩,
    ⟨wHdr, 0x10001, wReady, by decide +kernel⟩,
    ⟨wHdr, 0x100000, wReady, by decide +kernel⟩,
    ⟨wHdr, wReady, by decide +kernel⟩,
    ⟨wHdr, 7000, wLead, by decide +kernel⟩,
    ⟨wHdr, wReady, by decide +kernel⟩,
    ⟨wReady, by decide +kernel⟩,
    ⟨0xC0021, wReady, by decide +kernel⟩,
    ⟨3000, wReady, by decide +kernel⟩,
    ⟨20000, wReady, by decide +kernel⟩,
    ⟨wReady, by decide +kernel⟩,
    ⟨{ wReady with snap := { wReady.snap with latching := true } }, by decide +kernel⟩,
    ⟨{ wReady with fault := { records := [(3, { valid := true }), (4, { valid := true })], head := 4 } }, by decide +kernel⟩,
    ⟨wReady, by decide +kernel⟩,
    ⟨0xC8008, wReady, 1, by decide +kernel⟩⟩

theorem witness_SidebandAnswers :
    (∃ (s : State), s.side.answering = true ∧ s.side.mailbox.isSome = true) ∧
    (∃ (bytes : Fin 65536) (pkt : Packet) (s : State), s.side.answering = true ∧ Ready s ∧ s.side.mailbox = none ∧ bytes.val = 32 + pkt.length.toNat ∧ formatRefusal pkt = none ∧ pkt.body = some .identify ∧ pkt.ctx = 0xFF#8 ∧ bitAt pkt.flags.toNat 0 = false) ∧
    (∃ (p : _) (s : State), s.side.answering = true ∧ s.side.mailbox = some p ∧ s.side.replyReady = true) ∧
    (∃ (p : _) (s : State), s.side.answering = true ∧ s.side.mailbox = some p ∧ s.side.replyReady = false ∧ s.side.i2c = true) ∧
    (∃ (addr : BitVec 32) (v : _) (u : _) (s : State), s.side.answering = true ∧ addrProblem s addr.toNat = none ∧ readWord true addr.toNat s = some (v, u)) ∧
    (∃ (addr : BitVec 32) (s : State), s.side.answering = true ∧ addr.toNat % 4 ≠ 0) ∧
    (∃ (s : State), s.side.answering = true ∧ Ready s) ∧
    (∃ (s : State), s.side.answering = true ∧ s.side.dynAddr = none ∧ s.side.i2c = false) ∧
    (∃ (s : State), s.side.answering = true ∧ s.side.dynAddr = none) ∧
    (∃ (s : State), s.side.answering = false) :=
  ⟨⟨{ wReady with side := { wReady.side with answering := true, mailbox := some (wPacket 0x0101 0xFF .identify) } }, by decide +kernel⟩,
    ⟨32, (wPacket 0x0101 0xFF .identify), { wReady with side := { wReady.side with answering := true, mailbox := none } }, by decide +kernel⟩,
    ⟨(wPacket 0x0101 0xFF .identify), { wReady with side := { wReady.side with answering := true, mailbox := some (wPacket 0x0101 0xFF .identify), reply := [[1#8], [2#8]], replyReady := true } }, by decide +kernel⟩,
    ⟨(wPacket 0x0101 0xFF .identify), { wReady with side := { wReady.side with answering := true, mailbox := some (wPacket 0x0101 0xFF .identify), i2c := true } }, by decide +kernel⟩,
    ⟨0x10000, 0xD718, { wReady with side := { wReady.side with answering := true } }, { wReady with side := { wReady.side with answering := true } }, by decide +kernel⟩,
    ⟨0x10001, { wReady with side := { wReady.side with answering := true, mailbox := none } }, by decide +kernel⟩,
    ⟨{ wReady with side := { wReady.side with answering := true, mailbox := none } }, by decide +kernel⟩,
    ⟨{ wReady with side := { wReady.side with answering := true, mailbox := none } }, by decide +kernel⟩,
    ⟨{ wReady with side := { wReady.side with answering := true, mailbox := none } }, by decide +kernel⟩,
    ⟨{ wReady with side := { wReady.side with answering := false } }, by decide +kernel⟩⟩

theorem witness_StartsReachReadyOrRecovery :
    (∃ (facts : StartFacts) (s : _), startDue s = true ∧ s.boot.refclk = true ∧ s.boot.meas = [] ∧ s.flash.heldDue = false ∧ s.flash.watchdog = false ∧ failRun s = 0 ∧ facts.devA = true ∧ facts.devB = true ∧ facts.contactFails = false ∧ facts.failStep = none ∧ facts.hangs = none ∧ facts.darkFields = [] ∧ (∀ f, f < 84 → isDark s f = false) ∧ (∃ m, m < 32 ∧ stackReachable s m = true) ∧ bundleFault s (preferredSlot s) (if preferredSlot s = true then facts.checksB else facts.checksA) = none) ∧
    (∃ (facts : StartFacts) (s : _), startDue s = true ∧ s.boot.refclk = true ∧ s.flash.heldDue = false ∧ s.flash.watchdog = false ∧ failRun s = 0 ∧ facts.devA = true ∧ facts.devB = true ∧ facts.contactFails = false ∧ facts.failStep = some (8, 0x0041) ∧ facts.hangs = none ∧ bundleFault s (preferredSlot s) (if preferredSlot s = true then facts.checksB else facts.checksA) = none) ∧
    (∃ (facts : StartFacts) (s : _), startDue s = true ∧ s.boot.refclk = true ∧ s.flash.heldDue = false ∧ s.flash.watchdog = false ∧ 3 ≤ failRun s ∧ facts.contactFails = false ∧ facts.failStep = none ∧ facts.hangs = none) ∧
    (∃ (s : _), startDue s = true ∧ s.boot.refclk = false) ∧
    (∃ (s : _), startDue s = false) ∧
    (∃ (n : Nat) (s : State), s.boot.state = .starting ∧ s.boot.begunAt + 2000000000 ≤ n) ∧
    (∃ (n : Nat) (s : State), s.boot.state = .starting ∧ n < s.boot.begunAt + 2000000000) :=
  ⟨⟨{ checksA := { keyMatches := true, ed := true, mldsa := true, badImage := none }, checksB := { keyMatches := true, ed := true, mldsa := true, badImage := none }, devA := true, devB := true, contactFails := false, failStep := none, hangs := none, darkFields := [], mapDigestOk := true, test := { mismatches := [], routers := [], wires := [] }, repaired := [(3, 9)], lanes := [(0, (40, 5))] }, { State.reset with flash := { State.reset.flash with bundleA := wManifest, memDefects := [(3, 9), (4, 65536)] } }, by decide +kernel⟩,
    ⟨{ checksA := { keyMatches := true, ed := true, mldsa := true, badImage := none }, checksB := { keyMatches := true, ed := true, mldsa := true, badImage := none }, devA := true, devB := true, contactFails := false, failStep := some (8, 0x0041), hangs := none, darkFields := [], mapDigestOk := true, test := { mismatches := [], routers := [], wires := [] }, repaired := [(3, 9)], lanes := [(0, (40, 5))] }, { State.reset with flash := { State.reset.flash with bundleA := wManifest, memDefects := [(3, 9), (4, 65536)] } }, by decide +kernel⟩,
    ⟨{ checksA := { keyMatches := true, ed := true, mldsa := true, badImage := none }, checksB := { keyMatches := true, ed := true, mldsa := true, badImage := none }, devA := true, devB := true, contactFails := false, failStep := none, hangs := none, darkFields := [], mapDigestOk := true, test := { mismatches := [], routers := [], wires := [] }, repaired := [(3, 9)], lanes := [(0, (40, 5))] }, { State.reset with flash := { State.reset.flash with journal := [{ start := 1, step := 1, result := 2, slotB := false, recovery := false, code := 0, timeMs := 0, data := 0 }, { start := 2, step := 4, result := 2, slotB := false, recovery := false, code := 0, timeMs := 0, data := 0 }, { start := 3, step := 8, result := 2, slotB := false, recovery := false, code := 0, timeMs := 0, data := 0 }] } }, by decide +kernel⟩,
    ⟨{ State.reset with boot := { State.reset.boot with refclk := false } }, by decide +kernel⟩,
    ⟨wReady, by decide +kernel⟩,
    ⟨2000000009, { State.reset with boot := { State.reset.boot with state := .starting, step := 8, begunAt := 9 } }, by decide +kernel⟩,
    ⟨2000000008, { State.reset with boot := { State.reset.boot with state := .starting, step := 8, begunAt := 9 } }, by decide +kernel⟩⟩

theorem witness_ResetsKeepFlashAlone :
    (∃ (s : State), Ready s) ∧
    (∃ (s : State), Ready s) ∧
    (∃ (s : State), Ready s) ∧
    (∃ (s : State), Ready s) ∧
    (∃ (s : State), s.boot.state = .reset) ∧
    (∃ (s : State), s.boot.state ≠ .off) ∧
    (∃ (s : State), s.boot.state = .off) ∧
    (∃ (f : FieldId) (s : _), Ready s ∧ isDark s f.val = false ∧ (fieldS s f.val).controlRunning = true ∧ s.job.started = false) ∧
    (∃ (f : FieldId) (s : _), Ready s ∧ f.val ∈ s.boot.reloading ∧ s.place.replacing = false) ∧
    (∃ (f : FieldId) (s : _), Ready s ∧ f.val ∈ s.boot.reloading) :=
  ⟨⟨wLead, by decide +kernel⟩,
    ⟨wLead, by decide +kernel⟩,
    ⟨wLead, by decide +kernel⟩,
    ⟨wLead, by decide +kernel⟩,
    ⟨State.reset, by decide +kernel⟩,
    ⟨wLead, by decide +kernel⟩,
    ⟨{ State.reset with boot := { State.reset.boot with state := .off }, power := { State.reset.power with present := false } }, by decide +kernel⟩,
    ⟨7, wReady, by decide +kernel⟩,
    ⟨7, { wReady with boot := { wReady.boot with reloading := [7] }, fabric := { wReady.fabric with fields := [(7, { controlRunning := false })] } }, by decide +kernel⟩,
    ⟨7, { wReady with boot := { wReady.boot with reloading := [7] }, fabric := { wReady.fabric with fields := [(7, { controlRunning := false })] } }, by decide +kernel⟩⟩

theorem witness_RampsAndCapsBind :
    (∃ (s : State), Ready s) ∧
    (∃ (s : State), Ready s ∧ s.power.limitMw ≤ 1000 * s.power.capHard) ∧
    (∃ (s : State), Ready s) ∧
    (∃ (avg : BitVec 16) (s : State), Ready s ∧ (∀ w ∈ s.power.windows.zipIdx, 1000 * (Int.natAbs ((avg.toNat : Int) - (w.1 : Int))) ≤ 100000 + rampMw s 100000 * (w.2 + 1))) ∧
    (∃ (avg : BitVec 16) (s : State) (old : _) (rest : _), Ready s ∧ s.power.windows = old :: rest ∧ 100000 + rampMw s 100000 < 1000 * (Int.natAbs ((avg.toNat : Int) - (old : Int)))) ∧
    (∃ (s : State), Ready s ∧ isLead s = true ∧ s.job.started = true ∧ 2 ≤ s.job.members ∧ Int.natAbs (s.power.requests.map fun r => r.2).sum ≤ groupTick s) ∧
    (∃ (s : State), Ready s) ∧
    (∃ (tick : BitVec 48) (s : State), Ready s ∧ 2 ≤ s.job.members ∧ (∀ a ∈ s.power.allocs, a.tick ≠ tick.toNat + 2)) ∧
    (∃ (draw : BitVec 16) (s : State) (f : _), Ready s ∧ s.power.capHard < s.power.drawMin ∧ s.power.capHard < draw.toNat ∧ isLit s f = true ∧ f < 84 ∧ (∀ g, g < 84 → f < g → isLit s g = false) ∧ s.job.started = false) ∧
    (∃ (n : Nat) (s : State), Ready s ∧ s.power.hbArmed = true ∧ s.power.hbLost = false ∧ s.power.hbAt + 5000000000 ≤ n) :=
  ⟨⟨{ wReady with power := { wReady.power with ceilingMw := 25000000, limitMw := 25000000 } }, by decide +kernel⟩,
    ⟨{ wReady with power := { wReady.power with capSoft := 20000 } }, by decide +kernel⟩,
    ⟨{ wReady with power := { wReady.power with windows := [100, 90] } }, by decide +kernel⟩,
    ⟨200, { wReady with power := { wReady.power with windows := [190, 195] } }, by decide +kernel⟩,
    ⟨2000, { wReady with power := { wReady.power with windows := [1, 2] } }, 1, [2], by decide +kernel⟩,
    ⟨{ wLead with power := { wLead.power with requests := [(0, 500), (1, -300)] } }, by decide +kernel⟩,
    ⟨{ wReady with power := { wReady.power with allocs := [{ tick := 11, bound := 3, change := 3 }] } }, by decide +kernel⟩,
    ⟨9, wLead, by decide +kernel⟩,
    ⟨20000, { wReady with power := { wReady.power with capHard := 5000, drawMin := 6000 } }, 83, by decide +kernel⟩,
    ⟨5000000009, { wReady with power := { wReady.power with hbArmed := true, hbAt := 9 } }, by decide +kernel⟩⟩

theorem witness_SupplyFaultsAct :
    (∃ (s : State), Ready s ∧ s.power.dimmed = false) ∧
    (∃ (s : State), Ready s ∧ s.power.dimmed = true) ∧
    (∃ (s : State), Ready s ∧ s.power.stopCause = 0 ∧ s.job.started = true ∧ isJobLead s = true) ∧
    (∃ (s : State), Ready s ∧ s.power.stopCause = 0) ∧
    (∃ (s : State), Ready s ∧ s.power.stopCause ≠ 0) ∧
    (∃ (s : State), s.boot.state ≠ .off) ∧
    (∃ (s : State), s.boot.state ≠ .off) ∧
    (∃ (f : FieldId) (s : State), Ready s ∧ bitAt s.power.fieldProt f.val = false) ∧
    (∃ (f : FieldId) (s : State), Ready s ∧ bitAt s.power.fieldProt f.val = true ∧ bitAt s.power.fieldLatched f.val = false) ∧
    (∃ (f : FieldId) (s : State), Ready s ∧ bitAt s.power.fieldProt f.val = true ∧ bitAt s.power.fieldLatched f.val = false) ∧
    (∃ (side : Fin 4) (s : State), Ready s ∧ bitAt s.power.shoulderProt side.val = false ∧ s.mem.lost = []) :=
  ⟨⟨wReady, by decide +kernel⟩,
    ⟨{ wReady with power := { wReady.power with dimmed := true } }, by decide +kernel⟩,
    ⟨wLead, by decide +kernel⟩,
    ⟨wReady, by decide +kernel⟩,
    ⟨{ wReady with power := { wReady.power with stopCause := 16 } }, by decide +kernel⟩,
    ⟨wLead, by decide +kernel⟩,
    ⟨wLead, by decide +kernel⟩,
    ⟨7, wReady, by decide +kernel⟩,
    ⟨7, { wReady with power := { wReady.power with fieldProt := 128 } }, by decide +kernel⟩,
    ⟨7, { wReady with power := { wReady.power with fieldProt := 128 } }, by decide +kernel⟩,
    ⟨2, wReady, by decide +kernel⟩⟩

theorem witness_HeatIsShed :
    (∃ (facts : SensorFacts) (s : State), Ready s ∧ (∀ m, m < 32 → nth (0 : Int) facts.stacksC m < 105) ∧ (∀ f, f < 84 → hottest (nth [] facts.fieldsC f) < 105)) ∧
    (∃ (s : State), Ready s) ∧
    (∃ (f : FieldId) (s : State), Ready s ∧ isLit s f.val = true ∧ (s.power.throttleC : Int) ≤ (fieldPower s f.val).tj ∧ 9 ≤ (fieldPower s f.val).sThrottle) ∧
    (∃ (f : FieldId) (s : State), Ready s ∧ isLit s f.val = true ∧ (s.power.throttleC : Int) ≤ (fieldPower s f.val).tj ∧ (fieldPower s f.val).sThrottle = 8) ∧
    (∃ (f : FieldId) (s : State), Ready s ∧ isLit s f.val = true ∧ (fieldPower s f.val).tj + 5 ≤ (s.power.throttleC : Int)) ∧
    (∃ (n : Nat) (f : FieldId) (s : State) (a : _), Ready s ∧ isLit s f.val = true ∧ (fieldPower s f.val).at8Since = some a ∧ a + 3000000000 ≤ n ∧ s.job.started = false) ∧
    (∃ (n : Nat) (f : FieldId) (s : State) (a : _), Ready s ∧ isLit s f.val = true ∧ (fieldPower s f.val).at8Since = some a ∧ a + 3000000000 ≤ n ∧ s.job.started = true) ∧
    (∃ (n : Nat) (f : FieldId) (s : State), Ready s ∧ heatReturnOk n f.val s = true ∧ s.job.started = false) ∧
    (∃ (n : Nat) (f : FieldId) (s : State), Ready s ∧ heatReturnOk n f.val s = true ∧ s.job.started = true) ∧
    (∃ (f : FieldId) (draw : BitVec 16) (share : BitVec 16) (s : State), Ready s ∧ isLit s f.val = true ∧ share < draw) ∧
    (∃ (f : FieldId) (draw : BitVec 16) (share : BitVec 16) (low : BitVec 16) (s : State), Ready s ∧ isLit s f.val = true ∧ draw ≤ share ∧ draw < low) ∧
    (∃ (f : FieldId) (draw : BitVec 16) (share : BitVec 16) (low : BitVec 16) (s : State), Ready s ∧ isLit s f.val = true ∧ draw ≤ share ∧ low ≤ draw ∧ (fieldPower s f.val).sCtl < 16) :=
  ⟨⟨{ fieldsC := List.replicate 84 [70, 60], stacksC := List.replicate 32 60, inlet := 46, outlet := 50 }, wReady, by decide +kernel⟩,
    ⟨wReady, by decide +kernel⟩,
    ⟨7, { wReady with power := { wReady.power with fields := [(7, { tj := 99, sThrottle := 12 })] } }, by decide +kernel⟩,
    ⟨7, { wReady with power := { wReady.power with fields := [(7, { tj := 99, sThrottle := 8 })] } }, by decide +kernel⟩,
    ⟨7, { wReady with power := { wReady.power with fields := [(7, { tj := 60, sThrottle := 8 })] } }, by decide +kernel⟩,
    ⟨3000000005, 7, { wReady with power := { wReady.power with fields := [(7, { at8Since := some 5 })] } }, 5, by decide +kernel⟩,
    ⟨3000000005, 7, { wLead with power := { wLead.power with fields := [(7, { at8Since := some 5 })] } }, 5, by decide +kernel⟩,
    ⟨10000000005, 7, { wReady with boot := { wReady.boot with state := .ready }, fabric := { wReady.fabric with fields := [(7, { state := .shade })] }, power := { wReady.power with fields := [(7, { coolSince := some 5, heatShaded := true })] } }, by decide +kernel⟩,
    ⟨10000000005, 7, { wLead with boot := { wLead.boot with state := .ready }, fabric := { wLead.fabric with fields := [(7, { state := .shade })] }, power := { wLead.power with fields := [(7, { coolSince := some 5, heatShaded := true })] } }, by decide +kernel⟩,
    ⟨7, 50, 40, { wReady with power := { wReady.power with fields := [(7, { glow := 0, sCtl := 9 })] } }, by decide +kernel⟩,
    ⟨7, 20, 40, 30, wReady, by decide +kernel⟩,
    ⟨7, 35, 40, 30, { wReady with power := { wReady.power with fields := [(7, { sCtl := 9 })] } }, by decide +kernel⟩⟩

theorem witness_MembersComeAndGo :
    (∃ (b : Beacon) (raw : BitVec 384) (s : State), Ready s ∧ isLead s = true ∧ decodeBeacon raw.toNat = b ∧ beaconCheckOk raw.toNat = true ∧ b.group = s.job.group ∧ (memberS s (64 * b.group + b.member)).state = .active) ∧
    (∃ (raw : BitVec 384) (s : State), Ready s ∧ isLead s = true ∧ beaconCheckOk raw.toNat = false) ∧
    (∃ (n : Nat) (g : GroupId) (m : MemberId) (s : State) (t0 : _), Ready s ∧ isJobLead s = true ∧ s.job.started = true ∧ g.val = 0 ∧ m.val < s.job.members ∧ m.val ≠ s.job.member ∧ s.job.standbyMember ≠ some m.val ∧ (memberS s m.val).state = .active ∧ (memberS s m.val).beaconAt = some t0 ∧ t0 + silenceBound s ≤ n) ∧
    (∃ (n : Nat) (g : GroupId) (m : MemberId) (s : State) (t0 : _), Ready s ∧ isLead s = true ∧ s.job.started = true ∧ (memberS s (64 * g.val + m.val)).beaconAt = some t0 ∧ max s.now n < t0 + silenceBound s) ∧
    (∃ (n : Nat) (g : GroupId) (m : MemberId) (s : State) (t0 : _) (e : GroupRoles) (k : _) (ks : _), Ready s ∧ isJobLead s = true ∧ s.job.started = true ∧ g.val ≠ 0 ∧ m.val < s.job.members ∧ (memberS s (64 * g.val + m.val)).state = .active ∧ (memberS s (64 * g.val + m.val)).beaconAt = some t0 ∧ t0 + silenceBound s ≤ n ∧ (s.grp.roles.find? fun x => decide (x.group = g.val)) = some e ∧ e.lead = m.val ∧ e.standby = none ∧ ((List.range s.job.members).filter fun x => bitAt e.straps x && decide (x ≠ m.val) && decide ((memberS s (64 * g.val + x)).state = .active)) = k :: ks) ∧
    (∃ (m : MemberId) (s : State), Ready s ∧ isLead s = true ∧ s.job.started = true ∧ s.job.held = true ∧ s.grp.rolling = false ∧ (memberS s (64 * s.job.group + m.val)).state = .active ∧ (memberS s (64 * s.job.group + m.val)).suspect = true) ∧
    (∃ (n : Nat) (m : MemberId) (s : State) (t0 : _), Ready s ∧ isJobLead s = true ∧ s.job.started = true ∧ s.job.standbyMember ≠ some m.val ∧ (memberS s m.val).state = .draining ∧ (memberS s m.val).drainAt = some t0 ∧ t0 + 5000000000 ≤ n) ∧
    (∃ (m : MemberId) (gpe : BitVec 16) (id : BitVec 64) (s : State) (i : _), Ready s ∧ isLead s = true ∧ s.job.started = true ∧ s.job.held = true ∧ s.grp.rolling = false ∧ (memberS s (64 * s.job.group + m.val)).joining = true ∧ (memberS s (64 * s.job.group + m.val)).state = .lost ∧ gpe.toNat = s.boot.gpe ∧ s.place.inForce = some i ∧ i.layoutId = id.toNat) ∧
    (∃ (m : MemberId) (gpe : BitVec 16) (s : State), Ready s ∧ isLead s = true ∧ s.job.started = true ∧ s.job.held = true ∧ s.grp.rolling = false ∧ (memberS s (64 * s.job.group + m.val)).joining = true ∧ (memberS s (64 * s.job.group + m.val)).state = .lost ∧ gpe.toNat ≠ s.boot.gpe) :=
  ⟨⟨{ member := 1, group := 0, tickCount := 9, step := 4, roll := 0, state := 3, rampReq := -20, outMask := 5, tjMax := 70, newFaults := 1, lastFault := 2 }, (BitVec.ofNat 384 (encodeBeacon { member := 1, group := 0, tickCount := 9, step := 4, roll := 0, state := 3, rampReq := -20, outMask := 5, tjMax := 70, newFaults := 1, lastFault := 2 })), wLead, by decide +kernel⟩,
    ⟨1, wLead, by decide +kernel⟩,
    ⟨2000009, 0, 1, { wLead with grp := { wLead.grp with members := [(1, { beaconAt := some 9 })] }, job := { wLead.job with standbyMember := none } }, 9, by decide +kernel⟩,
    ⟨2000008, 0, 1, { wLead with grp := { wLead.grp with members := [(1, { beaconAt := some 9 })] }, job := { wLead.job with standbyMember := none } }, 9, by decide +kernel⟩,
    ⟨2000009, 1, 1, { wLead with grp := { wLead.grp with members := [(65, { beaconAt := some 9 })], roles := [{ group := 1, lead := 1, standby := none, straps := 3 }] } }, 9, { group := 1, lead := 1, standby := none, straps := 3 }, 0, [], by decide +kernel⟩,
    ⟨1, { wLead with grp := { wLead.grp with members := [(1, { suspect := true })] }, job := { wLead.job with held := true } }, by decide +kernel⟩,
    ⟨5000000009, 1, { wLead with grp := { wLead.grp with members := [(1, { state := .draining, drainAt := some 9 })] }, job := { wLead.job with standbyMember := none } }, 9, by decide +kernel⟩,
    ⟨1, 0, 77, { wSlots with job := { wSlots.job with held := true }, grp := { wLead.grp with members := [(1, { joining := true, state := .lost })] }, place := { wSlots.place with inForce := some { wImage with layoutId := 77 } } }, { wImage with layoutId := 77 }, by decide +kernel⟩,
    ⟨1, 4, { wLead with grp := { wLead.grp with members := [(1, { joining := true, state := .lost })] }, job := { wLead.job with held := true } }, by decide +kernel⟩⟩

theorem witness_RollbacksRestartFromTheCommit :
    (∃ (s : State), Ready s ∧ s.job.started = true ∧ isJobLead s = true) ∧
    (∃ (s : State), Ready s ∧ s.job.started = true ∧ isLead s = true ∧ isJobLead s = false) ∧
    (∃ (msg : RollbackMsg) (s : State), Ready s ∧ s.job.started = true ∧ msg.roll ≠ s.red.roll ∧ msg.target = s.red.committed) ∧
    (∃ (msg : RollbackMsg) (s : State), Ready s ∧ s.job.started = true ∧ msg.roll = s.red.roll) ∧
    (∃ (msg : RollbackMsg) (s : State), Ready s ∧ s.job.started = true ∧ msg.target < s.red.committed) :=
  ⟨⟨wLead, by decide +kernel⟩,
    ⟨{ wLead with job := { wLead.job with group := 1 } }, by decide +kernel⟩,
    ⟨{ target := 0, roll := 1, cause := 1, source := 3, holdAfter := false, members := 3 }, wLead, by decide +kernel⟩,
    ⟨{ target := 0, roll := 0, cause := 1, source := 3, holdAfter := false, members := 3 }, wLead, by decide +kernel⟩,
    ⟨{ target := 0, roll := 1, cause := 1, source := 3, holdAfter := false, members := 3 }, { wLead with red := { wLead.red with committed := 4 } }, by decide +kernel⟩⟩

theorem witness_MirrorsAreCompared :
    (∃ (g : GroupId) (e : _) (s : State), Ready s ∧ isJobLead s = true ∧ s.job.started = true ∧ 2 ≤ s.job.groups ∧ s.red.mirrorDone = false ∧ listsIn { s with grp := { s.grp with digests := s.grp.digests ++ [(g.val, e)] } } = false) ∧
    (∃ (tensor : BitVec 32) (reps : List (Nat × List (Nat × MirDigest))) (s : State), Ready s ∧ isJobLead s = true ∧ tensor.toNat ∈ s.grp.disputed ∧ 2 ≤ (s.grp.disputed.filter fun x => decide (x ≠ tensor.toNat)).length ∧ (∀ b ∈ listedBlocks reps, differs ((replicasOf reps b).map (·.2.crc)) = false)) ∧
    (∃ (tensor : BitVec 32) (rule : Fin 8) (x : MirDigest) (y : MirDigest) (s : State), Ready s ∧ isJobLead s = true ∧ s.job.groups = 2 ∧ tensor.toNat ∈ s.grp.disputed ∧ x.crc ≠ y.crc ∧ agree rule.val x y = false) ∧
    (∃ (b : BitVec 32) (s : State), Ready s ∧ isJobLead s = true ∧ (b.toNat, false) ∈ s.grp.verdicts ∧ s.grp.disputed ≠ [] ∧ s.place.inForce = none) ∧
    (∃ (b : BitVec 32) (s : State), Ready s ∧ isJobLead s = true ∧ s.job.started = true ∧ (b.toNat, false) ∈ s.grp.verdicts ∧ s.place.inForce = none) ∧
    (∃ (p : PieceData) (s : State), Ready s ∧ shadowAt s (decodeContrib p.header.toNat).block = none) ∧
    (∃ (p : PieceData) (h : ContribHdr) (l : _) (bn : _) (s : State), Ready s ∧ decodeContrib p.header.toNat = h ∧ shadowAt s h.block = some (l, bn) ∧ h.step = s.tick.step % 65536 ∧ h.roll = s.red.roll ∧ h.mode = 3 ∧ h.maxb = 0 ∧ residue p.values = h.res ∧ (shadowBlock s h.block).totalPieces = []) :=
  ⟨⟨0, [], { wSlots with place := { wSlots.place with inForce := some { wImage with owners := [(3, 1)] } } }, by decide +kernel⟩,
    ⟨3, [(0, [(7, { crc := 1, maxe := 3, proj := 5, nan := false })]), (1, [(7, { crc := 1, maxe := 3, proj := 5, nan := false })])], { wLead with grp := { wLead.grp with disputed := [3, 4, 5] } }, by decide +kernel⟩,
    ⟨3, 0, { crc := 1, maxe := 3, proj := 5, nan := false }, { crc := 2, maxe := 3, proj := 5, nan := false }, { wLead with grp := { wLead.grp with disputed := [3, 4, 5] } }, by decide +kernel⟩,
    ⟨7, { wLead with grp := { wLead.grp with disputed := [3], verdicts := [(7, false)] } }, by decide +kernel⟩,
    ⟨7, { wLead with grp := { wLead.grp with verdicts := [(7, false)] } }, by decide +kernel⟩,
    ⟨({ header := BitVec.ofNat 128 (encodeContrib { block := 0, piece := 2, mode := 3, clip := false, nonfinite := false, shift := 0, group := 0, member := 0, maxb := 0, step := 1, roll := 0, core := 0, res := 3, ackAddr := 4 }), values := [1, 2], srcBlock := 5, ackEntry := 2 } : PieceData), wReady, by decide +kernel⟩,
    ⟨({ header := BitVec.ofNat 128 (encodeContrib { block := 0, piece := 2, mode := 3, clip := false, nonfinite := false, shift := 0, group := 0, member := 0, maxb := 0, step := 1, roll := 0, core := 0, res := 3, ackAddr := 4 }), values := [1, 2], srcBlock := 5, ackEntry := 2 } : PieceData), (decodeContrib (({ header := BitVec.ofNat 128 (encodeContrib { block := 0, piece := 2, mode := 3, clip := false, nonfinite := false, shift := 0, group := 0, member := 0, maxb := 0, step := 1, roll := 0, core := 0, res := 3, ackAddr := 4 }), values := [1, 2], srcBlock := 5, ackEntry := 2 } : PieceData)).header.toNat), ({ tensor := 9, k := 64, n := 128, rule := 1 } : LayerRec), 0, { wReady with tick := { wReady.tick with step := 1 }, red := { wReady.red with shadowLayers := [(9, ({ tensor := 9, k := 64, n := 128, rule := 1 } : LayerRec))] } }, by decide +kernel⟩⟩

theorem witness_ShuttersLatchOnce :
    (∃ (s : State), Ready s ∧ bitAt s.snap.sources 1 = true ∧ s.snap.armed = true) ∧
    (∃ (s : State), Ready s ∧ bitAt s.snap.sources 1 = true ∧ s.snap.armed = false) ∧
    (∃ (s : State), Ready s ∧ bitAt s.snap.sources 1 = false) ∧
    (∃ (s : State), Ready s ∧ bitAt s.snap.sources 2 = true ∧ s.snap.faultScopeGroup = true ∧ s.job.configured = true ∧ isLead s = false ∧ s.snap.armed = true) ∧
    (∃ (s : State), Ready s ∧ bitAt s.snap.sources 2 = true ∧ s.snap.faultScopeGroup = false ∧ s.snap.armed = true) ∧
    (∃ (s : State), Ready s ∧ isLead s = true ∧ bitAt s.snap.sources 4 = true ∧ s.snap.armed = true ∧ s.snap.requests = []) ∧
    (∃ (s : State) (k : _), Ready s ∧ isLead s = true ∧ (k, s.tick.tickCount) ∈ s.snap.requests) ∧
    (∃ (s : State), Ready s ∧ isLead s = false ∧ bitAt s.snap.sources 4 = true ∧ s.snap.armed = true) ∧
    (∃ (n : Nat) (s : State), Ready s ∧ s.snap.latching = true ∧ s.snap.latchAt + 20000 ≤ n) :=
  ⟨⟨wReady, by decide +kernel⟩,
    ⟨{ wReady with snap := { wReady.snap with armed := false } }, by decide +kernel⟩,
    ⟨{ wReady with snap := { wReady.snap with sources := 1 } }, by decide +kernel⟩,
    ⟨wMember, by decide +kernel⟩,
    ⟨{ wReady with snap := { wReady.snap with faultScopeGroup := false } }, by decide +kernel⟩,
    ⟨wLead, by decide +kernel⟩,
    ⟨{ wLead with snap := { wLead.snap with requests := [(9, 0)] } }, 9, by decide +kernel⟩,
    ⟨wMember, by decide +kernel⟩,
    ⟨20005, { wReady with snap := { wReady.snap with latching := true, latchAt := 5, armed := false, rearmPending := true } }, by decide +kernel⟩⟩

theorem witness_TestAccessReads :
    (∃ (s : State), s.boot.state ≠ .off) ∧
    (∃ (s : State), s.boot.state ≠ .off) ∧
    (∃ (s : State), s.boot.state ≠ .off) ∧
    (∃ (s : State), s.boot.state ≠ .off ∧ bitAt s.pins.asserted 0 = true) ∧
    (∃ (s : State), s.boot.state ≠ .off ∧ bitAt s.pins.asserted 0 = false) ∧
    (∃ (kind : BitVec 32) (index : BitVec 32) (offset : BitVec 32) (s : State), s.boot.state ≠ .off ∧ s.snap.latching = false ∧ index.toNat < bankCount kind.toNat ∧ offset.toNat + 8 ≤ bankBytesOf kind.toNat) ∧
    (∃ (s : State), s.boot.state = .off) :=
  ⟨⟨wReady, by decide +kernel⟩,
    ⟨wReady, by decide +kernel⟩,
    ⟨wReady, by decide +kernel⟩,
    ⟨{ wReady with pins := { wReady.pins with asserted := 3 } }, by decide +kernel⟩,
    ⟨wReady, by decide +kernel⟩,
    ⟨7, 0, 16, { wReady with snap := { wReady.snap with image := some {} } }, by decide +kernel⟩,
    ⟨{ State.reset with boot := { State.reset.boot with state := .off } }, by decide +kernel⟩⟩

theorem witness_InputsAreHeeded :
    (∃ (s : State), Ready s) ∧
    (∃ (s : State), Ready s) ∧
    (∃ (s : State), Ready s) ∧
    (∃ (s : State), Ready s) ∧
    (∃ (s : State), Ready s ∧ s.job.started = true ∧ isJobLead s = false) ∧
    (∃ (s : State), Ready s ∧ s.job.started = false) ∧
    (∃ (s : State), Ready s ∧ s.job.started = true ∧ isJobLead s = true ∧ s.job.haltPause = false ∧ s.job.holds = [] ∧ s.job.pauseFor = []) ∧
    (∃ (s : State), Ready s ∧ s.job.started = true ∧ isJobLead s = false ∧ s.pins.haltSent = true) ∧
    (∃ (s : State), Ready s ∧ isJobLead s = true ∧ s.job.started = true ∧ s.job.haltPause = true) ∧
    (∃ (m : Fin 1024) (s : State), Ready s ∧ isJobLead s = true ∧ s.job.started = true ∧ s.job.haltPause = true ∧ s.job.hostPause = false ∧ s.grp.members = mapSet {} [] m.val { halt := true } ∧ bitAt s.pins.asserted 3 = false) ∧
    (∃ (s : State), Ready s ∧ isLead s = true ∧ isJobLead s = false ∧ s.job.started = true) :=
  ⟨⟨wReady, by decide +kernel⟩,
    ⟨{ wReady with pins := { wReady.pins with asserted := 6, stuck := 4 } }, by decide +kernel⟩,
    ⟨wReady, by decide +kernel⟩,
    ⟨{ wReady with pins := { wReady.pins with asserted := 18, stuck := 16 } }, by decide +kernel⟩,
    ⟨wMember, by decide +kernel⟩,
    ⟨wReady, by decide +kernel⟩,
    ⟨wLead, by decide +kernel⟩,
    ⟨{ wMember with pins := { wMember.pins with haltSent := true, asserted := 10 } }, by decide +kernel⟩,
    ⟨{ wLead with job := { wLead.job with haltPause := true } }, by decide +kernel⟩,
    ⟨5, { wLead with job := { wLead.job with haltPause := true, holds := [1] }, grp := { wLead.grp with members := mapSet {} [] 5 { halt := true } } }, by decide +kernel⟩,
    ⟨{ wLead with job := { wLead.job with group := 1 } }, by decide +kernel⟩⟩

theorem witness_ResetPinsHold :
    (∃ (s : State), Ready s) ∧
    (∃ (s : State), Ready s) ∧
    (∃ (s : State), s.boot.state = .reset ∧ bitAt s.pins.asserted 0 = true ∧ bitAt s.pins.asserted 1 = true) ∧
    (∃ (s : State), s.boot.state = .reset ∧ bitAt s.pins.asserted 0 = true ∧ bitAt s.pins.asserted 1 = false) ∧
    (∃ (s : State), s.boot.state = .reset ∧ bitAt s.pins.asserted 0 = false ∧ bitAt s.pins.asserted 1 = false) ∧
    (∃ (s : State), Ready s ∧ s.pins.leadSelReported = false) ∧
    (∃ (s : State), Ready s ∧ s.pins.leadSelReported = true) ∧
    (∃ (n : Nat) (s : State), Ready s ∧ stuckDue .haltN (atTime n s) = true) ∧
    (∃ (n : Nat) (s : State), bitAt s.pins.asserted 0 = true ∧ stuckDue .rstN (atTime n s) = true) ∧
    (∃ (n : Nat) (p : PinIn) (s : State), stuckDue p (atTime n s) = false ∧ p ≠ .leadSel) ∧
    (∃ (s : State), s.boot.state ≠ .off) :=
  ⟨⟨wReady, by decide +kernel⟩,
    ⟨wReady, by decide +kernel⟩,
    ⟨{ State.reset with pins := { State.reset.pins with asserted := 3 } }, by decide +kernel⟩,
    ⟨{ State.reset with pins := { State.reset.pins with asserted := 1 } }, by decide +kernel⟩,
    ⟨{ State.reset with pins := { State.reset.pins with asserted := 0 } }, by decide +kernel⟩,
    ⟨wReady, by decide +kernel⟩,
    ⟨{ wReady with pins := { wReady.pins with leadSelReported := true } }, by decide +kernel⟩,
    ⟨600000000009, { wReady with pins := { wReady.pins with asserted := 10, since := [(3, 10)] } }, by decide +kernel⟩,
    ⟨60000000009, { State.reset with pins := { State.reset.pins with asserted := 3, since := [(0, 10)] } }, by decide +kernel⟩,
    ⟨5, .thrN, wReady, by decide +kernel⟩,
    ⟨wReady, by decide +kernel⟩⟩

theorem witness_EncodedMessagesReadBack :
    (∃ (m : TickMsg), m.tickCount < 2 ^ 48 ∧ m.step < 2 ^ 40 ∧ m.slot < 2 ^ 24 ∧ m.epoch < 2 ^ 16 ∧ m.group < 16) ∧
    (∃ (b : Beacon), b.member < 64 ∧ b.group < 16 ∧ b.tickCount < 2 ^ 48 ∧ b.step < 2 ^ 40 ∧ b.roll < 256 ∧ b.state < 256 ∧ -(2 ^ 31 : Int) ≤ b.rampReq ∧ b.rampReq < 2 ^ 31 ∧ b.outMask < 2 ^ 84 ∧ b.tjMax < 256 ∧ b.newFaults < 65536 ∧ b.lastFault < 65536) ∧
    (∃ (f : Flit), f.fmt < 16 ∧ f.type < 16 ∧ f.vc < 8 ∧ f.destBx < 256 ∧ f.destBy < 512 ∧ f.srcBx < 256 ∧ f.srcBy < 512 ∧ f.len < 512 ∧ f.destKind < 4 ∧ f.addr < 2 ^ 32 ∧ f.tag < 65536 ∧ f.ctx < 64 ∧ f.comm < 64) ∧
    (∃ (e : MapEntry), e.kind < 4 ∧ e.level < 16 ∧ e.parent < 65536 ∧ e.target < 65536 ∧ e.cw < 64 ∧ e.ch < 64) ∧
    (∃ (c : ContribHdr), c.block < 2 ^ 32 ∧ c.piece < 8 ∧ c.mode < 8 ∧ c.shift < 16 ∧ c.group < 16 ∧ c.member < 64 ∧ c.maxb < 64 ∧ c.step < 65536 ∧ c.roll < 256 ∧ c.core < 16 ∧ c.res < 65536 ∧ c.ackAddr < 65536) :=
  ⟨⟨wTick, by decide +kernel⟩,
    ⟨{ member := 1, group := 0, tickCount := 9, step := 4, roll := 0, state := 3, rampReq := -20, outMask := 5, tjMax := 70, newFaults := 1, lastFault := 2 }, by decide +kernel⟩,
    ⟨{ fmt := 5, type := 2, vc := 1, destBx := 255, destBy := 511, srcBx := 3, srcBy := 4, len := 256, destKind := 2, add := true, esc := false, addr := 9, tag := 7, ctx := 63, comm := 63 }, by decide +kernel⟩,
    ⟨{ kind := 1, level := 3, parent := 9, target := 65535, cw := 63, ch := 63 }, by decide +kernel⟩,
    ⟨{ block := 7, piece := 7, mode := 3, clip := true, nonfinite := false, shift := 15, group := 15, member := 63, maxb := 63, step := 9, roll := 255, core := 15, res := 65535, ackAddr := 65535 }, by decide +kernel⟩⟩

theorem witness_DropoutIsALostModule :
    (∃ (s : State), s.boot.state ≠ .off) ∧
    (∃ (s : State), s.boot.state = .off) ∧
    (∃ (n : Nat) (g : GroupId) (m : MemberId) (s : State) (t0 : _), Ready s ∧ isJobLead s = true ∧ s.job.started = true ∧ g.val = 0 ∧ m.val < s.job.members ∧ m.val ≠ s.job.member ∧ (memberS s m.val).state = .active ∧ (memberS s m.val).beaconAt = some t0 ∧ t0 + max (3 * periodNs s) 2000000 ≤ n) :=
  ⟨⟨wLead, by decide +kernel⟩,
    ⟨{ State.reset with boot := { State.reset.boot with state := .off } }, by decide +kernel⟩,
    ⟨2000009, 0, 1, { wLead with grp := { wLead.grp with members := [(1, { beaconAt := some 9 })] } }, 9, by decide +kernel⟩⟩

theorem witness_ShutterIsArmedOnce :
    (∃ (s : State), s.snap.armed = true) ∧
    (∃ (s : State), Ready s ∧ bitAt s.snap.sources 1 = true ∧ s.snap.armed = true) ∧
    (∃ (s : State), Ready s ∧ bitAt s.snap.sources 1 = true ∧ s.snap.armed = false) ∧
    (∃ (code : Nat) (s : State), bitAt s.snap.sources (code - 1) = true ∧ s.snap.armed = false) ∧
    (∃ (s : State), Ready s ∧ isLead s = true ∧ bitAt s.snap.sources 4 = true ∧ s.snap.armed = false ∧ s.snap.requests = []) ∧
    (∃ (s : State), Ready s ∧ s.snap.latching = false) :=
  ⟨⟨State.reset, by decide +kernel⟩,
    ⟨wReady, by decide +kernel⟩,
    ⟨{ wReady with snap := { wReady.snap with armed := false } }, by decide +kernel⟩,
    ⟨3, { wReady with snap := { wReady.snap with armed := false } }, by decide +kernel⟩,
    ⟨{ wLead with snap := { wLead.snap with armed := false } }, by decide +kernel⟩,
    ⟨wReady, by decide +kernel⟩⟩

/-! ## Witnesses written out -/

theorem witness_StepRunsTheFrontCommand :
    (∃ c rest, ∃ s : State, s.pending = c :: rest) ∧ (∃ s : State, s.pending = []) :=
  ⟨⟨.rearm, [], { wReady with pending := [.rearm] }, rfl⟩, ⟨wReady, rfl⟩⟩

theorem witness_EveryStepKeepsALegalState :
    ∃ s t : State, Legal s ∧ s.pending = [.rearm] ∧ s.boot.state = .ready ∧ step s = .next t := by
  refine ⟨{ wReady with pending := [.rearm] }, _, ⟨?_, ?_, ?_⟩, rfl, rfl, rfl⟩
  · unfold registersInRange; decide
  · right; rfl
  · decide

theorem witness_NoCommandTakesBack : ∃ c s t, exec c s = .next t ∧ s.boot.state = .ready :=
  ⟨.rearm, wReady, _, rfl, rfl⟩

theorem witness_ModulesThatDoNotRunStandStill :
    ∃ c s t, exec c s = .next t ∧ executes s = false ∧ s.side.answering = false :=
  ⟨.rearm, State.reset, _, rfl, rfl, rfl⟩

/-! ## Well-formed commands: one that each check refuses -/

theorem test_wf_segment : wellFormed (.segmentIngest 0 0 0 (List.replicate 4097 0)) = false := by decide +kernel
theorem test_wf_sample :
    wellFormed (.sensorSample 0 { fieldsC := [], stacksC := List.replicate 32 0, inlet := 0, outlet := 0 }) = false := by decide
theorem test_wf_piece :
    wellFormed (.shadowTotal { header := 0, values := List.replicate 513 0, srcBlock := 0, ackEntry := 0 }) = false := by decide +kernel
theorem test_wf_values :
    wellFormed (.pieceArrival 0 { header := 0, values := List.replicate 513 0, srcBlock := 0, ackEntry := 0 } {}) = false := by
  decide +kernel
theorem test_wf_forward : wellFormed (.packetForward 0 { header := 0, payload := List.replicate 4097 0 } none true) = false := by
  decide +kernel
theorem test_wf_merge :
    wellFormed (.packetForward 0 { header := 0, payload := [] } (some { header := 0, payload := List.replicate 4097 0 }) true) = false := by
  decide +kernel
theorem test_wf_port : wellFormed (.lPortWrite 0 { header := 0, payload := List.replicate 4097 0 } none) = false := by decide +kernel
theorem test_wf_sensors :
    wellFormed (.sensorSample 0 { fieldsC := List.replicate 84 [0], stacksC := List.replicate 32 0, inlet := 0, outlet := 0 }) = false := by
  decide
theorem test_wf_flash : wellFormed (.flashWrite wHdr true 0 []) = false := by decide
theorem test_wf_attest : wellFormed (.attest wHdr [0, 1]) = false := by decide
theorem test_wf_selftest :
    wellFormed (.selfTestDone 0 { mismatches := [(0, 860160)], routers := [], wires := [] }) = false := by decide
theorem test_wf_bank : wellFormed (.reconcileCopy 0 { master := [(4096, 1)] }) = false := by decide

/-! ## Worked examples and check values of the manual -/

/-- The nine ASCII bytes "123456789". -/
def nineBytes : List Byte := [0x31, 0x32, 0x33, 0x34, 0x35, 0x36, 0x37, 0x38, 0x39]

/-- R554's check values. -/
theorem test_crc16 : crc16 nineBytes = 0x29B1 := by decide +kernel
theorem test_crc32 : crc32 nineBytes = 0xCBF43926 := by decide +kernel

/-- Core (437, 1,203), chapter 03. -/
theorem test_core_block : blockAt (437 / 4) (1203 / 4) = 43769 ∧ blockBx 43769 = 109 ∧ blockBy 43769 = 300 := by decide
theorem test_core_field : fieldAt (437 / 4) (1203 / 4) = 68 := by decide

/-- The block of T4, chapter 05: the exponent byte, the trims and the first elements of each half. -/
theorem test_t4_block :
    (let b := t4Block false (([0x3F666666, 0x3ECCCCCD, 0xBE4CCCCD, 0x3D4CCCCD, 0x3DE147AE, 0x3EC80000] ++ List.replicate 10 0 ++
        [0x3E99999A, 0xBD75C28F] ++ List.replicate 14 0).map fpDec) { words := [], sats := 0, lost := 0, gen := 0 }
     (b.1, b.2.1, b.2.2.words.take 6, (b.2.2.words.drop 16).take 2)) =
      (0x7C, 0x04, [0x7, 0x5, 0xB, 0x1, 0x1, 0x4], [0x4, 0x9]) := by decide +kernel

/-- The residues of the block that three members contribute to, chapter 10. -/
theorem test_residues :
    residue [1000000, -250000, 70000, 5] = 33585 ∧ residue [2147000000, 3, -1, 0] = 7867 ∧
      residue [-7, 123456, 65535, 65536] = 57915 ∧ residue [2147999993, -126541, 135534, 65541] = 33832 := by decide +kernel

/-- One exponent across two steps, chapter 10: 0.0123, as the FP32 value nearest to it, and 0.5 at BEXP −33. -/
theorem test_piece_unshifted : toFixed (-33) 0x3C4985F0 = 105656192 ∧ bitLength 105656192 = 27 := by decide +kernel
theorem test_piece_shifted :
    (convertPiece (-33) [0x3F000000]).shift = 2 ∧ (convertPiece (-33) [0x3F000000]).values = [1073741824] ∧
      (convertPiece (-33) [0x3F000000]).maxb = 33 := by decide +kernel
theorem test_next_exponent :
    nextExponent wReady { bexp := -33, maxb := 27 } = -33 ∧ nextExponent wReady { bexp := -33, maxb := 33 } = -27 := by decide +kernel

/-- The soft cap across a group, chapter 15: 64 falls of 120 W against 1,920 W. -/
theorem test_grants : grantsOf 1920 ((List.range 64).map fun i => (i, -120)) = (List.range 64).map fun i => (i, -30) := by decide +kernel

/-- Field F68, chapter 19: its word, dark with its 640 blocks, and the address of a counter's alias. -/
theorem test_field_word :
    (readWord false 0x20210 (refreshSize (setField 68 { state := .dark } wReady))).map (·.1) = some (0x20000 + 640) := by decide +kernel
theorem test_counter_alias :
    (readWord false 0x40820 (setCounter 196 7 wReady)).map (·.1) = some 7 ∧
      (readWord false 0xD8620 (setCounter 196 7 wReady)).map (·.1) = some 7 := by decide +kernel

/-- A command packet's header, little-endian (Table 13.4): IDENTIFY in context 0xFF with SEQ 9. -/
theorem test_packet_header :
    (let p := packetOfBytes ([0x01, 0x01, 0x00, 0xFF, 9, 0, 0, 0, 4, 0] ++ List.replicate 26 0)
     (p.opcode, p.ctx, p.seq, p.length)) = (0x0101#16, 0xFF#8, 9#32, 4#16) := by decide +kernel

/-- The Format check passes a bundle that Tables 14.4 to 14.6 allow, and fails an erased slot (Table 14.7). -/
theorem test_bundle_format :
    (let s := { wReady with flash := { wReady.flash with bundleA := wManifest } }
     (formatOk s false, formatOk s true, steppingOk s false, bundleVersion s false)) = (true, false, true, 7) := by decide +kernel

end Tests
end

/-! SUPPORT. Frames read off `Grows`, what losing a member does at its lead (R478), and the drop-out (R462). -/

namespace Sys2Proof.Machine

/-! ## Frames from `Grows` -/

/-- An operation whose mask lies in the listed parts changes nothing else. -/
theorem Grows.only {m : Nat} {ps : List Part} {s t : State} (h : Grows m s t)
    (hm : ∀ p : Part, p ∈ ps ∨ m.testBit p.bit = false) : Only ps s t :=
  fun p hp => h.same p ((hm p).resolve_left hp)

theorem isJobLead_congr {s t : State} (h : t.job = s.job) : isJobLead t = isJobLead s := by
  simp only [isJobLead, isLead, h]

theorem selfIndex_congr {s t : State} (h : t.job = s.job) : selfIndex t = selfIndex s := by
  simp only [selfIndex, h]

theorem memberS_congr {s t : State} (h : t.grp.members = s.grp.members) (k : Nat) : memberS t k = memberS s k := by
  simp only [memberS, h]

/-! ## Events and faults leave the members alone -/

@[simp] theorem event_grp (code detail : Nat) (s : State) : (event code detail s).grp = s.grp :=
  (event_grows code detail s).same .grp rfl

@[simp] theorem memberEvent_grp (i : Nat) (s : State) : (memberEvent i s).grp = s.grp :=
  (memberEvent_grows i s).same .grp rfl

@[simp] theorem memberS_memberEvent (i : Nat) (s : State) (k : Nat) : memberS (memberEvent i s) k = memberS s k :=
  memberS_congr (by rw [memberEvent_grp]) k

/-- A fault record counts as a new fault of this module and leaves the members as they are. -/
theorem faultEvent_members (r : FaultRec) (s : State) : (faultEvent r s).grp.members = s.grp.members := by
  simp only [faultEvent, event_grp, recordFault]

@[simp] theorem memberS_faultEvent (r : FaultRec) (s : State) (k : Nat) : memberS (faultEvent r s) k = memberS s k :=
  memberS_congr (faultEvent_members r s) k

@[simp] theorem faultEvent_job (r : FaultRec) (s : State) : (faultEvent r s).job = s.job :=
  (faultEvent_grows r s).same .job rfl

/-! ## A member's state at its lead (R478, R479) -/

@[simp] theorem setMemberState_now (i : Nat) (st : MemberState) (s : State) : (setMemberState i st s).now = s.now :=
  (setMemberState_grows i st s).same .now rfl

@[simp] theorem setMemberState_job (i : Nat) (st : MemberState) (s : State) : (setMemberState i st s).job = s.job :=
  (setMemberState_grows i st s).same .job rfl

theorem memberS_setMemberState_same (i : Nat) (st : MemberState) (s : State) :
    memberS (setMemberState i st s) i = { memberS s i with state := st } := by
  simp only [setMemberState]
  split
  next hst => rw [← hst]
  next => rw [memberS_memberEvent, memberS_setMember_same]

theorem memberS_setMemberState_ne {i k : Nat} (st : MemberState) (s : State) (h : k ≠ i) :
    memberS (setMemberState i st s) k = memberS s k := by
  simp only [setMemberState]
  split
  next => rfl
  next => rw [memberS_memberEvent, memberS_setMember_ne _ _ h]

@[simp] theorem leaveRoles_now (i : Nat) (s : State) : (leaveRoles i s).now = s.now :=
  (leaveRoles_grows i s).same .now rfl

@[simp] theorem leaveRoles_job (i : Nat) (s : State) : (leaveRoles i s).job = s.job :=
  (leaveRoles_grows i s).same .job rfl

@[simp] theorem memberS_leaveRoles (i : Nat) (s : State) (k : Nat) : memberS (leaveRoles i s) k = memberS s k := by
  unfold leaveRoles
  split
  next => rw [memberS_faultEvent]; rfl
  next => rfl

/-! ## Rollback requests (R485) -/

/-- The job lead of a started job keeps the request with the time at which it came. -/
theorem requestRollback_of_jobLead {s : State} (cause : Nat) (hstarted : s.job.started = true)
    (hlead : isJobLead s = true) :
    requestRollback cause s =
      { s with grp := { s.grp with
          requests := s.grp.requests ++ [({ cause := cause, source := selfIndex s }, s.now)] } } := by
  simp only [requestRollback, hstarted, hlead, Bool.not_true, Bool.false_eq_true, if_false, if_true]

@[simp] theorem memberS_requestRollback (cause : Nat) (s : State) (k : Nat) :
    memberS (requestRollback cause s) k = memberS s k := by
  unfold requestRollback
  split
  next => rfl
  next => split <;> rfl

/-! ## The loss of a member (R478) -/

@[simp] theorem loseMember_now (i : Nat) (s : State) : (loseMember i s).now = s.now :=
  (loseMember_grows i s).same .now rfl

theorem loseMember_of_active {i : Nat} {s : State} (h : (memberS s i).state = .active) :
    loseMember i s = requestRollback 1 (leaveRoles i (setMemberState i .lost s)) := by
  simp only [loseMember, h]

theorem loseMember_state {i : Nat} {s : State} (h : (memberS s i).state = .active) :
    (memberS (loseMember i s) i).state = .lost := by
  rw [loseMember_of_active h, memberS_requestRollback, memberS_leaveRoles, memberS_setMemberState_same]

theorem memberS_loseMember_ne {i k : Nat} {s : State} (h : (memberS s i).state = .active) (hk : k ≠ i) :
    memberS (loseMember i s) k = memberS s k := by
  rw [loseMember_of_active h, memberS_requestRollback, memberS_leaveRoles, memberS_setMemberState_ne _ _ hk]

/-- The loss of an active member leaves a rollback request of cause MODULE_LOST at the job lead. -/
theorem loseMember_requests {i : Nat} {s : State} (h : (memberS s i).state = .active) (hstarted : s.job.started = true)
    (hlead : isJobLead s = true) :
    ({ cause := 1, source := selfIndex s }, s.now) ∈ (loseMember i s).grp.requests := by
  have hjob : (leaveRoles i (setMemberState i .lost s)).job = s.job := by simp
  rw [loseMember_of_active h, requestRollback_of_jobLead 1 (by rw [hjob, hstarted]) (by rw [isJobLead_congr hjob, hlead]),
    selfIndex_congr hjob]
  simp

/-! ## A silent member of the lead's own group (R6, R478) -/

/-- The lead has noted the silence of member `i` of its group: a JOIN of its is dropped and a fault names it. -/
def noteSilent (i : Nat) (s : State) : State :=
  faultEvent { cls := 10, code := 3, detail := i } (setMember i { memberS s i with joining := false } s)

/-- BEACON_SILENCE of an ACTIVE member at the lead of its group, once the bound has passed since the last beacon (R6, R478). -/
theorem execBeaconSilence_ownGroup {n t0 i : Nat} {g : GroupId} {m : MemberId} {s : State} (hready : Ready s)
    (hlead : isLead s = true) (hstarted : s.job.started = true) (hgroup : g.val = s.job.group)
    (hi : 64 * s.job.group + m.val = i) (hmember : m.val < s.job.members) (hself : m.val ≠ s.job.member)
    (hactive : (memberS s i).state = .active) (hbeacon : (memberS s i).beaconAt = some t0)
    (hdue : t0 + silenceBound s ≤ n) :
    execBeaconSilence n g m s = .next (loseMember i (noteSilent i (atTime n s))) := by
  have hlead' : isLead (atTime n s) = true := hlead
  have hactive' : (memberS (atTime n s) i).state = .active := hactive
  have hbeacon' : (memberS (atTime n s) i).beaconAt = some t0 := hbeacon
  have hdue' : t0 + silenceBound (atTime n s) ≤ (atTime n s).now := Nat.le_trans hdue (Nat.le_max_right _ _)
  have hother : i ≠ selfIndex (atTime n s) := by simp only [selfIndex, atTime_job]; omega
  simp only [execBeaconSilence, whenReady, hready, hgroup, hi, hlead', hactive', hbeacon', hother, hdue', noteSilent,
    atTime_job, hstarted, Nat.not_le.mpr hmember, decide_true, decide_false, Bool.not_true, Bool.or_self,
    Bool.false_eq_true, ne_eq, not_true_eq_false, true_or, if_true, if_false]

@[simp] theorem noteSilent_job (i : Nat) (s : State) : (noteSilent i s).job = s.job := by
  rw [noteSilent, faultEvent_job, setMember_job]

/-- Neither the dropped JOIN nor the fault changes the member's state. -/
@[simp] theorem memberS_noteSilent_same (i : Nat) (s : State) :
    (memberS (noteSilent i s) i).state = (memberS s i).state := by
  rw [noteSilent, memberS_faultEvent, memberS_setMember_same]

theorem memberS_noteSilent_ne {i k : Nat} (s : State) (hk : k ≠ i) : memberS (noteSilent i s) k = memberS s k := by
  rw [noteSilent, memberS_faultEvent, memberS_setMember_ne _ _ hk]

/-- Outside time, messages, the sideband, faults, the group, stacked memory (its SYSTEM region holds the event rings) and the
host's rings, BEACON_SILENCE changes nothing. -/
theorem execBeaconSilence_only {n : Nat} {g : GroupId} {m : MemberId} {s t : State} (h : execBeaconSilence n g m s = .next t) :
    Only [.now, .sent, .side, .fault, .grp, .mem, .host] s t := by
  obtain ⟨t', ht', hgrows⟩ := execBeaconSilence_next n g m s
  cases h.symm.trans ht'
  exact hgrows.only fun p => by cases p <;> decide

theorem exec_beaconSilence (n : Nat) (g : GroupId) (m : MemberId) (s : State) :
    exec (.beaconSilence n g m) s = execBeaconSilence n g m s := rfl

/-- At the job lead a silent ACTIVE member of its own group is LOST and the rollback is requested; the other members stay. -/
theorem beaconSilence_atJobLead {n t0 : Nat} {g : GroupId} {m : MemberId} {s : State} (hready : Ready s)
    (hlead : isJobLead s = true) (hstarted : s.job.started = true) (hgroup : g.val = 0)
    (hmember : m.val < s.job.members) (hself : m.val ≠ s.job.member) (hactive : (memberS s m.val).state = .active)
    (hbeacon : (memberS s m.val).beaconAt = some t0) (hdue : t0 + silenceBound s ≤ n) :
    ∃ t, exec (.beaconSilence n g m) s = .next t ∧ (memberS t m.val).state = .lost ∧
      ({ cause := 1, source := selfIndex s }, t.now) ∈ t.grp.requests ∧
      (∀ k, k ≠ m.val → memberS t k = memberS s k) ∧ Only [.now, .sent, .side, .fault, .grp, .mem, .host] s t := by
  obtain ⟨hrole, hgroup0⟩ : isLead s = true ∧ s.job.group = 0 := by simpa [isJobLead] using hlead
  have hexec := execBeaconSilence_ownGroup hready hrole hstarted (hgroup.trans hgroup0.symm) (by omega) hmember hself
    hactive hbeacon hdue
  have hjob : (noteSilent m.val (atTime n s)).job = s.job := by rw [noteSilent_job, atTime_job]
  have hstill : (memberS (noteSilent m.val (atTime n s)) m.val).state = .active := by
    rw [memberS_noteSilent_same]; exact hactive
  refine ⟨_, (exec_beaconSilence n g m s).trans hexec, loseMember_state hstill, ?_, fun k hk => ?_,
    execBeaconSilence_only hexec⟩
  · rw [loseMember_now, ← selfIndex_congr hjob]
    exact loseMember_requests hstill (hjob ▸ hstarted) ((isJobLead_congr hjob).trans hlead)
  · rw [memberS_loseMember_ne hstill hk, memberS_noteSilent_ne _ hk]; rfl

/-! ## The regulators drop out (R462) -/

theorem exec_regulatorDropout (s : State) : exec .regulatorDropout s = .next (whenPowered powerOff s) := rfl

/-- A module that is on goes off at once, with no step before it (R443, R462). -/
theorem regulatorDropout_of_on {s : State} (h : s.boot.state ≠ .off) : exec .regulatorDropout s = .next (powerOff s) := by
  rw [exec_regulatorDropout, whenPowered, if_neg h]

theorem regulatorDropout_of_off {s : State} (h : s.boot.state = .off) : exec .regulatorDropout s = .next s := by
  rw [exec_regulatorDropout, whenPowered, if_pos h]

/-- Settles O59: the drop-out is `powerOff`, which keeps only the flash and what is outside the module; at the job lead the
silent member is lost by `loseMember`, and the frame is that of BEACON_SILENCE. -/
theorem dropoutIsALostModule : Obligations.DropoutIsALostModule := by
  unfold Obligations.DropoutIsALostModule
  refine ⟨fun s hon => ?_, fun s hoff => regulatorDropout_of_off hoff, ?_⟩
  · exact ⟨powerOff s, regulatorDropout_of_on hon, rfl, rfl, rfl, rfl, rfl, rfl, rfl, rfl, rfl⟩
  · intro n g m s t0 hready hlead hstarted hgroup hmember hself hactive hbeacon hdue
    exact beaconSilence_atJobLead hready hlead hstarted hgroup hmember hself hactive hbeacon hdue

end Sys2Proof.Machine

/-! SUPPORT. ARMED over a start and over a shutter, and the commands that fire one or rearm (R509). -/

namespace Sys2Proof.Machine

/-! ## Frames put together -/

theorem Only.trans {ps qs : List Part} {s t u : State} (h : Only ps s t) (k : Only qs t u) : Only (ps ++ qs) s u :=
  fun p hp => Part.same_trans (h p fun hmem => hp (List.mem_append_left _ hmem))
    (k p fun hmem => hp (List.mem_append_right _ hmem))

theorem only_snap_update (v : SnapS) (s : State) : Only [.snap] s { s with snap := v } := by
  intro p hp
  cases p with
  | snap => exact absurd List.mem_cons_self hp
  | _ => rfl

theorem atTime_only (n : Nat) (s : State) : Only [.now] s (atTime n s) :=
  (atTime_grows n s).only fun p => by cases p <;> decide

theorem pulseAt_only (n : Nat) (s : State) : Only [.pins] s (pulseAt n s) :=
  (pulseAt_grows n s).only fun p => by cases p <;> decide

theorem count_only (k n : Nat) (s : State) : Only [.counters] s (count k n s) :=
  (count_grows k n s).only fun p => by cases p <;> decide

theorem rearmOp_only (s : State) : Only [.snap] s (rearmOp s) :=
  (rearmOp_grows s).only fun p => by cases p <;> decide

/-! ## ARMED over a reset and a start

Of the operations of a start only a reset touches the snapshot state, and a reset arms the shutter. -/

/-- An operation whose mask lies outside the snapshot state leaves an armed shutter armed. -/
theorem Grows.keeps_armed {m : Nat} {s t : State} (h : Grows m s t) (hm : m.testBit Part.snap.bit = false)
    (harmed : s.snap.armed = true) : t.snap.armed = true := by
  have hsnap : t.snap = s.snap := h.same .snap hm
  rw [hsnap, harmed]

theorem resetModule_armed (b : Bool) (s : State) : (resetModule b s).snap.armed = true := rfl

theorem powerOff_armed (s : State) : (powerOff s).snap.armed = true := rfl

theorem failStep_armed (n code : Nat) (s : State) : (failStep n code s).snap.armed = true := resetModule_armed ..

theorem beginStart_armed {s : State} (slotB : Bool) (h : s.snap.armed = true) : (beginStart slotB s).snap.armed = true :=
  (beginStart_grows slotB s).keeps_armed rfl h

theorem passStep_armed {s : State} (n data : Nat) (h : s.snap.armed = true) : (passStep n data s).snap.armed = true :=
  (passStep_grows n data s).keeps_armed rfl h

theorem hangStep_armed {s : State} (n : Nat) (h : s.snap.armed = true) : (hangStep n s).snap.armed = true :=
  (hangStep_grows n s).keeps_armed rfl h

theorem enterRecovery_armed {s : State} (h : s.snap.armed = true) : (enterRecovery s).snap.armed = true :=
  (enterRecovery_grows s).keeps_armed rfl h

theorem journalEntry_armed {s : State} (step result code : Nat) (slotB : Bool) (data : Nat) (h : s.snap.armed = true) :
    (journalEntry step result code slotB data s).snap.armed = true :=
  (journalEntry_grows step result code slotB data s).keeps_armed rfl h

/-- The steps of a start keep ARMED where each step's own effect does. -/
theorem runSteps_armed {facts : StartFacts} {l : List (Nat × (State → State))} {s : State}
    (hsteps : ∀ p ∈ l, ∀ u : State, u.snap.armed = true → (p.2 u).snap.armed = true) (h : s.snap.armed = true) :
    (runSteps facts l s).snap.armed = true := by
  induction l generalizing s with
  | nil => exact h
  | cons p rest ih =>
    unfold runSteps
    split
    next => exact hangStep_armed _ h
    next =>
      split
      next => exact failStep_armed ..
      next => exact ih (fun q hq => hsteps q (List.mem_cons_of_mem _ hq))
                (passStep_armed _ _ (hsteps p List.mem_cons_self s h))

theorem startSteps_keep_armed (facts : StartFacts) (kind : TestKind) :
    ∀ p ∈ startSteps facts kind, ∀ u : State, u.snap.armed = true → (p.2 u).snap.armed = true :=
  fun p hp u => (startSteps_grows facts kind p hp u).keeps_armed rfl

/-- The measurements of the images, each extended in turn, keep ARMED. -/
theorem each_extendMeas_armed {s : State} (is : List Nat) (m : Nat → List Byte) (h : s.snap.armed = true) :
    (each is (fun i st => extendMeas i (m i) st) s).snap.armed = true :=
  (Grows.each (.refl 32 s) fun i u => extendMeas_grows i (m i) u).keeps_armed rfl h

theorem startVerified_armed {s : State} (facts : StartFacts) (slotB : Bool) (kind : TestKind) (h : s.snap.armed = true) :
    (startVerified facts slotB kind s).snap.armed = true :=
  (afterReady_grows _).keeps_armed rfl
    (runSteps_armed (startSteps_keep_armed facts kind) (passStep_armed _ _ (each_extendMeas_armed _ _ h)))

/-- ROM_START passes, with a contact fault written down or without one, and keeps ARMED. -/
theorem romStart_armed {s : State} (contact : Bool) (h : s.snap.armed = true) :
    (if contact then journalEntry 1 2 0x0041 s.boot.slotB 0 (journalEntry 1 0 0 s.boot.slotB 0 s)
      else passStep 1 0 s).snap.armed = true := by
  split
  · exact journalEntry_armed _ _ _ _ _ (journalEntry_armed _ _ _ _ _ h)
  · exact passStep_armed _ _ h

/-- However the attempts of a start end (READY, recovery, a step that fails or one that does not end), ARMED stays 1. -/
theorem attempt_armed (facts : StartFacts) (n : Nat) {s : State} (h : s.snap.armed = true) :
    (attempt facts n s).snap.armed = true := by
  fun_induction attempt facts n s
  -- no attempt is left
  case case1 => exact enterRecovery_armed h
  -- ROM_START does not end, or fails on the contact
  case case2 => exact hangStep_armed _ (beginStart_armed _ h)
  case case3 => exact failStep_armed ..
  -- SLOT_SELECT does not end, one of the first two steps fails, or no slot is usable
  case case4 => exact hangStep_armed _ (romStart_armed _ (beginStart_armed _ h))
  case case5 => exact failStep_armed ..
  case case6 => exact failStep_armed ..
  case case7 => exact enterRecovery_armed (passStep_armed _ _ (romStart_armed _ (beginStart_armed _ h)))
  -- VERIFY fails and the ROM chooses again
  case case8 ih =>
    exact ih (journalEntry_armed _ _ _ _ _ (journalEntry_armed _ _ _ _ _
      (passStep_armed _ _ (romStart_armed _ (beginStart_armed _ h)))))
  -- no self-test can run, VERIFY does not end, or the start goes on
  case case9 => exact enterRecovery_armed (passStep_armed _ _ (romStart_armed _ (beginStart_armed _ h)))
  case case10 => exact hangStep_armed _ (passStep_armed _ _ (romStart_armed _ (beginStart_armed _ h)))
  case case11 => exact startVerified_armed _ _ _ (passStep_armed _ _ (romStart_armed _ (beginStart_armed _ h)))

theorem startPreamble_armed {s : State} (h : s.snap.armed = true) : (startPreamble s).snap.armed = true :=
  (startPreamble_grows s).keeps_armed rfl h

theorem exec_moduleStart (n : Nat) (facts : StartFacts) (s : State) :
    exec (.moduleStart n facts) s = execModuleStart n facts s := rfl

/-- MODULE_START on an armed module, whether or not the start can begin and however it ends. -/
theorem moduleStart_armed (n : Nat) (facts : StartFacts) {s : State} (h : s.snap.armed = true) :
    ∃ t, exec (.moduleStart n facts) s = .next t ∧ t.snap.armed = true := by
  refine ⟨_, exec_moduleStart n facts s, ?_⟩
  have harmed : (atTime n s).snap.armed = true := by rw [atTime_snap, h]
  split
  next => exact harmed
  next =>
    split
    next => exact harmed
    next => exact attempt_armed _ _ (startPreamble_armed harmed)

/-! ## What a shutter of an enabled source does -/

/-- While ARMED is 0 a shutter of an enabled source is counted, whichever its source, and does nothing else. -/
theorem fireShutter_of_disarmed {code : Nat} {s : State} (id : Option Nat)
    (henabled : bitAt s.snap.sources (code - 1) = true) (hdisarmed : s.snap.armed = false) :
    fireShutter code id s = count cShutterMissed 1 s := by
  simp only [fireShutter, henabled, hdisarmed, Bool.not_true, Bool.not_false, Bool.false_eq_true, if_false, if_true]

/-- While ARMED is 1 a shutter of an enabled source latches the banks and clears ARMED, whichever its source. -/
theorem fireShutter_of_armed {code : Nat} {s : State} (id : Option Nat)
    (henabled : bitAt s.snap.sources (code - 1) = true) (harmed : s.snap.armed = true) :
    (fireShutter code id s).snap.armed = false ∧
      (fireShutter code id s).snap.image = some (latchImage (id.getD (nextShutterId s)) s) ∧
      Only [.snap] s (fireShutter code id s) := by
  simp only [fireShutter, henabled, harmed, Bool.not_true, Bool.false_eq_true, if_false]
  exact ⟨trivial, trivial, only_snap_update _ s⟩

/-! ## SHUTTER_IN (R507, R525) -/

/-- The input's edge as the filter passes it, before the shutter fires. -/
theorem shutterInPulse_only (n : Nat) (s : State) : Only [.now, .pins] s (pulseAt 5 (atTime n s)) :=
  (atTime_only n s).trans (pulseAt_only 5 _)

theorem exec_shutterInEdge_of_ready (n : Nat) {s : State} (hready : Ready s) :
    exec (.shutterInEdge n) s = .next (fireShutter 2 none (pulseAt 5 (atTime n s))) := by
  have hexec : exec (.shutterInEdge n) s = execShutterInEdge n s := rfl
  rw [hexec, execShutterInEdge, whenReady, if_pos hready]

theorem shutterInEdge_of_armed (n : Nat) {s : State} (hready : Ready s) (henabled : bitAt s.snap.sources 1 = true)
    (harmed : s.snap.armed = true) :
    ∃ t, exec (.shutterInEdge n) s = .next t ∧ t.snap.armed = false ∧ t.snap.image.isSome = true ∧
      Only [.now, .pins, .snap] s t := by
  obtain ⟨hcleared, himage, honly⟩ :=
    fireShutter_of_armed (code := 2) (s := pulseAt 5 (atTime n s)) none henabled harmed
  exact ⟨_, exec_shutterInEdge_of_ready n hready, hcleared, by rw [himage]; rfl, (shutterInPulse_only n s).trans honly⟩

theorem shutterInEdge_of_disarmed (n : Nat) {s : State} (hready : Ready s) (henabled : bitAt s.snap.sources 1 = true)
    (hdisarmed : s.snap.armed = false) :
    ∃ t, exec (.shutterInEdge n) s = .next t ∧ t.snap = s.snap ∧
      counter t cShutterMissed = counter s cShutterMissed + 1 ∧ Only [.now, .pins, .counters] s t := by
  have hcounted := fireShutter_of_disarmed (code := 2) (s := pulseAt 5 (atTime n s)) none henabled hdisarmed
  have hexec := exec_shutterInEdge_of_ready n hready
  rw [hcounted] at hexec
  exact ⟨_, hexec, by rw [count_snap, pulseAt_snap, atTime_snap], counter_count_same ..,
    (shutterInPulse_only n s).trans (count_only _ _ _)⟩

/-! ## A shutter request at the lead (R510, R511) -/

/-- The lead holds the tick's first request. -/
def holdFirstRequest (n m : Nat) (s : State) : State :=
  { atTime n s with snap := { s.snap with requests := [(m, s.tick.tickCount)] } }

/-- The packet that tells the group of a shutter fired for module `m`, under the last SHUTTER_ID (R511). -/
def sendShutterPacket (source m : Nat) (s : State) : State :=
  emit (.shutterPacket (pack [(16, s.snap.lastId), (4, source), (10, m)]) (sendDelays s)) s

/-- The first request of a tick fires the lead's own shutter; the packet goes to the group whatever that shutter did. -/
theorem exec_shutterRequest_first (n : Nat) (m : Fin 1024) (src : Fin 16) {s : State} (hready : Ready s)
    (hlead : isLead s = true) (hnone : s.snap.requests = []) :
    exec (.shutterRequest n m src) s =
      .next (sendShutterPacket src.val m.val (fireShutter 5 none (holdFirstRequest n m.val s))) := by
  have hexec : exec (.shutterRequest n m src) s = execShutterRequest n m src s := rfl
  have hlead' : isLead (atTime n s) = true := hlead
  rw [hexec, execShutterRequest, whenReady, if_pos hready]
  simp [hlead', hnone, holdFirstRequest, sendShutterPacket]

theorem shutterRequest_of_disarmed (n : Nat) (m : Fin 1024) (src : Fin 16) {s : State} (hready : Ready s)
    (hlead : isLead s = true) (henabled : bitAt s.snap.sources 4 = true) (hdisarmed : s.snap.armed = false)
    (hnone : s.snap.requests = []) :
    ∃ t, exec (.shutterRequest n m src) s = .next t ∧ t.snap.image = s.snap.image ∧ t.snap.armed = false ∧
      t.sent = s.sent ++ [.shutterPacket (pack [(16, s.snap.lastId), (4, src.val), (10, m.val)]) (sendDelays s)] ∧
      counter t cShutterMissed = counter s cShutterMissed + 1 ∧ Only [.now, .sent, .snap, .counters] s t := by
  have hcounted := fireShutter_of_disarmed (code := 5) (s := holdFirstRequest n m.val s) none henabled hdisarmed
  have hexec := exec_shutterRequest_first n m src hready hlead hnone
  rw [hcounted] at hexec
  refine ⟨_, hexec, rfl, hdisarmed, rfl,
    counter_count_same cShutterMissed 1 (holdFirstRequest n m.val s), ?_⟩
  obtain ⟨t, ht, hgrows⟩ := execShutterRequest_next n m src s
  cases ht.symm.trans hexec
  exact hgrows.only fun p => by cases p <;> decide

/-! ## REARM -/

theorem rearm_of_not_latching {s : State} (hready : Ready s) (hidle : s.snap.latching = false) :
    ∃ t, exec .rearm s = .next t ∧ t.snap = { s.snap with armed := true } ∧ Only [.snap] s t := by
  have hexec : exec .rearm s = .next (whenReady rearmOp s) := rfl
  rw [whenReady, if_pos hready] at hexec
  refine ⟨_, hexec, ?_, rearmOp_only s⟩
  simp only [rearmOp, hidle, Bool.false_eq_true, if_false]

/-- Settles O60: a start touches the snapshot state only by a reset, which arms the shutter; a shutter of an enabled source
latches or is counted as ARMED says, whichever command fires it. -/
theorem shutterIsArmedOnce : Obligations.ShutterIsArmedOnce := by
  unfold Obligations.ShutterIsArmedOnce
  refine ⟨fun b s => ⟨resetModule_armed b s, powerOff_armed s⟩, fun n facts _ => moduleStart_armed n facts,
    fun n _ => shutterInEdge_of_armed n, fun n _ => shutterInEdge_of_disarmed n, fun code id s henabled hdisarmed => ?_,
    fun n m src _ => shutterRequest_of_disarmed n m src, fun _ => rearm_of_not_latching⟩
  rw [fireShutter_of_disarmed id henabled hdisarmed]
  exact ⟨count_snap .., counter_count_same .., count_only _ _ _⟩

end Sys2Proof.Machine

/-! SUPPORT. What holds of every command: it answers a next state, and from no command does time, a message, the queue or a
fuse go back. The case split over the commands is made here once. -/

namespace Sys2Proof.Machine

/-! ## Every command -/

/-- An outcome that is a next state, reached from `s` by an operation that changes at most the parts in the mask `m`. -/
def Answers (m : Nat) (s : State) (o : Host.Outcome State Fault Refusal) : Prop := ∃ t, o = .next t ∧ Grows m s t

/-- A larger mask. -/
theorem Answers.widen {m n : Nat} {s : State} {o : Host.Outcome State Fault Refusal} (h : Answers m s o) (hm : m ||| n = n) :
    Answers n s o := by
  obtain ⟨t, ht, hgrows⟩ := h
  exact ⟨t, ht, hgrows.mono hm⟩

/-- Every part but the waiting commands. -/
def allButPending : Nat := 2 ^ 28 - 1 - 2 ^ Part.pending.bit

/-- Every command answers a next state, which keeps the waiting commands: its meaning does. -/
theorem exec_answers (c : Instr) (s : State) : Answers allButPending s (exec c s) := by
  cases c with
  | issueTick _ => exact Answers.widen (execIssueTick_next ..) rfl
  | tickReceived _ _ _ => exact Answers.widen (execTickReceived_next ..) rfl
  | graceExpired _ _ => exact Answers.widen (execGraceExpired_next ..) rfl
  | overrunReport _ _ _ _ => exact Answers.widen (execOverrunReport_next ..) rfl
  | groupSlipForward _ _ => exact Answers.widen (execGroupSlipForward_next ..) rfl
  | tickMissed _ => exact Answers.widen (execTickMissed_next ..) rfl
  | tickLoss _ => exact Answers.widen (execTickLoss_next ..) rfl
  | nameStandby => exact Answers.widen (execNameStandby_next ..) rfl
  | tickInEdge _ => exact Answers.widen (execTickInEdge_next ..) rfl
  | flywheelTick _ => exact Answers.widen (execFlywheelTick_next ..) rfl
  | flitReceived _ _ _ _ => exact Answers.widen (execFlitReceived_next ..) rfl
  | flitResend _ => exact Answers.widen (execFlitResend_next ..) rfl
  | packetForward _ _ _ _ => exact Answers.widen (execPacketForward_next ..) rfl
  | linkRetrain _ => exact Answers.widen (execLinkRetrain_next ..) rfl
  | linkRetrainDone _ _ _ => exact Answers.widen (execLinkRetrainDone_next ..) rfl
  | fieldDark _ _ => exact Answers.widen (execFieldDark_next ..) rfl
  | routeTablesInstalled => exact Answers.widen (execRouteTablesInstalled_next ..) rfl
  | fieldShade _ _ => exact Answers.widen (execFieldShade_next ..) rfl
  | queueItemWrite _ _ => exact Answers.widen (execQueueItemWrite_next ..) rfl
  | queueItemRead _ => exact Answers.widen (execQueueItemRead_next ..) rfl
  | unitMapChange _ _ => exact Answers.widen (execUnitMapChange_next ..) rfl
  | taskSpread _ _ _ => exact Answers.widen (execTaskSpread_next ..) rfl
  | taskDispatch _ => exact Answers.widen (execTaskDispatch_next ..) rfl
  | scoreboardArrival _ _ _ => exact Answers.widen (execScoreboardArrival_next ..) rfl
  | lPortWrite _ _ _ => exact Answers.widen (execLPortWrite_next ..) rfl
  | nop _ _ => exact Answers.widen (execNop_next ..) rfl
  | endTask _ => exact Answers.widen (execEndTask_next ..) rfl
  | branch _ _ => exact Answers.widen (execBranch_next ..) rfl
  | loop _ _ _ => exact Answers.widen (execLoop_next ..) rfl
  | arm _ _ _ => exact Answers.widen (execArm_next ..) rfl
  | signal _ _ _ _ => exact Answers.widen (execSignal_next ..) rfl
  | seed _ _ _ => exact Answers.widen (execSeed_next ..) rfl
  | spawn _ _ _ _ => exact Answers.widen (execSpawn_next ..) rfl
  | copy _ _ _ _ _ => exact Answers.widen (execCopy_next ..) rfl
  | gather _ _ _ _ _ => exact Answers.widen (execGather_next ..) rfl
  | scatter _ _ _ _ => exact Answers.widen (execScatter_next ..) rfl
  | fill _ _ _ _ => exact Answers.widen (execFill_next ..) rfl
  | latch _ _ _ => exact Answers.widen (execLatch_next ..) rfl
  | mma _ _ _ => exact Answers.widen (execMma_next ..) rfl
  | drain _ _ _ _ => exact Answers.widen (execDrain_next ..) rfl
  | clear _ _ => exact Answers.widen (execClear_next ..) rfl
  | vop _ _ _ _ _ _ _ => exact Answers.widen (execVop_next ..) rfl
  | vfn _ _ _ _ _ => exact Answers.widen (execVfn_next ..) rfl
  | vcvt _ _ _ _ _ _ _ _ _ => exact Answers.widen (execVcvt_next ..) rfl
  | vred _ _ _ _ _ _ _ => exact Answers.widen (execVred_next ..) rfl
  | send _ _ _ _ _ _ _ _ => exact Answers.widen (execSend_next ..) rfl
  | read _ _ _ _ _ _ _ _ => exact Answers.widen (execRead_next ..) rfl
  | racc _ _ _ => exact Answers.widen (execRacc_next ..) rfl
  | glint _ _ _ _ => exact Answers.widen (execGlint_next ..) rfl
  | mmaRs _ _ _ _ _ => exact Answers.widen (execMmaRs_next ..) rfl
  | agMma _ _ _ => exact Answers.widen (execAgMma_next ..) rfl
  | mmaRacc _ _ _ => exact Answers.widen (execMmaRacc_next ..) rfl
  | mmaSpill _ _ => exact Answers.widen (execMmaSpill_next ..) rfl
  | frameArrival _ _ _ => exact Answers.widen (execFrameArrival_next ..) rfl
  | segmentIngest _ _ _ _ => exact Answers.widen (execSegmentIngest_next ..) rfl
  | consumerSignal _ => exact Answers.widen (execConsumerSignal_next ..) rfl
  | frameMissing _ _ _ => exact Answers.widen (execFrameMissing_next ..) rfl
  | laneSilent _ _ => exact Answers.widen (execLaneSilent_next ..) rfl
  | memoryRequest _ _ => exact Answers.widen (execMemoryRequest_next ..) rfl
  | hbmRefresh _ _ => exact Answers.widen (execHbmRefresh_next ..) rfl
  | stackUnreachable _ => exact Answers.widen (execStackUnreachable_next ..) rfl
  | pieceArrival _ _ _ => exact Answers.widen (execPieceArrival_next ..) rfl
  | reRequest _ _ _ _ => exact Answers.widen (execReRequest_next ..) rfl
  | raiseMessage _ => exact Answers.widen (execRaiseMessage_next ..) rfl
  | blockUpdateDone _ _ => exact Answers.widen (execBlockUpdateDone_next ..) rfl
  | updateRegionSignal _ => exact Answers.widen (execUpdateRegionSignal_next ..) rfl
  | outboundWorkingCopy _ => exact Answers.widen (execOutboundWorkingCopy_next ..) rfl
  | updateDoneReport _ _ _ _ _ => exact Answers.widen (execUpdateDoneReport_next ..) rfl
  | commitNotice _ _ _ _ => exact Answers.widen (execCommitNotice_next ..) rfl
  | reconcileCopy _ _ => exact Answers.widen (execReconcileCopy_next ..) rfl
  | laneTraining _ _ _ _ => exact Answers.widen (execLaneTraining_next ..) rfl
  | codewordReceived _ _ _ => exact Answers.widen (execCodewordReceived_next ..) rfl
  | nakReceived _ _ => exact Answers.widen (execNakReceived_next ..) rfl
  | laneRetrain _ _ => exact Answers.widen (execLaneRetrain_next ..) rfl
  | laneRetrainDone _ _ _ _ => exact Answers.widen (execLaneRetrainDone_next ..) rfl
  | laneSignalLoss _ _ => exact Answers.widen (execLaneSignalLoss_next ..) rfl
  | laneLoopbackDone _ _ => exact Answers.widen (execLaneLoopbackDone_next ..) rfl
  | beamPacketArrival _ _ _ => exact Answers.widen (execBeamPacketArrival_next ..) rfl
  | retrainNotice _ _ _ => exact Answers.widen (execRetrainNotice_next ..) rfl
  | chunkSend _ _ => exact Answers.widen (execChunkSend_next ..) rfl
  | chunkPacketArrival _ _ _ _ _ _ => exact Answers.widen (execChunkPacketArrival_next ..) rfl
  | chunkAck _ _ _ _ => exact Answers.widen (execChunkAck_next ..) rfl
  | chunkRerequest _ _ _ _ => exact Answers.widen (execChunkRerequest_next ..) rfl
  | lateBoundExpired _ _ _ => exact Answers.widen (execLateBoundExpired_next ..) rfl
  | suspectReport _ _ _ _ _ => exact Answers.widen (execSuspectReport_next ..) rfl
  | exclusionNotice _ _ _ => exact Answers.widen (execExclusionNotice_next ..) rfl
  | glintPacket _ _ _ _ => exact Answers.widen (execGlintPacket_next ..) rfl
  | coreFailedRebind _ => exact Answers.widen (execCoreFailedRebind_next ..) rfl
  | replacementReady _ _ _ => exact Answers.widen (execReplacementReady_next ..) rfl
  | returnToPrimary => exact Answers.widen (execReturnToPrimary_next ..) rfl
  | doorbell _ _ => exact Answers.widen (execDoorbell_next ..) rfl
  | rdmaWrite _ _ => exact Answers.widen (execRdmaWrite_next ..) rfl
  | rdmaRead _ _ => exact Answers.widen (execRdmaRead_next ..) rfl
  | commandDatagram _ _ _ _ _ _ => exact Answers.widen (execCommandDatagram_next ..) rfl
  | packetParse _ => exact Answers.widen (execPacketParse_next ..) rfl
  | portDown _ => exact Answers.widen (execPortDown_next ..) rfl
  | ptpEventMessage _ _ _ _ _ => exact Answers.widen (execPtpEventMessage_next ..) rfl
  | ptpInstanceChange => exact Answers.widen (execPtpInstanceChange_next ..) rfl
  | identify _ => exact Answers.widen (execIdentify_next ..) rfl
  | sizeTable _ => exact Answers.widen (execSizeTable_next ..) rfl
  | setNet _ _ => exact Answers.widen (execSetNet_next ..) rfl
  | ringCreate _ _ => exact Answers.widen (execRingCreate_next ..) rfl
  | ringDestroy _ _ => exact Answers.widen (execRingDestroy_next ..) rfl
  | mrRegister _ _ => exact Answers.widen (execMrRegister_next ..) rfl
  | mrRevoke _ _ => exact Answers.widen (execMrRevoke_next ..) rfl
  | qpCreate _ _ => exact Answers.widen (execQpCreate_next ..) rfl
  | qpDestroy _ _ => exact Answers.widen (execQpDestroy_next ..) rfl
  | jobConfigure _ _ => exact Answers.widen (execJobConfigure_next ..) rfl
  | jobStart _ _ => exact Answers.widen (execJobStart_next ..) rfl
  | jobPause _ => exact Answers.widen (execJobPause_next ..) rfl
  | jobResume _ => exact Answers.widen (execJobResume_next ..) rfl
  | jobEnd _ => exact Answers.widen (execJobEnd_next ..) rfl
  | nameLead _ _ _ _ => exact Answers.widen (execNameLead_next ..) rfl
  | contextOpen _ _ => exact Answers.widen (execContextOpen_next ..) rfl
  | contextClose _ => exact Answers.widen (execContextClose_next ..) rfl
  | setRule _ _ _ _ => exact Answers.widen (execSetRule_next ..) rfl
  | batchReady _ _ _ => exact Answers.widen (execBatchReady_next ..) rfl
  | request _ _ => exact Answers.widen (execRequest_next ..) rfl
  | cancel _ _ => exact Answers.widen (execCancel_next ..) rfl
  | epochSwitch _ _ => exact Answers.widen (execEpochSwitch_next ..) rfl
  | epochWithdraw _ => exact Answers.widen (execEpochWithdraw_next ..) rfl
  | streamLimits _ _ _ => exact Answers.widen (execStreamLimits_next ..) rfl
  | streamStatus _ => exact Answers.widen (execStreamStatus_next ..) rfl
  | layoutLoad _ _ _ => exact Answers.widen (execLayoutLoad_next ..) rfl
  | layoutQuery _ => exact Answers.widen (execLayoutQuery_next ..) rfl
  | ownerLoaded _ => exact Answers.widen (execOwnerLoaded_next ..) rfl
  | ownerExpose _ => exact Answers.widen (execOwnerExpose_next ..) rfl
  | selfTest _ _ => exact Answers.widen (execSelfTest_next ..) rfl
  | capSet _ _ _ => exact Answers.widen (execCapSet_next ..) rfl
  | rampSet _ _ => exact Answers.widen (execRampSet_next ..) rfl
  | heartbeat _ _ => exact Answers.widen (execHeartbeat_next ..) rfl
  | safeCapSet _ _ => exact Answers.widen (execSafeCapSet_next ..) rfl
  | glowFloorSet _ _ => exact Answers.widen (execGlowFloorSet_next ..) rfl
  | powerStatus _ => exact Answers.widen (execPowerStatus_next ..) rfl
  | faultRead _ _ _ => exact Answers.widen (execFaultRead_next ..) rfl
  | faultClear _ _ => exact Answers.widen (execFaultClear_next ..) rfl
  | rollback _ => exact Answers.widen (execRollback_next ..) rfl
  | exclude _ _ => exact Answers.widen (execExclude_next ..) rfl
  | shadowSet _ _ => exact Answers.widen (execShadowSet_next ..) rfl
  | fieldReturn _ _ => exact Answers.widen (execFieldReturn_next ..) rfl
  | shutterFire _ _ => exact Answers.widen (execShutterFire_next ..) rfl
  | snapshotRead _ _ _ _ _ => exact Answers.widen (execSnapshotRead_next ..) rfl
  | countersRead _ _ _ => exact Answers.widen (execCountersRead_next ..) rfl
  | journalRead _ _ _ => exact Answers.widen (execJournalRead_next ..) rfl
  | bootJournalRead _ _ _ => exact Answers.widen (execBootJournalRead_next ..) rfl
  | attest _ _ => exact Answers.widen (execAttest_next ..) rfl
  | flashWrite _ _ _ _ => exact Answers.widen (execFlashWrite_next ..) rfl
  | flashStageDrain _ => exact Answers.widen (execFlashStageDrain_next ..) rfl
  | bundleVerify _ _ => exact Answers.widen (execBundleVerify_next ..) rfl
  | bundleActivate _ _ => exact Answers.widen (execBundleActivate_next ..) rfl
  | resetCmd _ => exact Answers.widen (execResetCmd_next ..) rfl
  | regRead _ _ _ => exact Answers.widen (execRegRead_next ..) rfl
  | regWrite _ _ => exact Answers.widen (execRegWrite_next ..) rfl
  | regRmw _ _ _ _ => exact Answers.widen (execRegRmw_next ..) rfl
  | registerWrite _ _ => exact Answers.widen (execRegisterWrite_next ..) rfl
  | capSoftWrite _ => exact Answers.widen (execCapSoftWrite_next ..) rfl
  | capHardWrite _ => exact Answers.widen (execCapHardWrite_next ..) rfl
  | rearm => exact Answers.widen (execRearm_next ..) rfl
  | recordValidClear _ => exact Answers.widen (execRecordValidClear_next ..) rfl
  | heldClear _ => exact Answers.widen (execHeldClear_next ..) rfl
  | counterLowWordRead _ _ => exact Answers.widen (execCounterLowWordRead_next ..) rfl
  | sidebandCommandWrite _ _ => exact Answers.widen (execSidebandCommandWrite_next ..) rfl
  | sidebandReplyRead => exact Answers.widen (execSidebandReplyRead_next ..) rfl
  | sidebandRegRead _ => exact Answers.widen (execSidebandRegRead_next ..) rfl
  | sidebandRegWrite _ _ => exact Answers.widen (execSidebandRegWrite_next ..) rfl
  | entdaa _ => exact Answers.widen (execEntdaa_next ..) rfl
  | i2cFallback => exact Answers.widen (execI2cFallback_next ..) rfl
  | moduleStart _ _ => exact Answers.widen (execModuleStart_next ..) rfl
  | startStepTimeout _ => exact Answers.widen (execStartStepTimeout_next ..) rfl
  | fieldControlWatchdog _ => exact Answers.widen (execFieldControlWatchdog_next ..) rfl
  | fieldControlReloadDone _ _ => exact Answers.widen (execFieldControlReloadDone_next ..) rfl
  | schedulerWatchdog _ => exact Answers.widen (execSchedulerWatchdog_next ..) rfl
  | powerMgmtWatchdog _ => exact Answers.widen (execPowerMgmtWatchdog_next ..) rfl
  | securityWatchdog _ => exact Answers.widen (execSecurityWatchdog_next ..) rfl
  | powerControlRecompute _ _ _ _ => exact Answers.widen (execPowerControlRecompute_next ..) rfl
  | rampWindow _ _ _ => exact Answers.widen (execRampWindow_next ..) rfl
  | beaconsCollected _ => exact Answers.widen (execBeaconsCollected_next ..) rfl
  | rampAllocation _ _ => exact Answers.widen (execRampAllocation_next ..) rfl
  | allocationMissing _ => exact Answers.widen (execAllocationMissing_next ..) rfl
  | hardCapShade _ => exact Answers.widen (execHardCapShade_next ..) rfl
  | heartbeatTimeout _ => exact Answers.widen (execHeartbeatTimeout_next ..) rfl
  | undervoltageDim => exact Answers.widen (execUndervoltageDim_next ..) rfl
  | dimRelease => exact Answers.widen (execDimRelease_next ..) rfl
  | undervoltageStop => exact Answers.widen (execUndervoltageStop_next ..) rfl
  | overvoltageStop => exact Answers.widen (execOvervoltageStop_next ..) rfl
  | supplyStopRecovery => exact Answers.widen (execSupplyStopRecovery_next ..) rfl
  | regulatorDropout => exact Answers.widen (execRegulatorDropout_next ..) rfl
  | sensorSample _ _ => exact Answers.widen (execSensorSample_next ..) rfl
  | throttleStep _ _ => exact Answers.widen (execThrottleStep_next ..) rfl
  | throttleShade _ _ => exact Answers.widen (execThrottleShade_next ..) rfl
  | heatReturn _ _ => exact Answers.widen (execHeatReturn_next ..) rfl
  | fieldProtectionTrip _ => exact Answers.widen (execFieldProtectionTrip_next ..) rfl
  | protectionProbe _ _ => exact Answers.widen (execProtectionProbe_next ..) rfl
  | shoulderTrip _ => exact Answers.widen (execShoulderTrip_next ..) rfl
  | controlTrip => exact Answers.widen (execControlTrip_next ..) rfl
  | refclkLost _ => exact Answers.widen (execRefclkLost_next ..) rfl
  | thrNAssert _ => exact Answers.widen (execThrNAssert_next ..) rfl
  | thrNRelease _ => exact Answers.widen (execThrNRelease_next ..) rfl
  | tempAlertAssert _ => exact Answers.widen (execTempAlertAssert_next ..) rfl
  | tempAlertRelease _ => exact Answers.widen (execTempAlertRelease_next ..) rfl
  | haltNAssert _ => exact Answers.widen (execHaltNAssert_next ..) rfl
  | haltNRelease _ => exact Answers.widen (execHaltNRelease_next ..) rfl
  | haltRequest _ _ => exact Answers.widen (execHaltRequest_next ..) rfl
  | rstNAssert _ => exact Answers.widen (execRstNAssert_next ..) rfl
  | rstNRelease _ _ => exact Answers.widen (execRstNRelease_next ..) rfl
  | pwrGoodRise _ => exact Answers.widen (execPwrGoodRise_next ..) rfl
  | pwrGoodFall _ => exact Answers.widen (execPwrGoodFall_next ..) rfl
  | leadSelChange _ => exact Answers.widen (execLeadSelChange_next ..) rfl
  | pinStuck _ _ => exact Answers.widen (execPinStuck_next ..) rfl
  | lanternBeacon _ _ => exact Answers.widen (execLanternBeacon_next ..) rfl
  | beaconSilence _ _ _ => exact Answers.widen (execBeaconSilence_next ..) rfl
  | memberDrain _ _ => exact Answers.widen (execMemberDrain_next ..) rfl
  | drainTimeout _ _ => exact Answers.widen (execDrainTimeout_next ..) rfl
  | memberJoin _ _ _ _ => exact Answers.widen (execMemberJoin_next ..) rfl
  | rollbackRequest _ _ => exact Answers.widen (execRollbackRequest_next ..) rfl
  | rollbackNotice _ _ => exact Answers.widen (execRollbackNotice_next ..) rfl
  | digestList _ _ => exact Answers.widen (execDigestList_next ..) rfl
  | blockDigests _ _ _ => exact Answers.widen (execBlockDigests_next ..) rfl
  | recomputeDone _ _ _ => exact Answers.widen (execRecomputeDone_next ..) rfl
  | shadowTotal _ => exact Answers.widen (execShadowTotal_next ..) rfl
  | shutterInEdge _ => exact Answers.widen (execShutterInEdge_next ..) rfl
  | faultShutter _ => exact Answers.widen (execFaultShutter_next ..) rfl
  | shutterRequest _ _ _ => exact Answers.widen (execShutterRequest_next ..) rfl
  | glintShutter _ _ => exact Answers.widen (execGlintShutter_next ..) rfl
  | bankLatchComplete _ => exact Answers.widen (execBankLatchComplete_next ..) rfl
  | tapBypass _ => exact Answers.widen (execTapBypass_next ..) rfl
  | tapIdcode => exact Answers.widen (execTapIdcode_next ..) rfl
  | tapSamplePreload _ => exact Answers.widen (execTapSamplePreload_next ..) rfl
  | tapExtest _ => exact Answers.widen (execTapExtest_next ..) rfl
  | tapSnapRead _ _ _ => exact Answers.widen (execTapSnapRead_next ..) rfl
  | selfTestDone _ _ => exact Answers.widen (execSelfTestDone_next ..) rfl
  | layoutLoadDone _ _ => exact Answers.widen (execLayoutLoadDone_next ..) rfl
  | bundleVerifyDone _ _ => exact Answers.widen (execBundleVerifyDone_next ..) rfl
  | fieldReturnComplete _ _ => exact Answers.widen (execFieldReturnComplete_next ..) rfl
  | totalAcknowledgement _ _ _ => exact Answers.widen (execTotalAcknowledgement_next ..) rfl
  | totalRerequest _ _ _ => exact Answers.widen (execTotalRerequest_next ..) rfl
  | portUp _ => exact Answers.widen (execPortUp_next ..) rfl
  | arpNdIcmpRequest _ _ _ => exact Answers.widen (execArpNdIcmpRequest_next ..) rfl
  | inputPowerPresent _ => exact Answers.widen (execInputPowerPresent_next ..) rfl
  | refclkPresent _ => exact Answers.widen (execRefclkPresent_next ..) rfl
  | pinTransitionRejected _ => exact Answers.widen (execPinTransitionRejected_next ..) rfl
  | fieldGovernorStep _ _ _ _ => exact Answers.widen (execFieldGovernorStep_next ..) rfl
  | engineInstructionComplete _ _ => exact Answers.widen (execEngineInstructionComplete_next ..) rfl
  | grayPointerSync _ _ => exact Answers.widen (execGrayPointerSync_next ..) rfl

theorem exec_grows {c : Instr} {s t : State} (h : exec c s = .next t) : Grows allButPending s t := by
  obtain ⟨u, hu, hgrows⟩ := exec_answers c s
  cases hu.symm.trans h
  exact hgrows

/-! ## One step -/

theorem step_cons {c : Instr} {rest : List Instr} {s : State} (h : s.pending = c :: rest) :
    step s = exec c { s with pending := rest } := by
  simp only [step, h]

theorem step_nil {s : State} (h : s.pending = []) : step s = .next s := by
  simp only [step, h]

/-- Settles O1. -/
theorem stepRunsTheFrontCommand : Obligations.StepRunsTheFrontCommand := by
  unfold Obligations.StepRunsTheFrontCommand
  exact ⟨fun _ _ _ h => step_cons h, fun _ h => step_nil h⟩

/-- Settles O2: the queue is no part of what makes a state legal, and every command keeps a legal state. -/
theorem everyStepKeepsALegalState : Obligations.EveryStepKeepsALegalState := by
  unfold Obligations.EveryStepKeepsALegalState
  intro s t hlegal hstep
  cases hqueue : s.pending with
  | nil =>
    cases (step_nil hqueue).symm.trans hstep
    exact hlegal
  | cons c rest =>
    have hrest : Legal { s with pending := rest } := hlegal
    exact (exec_grows ((step_cons hqueue).symm.trans hstep)).legal hrest

/-- Settles O3: each part's reset values lie in their ranges. -/
theorem resetIsLegal : Obligations.ResetIsLegal :=
  ⟨⟨reset_tick_inRange, reset_stream_inRange, reset_memory_inRange, reset_reduce_inRange, reset_beam_inRange,
    reset_power_inRange false false, reset_group_inRange, reset_snap_inRange, reset_flash_inRange⟩, reset_head_legal,
    reset_mem_canonical⟩

/-- Settles O4. -/
theorem everyCommandAnswers : Obligations.EveryCommandAnswers := by
  unfold Obligations.EveryCommandAnswers
  intro c s
  obtain ⟨t, ht, _⟩ := exec_answers c s
  exact ⟨t, ht⟩

/-- Settles O5: each is a part of what `Grows` says, and no command's mask holds the queue. -/
theorem noCommandTakesBack : Obligations.NoCommandTakesBack := by
  unfold Obligations.NoCommandTakesBack
  intro c s t h
  have hgrows := exec_grows h
  exact ⟨hgrows.now, hgrows.ctr, hgrows.sent, hgrows.same .pending rfl, hgrows.fuses⟩

end Sys2Proof.Machine

/-! SUPPORT. Frames: what an operation's mask says of the listed parts, and how frames are put together; what a guarded command
does where its guard is open. -/

namespace Sys2Proof.Machine

/-! ## Frames read off a mask -/

theorem testBit_foldl_bits (ps : List Part) (n k : Nat) :
    (ps.foldl (fun m p => m ||| 2 ^ p.bit) n).testBit k = (n.testBit k || ps.any fun p => decide (p.bit = k)) := by
  induction ps generalizing n with
  | nil => simp
  | cons p ps ih =>
    rw [List.foldl_cons, ih, List.any_cons, Nat.testBit_or, Nat.testBit_two_pow, Bool.or_assoc]

theorem Part.bit_injective {p q : Part} (h : p.bit = q.bit) : p = q := by
  cases p <;> cases q <;> first | rfl | exact absurd h (by decide)

theorem mem_of_testBit_maskOfParts {ps : List Part} {p : Part} (h : (maskOfParts ps).testBit p.bit = true) : p ∈ ps := by
  rw [maskOfParts, testBit_foldl_bits, Nat.zero_testBit, Bool.false_or, List.any_eq_true] at h
  obtain ⟨q, hq, hbit⟩ := h
  exact Part.bit_injective (of_decide_eq_true hbit) ▸ hq

/-- An operation whose mask is covered by the listed parts changes nothing else. -/
theorem Grows.onlyIn {m : Nat} {s t : State} (ps : List Part) (h : Grows m s t) (hm : m ||| maskOfParts ps = maskOfParts ps) :
    Only ps s t :=
  (h.mono hm).only fun p => by
    cases hbit : (maskOfParts ps).testBit p.bit with
    | true => exact .inl (mem_of_testBit_maskOfParts hbit)
    | false => exact .inr rfl

theorem Answers.onlyIn {m : Nat} {s t : State} {o : Host.Outcome State Fault Refusal} (ps : List Part) (h : Answers m s o)
    (ho : o = .next t) (hm : m ||| maskOfParts ps = maskOfParts ps) : Only ps s t := by
  obtain ⟨u, hu, hgrows⟩ := h
  cases hu.symm.trans ho
  exact hgrows.onlyIn ps hm

theorem Only.refl (ps : List Part) (s : State) : Only ps s s := fun p _ => by cases p <;> rfl

theorem Only.mono {ps qs : List Part} {s t : State} (h : Only ps s t) (hsub : ps ⊆ qs) : Only qs s t :=
  fun p hp => h p fun hmem => hp (hsub hmem)

/-! ## Frames of record updates -/

/-- `s` with the listed parts as they stand in `t`. -/
def patch (ps : List Part) (s t : State) : State where
  now := if Part.now ∈ ps then t.now else s.now
  freeCtr := if Part.freeCtr ∈ ps then t.freeCtr else s.freeCtr
  sent := if Part.sent ∈ ps then t.sent else s.sent
  pending := if Part.pending ∈ ps then t.pending else s.pending
  flash := if Part.flash ∈ ps then t.flash else s.flash
  boot := if Part.boot ∈ ps then t.boot else s.boot
  pins := if Part.pins ∈ ps then t.pins else s.pins
  side := if Part.side ∈ ps then t.side else s.side
  power := if Part.power ∈ ps then t.power else s.power
  fault := if Part.fault ∈ ps then t.fault else s.fault
  snap := if Part.snap ∈ ps then t.snap else s.snap
  tap := if Part.tap ∈ ps then t.tap else s.tap
  tick := if Part.tick ∈ ps then t.tick else s.tick
  lead := if Part.lead ∈ ps then t.lead else s.lead
  job := if Part.job ∈ ps then t.job else s.job
  grp := if Part.grp ∈ ps then t.grp else s.grp
  fabric := if Part.fabric ∈ ps then t.fabric else s.fabric
  cores := if Part.cores ∈ ps then t.cores else s.cores
  stream := if Part.stream ∈ ps then t.stream else s.stream
  mem := if Part.mem ∈ ps then t.mem else s.mem
  red := if Part.red ∈ ps then t.red else s.red
  beam := if Part.beam ∈ ps then t.beam else s.beam
  place := if Part.place ∈ ps then t.place else s.place
  host := if Part.host ∈ ps then t.host else s.host
  counters := if Part.counters ∈ ps then t.counters else s.counters
  cmdLatch := if Part.cmdLatch ∈ ps then t.cmdLatch else s.cmdLatch
  sideLatch := if Part.sideLatch ∈ ps then t.sideLatch else s.sideLatch
  fieldWrites := if Part.fieldWrites ∈ ps then t.fieldWrites else s.fieldWrites

/-- A state that differs from `s` as a record update of the listed parts does. -/
theorem only_of_patch {ps : List Part} {s t : State} (h : t = patch ps s t) : Only ps s t := by
  intro p hp
  cases p <;> exact (congrArg _ h).trans (if_neg hp)

/-! ## Guards -/

theorem whenReady_of_ready {s : State} (f : State → State) (h : Ready s) : whenReady f s = f s := if_pos h

theorem whenReady_of_not_ready {s : State} (f : State → State) (h : ¬ Ready s) : whenReady f s = s := if_neg h

theorem whenPowered_of_on {s : State} (f : State → State) (h : s.boot.state ≠ .off) : whenPowered f s = f s := if_neg h

theorem whenPowered_of_off {s : State} (f : State → State) (h : s.boot.state = .off) : whenPowered f s = s := if_pos h

theorem ifReady_of_ready {s : State} (f : State → State) (h : Ready s) : ifReady f s = f s := if_pos h

theorem ifReady_of_not_ready {s : State} (f : State → State) (h : ¬ Ready s) : ifReady f s = s := if_neg h

theorem whenAnswering_of_answering {s : State} (f : State → State) (h : s.side.answering = true) : whenAnswering f s = f s :=
  if_pos h

theorem whenAnswering_of_silent {s : State} (f : State → State) (h : s.side.answering = false) : whenAnswering f s = s :=
  if_neg (by simp [h])

/-- On a READY module a guarded command answers what it guards. -/
theorem next_of_ready {s : State} {f : State → State} {o : Host.Outcome State Fault Refusal} (h : Ready s)
    (ho : o = .next (whenReady f s)) : o = .next (f s) := by
  rw [ho, whenReady_of_ready f h]

/-- With the input present a guarded command answers what it guards. -/
theorem next_of_on {s : State} {f : State → State} {o : Host.Outcome State Fault Refusal} (h : s.boot.state ≠ .off)
    (ho : o = .next (whenPowered f s)) : o = .next (f s) := by
  rw [ho, whenPowered_of_on f h]

end Sys2Proof.Machine

/-! SUPPORT. Test access (R516, R517, Table 17.6). -/

namespace Sys2Proof.Machine

theorem bankRead_length (s : State) (kind index offset len : Nat) : (bankRead s kind index offset len).length = len := by
  simp [bankRead]

theorem ofBytesLE_lt (bs : List Byte) : ofBytesLE bs < 2 ^ (8 * bs.length) := by
  induction bs with
  | nil => exact Nat.one_pos
  | cons b bs ih =>
    have hb : b.toNat < 256 := b.isLt
    simp only [ofBytesLE, List.length_cons]
    have hpow : 2 ^ (8 * (bs.length + 1)) = 256 * 2 ^ (8 * bs.length) := by ring
    omega

/-- Eight bytes of a bank are the 64 bits that TAP_SNAP_READ gives. -/
theorem ofBytesLE_bankRead_mod (s : State) (kind index offset : Nat) :
    ofBytesLE (bankRead s kind index offset 8) % 2 ^ 64 = ofBytesLE (bankRead s kind index offset 8) :=
  Nat.mod_eq_of_lt (by simpa [bankRead_length] using ofBytesLE_lt (bankRead s kind index offset 8))

/-- TAP_EXTEST drives the boundary register while RST_N is low. -/
theorem tapExtest_of_held {v : BitVec 64} {s : State} (hon : s.boot.state ≠ .off) (hheld : bitAt s.pins.asserted 0 = true) :
    exec (.tapExtest v) s =
      .next { s with tap := { s.tap with instr := .extest, boundary := v.toNat, driven := some v.toNat } } :=
  (next_of_on hon rfl).trans (congrArg _ (if_pos hheld))

theorem tapExtest_of_released {v : BitVec 64} {s : State} (hon : s.boot.state ≠ .off)
    (hreleased : bitAt s.pins.asserted 0 = false) :
    exec (.tapExtest v) s = .next { s with tap := { s.tap with instr := .bypass, driven := none } } :=
  (next_of_on hon rfl).trans (congrArg _ (if_neg (by simp [hreleased])))

theorem tapSnapRead_of_bank {kind index offset : BitVec 32} {s : State} (hon : s.boot.state ≠ .off)
    (hidle : s.snap.latching = false) (hindex : index.toNat < bankCount kind.toNat)
    (hoffset : offset.toNat + 8 ≤ bankBytesOf kind.toNat) :
    exec (.tapSnapRead kind index offset) s =
      .next { s with tap := { s.tap with
        instr := .snapRead, driven := none, data := ofBytesLE (bankRead s kind.toNat index.toNat offset.toNat 8) } } := by
  refine (next_of_on hon rfl).trans ?_
  have hbits := ofBytesLE_bankRead_mod s kind.toNat index.toNat offset.toNat
  simp only [hidle, hindex, hoffset, decide_true, Bool.not_false, Bool.and_self, if_true, hbits]

/-- Settles O54: each TAP instruction is an update of the test access port alone. -/
theorem testAccessReads : Obligations.TestAccessReads := by
  unfold Obligations.TestAccessReads
  refine ⟨fun tdi s hon => ⟨_, next_of_on hon rfl, rfl, only_of_patch rfl⟩,
    fun s hon => ⟨_, next_of_on hon rfl, rfl, rfl, only_of_patch rfl⟩,
    fun pins s hon => ⟨_, next_of_on hon rfl, rfl, only_of_patch rfl⟩,
    fun v s hon hheld => ⟨_, tapExtest_of_held hon hheld, rfl, only_of_patch rfl⟩,
    fun v s hon hreleased => ⟨_, tapExtest_of_released hon hreleased, rfl, only_of_patch rfl⟩,
    fun kind index offset s hon hidle hindex hoffset =>
      ⟨_, tapSnapRead_of_bank hon hidle hindex hoffset, rfl, rfl, only_of_patch rfl⟩, fun tdi s hoff => ?_⟩
  exact congrArg _ (whenPowered_of_off _ hoff)

end Sys2Proof.Machine

/-! SUPPORT. A module that neither executes commands nor answers on the sideband (R443, R533): its working state stands or is at
its reset values, whatever the command. -/

namespace Sys2Proof.Machine

/-! ## Standing still -/

/-- Each listed part stands in `t` as it stood in `s`, or at its reset value. -/
def Stands (ps : List Part) (s t : State) : Prop := ∀ p ∈ ps, p.same s t ∨ p.same State.reset t

theorem Stands.refl (ps : List Part) (s : State) : Stands ps s s := fun p _ => .inl (by cases p <;> rfl)

theorem Stands.trans {ps : List Part} {s t u : State} (h : Stands ps s t) (k : Stands ps t u) : Stands ps s u := fun p hp =>
  (k p hp).elim (fun hsame => (h p hp).imp (Part.same_trans · hsame) (Part.same_trans · hsame)) .inr

theorem Stands.mono {ps qs : List Part} {s t : State} (h : Stands qs s t) (hsub : ps ⊆ qs) : Stands ps s t :=
  fun p hp => h p (hsub hp)

/-- An operation whose mask lies outside the listed parts leaves them as they stood. -/
theorem Grows.stands {m : Nat} {ps : List Part} {s t : State} (h : Grows m s t) (hm : ∀ p ∈ ps, m.testBit p.bit = false) :
    Stands ps s t := fun p hp => .inl (h.same p (hm p hp))

/-- What changes at most other parts leaves the listed ones as they stood. -/
theorem Only.stands {ps qs : List Part} {s t : State} (h : Only qs s t) (hps : ∀ p ∈ ps, p ∉ qs) : Stands ps s t :=
  fun p hp => .inl (h p (hps p hp))

/-- The parts that hold what the module works on. -/
def workingParts : List Part := [.tick, .lead, .job, .stream, .red, .snap]

/-- The parts that hold its group, its cores and its placement. -/
def placedParts : List Part := [.grp, .cores, .place]

/-- The parts that stand still while nothing runs and no start is made. -/
def restingParts : List Part := workingParts ++ placedParts

theorem atTime_stands (n : Nat) (s : State) : Stands restingParts s (atTime n s) :=
  (atTime_grows n s).stands (by decide)

theorem resetModule_stands (b : Bool) (s : State) : Stands restingParts s (resetModule b s) := fun p hp =>
  .inr (by cases p <;> first | rfl | exact absurd hp (by decide))

theorem powerOff_stands (s : State) : Stands restingParts s (powerOff s) := fun p hp =>
  .inr (by cases p <;> first | rfl | exact absurd hp (by decide))

theorem faultReset_stands (image : Nat) (s : State) : Stands restingParts s (faultReset image s) :=
  ((journalEntry_grows ..).stands (by decide)).trans (resetModule_stands _ _)

theorem heldInReset_stands (s : State) : Stands restingParts s (heldInReset s) := by
  unfold heldInReset
  split
  · exact (only_of_patch (ps := [.boot]) rfl).stands (by decide)
  · exact resetModule_stands _ _

theorem acceptLevel_stands (n : Nat) (on : Bool) (s : State) : Stands restingParts s (acceptLevel n on s) :=
  (acceptLevel_grows n on s).stands (by decide)

/-- What runs only with the input present stands still where what it runs does. -/
theorem whenPowered_stands {ps : List Part} {f : State → State} {s : State} (h : Stands ps s (f s)) :
    Stands ps s (whenPowered f s) := by
  unfold whenPowered
  split
  · exact .refl _ _
  · exact h

/-- What runs on a READY module only leaves another as it stood. -/
theorem ifReady_stands {ps : List Part} {f : State → State} {s : State} (h : ¬ Ready s) : Stands ps s (ifReady f s) := by
  rw [ifReady_of_not_ready f h]
  exact .refl _ _

/-! ## A start, however it ends -/

theorem failStep_stands (step code : Nat) (s : State) : Stands workingParts s (failStep step code s) :=
  ((journalEntry_grows ..).stands (by decide)).trans
    (((journalEntry_grows ..).stands (by decide)).trans ((resetModule_stands _ _).mono (by decide)))

/-- The steps of a start stand still where each step's own effect does. -/
theorem runSteps_stands {facts : StartFacts} {l : List (Nat × (State → State))} (s : State)
    (hsteps : ∀ p ∈ l, ∀ u : State, Stands workingParts u (p.2 u)) : Stands workingParts s (runSteps facts l s) := by
  induction l generalizing s with
  | nil => exact .refl _ _
  | cons p rest ih =>
    unfold runSteps
    split
    next => exact (hangStep_grows ..).stands (by decide)
    next =>
      split
      next => exact failStep_stands _ _ _
      next => exact ((hsteps p List.mem_cons_self s).trans ((passStep_grows ..).stands (by decide))).trans
                (ih _ fun q hq => hsteps q (List.mem_cons_of_mem _ hq))

theorem startSteps_stand (facts : StartFacts) (kind : TestKind) :
    ∀ p ∈ startSteps facts kind, ∀ u : State, Stands workingParts u (p.2 u) :=
  fun p hp u => (startSteps_grows facts kind p hp u).stands (by decide)

/-- Before its steps a start extends the measurements and passes VERIFY: flash and the boot state. -/
theorem startVerified_stands (facts : StartFacts) (slotB : Bool) (kind : TestKind) (s : State) :
    Stands workingParts s (startVerified facts slotB kind s) := by
  have hboot (v : BootS) : Stands workingParts s { s with boot := v } :=
    (only_of_patch (ps := [.boot]) rfl).stands (by decide)
  have hmeasured (u : State) (is : List Nat) (m : Nat → List Byte) :
      Stands workingParts u (each is (fun i st => extendMeas i (m i) st) u) :=
    (Grows.each (.refl 32 u) fun i v => extendMeas_grows i (m i) v).stands (by decide)
  exact (((hboot _).trans (hmeasured _ _ _)).trans ((passStep_grows ..).stands (by decide))).trans
    ((runSteps_stands _ (startSteps_stand facts kind)).trans ((afterReady_grows _).stands (by decide)))

theorem romStart_stands (contact : Bool) (s : State) :
    Stands workingParts s (if contact then journalEntry 1 2 0x0041 s.boot.slotB 0 (journalEntry 1 0 0 s.boot.slotB 0 s)
      else passStep 1 0 s) := by
  split
  · exact ((journalEntry_grows ..).stands (by decide)).trans ((journalEntry_grows ..).stands (by decide))
  · exact (passStep_grows ..).stands (by decide)

/-- However the attempts of a start end, the working state stands or is at reset. -/
theorem attempt_stands (facts : StartFacts) (n : Nat) (s : State) : Stands workingParts s (attempt facts n s) := by
  have hbegin (b : Bool) (u : State) : Stands workingParts u (beginStart b u) := (beginStart_grows ..).stands (by decide)
  have hhang (k : Nat) (u : State) : Stands workingParts u (hangStep k u) := (hangStep_grows ..).stands (by decide)
  have hpass (k d : Nat) (u : State) : Stands workingParts u (passStep k d u) := (passStep_grows ..).stands (by decide)
  have hrecover (u : State) : Stands workingParts u (enterRecovery u) := (enterRecovery_grows u).stands (by decide)
  have hjournal (a b c : Nat) (slotB : Bool) (u : State) : Stands workingParts u (journalEntry a b c slotB 0 u) :=
    (journalEntry_grows ..).stands (by decide)
  fun_induction attempt facts n s
  -- no attempt is left
  case case1 => exact hrecover _
  -- ROM_START does not end, or fails on the contact
  case case2 => exact (hbegin _ _).trans (hhang _ _)
  case case3 => exact (hbegin _ _).trans (failStep_stands _ _ _)
  -- SLOT_SELECT does not end, one of the first two steps fails, or no slot is usable
  case case4 => exact ((hbegin _ _).trans (romStart_stands _ _)).trans (hhang _ _)
  case case5 => exact (hbegin _ _).trans (failStep_stands _ _ _)
  case case6 => exact ((hbegin _ _).trans (romStart_stands _ _)).trans (failStep_stands _ _ _)
  case case7 => exact (((hbegin _ _).trans (romStart_stands _ _)).trans (hpass _ _ _)).trans (hrecover _)
  -- VERIFY fails and the ROM chooses again
  case case8 ih =>
    exact ((((hbegin _ _).trans (romStart_stands _ _)).trans (hpass _ _ _)).trans
      ((hjournal _ _ _ _ _).trans (hjournal _ _ _ _ _))).trans ih
  -- no self-test can run, VERIFY does not end, or the start goes on
  case case9 => exact (((hbegin _ _).trans (romStart_stands _ _)).trans (hpass _ _ _)).trans (hrecover _)
  case case10 => exact (((hbegin _ _).trans (romStart_stands _ _)).trans (hpass _ _ _)).trans (hhang _ _)
  case case11 => exact (((hbegin _ _).trans (romStart_stands _ _)).trans (hpass _ _ _)).trans (startVerified_stands _ _ _ _)

/-! ## Outcomes -/

/-- The outcome is a next state in which the listed parts stand still. -/
def StandsAt (ps : List Part) (s : State) (o : Host.Outcome State Fault Refusal) : Prop := ∃ t, o = .next t ∧ Stands ps s t

theorem StandsAt.of_next {ps : List Part} {s t : State} {o : Host.Outcome State Fault Refusal} (ho : o = .next t)
    (h : Stands ps s t) : StandsAt ps s o := ⟨t, ho, h⟩

/-- A command whose mask lies outside the listed parts. -/
theorem Answers.standsAt {m : Nat} {ps : List Part} {s : State} {o : Host.Outcome State Fault Refusal} (h : Answers m s o)
    (hm : ∀ p ∈ ps, m.testBit p.bit = false) : StandsAt ps s o := by
  obtain ⟨t, ht, hgrows⟩ := h
  exact ⟨t, ht, hgrows.stands hm⟩

/-- A command of a READY module, where the module is not. -/
theorem StandsAt.whenReady {ps : List Part} {s : State} {f : State → State} {o : Host.Outcome State Fault Refusal}
    (hready : ¬ Ready s) (ho : o = .next (whenReady f s)) : StandsAt ps s o :=
  ⟨s, ho.trans (congrArg _ (whenReady_of_not_ready f hready)), .refl _ _⟩

/-- One that also moves the module's time. -/
theorem StandsAt.whenReadyAt {n : Nat} {s : State} {f : State → State} {o : Host.Outcome State Fault Refusal}
    (hready : ¬ Ready s) (ho : o = .next (Machine.whenReady f (atTime n s))) : StandsAt restingParts s o :=
  ⟨atTime n s, ho.trans (congrArg _ (whenReady_of_not_ready f hready)), atTime_stands n s⟩

/-- An access of a sideband that does not answer. -/
theorem StandsAt.whenAnswering {ps : List Part} {s : State} {f : State → State} {o : Host.Outcome State Fault Refusal}
    (hside : s.side.answering = false) (ho : o = .next (whenAnswering f s)) : StandsAt ps s o :=
  ⟨s, ho.trans (congrArg _ (whenAnswering_of_silent f hside)), .refl _ _⟩

/-- A host's command where none is executed. -/
theorem StandsAt.command {ps : List Part} {s : State} {h : CmdHdr} {b : CmdBody} {act : State → State}
    {o : Host.Outcome State Fault Refusal} (hexecutes : executes s = false) (ho : o = .next (command h b act s)) :
    StandsAt ps s o :=
  ⟨s, ho.trans (congrArg _ (by simp [Machine.command, hexecutes])), .refl _ _⟩

/-- A command that acts, at the time it names, while the input is present. -/
theorem StandsAt.whenPoweredAt {n : Nat} {s : State} {f : State → State} {o : Host.Outcome State Fault Refusal}
    (ho : o = .next (Machine.whenPowered f (atTime n s))) (h : Stands restingParts (atTime n s) (f (atTime n s))) :
    StandsAt restingParts s o :=
  ⟨_, ho, (atTime_stands n s).trans (whenPowered_stands h)⟩

@[simp] theorem acceptLevel_boot (n : Nat) (on : Bool) (s : State) : (acceptLevel n on s).boot = s.boot :=
  (acceptLevel_grows n on s).same .boot rfl

/-! ## The commands that act on a module that does not run -/

theorem execStartStepTimeout_standsAt (n : Nat) (s : State) : StandsAt restingParts s (execStartStepTimeout n s) := by
  refine .of_next rfl ((atTime_stands n s).trans ?_)
  split
  · exact ((journalEntry_grows ..).stands (by decide)).trans (resetModule_stands _ _)
  · exact .refl _ _

theorem execRefclkLost_standsAt (n : Nat) (s : State) : StandsAt restingParts s (execRefclkLost n s) := by
  have hboot (u : State) (v : BootS) : Stands restingParts u { u with boot := v } :=
    (only_of_patch (ps := [.boot]) rfl).stands (by decide)
  refine .whenPoweredAt rfl ?_
  split
  · exact hboot _ _
  · exact (hboot _ _).trans (faultReset_stands _ _)

theorem acceptLevel_not_ready {n m : Nat} {on : Bool} {s : State} (h : ¬ Ready s) :
    ¬ Ready (acceptLevel m on (atTime n s)) := by
  rw [Ready, acceptLevel_boot]
  exact h

/-- Beyond the pins a HALT_N level acts on a READY module only. -/
theorem execHaltNAssert_standsAt (n : Nat) {s : State} (hready : ¬ Ready s) :
    StandsAt restingParts s (execHaltNAssert n s) :=
  .whenPoweredAt rfl ((acceptLevel_stands _ _ _).trans (ifReady_stands (acceptLevel_not_ready hready)))

theorem execHaltNRelease_standsAt (n : Nat) {s : State} (hready : ¬ Ready s) :
    StandsAt restingParts s (execHaltNRelease n s) := by
  have hpins (u : State) (v : PinsS) : Stands restingParts u { u with pins := v } :=
    (only_of_patch (ps := [.pins]) rfl).stands (by decide)
  exact .whenPoweredAt rfl (((acceptLevel_stands _ _ _).trans (hpins _ _)).trans
    (ifReady_stands (acceptLevel_not_ready (n := n) (m := 3) (on := false) hready)))

theorem execRstNAssert_standsAt (n : Nat) (s : State) : StandsAt restingParts s (execRstNAssert n s) :=
  .whenPoweredAt rfl ((acceptLevel_stands _ _ _).trans (heldInReset_stands _))

theorem execPwrGoodFall_standsAt (n : Nat) (s : State) : StandsAt restingParts s (execPwrGoodFall n s) :=
  .whenPoweredAt rfl ((acceptLevel_stands _ _ _).trans (heldInReset_stands _))

theorem heldPin_stands (p : PinIn) (s : State) : Stands restingParts s (heldPin p s) :=
  (heldPin_grows p s).stands (by decide)

/-- Of the stuck inputs RST_N and PWR_GOOD alone are noted while the module does not run. -/
theorem execPinStuck_standsAt (n : Nat) (pin : PinIn) {s : State} (hready : ¬ Ready s) :
    StandsAt restingParts s (execPinStuck n pin s) := by
  cases pin with
  | rstN =>
    refine .of_next rfl ((atTime_stands n s).trans ?_)
    dsimp only
    split
    · exact heldPin_stands _ _
    · exact .refl _ _
  | pwrGood =>
    refine .of_next rfl ((atTime_stands n s).trans ?_)
    dsimp only
    split
    · exact whenPowered_stands (heldPin_stands _ _)
    · exact .refl _ _
  | thrN => exact .whenReadyAt hready rfl
  | haltN => exact .whenReadyAt hready rfl
  | tempAlertN => exact .whenReadyAt hready rfl
  | shutterIn => exact .whenReadyAt hready rfl
  | tickIn => exact .whenReadyAt hready rfl
  | leadSel => exact .whenReadyAt hready rfl

theorem execNop_standsAt (k : Issue) (op : BitVec 8) {s : State} (hready : ¬ Ready s) :
    StandsAt restingParts s (execNop k op s) := by
  unfold execNop
  split
  · exact .whenReady hready rfl
  · exact .whenReady hready rfl

/-- A datagram at a module that executes no command moves its time alone. -/
theorem execCommandDatagram_standsAt (n : Nat) (port : PortId) (source : BitVec 160) (bytes : Fin 65536) (fragment : Bool)
    (pkt : Packet) {s : State} (hexecutes : executes s = false) :
    StandsAt restingParts s (execCommandDatagram n port source bytes fragment pkt s) := by
  have hexecutes' : executes (atTime n s) = false := hexecutes
  refine .of_next (t := atTime n s) ?_ (atTime_stands n s)
  simp [execCommandDatagram, hexecutes']

/-- MODULE_START: the working state alone, since the fields that it cuts off go dark (R81). -/
theorem execModuleStart_standsAt (n : Nat) (facts : StartFacts) (s : State) :
    StandsAt workingParts s (execModuleStart n facts s) := by
  have hboot (u : State) (v : BootS) : Stands workingParts u { u with boot := v } :=
    (only_of_patch (ps := [.boot]) rfl).stands (by decide)
  refine .of_next rfl (((atTime_stands n s).mono (by decide)).trans ?_)
  split
  · exact .refl _ _
  · split
    · exact hboot _ _
    · exact ((hboot _ _).trans ((startPreamble_grows _).stands (by decide))).trans (attempt_stands _ _ _)

/-! ## Every command -/

/-- But for a start, every command leaves a module that does not run as it stands, or at reset. -/
theorem exec_standsAt (c : Instr) {s : State} (hexecutes : executes s = false) (hready : ¬ Ready s)
    (hside : s.side.answering = false) (hstart : ∀ n facts, c ≠ .moduleStart n facts) :
    StandsAt restingParts s (exec c s) := by
  cases c with
  | issueTick _ => exact StandsAt.whenReady hready rfl
  | tickReceived _ _ _ => exact StandsAt.whenReady hready rfl
  | graceExpired _ _ => exact StandsAt.whenReady hready rfl
  | overrunReport _ _ _ _ => exact StandsAt.whenReady hready rfl
  | groupSlipForward _ _ => exact StandsAt.whenReady hready rfl
  | tickMissed _ => exact StandsAt.whenReady hready rfl
  | tickLoss _ => exact StandsAt.whenReady hready rfl
  | nameStandby => exact StandsAt.whenReady hready rfl
  | tickInEdge _ => exact StandsAt.whenReady hready rfl
  | flywheelTick _ => exact StandsAt.whenReady hready rfl
  | flitReceived _ _ _ _ => exact Answers.standsAt (execFlitReceived_next ..) (by decide)
  | flitResend _ => exact Answers.standsAt (execFlitResend_next ..) (by decide)
  | packetForward _ _ _ _ => exact Answers.standsAt (execPacketForward_next ..) (by decide)
  | linkRetrain _ => exact Answers.standsAt (execLinkRetrain_next ..) (by decide)
  | linkRetrainDone _ _ _ => exact StandsAt.whenReady hready rfl
  | fieldDark _ _ => exact StandsAt.whenReady hready rfl
  | routeTablesInstalled => exact StandsAt.whenReady hready rfl
  | fieldShade _ _ => exact StandsAt.whenReady hready rfl
  | queueItemWrite _ _ => exact Answers.standsAt (execQueueItemWrite_next ..) (by decide)
  | queueItemRead _ => exact StandsAt.whenReady hready rfl
  | unitMapChange _ _ => exact StandsAt.whenReady hready rfl
  | taskSpread _ _ _ => exact StandsAt.whenReady hready rfl
  | taskDispatch _ => exact StandsAt.whenReady hready rfl
  | scoreboardArrival _ _ _ => exact StandsAt.whenReady hready rfl
  | lPortWrite _ _ _ => exact StandsAt.whenReady hready rfl
  | nop _ _ => exact execNop_standsAt _ _ hready
  | endTask _ => exact StandsAt.whenReady hready rfl
  | branch _ _ => exact StandsAt.whenReady hready rfl
  | loop _ _ _ => exact StandsAt.whenReady hready rfl
  | arm _ _ _ => exact StandsAt.whenReady hready rfl
  | signal _ _ _ _ => exact StandsAt.whenReady hready rfl
  | seed _ _ _ => exact StandsAt.whenReady hready rfl
  | spawn _ _ _ _ => exact StandsAt.whenReady hready rfl
  | copy _ _ _ _ _ => exact StandsAt.whenReady hready rfl
  | gather _ _ _ _ _ => exact StandsAt.whenReady hready rfl
  | scatter _ _ _ _ => exact StandsAt.whenReady hready rfl
  | fill _ _ _ _ => exact StandsAt.whenReady hready rfl
  | latch _ _ _ => exact StandsAt.whenReady hready rfl
  | mma _ _ _ => exact StandsAt.whenReady hready rfl
  | drain _ _ _ _ => exact StandsAt.whenReady hready rfl
  | clear _ _ => exact StandsAt.whenReady hready rfl
  | vop _ _ _ _ _ _ _ => exact StandsAt.whenReady hready rfl
  | vfn _ _ _ _ _ => exact StandsAt.whenReady hready rfl
  | vcvt _ _ _ _ _ _ _ _ _ => exact StandsAt.whenReady hready rfl
  | vred _ _ _ _ _ _ _ => exact StandsAt.whenReady hready rfl
  | send _ _ _ _ _ _ _ _ => exact StandsAt.whenReady hready rfl
  | read _ _ _ _ _ _ _ _ => exact StandsAt.whenReady hready rfl
  | racc _ _ _ => exact StandsAt.whenReady hready rfl
  | glint _ _ _ _ => exact StandsAt.whenReady hready rfl
  | mmaRs _ _ _ _ _ => exact StandsAt.whenReady hready rfl
  | agMma _ _ _ => exact StandsAt.whenReady hready rfl
  | mmaRacc _ _ _ => exact StandsAt.whenReady hready rfl
  | mmaSpill _ _ => exact StandsAt.whenReady hready rfl
  | frameArrival _ _ _ => exact StandsAt.whenReady hready rfl
  | segmentIngest _ _ _ _ => exact StandsAt.whenReady hready rfl
  | consumerSignal _ => exact StandsAt.whenReady hready rfl
  | frameMissing _ _ _ => exact StandsAt.whenReady hready rfl
  | laneSilent _ _ => exact StandsAt.whenReady hready rfl
  | memoryRequest _ _ => exact StandsAt.whenReady hready rfl
  | hbmRefresh _ _ => exact Answers.standsAt (execHbmRefresh_next ..) (by decide)
  | stackUnreachable _ => exact StandsAt.whenReady hready rfl
  | pieceArrival _ _ _ => exact StandsAt.whenReady hready rfl
  | reRequest _ _ _ _ => exact StandsAt.whenReady hready rfl
  | raiseMessage _ => exact StandsAt.whenReady hready rfl
  | blockUpdateDone _ _ => exact StandsAt.whenReady hready rfl
  | updateRegionSignal _ => exact StandsAt.whenReady hready rfl
  | outboundWorkingCopy _ => exact StandsAt.whenReady hready rfl
  | updateDoneReport _ _ _ _ _ => exact StandsAt.whenReady hready rfl
  | commitNotice _ _ _ _ => exact StandsAt.whenReady hready rfl
  | reconcileCopy _ _ => exact StandsAt.whenReady hready rfl
  | laneTraining _ _ _ _ => exact Answers.standsAt (execLaneTraining_next ..) (by decide)
  | codewordReceived _ _ _ => exact Answers.standsAt (execCodewordReceived_next ..) (by decide)
  | nakReceived _ _ => exact Answers.standsAt (execNakReceived_next ..) (by decide)
  | laneRetrain _ _ => exact StandsAt.whenReady hready rfl
  | laneRetrainDone _ _ _ _ => exact StandsAt.whenReady hready rfl
  | laneSignalLoss _ _ => exact StandsAt.whenReady hready rfl
  | laneLoopbackDone _ _ => exact StandsAt.whenReady hready rfl
  | beamPacketArrival _ _ _ => exact Answers.standsAt (execBeamPacketArrival_next ..) (by decide)
  | retrainNotice _ _ _ => exact Answers.standsAt (execRetrainNotice_next ..) (by decide)
  | chunkSend _ _ => exact Answers.standsAt (execChunkSend_next ..) (by decide)
  | chunkPacketArrival _ _ _ _ _ _ => exact StandsAt.whenReady hready rfl
  | chunkAck _ _ _ _ => exact Answers.standsAt (execChunkAck_next ..) (by decide)
  | chunkRerequest _ _ _ _ => exact Answers.standsAt (execChunkRerequest_next ..) (by decide)
  | lateBoundExpired _ _ _ => exact StandsAt.whenReady hready rfl
  | suspectReport _ _ _ _ _ => exact StandsAt.whenReady hready rfl
  | exclusionNotice _ _ _ => exact StandsAt.whenReady hready rfl
  | glintPacket _ _ _ _ => exact StandsAt.whenReady hready rfl
  | coreFailedRebind _ => exact StandsAt.whenReady hready rfl
  | replacementReady _ _ _ => exact StandsAt.whenReady hready rfl
  | returnToPrimary => exact StandsAt.whenReady hready rfl
  | doorbell _ _ => exact Answers.standsAt (execDoorbell_next ..) (by decide)
  | rdmaWrite _ _ => exact StandsAt.whenReady hready rfl
  | rdmaRead _ _ => exact Answers.standsAt (execRdmaRead_next ..) (by decide)
  | commandDatagram _ _ _ _ _ _ => exact execCommandDatagram_standsAt _ _ _ _ _ _ hexecutes
  | packetParse _ => exact StandsAt.whenReady hready rfl
  | portDown _ => exact Answers.standsAt (execPortDown_next ..) (by decide)
  | ptpEventMessage _ _ _ _ _ => exact Answers.standsAt (execPtpEventMessage_next ..) (by decide)
  | ptpInstanceChange => exact Answers.standsAt (execPtpInstanceChange_next ..) (by decide)
  | identify _ => exact Answers.standsAt (execIdentify_next ..) (by decide)
  | sizeTable _ => exact Answers.standsAt (execSizeTable_next ..) (by decide)
  | setNet _ _ => exact Answers.standsAt (execSetNet_next ..) (by decide)
  | ringCreate _ _ => exact Answers.standsAt (execRingCreate_next ..) (by decide)
  | ringDestroy _ _ => exact Answers.standsAt (execRingDestroy_next ..) (by decide)
  | mrRegister _ _ => exact Answers.standsAt (execMrRegister_next ..) (by decide)
  | mrRevoke _ _ => exact Answers.standsAt (execMrRevoke_next ..) (by decide)
  | qpCreate _ _ => exact Answers.standsAt (execQpCreate_next ..) (by decide)
  | qpDestroy _ _ => exact Answers.standsAt (execQpDestroy_next ..) (by decide)
  | jobConfigure _ _ => exact StandsAt.command hexecutes rfl
  | jobStart _ _ => exact StandsAt.command hexecutes rfl
  | jobPause _ => exact StandsAt.command hexecutes rfl
  | jobResume _ => exact StandsAt.command hexecutes rfl
  | jobEnd _ => exact StandsAt.command hexecutes rfl
  | nameLead _ _ _ _ => exact StandsAt.command hexecutes rfl
  | contextOpen _ _ => exact Answers.standsAt (execContextOpen_next ..) (by decide)
  | contextClose _ => exact Answers.standsAt (execContextClose_next ..) (by decide)
  | setRule _ _ _ _ => exact StandsAt.command hexecutes rfl
  | batchReady _ _ _ => exact Answers.standsAt (execBatchReady_next ..) (by decide)
  | request _ _ => exact Answers.standsAt (execRequest_next ..) (by decide)
  | cancel _ _ => exact Answers.standsAt (execCancel_next ..) (by decide)
  | epochSwitch _ _ => exact StandsAt.command hexecutes rfl
  | epochWithdraw _ => exact StandsAt.command hexecutes rfl
  | streamLimits _ _ _ => exact StandsAt.command hexecutes rfl
  | streamStatus _ => exact Answers.standsAt (execStreamStatus_next ..) (by decide)
  | layoutLoad _ _ _ => exact StandsAt.command hexecutes rfl
  | layoutQuery _ => exact Answers.standsAt (execLayoutQuery_next ..) (by decide)
  | ownerLoaded _ => exact StandsAt.command hexecutes rfl
  | ownerExpose _ => exact Answers.standsAt (execOwnerExpose_next ..) (by decide)
  | selfTest _ _ => exact Answers.standsAt (execSelfTest_next ..) (by decide)
  | capSet _ _ _ => exact Answers.standsAt (execCapSet_next ..) (by decide)
  | rampSet _ _ => exact Answers.standsAt (execRampSet_next ..) (by decide)
  | heartbeat _ _ => exact Answers.standsAt (execHeartbeat_next ..) (by decide)
  | safeCapSet _ _ => exact Answers.standsAt (execSafeCapSet_next ..) (by decide)
  | glowFloorSet _ _ => exact Answers.standsAt (execGlowFloorSet_next ..) (by decide)
  | powerStatus _ => exact Answers.standsAt (execPowerStatus_next ..) (by decide)
  | faultRead _ _ _ => exact Answers.standsAt (execFaultRead_next ..) (by decide)
  | faultClear _ _ => exact Answers.standsAt (execFaultClear_next ..) (by decide)
  | rollback _ => exact StandsAt.command hexecutes rfl
  | exclude _ _ => exact StandsAt.command hexecutes rfl
  | shadowSet _ _ => exact StandsAt.command hexecutes rfl
  | fieldReturn _ _ => exact Answers.standsAt (execFieldReturn_next ..) (by decide)
  | shutterFire _ _ => exact StandsAt.command hexecutes rfl
  | snapshotRead _ _ _ _ _ => exact Answers.standsAt (execSnapshotRead_next ..) (by decide)
  | countersRead _ _ _ => exact Answers.standsAt (execCountersRead_next ..) (by decide)
  | journalRead _ _ _ => exact Answers.standsAt (execJournalRead_next ..) (by decide)
  | bootJournalRead _ _ _ => exact Answers.standsAt (execBootJournalRead_next ..) (by decide)
  | attest _ _ => exact Answers.standsAt (execAttest_next ..) (by decide)
  | flashWrite _ _ _ _ => exact Answers.standsAt (execFlashWrite_next ..) (by decide)
  | flashStageDrain _ => exact Answers.standsAt (execFlashStageDrain_next ..) (by decide)
  | bundleVerify _ _ => exact Answers.standsAt (execBundleVerify_next ..) (by decide)
  | bundleActivate _ _ => exact Answers.standsAt (execBundleActivate_next ..) (by decide)
  | resetCmd _ => exact StandsAt.command hexecutes rfl
  | regRead _ _ _ => exact Answers.standsAt (execRegRead_next ..) (by decide)
  | regWrite _ _ => exact StandsAt.command hexecutes rfl
  | regRmw _ _ _ _ => exact StandsAt.command hexecutes rfl
  | registerWrite _ _ => exact StandsAt.whenReady hready rfl
  | capSoftWrite _ => exact StandsAt.whenReady hready rfl
  | capHardWrite _ => exact StandsAt.whenReady hready rfl
  | rearm => exact StandsAt.whenReady hready rfl
  | recordValidClear _ => exact Answers.standsAt (execRecordValidClear_next ..) (by decide)
  | heldClear _ => exact StandsAt.whenReady hready rfl
  | counterLowWordRead _ _ => exact Answers.standsAt (execCounterLowWordRead_next ..) (by decide)
  | sidebandCommandWrite _ _ => exact StandsAt.whenAnswering hside rfl
  | sidebandReplyRead => exact Answers.standsAt (execSidebandReplyRead_next ..) (by decide)
  | sidebandRegRead _ => exact Answers.standsAt (execSidebandRegRead_next ..) (by decide)
  | sidebandRegWrite _ _ => exact StandsAt.whenAnswering hside rfl
  | entdaa _ => exact Answers.standsAt (execEntdaa_next ..) (by decide)
  | i2cFallback => exact Answers.standsAt (execI2cFallback_next ..) (by decide)
  | moduleStart _ _ => exact absurd rfl (hstart _ _)
  | startStepTimeout _ => exact execStartStepTimeout_standsAt _ s
  | fieldControlWatchdog _ => exact StandsAt.whenReady hready rfl
  | fieldControlReloadDone _ _ => exact StandsAt.whenReady hready rfl
  | schedulerWatchdog _ => exact StandsAt.whenReadyAt hready rfl
  | powerMgmtWatchdog _ => exact StandsAt.whenReadyAt hready rfl
  | securityWatchdog _ => exact StandsAt.whenReadyAt hready rfl
  | powerControlRecompute _ _ _ _ => exact Answers.standsAt (execPowerControlRecompute_next ..) (by decide)
  | rampWindow _ _ _ => exact Answers.standsAt (execRampWindow_next ..) (by decide)
  | beaconsCollected _ => exact Answers.standsAt (execBeaconsCollected_next ..) (by decide)
  | rampAllocation _ _ => exact Answers.standsAt (execRampAllocation_next ..) (by decide)
  | allocationMissing _ => exact Answers.standsAt (execAllocationMissing_next ..) (by decide)
  | hardCapShade _ => exact StandsAt.whenReady hready rfl
  | heartbeatTimeout _ => exact Answers.standsAt (execHeartbeatTimeout_next ..) (by decide)
  | undervoltageDim => exact Answers.standsAt (execUndervoltageDim_next ..) (by decide)
  | dimRelease => exact Answers.standsAt (execDimRelease_next ..) (by decide)
  | undervoltageStop => exact StandsAt.whenReady hready rfl
  | overvoltageStop => exact StandsAt.whenReady hready rfl
  | supplyStopRecovery => exact Answers.standsAt (execSupplyStopRecovery_next ..) (by decide)
  | regulatorDropout => exact .of_next rfl (whenPowered_stands (powerOff_stands s))
  | sensorSample _ _ => exact StandsAt.whenReadyAt hready rfl
  | throttleStep _ _ => exact Answers.standsAt (execThrottleStep_next ..) (by decide)
  | throttleShade _ _ => exact StandsAt.whenReadyAt hready rfl
  | heatReturn _ _ => exact Answers.standsAt (execHeatReturn_next ..) (by decide)
  | fieldProtectionTrip _ => exact StandsAt.whenReady hready rfl
  | protectionProbe _ _ => exact Answers.standsAt (execProtectionProbe_next ..) (by decide)
  | shoulderTrip _ => exact StandsAt.whenReady hready rfl
  | controlTrip => exact .of_next rfl (whenPowered_stands (powerOff_stands s))
  | refclkLost _ => exact execRefclkLost_standsAt _ s
  | thrNAssert _ => exact Answers.standsAt (execThrNAssert_next ..) (by decide)
  | thrNRelease _ => exact Answers.standsAt (execThrNRelease_next ..) (by decide)
  | tempAlertAssert _ => exact Answers.standsAt (execTempAlertAssert_next ..) (by decide)
  | tempAlertRelease _ => exact Answers.standsAt (execTempAlertRelease_next ..) (by decide)
  | haltNAssert _ => exact execHaltNAssert_standsAt _ hready
  | haltNRelease _ => exact execHaltNRelease_standsAt _ hready
  | haltRequest _ _ => exact StandsAt.whenReady hready rfl
  | rstNAssert _ => exact execRstNAssert_standsAt _ s
  | rstNRelease _ _ => exact Answers.standsAt (execRstNRelease_next ..) (by decide)
  | pwrGoodRise _ => exact Answers.standsAt (execPwrGoodRise_next ..) (by decide)
  | pwrGoodFall _ => exact execPwrGoodFall_standsAt _ s
  | leadSelChange _ => exact StandsAt.whenReadyAt hready rfl
  | pinStuck _ _ => exact execPinStuck_standsAt _ _ hready
  | lanternBeacon _ _ => exact StandsAt.whenReady hready rfl
  | beaconSilence _ _ _ => exact StandsAt.whenReady hready rfl
  | memberDrain _ _ => exact StandsAt.whenReady hready rfl
  | drainTimeout _ _ => exact StandsAt.whenReady hready rfl
  | memberJoin _ _ _ _ => exact StandsAt.whenReady hready rfl
  | rollbackRequest _ _ => exact StandsAt.whenReady hready rfl
  | rollbackNotice _ _ => exact StandsAt.whenReady hready rfl
  | digestList _ _ => exact StandsAt.whenReady hready rfl
  | blockDigests _ _ _ => exact StandsAt.whenReady hready rfl
  | recomputeDone _ _ _ => exact StandsAt.whenReady hready rfl
  | shadowTotal _ => exact StandsAt.whenReady hready rfl
  | shutterInEdge _ => exact StandsAt.whenReady hready rfl
  | faultShutter _ => exact StandsAt.whenReady hready rfl
  | shutterRequest _ _ _ => exact StandsAt.whenReady hready rfl
  | glintShutter _ _ => exact StandsAt.whenReady hready rfl
  | bankLatchComplete _ => exact StandsAt.whenReady hready rfl
  | tapBypass _ => exact Answers.standsAt (execTapBypass_next ..) (by decide)
  | tapIdcode => exact Answers.standsAt (execTapIdcode_next ..) (by decide)
  | tapSamplePreload _ => exact Answers.standsAt (execTapSamplePreload_next ..) (by decide)
  | tapExtest _ => exact Answers.standsAt (execTapExtest_next ..) (by decide)
  | tapSnapRead _ _ _ => exact Answers.standsAt (execTapSnapRead_next ..) (by decide)
  | selfTestDone _ _ => exact StandsAt.whenReady hready rfl
  | layoutLoadDone _ _ => exact StandsAt.whenReady hready rfl
  | bundleVerifyDone _ _ => exact Answers.standsAt (execBundleVerifyDone_next ..) (by decide)
  | fieldReturnComplete _ _ => exact StandsAt.whenReady hready rfl
  | totalAcknowledgement _ _ _ => exact StandsAt.whenReady hready rfl
  | totalRerequest _ _ _ => exact Answers.standsAt (execTotalRerequest_next ..) (by decide)
  | portUp _ => exact Answers.standsAt (execPortUp_next ..) (by decide)
  | arpNdIcmpRequest _ _ _ => exact Answers.standsAt (execArpNdIcmpRequest_next ..) (by decide)
  | inputPowerPresent _ => exact Answers.standsAt (execInputPowerPresent_next ..) (by decide)
  | refclkPresent _ => exact Answers.standsAt (execRefclkPresent_next ..) (by decide)
  | pinTransitionRejected _ => exact Answers.standsAt (execPinTransitionRejected_next ..) (by decide)
  | fieldGovernorStep _ _ _ _ => exact Answers.standsAt (execFieldGovernorStep_next ..) (by decide)
  | engineInstructionComplete _ _ => exact StandsAt.whenReady hready rfl
  | grayPointerSync _ _ => exact Answers.standsAt (execGrayPointerSync_next ..) (by decide)

theorem not_ready_of_not_executes {s : State} (h : executes s = false) : ¬ Ready s := by
  intro hready
  simp [executes, hready] at h

/-- Settles O57: what acts on a module that does not run is a start, which touches no working state but by a reset, and what
resets it or moves its time, pins, boot state and flash. -/
theorem modulesThatDoNotRunStandStill : Obligations.ModulesThatDoNotRunStandStill := by
  unfold Obligations.ModulesThatDoNotRunStandStill
  intro c s t hexec hexecutes hside
  have hstands (hstart : ∀ n facts, c ≠ .moduleStart n facts) : Stands restingParts s t := by
    obtain ⟨u, hu, h⟩ := exec_standsAt c hexecutes (not_ready_of_not_executes hexecutes) hside hstart
    cases hu.symm.trans hexec
    exact h
  refine ⟨?_, fun hstart => (hstands hstart).mono (ps := placedParts) (by decide)⟩
  by_cases hstart : ∃ n facts, c = .moduleStart n facts
  · obtain ⟨n, facts, rfl⟩ := hstart
    obtain ⟨u, hu, h⟩ := execModuleStart_standsAt n facts s
    cases hu.symm.trans hexec
    exact h
  · exact (hstands fun n facts hc => hstart ⟨n, facts, hc⟩).mono (ps := workingParts) (by decide)

end Sys2Proof.Machine

/-! SUPPORT. Packed fields read back (R7), and the messages and headers that the layout tables pack. -/

namespace Sys2Proof.Machine

/-! ## Packed fields -/

/-- The widths of packed fields together. -/
def packWidth (fs : List (Nat × Nat)) : Nat := (fs.map Prod.fst).sum

theorem pack_lt (fs : List (Nat × Nat)) : pack fs < 2 ^ packWidth fs := by
  induction fs with
  | nil => exact Nat.one_pos
  | cons f fs ih =>
    obtain ⟨w, v⟩ := f
    have hv : v % 2 ^ w < 2 ^ w := Nat.mod_lt _ (Nat.two_pow_pos w)
    have hmul : 2 ^ w * (pack fs + 1) ≤ 2 ^ w * 2 ^ packWidth fs := Nat.mul_le_mul_left _ ih
    have hwidth : packWidth ((w, v) :: fs) = w + packWidth fs := rfl
    rw [hwidth, Nat.pow_add, pack]
    rw [Nat.mul_add, Nat.mul_one] at hmul
    omega

theorem pack_lt_of_width {fs : List (Nat × Nat)} {w : Nat} (h : packWidth fs = w) : pack fs < 2 ^ w := h ▸ pack_lt fs

/-- A field inside the first packed one. -/
theorem field_pack_head {w k v : Nat} {fs : List (Nat × Nat)} (hk : k ≤ w) : field (pack ((w, v) :: fs)) 0 k = v % 2 ^ k := by
  have hdvd : 2 ^ k ∣ 2 ^ w := Nat.pow_dvd_pow 2 hk
  rw [field, pow_zero, Nat.div_one, pack, Nat.add_mod, Nat.mod_mod_of_dvd _ hdvd,
    Nat.mod_eq_zero_of_dvd (hdvd.mul_right _), Nat.add_zero, Nat.mod_mod]

/-- A field above the lowest `w` bits. -/
theorem field_add_mul {w a b lo k : Nat} (ha : a < 2 ^ w) (hlo : w ≤ lo) : field (a + 2 ^ w * b) lo k = field b (lo - w) k := by
  have hpow : 2 ^ lo = 2 ^ w * 2 ^ (lo - w) := by rw [← Nat.pow_add, Nat.add_sub_cancel' hlo]
  rw [field, field, hpow, ← Nat.div_div_eq_div_mul, Nat.add_mul_div_left _ _ (Nat.two_pow_pos w), Nat.div_eq_of_lt ha,
    Nat.zero_add]

/-- A field within the lowest `w` bits. -/
theorem field_add_mul_low {w a b lo k : Nat} (hlo : lo + k ≤ w) : field (a + 2 ^ w * b) lo k = field a lo k := by
  obtain ⟨d, rfl⟩ := Nat.exists_eq_add_of_le hlo
  have hpow : 2 ^ (lo + k + d) * b = 2 ^ lo * (2 ^ k * (2 ^ d * b)) := by rw [Nat.pow_add, Nat.pow_add]; ring
  rw [field, field, hpow, Nat.add_mul_div_left _ _ (Nat.two_pow_pos lo), Nat.add_mul_mod_self_left]

theorem field_pack_tail {w v lo k : Nat} {fs : List (Nat × Nat)} (hlo : w ≤ lo) :
    field (pack ((w, v) :: fs)) lo k = field (pack fs) (lo - w) k :=
  field_add_mul (Nat.mod_lt _ (Nat.two_pow_pos w)) hlo

theorem bitAt_eq_field (n i : Nat) : bitAt n i = decide (field n i 1 = 1) := by
  rw [bitAt, Nat.testBit_eq_decide_div_mod_eq, field, pow_one]

@[simp] theorem b2n_mod_two (b : Bool) : decide (b2n b % 2 = 1) = b := by cases b <;> rfl

theorem ofSigned_lt (w : Nat) (i : Int) : ofSigned w i < 2 ^ w := by
  have hpos : (0 : Int) < (2 ^ w : Nat) := by positivity
  rw [ofSigned, Int.toNat_lt (Int.emod_nonneg _ hpos.ne')]
  exact Int.emod_lt_of_pos i hpos

theorem toSigned_ofSigned {w : Nat} {i : Int} (hw : 0 < w) (hlo : -(2 ^ (w - 1) : Int) ≤ i) (hhi : i < 2 ^ (w - 1)) :
    toSigned w (ofSigned w i) = i := by
  obtain ⟨n, rfl⟩ : ∃ n, w = n + 1 := ⟨w - 1, by omega⟩
  rw [Nat.add_sub_cancel] at hlo hhi
  have hpow : (2 : Int) ^ (n + 1) = 2 * 2 ^ n := by ring
  have hcast : ((2 ^ (n + 1) : Nat) : Int) = 2 * 2 ^ n := by push_cast; ring
  have hpos : (0 : Int) < 2 ^ n := by positivity
  have hval : (ofSigned (n + 1) i : Int) = i % (2 * 2 ^ n) := by
    rw [ofSigned, Int.toNat_of_nonneg (Int.emod_nonneg _ (by omega)), hcast]
  have hsplit : (ofSigned (n + 1) i < 2 ^ n) ↔ (i % (2 * 2 ^ n) < 2 ^ n) := by rw [← hval]; norm_cast
  rw [toSigned, Nat.mod_eq_of_lt (ofSigned_lt _ i), Nat.add_sub_cancel, hcast, hval]
  rcases lt_or_ge i 0 with hneg | hnonneg
  · have hmod : i % (2 * 2 ^ n) = i + 2 * 2 ^ n := by
      rw [← Int.add_emod_right, Int.emod_eq_of_lt (by omega) (by omega)]
    rw [if_neg (by rw [hsplit, hmod]; omega), hmod]
    omega
  · have hmod : i % (2 * 2 ^ n) = i := Int.emod_eq_of_lt hnonneg (by omega)
    rw [if_pos (by rw [hsplit, hmod]; omega), hmod]

/-! ## The CRC-16 (R554) -/

theorem crc16Shift_lt (c : Nat) : crc16Shift c < 2 ^ 16 := by
  have hsh : c * 2 % 65536 < 2 ^ 16 := Nat.mod_lt _ (by decide)
  unfold crc16Shift
  split
  · exact Nat.xor_lt_two_pow hsh (by decide)
  · exact hsh

theorem crc16Byte_lt (c : Nat) (b : Byte) : crc16Byte c b < 2 ^ 16 := crc16Shift_lt _

theorem crc16_lt (bs : List Byte) : crc16 bs < 2 ^ 16 := by
  rcases List.eq_nil_or_concat bs with rfl | ⟨bs, b, rfl⟩
  · decide
  · rw [crc16, List.concat_eq_append, List.foldl_append]
    exact crc16Byte_lt _ _

/-- A message head of `w` bits with its CHECK behind it: the fields of the head read as the head's, CHECK is the CRC of the head,
and the whole has 16 bits more. -/
theorem checked_message {w total head : Nat} (n : Nat) (hhead : head < 2 ^ w) (htotal : w + 16 = total) :
    (∀ lo k, lo + k ≤ w → field (head + 2 ^ w * crc16 (bytesLE n head)) lo k = field head lo k) ∧
      decide (field (head + 2 ^ w * crc16 (bytesLE n head)) w 16 =
        crc16 (bytesLE n ((head + 2 ^ w * crc16 (bytesLE n head)) % 2 ^ w))) = true ∧
      head + 2 ^ w * crc16 (bytesLE n head) < 2 ^ total := by
  have hcrc := crc16_lt (bytesLE n head)
  refine ⟨fun lo k h => field_add_mul_low h, ?_, ?_⟩
  · rw [field_add_mul hhead (Nat.le_refl w), Nat.add_mul_mod_self_left, Nat.mod_eq_of_lt hhead, Nat.sub_self, field, pow_zero,
      Nat.div_one, Nat.mod_eq_of_lt hcrc]
    exact decide_eq_true rfl
  · have hmul : 2 ^ w * (crc16 (bytesLE n head) + 1) ≤ 2 ^ w * 2 ^ 16 := Nat.mul_le_mul_left _ hcrc
    rw [← htotal, Nat.pow_add]
    rw [Nat.mul_add, Nat.mul_one] at hmul
    omega

/-! ## The messages and headers -/

theorem tickHead_lt (m : TickMsg) : tickHead m < 2 ^ 144 := by
  unfold tickHead
  exact pack_lt_of_width (w := 144) (by simp [packWidth])

/-- A tick message reads back, passes its CHECK and fills its 20 bytes (Table 2.2). -/
theorem encodeTick_reads {m : TickMsg} (h0 : m.tickCount < 2 ^ 48) (h1 : m.step < 2 ^ 40) (h2 : m.slot < 2 ^ 24)
    (h3 : m.epoch < 2 ^ 16) (h4 : m.group < 16) :
    decodeTick (encodeTick m) = m ∧ tickCheckOk (encodeTick m) = true ∧ encodeTick m < 2 ^ 160 := by
  obtain ⟨hfield, hcheck, hlt⟩ := checked_message (total := 160) 18 (tickHead_lt m) rfl
  refine ⟨?_, by unfold tickCheckOk encodeTick; exact hcheck, by unfold encodeTick; exact hlt⟩
  simp only [decodeTick, encodeTick, bitAt_eq_field]
  repeat rw [hfield _ _ (by decide)]
  simp (disch := omega) [tickHead, field_pack_tail, field_pack_head, Nat.mod_eq_of_lt]

theorem beaconHead_lt (b : Beacon) : beaconHead b < 2 ^ 368 := by
  unfold beaconHead
  exact pack_lt_of_width (w := 368) (by simp [packWidth])

/-- A beacon reads back, passes its CHECK and fills its 48 bytes (Table 16.1). -/
theorem encodeBeacon_reads {b : Beacon} (h0 : b.member < 64) (h1 : b.group < 16) (h2 : b.tickCount < 2 ^ 48)
    (h3 : b.step < 2 ^ 40) (h4 : b.roll < 256) (h5 : b.state < 256) (hlo : -(2 ^ 31 : Int) ≤ b.rampReq)
    (hhi : b.rampReq < 2 ^ 31) (h6 : b.outMask < 2 ^ 84) (h7 : b.tjMax < 256) (h8 : b.newFaults < 65536)
    (h9 : b.lastFault < 65536) :
    decodeBeacon (encodeBeacon b) = b ∧ beaconCheckOk (encodeBeacon b) = true ∧ encodeBeacon b < 2 ^ 384 := by
  obtain ⟨hfield, hcheck, hlt⟩ := checked_message (total := 384) 46 (beaconHead_lt b) rfl
  refine ⟨?_, by unfold beaconCheckOk encodeBeacon; exact hcheck, by unfold encodeBeacon; exact hlt⟩
  have hramp := ofSigned_lt 32 b.rampReq
  simp only [decodeBeacon, encodeBeacon]
  repeat rw [hfield _ _ (by decide)]
  simp (disch := omega) [beaconHead, field_pack_tail, field_pack_head, Nat.mod_eq_of_lt,
    toSigned_ofSigned (w := 32) (by decide) hlo hhi]

/-- A header flit reads back (Table 3.2). -/
theorem decodeFlit_encodeFlit {f : Flit} (h0 : f.fmt < 16) (h1 : f.type < 16) (h2 : f.vc < 8) (h3 : f.destBx < 256)
    (h4 : f.destBy < 512) (h5 : f.srcBx < 256) (h6 : f.srcBy < 512) (h7 : f.len < 512) (h8 : f.destKind < 4)
    (h9 : f.addr < 2 ^ 32) (h10 : f.tag < 65536) (h11 : f.ctx < 64) (h12 : f.comm < 64) :
    decodeFlit (encodeFlit f) = f := by
  simp (disch := omega) [decodeFlit, encodeFlit, bitAt_eq_field, field_pack_tail, field_pack_head, Nat.mod_eq_of_lt]

/-- A unit map entry reads back (Table 3.5). -/
theorem decodeMapEntry_encodeMapEntry {e : MapEntry} (h0 : e.kind < 4) (h1 : e.level < 16) (h2 : e.parent < 65536)
    (h3 : e.target < 65536) (h4 : e.cw < 64) (h5 : e.ch < 64) : decodeMapEntry (encodeMapEntry e) = e := by
  simp (disch := omega) [decodeMapEntry, encodeMapEntry, field_pack_tail, field_pack_head, Nat.mod_eq_of_lt]

/-- A contribution header reads back (Table 10.3). -/
theorem decodeContrib_encodeContrib {c : ContribHdr} (h0 : c.block < 2 ^ 32) (h1 : c.piece < 8) (h2 : c.mode < 8)
    (h3 : c.shift < 16) (h4 : c.group < 16) (h5 : c.member < 64) (h6 : c.maxb < 64) (h7 : c.step < 65536)
    (h8 : c.roll < 256) (h9 : c.core < 16) (h10 : c.res < 65536) (h11 : c.ackAddr < 65536) :
    decodeContrib (encodeContrib c) = c := by
  simp (disch := omega) [decodeContrib, encodeContrib, bitAt_eq_field, field_pack_tail, field_pack_head, Nat.mod_eq_of_lt]

/-- Settles O58: each layout is a list of packed fields, read at the sum of the widths before it. -/
theorem encodedMessagesReadBack : Obligations.EncodedMessagesReadBack := by
  unfold Obligations.EncodedMessagesReadBack
  exact ⟨fun _ => encodeTick_reads, fun _ => encodeBeacon_reads, fun _ => decodeFlit_encodeFlit,
    fun _ => decodeMapEntry_encodeMapEntry, fun _ => decodeContrib_encodeContrib⟩

end Sys2Proof.Machine

/-! SUPPORT. The bits of the pin registers, accepted levels (R524, R525), and the record at the head of the fault records. -/

namespace Sys2Proof.Machine

/-! ## One bit of a mask -/

theorem testBit_add_two_pow {m n : Nat} (h : m.testBit n = false) (k : Nat) :
    (m + 2 ^ n).testBit k = if k = n then true else m.testBit k := by
  induction n generalizing m k with
  | zero =>
    have heven : m % 2 = 0 := by simpa [Nat.testBit_zero] using h
    cases k with
    | zero => simp [Nat.testBit_zero]; omega
    | succ k => simp [Nat.testBit_succ, show (m + 1) / 2 = m / 2 by omega]
  | succ n ih =>
    rw [Nat.testBit_succ] at h
    cases k with
    | zero => simp [Nat.testBit_zero, Nat.pow_succ]
    | succ k =>
      rw [Nat.testBit_succ, Nat.testBit_succ, Nat.pow_succ, Nat.add_mul_div_right _ _ (by decide), ih h]
      simp

theorem testBit_sub_two_pow {m n : Nat} (h : m.testBit n = true) (k : Nat) :
    (m - 2 ^ n).testBit k = if k = n then false else m.testBit k := by
  obtain ⟨r, rfl⟩ : ∃ r, m = r + 2 ^ n := ⟨m - 2 ^ n, (Nat.sub_add_cancel (Nat.ge_two_pow_of_testBit h)).symm⟩
  have hr : r.testBit n = false := by
    rw [Nat.add_comm, Nat.testBit_two_pow_add_eq] at h
    simpa using h
  rw [Nat.add_sub_cancel, testBit_add_two_pow hr]
  split
  next hk => rw [hk, hr]
  next => rfl

/-- A bit put is read back, and every other stays. -/
theorem bitAt_putBit (n : Nat) (on : Bool) (m k : Nat) : bitAt (putBit n on m) k = if k = n then on else bitAt m k := by
  unfold putBit
  split
  next heq =>
    split
    next hk => rw [hk, heq]
    next => rfl
  next hne =>
    cases on with
    | true => exact testBit_add_two_pow (by simpa [bitAt] using hne) k
    | false => exact testBit_sub_two_pow (by simpa [bitAt] using hne) k

@[simp] theorem bitAt_putBit_same (n : Nat) (on : Bool) (m : Nat) : bitAt (putBit n on m) n = on := by
  rw [bitAt_putBit, if_pos rfl]

@[simp] theorem bitAt_putBit_ne {n k : Nat} (on : Bool) (m : Nat) (h : k ≠ n) : bitAt (putBit n on m) k = bitAt m k := by
  rw [bitAt_putBit, if_neg h]

/-! ## Accepted levels (R524) -/

theorem acceptLevel_pins (n : Nat) (on : Bool) (s : State) : acceptLevel n on s = { s with pins := (acceptLevel n on s).pins } := by
  unfold acceptLevel
  split <;> rfl

@[simp] theorem acceptLevel_asserted (n : Nat) (on : Bool) (s : State) :
    (acceptLevel n on s).pins.asserted = putBit n on s.pins.asserted := by
  unfold acceptLevel
  split <;> rfl

/-- The level at which no stuck time runs ends a stuck condition (R525). -/
theorem acceptLevel_stuck {n : Nat} {on : Bool} (s : State) (h : on ≠ stuckLevel n) :
    (acceptLevel n on s).pins.stuck = putBit n false s.pins.stuck := by
  unfold acceptLevel
  rw [if_neg h]

@[simp] theorem acceptLevel_leadSel (n : Nat) (on : Bool) (s : State) : (acceptLevel n on s).pins.leadSel = s.pins.leadSel := by
  unfold acceptLevel
  split <;> rfl

@[simp] theorem acceptLevel_haltSent (n : Nat) (on : Bool) (s : State) :
    (acceptLevel n on s).pins.haltSent = s.pins.haltSent := by
  unfold acceptLevel
  split <;> rfl

@[simp] theorem acceptLevel_flash (n : Nat) (on : Bool) (s : State) : (acceptLevel n on s).flash = s.flash :=
  (acceptLevel_grows n on s).same .flash rfl

@[simp] theorem acceptLevel_power (n : Nat) (on : Bool) (s : State) : (acceptLevel n on s).power = s.power :=
  (acceptLevel_grows n on s).same .power rfl

@[simp] theorem acceptLevel_job (n : Nat) (on : Bool) (s : State) : (acceptLevel n on s).job = s.job :=
  (acceptLevel_grows n on s).same .job rfl

@[simp] theorem acceptLevel_sent (n : Nat) (on : Bool) (s : State) : (acceptLevel n on s).sent = s.sent :=
  (acceptLevel_grows n on s).same .sent rfl

/-! ## Fault records (R551) -/

/-- The record that FAULT.RECORD_HEAD names. -/
abbrev headRecord (s : State) : FaultRec := mapGet {} s.fault.records s.fault.head

@[simp] theorem event_fault (code detail : Nat) (s : State) : (event code detail s).fault = s.fault :=
  (event_grows code detail s).same .fault rfl

@[simp] theorem faultEvent_fault (r : FaultRec) (s : State) : (faultEvent r s).fault = (recordFault r s).fault :=
  event_fault _ _ _

/-- A fault's record stands at the head, with the time and place of its writing. -/
theorem headRecord_recordFault (r : FaultRec) (s : State) :
    (mapGet {} (recordFault r s).fault.records (recordFault r s).fault.head).cls = r.cls ∧
      (mapGet {} (recordFault r s).fault.records (recordFault r s).fault.head).code = r.code ∧
      (mapGet {} (recordFault r s).fault.records (recordFault r s).fault.head).detail = r.detail := by
  simp [recordFault]

end Sys2Proof.Machine

/-! SUPPORT. What the shutter's commands do on a READY module (R507 to R511). -/

namespace Sys2Proof.Machine

/-! ## A shutter that latches (R508, R509) -/

/-- The snapshot state that a shutter of source `code` leaves where it latches under `id`. -/
def latchedSnap (code id : Nat) (s : State) : SnapS :=
  { s.snap with lastId := id, lastSource := code, lastTick := s.tick.tickCount, lastTime := moduleTime s, armed := false
                latching := true, latchAt := s.now, image := some (latchImage id s), older := keptImages s }

theorem fireShutter_eq {code : Nat} {s : State} (id : Option Nat) (henabled : bitAt s.snap.sources (code - 1) = true)
    (harmed : s.snap.armed = true) :
    fireShutter code id s = { s with snap := latchedSnap code (id.getD (nextShutterId s)) s } := by
  simp only [fireShutter, henabled, harmed, Bool.not_true, Bool.false_eq_true, if_false, latchedSnap]

theorem fireShutter_of_disabled {code : Nat} {s : State} (id : Option Nat) (h : bitAt s.snap.sources (code - 1) = false) :
    fireShutter code id s = s := by
  simp only [fireShutter, h, Bool.not_false, if_true]

theorem only_fireShutter {code : Nat} {s : State} (id : Option Nat) (henabled : bitAt s.snap.sources (code - 1) = true)
    (harmed : s.snap.armed = true) : Only [.snap] s (fireShutter code id s) := by
  rw [fireShutter_eq id henabled harmed]
  exact only_of_patch rfl

/-! ## The shutter's commands -/

theorem shutterInEdge_latches (n : Nat) {s : State} (hready : Ready s) (henabled : bitAt s.snap.sources 1 = true)
    (harmed : s.snap.armed = true) :
    exec (.shutterInEdge n) s =
      .next { pulseAt 5 (atTime n s) with snap := latchedSnap 2 (nextShutterId s) (pulseAt 5 (atTime n s)) } := by
  have hfire := fireShutter_eq (code := 2) (s := pulseAt 5 (atTime n s)) none henabled harmed
  rw [exec_shutterInEdge_of_ready n hready, hfire]
  rfl

theorem faultShutter_of_group (n : Nat) {s : State} (hready : Ready s) (henabled : bitAt s.snap.sources 2 = true)
    (hscope : s.snap.faultScopeGroup = true) (hconfigured : s.job.configured = true) (hlead : isLead s = false)
    (harmed : s.snap.armed = true) :
    exec (.faultShutter n) s =
      .next (emit (.shutterRequest 3) { atTime n s with snap := latchedSnap 3 (nextShutterId s) (atTime n s) }) := by
  have hlead' : isLead (atTime n s) = false := hlead
  have hfire := fireShutter_eq (code := 3) (s := atTime n s) none henabled harmed
  refine (next_of_ready hready rfl).trans ?_
  simp only [atTime_snap, atTime_job, henabled, hscope, hconfigured, hlead', hfire, Bool.not_true, Bool.or_self,
    Bool.false_eq_true, if_false]
  rfl

theorem faultShutter_of_module (n : Nat) {s : State} (hready : Ready s) (henabled : bitAt s.snap.sources 2 = true)
    (hscope : s.snap.faultScopeGroup = false) (harmed : s.snap.armed = true) :
    exec (.faultShutter n) s = .next { atTime n s with snap := latchedSnap 3 (nextShutterId s) (atTime n s) } := by
  have hfire := fireShutter_eq (code := 3) (s := atTime n s) none henabled harmed
  refine (next_of_ready hready rfl).trans ?_
  simp only [atTime_snap, henabled, hscope, hfire, Bool.not_true, Bool.not_false, Bool.true_or, Bool.false_eq_true, if_false,
    if_true]
  rfl

/-- The first request of a tick at a lead whose own shutter is armed. -/
theorem shutterRequest_of_armed (n : Nat) (m : Fin 1024) (src : Fin 16) {s : State} (hready : Ready s)
    (hlead : isLead s = true) (henabled : bitAt s.snap.sources 4 = true) (harmed : s.snap.armed = true)
    (hnone : s.snap.requests = []) :
    exec (.shutterRequest n m src) s = .next (sendShutterPacket src.val m.val { holdFirstRequest n m.val s with
      snap := latchedSnap 5 (nextShutterId s) (holdFirstRequest n m.val s) }) := by
  have hfire := fireShutter_eq (code := 5) (s := holdFirstRequest n m.val s) none henabled harmed
  rw [exec_shutterRequest_first n m src hready hlead hnone, hfire]
  rfl

/-- A later request of the same tick is held, and fires nothing. -/
theorem shutterRequest_again (n : Nat) (m : Fin 1024) (src : Fin 16) {k : Nat} {s : State} (hready : Ready s)
    (hlead : isLead s = true) (hheld : (k, s.tick.tickCount) ∈ s.snap.requests) :
    exec (.shutterRequest n m src) s = .next { atTime n s with snap := { s.snap with
      requests := (s.snap.requests.filter fun r => decide (r.2 = s.tick.tickCount)) ++ [(m.val, s.tick.tickCount)] } } := by
  have hlead' : isLead (atTime n s) = true := hlead
  have hagain : ((atTime n s).snap.requests.any fun r => decide (r.2 = (atTime n s).tick.tickCount)) = true :=
    List.any_eq_true.mpr ⟨_, hheld, decide_eq_true rfl⟩
  refine (next_of_ready hready rfl).trans ?_
  simp only [hlead', hagain, Bool.not_true, Bool.false_eq_true, if_false, if_true]
  rfl

/-- A shutter packet at a module that leads no group: its ID is taken, and nothing goes on. -/
theorem glintShutter_of_member (n : Nat) (p : BitVec 64) {s : State} (hready : Ready s) (hlead : isLead s = false)
    (henabled : bitAt s.snap.sources 4 = true) (harmed : s.snap.armed = true) :
    exec (.glintShutter n p) s =
      .next { atTime n s with snap := latchedSnap 5 (field p.toNat 0 16) (atTime n s) } := by
  have hfire := fireShutter_eq (code := 5) (s := atTime n s) (some (field p.toNat 0 16)) henabled harmed
  have hlead' (v : SnapS) : isLead { atTime n s with snap := v } = false := hlead
  refine (next_of_ready hready rfl).trans ?_
  simp only [hfire, hlead', Bool.false_and, Bool.false_eq_true, if_false, Option.getD_some]

theorem bankLatchComplete_due (n : Nat) {s : State} (hready : Ready s) (hlatching : s.snap.latching = true)
    (hdue : s.snap.latchAt + 20000 ≤ n) :
    exec (.bankLatchComplete n) s = .next { atTime n s with snap := { s.snap with
      latching := false, armed := s.snap.armed || s.snap.rearmPending, rearmPending := false } } := by
  have hdue' : s.snap.latchAt + 20000 ≤ max s.now n := Nat.le_trans hdue (Nat.le_max_right ..)
  refine (next_of_ready hready rfl).trans ?_
  simp only [atTime_snap, hlatching, atTime_now, hdue', decide_true, Bool.and_self, if_true]

/-- Settles O53: each clause reads the state that its command's equation above gives. -/
theorem shuttersLatchOnce : Obligations.ShuttersLatchOnce := by
  unfold Obligations.ShuttersLatchOnce
  refine ⟨fun n s hready henabled harmed => ?_, fun n s hready henabled hdisarmed => ?_, fun n s hready hdisabled => ?_,
    fun n s hready henabled hscope hconfigured hlead harmed => ?_, fun n s hready henabled hscope harmed => ?_,
    fun n m src s hready hlead henabled harmed hnone => ?_, fun n m src s k hready hlead hheld => ?_,
    fun n p s hready hlead henabled harmed => ?_, fun n s hready hlatching hdue => ?_⟩
  · exact ⟨_, shutterInEdge_latches n hready henabled harmed, rfl, rfl, rfl, rfl, rfl, rfl, rfl, only_of_patch rfl⟩
  · obtain ⟨t, ht, _, hcount, honly⟩ := shutterInEdge_of_disarmed n hready henabled hdisarmed
    exact ⟨t, ht, hcount, honly⟩
  · refine ⟨_, exec_shutterInEdge_of_ready n hready, ?_⟩
    rw [fireShutter_of_disabled none (by exact hdisabled)]
    exact shutterInPulse_only n s
  · exact ⟨_, faultShutter_of_group n hready henabled hscope hconfigured hlead harmed, rfl, rfl, rfl, only_of_patch rfl⟩
  · exact ⟨_, faultShutter_of_module n hready henabled hscope harmed, rfl, rfl, only_of_patch rfl⟩
  · exact ⟨_, shutterRequest_of_armed n m src hready hlead henabled harmed hnone, rfl, rfl, rfl, only_of_patch rfl⟩
  · exact ⟨_, shutterRequest_again n m src hready hlead hheld, List.mem_append_right _ List.mem_cons_self, rfl, rfl,
      only_of_patch rfl⟩
  · exact ⟨_, glintShutter_of_member n p hready hlead henabled harmed, by simp [latchedSnap, field], rfl, rfl,
      only_of_patch rfl⟩
  · exact ⟨_, bankLatchComplete_due n hready hlatching hdue, rfl, only_of_patch rfl⟩

end Sys2Proof.Machine

/-! SUPPORT. The discrete inputs (chapter 18): what THR_N, TEMP_ALERT_N and HALT_N do (R457, R458, R527). -/

namespace Sys2Proof.Machine

/-! ## POWER events leave power and pins alone -/

@[simp] theorem powerEvent_power (cause what : Nat) (s : State) : (powerEvent cause what s).power = s.power :=
  (powerEvent_grows cause what s).same .power rfl

@[simp] theorem powerEvent_pins (cause what : Nat) (s : State) : (powerEvent cause what s).pins = s.pins :=
  (powerEvent_grows cause what s).same .pins rfl

@[simp] theorem powerEvent_job (cause what : Nat) (s : State) : (powerEvent cause what s).job = s.job :=
  (powerEvent_grows cause what s).same .job rfl

theorem powerEvent_only (cause what : Nat) (s : State) : Only [.sent, .side, .mem, .host] s (powerEvent cause what s) :=
  (powerEvent_grows cause what s).onlyIn _ rfl

/-! ## The ceiling under an input (R457, R458) -/

theorem softCeiling_le_of_thr {s : State} (h : s.power.thr = true) : softCeiling s ≤ ofEnvelope s.power.thrFloor := by
  simp only [softCeiling, h, if_true]
  omega

theorem softCeiling_le_of_alert {s : State} (h : s.power.alert = true) : softCeiling s ≤ ofEnvelope s.power.safeCap := by
  simp only [softCeiling, h, Bool.or_true, Bool.true_or, if_true]
  omega

theorem glowTarget_of_alert {s : State} (h : s.power.alert = true) : glowTarget s = 0 := by
  simp [glowTarget, h]

/-- A level of input `n` accepted, with what it sets in the power state, and the event of its cause. -/
def powerInput (n : Nat) (on : Bool) (cause now : Nat) (p : PowerS) (s : State) : State :=
  powerEvent cause 0 { acceptLevel n on (atTime now s) with power := p }

@[simp] theorem powerInput_power (n : Nat) (on : Bool) (cause now : Nat) (p : PowerS) (s : State) :
    (powerInput n on cause now p s).power = p := powerEvent_power _ _ _

@[simp] theorem powerInput_pins (n : Nat) (on : Bool) (cause now : Nat) (p : PowerS) (s : State) :
    (powerInput n on cause now p s).pins = (acceptLevel n on (atTime now s)).pins := powerEvent_pins _ _ _

theorem powerInput_only {n : Nat} {on : Bool} {cause now : Nat} {p : PowerS} {s : State} :
    Only [.now, .sent, .pins, .side, .power, .mem, .host] s (powerInput n on cause now p s) := by
  have hlevel : Only [.now, .pins, .power] s { acceptLevel n on (atTime now s) with power := p } := by
    rw [acceptLevel_pins]
    exact only_of_patch rfl
  exact (hlevel.trans (powerEvent_only cause 0 _)).mono (by decide)

theorem ready_acceptLevel {s : State} (n now : Nat) (on : Bool) (h : Ready s) : Ready (acceptLevel n on (atTime now s)) := by
  rw [Ready, acceptLevel_boot]
  exact h

/-- What an input does at a READY module that notes it in the power state. -/
theorem powerInput_of_ready {n now cause : Nat} {on : Bool} {p : PowerS → PowerS} {s : State} (hready : Ready s)
    {o : Host.Outcome State Fault Refusal}
    (ho : o = .next (whenPowered (fun st => ifReady (powerEvent cause 0) { acceptLevel n on st with
      power := p (acceptLevel n on st).power }) (atTime now s))) : o = .next (powerInput n on cause now (p s.power) s) := by
  have hon : (atTime now s).boot.state ≠ .off := by
    rw [atTime_boot, hready]
    decide
  have hready' : Ready { acceptLevel n on (atTime now s) with power := p (acceptLevel n on (atTime now s)).power } :=
    ready_acceptLevel n now on hready
  rw [ho, whenPowered_of_on _ hon, ifReady_of_ready _ hready', acceptLevel_power]
  rfl

/-! ## HALT_N (R527) -/

/-- A HALT_N level at a READY module. -/
def haltLevel (on : Bool) (now : Nat) (s : State) : State := acceptLevel 3 on (atTime now s)

theorem haltLevel_only {on : Bool} {now : Nat} {s : State} : Only [.now, .pins] s (haltLevel on now s) := by
  rw [haltLevel, acceptLevel_pins]
  exact only_of_patch rfl

theorem ready_on {s : State} (now : Nat) (h : Ready s) : (atTime now s).boot.state ≠ .off := by
  rw [atTime_boot, h]
  decide

theorem haltNAssert_of_ready (n : Nat) {s : State} (hready : Ready s) :
    exec (.haltNAssert n) s = .next (if (haltLevel true n s).job.started then
      ownHalt false { haltLevel true n s with pins := { (haltLevel true n s).pins with haltSent := !isJobLead (haltLevel true n s) } }
      else haltLevel true n s) :=
  (next_of_on (ready_on n hready) rfl).trans (congrArg _ (ifReady_of_ready _ (ready_acceptLevel 3 n true hready)))

theorem haltNRelease_of_ready (n : Nat) {s : State} (hready : Ready s) :
    exec (.haltNRelease n) s = .next (let s2 := { haltLevel false n s with pins := { (haltLevel false n s).pins with haltSent := false } }
      if (haltLevel false n s).pins.haltSent || isJobLead s2 then ownHalt true s2 else s2) :=
  (next_of_on (ready_on n hready) rfl).trans
    (congrArg _ (ifReady_of_ready _ (show Ready _ from ready_acceptLevel 3 n false hready)))

@[simp] theorem haltLevel_job (on : Bool) (now : Nat) (s : State) : (haltLevel on now s).job = s.job := by simp [haltLevel]

/-- A member's halt request goes to its lead. -/
theorem ownHalt_of_member {w : Bool} {s : State} (hstarted : s.job.started = true) (hlead : isJobLead s = false) :
    ownHalt w s = emit (.halt (selfIndex s) w) s := by
  simp only [ownHalt, hstarted, hlead, Bool.not_true, Bool.false_eq_true, if_false]

theorem ownHalt_of_jobLead {w : Bool} {s : State} (hstarted : s.job.started = true) (hlead : isJobLead s = true) :
    ownHalt w s = if w then dropHalt s else askHalt s := by
  simp only [ownHalt, hstarted, hlead, Bool.not_true, Bool.false_eq_true, if_false, if_true]

/-- The first request that the job lead meets makes the pause, and passes it on. -/
theorem askHalt_of_none {s : State} (hpause : s.job.haltPause = false) (hholds : s.job.holds = [])
    (hfor : s.job.pauseFor = []) :
    askHalt s = { s with sent := s.sent ++ [.distribute cmdHdrNone .jobPause]
                         job := { s.job with haltPause := true, pauseFor := [1] } } := by
  simp [askHalt, askPause, hpause, hholds, hfor, emit]

theorem askHalt_of_paused {s : State} (h : s.job.haltPause = true) : askHalt s = s := by
  simp only [askHalt, h, if_true]

/-- The last request withdrawn ends the pause that no host asked for. -/
theorem dropHalt_of_last {s : State} (hasked : haltAsked s = false) (hpause : s.job.haltPause = true)
    (hhost : s.job.hostPause = false) :
    dropHalt s = { s with sent := s.sent ++ [.distribute cmdHdrNone .jobResume]
                          job := { s.job with haltPause := false
                                              pauseFor := s.job.pauseFor.filter fun c => decide (c ≠ 1)
                                              holds := s.job.holds.filter fun c => decide (c ≠ 1) } } := by
  simp [dropHalt, hasked, hpause, hhost, emit]

theorem haltNAssert_of_member (n : Nat) {s : State} (hready : Ready s) (hstarted : s.job.started = true)
    (hlead : isJobLead s = false) :
    exec (.haltNAssert n) s = .next (emit (.halt (selfIndex s) false)
      { haltLevel true n s with pins := { (haltLevel true n s).pins with haltSent := true } }) := by
  have hjob (v : PinsS) : ({ haltLevel true n s with pins := v } : State).job = s.job := haltLevel_job ..
  have hlead0 := (isJobLead_congr (haltLevel_job true n s)).trans hlead
  rw [haltNAssert_of_ready n hready, haltLevel_job, if_pos hstarted, hlead0,
    ownHalt_of_member (by rw [hjob, hstarted]) ((isJobLead_congr (hjob _)).trans hlead), selfIndex_congr (hjob _)]
  rfl

theorem haltNAssert_of_jobLead (n : Nat) {s : State} (hready : Ready s) (hstarted : s.job.started = true)
    (hlead : isJobLead s = true) (hpause : s.job.haltPause = false) (hholds : s.job.holds = [])
    (hfor : s.job.pauseFor = []) :
    exec (.haltNAssert n) s = .next { haltLevel true n s with
      sent := s.sent ++ [.distribute cmdHdrNone .jobPause], job := { s.job with haltPause := true, pauseFor := [1] }
      pins := { (haltLevel true n s).pins with haltSent := false } } := by
  have hjob (v : PinsS) : ({ haltLevel true n s with pins := v } : State).job = s.job := haltLevel_job ..
  have hlead0 := (isJobLead_congr (haltLevel_job true n s)).trans hlead
  rw [haltNAssert_of_ready n hready, haltLevel_job, if_pos hstarted, hlead0,
    ownHalt_of_jobLead (by rw [hjob, hstarted]) ((isJobLead_congr (hjob _)).trans hlead), if_neg Bool.false_ne_true,
    askHalt_of_none (by rw [hjob, hpause]) (by rw [hjob, hholds]) (by rw [hjob, hfor]), hjob]
  simp [haltLevel]

theorem haltNRelease_of_member (n : Nat) {s : State} (hready : Ready s) (hstarted : s.job.started = true)
    (hlead : isJobLead s = false) (hsent : s.pins.haltSent = true) :
    exec (.haltNRelease n) s = .next (emit (.halt (selfIndex s) true)
      { haltLevel false n s with pins := { (haltLevel false n s).pins with haltSent := false } }) := by
  have hjob (v : PinsS) : ({ haltLevel false n s with pins := v } : State).job = s.job := haltLevel_job ..
  have hsent' : (haltLevel false n s).pins.haltSent = true := by simpa [haltLevel] using hsent
  rw [haltNRelease_of_ready n hready]
  simp only [hsent', Bool.true_or, if_true]
  rw [ownHalt_of_member (by rw [hjob, hstarted]) ((isJobLead_congr (hjob _)).trans hlead), selfIndex_congr (hjob _)]

/-! ## HALT_REQUEST -/

theorem haltRequest_of_jobLead (m : Fin 1024) {w : Bool} {s : State} (hready : Ready s) (hlead : isJobLead s = true)
    (hstarted : s.job.started = true) :
    exec (.haltRequest m w) s = .next (let s1 := setMember m.val { memberS s m.val with halt := !w } s
      if w then dropHalt s1 else askHalt s1) := by
  refine (next_of_ready hready rfl).trans ?_
  simp only [hlead, if_true, setMember_job, hstarted, Bool.not_true, Bool.false_eq_true, if_false]

theorem haltRequest_of_lead (m : Fin 1024) (w : Bool) {s : State} (hready : Ready s) (hlead : isLead s = true)
    (hjobLead : isJobLead s = false) (hstarted : s.job.started = true) :
    exec (.haltRequest m w) s = .next (emit (.halt m.val w) s) := by
  refine (next_of_ready hready rfl).trans ?_
  simp only [hlead, hjobLead, hstarted, Bool.and_self, Bool.false_eq_true, if_false, if_true]

theorem setMember_only {k : Nat} {m : MemberS} {s : State} : Only [.grp] s (setMember k m s) := only_of_patch rfl

/-- The withdrawal of the only member that asked leaves no request. -/
theorem haltAsked_after_last {s : State} {m : Nat} (hmembers : s.grp.members = mapSet {} [] m { halt := true })
    (hpin : bitAt s.pins.asserted 3 = false) :
    haltAsked (setMember m { memberS s m with halt := false } s) = false := by
  have hmember : memberS s m = { halt := true } := by rw [memberS, hmembers, mapGet_mapSet_same]
  have hnone : (setMember m { memberS s m with halt := false } s).grp.members = [] := by
    rw [hmember]
    simp [setMember, hmembers, mapSet, mapPut]
  simp only [haltAsked, setMember_pins, hpin, hnone, List.any_nil, Bool.or_self]

/-- Settles O55. -/
theorem inputsAreHeeded : Obligations.InputsAreHeeded := by
  unfold Obligations.InputsAreHeeded
  refine ⟨fun n s hready => ?_, fun n s hready => ?_, fun n s hready => ?_, fun n s hready => ?_,
    fun n s hready hstarted hlead => ?_, fun n s hready hstarted => ?_,
    fun n s hready hstarted hlead hpause hholds hfor => ?_, fun n s hready hstarted hlead hsent => ?_,
    fun m s hready hlead hstarted hpause => ?_, fun m s hready hlead hstarted hpause hhost hmembers hpin => ?_,
    fun m w s hready hlead hjobLead hstarted => ?_⟩
  · exact ⟨_, powerInput_of_ready (p := fun p => { p with thr := true }) hready rfl, powerInput_power .., by simp,
      (softCeiling_le_of_thr (by simp)).trans (by simp), powerInput_only⟩
  · exact ⟨_, powerInput_of_ready (p := fun p => { p with thr := false }) hready rfl, powerInput_power .., by simp,
      by simp [acceptLevel_stuck, stuckLevel], powerInput_only⟩
  · exact ⟨_, powerInput_of_ready (p := fun p => { p with alert := true }) hready rfl, powerInput_power .., by simp,
      (softCeiling_le_of_alert (by simp)).trans (by simp), glowTarget_of_alert (by simp), powerInput_only⟩
  · exact ⟨_, powerInput_of_ready (p := fun p => { p with alert := false }) hready rfl, powerInput_power .., by simp,
      by simp [acceptLevel_stuck, stuckLevel], powerInput_only⟩
  · refine ⟨_, haltNAssert_of_member n hready hstarted hlead, ?_, ?_, rfl, ?_⟩
    · simp [haltLevel]
    · simp [haltLevel]
    · rw [haltLevel, acceptLevel_pins]; exact only_of_patch rfl
  · refine ⟨haltLevel true n s, ?_, by simp [haltLevel], haltLevel_only⟩
    rw [haltNAssert_of_ready n hready, haltLevel_job, hstarted]
    rfl
  · refine ⟨_, haltNAssert_of_jobLead n hready hstarted hlead hpause hholds hfor, rfl, rfl, ?_⟩
    rw [haltLevel, acceptLevel_pins]; exact only_of_patch rfl
  · refine ⟨_, haltNRelease_of_member n hready hstarted hlead hsent, ?_, ?_, rfl, ?_⟩
    · simp [haltLevel]
    · simp [haltLevel]
    · rw [haltLevel, acceptLevel_pins]; exact only_of_patch rfl
  · refine ⟨setMember m.val { memberS s m.val with halt := true } s, ?_, memberS_setMember_same .., fun k hk =>
      memberS_setMember_ne _ _ hk, setMember_only⟩
    rw [haltRequest_of_jobLead m hready hlead hstarted]
    exact congrArg _ (askHalt_of_paused hpause)
  · have hdrop := dropHalt_of_last (s := setMember m.val { memberS s m.val with halt := false } s)
      (haltAsked_after_last hmembers hpin) hpause hhost
    refine ⟨_, (haltRequest_of_jobLead m hready hlead hstarted).trans (congrArg _ hdrop), rfl, ?_, ?_, rfl, only_of_patch rfl⟩
    · simp
    · simp
  · exact ⟨_, haltRequest_of_lead m w hready hlead hjobLead hstarted, rfl, only_of_patch rfl⟩

end Sys2Proof.Machine

/-! SUPPORT. RST_N, PWR_GOOD and LEAD_SEL (R443, R525, R526, R528), and stuck inputs (Table 18.4). -/

namespace Sys2Proof.Machine

/-! ## Held in reset, and released -/

theorem heldInReset_of_running {s : State} (h : s.boot.state ≠ .reset) : heldInReset s = resetModule false s := if_neg h

/-- A held level takes a READY module to reset, with no start due. -/
theorem heldLevel_of_ready {n now : Nat} {on : Bool} {s : State} (hready : Ready s) {o : Host.Outcome State Fault Refusal}
    (ho : o = .next (whenPowered (fun st => heldInReset (acceptLevel n on st)) (atTime now s))) :
    o = .next (resetModule false (acceptLevel n on (atTime now s))) := by
  have hstate : (acceptLevel n on (atTime now s)).boot.state ≠ .reset := by
    rw [acceptLevel_boot, atTime_boot, hready]
    decide
  rw [next_of_on (ready_on now hready) ho, heldInReset_of_running hstate]

theorem rstNAssert_of_ready (n : Nat) {s : State} (hready : Ready s) :
    exec (.rstNAssert n) s = .next (resetModule false (acceptLevel 0 true (atTime n s))) := heldLevel_of_ready hready rfl

theorem pwrGoodFall_of_ready (n : Nat) {s : State} (hready : Ready s) :
    exec (.pwrGoodFall n) s = .next (resetModule false (acceptLevel 1 false (atTime n s))) := heldLevel_of_ready hready rfl

/-- A start is due once the module is in reset and both inputs stand at their released levels. -/
theorem releaseReset_of_released {s : State} (hreset : s.boot.state = .reset) (hrst : bitAt s.pins.asserted 0 = false)
    (hgood : bitAt s.pins.asserted 1 = true) :
    releaseReset s = { s with boot := { s.boot with startPending := true } } := if_pos ⟨hreset, hrst, hgood⟩

theorem releaseReset_of_held {s : State} (hgood : bitAt s.pins.asserted 1 = false) : releaseReset s = s :=
  if_neg fun h => by simp [hgood] at h

/-- RST_N's release, before the start is looked for: LEAD_SEL is latched and its reports begin again (R528). -/
def latchLeadSel (n : Nat) (l : Bool) (s : State) : State :=
  let s1 := acceptLevel 7 l (acceptLevel 0 false (atTime n s))
  { s1 with pins := { s1.pins with leadSel := l, leadSelReported := false, stuck := putBit 7 false s1.pins.stuck } }

theorem latchLeadSel_pins_only {n : Nat} {l : Bool} {s : State} : Only [.now, .pins] s (latchLeadSel n l s) := by
  rw [latchLeadSel, acceptLevel_pins 7, acceptLevel_pins 0]
  exact only_of_patch rfl

@[simp] theorem latchLeadSel_asserted (n : Nat) (l : Bool) (s : State) :
    (latchLeadSel n l s).pins.asserted = putBit 7 l (putBit 0 false s.pins.asserted) := by simp [latchLeadSel]

@[simp] theorem latchLeadSel_boot (n : Nat) (l : Bool) (s : State) : (latchLeadSel n l s).boot = s.boot :=
  latchLeadSel_pins_only .boot (by decide)

theorem rstNRelease_of_asserted (n : Nat) (l : Bool) {s : State} (hreset : s.boot.state = .reset)
    (hheld : bitAt s.pins.asserted 0 = true) :
    exec (.rstNRelease n l) s = .next (releaseReset (latchLeadSel n l s)) := by
  have hon : (atTime n s).boot.state ≠ .off := by rw [atTime_boot, hreset]; decide
  refine (next_of_on hon rfl).trans ?_
  simp only [atTime_pins, hheld, Bool.true_eq_false, if_false]
  rfl

theorem pwrGoodRise_of_low (n : Nat) {s : State} (hreset : s.boot.state = .reset) (hlow : bitAt s.pins.asserted 1 = false) :
    exec (.pwrGoodRise n) s = .next (releaseReset (acceptLevel 1 true (atTime n s))) := by
  have hon : (atTime n s).boot.state ≠ .off := by rw [atTime_boot, hreset]; decide
  refine (next_of_on hon rfl).trans ?_
  simp only [atTime_pins, hlow, Bool.false_eq_true, if_false]

/-! ## LEAD_SEL, and inputs that are stuck -/

@[simp] theorem event_pins (code detail : Nat) (s : State) : (event code detail s).pins = s.pins :=
  (event_grows code detail s).same .pins rfl

@[simp] theorem faultEvent_pins (r : FaultRec) (s : State) : (faultEvent r s).pins = s.pins :=
  (faultEvent_grows r s).same .pins rfl

theorem faultEvent_only {r : FaultRec} {s : State} : Only [.sent, .side, .fault, .grp, .mem, .host] s (faultEvent r s) :=
  (faultEvent_grows r s).onlyIn _ rfl

@[simp] theorem markStuck_stuck (p : PinIn) (s : State) : bitAt (markStuck p s).pins.stuck (pinBit p) = true := by
  simp [markStuck]

theorem markStuck_only {p : PinIn} {s : State} : Only [.pins] s (markStuck p s) := only_of_patch rfl

theorem leadSelChange_of_ready (n : Nat) {s : State} (hready : Ready s) :
    exec (.leadSelChange n) s = .next (leadSelOff (atTime n s)) := next_of_ready (s := atTime n s) hready rfl

theorem leadSelOff_of_reported {s : State} (h : s.pins.leadSelReported = true) : leadSelOff s = s := by
  simp only [leadSelOff, h, if_true]

/-- The first time LEAD_SEL leaves its latched level. -/
theorem leadSelOff_of_new {s : State} (h : s.pins.leadSelReported = false) :
    leadSelOff s = faultEvent (pinRecord .leadSel) (markStuck .leadSel { s with pins := { s.pins with
      leadSelReported := true, asserted := putBit 7 (!s.pins.leadSel) s.pins.asserted } }) := by
  simp only [leadSelOff, h, Bool.false_eq_true, if_false]

/-- HALT_N stuck at its stuck time: marked, recorded and reported. -/
theorem pinStuck_haltN (n : Nat) {s : State} (hready : Ready s) (hdue : stuckDue .haltN (atTime n s) = true) :
    exec (.pinStuck n .haltN) s = .next (faultEvent (pinRecord .haltN) (markStuck .haltN (atTime n s))) :=
  (next_of_ready (s := atTime n s) hready rfl).trans (congrArg _ (if_pos hdue))

/-- RST_N stuck: the standby logic notes it for the next start. -/
theorem pinStuck_rstN (n : Nat) {s : State} (hheld : bitAt s.pins.asserted 0 = true)
    (hdue : stuckDue .rstN (atTime n s) = true) : exec (.pinStuck n .rstN) s = .next (heldPin .rstN (atTime n s)) := by
  have hexec : exec (.pinStuck n .rstN) s = .next (if bitAt (atTime n s).pins.asserted 0 && stuckDue .rstN (atTime n s)
    then heldPin .rstN (atTime n s) else atTime n s) := rfl
  rw [hexec, atTime_pins, hheld, hdue]
  rfl

/-- Before its stuck time no input is reported. -/
theorem pinStuck_not_due (n : Nat) {p : PinIn} {s : State} (hdue : stuckDue p (atTime n s) = false) (hp : p ≠ .leadSel) :
    exec (.pinStuck n p) s = .next (atTime n s) := by
  have hidle (f : State → State) (h : f (atTime n s) = atTime n s) : whenReady f (atTime n s) = atTime n s := by
    unfold whenReady
    split
    · exact h
    · rfl
  cases p with
  | rstN => exact congrArg Host.Outcome.next (if_neg (by simp [hdue]))
  | pwrGood => exact congrArg Host.Outcome.next (if_neg (by simp [hdue]))
  | thrN => exact congrArg Host.Outcome.next (hidle _ (if_neg (by simp [hdue])))
  | haltN => exact congrArg Host.Outcome.next (hidle _ (if_neg (by simp [hdue])))
  | tempAlertN => exact congrArg Host.Outcome.next (hidle _ (if_neg (by simp [hdue])))
  | shutterIn => exact congrArg Host.Outcome.next (hidle _ (if_neg (by simp [hdue])))
  | tickIn => exact congrArg Host.Outcome.next (hidle _ (if_neg (by simp [hdue])))
  | leadSel => exact absurd rfl hp

/-- Settles O56. -/
theorem resetPinsHold : Obligations.ResetPinsHold := by
  unfold Obligations.ResetPinsHold
  refine ⟨fun n s hready => ?_, fun n s hready => ?_, fun n l s hreset hheld hgood => ?_,
    fun n l s hreset hheld hgood => ?_, fun n s hreset hheld hgood => ?_, fun n s hready hnew => ?_,
    fun n s hready hreported => ?_, fun n s hready hdue => ?_, fun n s hheld hdue => ?_, fun n p s hdue hp => ?_,
    fun p s hon => ?_⟩
  · exact ⟨_, rstNAssert_of_ready n hready, rfl, rfl, by simp [resetModule, pinsAfterReset], rfl, rfl, rfl, rfl, by
      simp [resetModule]⟩
  · exact ⟨_, pwrGoodFall_of_ready n hready, rfl, rfl, by simp [resetModule, pinsAfterReset], rfl, rfl, rfl, by
      simp [resetModule]⟩
  · have hrelease := releaseReset_of_released (s := latchLeadSel n l s) (by simp [hreset]) (by simp) (by simp [hgood])
    refine ⟨_, (rstNRelease_of_asserted n l hreset hheld).trans (congrArg _ hrelease), by simp, rfl, by simp, by simp [hgood],
      by simp, ?_⟩
    exact (latchLeadSel_pins_only.trans (only_of_patch (ps := [.boot]) rfl)).mono (by decide)
  · refine ⟨latchLeadSel n l s, ?_, rfl, latchLeadSel_pins_only⟩
    rw [rstNRelease_of_asserted n l hreset hheld, releaseReset_of_held (by simp [hgood])]
  · have hrelease := releaseReset_of_released (s := acceptLevel 1 true (atTime n s)) (by simp [hreset]) (by simp [hheld])
      (by simp)
    refine ⟨_, (pwrGoodRise_of_low n hreset hgood).trans (congrArg _ hrelease), by simp, by simp, ?_, ?_⟩
    · simp [acceptLevel_stuck, stuckLevel]
    · rw [acceptLevel_pins]; exact only_of_patch rfl
  · refine ⟨_, (leadSelChange_of_ready n hready).trans (congrArg _ (leadSelOff_of_new hnew)), ?_, ?_, ?_, ?_⟩
    · rw [faultEvent_pins]; rfl
    · rw [faultEvent_pins]; exact markStuck_stuck .leadSel _
    · rw [faultEvent_fault]; exact (headRecord_recordFault _ _).1
    · exact ((only_of_patch (ps := [.now, .pins]) rfl).trans faultEvent_only).mono (by decide)
  · exact ⟨_, (leadSelChange_of_ready n hready).trans (congrArg _ (leadSelOff_of_reported hreported)), atTime_only n s⟩
  · obtain ⟨hcls, hcode, _⟩ := headRecord_recordFault (pinRecord .haltN) (markStuck .haltN (atTime n s))
    refine ⟨_, pinStuck_haltN n hready hdue, ?_, ?_, ?_, ?_⟩
    · rw [faultEvent_pins]; exact markStuck_stuck .haltN _
    · rw [faultEvent_fault]; exact hcls
    · rw [faultEvent_fault]; exact hcode
    · exact ((only_of_patch (ps := [.now, .pins]) rfl).trans faultEvent_only).mono (by decide)
  · refine ⟨_, pinStuck_rstN n hheld hdue, ?_, ?_, only_of_patch rfl⟩
    · exact markStuck_stuck .rstN _
    · simp [heldPin, markStuck]
  · exact ⟨_, pinStuck_not_due n hdue hp, atTime_only n s⟩
  · exact ⟨_, next_of_on hon rfl, counter_count_same _ _ _, fun k hk => counter_count_ne _ _ hk, count_only _ _ _⟩

end Sys2Proof.Machine

/-! SUPPORT. Ramps, allocations, caps and the heartbeat (R446 to R456). -/

namespace Sys2Proof.Machine

/-! ## The recomputation (R441, R446) -/

theorem toward_bounds (d v target : Nat) : v ≤ toward d v target + d ∧ toward d v target ≤ v + d := by
  unfold toward
  split <;> omega

/-- The readings as the recomputation takes them. -/
def takeReadings (t mv w drawMin : Nat) (s : State) : State :=
  { s with power := { s.power with
      inputMv := mv, inputW := w, controlAt := t
      drawMin := if s.job.started && decide (s.power.drawMinStep = some s.tick.step) then s.power.drawMin else drawMin
      drawMinStep := if s.job.started then some s.tick.step else none } }

/-- The limits that the recomputation forms of readings taken `dt` after the last. -/
def setLimits (dt : Nat) (s : State) : State :=
  { s with power := { s.power with
      limitMw := nextLimit s dt, ceilingMw := nextCeiling s dt (nextLimit s dt), glowMw := nextGlow s dt
      floorMw := nextFloor s dt (nextCeiling s dt (nextLimit s dt)) (nextGlow s dt) } }

theorem recompute_eq (t mv w drawMin : Nat) (s : State) :
    recompute t mv w drawMin s = countFloorShort (t - s.power.controlAt) (reportLowCap
      (setLimits (t - s.power.controlAt) (takeReadings t mv w drawMin s))) := rfl

/-- The report of a low soft cap marks that it was made; of the power state it changes nothing else. -/
theorem reportLowCap_power (s : State) :
    (reportLowCap s).power = { s.power with capLowReported := (reportLowCap s).power.capLowReported } := by
  unfold reportLowCap
  split
  · split
    · rfl
    · rw [powerEvent_power]
  · rfl

theorem countFloorShort_power (dt : Nat) (s : State) :
    (countFloorShort dt s).power = { s.power with floorShortNs := (countFloorShort dt s).power.floorShortNs } := by
  unfold countFloorShort
  split
  · rfl
  · rfl

/-- The recomputation's power state: the readings and the limits, but for two marks of what was reported and counted. -/
theorem recompute_power (t mv w drawMin : Nat) (s : State) :
    ∃ low short, (recompute t mv w drawMin s).power =
      { (setLimits (t - s.power.controlAt) (takeReadings t mv w drawMin s)).power with
        capLowReported := low, floorShortNs := short } := by
  rw [recompute_eq, countFloorShort_power, reportLowCap_power]
  exact ⟨_, _, rfl⟩

theorem rampMw_takeReadings (t mv w drawMin dt : Nat) (s : State) : rampMw (takeReadings t mv w drawMin s) dt = rampMw s dt := rfl

theorem rampMw_atTime (n dt : Nat) (s : State) : rampMw (atTime n s) dt = rampMw s dt := rfl

theorem nextLimit_bounds (s : State) (dt : Nat) (h : s.power.limitMw ≤ 1000 * s.power.capHard) :
    s.power.limitMw ≤ nextLimit s dt + rampMw s dt ∧ nextLimit s dt ≤ s.power.limitMw + rampMw s dt := by
  have hbounds := toward_bounds (rampMw s dt) s.power.limitMw (1000 * min (softCeiling s) s.power.capHard)
  unfold nextLimit
  omega

theorem nextCeiling_le_capHard (s : State) (dt : Nat) : nextCeiling s dt (nextLimit s dt) ≤ 1000 * s.power.capHard :=
  (Nat.min_le_left _ _).trans (Nat.min_le_left _ _)

theorem nextFloor_le (s : State) (dt ceiling glow : Nat) : nextFloor s dt ceiling glow ≤ ceiling := by
  unfold nextFloor
  split
  · exact Nat.zero_le _
  · exact Nat.min_le_left _ _

theorem powerControlRecompute_of_ready (n : Nat) (mv w d : BitVec 16) {s : State} (hready : Ready s) :
    exec (.powerControlRecompute n mv w d) s = .next (recompute n mv.toNat w.toNat d.toNat (atTime n s)) :=
  next_of_ready (s := atTime n s) hready rfl

/-! ## Ramp windows (R447) -/

/-- The windows once the newest average has come. -/
def noteWindow (avg : Nat) (s : State) : State :=
  { s with power := { s.power with windows := (avg :: s.power.windows).take 5000 } }

theorem windowBreaks_eq (per avg i old : Nat) :
    windowBreaks per avg i old = decide (100000 + per * i < 1000 * Int.natAbs ((avg : Int) - old)) := by
  have hd : (if avg < old then old - avg else avg - old) = Int.natAbs ((avg : Int) - old) := by split <;> omega
  simp only [windowBreaks, hd]

theorem rampWindowOp_kept {avg : Nat} {s : State}
    (h : ∀ w ∈ s.power.windows.zipIdx,
      1000 * Int.natAbs ((avg : Int) - (w.1 : Int)) ≤ 100000 + rampMw s 100000 * (w.2 + 1)) :
    rampWindowOp avg false s = noteWindow avg s := by
  have hkept : (s.power.windows.zipIdx.any fun e => windowBreaks (rampMw s 100000) avg (e.2 + 1) e.1) = false := by
    rw [List.any_eq_false]
    intro e he
    rw [windowBreaks_eq, decide_eq_true_eq]
    exact Nat.not_lt.mpr (h e he)
  simp only [rampWindowOp, hkept, Bool.false_eq_true, if_false, noteWindow]

theorem rampWindowOp_broken {avg old : Nat} {rest : List Nat} {s : State} (hold : s.power.windows = old :: rest)
    (h : 100000 + rampMw s 100000 < 1000 * Int.natAbs ((avg : Int) - (old : Int))) :
    rampWindowOp avg false s = rampBroken (noteWindow avg s) := by
  have hbroken : (s.power.windows.zipIdx.any fun e => windowBreaks (rampMw s 100000) avg (e.2 + 1) e.1) = true := by
    rw [List.any_eq_true]
    refine ⟨(old, 0), by rw [hold]; exact List.mem_cons_self, ?_⟩
    rw [windowBreaks_eq, decide_eq_true_eq]
    simpa using h
  simp only [rampWindowOp, hbroken, Bool.false_eq_true, if_false, if_true, noteWindow]

@[simp] theorem powerEvent_counters (cause what : Nat) (s : State) : (powerEvent cause what s).counters = s.counters :=
  (powerEvent_grows cause what s).same .counters rfl

theorem counter_congr {s t : State} (h : t.counters = s.counters) (k : Nat) : counter t k = counter s k := by
  simp only [counter, h]

theorem rampBroken_eq (s : State) :
    rampBroken s = if s.power.violStep = some s.tick.step then count cRampViol 1 s
      else powerEvent 15 s.power.inputW
        { count cRampViol 1 s with power := { s.power with violStep := some s.tick.step } } := rfl

/-- A broken window counts once, and marks the step. -/
theorem rampBroken_spec (s : State) :
    (rampBroken s).power = { s.power with violStep := some s.tick.step } ∧ (rampBroken s).counters = (count cRampViol 1 s).counters := by
  rw [rampBroken_eq]
  split
  next h => exact ⟨by rw [count_power, ← h], rfl⟩
  next => exact ⟨by rw [powerEvent_power], by rw [powerEvent_counters]⟩

theorem rampWindow_of_ready (n : Nat) (avg : BitVec 16) (excepted : Bool) {s : State} (hready : Ready s) :
    exec (.rampWindow n avg excepted) s = .next (rampWindowOp avg.toNat excepted (atTime n s)) :=
  next_of_ready (s := atTime n s) hready rfl

/-! ## Allocations (R449, R450) -/

theorem natAbs_sum_requests (reqs : List (Nat × Int)) :
    (((reqs.map fun r => r.2.toNat).sum : Nat) : Int) - ((reqs.map fun r => (-r.2).toNat).sum : Nat) = (reqs.map fun r => r.2).sum := by
  induction reqs with
  | nil => rfl
  | cons r reqs ih =>
    simp only [List.map_cons, List.sum_cons, Nat.cast_add]
    omega

/-- Requests whose sum lies within the bound are granted as they are. -/
theorem grantsOf_within {bt : Nat} {reqs : List (Nat × Int)} (h : Int.natAbs (reqs.map fun r => r.2).sum ≤ bt) :
    grantsOf bt reqs = reqs := by
  have hsum := natAbs_sum_requests reqs
  have hdiff : (if (reqs.map fun r => r.2.toNat).sum < (reqs.map fun r => (-r.2).toNat).sum then
      (reqs.map fun r => (-r.2).toNat).sum - (reqs.map fun r => r.2.toNat).sum
      else (reqs.map fun r => r.2.toNat).sum - (reqs.map fun r => (-r.2).toNat).sum) ≤ bt := by
    split <;> omega
  exact if_pos hdiff

theorem beaconsCollected_of_lead (n : Nat) {s : State} (hready : Ready s) (hlead : isLead s = true)
    (hstarted : s.job.started = true) (hmembers : 2 ≤ s.job.members) :
    exec (.beaconsCollected n) s = .next (emit (.grants (s.tick.tickCount + 2) (grantsOf (groupTick s) s.power.requests))
      { atTime n s with power := { s.power with requests := [] } }) := by
  have hlead' : isLead (atTime n s) = true := hlead
  have hgroup : groupTick (atTime n s) = groupTick s := rfl
  refine (next_of_ready (s := atTime n s) hready rfl).trans ?_
  simp only [hlead', hgroup, atTime_job, hstarted, hmembers, decide_true, Bool.and_self, if_true, atTime_tick, atTime_power]

theorem mem_holdAlloc (a : Alloc) (s : State) : a ∈ (holdAlloc a s).power.allocs :=
  List.mem_append_right _ List.mem_cons_self

theorem holdAlloc_only {a : Alloc} {s : State} : Only [.power] s (holdAlloc a s) := only_of_patch rfl

theorem allocationMissing_of_none (tick : BitVec 48) {s : State} (hready : Ready s) (hmembers : 2 ≤ s.job.members)
    (hnone : ∀ a ∈ s.power.allocs, a.tick ≠ tick.toNat + 2) :
    exec (.allocationMissing tick) s = .next (holdAlloc
      { tick := tick.toNat + 2, bound := min (rampTick s) (groupTick s / s.job.members), change := 0 } s) := by
  have hany : (s.power.allocs.any fun a => decide (a.tick = tick.toNat + 2)) = false := by
    rw [List.any_eq_false]
    exact fun a ha => by simpa using hnone a ha
  have hone : ¬ s.job.members ≤ 1 := by omega
  refine (next_of_ready hready rfl).trans ?_
  simp only [hany, hone, decide_false, Bool.or_self, Bool.false_eq_true, if_false]

/-! ## Fields in and out of service -/

@[simp] theorem fieldEvent_fabric (state f cause : Nat) (s : State) : (fieldEvent state f cause s).fabric = s.fabric :=
  (fieldEvent_grows state f cause s).same .fabric rfl

@[simp] theorem fieldOut_fabric (s : State) : (fieldOut s).fabric = s.fabric := (fieldOut_grows s).same .fabric rfl

theorem fieldS_congr {s t : State} (h : t.fabric = s.fabric) (f : Nat) : fieldS t f = fieldS s f := by simp only [fieldS, h]

@[simp] theorem fieldS_putSize (z : SizeTable) (s : State) (f : Nat) : fieldS (putSize z s) f = fieldS s f := by
  unfold putSize
  split <;> rfl

@[simp] theorem fieldS_refreshSize (s : State) (f : Nat) : fieldS (refreshSize s) f = fieldS s f := fieldS_putSize _ _ _

@[simp] theorem fieldS_dropCores (g : Nat) (s : State) (f : Nat) : fieldS (dropCores g s) f = fieldS s f := rfl

theorem isLit_iff {s : State} {f : Nat} : isLit s f = true ↔ fieldState s f = .lit := by simp [isLit]

theorem isDark_iff {s : State} {f : Nat} : isDark s f = true ↔ fieldState s f = .dark := by simp [isDark]

theorem shadeField_of_lit {f cause : Nat} {s : State} (h : isLit s f = true) :
    shadeField f cause s =
      fieldOut (fieldEvent 1 f cause (refreshSize (dropCores f (setField f { fieldS s f with state := .shade } s)))) := by
  simp only [shadeField, h, Bool.not_true, Bool.false_eq_true, if_false]

/-- A lit field that is shaded is in shade, with its other parts as they were. -/
theorem fieldS_shadeField_same {f cause : Nat} {s : State} (h : isLit s f = true) :
    fieldS (shadeField f cause s) f = { fieldS s f with state := .shade } := by
  rw [shadeField_of_lit h, fieldS_congr (fieldOut_fabric _), fieldS_congr (fieldEvent_fabric ..), fieldS_refreshSize,
    fieldS_dropCores, fieldS_setField_same]

theorem fieldS_shadeField_ne {f g cause : Nat} {s : State} (hg : g ≠ f) : fieldS (shadeField f cause s) g = fieldS s g := by
  by_cases h : isLit s f = true
  · rw [shadeField_of_lit h, fieldS_congr (fieldOut_fabric _), fieldS_congr (fieldEvent_fabric ..), fieldS_refreshSize,
      fieldS_dropCores, fieldS_setField_ne _ _ hg]
  · simp [shadeField, h]

theorem fieldState_shadeField_same {f cause : Nat} {s : State} (h : isLit s f = true) :
    fieldState (shadeField f cause s) f = .shade := by rw [fieldState, fieldS_shadeField_same h]

theorem fieldState_shadeField_ne {f g cause : Nat} {s : State} (hg : g ≠ f) :
    fieldState (shadeField f cause s) g = fieldState s g := by rw [fieldState, fieldS_shadeField_ne hg, fieldState]

/-! ## A hard cap, and the heartbeat (R455, R456) -/

/-- The highest lit field is the last of those listed. -/
theorem litFields_getLast {s : State} {f : Nat} (hf : f < 84) (hlit : isLit s f = true)
    (habove : ∀ g, g < 84 → f < g → isLit s g = false) : (litFields s).getLast? = some f := by
  have hsplit : List.range 84 = List.range (f + 1) ++ List.map (f + 1 + ·) (List.range (83 - f)) := by
    rw [← List.range_add]
    congr 1
    omega
  have hnone : (List.map (f + 1 + ·) (List.range (83 - f))).filter (fun g => isLit s g) = [] := by
    rw [List.filter_eq_nil_iff]
    intro g hg
    obtain ⟨k, hk, rfl⟩ := List.mem_map.mp hg
    have hk' := List.mem_range.mp hk
    simp [habove (f + 1 + k) (by omega) (by omega)]
  rw [litFields, hsplit, List.filter_append, hnone, List.append_nil, List.range_succ, List.filter_append]
  simp [hlit]

theorem hardCapShade_of_over {draw : BitVec 16} {s : State} {f : Nat} (hready : Ready s)
    (hmin : s.power.capHard < s.power.drawMin) (hdraw : s.power.capHard < draw.toNat)
    (hlast : (litFields s).getLast? = some f) : exec (.hardCapShade draw) s = .next (shadeField f 3 s) := by
  refine (next_of_ready hready rfl).trans ?_
  simp only [hmin, hdraw, hlast, and_self, if_true]

theorem softCeiling_le_of_hbLost {s : State} (h : s.power.hbLost = true) : softCeiling s ≤ ofEnvelope s.power.safeCap := by
  simp only [softCeiling, h, Bool.true_or, if_true]
  omega

theorem heartbeatTimeout_due (n : Nat) {s : State} (hready : Ready s) (harmed : s.power.hbArmed = true)
    (hlost : s.power.hbLost = false) (hdue : s.power.hbAt + 5000000000 ≤ n) :
    exec (.heartbeatTimeout n) s =
      .next (powerEvent 6 s.power.hbId { atTime n s with power := { s.power with hbLost := true } }) := by
  refine (next_of_ready (s := atTime n s) hready rfl).trans ?_
  simp only [atTime_power, harmed, hlost, hdue, decide_true, Bool.not_false, Bool.and_self, if_true]

/-- Settles O47. -/
theorem rampsAndCapsBind : Obligations.RampsAndCapsBind := by
  unfold Obligations.RampsAndCapsBind
  refine ⟨fun n mv w d s hready => ?_, fun n mv w d s hready hlimit => ?_, fun n avg s hready => ?_,
    fun n avg s hready hkept => ?_, fun n avg s old rest hready hold hbroken => ?_,
    fun n s hready hlead hstarted hmembers hsum => ?_, fun tick g s hready => ?_,
    fun tick s hready hmembers hnone => ?_, fun draw s f hready hmin hdraw hlit hf habove _ => ?_,
    fun n s hready harmed hlost hdue => ?_⟩
  · obtain ⟨low, short, hpower⟩ := recompute_power n mv.toNat w.toNat d.toNat (atTime n s)
    have hexec := powerControlRecompute_of_ready n mv w d hready
    refine ⟨_, hexec, by rw [hpower]; rfl, by rw [hpower]; rfl, ?_, ?_, ?_,
      Answers.onlyIn _ (execPowerControlRecompute_next ..) hexec rfl⟩
    · rw [hpower]
      show (if (s.job.started && decide (s.power.drawMinStep = some s.tick.step)) = true then s.power.drawMin else d.toNat) = _
      simp only [Bool.and_eq_true, decide_eq_true_eq]
    · rw [hpower]
      exact nextCeiling_le_capHard _ _
    · rw [hpower]
      exact nextFloor_le _ _ _ _
  · obtain ⟨low, short, hpower⟩ := recompute_power n mv.toNat w.toNat d.toNat (atTime n s)
    have hbounds := nextLimit_bounds (takeReadings n mv.toNat w.toNat d.toNat (atTime n s)) (n - s.power.controlAt) hlimit
    refine ⟨_, powerControlRecompute_of_ready n mv w d hready, ?_⟩
    rw [hpower]
    exact ⟨rfl, hbounds.1, hbounds.2, rfl⟩
  · exact ⟨_, rampWindow_of_ready n avg true hready, rfl, only_of_patch rfl⟩
  · refine ⟨_, (rampWindow_of_ready n avg false hready).trans (congrArg _ (rampWindowOp_kept ?_)), rfl, only_of_patch rfl⟩
    exact hkept
  · have hexec := rampWindow_of_ready n avg false hready
    rw [rampWindowOp_broken (s := atTime n s) hold hbroken] at hexec
    obtain ⟨hpower, hcounters⟩ := rampBroken_spec (noteWindow avg.toNat (atTime n s))
    refine ⟨_, hexec, ?_, hpower, fun k hk => ?_, Answers.onlyIn _ (execRampWindow_next ..) hexec rfl⟩
    · rw [counter_congr hcounters]
      exact counter_count_same _ _ _
    · rw [counter_congr hcounters]
      exact counter_count_ne _ _ hk
  · refine ⟨_, beaconsCollected_of_lead n hready hlead hstarted hmembers, ?_, rfl, only_of_patch rfl⟩
    rw [grantsOf_within hsum]
    rfl
  · exact ⟨_, next_of_ready hready rfl, mem_holdAlloc _ _, holdAlloc_only⟩
  · exact ⟨_, allocationMissing_of_none tick hready hmembers hnone, mem_holdAlloc _ _, holdAlloc_only⟩
  · exact ⟨_, hardCapShade_of_over hready hmin hdraw (litFields_getLast hf hlit habove), fieldState_shadeField_same hlit,
      fun g hg => fieldState_shadeField_ne hg, (shadeField_grows f 3 s).onlyIn _ rfl⟩
  · exact ⟨_, heartbeatTimeout_due n hready harmed hlost hdue, powerEvent_power _ _ _,
      (softCeiling_le_of_hbLost (by simp)).trans (by simp),
      ((only_of_patch (ps := [.now, .power]) rfl).trans (powerEvent_only _ _ _)).mono (by decide)⟩

end Sys2Proof.Machine

/-! SUPPORT. A field that goes dark discards and counts what waits toward it (R106), and so do the trip of its protection and a
sample at 115 °C, which take it dark. -/

namespace Sys2Proof.Machine

/-! ## What a dark field counts -/

/-- The flits that wait at ports of other fields toward field `f`. -/
def flitsToward (f : Nat) (s : State) : Nat :=
  ((s.fabric.ports.filter fun e => portFaces e.1 f && decide (e.1 / 8 / 640 ≠ f)).map fun e => arbFlits e.2).sum

@[simp] theorem fieldOut_counters (s : State) : (fieldOut s).counters = s.counters := (fieldOut_grows s).same .counters rfl

@[simp] theorem fieldEvent_counters (state f cause : Nat) (s : State) : (fieldEvent state f cause s).counters = s.counters :=
  (fieldEvent_grows state f cause s).same .counters rfl

@[simp] theorem refreshSize_counters (s : State) : (refreshSize s).counters = s.counters :=
  (refreshSize_grows s).same .counters rfl

@[simp] theorem loseUnreachable_counters (s : State) : (loseUnreachable s).counters = s.counters :=
  (loseUnreachable_grows s).same .counters rfl

@[simp] theorem dropLanes_counters (f : Nat) (s : State) : (dropLanes f s).counters = s.counters :=
  (dropLanes_grows f s).same .counters rfl

/-- A field that goes dark counts the flits that wait toward it as discarded. -/
theorem darkField_counters {f cause : Nat} {s : State} (h : isDark s f = false) :
    (darkField f cause s).counters = (count cPktDiscard (flitsToward f s) s).counters := by
  have hports (v : FieldS) : (dropMemoryPorts f (dropPorts f (dropCores f (setField f v s)))).counters =
      (count cPktDiscard (flitsToward f s) s).counters := rfl
  simp only [darkField, h, Bool.false_eq_true, if_false, fieldOut_counters, fieldEvent_counters, refreshSize_counters,
    loseUnreachable_counters, dropLanes_counters, hports]

/-! ## A flit that waits toward F1 -/

/-- A READY module at reset values, but for a one-flit packet that waits at the last router of the first row of F0 (block 19) at
its output E, toward F1. -/
def oneFlitWaits : State :=
  { State.reset with
    boot := { State.reset.boot with state := .ready }
    fabric := { State.reset.fabric with ports := [(8 * 19, { waiting := [({ header := 0#128, payload := [] }, 0)] })] } }

theorem flitsToward_oneFlitWaits : flitsToward 1 oneFlitWaits = 1 := by decide

theorem flitsToward_congr {s t : State} (h : t.fabric = s.fabric) (f : Nat) : flitsToward f t = flitsToward f s := by
  simp only [flitsToward, h]

@[simp] theorem powerEvent_fabric (cause what : Nat) (s : State) : (powerEvent cause what s).fabric = s.fabric :=
  (powerEvent_grows cause what s).same .fabric rfl

theorem isDark_congr {s t : State} (h : t.fabric = s.fabric) (f : Nat) : isDark t f = isDark s f := by
  rw [isDark, isDark, fieldState, fieldState, fieldS_congr h]

/-- A command answers one state. -/
theorem next_unique {o : Host.Outcome State Fault Refusal} {t u : State} (ht : o = .next t) (hu : o = .next u) : t = u :=
  Host.Outcome.next.inj (ht.symm.trans hu)

/-- A frame without the counters contradicts a count of 1 from 0. -/
theorem not_only_of_counted {ps : List Part} {s t : State} {k : Nat} (hps : Part.counters ∉ ps) (hs : counter s k = 0)
    (ht : counter t k = 1) : ¬ Only ps s t := by
  intro honly
  have hsame := counter_congr (honly .counters hps) k
  omega

/-- The same module with the protection of F1 tripped. -/
def trippedF1 : State := { oneFlitWaits with power := { oneFlitWaits.power with fieldProt := 2 } }

/-- The field that the trip takes dark counts the flit that waits toward it. -/
theorem darkField_trippedF1_counts : counter (darkField 1 2 (powerEvent 13 1 trippedF1)) cPktDiscard = 1 := by
  have hfabric : (powerEvent 13 1 trippedF1).fabric = oneFlitWaits.fabric := powerEvent_fabric 13 1 trippedF1
  have hlit : isDark (powerEvent 13 1 trippedF1) 1 = false := isDark_congr hfabric 1
  have hflits : flitsToward 1 (powerEvent 13 1 trippedF1) = 1 := (flitsToward_congr hfabric 1).trans flitsToward_oneFlitWaits
  have hnone : counter (powerEvent 13 1 trippedF1) cPktDiscard = counter trippedF1 cPktDiscard :=
    counter_congr (powerEvent_counters 13 1 trippedF1) cPktDiscard
  rw [counter_congr (darkField_counters hlit), hflits, counter_count_same, hnone]
  rfl

theorem counter_oneFlitWaits (k : Nat) : counter oneFlitWaits k = 0 := rfl

/-- Refutes O48: the trip of F1's protection takes F1 dark, which counts the flit that waits toward it (R106); the statement's
frame leaves the counters out. -/
theorem not_supplyFaultsAct : ¬ Obligations.SupplyFaultsAct := by
  unfold Obligations.SupplyFaultsAct
  rintro ⟨-, -, -, -, -, -, -, htrip, -⟩
  obtain ⟨t, ht, -, -, honly⟩ := htrip 1 oneFlitWaits rfl rfl
  have hexec : exec (.fieldProtectionTrip 1) oneFlitWaits = .next (darkField 1 2 (powerEvent 13 1 trippedF1)) := rfl
  rw [next_unique ht hexec] at honly
  exact not_only_of_counted (by decide) (counter_oneFlitWaits _) darkField_trippedF1_counts honly

/-- A sample of 120 °C in F1 and of 0 °C elsewhere. -/
def hotF1 : SensorFacts :=
  { fieldsC := (List.range 84).map fun f => if f = 1 then [120] else [0], stacksC := [], inlet := 20, outlet := 20 }

/-- The sample takes F1 dark, and the flit that waits toward it is counted. -/
theorem sample_hotF1_counts : counter (sample hotF1 oneFlitWaits) cPktDiscard = 1 := by decide +kernel

/-- Refutes O49: at 115 °C F1 goes dark, which counts the flit that waits toward it (R106); the statement's frame leaves the
counters out. -/
theorem not_heatIsShed : ¬ Obligations.HeatIsShed := by
  unfold Obligations.HeatIsShed
  rintro ⟨-, hsample, -⟩
  obtain ⟨t, ht, -, -, honly⟩ := hsample 0 hotF1 oneFlitWaits rfl
  have hexec : exec (.sensorSample 0 hotF1) oneFlitWaits = .next (sample hotF1 oneFlitWaits) := rfl
  rw [next_unique ht hexec] at honly
  exact not_only_of_counted (by decide) (counter_oneFlitWaits _) sample_hotF1_counts honly

end Sys2Proof.Machine

/-! SUPPORT. Links (R82 to R84) and the ports that serve them (R75). -/

namespace Sys2Proof.Machine

/-! ## A link's port -/

theorem Only.of_none {ps qs : List Part} {s t : State} (h : Only (qs ++ ps) s t) (hq : ∀ p ∈ qs, p.same s t) : Only ps s t :=
  fun p hp => if hmem : p ∈ qs then hq p hmem else h p (by simp [hmem, hp])

/-- What a link's port leaves as it stood: counters, lanes, and the link itself but for the flits that its sender has sent. -/
structure LinkServed (k : Nat) (s t : State) : Prop where
  counters : t.counters = s.counters
  beam : t.beam = s.beam
  link : ∃ replay inFlight, linkS t k = { linkS s k with replay := replay, inFlight := inFlight }

theorem LinkServed.refl (k : Nat) (s : State) : LinkServed k s s := ⟨rfl, rfl, _, _, rfl⟩

theorem LinkServed.trans {k : Nat} {s t u : State} (h : LinkServed k s t) (g : LinkServed k t u) : LinkServed k s u := by
  obtain ⟨hc, hb, r, i, hl⟩ := h
  obtain ⟨gc, gb, r', i', gl⟩ := g
  exact ⟨gc.trans hc, gb.trans hb, r', i', by rw [gl, hl]⟩

theorem linkSent_served (k flit : Nat) (s : State) : LinkServed k s (linkSent k flit s) :=
  ⟨rfl, rfl, _, _, linkS_setLink_same _ _ _⟩

theorem setPortArb_served (k j : Nat) (a : PortArb) (s : State) : LinkServed k s (setPortArb j a s) := ⟨rfl, rfl, _, _, rfl⟩

theorem emit_served (k : Nat) (m : Msg) (s : State) : LinkServed k s (emit m s) := ⟨rfl, rfl, _, _, rfl⟩

theorem packetLeft_of_mesh {k : Nat} (hk : k % 8 < 4) (p : Flits) (s : State) :
    packetLeft k p s = emit (.fabric (k / 8) (.mesh (dirOf (k % 8))) p) s := by
  have hport : portOf (k % 8) = .mesh (dirOf (k % 8)) := if_pos hk
  rw [packetLeft, hport]

theorem servePort_served {k : Nat} (hk : k % 8 < 4) (n : Nat) (s : State) :
    LinkServed (4 * (k / 8) + k % 8) s (servePort k n s) := by
  fun_induction servePort k n s with
  | case1 => exact .refl _ _
  | case2 => exact .refl _ _
  | case3 => exact setPortArb_served _ _ _ _
  | case4 n s a v owed turns hserve r ended b s1 flit last hr s2 ih =>
    have hs2 : LinkServed (4 * (k / 8) + k % 8) s s2 := by
      simp only [s2, hk, if_true]
      exact (setPortArb_served _ _ _ _).trans (linkSent_served _ _ _)
    refine hs2.trans (.trans ?_ ih)
    cases last with
    | none => exact .refl _ _
    | some p =>
      simp only [packetLeft_of_mesh hk]
      exact emit_served _ _ _

theorem drainPort_served {k : Nat} (hk : k % 8 < 4) (s : State) : LinkServed (4 * (k / 8) + k % 8) s (drainPort k s) := by
  unfold drainPort
  split
  · exact .refl _ _
  · exact servePort_served hk _ _

theorem drainLink_served (k : Nat) (s : State) : LinkServed k s (drainLink k s) := by
  have h := drainPort_served (k := 8 * (k / 4) + k % 4) (by omega) s
  rwa [show 4 * ((8 * (k / 4) + k % 4) / 8) + (8 * (k / 4) + k % 4) % 8 = k by omega] at h

theorem drainLink_only (k : Nat) (s : State) : Only [.sent, .fabric] s (drainLink k s) :=
  Only.of_none (qs := [.counters, .beam]) ((drainLink_grows k s).onlyIn _ rfl)
    (by simpa using ⟨(drainLink_served k s).counters, (drainLink_served k s).beam⟩)

/-! ## Flits -/

/-- A parity error as the receiver notes it. -/
def badFlit (n flit : Nat) (l : LinkS) : LinkS :=
  { l with errors := recentErrors n l.errors ++ [n], failRun := if flit = 0xF then l.failRun else l.failRun + 1, resend := true }

theorem flitReceived_eq (n : Nat) (link : LinkRef) (flit : BitVec 128) (ok : Bool) {s : State} (hready : Ready s)
    (hup : linkUp s link = true) :
    exec (.flitReceived n link flit ok) s = .next (
      let l := linkS s (linkKey link)
      if ok then
        if flit.toNat = 0xF then setLink (linkKey link) { l with errors := recentErrors n l.errors } (atTime n s)
        else emit (.flit (linkKey link) flit.toNat) (setLink (linkKey link)
          { l with errors := recentErrors n l.errors, failRun := 0, resend := false, inFlight := l.inFlight - 1 } (atTime n s))
      else count cLinkParity 1 (emit (.flitResend (linkKey link))
        (setLink (linkKey link) (badFlit n flit.toNat l) (atTime n s)))) := by
  refine (next_of_ready hready rfl).trans ?_
  have hup' : linkUp (atTime n s) link = true := hup
  simp only [hup', Bool.not_true, Bool.false_eq_true, if_false, decide_eq_true_eq]
  rfl

theorem flitReceived_dark_only (n : Nat) (link : LinkRef) {flit : BitVec 128} {s : State} (hready : Ready s)
    (hdark : flit.toNat = 0xF) : ∃ t, exec (.flitReceived n link flit true) s = .next t ∧ Only [.now, .fabric] s t := by
  cases hup : linkUp s link with
  | true => exact ⟨_, flitReceived_eq n link flit true hready hup, by rw [if_pos rfl, if_pos hdark]; exact only_of_patch rfl⟩
  | false =>
    have hup' : linkUp (atTime n s) link = false := hup
    refine ⟨atTime n s, (next_of_ready hready rfl).trans ?_, only_of_patch rfl⟩
    simp only [hup', Bool.not_false, if_true]

theorem flitResend_eq {link : LinkRef} {f : Nat} {s : State} (hready : Ready s) (hup : linkUp s link = true)
    (hresend : (linkS s (linkKey link)).resend = true) (hidle : (linkS s (linkKey link)).retraining = false)
    (hflit : unreceived (linkS s (linkKey link)) = some f) :
    exec (.flitResend link) s = .next (emit (.flit (linkKey link) f)
      (setLink (linkKey link) { linkS s (linkKey link) with resend := false } s)) := by
  refine (next_of_ready hready rfl).trans ?_
  simp only [hflit, hresend, hidle, hup, Bool.not_false, Bool.and_self, if_true]

theorem linkRetrain_eq {link : LinkRef} {s : State} (hready : Ready s) (hup : linkUp s link = true)
    (hidle : (linkS s (linkKey link)).retraining = false)
    (hdue : 3 ≤ (linkS s (linkKey link)).failRun ∨ 64 < (linkS s (linkKey link)).errors.length) :
    exec (.linkRetrain link) s = .next (count cLinkRetrains 1
      (setLink (linkKey link) { linkS s (linkKey link) with retraining := true } s)) := by
  have hdue' : retrainDue (linkS s (linkKey link)) = true := by simpa [retrainDue] using hdue
  refine (next_of_ready hready rfl).trans ?_
  simp only [hup, hdue', hidle, Bool.not_false, Bool.and_self, if_true]

/-! ## The end of a retrain -/

/-- What the senders of a link kept goes in. -/
def sendKeptOf (link : LinkRef) (s : State) : State :=
  each (linkQueues link) (fun q x => setQueue q (sendKept q false (queueS x q)) x) s

theorem each_setQueue (f : QueueId → State → QueueS) (qs : List QueueId) (s : State) :
    ∃ queues, each qs (fun q x => setQueue q (f q x) x) s = { s with fabric := { s.fabric with queues := queues } } := by
  induction qs generalizing s with
  | nil => exact ⟨_, rfl⟩
  | cons q qs ih =>
    obtain ⟨queues, h⟩ := ih (setQueue q (f q s) s)
    exact ⟨queues, h⟩

/-- A link whose failed wires have moved to spares. -/
def repairedLink (n : Nat) (l : LinkS) : LinkS :=
  { l with retraining := false, errors := [], failRun := 0, spares := l.spares + n }

theorem linkRetrainDone_repaired (link : LinkRef) {wires : List (Fin 140)} {s : State} (hready : Ready s)
    (hretraining : (linkS s (linkKey link)).retraining = true) (hspares : (linkS s (linkKey link)).spares + wires.length ≤ 4) :
    exec (.linkRetrainDone link wires true) s = .next (drainLink (linkKey link)
      (setLink (linkKey link) (repairedLink wires.length (linkS s (linkKey link))) (sendKeptOf link s))) := by
  refine (next_of_ready hready rfl).trans ?_
  simp only [hretraining, hspares, Bool.not_true, Bool.false_eq_true, if_false, decide_true, Bool.and_self, if_true]
  rfl

theorem linkRetrainDone_failed (link : LinkRef) {wires : List (Fin 140)} {repaired : Bool} {s : State} (hready : Ready s)
    (hretraining : (linkS s (linkKey link)).retraining = true)
    (hfail : repaired = false ∨ 4 < (linkS s (linkKey link)).spares + wires.length) :
    exec (.linkRetrainDone link wires repaired) s = .next (retireLink link s) := by
  have hno : (repaired && decide ((linkS s (linkKey link)).spares + wires.length ≤ 4)) = false := by
    rcases hfail with h | h
    · simp [h]
    · simp [Nat.not_le.mpr h]
  refine (next_of_ready hready rfl).trans ?_
  simp only [hretraining, hno, Bool.not_true, Bool.false_eq_true, if_false]

/-! ## A field that goes dark keeps its links and its state -/

theorem refreshSize_fabric (s : State) : (refreshSize s).fabric = { s.fabric with size := (refreshSize s).fabric.size } := by
  rw [refreshSize, putSize]
  split <;> rfl

@[simp] theorem loseUnreachable_fabric (s : State) : (loseUnreachable s).fabric = s.fabric :=
  (loseUnreachable_grows s).same .fabric rfl

@[simp] theorem dropLanes_fabric (f : Nat) (s : State) : (dropLanes f s).fabric = s.fabric :=
  (dropLanes_grows f s).same .fabric rfl

/-- A dark field: what is left of it. -/
def darkFieldS : FieldS := { state := .dark, pllLocked := false, controlRunning := false, mapCopy := false }

/-- The fabric once a field has gone dark, before the size table follows. -/
def darkenedFabric (f : Nat) (s : State) : FabricS :=
  { (dropMemoryPorts f (dropPorts f (dropCores f (setField f darkFieldS s)))).fabric with rebuildPending := true }

theorem darkField_fabric {f : Nat} (cause : Nat) {s : State} (h : isDark s f = false) :
    (darkField f cause s).fabric = { darkenedFabric f s with size := (darkField f cause s).fabric.size } := by
  have heq : (darkField f cause s).fabric = (refreshSize { (loseUnreachable (dropLanes f (dropMemoryPorts f (dropPorts f
      (dropCores f (setField f darkFieldS s)))))) with fabric := darkenedFabric f s }).fabric := by
    simp only [darkField, h, Bool.false_eq_true, if_false, fieldOut_fabric, fieldEvent_fabric, loseUnreachable_fabric,
      dropLanes_fabric]
    rfl
  rw [heq]
  exact refreshSize_fabric _

theorem fieldS_darkField {f : Nat} (cause : Nat) {s : State} (h : isDark s f = false) (g : Nat) :
    fieldS (darkField f cause s) g = fieldS (setField f darkFieldS s) g := by
  rw [fieldS, darkField_fabric cause h]
  rfl

theorem isDark_darkField (f cause : Nat) (s : State) : isDark (darkField f cause s) f = true := by
  cases h : isDark s f with
  | true => simp only [darkField, h, if_true]
  | false => rw [isDark_iff, fieldState, fieldS_darkField cause h, fieldS_setField_same]; rfl

theorem linkS_darkField (f cause k : Nat) (s : State) : linkS (darkField f cause s) k = linkS s k := by
  cases h : isDark s f with
  | true => simp only [darkField, h, if_true]
  | false => rw [linkS, darkField_fabric cause h]; rfl

theorem retireLink_eq (link : LinkRef) (s : State) :
    retireLink link s = darkField (retiredField link) 6
      (faultEvent { cls := 3, code := 6, block := link.router.val, field := retiredField link, detail := linkKey link }
        (setLink (linkKey link) { linkS s (linkKey link) with retired := true, retraining := false } s)) := rfl

theorem linkS_retireLink (link : LinkRef) (s : State) :
    linkS (retireLink link s) (linkKey link) = { linkS s (linkKey link) with retired := true, retraining := false } := by
  rw [retireLink_eq, linkS_darkField, linkS, (faultEvent_grows _ _).same .fabric rfl]
  exact linkS_setLink_same _ _ _

/-- Settles O8. -/
theorem linksCheckEveryFlit : Obligations.LinksCheckEveryFlit := by
  unfold Obligations.LinksCheckEveryFlit
  refine ⟨fun n link flit s hready hup => ?_, fun n link flit s hready hup hflit => ?_,
    fun n link flit s hready hdark => flitReceived_dark_only n link hready hdark,
    fun link s f hready hup hresend hidle hflit => ?_, fun link s hready hup hidle hdue => ?_,
    fun link wires s hready hretraining hspares => ?_, fun link wires repaired s hready hretraining hfail => ?_⟩
  · refine ⟨_, flitReceived_eq n link flit false hready hup, counter_count_same _ _ _, rfl, ?_, ?_, only_of_patch rfl⟩
    · exact congrArg LinkS.resend (linkS_setLink_same _ _ _)
    · refine (congrArg LinkS.failRun (linkS_setLink_same _ _ _)).trans ?_
      by_cases hdark : flit.toNat = 0xF <;> simp [badFlit, hdark]
  · refine ⟨_, flitReceived_eq n link flit true hready hup, ?_⟩
    rw [if_pos rfl, if_neg hflit]
    exact ⟨rfl, congrArg LinkS.failRun (linkS_setLink_same _ _ _), congrArg LinkS.resend (linkS_setLink_same _ _ _),
      only_of_patch rfl⟩
  · exact ⟨_, flitResend_eq hready hup hresend hidle hflit, rfl, linkS_setLink_same _ _ _, only_of_patch rfl⟩
  · exact ⟨_, linkRetrain_eq hready hup hidle hdue, congrArg LinkS.retraining (linkS_setLink_same _ _ _),
      counter_count_same _ _ _, only_of_patch rfl⟩
  · obtain ⟨_, _, hlink⟩ := (drainLink_served (linkKey link)
      (setLink (linkKey link) (repairedLink wires.length (linkS s (linkKey link))) (sendKeptOf link s))).link
    rw [linkS_setLink_same] at hlink
    obtain ⟨queues, hkept⟩ := each_setQueue (fun q x => sendKept q false (queueS x q)) (linkQueues link) s
    have hset : Only [.fabric] s
        (setLink (linkKey link) (repairedLink wires.length (linkS s (linkKey link))) (sendKeptOf link s)) := by
      rw [sendKeptOf, hkept]
      exact only_of_patch rfl
    refine ⟨_, linkRetrainDone_repaired link hready hretraining hspares, ?_⟩
    rw [hlink]
    exact ⟨rfl, rfl, rfl, rfl, rfl, (hset.trans (drainLink_only _ _)).mono (by decide)⟩
  · refine ⟨_, linkRetrainDone_failed link hready hretraining hfail, ?_, isDark_darkField _ _ _⟩
    rw [linkS_retireLink]

end Sys2Proof.Machine

/-! SUPPORT. Packets on the wafer (R74 to R80, R106, R107, R198). -/

namespace Sys2Proof.Machine

/-! ## Bytes -/

@[simp] theorem length_bytesLE (k n : Nat) : (bytesLE k n).length = k := by
  induction k generalizing n with
  | zero => rfl
  | succ k ih => simp [bytesLE, ih]

theorem ofBytesLE_bytesLE (k n : Nat) : ofBytesLE (bytesLE k n) = n % 256 ^ k := by
  induction k generalizing n with
  | zero => simp [bytesLE, ofBytesLE, Nat.mod_one]
  | succ k ih =>
    have hmul := Nat.mod_mul (x := n) (a := 256) (b := 256 ^ k)
    rw [bytesLE, ofBytesLE, ih, BitVec.toNat_ofNat, show 256 ^ (k + 1) = 256 * 256 ^ k from Nat.pow_succ', hmul]

/-! ## One packet at a port -/

theorem waitingVcs_of_single {a : PortArb} {p : Flits} {i : Nat} (ha : a.waiting = [(p, i)]) (hvc : vcOf p ≤ 4) :
    waitingVcs a = [vcOf p] := by
  simp only [waitingVcs, ha, List.any_cons, List.any_nil, Bool.or_false]
  generalize vcOf p = v at hvc
  interval_cases v <;> rfl

theorem nextTurn_of_single (a : PortArb) {v : Nat} (hv : v = 1 ∨ v = 2 ∨ v = 3) :
    ∃ turns, nextTurn a [v] = some (v, turns) := by
  have hround : ∃ left, (roundTurns.dropWhile fun u => ! [v].contains u) = v :: left := by
    rcases hv with rfl | rfl | rfl <;> exact ⟨_, rfl⟩
  obtain ⟨left, hleft⟩ := hround
  have hhead := List.head?_dropWhile_not (fun u => ! [v].contains u) a.turns
  unfold nextTurn
  simp only [hleft]
  split
  next u rest hrest =>
    rw [hrest] at hhead
    have huv : u = v := by simpa using hhead
    exact ⟨rest, by rw [huv]⟩
  next => exact ⟨left, rfl⟩

/-- A port at which one packet waits serves its channel, whatever the turns. -/
theorem serveNext_of_single {a : PortArb} {p : Flits} {i : Nat} (ha : a.waiting = [(p, i)]) (hvc : vcOf p ≤ 4) :
    ∃ owed turns, serveNext a = some (vcOf p, owed, turns) := by
  unfold serveNext
  simp only [waitingVcs_of_single ha hvc]
  split
  next u rest hu =>
    have hmem : u ∈ a.owed.filter [vcOf p].contains := by rw [hu]; exact List.mem_cons_self
    have huv : u = vcOf p := by simpa using (List.mem_filter.mp hmem).2
    exact ⟨rest, a.turns, by rw [huv]⟩
  next =>
    by_cases h0 : vcOf p = 0
    · exact ⟨[], a.turns, by simp [h0]⟩
    by_cases h4 : vcOf p = 4
    · exact ⟨[], a.turns, by simp [h4]⟩
    obtain ⟨turns, hturns⟩ := nextTurn_of_single a (v := vcOf p) (by omega)
    refine ⟨[], turns, ?_⟩
    simp [hturns, Ne.symm h0, Ne.symm h4]

/-- The state with other waiting packets and replay buffers. -/
def withTraffic (ports : Map PortArb) (links : Map LinkS) (s : State) : State :=
  { s with fabric := { s.fabric with ports := ports, links := links } }

theorem withTraffic_only (ports : Map PortArb) (links : Map LinkS) (s : State) : Only [.fabric] s (withTraffic ports links s) :=
  only_of_patch rfl

@[simp] theorem portS_setPortArb (k : Nat) (a : PortArb) (s : State) : portS_ (setPortArb k a s) k = a := by
  simp [portS_, setPortArb]

/-- The flit has left: on a link the replay buffer keeps it. -/
def flitLeft (k flit : Nat) (s : State) : State := if k % 8 < 4 then linkSent (4 * (k / 8) + k % 8) flit s else s

theorem flitLeft_eq (k flit : Nat) (s : State) : ∃ links, flitLeft k flit s = withTraffic s.fabric.ports links s := by
  unfold flitLeft
  split
  · exact ⟨_, rfl⟩
  · exact ⟨s.fabric.links, rfl⟩

theorem servePort_succ (k n : Nat) {a : PortArb} {p : Flits} {i : Nat} {s : State} (ha : portS_ s k = a)
    (hwait : a.waiting = [(p, i)]) (hvc : vcOf p ≤ 4) :
    ∃ b : PortArb, servePort k (n + 1) s =
      (if flitCount p ≤ i + 1 then servePort k n (packetLeft k p (flitLeft k (nth 0 (flitWords p) i) (setPortArb k {} s)))
       else servePort k n (flitLeft k (nth 0 (flitWords p) i) (setPortArb k b s))) ∧ b.waiting = [(p, i + 1)] := by
  obtain ⟨owed, turns, hnext⟩ := serveNext_of_single hwait hvc
  by_cases hlast : flitCount p ≤ i + 1
  · refine ⟨{ waiting := [(p, i + 1)] }, ?_, rfl⟩
    simp only [servePort, ha, hnext, hwait, takeFlit, hlast, if_true, List.isEmpty_nil]
    rfl
  · refine ⟨{ waiting := [(p, i + 1)], turns := turns, owed := owed }, ?_, rfl⟩
    simp only [servePort, ha, hnext, hwait, takeFlit, hlast, if_true, if_false, List.isEmpty_cons, Bool.false_eq_true,
      and_false]
    rfl

/-- A packet alone at its port leaves whole, once its remaining flits have been served. -/
theorem servePort_single (k : Nat) {p : Flits} (hvc : vcOf p ≤ 4) (n : Nat) {i : Nat} {s : State}
    (hwait : (portS_ s k).waiting = [(p, i)]) (hn : i + n + 1 = flitCount p) :
    ∃ ports links, servePort k (n + 1) s = packetLeft k p (withTraffic ports links s) := by
  induction n generalizing i s with
  | zero =>
    obtain ⟨b, heq, _⟩ := servePort_succ k 0 rfl hwait hvc
    rw [if_pos (by omega)] at heq
    obtain ⟨links, hleft⟩ := flitLeft_eq k (nth 0 (flitWords p) i) (setPortArb k {} s)
    rw [hleft] at heq
    exact ⟨_, links, heq⟩
  | succ n ih =>
    obtain ⟨b, heq, hb⟩ := servePort_succ k (n + 1) rfl hwait hvc
    rw [if_neg (by omega)] at heq
    obtain ⟨links, hleft⟩ := flitLeft_eq k (nth 0 (flitWords p) i) (setPortArb k b s)
    rw [hleft] at heq
    have hwait' : (portS_ (withTraffic (setPortArb k b s).fabric.ports links (setPortArb k b s)) k).waiting = [(p, i + 1)] :=
      (congrArg PortArb.waiting (portS_setPortArb k b s)).trans hb
    obtain ⟨ports', links', hrest⟩ := ih hwait' (by omega)
    exact ⟨ports', links', heq.trans hrest⟩

theorem drainPort_single {k : Nat} {p : Flits} {s : State} (hvc : vcOf p ≤ 4) (hwait : (portS_ s k).waiting = [(p, 0)])
    (hidle : ¬ (k % 8 < 4 ∧ (linkS s (4 * (k / 8) + k % 8)).retraining = true)) :
    ∃ ports links, drainPort k s = packetLeft k p (withTraffic ports links s) := by
  have hflits : arbFlits (portS_ s k) = ceilDiv p.payload.length 16 + 1 := by
    rw [arbFlits, hwait]
    simp [flitCount, Nat.add_comm]
  rw [drainPort, if_neg hidle, hflits]
  exact servePort_single k hvc _ hwait (by rw [flitCount]; omega)

theorem drainPort_of_none {k : Nat} {s : State} (hwait : (portS_ s k).waiting = []) : drainPort k s = s := by
  have hflits : arbFlits (portS_ s k) = 0 := by rw [arbFlits, hwait]; rfl
  unfold drainPort
  split
  · rfl
  · rw [hflits]
    rfl

/-! ## A packet at a router -/

theorem forward_single {router : Nat} {p : Flits} {port : OutPort} {s : State}
    (hok : headerOk (decodeFlit p.header.toNat) = true)
    (hroute : routeOut s router (decodeFlit p.header.toNat) = some (port, false)) :
    forward router [p] s = drainPort (portKey router port) (queueOut router port p s) := by
  have htaken : portTaken router p s = some (portKey router port) := by simp [portTaken, hok, hroute]
  simp only [forward, each, List.filterMap_cons, htaken, List.filterMap_nil, List.foldl_cons, List.foldl_nil, hok,
    Bool.not_true, Bool.false_eq_true, if_false, hroute, onEscape]

theorem forward_bad {router : Nat} {p : Flits} {s : State} (hbad : headerOk (decodeFlit p.header.toNat) = false) :
    forward router [p] s = count cPktDiscard 1 s := by
  have htaken : portTaken router p s = none := by simp [portTaken, hbad]
  simp only [forward, each, List.filterMap_cons, htaken, List.filterMap_nil, List.foldl_cons, List.foldl_nil, hbad,
    Bool.not_false, if_true]

theorem headerOk_vc {p : Flits} (h : headerOk (decodeFlit p.header.toNat) = true) : vcOf p ≤ 4 := by
  simp only [headerOk, Bool.and_eq_true, decide_eq_true_eq] at h
  exact h.2

theorem dirCode_lt (d : Dir) : dirCode d < 4 := by cases d <;> decide

theorem dirOf_dirCode (d : Dir) : dirOf (dirCode d) = d := by cases d <;> rfl

theorem linkKey_eq (l : LinkRef) : linkKey l = 4 * l.router.val + dirCode l.dir := by
  obtain ⟨r, d⟩ := l
  cases d <;> rfl

/-- A packet waits in `port` of `router`, where nothing else waits. -/
def queued (router : Nat) (port : OutPort) (p : Flits) (s : State) : State :=
  setPortArb (portKey router port) { portS_ s (portKey router port) with waiting := [(p, 0)] } s

theorem queueOut_mesh {router : BlockId} {d : Dir} {r : Nat} {p : Flits} {s : State}
    (hend : linkEnd { router := router, dir := d } = some r) (hdark : isDark s (r / 640) = false)
    (hempty : (portS_ s (portKey router.val (.mesh d))).waiting = []) :
    queueOut router.val (.mesh d) p s = queued router.val (.mesh d) p s := by
  have hend' : linkEnd { router := Fin.ofNat 53760 router.val, dir := d } = some r := by rw [Fin.ofNat_val_eq_self]; exact hend
  simp only [queueOut, hend', hdark, Bool.false_eq_true, if_false, hempty, List.nil_append, queued]

theorem queueOut_mesh_dark {router : BlockId} {d : Dir} {r : Nat} {p : Flits} {s : State}
    (hend : linkEnd { router := router, dir := d } = some r) (hdark : isDark s (r / 640) = true) :
    queueOut router.val (.mesh d) p s = count cPktDiscard (flitCount p) s := by
  have hend' : linkEnd { router := Fin.ofNat 53760 router.val, dir := d } = some r := by rw [Fin.ofNat_val_eq_self]; exact hend
  simp only [queueOut, hend', hdark, if_true]

theorem queueOut_local {router : Nat} {p : Flits} {s : State} (hempty : (portS_ s (portKey router .local_)).waiting = []) :
    queueOut router .local_ p s = queued router .local_ p s := by
  simp only [queueOut, hempty, List.nil_append, queued]

theorem portKey_mesh_dirs (router : Nat) (d : Dir) :
    portKey router (.mesh d) / 8 = router ∧ portKey router (.mesh d) % 8 = dirCode d := by
  have h := dirCode_lt d
  simp only [portKey]
  omega

/-- A packet alone at a link's port that does not retrain leaves by the link. -/
theorem drain_queued_mesh {router : BlockId} {d : Dir} {p : Flits} {s : State} (hvc : vcOf p ≤ 4)
    (hidle : (linkS s (linkKey { router := router, dir := d })).retraining = false) :
    ∃ ports links, drainPort (portKey router.val (.mesh d)) (queued router.val (.mesh d) p s) =
      emit (.fabric router.val (.mesh d) p) (withTraffic ports links s) := by
  obtain ⟨hdiv, hmod⟩ := portKey_mesh_dirs router.val d
  have hlink : (linkS (queued router.val (.mesh d) p s) (4 * (portKey router.val (.mesh d) / 8) +
      portKey router.val (.mesh d) % 8)).retraining = false := by
    rw [hdiv, hmod]
    rw [linkKey_eq] at hidle
    exact hidle
  obtain ⟨ports, links, heq⟩ := drainPort_single (k := portKey router.val (.mesh d)) (p := p)
    (s := queued router.val (.mesh d) p s) hvc (by rw [queued, portS_setPortArb]) (by simp [hlink])
  rw [packetLeft_of_mesh (by rw [hmod]; exact dirCode_lt d), hdiv, hmod, dirOf_dirCode] at heq
  exact ⟨ports, links, heq⟩

/-- A packet alone at the L port of a lit field leaves by it. -/
theorem drain_queued_local {router : Nat} {p : Flits} {s : State} (hvc : vcOf p ≤ 4) (hlit : isLit s (router / 640) = true) :
    ∃ ports links, drainPort (portKey router .local_) (queued router .local_ p s) =
      emit (.fabric router .local_ p) (withTraffic ports links s) := by
  have hdiv : portKey router .local_ / 8 = router := by simp only [portKey]; omega
  have hmod : portKey router .local_ % 8 = 4 := by simp only [portKey]; omega
  obtain ⟨ports, links, heq⟩ := drainPort_single (k := portKey router .local_) (p := p)
    (s := queued router .local_ p s) hvc (by rw [queued, portS_setPortArb]) (by simp [hmod])
  have hlit' : isLit (withTraffic ports links (queued router .local_ p s)) (router / 640) = true := hlit
  simp only [packetLeft, hmod, hdiv, portOf, Nat.lt_irrefl, if_false, if_true, hlit'] at heq
  exact ⟨ports, links, heq⟩

theorem packetForward_alone (router : BlockId) (p : Flits) (chk : Bool) {s : State} (hready : Ready s)
    (hdark : isDark s (router.val / 640) = false) :
    exec (.packetForward router p none chk) s = .next (forward router.val [p] s) := by
  refine (next_of_ready hready rfl).trans ?_
  simp only [hdark, Bool.false_eq_true, if_false]

theorem fieldAt_block (b : Nat) : fieldAt (blockBx b) (blockBy b) = b / 640 := by
  simp only [fieldAt, blockBx, blockBy]
  omega

theorem routeOut_mesh {router : Nat} {f : Flit} {d : Dir} {s : State} (hesc : f.esc = false)
    (hfield : fieldAt f.destBx f.destBy = router / 640)
    (hdir : dirInField (blockBx router) (blockBy router) f.destBx f.destBy = some d) :
    routeOut s router f = some (.mesh d, false) := by
  simp only [routeOut, hfield, if_true, hdir, hesc]

theorem routeOut_local {router : Nat} {f : Flit} {s : State} (hesc : f.esc = false) (hkind : f.destKind = 0)
    (hbx : f.destBx = blockBx router) (hby : f.destBy = blockBy router) : routeOut s router f = some (.local_, false) := by
  have hfield : fieldAt f.destBx f.destBy = router / 640 := by rw [hbx, hby, fieldAt_block]
  have hdir : dirInField (blockBx router) (blockBy router) f.destBx f.destBy = none := by simp [dirInField, hbx, hby]
  simp only [routeOut, hfield, if_true, hdir, hkind, hesc]

theorem headerOk_of_reserved {f : Flit} (h : 8 < f.type ∨ f.type = 0 ∨ 256 < f.len ∨ f.destKind = 3) : headerOk f = false := by
  have hbad : flitInvalid f = true := by
    simp only [flitInvalid, Bool.or_eq_true, decide_eq_true_eq]
    omega
  simp [headerOk, hbad]

/-! ## The L port of a block whose cores do not run -/

theorem coreKey_div {c : Nat} (block : Nat) (hc : c < 16) : coreKey block c / 16 = block := by
  simp only [coreKey]
  omega

theorem coreOn_of_unlit {block c : Nat} {s : State} (hc : c < 16) (h : isLit s (block / 640) = false) :
    coreOn s (coreKey block c) = false := by
  simp [coreOn, coreKey_div block hc, h]

theorem lt_of_mem_maskCores {c mask : Nat} (h : c ∈ maskCores mask) : c < 16 :=
  List.mem_range.mp (List.mem_of_mem_filter h)

theorem anchorPort_of_unlit {block : Nat} (f : Flit) (p : Flits) {s : State} (h : isLit s (block / 640) = false) :
    anchorPort block f p s = count cPktDiscard 1 s := by
  simp [anchorPort, coreOn_of_unlit (by decide : 0 < 16) h]

theorem localPort_of_unlit {block : Nat} (p : Flits) {s : State} (h : isLit s (block / 640) = false) :
    localPort block p s = count cPktDiscard 1 s := by
  simp [localPort, coreOn_of_unlit (by decide : 0 < 16) h]

theorem portRead_of_unlit {block : Nat} (f : Flit) (hit : ParityHit) {s : State} (h : isLit s (block / 640) = false) :
    portRead block f hit s = count cPktDiscard 1 s := by
  unfold portRead
  split
  next k hk =>
    have hmem : k ∈ (maskCores (f.addr / 65536)).map (coreKey block) := by rw [hk]; exact List.mem_singleton_self k
    obtain ⟨c, hc, rfl⟩ := List.mem_map.mp hmem
    rw [coreOn_of_unlit (lt_of_mem_maskCores hc) h]
    exact if_neg Bool.false_ne_true
  next => rfl

theorem lPortWrite_of_unlit (block : BlockId) (p : Flits) (parity : Option ParityHit) {s : State} (hready : Ready s)
    (h : isLit s (block.val / 640) = false) : exec (.lPortWrite block p parity) s = .next (count cPktDiscard 1 s) := by
  refine (next_of_ready hready rfl).trans (congrArg _ ?_)
  split
  · exact anchorPort_of_unlit _ _ h
  · split
    · split
      · exact portRead_of_unlit _ _ h
      · exact localPort_of_unlit _ h
    · exact localPort_of_unlit _ h

/-! ## Merging -/

/-- What a merge of spill packets is. -/
theorem spillMerge_eq {p q m : Flits} (h : spillMerge p q = some m) :
    m = { header := p.header
          payload := bytesLE 16 ((field (ofBytesLE (p.payload.take 16)) 0 16 + field (ofBytesLE (q.payload.take 16)) 0 16) %
            65536) ++ addFp32Bytes (p.payload.drop 16) (q.payload.drop 16) } := by
  unfold spillMerge at h
  dsimp only at h
  split at h
  · exact (Option.some.inj h).symm
  · cases h

theorem mergePackets_of_spill {p q m : Flits} (h : spillMerge p q = some m) : mergePackets p q = some (m, false) := by
  simp [mergePackets, h]

theorem packetForward_spill {router : BlockId} {p q m : Flits} (chk : Bool) {s : State} (hready : Ready s)
    (hdark : isDark s (router.val / 640) = false) (h : spillMerge p q = some m) :
    exec (.packetForward router p (some q) chk) s =
      .next (if chk then forward router.val [m] s else forward router.val [p, q] (count cResidue 1 s)) := by
  refine (next_of_ready hready rfl).trans ?_
  simp only [hdark, Bool.false_eq_true, if_false, mergePackets_of_spill h]

/-! ## What forwarding counts -/

section
variable {j : Nat} (hd : j ≠ cPktDiscard) (hp : j ≠ cPeerOut)
include hp

theorem counter_drainLane (c n : Nat) (s : State) : counter (drainLane c n s) j = counter s j := by
  fun_induction drainLane c n s with
  | case1 => rfl
  | case2 => rfl
  | case3 n s l h p rest hw hfree ih => exact ih.trans (counter_count_ne _ _ hp)
  | case4 => rfl

theorem counter_hubOut (router : Nat) (p : Flits) (s : State) : counter (hubOut router p s) j = counter s j := by
  unfold hubOut
  split
  · exact counter_drainLane hp _ _ _
  · rfl

include hd

theorem counter_packetLeft (k : Nat) (p : Flits) (s : State) : counter (packetLeft k p s) j = counter s j := by
  unfold packetLeft
  dsimp only
  split
  · split
    · rfl
    · exact counter_count_ne _ _ hd
  · exact counter_hubOut hp _ _ _
  · rfl

theorem counter_servePort (k n : Nat) (s : State) : counter (servePort k n s) j = counter s j := by
  fun_induction servePort k n s with
  | case1 => rfl
  | case2 => rfl
  | case3 => rfl
  | case4 n s a v owed turns hserve r ended b s1 flit last hr s2 ih =>
    have hs2 : counter s2 j = counter s j := by
      simp only [s2]
      split <;> rfl
    refine (ih.trans ?_).trans hs2
    cases last with
    | none => rfl
    | some p => exact counter_packetLeft hd hp _ _ _

theorem counter_drainPort (k : Nat) (s : State) : counter (drainPort k s) j = counter s j := by
  unfold drainPort
  split
  · rfl
  · exact counter_servePort hd hp _ _ _

omit hp in
theorem counter_queueOut (router : Nat) (port : OutPort) (p : Flits) (s : State) :
    counter (queueOut router port p s) j = counter s j := by
  unfold queueOut
  dsimp only
  split
  · split
    · exact counter_count_ne _ _ hd
    · split
      · exact counter_count_ne _ _ hd
      · rfl
  · rfl

omit hd hp in
theorem counter_each {α : Type} {f : α → State → State} (h : ∀ a s, counter (f a s) j = counter s j) (l : List α) (s : State) :
    counter (each l f s) j = counter s j := by
  induction l generalizing s with
  | nil => rfl
  | cons a l ih => exact (ih (f a s)).trans (h a s)

/-- Forwarding counts nothing but discarded flits, and bytes that leave by a hub's lane. -/
theorem counter_forward (router : Nat) (ps : List Flits) (s : State) : counter (forward router ps s) j = counter s j := by
  unfold forward
  refine (counter_each (fun k x => counter_drainPort hd hp k x) _ _).trans (counter_each (fun p x => ?_) _ _)
  dsimp only
  split
  · exact counter_count_ne _ _ hd
  · split
    · exact counter_count_ne _ _ hd
    · exact counter_queueOut hd _ _ _ _

end

/-- Settles O9. -/
theorem packetsFollowTheirRoute : Obligations.PacketsFollowTheirRoute := by
  unfold Obligations.PacketsFollowTheirRoute
  refine ⟨fun router p d r chk s hready hlit hok hesc hfield hdir hend hdark hempty hidle => ?_,
    fun router p chk s hready hlit hok hesc hkind hbx hby hempty => ?_,
    fun router p chk s hready hlit hbad => ?_,
    fun router p d r chk s hready hlit hok hroute hend hdark hempty => ?_,
    fun block p parity s hready hunlit => ?_,
    fun router p q m s hready hlit hmerge => ?_, fun router p q m s hready hlit hmerge => ?_⟩
  · obtain ⟨ports, links, heq⟩ := drain_queued_mesh (headerOk_vc hok) hidle
    refine ⟨_, packetForward_alone router p chk hready hlit, ?_⟩
    rw [forward_single hok (routeOut_mesh hesc hfield hdir), queueOut_mesh hend hdark hempty, heq]
    exact ⟨rfl, only_of_patch rfl⟩
  · have hdark : isDark s (router.val / 640) = false := by
      rw [isLit_iff] at hlit
      simp [isDark, hlit]
    obtain ⟨ports, links, heq⟩ := drain_queued_local (headerOk_vc hok) hlit
    refine ⟨_, packetForward_alone router p chk hready hdark, ?_⟩
    rw [forward_single hok (routeOut_local hesc hkind hbx hby), queueOut_local hempty, heq]
    exact ⟨rfl, only_of_patch rfl⟩
  · refine ⟨_, packetForward_alone router p chk hready hlit, ?_⟩
    rw [forward_bad (headerOk_of_reserved hbad)]
    exact ⟨counter_count_same _ _ _, only_of_patch rfl⟩
  · refine ⟨_, packetForward_alone router p chk hready hlit, ?_⟩
    rw [forward_single hok hroute, queueOut_mesh_dark hend hdark, drainPort_of_none (by exact hempty)]
    exact ⟨counter_count_same _ _ _, only_of_patch rfl⟩
  · exact ⟨_, lPortWrite_of_unlit block p parity hready hunlit, counter_count_same _ _ _, only_of_patch rfl⟩
  · refine ⟨_, packetForward_spill true hready hlit hmerge, packetForward_alone router m true hready hlit, ?_⟩
    rw [spillMerge_eq hmerge]
    refine ⟨rfl, List.drop_left' (length_bytesLE _ _), ?_⟩
    rw [List.take_left' (length_bytesLE _ _), ofBytesLE_bytesLE]
    simp only [field]
    omega
  · refine ⟨_, packetForward_spill false hready hlit hmerge, ?_, rfl⟩
    exact (counter_forward (by decide) (by decide) _ _ _).trans (counter_count_same _ _ _)

end Sys2Proof.Machine

/-! SUPPORT. Packets into SRAM (R123, R199). -/

namespace Sys2Proof.Machine

/-- The cores of a list, each updated. -/
def updCores (ks : List Nat) (f : CoreS → CoreS) (s : State) : State := each ks (fun k => updCore k f) s

theorem updCore_only {k : Nat} {f : CoreS → CoreS} {s : State} : Only [.cores] s (updCore k f s) := only_of_patch rfl

theorem updCores_only (ks : List Nat) (f : CoreS → CoreS) (s : State) : Only [.cores] s (updCores ks f s) := by
  induction ks generalizing s with
  | nil => exact Only.refl _ _
  | cons k ks ih => exact ((updCore_only (k := k) (f := f)).trans (ih (updCore k f s))).mono (by decide)

@[simp] theorem coreS_updCore_same (k : Nat) (f : CoreS → CoreS) (s : State) : coreS (updCore k f s) k = f (coreS s k) := by
  simp [updCore]

@[simp] theorem coreS_updCore_ne {k j : Nat} (f : CoreS → CoreS) (s : State) (h : j ≠ k) :
    coreS (updCore k f s) j = coreS s j := by
  simp [updCore, h]

theorem coreS_updCores_of_not_mem {ks : List Nat} {k : Nat} (f : CoreS → CoreS) (s : State) (h : k ∉ ks) :
    coreS (updCores ks f s) k = coreS s k := by
  induction ks generalizing s with
  | nil => rfl
  | cons j ks ih =>
    have ⟨hj, hks⟩ := not_or.mp (mt List.mem_cons.mpr h)
    exact (ih (updCore j f s) hks).trans (coreS_updCore_ne f s hj)

theorem coreS_updCores_of_mem {ks : List Nat} {k : Nat} (f : CoreS → CoreS) (s : State) (hnodup : ks.Nodup) (h : k ∈ ks) :
    coreS (updCores ks f s) k = f (coreS s k) := by
  induction ks generalizing s with
  | nil => cases h
  | cons j ks ih =>
    have ⟨hj, hks⟩ := List.nodup_cons.mp hnodup
    rcases List.mem_cons.mp h with rfl | hmem
    · exact (coreS_updCores_of_not_mem f (updCore k f s) hj).trans (coreS_updCore_same k f s)
    · have hne : k ≠ j := fun heq => hj (heq ▸ hmem)
      exact (ih (updCore j f s) hks hmem).trans (congrArg f (coreS_updCore_ne f s hne))

theorem nodup_coreKeys (block mask : Nat) : ((maskCores mask).map (coreKey block)).Nodup :=
  (List.nodup_range.filter _).map fun a b (h : 16 * block + a = 16 * block + b) => Nat.add_left_cancel h

/-- A write's bytes in a core's SRAM. -/
def sramWritten (addr : Nat) (bs : List Byte) (o : CoreS) : CoreS := { o with sram := mapSetList 0#8 o.sram addr bs }

/-- The FP32 sums of a spill packet's data in a core's SRAM. -/
def sramAdded (addr : Nat) (data : List Byte) (o : CoreS) : CoreS :=
  { o with sram := mapSetList 0#8 o.sram addr (addFp32Bytes (mapGetList 0#8 o.sram addr data.length) data) }

theorem lPortWrite_write (block : BlockId) {p : Flits} (parity : Option ParityHit) {s : State} (hready : Ready s)
    (htype : (decodeFlit p.header.toNat).type = 2) :
    exec (.lPortWrite block p parity) s = .next (localPort block.val p s) := by
  refine (next_of_ready hready rfl).trans (congrArg _ ?_)
  have hanchor : ¬ ((decodeFlit p.header.toNat).type = 1 ∨ (decodeFlit p.header.toNat).type = 7) := by omega
  have hread : ¬ (decodeFlit p.header.toNat).type = 3 := by omega
  rw [if_neg hanchor]
  split
  · rw [if_neg hread]
  · rfl

section
variable {block : Nat} {p : Flits} {s : State} (hon : coreOn s (coreKey block 0) = true)
  (htype : (decodeFlit p.header.toNat).type = 2) (hquiet : bitAt (decodeFlit p.header.toNat).tag 15 = false)
include hon htype hquiet

theorem localPort_write (hadd : (decodeFlit p.header.toNat).add = false)
    (hcores : maskCores ((decodeFlit p.header.toNat).addr / 65536) ≠ [])
    (hfits : (decodeFlit p.header.toNat).addr % 65536 + p.payload.length ≤ 65536) :
    localPort block p s = updCores ((maskCores ((decodeFlit p.header.toNat).addr / 65536)).map (coreKey block))
      (sramWritten ((decodeFlit p.header.toNat).addr % 65536) p.payload) s := by
  have hsome : ((maskCores ((decodeFlit p.header.toNat).addr / 65536)).map (coreKey block)).isEmpty = false := by
    simpa using hcores
  simp only [localPort, hon, hsome, htype, hadd, hquiet, Nat.not_lt.mpr hfits, Bool.not_true, Bool.or_self,
    Bool.false_eq_true, if_false, and_false, Nat.reduceEqDiff]
  rfl

theorem localPort_spill {c : Nat} (hadd : (decodeFlit p.header.toNat).add = true)
    (hcore : maskCores ((decodeFlit p.header.toNat).addr / 65536) = [c])
    (hfits : (decodeFlit p.header.toNat).addr % 65536 + p.payload.length ≤ 65552) :
    localPort block p s = updCore (coreKey block c)
      (sramAdded ((decodeFlit p.header.toNat).addr % 65536) (p.payload.drop 16)) s := by
  simp only [localPort, hon, hcore, htype, hadd, hquiet, Nat.not_lt.mpr hfits, Bool.not_true, Bool.or_self,
    Bool.false_eq_true, if_false, and_self, if_true, Nat.reduceEqDiff, List.map_cons, List.map_nil, List.isEmpty_cons]
  rfl

end

/-- Settles O10. -/
theorem packetsReachSram : Obligations.PacketsReachSram := by
  unfold Obligations.PacketsReachSram
  refine ⟨fun block p parity s hready hon htype hadd hquiet hcores hfits => ?_,
    fun block c p parity s hready hon htype hadd hquiet hcore hfits => ?_⟩
  · refine ⟨_, (lPortWrite_write block parity hready htype).trans
      (congrArg _ (localPort_write hon htype hquiet hadd hcores hfits)), fun c hc => ?_,
      fun k hk => coreS_updCores_of_not_mem _ _ hk, updCores_only _ _ _⟩
    exact coreS_updCores_of_mem _ _ (nodup_coreKeys _ _) (List.mem_map_of_mem hc)
  · exact ⟨_, (lPortWrite_write block parity hready htype).trans
      (congrArg _ (localPort_spill hon htype hquiet hadd hcore hfits)), coreS_updCore_same _ _ _,
      fun k hk => coreS_updCore_ne _ _ hk, updCore_only⟩

end Sys2Proof.Machine

/-! SUPPORT. The small queues (R85 to R90). -/

namespace Sys2Proof.Machine

@[simp] theorem queueS_setQueue (q : QueueId) (v : QueueS) (s : State) : queueS (setQueue q v s) q = v := by
  simp [queueS, setQueue]

theorem queueItemWrite_eq {q : QueueId} {item : BitVec 1040} {s : State} (hready : Ready s) (hitem : item.toNat ≠ darkWord q) :
    exec (.queueItemWrite q item) s =
      .next (setQueue q (queueSend q (queueHeld s q) item.toNat (queueS s q)) s) := by
  refine (next_of_ready hready rfl).trans ?_
  rw [if_neg hitem]

theorem queueSend_of_credit {q : QueueId} {item : Nat} {v : QueueS} (hkept : v.kept = none)
    (hcredit : v.spent < queueStages q) : queueSend q false item v = enqueue q item v := by
  simp [queueSend, hkept, hcredit]

theorem queueSend_of_none {q : QueueId} {held : Bool} (item : Nat) {v : QueueS} (hkept : v.kept = none)
    (hwait : queueStages q ≤ v.spent ∨ held = true) : queueSend q held item v = { v with kept := some item } := by
  have hno : ¬ (v.spent < queueStages q ∧ held = false) := by
    rintro ⟨hlt, hfree⟩
    rcases hwait with h | h
    · omega
    · exact Bool.false_ne_true (hfree.symm.trans h)
  simp [queueSend, hkept, hno]

theorem queueItemRead_eq {q : QueueId} {s : State} (hready : Ready s) (hturn : ingestTurn s q = true) :
    exec (.queueItemRead q) s =
      .next (setQueue q (queueTake q (queueHeld s q) (queueS s q)) (noteTurn q s)) := by
  refine (next_of_ready hready rfl).trans ?_
  rw [if_pos hturn]

theorem ingestTurn_of_empty {q : QueueId} {s : State} (h : visible q (queueS s q) = 0) : ingestTurn s q = true := by
  cases q <;> first | rfl | simp [ingestTurn, h]

theorem noteTurn_of_empty {q : QueueId} {s : State} (h : visible q (queueS s q) = 0) : noteTurn q s = s := by
  cases q <;> first | rfl | simp [noteTurn, h]

theorem noteTurn_only (q : QueueId) (s : State) : Only [.stream] s (noteTurn q s) := (noteTurn_grows q s).onlyIn _ rfl

theorem setQueue_only {q : QueueId} {v : QueueS} {s : State} : Only [.fabric] s (setQueue q v s) := only_of_patch rfl

theorem queueTake_of_empty {q : QueueId} (held : Bool) {v : QueueS} (h : visible q v = 0) :
    queueTake q held v = { v with lastRead := darkWord q } := if_pos h

theorem queueTake_head {q : QueueId} (held : Bool) {v : QueueS} {i : Nat} {rest : List Nat} (h : visible q v ≠ 0)
    (hitems : v.items = i :: rest) (hclock : sameClock q = false) :
    queueTake q held v = { v with
      items := rest, lastRead := i, readCount := (v.readCount + 1) % queueModulus q
      readSync := intoSync ((v.readCount + 1) % queueModulus q) v.readSync } := by
  simp [queueTake, h, hitems, hclock]

theorem grayPointerSync_eq (q : QueueId) (side : QueueSide) {s : State} (hready : Ready s) :
    ∃ freed, exec (.grayPointerSync q side) s =
      .next (creditFar q freed (setQueue q (queueSync q side (queueHeld s q) (queueS s q)) s)) :=
  ⟨_, congrArg Host.Outcome.next (whenReady_of_ready _ hready)⟩

theorem creditFar_only (q : QueueId) (n : Nat) (s : State) : Only [.beam] s (creditFar q n s) :=
  (creditFar_grows q n s).onlyIn _ rfl

theorem queueS_creditFar (q : QueueId) (n : Nat) (s : State) : queueS (creditFar q n s) q = queueS s q := by
  have hfabric : (creditFar q n s).fabric = s.fabric := creditFar_only q n s .fabric (by decide)
  rw [queueS, queueS, hfabric]

/-- A count that has crossed: the queue as `queueSync` leaves it, and what it frees told to the far end. -/
theorem grayPointerSync_spec (q : QueueId) (side : QueueSide) {s : State} (hready : Ready s) :
    ∃ t, exec (.grayPointerSync q side) s = .next t ∧ queueS t q = queueSync q side (queueHeld s q) (queueS s q) ∧
      Only [.fabric, .beam] s t := by
  obtain ⟨freed, heq⟩ := grayPointerSync_eq q side hready
  exact ⟨_, heq, (queueS_creditFar _ _ _).trans (queueS_setQueue _ _ _), setQueue_only.trans (creditFar_only _ _ _)⟩

/-- Settles O11. -/
theorem queuesKeepTheirItems : Obligations.QueuesKeepTheirItems := by
  unfold Obligations.QueuesKeepTheirItems
  refine ⟨fun q item s hready hitem hkept hcredit hfree => ?_, fun q item s hready hitem hkept hwait => ?_,
    fun q s hready hempty => ?_, fun q s i rest hready hturn hsome hitems hclock => ?_,
    fun q s g rest hready hsync => ?_, fun q s g rest hready hsync hkept => ?_⟩
  · refine ⟨_, queueItemWrite_eq hready hitem, ?_⟩
    rw [hfree, queueSend_of_credit hkept hcredit, queueS_setQueue]
    exact ⟨rfl, rfl, rfl, setQueue_only⟩
  · refine ⟨_, queueItemWrite_eq hready hitem, ?_⟩
    rw [queueSend_of_none _ hkept hwait, queueS_setQueue]
    exact ⟨rfl, setQueue_only⟩
  · refine ⟨_, queueItemRead_eq hready (ingestTurn_of_empty hempty), ?_⟩
    rw [noteTurn_of_empty hempty, queueTake_of_empty _ hempty, queueS_setQueue]
    exact ⟨rfl, setQueue_only⟩
  · refine ⟨_, queueItemRead_eq hready hturn, ?_⟩
    rw [queueTake_head _ hsome hitems hclock, queueS_setQueue]
    exact ⟨rfl, ((noteTurn_only q s).trans setQueue_only).mono (by decide)⟩
  · obtain ⟨t, ht, hqueue, honly⟩ := grayPointerSync_spec q .writeCount hready
    refine ⟨t, ht, ?_, honly⟩
    rw [hqueue, queueSync, hsync]
  · obtain ⟨t, ht, hqueue, honly⟩ := grayPointerSync_spec q .readCount hready
    refine ⟨t, ht, ?_, honly⟩
    rw [hqueue, queueSync, hsync]
    simp only [returnCredits, sendKept, hkept]

end Sys2Proof.Machine

/-! SUPPORT. The peer routes that go with the route tables may find a module that cannot be reached any more (R350). -/

namespace Sys2Proof.Machine

/-- A READY module at reset values in a started job of two modules: it had a route to module 1, and has no channel to it now. -/
def peerLost : State :=
  { State.reset with
    boot := { State.reset.boot with state := .ready }
    job := { State.reset.job with started := true, members := 2 }
    beam := { State.reset.beam with routes := [(1, peerEntry true 1 1)] } }

theorem peerLost_connected : (poweredFields peerLost).all (fun f => (keptPart peerLost).contains f) = true := by decide +kernel

/-- The lead reports the module that it can reach no more. -/
theorem installTables_peerLost_sends : (installTables peerLost).sent.length = 1 := by decide +kernel

theorem routeTablesInstalled_of_none_returning {s : State} (hready : Ready s) (h : s.fabric.returnRebuild = false) :
    exec .routeTablesInstalled s = .next (installTables s) := by
  refine (next_of_ready hready rfl).trans ?_
  simp only [h, Bool.false_and, Bool.false_eq_true, if_false]

/-- Refutes O12: with the route tables the peer routes are built anew, and a module that has become unreachable is reported by a
message; the statement's frame for ROUTE_TABLES_INSTALLED leaves the messages out. -/
theorem not_fieldsAndUnitMapChange : ¬ Obligations.FieldsAndUnitMapChange := by
  unfold Obligations.FieldsAndUnitMapChange
  rintro ⟨-, -, hinstall, -⟩
  obtain ⟨t, ht, -, -, honly⟩ := hinstall peerLost rfl (.inl rfl) fun g hg =>
    List.contains_iff_mem.mp (List.all_eq_true.mp peerLost_connected g hg)
  rw [next_unique ht (routeTablesInstalled_of_none_returning rfl rfl)] at honly
  have hsent : (installTables peerLost).sent = peerLost.sent := honly .sent (by decide)
  have hlength := congrArg List.length hsent
  rw [installTables_peerLost_sends] at hlength
  exact absurd hlength (by decide)

end Sys2Proof.Machine

/-! SUPPORT. An arrival at a scoreboard entry lets every context of the core that waits at issue try again (R130, R133). -/

namespace Sys2Proof.Machine

/-- A READY module at reset values, but that context 0 of core 0 of block 0 runs a task with 0xFFFF in r1, while context 1 waits at
issue. -/
def neighbourWaits : State :=
  { State.reset with
    boot := { State.reset.boot with state := .ready }
    cores := [(0, { ctxs := [(0, { task := some {}, regs := [(1, 0xFFFF#32)] }), (1, { task := some {}, waiting := true })] })] }

/-- Context 0 of core 0 of block 0. -/
def firstContext : Issue := { block := 0, core := 0, ctx := 0, pred := false, chk := .ok }

/-- The module after SIGNAL to entry 0 of the core itself. -/
def neighbourTries : State := advance 0 0 (signalFrom 0 0 0xFFFF 0 1 neighbourWaits)

theorem signal_neighbourWaits : exec (.signal firstContext 1 0 1) neighbourWaits = .next neighbourTries := rfl

theorem neighbourTries_free : (ctxS neighbourTries 0 1).waiting = false := by decide +kernel

/-- Refutes O13: SIGNAL at an entry of the core itself ends the wait at issue of every context of the core, where the statement
has the other contexts unchanged. -/
theorem not_controlInstructionsComplete : ¬ Obligations.ControlInstructionsComplete := by
  unfold Obligations.ControlInstructionsComplete
  rintro ⟨-, -, -, -, -, -, -, hsignal, -⟩
  obtain ⟨t, ht, -, -, -, -, -, -, hctxs⟩ := hsignal firstContext neighbourWaits {} 1 0 1
    ⟨rfl, rfl, rfl, rfl, rfl, by decide, by decide, rfl⟩ rfl rfl (by decide)
  rw [next_unique ht signal_neighbourWaits] at hctxs
  have hwaits : (ctxS neighbourTries 0 1).waiting = (ctxS neighbourWaits 0 1).waiting :=
    congrArg CtxS.waiting (hctxs 1 (by decide))
  rw [neighbourTries_free] at hwaits
  exact absurd hwaits (by decide)

end Sys2Proof.Machine

/-! SUPPORT. What an instruction that issues does: its act, its wait, its fault; and changes of one core as one function of that
core (R129 to R136). -/

namespace Sys2Proof.Machine

/-! ## Issue -/

section
variable {k : Issue} {s : State} {task : QTask} (h : Issues k s task)
  {f : State → CoreS → CtxS → QTask → Nat → Nat → Act}
include h

theorem runInstr_of_issues :
    runInstr k f s = (match f s (issueCore k s) (issueCtx k s) task (issueKey k) k.ctx.val with
      | .wait g => updCtx (issueKey k) k.ctx.val (fun y => { y with waiting := true }) (g s)
      | .fault code => taskFault (issueKey k) k.ctx.val code s
      | .check q => checkError (issueKey k) k.ctx.val q s
      | .act g => g s) := by
  obtain ⟨hready, hon, htask, hstopped, hyields, hpc, hpred, hchk⟩ := h
  have hacts : (k.pred && !(issueCtx k s).pred) = false := by
    cases hk : k.pred with
    | false => rfl
    | true => simp [hpred hk]
  rw [runInstr, whenReady_of_ready _ hready]
  simp only [issueAct, hon, Bool.not_true, Bool.false_eq_true, if_false, htask, hstopped, hyields, Bool.or_self,
    Nat.not_lt.mpr hpc, hacts]
  split <;> rename_i heq <;> rw [heq]
  simp [hchk]

theorem runInstr_act {g : State → State}
    (hact : f s (issueCore k s) (issueCtx k s) task (issueKey k) k.ctx.val = .act g) : runInstr k f s = g s := by
  rw [runInstr_of_issues h, hact]

theorem runInstr_wait {g : State → State}
    (hwait : f s (issueCore k s) (issueCtx k s) task (issueKey k) k.ctx.val = .wait g) :
    runInstr k f s = updCtx (issueKey k) k.ctx.val (fun y => { y with waiting := true }) (g s) := by
  rw [runInstr_of_issues h, hwait]

theorem runInstr_fault {code : Nat}
    (hfault : f s (issueCore k s) (issueCtx k s) task (issueKey k) k.ctx.val = .fault code) :
    runInstr k f s = taskFault (issueKey k) k.ctx.val code s := by
  rw [runInstr_of_issues h, hfault]

end

/-! ## Changes of one core -/

/-- Of the cores only core `k` differs, as `F` changes it, and beside the cores only the parts listed. -/
structure CoreStep (k : Nat) (F : CoreS → CoreS) (ps : List Part) (s t : State) : Prop where
  core : coreS t k = F (coreS s k)
  others : ∀ j : Nat, j ≠ k → coreS t j = coreS s j
  only : Only (.cores :: ps) s t

theorem updCore_step (k : Nat) (F : CoreS → CoreS) (s : State) : CoreStep k F [] s (updCore k F s) :=
  ⟨coreS_updCore_same k F s, fun _ hj => coreS_updCore_ne F s hj, updCore_only⟩

theorem CoreStep.trans {k : Nat} {F G : CoreS → CoreS} {ps qs : List Part} {s t u : State} (h : CoreStep k F ps s t)
    (g : CoreStep k G qs t u) : CoreStep k (fun o => G (F o)) (ps ++ qs) s u :=
  ⟨by rw [g.core, h.core], fun j hj => (g.others j hj).trans (h.others j hj),
    (h.only.trans g.only).mono fun p hp => by simp at hp ⊢; tauto⟩

/-- A change of other parts alone. -/
theorem CoreStep.of_only {k : Nat} {ps : List Part} {s t : State} (h : Only ps s t) (hcores : t.cores = s.cores) :
    CoreStep k id ps s t :=
  ⟨by simp only [coreS, hcores, id], fun j _ => by simp only [coreS, hcores], h.mono fun p hp => List.mem_cons_of_mem _ hp⟩

theorem CoreStep.mono {k : Nat} {F : CoreS → CoreS} {ps qs : List Part} {s t : State} (h : CoreStep k F ps s t)
    (hsub : ps ⊆ qs) : CoreStep k F qs s t :=
  ⟨h.core, h.others, h.only.mono (List.cons_subset_cons _ hsub)⟩

/-- A core's change leaves the contexts other than `c` as they stood. -/
def KeepsCtxs (c : Nat) (F : CoreS → CoreS) (o : CoreS) : Prop :=
  ∀ d : Nat, d ≠ c → mapGet {} (F o).ctxs d = mapGet {} o.ctxs d

theorem CoreStep.onCore {k : Issue} {F : CoreS → CoreS} {ps : List Part} {s t : State} (h : CoreStep (issueKey k) F ps s t)
    (hctxs : KeepsCtxs k.ctx.val F (issueCore k s)) : OnCore k ps s t :=
  ⟨h.only, h.others, fun d hd => by rw [ctxS, h.core]; exact hctxs d hd⟩

theorem CoreStep.ctx {k : Issue} {F : CoreS → CoreS} {ps : List Part} {s t : State} (h : CoreStep (issueKey k) F ps s t) :
    issueCtx k t = mapGet {} (F (issueCore k s)).ctxs k.ctx.val :=
  congrArg (fun o : CoreS => mapGet ({} : CtxS) o.ctxs k.ctx.val) h.core

theorem mapGet_mapUpd_same {α : Type} [DecidableEq α] {d : α} (m : Map α) (n : Nat) (f : α → α) :
    mapGet d (mapUpd d m n f) n = f (mapGet d m n) := mapGet_mapSet_same

theorem mapGet_mapUpd_ne {α : Type} [DecidableEq α] {d : α} {n j : Nat} (m : Map α) (f : α → α) (h : j ≠ n) :
    mapGet d (mapUpd d m n f) j = mapGet d m j := mapGet_mapSet_ne h

/-- The change of a core whose context `c` has issued. -/
def coreIssued (c : Nat) (o : CoreS) : CoreS := { o with ctxs := mapUpd {} o.ctxs c nextPc, turn := c }

theorem coreIssued_eq (k : Issue) (o : CoreS) : coreIssued k.ctx.val o = issued k o := rfl

theorem advance_step (k c : Nat) (s : State) : CoreStep k (coreIssued c) [] s (advance k c s) := updCore_step _ _ _

theorem writeSram_step (k a : Nat) (bs : List Byte) (s : State) : CoreStep k (sramWritten a bs) [] s (writeSram k a bs s) :=
  updCore_step _ _ _

/-- The change of a core that a change of one context makes. -/
def ctxChanged (c : Nat) (f : CtxS → CtxS) (o : CoreS) : CoreS := { o with ctxs := mapUpd {} o.ctxs c f }

theorem updCtx_step (k c : Nat) (f : CtxS → CtxS) (s : State) : CoreStep k (ctxChanged c f) [] s (updCtx k c f s) :=
  updCore_step _ _ _

/-- A change of a core, after which its context issues, keeps the other contexts where the change does. -/
theorem keepsCtxs_issued {c : Nat} {F : CoreS → CoreS} {o : CoreS} (h : KeepsCtxs c F o) :
    KeepsCtxs c (fun o => coreIssued c (F o)) o := fun d hd =>
  (mapGet_mapUpd_ne _ _ hd).trans (h d hd)

theorem keepsCtxs_changed {c : Nat} {F : CoreS → CoreS} {o : CoreS} (f : CtxS → CtxS) (h : KeepsCtxs c F o) :
    KeepsCtxs c (fun o => ctxChanged c f (F o)) o := fun d hd =>
  (mapGet_mapUpd_ne _ _ hd).trans (h d hd)

theorem keepsCtxs_of_eq {c : Nat} {F : CoreS → CoreS} {o : CoreS} (h : (F o).ctxs = o.ctxs) : KeepsCtxs c F o := fun d _ => by
  rw [h]

/-- An instruction that waits, its core changed by `F` meanwhile. -/
theorem waits_step {k : Issue} {F : CoreS → CoreS} {s t : State} (h : CoreStep (issueKey k) F [] s t) :
    CoreStep (issueKey k) (fun o => waitsAtIssue k (F o)) [] s
      (updCtx (issueKey k) k.ctx.val (fun y => { y with waiting := true }) t) :=
  h.trans (updCtx_step _ _ _ _)

/-! ## Task faults -/

theorem requestRollback_cores (cause : Nat) (s : State) : (requestRollback cause s).cores = s.cores :=
  (requestRollback_grows cause s).same .cores rfl

theorem requestRollback_fault (cause : Nat) (s : State) : (requestRollback cause s).fault = s.fault :=
  (requestRollback_grows cause s).same .fault rfl

/-- A context that a task fault has stopped. -/
def stoppedCtx (x : CtxS) : CtxS := { x with stopped := true }

/-- A task fault stops its context, where it is, and leaves a record of the cause. -/
theorem taskFault_spec (key c code : Nat) (s : State) :
    (coreS (taskFault key c code s) key) = ctxChanged c stoppedCtx (coreS s key) ∧
      (headRecord (taskFault key c code s)).code = code := by
  constructor
  · have hcores (r : FaultRec) (t : State) : (rollFault r 7 t).cores = t.cores :=
      (requestRollback_cores _ _).trans ((faultEvent_grows r t).same .cores rfl)
    have hcore := (updCtx_step key c stoppedCtx s).core
    rw [taskFault, coreS, hcores]
    exact hcore
  · rw [taskFault, rollFault, headRecord, requestRollback_fault, faultEvent_fault]
    exact (headRecord_recordFault _ _).2.1

theorem taskFault_ctx (key c code : Nat) (s : State) :
    ctxS (taskFault key c code s) key c = stoppedCtx (ctxS s key c) := by
  rw [ctxS, (taskFault_spec key c code s).1]
  exact mapGet_mapUpd_same (d := {}) (coreS s key).ctxs c stoppedCtx

end Sys2Proof.Machine

/-! SUPPORT. The move class (Table 4.2, R133, R210). -/

namespace Sys2Proof.Machine

theorem inSram_of_le {a len : Nat} (h : a + len ≤ 0x10000) : inSram a len = true := by simp [inSram, h]

/-- The change of a core whose move engine context `c` has taken. -/
def moveTaken (c : Nat) (o : CoreS) : CoreS := { o with move := some c }

section
variable {k : Issue} {s : State} {task : QTask} (h : Issues k s task)
  {f : State → CoreS → CtxS → QTask → Nat → Nat → Act}
include h

/-- An instruction that finds the move engine free acts, takes the engine and issues. -/
theorem move_acts (hfree : (issueCore k s).move = none) {g : State → State}
    (hact : f s (issueCore k s) (issueCtx k s) task (issueKey k) k.ctx.val = .act g) :
    runInstr k (onMove f) s = advance (issueKey k) k.ctx.val (updCore (issueKey k) (moveTaken k.ctx.val) (g s)) :=
  runInstr_act (g := fun st => advance (issueKey k) k.ctx.val (updCore (issueKey k) (moveTaken k.ctx.val) (g st))) h
    (by simp only [onMove, hfree, Option.isSome_none, Bool.false_eq_true, if_false, hact]; rfl)

theorem move_faults (hfree : (issueCore k s).move = none) {code : Nat}
    (hfault : f s (issueCore k s) (issueCtx k s) task (issueKey k) k.ctx.val = .fault code) :
    runInstr k (onMove f) s = taskFault (issueKey k) k.ctx.val code s :=
  runInstr_fault h (by simp only [onMove, hfree, Option.isSome_none, Bool.false_eq_true, if_false, hfault])

theorem move_waits {c : Nat} (hbusy : (issueCore k s).move = some c) :
    runInstr k (onMove f) s = updCtx (issueKey k) k.ctx.val (fun y => { y with waiting := true }) s :=
  runInstr_wait h (g := id) (by simp only [onMove, hbusy, Option.isSome_some, if_true])

/-- What an acting move instruction leaves, its own change of the core being `F`. -/
theorem move_spec {F : CoreS → CoreS} {ps : List Part} (hfree : (issueCore k s).move = none) {g : State → State}
    (hact : f s (issueCore k s) (issueCtx k s) task (issueKey k) k.ctx.val = .act g)
    (hstep : CoreStep (issueKey k) F ps s (g s)) (hctxs : (F (issueCore k s)).ctxs = (issueCore k s).ctxs) :
    issueCore k (runInstr k (onMove f) s) = issued k (moveTaken k.ctx.val (F (issueCore k s))) ∧
      OnCore k ps s (runInstr k (onMove f) s) := by
  rw [move_acts h hfree hact]
  have hall := ((hstep.trans (updCore_step (issueKey k) (moveTaken k.ctx.val) _)).trans
    (advance_step (issueKey k) k.ctx.val _)).mono (qs := ps) (by simp)
  exact ⟨hall.core, hall.onCore (keepsCtxs_issued (keepsCtxs_of_eq hctxs))⟩

end

/-! ## The instructions -/

theorem loadMask_step (k layer : Nat) (bs : List Byte) (s : State) : CoreStep k id [.place] s (loadMask layer bs s) :=
  .of_only ((loadMask_grows layer bs s).onlyIn _ rfl) ((loadMask_grows layer bs s).same .cores rfl)

/-- SRAM with items written one by one at their indices. -/
def sramScattered (dst size : Nat) (items : List (Nat × List Byte)) (o : CoreS) : CoreS :=
  { o with sram := items.foldl (fun m e => mapSetList 0#8 m (dst + e.1 * size) e.2) o.sram }

theorem scatterItems_step (k dst size : Nat) (items : List (Nat × List Byte)) (s : State) :
    CoreStep k (sramScattered dst size items) [] s (scatterItems k dst size items s) := by
  induction items generalizing s with
  | nil => exact .of_only (Only.refl _ _) rfl
  | cons e items ih => exact (writeSram_step k (dst + e.1 * size) e.2 s).trans (ih _)

/-- The items that SCATTER takes, with their indices, are those of the index list paired with their places. -/
theorem foldl_items_eq {β : Type} (l : List Nat) (g : Nat → List Byte) (f : β → Nat → List Byte → β) (b : β) :
    ((List.range l.length).map fun i => (nth 0 l i, g i)).foldl (fun m e => f m e.1 e.2) b =
      l.zipIdx.foldl (fun m e => f m e.1 (g e.2)) b := by
  have hitems : l.zipIdx = (List.range l.length).map fun i => (nth 0 l i, i) := by
    apply List.ext_getElem
    · simp
    · intro i h1 h2
      have hi : i < l.length := by simpa using h1
      simp [nth, hi]
  rw [hitems, List.foldl_map, List.foldl_map]

theorem copy_in_sram {dst src len : Nat} (hdst : dst + len ≤ 0x10000) (hsrc : src + len ≤ 0x10000) :
    (!inSram dst len || !inSram src len) = false := by
  rw [inSram_of_le hdst, inSram_of_le hsrc]
  rfl

/-- COPY of a block mask into the module: the mask is taken, and the core is busy with the move. -/
theorem copy_load {k : Issue} {s : State} {task : QTask} (dst src len : RegIx) (layer : BitVec 16) (h : Issues k s task)
    (hfree : (issueCore k s).move = none) (hdst : reg (issueCtx k s) dst + reg (issueCtx k s) len ≤ 0x10000)
    (hsrc : reg (issueCtx k s) src + reg (issueCtx k s) len ≤ 0x10000) :
    exec (.copy k dst src len (some (.load layer))) s =
      .next (advance (issueKey k) k.ctx.val (updCore (issueKey k) (moveTaken k.ctx.val)
        (loadMask layer.toNat (sramBytes (issueCore k s) (reg (issueCtx k s) src) (reg (issueCtx k s) len)) s))) :=
  congrArg Host.Outcome.next (move_acts h hfree
    (g := loadMask layer.toNat (sramBytes (issueCore k s) (reg (issueCtx k s) src) (reg (issueCtx k s) len)))
    (by rw [copy_in_sram hdst hsrc]; rfl))

theorem all_inSram {l : List Nat} {base size : Nat} (h : ∀ i ∈ l, base + i * size + size ≤ 0x10000) :
    (l.all fun i => inSram (base + i * size) size) = true :=
  List.all_eq_true.mpr fun i hi => inSram_of_le (h i hi)

theorem gatherPlain_act {o : CoreS} {dst src list : Nat} {l : IndexList} (key : Nat) (hlist : indexList o list = some l)
    (hdst : dst + l.size * l.indices.length ≤ 0x10000) (hitems : ∀ i ∈ l.indices, src + i * l.size + l.size ≤ 0x10000) :
    gatherPlain o key dst src list =
      .act (writeSram key dst (l.indices.flatMap fun i => sramBytes o (src + i * l.size) l.size)) := by
  simp only [gatherPlain, hlist, inSram_of_le hdst, all_inSram hitems, Bool.not_true, Bool.or_self, Bool.false_eq_true, if_false]

/-- The items of SCATTER: each item of the source with the index that it goes to. -/
def scatterList (o : CoreS) (src : Nat) (l : IndexList) : List (Nat × List Byte) :=
  (List.range l.indices.length).map fun i => (nth 0 l.indices i, sramBytes o (src + i * l.size) l.size)

theorem scatter_spec {k : Issue} {s : State} {task : QTask} {dst src list : RegIx} {l : IndexList} (h : Issues k s task)
    (hfree : (issueCore k s).move = none) (hlist : indexList (issueCore k s) (reg (issueCtx k s) list) = some l)
    (hsrc : reg (issueCtx k s) src + l.size * l.indices.length ≤ 0x10000)
    (hitems : ∀ i ∈ l.indices, reg (issueCtx k s) dst + i * l.size + l.size ≤ 0x10000) :
    ∃ t, exec (.scatter k dst src list) s = .next t ∧
      issueCore k t = issued k (moveTaken k.ctx.val (sramScattered (reg (issueCtx k s) dst) l.size
        (scatterList (issueCore k s) (reg (issueCtx k s) src) l) (issueCore k s))) ∧ OnCore k [] s t := by
  refine ⟨_, rfl, move_spec (g := scatterItems (issueKey k) (reg (issueCtx k s) dst) l.size
    (scatterList (issueCore k s) (reg (issueCtx k s) src) l)) h hfree ?_ (scatterItems_step _ _ _ _ _) rfl⟩
  simp only [hlist, inSram_of_le hsrc, all_inSram hitems, Bool.not_true, Bool.or_self, Bool.false_eq_true, if_false]
  rfl

theorem latch_spec {k : Issue} {s : State} {task : QTask} {src : RegIx} {grid : Grid} {w : Nat} (h : Issues k s task)
    (hfree : (issueCore k s).move = none)
    (hw : tileElemBytes (match grid with | .la => task.desc.fmtA | .lb => task.desc.fmtB) = some w)
    (hsrc : reg (issueCtx k s) src + 16 * w ≤ 0x10000) :
    ∃ t, exec (.latch k src grid) s = .next t ∧
      issueCore k t = issued k (moveTaken k.ctx.val (loadLatch grid ((List.range 16).map fun i =>
        sramNat (issueCore k s) (reg (issueCtx k s) src + i * w) w) (issueCore k s))) ∧ OnCore k [] s t := by
  refine ⟨_, rfl, move_spec (g := updCore (issueKey k) (loadLatch grid ((List.range 16).map fun i =>
        sramNat (issueCore k s) (reg (issueCtx k s) src + i * w) w))) h hfree ?_ (updCore_step _ _ _) ?_⟩
  · cases grid <;> simp only [hw, inSram_of_le hsrc, Bool.not_true, Bool.false_eq_true, if_false]
  · cases grid <;> rfl

theorem copy_out_of_sram {k : Issue} {s : State} {task : QTask} {dst src len : RegIx} (mask : Option MaskCopy)
    (h : Issues k s task) (hfree : (issueCore k s).move = none) (hpos : 0 < reg (issueCtx k s) len)
    (hout : 0x10000 < reg (issueCtx k s) dst + reg (issueCtx k s) len) :
    exec (.copy k dst src len mask) s = .next (taskFault (issueKey k) k.ctx.val tfAddress s) := by
  have hbad : inSram (reg (issueCtx k s) dst) (reg (issueCtx k s) len) = false := by
    simp only [inSram, Bool.or_eq_false_iff, decide_eq_false_iff_not]
    omega
  refine congrArg Host.Outcome.next (move_faults h hfree ?_)
  rw [hbad]
  rfl

/-- Settles O14. -/
theorem moveInstructionsComplete : Obligations.MoveInstructionsComplete := by
  unfold Obligations.MoveInstructionsComplete
  refine ⟨fun k s task dst src len h hfree hdst hsrc => ?_, fun k s task dst src len layer h hfree hdst hsrc => ?_,
    fun k s task dst src len layer h hfree hdst hsrc => ?_, fun k s task dst value len h hfree hdst => ?_,
    fun k s task dst src list l h hfree hlist hdst hitems => ?_, fun k s task dst src list l h hfree hlist hsrc hitems => ?_,
    fun k s task src grid w h hfree hw hsrc => latch_spec h hfree hw hsrc, fun k s task dst src len mask c h hbusy => ?_,
    fun k s task dst src len mask h hfree hpos hout => ?_⟩
  · exact ⟨_, rfl, move_spec h hfree
      (g := writeSram (issueKey k) (reg (issueCtx k s) dst) (sramBytes (issueCore k s) (reg (issueCtx k s) src)
        (reg (issueCtx k s) len)))
      (by rw [copy_in_sram hdst hsrc]; rfl) (writeSram_step _ _ _ _) rfl⟩
  · exact ⟨_, rfl, move_spec h hfree
      (g := writeSram (issueKey k) (reg (issueCtx k s) dst) (maskBytes s layer.toNat (reg (issueCtx k s) len)))
      (by rw [copy_in_sram hdst hsrc]; rfl) (writeSram_step _ _ _ _) rfl⟩
  · have hmove := ((loadMask_step (issueKey k) layer.toNat (sramBytes (issueCore k s) (reg (issueCtx k s) src)
      (reg (issueCtx k s) len)) s).trans (updCore_step (issueKey k) (moveTaken k.ctx.val) _)).trans
        (advance_step (issueKey k) k.ctx.val _)
    exact ⟨_, copy_load dst src len layer h hfree hdst hsrc, rfl, hmove.core,
      (hmove.mono (by simp)).onCore (keepsCtxs_issued (keepsCtxs_of_eq rfl))⟩
  · exact ⟨_, rfl, move_spec h hfree
      (g := writeSram (issueKey k) (reg (issueCtx k s) dst) ((List.range (reg (issueCtx k s) len)).map fun i =>
        BitVec.ofNat 8 (field (reg (issueCtx k s) value) (8 * (i % 4)) 8)))
      (by rw [inSram_of_le hdst]; rfl) (writeSram_step _ _ _ _) rfl⟩
  · exact ⟨_, rfl, move_spec h hfree (gatherPlain_act _ hlist hdst hitems) (writeSram_step _ _ _ _) rfl⟩
  · obtain ⟨t, ht, hcore, honly⟩ := scatter_spec h hfree hlist hsrc hitems
    refine ⟨t, ht, hcore.trans ?_, honly⟩
    rw [sramScattered, scatterList, foldl_items_eq l.indices _
      (fun m i bs => mapSetList 0#8 m (reg (issueCtx k s) dst + i * l.size) bs)]
    rfl
  · have hwait := waits_step (CoreStep.of_only (k := issueKey k) (Only.refl [] s) rfl)
    refine ⟨_, congrArg Host.Outcome.next (move_waits h hbusy), hwait.core, hwait.onCore ?_⟩
    exact keepsCtxs_changed _ (keepsCtxs_of_eq rfl)
  · obtain ⟨hcore, hcode⟩ := taskFault_spec (issueKey k) k.ctx.val tfAddress s
    refine ⟨_, copy_out_of_sram mask h hfree hpos hout, ?_, ?_, ?_, hcode⟩
    · exact congrArg CtxS.stopped (taskFault_ctx _ _ _ _)
    · exact (congrArg CtxS.pc (taskFault_ctx _ _ _ _)).trans rfl
    · exact (congrArg CoreS.sram hcore).trans rfl

end Sys2Proof.Machine

/-! SUPPORT. The tensor class (R110 to R117, R133, R210). -/

namespace Sys2Proof.Machine

theorem mapGet_filter_key {α : Type} {d : α} (q : Nat → Bool) (m : Map α) (n : Nat) :
    mapGet d (mapFilter (fun k _ => q k) m) n = if q n then mapGet d m n else d := by
  induction m with
  | nil => simp [mapFilter, mapGet]
  | cons e m ih =>
    obtain ⟨j, w⟩ := e
    simp only [mapFilter, List.filter_cons] at ih ⊢
    cases hj : q j with
    | true =>
      simp only [if_true, mapGet, ih]
      split
      next hn => rw [hn, hj, if_pos rfl]
      next => rfl
    | false =>
      simp only [Bool.false_eq_true, if_false, mapGet, ih]
      split
      next hn =>
        split
        next heq => rw [heq, hj] at hn; cases hn
        next => rfl
      next => rfl

/-! ## A context that has used a set, and issues -/

/-- A context whose task has used a set. -/
def usedSet (set : Nat) (y : CtxS) : CtxS :=
  { y with usedSets := if y.usedSets.contains set then y.usedSets else y.usedSets ++ [set] }

theorem useSet_step (k c set : Nat) (s : State) : CoreStep k (ctxChanged c (usedSet set)) [] s (useSet k c set s) :=
  updCtx_step _ _ _ _

/-- The change of a core that changes by `F`, notes that a set was used, and issues. -/
def issuedUsing (c set : Nat) (F : CoreS → CoreS) (o : CoreS) : CoreS := coreIssued c (ctxChanged c (usedSet set) (F o))

theorem issuedUsing_ctx (c set : Nat) {F : CoreS → CoreS} {o : CoreS} (h : (F o).ctxs = o.ctxs) :
    mapGet {} (issuedUsing c set F o).ctxs c = nextPc (usedSet set (mapGet {} o.ctxs c)) := by
  simp only [issuedUsing, coreIssued, ctxChanged, mapUpd, mapGet_mapSet_same, h]

theorem issuedUsing_step {k : Issue} (set : Nat) {F : CoreS → CoreS} {s t : State} (h : CoreStep (issueKey k) F [] s t) :
    CoreStep (issueKey k) (issuedUsing k.ctx.val set F) [] s
      (advance (issueKey k) k.ctx.val (useSet (issueKey k) k.ctx.val set t)) :=
  (h.trans (useSet_step _ _ _ _)).trans (advance_step _ _ _)

theorem issuedUsing_keeps {c set : Nat} {F : CoreS → CoreS} {o : CoreS} (h : (F o).ctxs = o.ctxs) :
    KeepsCtxs c (issuedUsing c set F) o :=
  keepsCtxs_issued (keepsCtxs_changed _ (keepsCtxs_of_eq h))

/-! ## MMA -/

theorem ok_of_toOption {p : Product} {r : Except Nat Product} (h : r.toOption = some p) : r = .ok p := by
  cases r with
  | error e => cases h
  | ok q => exact congrArg Except.ok (Option.some.inj h)

theorem accumulate_ctxs (p : Product) (o : CoreS) : (accumulate p o).ctxs = o.ctxs := rfl

/-! ### Pairs (R204 to R206): what an MMA says of them does not touch the cores, nor depend on them. -/

theorem scorePair_withCores (r : PredictorRec) (k quad : Nat) (above : Bool) (c : Map CoreS) (s : State) :
    scorePair r k quad above { s with cores := c } = { scorePair r k quad above s with cores := c } := by
  have hpair : pairS { s with cores := c } k = pairS s k := rfl
  unfold scorePair
  rw [hpair]
  dsimp only
  split
  · rfl
  · split
    · rfl
    · split <;> rfl

theorem shadowPair_withCores (r : PredictorRec) (k : Nat) (above : Bool) (c : Map CoreS) (s : State) :
    shadowPair r k above { s with cores := c } = { shadowPair r k above s with cores := c } := by
  have hpair : pairS { s with cores := c } k = pairS s k := rfl
  unfold shadowPair
  rw [hpair]
  dsimp only
  cases (pairS s k).shadowed <;> cases (above && !(pairS s k).missed) <;> rfl

theorem workPair_withCores (r : PredictorRec) (k : Nat) (c : Map CoreS) (s : State) :
    workPair r k { s with cores := c } = { workPair r k s with cores := c } := by
  have hpair : pairS { s with cores := c } k = pairS s k := rfl
  unfold workPair
  rw [hpair]
  dsimp only
  split <;> rfl

theorem each_withCores {α : Type} {f : α → State → State} (c : Map CoreS)
    (h : ∀ a s, f a { s with cores := c } = { f a s with cores := c }) (l : List α) (s : State) :
    each l f { s with cores := c } = { each l f s with cores := c } := by
  induction l generalizing s with
  | nil => rfl
  | cons a l ih =>
    have hstep : each (a :: l) f { s with cores := c } = each l f (f a { s with cores := c }) := rfl
    rw [hstep, h, ih]
    rfl

theorem usePairs_withCores (use : MmaUse) (o : CoreS) (x : CtxS) (p : Product) (c : Map CoreS) (s : State) :
    usePairs use o x p { s with cores := c } = { usePairs use o x p s with cores := c } := by
  have hrec (layer : Nat) : predRec { s with cores := c } layer = predRec s layer := rfl
  cases use with
  | plain => rfl
  | score f quad bias =>
    simp only [usePairs, hrec]
    split
    · rfl
    · split
      · rfl
      · exact each_withCores c (fun j st => scorePair_withCores _ _ _ _ _ _) _ _
  | shadow q =>
    simp only [usePairs, hrec]
    split
    · rfl
    · split
      · rfl
      · exact shadowPair_withCores _ _ _ _ _
  | pair q =>
    simp only [usePairs, hrec]
    split
    · rfl
    · exact workPair_withCores _ _ _ _

theorem usePairs_place (use : MmaUse) (o : CoreS) (x : CtxS) (p : Product) (key c set : Nat) (F : CoreS → CoreS) (s : State) :
    (usePairs use o x p (useSet key c set (updCore key F s))).place = (usePairs use o x p s).place :=
  (congrArg State.place (usePairs_withCores use o x p (useSet key c set (updCore key F s)).cores s)).trans rfl

theorem usePairs_step (k : Nat) (use : MmaUse) (o : CoreS) (x : CtxS) (p : Product) (s : State) :
    CoreStep k id [.place, .counters] s (usePairs use o x p s) :=
  .of_only ((usePairs_grows use o x p s).onlyIn _ rfl) ((usePairs_grows use o x p s).same .cores rfl)

section
variable {k : Issue} {s : State} {task : QTask} {word : BitVec 64} (h : Issues (withPred k word) s task)
include h

/-- An MMA that nothing holds and whose checks find nothing. -/
theorem mma_acts {use : MmaUse} {p : Product} (hruns : useRuns s use = true) (hbias : biasInSram use (issueCtx k s) = true)
    (hfree : (issueCore k s).tensor.length < 2)
    (hprep : (prepare 0x40 (issueCore k s) (issueCtx k s) task word.toNat).toOption = some p)
    (hcheck : shiftMismatch (issueCore k s) p = none) :
    exec (.mma k word use) s = .next (advance (issueKey k) k.ctx.val (usePairs use (accumulate p (issueCore k s)) (issueCtx k s) p
      (useSet (issueKey k) k.ctx.val p.set (updCore (issueKey k) (accumulate p) s)))) := by
  refine congrArg Host.Outcome.next (runInstr_act (g := fun st => advance (issueKey k) k.ctx.val
    (usePairs use (accumulate p (issueCore k s)) (issueCtx k s) p
      (useSet (issueKey k) k.ctx.val p.set (updCore (issueKey k) (accumulate p) st)))) h ?_)
  have hprep' : prepare 0x40 (issueCore (withPred k word) s) (issueCtx (withPred k word) s) task word.toNat = .ok p :=
    ok_of_toOption hprep
  have hfree' : ¬ 2 ≤ (issueCore (withPred k word) s).tensor.length := Nat.not_le.mpr hfree
  have hbias' : biasInSram use (issueCtx (withPred k word) s) = true := hbias
  have hcheck' : shiftMismatch (issueCore (withPred k word) s) p = none := hcheck
  simp only [hruns, hfree', hprep', hbias', hcheck', Bool.not_true, Bool.false_eq_true, if_false]
  rfl

theorem mma_outside_mask {use : MmaUse} (hruns : useRuns s use = false) :
    exec (.mma k word use) s = .next (advance (issueKey k) k.ctx.val s) := by
  refine congrArg Host.Outcome.next (runInstr_act (g := advance (issueKey k) k.ctx.val) h ?_)
  simp only [hruns, Bool.not_false, if_true]
  rfl

theorem mma_waits (hbusy : 2 ≤ (issueCore k s).tensor.length) :
    exec (.mma k word .plain) s = .next (updCtx (issueKey k) k.ctx.val (fun y => { y with waiting := true }) s) := by
  have hbusy' : 2 ≤ (issueCore (withPred k word) s).tensor.length := hbusy
  refine congrArg Host.Outcome.next (runInstr_wait (g := id) h ?_)
  simp only [useRuns, Bool.not_true, Bool.false_eq_true, if_false, hbusy', if_true]

end

/-! ## DRAIN and CLEAR -/

theorem cellKey_div (set : Nat) {i j : Nat} (hi : i < 4) (hj : j < 4) : cellKey set i j / 16 = set := by
  simp only [cellKey]
  omega

theorem mapGet_clearSets (set : Nat) (m : Map AccCell) {i j : Nat} (set' : Nat) (hi : i < 4) (hj : j < 4) :
    mapGet {} (clearSets [set] m) (cellKey set' i j) = if set' = set then {} else mapGet {} m (cellKey set' i j) := by
  rw [clearSets, mapGet_filter_key (fun n => ! [set].contains (n / 16)) m, cellKey_div set' hi hj]
  by_cases heq : set' = set
  · simp [heq]
  · simp [heq]

theorem cellOf_clearSet_same {set : Nat} {o : CoreS} (i j : Fin 4) : cellOf (clearSet set o) set i.val j.val = {} := by
  rw [cellOf, clearSet, mapGet_clearSets _ _ _ i.isLt j.isLt, if_pos rfl]

theorem cellOf_clearSet_ne {set set' : Nat} {o : CoreS} (h : set' ≠ set) (i j : Fin 4) :
    cellOf (clearSet set o) set' i.val j.val = cellOf o set' i.val j.val := by
  rw [cellOf, clearSet, mapGet_clearSets _ _ _ i.isLt j.isLt, if_neg h]
  rfl

/-- The tile that DRAIN writes, by orientation. -/
theorem drained_tile (o : CoreS) (set : Nat) (orient : Bool) :
    (if orient then transposed (drainWords o set) else drainWords o set) =
      (List.range 16).map fun n => drainWord (if orient then cellOf o set (n % 4) (n / 4) else cellOf o set (n / 4) (n % 4)) := by
  cases orient with
  | false => rfl
  | true =>
    simp only [if_true, transposed, drainWords]
    apply List.map_congr_left
    intro n hn
    have hn' : n < 16 := List.mem_range.mp hn
    have hlt : 4 * (n % 4) + n / 4 < 16 := by omega
    have hdiv : (4 * (n % 4) + n / 4) / 4 = n % 4 := by omega
    have hmod : (4 * (n % 4) + n / 4) % 4 = n / 4 := by omega
    simp [nth, hlt, hdiv, hmod]

/-- The change of a core that DRAIN makes, before its context goes on. -/
def drained (dst set : Nat) (bs : List Byte) (o : CoreS) : CoreS := clearSet set (sramWritten dst bs o)

theorem drain_spec {k : Issue} {s : State} {task : QTask} {dst : RegIx} {set : Fin 2} (orient : Bool) (h : Issues k s task)
    (hfree : setInUse (issueCore k s) set.val = false) (hdst : reg (issueCtx k s) dst + 64 ≤ 0x10000)
    (hcheck : drainMismatch (issueCore k s) set.val = none) :
    ∃ t, exec (.drain k dst set orient) s = .next t ∧
      CoreStep (issueKey k) (issuedUsing k.ctx.val set.val (drained (reg (issueCtx k s) dst) set.val
        (((List.range 16).map fun n => drainWord (if orient then cellOf (issueCore k s) set.val (n % 4) (n / 4)
          else cellOf (issueCore k s) set.val (n / 4) (n % 4))).flatMap (bytesLE 4)))) [] s t := by
  refine ⟨_, congrArg Host.Outcome.next (runInstr_act (g := fun st => advance (issueKey k) k.ctx.val
    (useSet (issueKey k) k.ctx.val set.val (updCore (issueKey k) (clearSet set.val) (writeSram (issueKey k)
      (reg (issueCtx k s) dst) ((if orient then transposed (drainWords (issueCore k s) set.val)
        else drainWords (issueCore k s) set.val).flatMap (bytesLE 4)) st)))) h ?_), ?_⟩
  · simp only [hfree, inSram_of_le hdst, hcheck, Bool.not_true, Bool.false_eq_true, if_false]
  · rw [drained_tile]
    exact issuedUsing_step set.val ((writeSram_step _ _ _ _).trans (updCore_step _ (clearSet set.val) _))

theorem clear_spec {k : Issue} {s : State} {task : QTask} {set : Fin 2} (h : Issues k s task)
    (hfree : setInUse (issueCore k s) set.val = false) :
    ∃ t, exec (.clear k set) s = .next t ∧ CoreStep (issueKey k) (issuedUsing k.ctx.val set.val (clearSet set.val)) [] s t := by
  refine ⟨_, congrArg Host.Outcome.next (runInstr_act (g := fun st => advance (issueKey k) k.ctx.val
    (useSet (issueKey k) k.ctx.val set.val (updCore (issueKey k) (clearSet set.val) st))) h ?_),
    issuedUsing_step set.val (updCore_step _ (clearSet set.val) _)⟩
  simp only [hfree, Bool.false_eq_true, if_false]

/-! ## The end of an engine's instruction -/

theorem unwait_waiting (m : Map CtxS) (c : Nat) : (mapGet {} (unwait m) c).waiting = false := by
  have hfold : ∀ (l : Map CtxS) (m0 : Map CtxS), (∀ d, (mapGet {} m0 d).waiting = false) →
      (mapGet {} (l.foldl (fun m x => mapSet {} m x.1 { x.2 with waiting := false }) m0) c).waiting = false := by
    intro l
    induction l with
    | nil => exact fun m0 h => h c
    | cons e l ih =>
      refine fun m0 h => ih _ fun d => ?_
      by_cases hd : d = e.1
      · rw [hd, mapGet_mapSet_same]
      · rw [mapGet_mapSet_ne hd, h]
  exact hfold m [] fun d => rfl

theorem engineInstructionComplete_of_on (core : CoreRef) (engine : Engine) {s : State} (hready : Ready s)
    (hon : coreOn s (coreKey core.block.val core.core.val) = true) :
    exec (.engineInstructionComplete core engine) s =
      .next (updCore (coreKey core.block.val core.core.val) (engineDone engine) s) := by
  refine (next_of_ready hready rfl).trans ?_
  rw [if_pos hon]

/-- Settles O15. -/
theorem tensorInstructionsComplete : Obligations.TensorInstructionsComplete := by
  unfold Obligations.TensorInstructionsComplete
  refine ⟨fun k s task word p h hfree hprep hcheck => ?_, fun k s task word use p h hruns hbias hfree hprep hcheck => ?_,
    fun k s task word use h hruns => ?_, fun k s task word h hbusy => ?_,
    fun k s task dst set orient h hfree hdst hcheck => ?_, fun k s task set h hfree => ?_,
    fun core s hready hon => ?_, fun core s c hready hon => ?_⟩
  · have hstep := issuedUsing_step (k := k) p.set (updCore_step (issueKey k) (accumulate p) s)
    refine ⟨_, mma_acts h rfl rfl hfree hprep hcheck, congrArg CoreS.acc hstep.core, congrArg CoreS.tensor hstep.core,
      (congrArg CoreS.sram hstep.core).trans rfl, ?_, hstep.onCore (issuedUsing_keeps rfl)⟩
    have hctx := issuedUsing_ctx k.ctx.val p.set (accumulate_ctxs p (issueCore k s))
    rw [← hstep.core] at hctx
    exact (congrArg CtxS.regs hctx).trans rfl
  · have hstep := (((updCore_step (issueKey k) (accumulate p) s).trans (useSet_step (issueKey k) k.ctx.val p.set _)).trans
      (usePairs_step (issueKey k) use (accumulate p (issueCore k s)) (issueCtx k s) p _)).trans (advance_step _ k.ctx.val _)
    refine ⟨_, mma_acts h hruns hbias hfree hprep hcheck, congrArg CoreS.acc hstep.core, ?_, congrArg CoreS.tensor hstep.core,
      hstep.onCore (issuedUsing_keeps (F := accumulate p) rfl)⟩
    exact usePairs_place use (accumulate p (issueCore k s)) (issueCtx k s) p (issueKey k) k.ctx.val p.set (accumulate p) s
  · have hstep := advance_step (issueKey k) k.ctx.val s
    exact ⟨_, mma_outside_mask h hruns, hstep.core, hstep.onCore (keepsCtxs_issued (F := id) (keepsCtxs_of_eq rfl))⟩
  · have hwait := waits_step (CoreStep.of_only (k := issueKey k) (Only.refl [] s) rfl)
    exact ⟨_, mma_waits h hbusy, hwait.core, hwait.onCore (keepsCtxs_changed _ (keepsCtxs_of_eq rfl))⟩
  · obtain ⟨t, ht, hstep⟩ := drain_spec orient h hfree hdst hcheck
    refine ⟨t, ht, congrArg CoreS.sram hstep.core, fun i j => ?_, fun i j => ?_, hstep.onCore (issuedUsing_keeps rfl)⟩
    · rw [show issueCore k t = _ from hstep.core]
      exact cellOf_clearSet_same i j
    · rw [show issueCore k t = _ from hstep.core]
      exact cellOf_clearSet_ne (by omega) i j
  · obtain ⟨t, ht, hstep⟩ := clear_spec h hfree
    refine ⟨t, ht, fun i j => ?_, (congrArg CoreS.sram hstep.core).trans rfl, hstep.onCore (issuedUsing_keeps rfl)⟩
    rw [show issueCore k t = _ from hstep.core]
    exact cellOf_clearSet_same i j
  · refine ⟨_, engineInstructionComplete_of_on core .tensor hready hon, ?_, updCore_only⟩
    rw [coreS_updCore_same]
    rfl
  · refine ⟨_, engineInstructionComplete_of_on core .move hready hon, ?_, ?_, ?_, updCore_only⟩
    · rw [coreS_updCore_same]
      rfl
    · rw [ctxS, coreS_updCore_same]
      exact unwait_waiting _ c
    · rw [coreS_updCore_same]
      rfl

end Sys2Proof.Machine

/-! SUPPORT. The vector class (R118, R133, R159 to R167). -/

namespace Sys2Proof.Machine

/-- The change of a core whose vector unit context `c` has taken. -/
def vectorTaken (c : Nat) (o : CoreS) : CoreS := { o with vector := some c }

section
variable {k : Issue} {s : State} {task : QTask} (h : Issues k s task)
  {f : State → CoreS → CtxS → QTask → Nat → Nat → Act}
include h

theorem vector_acts (hfree : (issueCore k s).vector = none) {g : State → State}
    (hact : f s (issueCore k s) (issueCtx k s) task (issueKey k) k.ctx.val = .act g) :
    runInstr k (onVector f) s = advance (issueKey k) k.ctx.val (updCore (issueKey k) (vectorTaken k.ctx.val) (g s)) :=
  runInstr_act (g := fun st => advance (issueKey k) k.ctx.val (updCore (issueKey k) (vectorTaken k.ctx.val) (g st))) h
    (by simp only [onVector, hfree, Option.isSome_none, Bool.false_eq_true, if_false, hact]; rfl)

end

/-- The change of a core that a vector instruction makes, its own change being `F`. -/
def vectorIssued (c : Nat) (F : CoreS → CoreS) (o : CoreS) : CoreS := coreIssued c (vectorTaken c (F o))

theorem vectorIssued_step {k : Issue} {F : CoreS → CoreS} {ps : List Part} {s t : State}
    (h : CoreStep (issueKey k) F ps s t) : CoreStep (issueKey k) (vectorIssued k.ctx.val F) ps s
      (advance (issueKey k) k.ctx.val (updCore (issueKey k) (vectorTaken k.ctx.val) t)) :=
  ((h.trans (updCore_step _ (vectorTaken k.ctx.val) _)).trans (advance_step _ _ _)).mono (by simp)

theorem vectorIssued_keeps {c : Nat} {F : CoreS → CoreS} {o : CoreS} (h : KeepsCtxs c F o) :
    KeepsCtxs c (vectorIssued c F) o := keepsCtxs_issued (F := fun o => vectorTaken c (F o)) h

theorem vectorIssued_ctx (c : Nat) (F : CoreS → CoreS) (o : CoreS) :
    mapGet {} (vectorIssued c F o).ctxs c = nextPc (mapGet {} (F o).ctxs c) := mapGet_mapUpd_same _ _ _

/-! ## NaNs made (R159) -/

/-- The change of a core that has made `n` NaNs. -/
def nansMade (n : Nat) (o : CoreS) : CoreS := { o with nanMade := o.nanMade + n }

theorem addNans_step (key n : Nat) (s : State) : CoreStep key (nansMade n) [.counters] s (addNans key n s) := by
  unfold addNans
  split
  next h => exact ⟨by rw [h]; rfl, fun _ _ => rfl, Only.refl _ _⟩
  next => exact ((updCore_step key (nansMade n) s).trans (.of_only (k := key) (count_only cNanMade n _) rfl)).mono (List.Subset.refl _)

theorem counter_addNans {i : Nat} (key n : Nat) (s : State) (hi : i ≠ cNanMade) : counter (addNans key n s) i = counter s i := by
  unfold addNans
  split
  · rfl
  · exact counter_count_ne _ _ hi

/-- FP32 words written to SRAM, and the NaNs made counted. -/
def wordsWritten (dst n : Nat) (ws : List Nat) (o : CoreS) : CoreS := nansMade n (sramWritten dst (wordBytes ws) o)

/-- What a vector instruction with FP32 results does. -/
theorem writes_words {k : Issue} {s : State} {task : QTask} {f : State → CoreS → CtxS → QTask → Nat → Nat → Act}
    (h : Issues k s task) (hfree : (issueCore k s).vector = none) {dst : Nat} {ws : List Nat}
    (hact : ∃ n, f s (issueCore k s) (issueCtx k s) task (issueKey k) k.ctx.val =
      .act fun st => addNans (issueKey k) n (writeSram (issueKey k) dst (wordBytes ws) st)) :
    (issueCore k (runInstr k (onVector f) s)).sram = mapSetList 0#8 (issueCore k s).sram dst (ws.flatMap (bytesLE 4)) ∧
      (issueCore k (runInstr k (onVector f) s)).vector = some k.ctx.val ∧
      (issueCtx k (runInstr k (onVector f) s)).regs = (issueCtx k s).regs ∧
      (∀ i, i ≠ cNanMade → counter (runInstr k (onVector f) s) i = counter s i) ∧
      OnCore k [.counters] s (runInstr k (onVector f) s) := by
  obtain ⟨n, hact⟩ := hact
  rw [vector_acts h hfree hact]
  have hstep := vectorIssued_step ((writeSram_step (issueKey k) dst (wordBytes ws) s).trans (addNans_step (issueKey k) n _))
  refine ⟨congrArg CoreS.sram hstep.core, congrArg CoreS.vector hstep.core, ?_,
    fun i hi => counter_addNans (issueKey k) n _ hi, hstep.onCore (vectorIssued_keeps (keepsCtxs_of_eq rfl))⟩
  rw [hstep.ctx, vectorIssued_ctx]
  rfl

/-! ## VOP, VFN and VRED -/

/-- The operands that a VOP reads lie in SRAM. -/
theorem vop_in_sram {x : CtxS} {op : VecOp} {dst a b c : RegIx} {n : Nat}
    (hregs : ∀ r ∈ dst :: [a, b, c].take (vecOpArity op), reg x r + 4 * n ≤ 0x10000) :
    (!inSram (reg x dst) (4 * n) || !inSram (reg x a) (4 * n) || (decide (2 ≤ vecOpArity op) && !inSram (reg x b) (4 * n)) ||
      (decide (3 ≤ vecOpArity op) && !inSram (reg x c) (4 * n))) = false := by
  have hin {r : RegIx} (hr : r ∈ dst :: [a, b, c].take (vecOpArity op)) : inSram (reg x r) (4 * n) = true :=
    inSram_of_le (hregs r hr)
  rw [hin (r := dst) (by simp), hin (r := a) (by cases op <;> simp [vecOpArity])]
  obtain h1 | h2 | h3 : vecOpArity op = 1 ∨ vecOpArity op = 2 ∨ vecOpArity op = 3 := by cases op <;> decide
  · simp [h1]
  · simp [h2, hin (r := b) (by simp [h2])]
  · simp [h3, hin (r := b) (by simp [h3]), hin (r := c) (by simp [h3])]

/-! ## VCVT -/

/-- The change of a core that counts saturations and lost NaNs. -/
def cvtCounted (r : CvtOut) (o : CoreS) : CoreS := { o with satCount := o.satCount + r.sats, nanLost := o.nanLost + r.lost }

theorem addCvt_step (key : Nat) (r : CvtOut) (s : State) : CoreStep key (cvtCounted r) [.counters] s (addCvt key r s) := by
  unfold addCvt
  split
  next h =>
    obtain ⟨hsats, hlost⟩ := h
    exact ⟨by rw [cvtCounted, hsats, hlost]; rfl, fun _ _ => rfl, Only.refl _ _⟩
  next =>
    exact ((updCore_step key (cvtCounted r) s).trans
      (.of_only (k := key) ((count_only cSatCount r.sats _).trans (count_only cNanLost r.lost _)) rfl)).mono (by decide)

/-- A context whose generator has drawn. -/
def withGen (g : BitVec 64) (y : CtxS) : CtxS := { y with gen := g }

theorem convertArray_act {o : CoreS} {x : CtxS} {key c dst src scale n : Nat} {f g : CvtFmt} (sr sat : Bool)
    (hsrc : src + cvtBytes f n ≤ 0x10000) (hdst : dst + cvtBytes g n ≤ 0x10000)
    (hscale : scale + cvtScaleBytes f n + cvtScaleBytes g n ≤ 0x10000)
    (hT4 : f = .t4 → ∀ b ∈ List.range (ceilDiv n 32), sramNat o (scale + 2 * b) 1 ≠ 0xFF)
    (hfin : g = .t4 → ∀ i ∈ List.range n, (match cvtValue o f src scale i with | .fin _ _ _ => true | _ => false) = true) :
    convertArray o x key c dst src scale f g sr sat n =
      (let r := cvtTo g sr (sat && satActs f g) ((List.range n).map fun i => cvtValue o f src scale i) x.gen
       .act fun st => addCvt key r.2 (updCtx key c (withGen r.2.gen)
         (writeSram key (scale + cvtScaleBytes f n) r.1 (writeSram key dst (packElems g r.2.words) st)))) := by
  have hexps : (isT4 f && (List.range (ceilDiv n 32)).any fun b => decide (sramNat o (scale + 2 * b) 1 = 0xFF)) = false := by
    cases f with
    | t4 => simpa [isT4] using hT4 rfl
    | _ => rfl
  have hvals : (isT4 g && ((List.range n).map fun i => cvtValue o f src scale i).any fun v =>
      match v with | .fin _ _ _ => false | _ => true) = false := by
    cases g with
    | t4 =>
      rw [isT4, Bool.true_and, List.any_map, List.any_eq_false]
      intro i hi
      have := hfin rfl i hi
      dsimp only [Function.comp]
      split at this
      · exact Bool.false_ne_true
      · cases this
    | _ => rfl
  have hscaleIn : inSram scale (cvtScaleBytes f n) = true := inSram_of_le (by omega)
  simp only [convertArray, inSram_of_le hsrc, inSram_of_le hdst, hscaleIn, inSram_of_le hscale, Bool.not_true, Bool.or_self,
    Bool.false_eq_true, if_false, hexps]
  exact if_neg fun hbad => Bool.false_ne_true (hvals.symm.trans hbad)

/-- The change of a core that VCVT makes, before its context goes on. -/
def converted (c dst scale : Nat) (g : CvtFmt) (r : List Byte × CvtOut) (o : CoreS) : CoreS :=
  cvtCounted r.2 (ctxChanged c (withGen r.2.gen) (sramWritten scale r.1 (sramWritten dst (packElems g r.2.words) o)))

theorem okFmt_of_toOption {f : CvtFmt} {r : Except Nat CvtFmt} (h : r.toOption = some f) : r = .ok f := by
  cases r with
  | error e => cases h
  | ok q => exact congrArg Except.ok (Option.some.inj h)

theorem vcvt_spec {k : Issue} {s : State} {task : QTask} {dst src scale : RegIx} {from_ to_ : CvtCode} {f g : CvtFmt}
    (sr sat : Bool) {count : Fin 4096} (h : Issues k s task) (hfree : (issueCore k s).vector = none)
    (hfrom : (cvtFmtOf from_).toOption = some f) (hto : (cvtFmtOf to_).toOption = some g) {r : List Byte × CvtOut}
    (hact : convertArray (issueCore k s) (issueCtx k s) (issueKey k) k.ctx.val (reg (issueCtx k s) dst)
        (reg (issueCtx k s) src) (reg (issueCtx k s) scale) f g sr sat (count.val + 1) =
      .act fun st => addCvt (issueKey k) r.2 (updCtx (issueKey k) k.ctx.val (withGen r.2.gen)
        (writeSram (issueKey k) (reg (issueCtx k s) scale + cvtScaleBytes f (count.val + 1)) r.1
          (writeSram (issueKey k) (reg (issueCtx k s) dst) (packElems g r.2.words) st)))) :
    ∃ t, exec (.vcvt k dst src scale from_ to_ sr sat count) s = .next t ∧
      CoreStep (issueKey k) (vectorIssued k.ctx.val (converted k.ctx.val (reg (issueCtx k s) dst)
        (reg (issueCtx k s) scale + cvtScaleBytes f (count.val + 1)) g r)) [.counters] s t := by
  refine ⟨_, congrArg Host.Outcome.next (vector_acts h hfree (g := fun st => addCvt (issueKey k) r.2
    (updCtx (issueKey k) k.ctx.val (withGen r.2.gen)
      (writeSram (issueKey k) (reg (issueCtx k s) scale + cvtScaleBytes f (count.val + 1)) r.1
        (writeSram (issueKey k) (reg (issueCtx k s) dst) (packElems g r.2.words) st)))) ?_), vectorIssued_step
    ((((writeSram_step _ _ _ _).trans (writeSram_step _ _ _ _)).trans (updCtx_step _ _ _ _)).trans (addCvt_step _ _ _))⟩
  simp only [okFmt_of_toOption hfrom, okFmt_of_toOption hto]
  exact hact

/-! ## VRED -/

theorem vred_act {k : Issue} {s : State} {task : QTask} (kind : RedKind) (op : RedOp) {dst src : RegIx} {rows cols : Fin 4096}
    (h : Issues k s task) (hfree : (issueCore k s).vector = none) (hcount : (rows.val + 1) * (cols.val + 1) ≤ 4096)
    (hsrc : reg (issueCtx k s) src + 4 * ((rows.val + 1) * (cols.val + 1)) ≤ 0x10000)
    (hdst : reg (issueCtx k s) dst + 4 * (redGroups kind (readWords (issueCore k s) (reg (issueCtx k s) src)
      ((rows.val + 1) * (cols.val + 1))) (rows.val + 1) (cols.val + 1)).length ≤ 0x10000) :
    ∃ t, exec (.vred k kind op dst src rows cols) s = .next t ∧
      (issueCore k t).sram = mapSetList 0#8 (issueCore k s).sram (reg (issueCtx k s) dst)
        (((redGroups kind (readWords (issueCore k s) (reg (issueCtx k s) src) ((rows.val + 1) * (cols.val + 1)))
          (rows.val + 1) (cols.val + 1)).map fun g => (redList (isA0 s) op g).1).flatMap (bytesLE 4)) ∧
      (issueCore k t).vector = some k.ctx.val ∧ (issueCtx k t).regs = (issueCtx k s).regs ∧
      (∀ i, i ≠ cNanMade → counter t i = counter s i) ∧ OnCore k [.counters] s t := by
  refine ⟨_, rfl, writes_words h hfree ⟨(((redGroups kind (readWords (issueCore k s) (reg (issueCtx k s) src)
    ((rows.val + 1) * (cols.val + 1))) (rows.val + 1) (cols.val + 1)).map (redList (isA0 s) op)).map (·.2)).sum, ?_⟩⟩
  simp only [Nat.not_lt.mpr hcount, inSram_of_le hsrc, List.length_map, inSram_of_le hdst, Bool.not_true, Bool.false_eq_true,
    if_false, List.map_map]
  rfl

/-- Settles O16. -/
theorem vectorInstructionsComplete : Obligations.VectorInstructionsComplete := by
  unfold Obligations.VectorInstructionsComplete
  refine ⟨fun k s task op dst a b c count h hfree hregs => ?_, fun k s task fn dst a count h hfree hregs => ?_,
    fun k s task dst src scale from_ to_ f g sr sat count h hfree hfrom hto hsrc hdst hscale hT4 hfin => ?_,
    fun k s task kind op dst src rows cols h hfree hcount hsrc hdst => vred_act kind op h hfree hcount hsrc hdst⟩
  · refine ⟨_, rfl, writes_words h hfree ?_⟩
    simp only [vop_in_sram hregs, Bool.false_eq_true, if_false]
    exact ⟨_, rfl⟩
  · refine ⟨_, rfl, writes_words h hfree ?_⟩
    simp only [inSram_of_le (hregs dst (by simp)), inSram_of_le (hregs a (by simp)), Bool.not_true, Bool.or_self,
      Bool.false_eq_true, if_false]
    exact ⟨_, rfl⟩
  · obtain ⟨t, ht, hstep⟩ := vcvt_spec sr sat h hfree hfrom hto (convertArray_act sr sat hsrc hdst hscale hT4 hfin)
    refine ⟨t, ht, hstep.onCore (vectorIssued_keeps (keepsCtxs_changed _ (keepsCtxs_of_eq rfl))), _, rfl,
      congrArg CoreS.sram hstep.core, ?_, congrArg CoreS.satCount hstep.core, congrArg CoreS.nanLost hstep.core⟩
    rw [hstep.ctx, vectorIssued_ctx]
    exact congrArg CtxS.gen (mapGet_mapUpd_same _ _ _)

end Sys2Proof.Machine

/-! SUPPORT. The communicate class (R74, R143, R305 to R312, R348, R367). -/

namespace Sys2Proof.Machine

/-! ## The communication engine, and sends under replay (R133, R174) -/

/-- The change of a core whose communication engine context `c` has taken. -/
def commTaken (c : Nat) (o : CoreS) : CoreS := { o with comm := some c }

/-- A context that has completed a send. -/
def sendDone (y : CtxS) : CtxS := { y with suppress := y.suppress - 1, sendsDone := y.sendsDone + 1 }

/-- The change of a core whose context completes a send, takes the communication engine and goes on. -/
def commIssued (c : Nat) (o : CoreS) : CoreS := coreIssued c (commTaken c (ctxChanged c sendDone o))

theorem commIssued_keeps (c : Nat) (o : CoreS) : KeepsCtxs c (commIssued c) o :=
  keepsCtxs_issued (F := fun o => commTaken c (ctxChanged c sendDone o))
    (keepsCtxs_changed (F := id) sendDone (keepsCtxs_of_eq rfl))

theorem sendFrom_of_free {key c : Nat} (act : State → State) {s : State} (h : (ctxS s key c).suppress = 0) :
    sendFrom key c act s = act (updCtx key c sendDone s) := by
  simp only [sendFrom, h, Nat.lt_irrefl, if_false]
  rfl

section
variable {k : Issue} {s : State} {task : QTask} (h : Issues k s task)
  {f : State → CoreS → CtxS → QTask → Nat → Nat → Act}
include h

/-- An instruction that finds the communication engine free, and whose send is not suppressed. -/
theorem comm_sends (hfree : (issueCore k s).comm = none) (hsend : (issueCtx k s).suppress = 0) {act : State → State}
    (hact : f s (issueCore k s) (issueCtx k s) task (issueKey k) k.ctx.val = .act (sendFrom (issueKey k) k.ctx.val act)) :
    runInstr k (onComm f) s = advance (issueKey k) k.ctx.val (updCore (issueKey k) (commTaken k.ctx.val)
      (act (updCtx (issueKey k) k.ctx.val sendDone s))) := by
  rw [← sendFrom_of_free act hsend]
  exact runInstr_act (g := fun st => advance (issueKey k) k.ctx.val (updCore (issueKey k) (commTaken k.ctx.val)
    (sendFrom (issueKey k) k.ctx.val act st))) h
    (by simp only [onComm, hfree, Option.isSome_none, Bool.false_eq_true, if_false, hact]; rfl)

end

/-- Of the cores a send changes its own alone, whatever it changes beside them. -/
theorem comm_step {k : Issue} {s : State} {ps : List Part} {act : State → State}
    (hact : ∀ st, CoreStep (issueKey k) id ps st (act st)) :
    CoreStep (issueKey k) (commIssued k.ctx.val) ps s (advance (issueKey k) k.ctx.val
      (updCore (issueKey k) (commTaken k.ctx.val) (act (updCtx (issueKey k) k.ctx.val sendDone s)))) :=
  ((((updCtx_step (issueKey k) k.ctx.val sendDone s).trans (hact _)).trans
    (updCore_step _ (commTaken k.ctx.val) _)).trans (advance_step _ _ _)).mono (by simp)

/-! ## Packets -/

theorem issueKey_div (k : Issue) : issueKey k / 16 = k.block.val := coreKey_div _ k.core.isLt

theorem emit_step (k : Nat) (m : Msg) (s : State) : CoreStep k id [.sent] s (emit m s) :=
  .of_only (only_of_patch rfl) rfl

/-- A transfer that one packet holds. -/
theorem cutSpan_single {len per : Nat} (hpos : 0 < len) (hlen : len ≤ per) : cutSpan len per = [(0, len)] := by
  have hone : ceilDiv len per = 1 := by
    rw [ceilDiv, if_neg (by omega)]
    exact Nat.div_eq_of_lt_le (by omega) (by omega)
  rw [cutSpan, hone]
  simp [hlen]

theorem length_cutSpan (len per : Nat) : (cutSpan len per).length = ceilDiv len per := by simp [cutSpan]

/-- Sending one message for each entry of a list. -/
theorem each_emit {α : Type} (f : α → State → Msg) (l : List α) (s : State) :
    ∃ ms, each l (fun a st => emit (f a st) st) s = emitAll ms s ∧ ms.length = l.length := by
  induction l generalizing s with
  | nil => exact ⟨[], by simp [each, emitAll], rfl⟩
  | cons a l ih =>
    obtain ⟨ms, heach, hlength⟩ := ih (emit (f a s) s)
    exact ⟨f a s :: ms, heach.trans (by simp [emitAll, emit]), by simp [hlength]⟩

theorem emitAll_step (k : Nat) (ms : List Msg) (s : State) : CoreStep k id [.sent] s (emitAll ms s) :=
  .of_only (only_of_patch rfl) rfl

theorem sendSpan_own (key : Nat) (dest : PacketDest) (dst src len tag : Nat) (t : QTask) (s : State) :
    ∃ ms, sendSpan key dest dst src len tag none t s = emitAll ms s ∧ ms.length = ceilDiv len 4096 := by
  obtain ⟨ms, heach, hlength⟩ := each_emit (fun (p : Nat × Nat) st => Msg.fabric (key / 16) .local_
    (flitsOf (taskFlit key { dest with block := destBlock st key dest (addrOn dest.kind dst p.1) } t.desc.fmtOut 2
      (ceilDiv p.2 16) (addrOn dest.kind dst p.1) tag false t) (sramBytes (coreS st key) (src + p.1) p.2))) (cutSpan len 4096) s
  exact ⟨ms, heach, hlength.trans (length_cutSpan _ _)⟩

theorem sendSpan_one {key : Nat} {dest : PacketDest} {dst src len tag : Nat} {t : QTask} {s : State} (hpos : 0 < len)
    (hlen : len ≤ 4096) : sendSpan key dest dst src len tag none t s = emit (.fabric (key / 16) .local_ (flitsOf (taskFlit key
      { dest with block := destBlock s key dest (addrOn dest.kind dst 0) } t.desc.fmtOut 2 (ceilDiv len 16)
      (addrOn dest.kind dst 0) tag false t) (sramBytes (coreS s key) src len))) s := by
  have hcut : cutSpan len (packetBytes none) = [(0, len)] := cutSpan_single hpos hlen
  rw [sendSpan, hcut]
  rfl

theorem readSpan_one {key : Nat} {dest : PacketDest} {dst src len tag : Nat} {t : QTask} {s : State} (hpos : 0 < len)
    (hlen : len ≤ 4096) : readSpan key dest dst src len tag none t s = emit (.fabric (key / 16) .local_ (flitsOf (taskFlit key
      { dest with block := destBlock s key dest (addrOn dest.kind src 0) } t.desc.fmtOut 3 1 (addrOn dest.kind src 0) tag false t)
      (bytesLE 16 (pack [(16, len), (16, 0), (32, dst % 65536 + 65536 * 2 ^ (key % 16))])))) s := by
  have hcut : cutSpan len (packetBytes none) = [(0, len)] := cutSpan_single hpos hlen
  rw [readSpan, hcut]
  rfl

section
variable {k : Issue} {s : State} {task : QTask} (h : Issues k s task) (hfree : (issueCore k s).comm = none)
  (hsend : (issueCtx k s).suppress = 0) (hfmt : (fmtOfCode task.desc.fmtOut).isSome = true)
include h hfree hsend hfmt

/-- A SEND whose bytes lie in SRAM. -/
theorem send_eq {member : Option (Fin 1024)} {kind : DestKind} {block dst src len : RegIx} {tag : BitVec 16}
    (hsrc : reg (issueCtx k s) src + reg (issueCtx k s) len ≤ 0x10000) :
    exec (.send k member kind block dst src len tag) s = .next (advance (issueKey k) k.ctx.val
      (updCore (issueKey k) (commTaken k.ctx.val) (sendSpan (issueKey k) { kind := kind, block := reg (issueCtx k s) block }
        (reg (issueCtx k s) dst) (reg (issueCtx k s) src) (reg (issueCtx k s) len) tag.toNat member task
        (updCtx (issueKey k) k.ctx.val sendDone s)))) := by
  refine congrArg Host.Outcome.next (comm_sends h hfree hsend (act := sendSpan (issueKey k)
    { kind := kind, block := reg (issueCtx k s) block } (reg (issueCtx k s) dst) (reg (issueCtx k s) src)
    (reg (issueCtx k s) len) tag.toNat member task) ?_)
  simp only [Option.isNone_eq_false_iff.mpr hfmt, inSram_of_le hsrc, Bool.not_true, Bool.false_eq_true, if_false]

theorem read_eq {kind : DestKind} {block dst src len : RegIx} {tag : BitVec 16}
    (hdst : reg (issueCtx k s) dst + reg (issueCtx k s) len ≤ 0x10000) :
    exec (.read k none kind block dst src len tag) s = .next (advance (issueKey k) k.ctx.val
      (updCore (issueKey k) (commTaken k.ctx.val) (readSpan (issueKey k) { kind := kind, block := reg (issueCtx k s) block }
        (reg (issueCtx k s) dst) (reg (issueCtx k s) src) (reg (issueCtx k s) len) tag.toNat none task
        (updCtx (issueKey k) k.ctx.val sendDone s)))) := by
  refine congrArg Host.Outcome.next (comm_sends h hfree hsend (act := readSpan (issueKey k)
    { kind := kind, block := reg (issueCtx k s) block } (reg (issueCtx k s) dst) (reg (issueCtx k s) src)
    (reg (issueCtx k s) len) tag.toNat none task) ?_)
  simp only [Option.isNone_eq_false_iff.mpr hfmt, inSram_of_le hdst, Bool.not_true, Bool.false_eq_true, if_false]

end

/-! ## Toward another module (R348) -/

theorem encodeFlit_lt (f : Flit) : encodeFlit f < 2 ^ 128 := by
  unfold encodeFlit
  exact pack_lt_of_width (w := 128) (by simp [packWidth])

theorem header_flitsOf (f : Flit) (bs : List Byte) : (flitsOf f bs).header.toNat = encodeFlit f := by
  rw [flitsOf, BitVec.toNat_ofNat]
  exact Nat.mod_eq_of_lt (encodeFlit_lt f)

theorem field_lt (w lo len : Nat) : field w lo len < 2 ^ len := Nat.mod_lt _ (Nat.two_pow_pos _)

theorem blockAt_block (b : Nat) : blockAt (blockBx b) (blockBy b) = b := by
  simp only [blockAt, fieldAt, blockBx, blockBy]
  omega

theorem blockBx_lt (b : Nat) : blockBx b < 256 := by
  simp only [blockBx]
  omega

theorem blockBy_lt {b : Nat} (h : b < 53760) : blockBy b < 512 := by
  simp only [blockBy]
  omega

/-- The block whose router a lane's hub has. -/
def hubBlock (lane : Nat) : Nat := blockAt (20 * (laneField lane % 7)) (32 * (laneField lane / 7) + 16)

theorem hubBlock_lt {lane : Nat} (h : lane < 1344) : hubBlock lane < 53760 := by
  simp only [hubBlock, blockAt, fieldAt, laneField]
  omega

theorem peerLane_lt {s : State} {m bx by_ tag lane : Nat} (h : peerLane s m bx by_ tag = some lane) : lane < 1344 := by
  simp only [peerLane] at h
  split at h
  · cases h
  · rw [← Option.some.inj h, nth, List.getD_eq_getElem?_getD]
    cases hget : (channelsTo s (field (mapGet 0 s.beam.routes m) 2 10))[(bx + by_ + tag) %
        min (channelsTo s (field (mapGet 0 s.beam.routes m) 2 10)).length (max 1 (field (mapGet 0 s.beam.routes m) 12 11))]? with
    | none => exact (by decide : 0 < 1344)
    | some c =>
      have hmem := List.mem_of_getElem? hget
      simp only [channelsTo, wiredTo, List.mem_filter, List.mem_range] at hmem
      exact hmem.1.1

/-- The header of the packet that carries another to a lane's hub. -/
def hubFlit (f : Flit) (lane n : Nat) : Flit :=
  { f with destBx := blockBx (hubBlock lane), destBy := blockBy (hubBlock lane), destKind := 1, add := false, esc := false
           len := 2 + ceilDiv n 16, addr := lane % 16 }

theorem decode_hubFlit {w lane n : Nat} (hlane : lane < 1344) (hn : n ≤ 4064) :
    decodeFlit (encodeFlit (hubFlit (decodeFlit w) lane n)) = hubFlit (decodeFlit w) lane n := by
  have hlen : 2 + ceilDiv n 16 < 512 := by
    rw [ceilDiv, if_neg (by decide)]
    omega
  exact decodeFlit_encodeFlit (field_lt _ _ _) (field_lt _ _ _) (field_lt _ _ _) (blockBx_lt _) (blockBy_lt (hubBlock_lt hlane))
    (field_lt _ _ _) (field_lt _ _ _) hlen (by decide : (1 : Nat) < 4)
    (Nat.lt_of_lt_of_le (Nat.mod_lt _ (by decide : 0 < 16)) (by decide)) (field_lt _ _ _) (field_lt _ _ _) (field_lt _ _ _)

theorem fromBlock_peer {block m lane : Nat} {p : Flits} {s : State}
    (hlane : peerLane s m (decodeFlit p.header.toNat).srcBx (decodeFlit p.header.toNat).srcBy
      (decodeFlit p.header.toNat).tag = some lane) :
    fromBlock block (some m) p s = emit (.fabric block .local_ (flitsOf (hubFlit (decodeFlit p.header.toNat) lane p.payload.length)
      (bytesLE 16 (beamHeader s m 2 p) ++ bytesLE 16 p.header.toNat ++ p.payload))) s := by
  simp only [fromBlock, hlane]
  rfl

/-- A task's packet names its core's block and its tag. -/
theorem decode_taskFlit (key : Nat) (dest : PacketDest) (fmt type len addr tag : Nat) (add : Bool) (t : QTask)
    (hblock : key / 16 < 53760) (htag : tag < 65536) :
    (decodeFlit (encodeFlit (taskFlit key dest fmt type len addr tag add t))).srcBx = blockBx (key / 16) ∧
      (decodeFlit (encodeFlit (taskFlit key dest fmt type len addr tag add t))).srcBy = blockBy (key / 16) ∧
      (decodeFlit (encodeFlit (taskFlit key dest fmt type len addr tag add t))).tag = tag := by
  have hbx : blockBx (key / 16) < 2 ^ 8 := blockBx_lt _
  have hby : blockBy (key / 16) < 2 ^ 9 := blockBy_lt hblock
  have htag' : tag < 2 ^ 16 := htag
  refine ⟨?_, ?_, ?_⟩ <;>
    simp (disch := omega) [decodeFlit, encodeFlit, taskFlit, field_pack_tail, field_pack_head, Nat.mod_eq_of_lt]

/-- The message that a hub's lane is to carry on: its header names the hub and the lane, and the bytes stand behind the two
headers. -/
def goesByHub (block lane : Nat) (bs : List Byte) : Msg → Bool
  | .fabric b .local_ p => decide (b = block) && decide ((decodeFlit p.header.toNat).destKind = 1) &&
      decide ((decodeFlit p.header.toNat).addr = lane % 16) &&
      decide (blockAt (decodeFlit p.header.toNat).destBx (decodeFlit p.header.toNat).destBy =
        blockAt (20 * (laneField lane % 7)) (32 * (laneField lane / 7) + 16)) && decide (p.payload.drop 32 = bs)
  | _ => false

theorem goesByHub_hubFlit {block lane w a b : Nat} {bs : List Byte} (hlane : lane < 1344) (hlen : bs.length ≤ 4064) :
    goesByHub block lane bs (.fabric block .local_ (flitsOf (hubFlit (decodeFlit w) lane bs.length)
      (bytesLE 16 a ++ bytesLE 16 b ++ bs))) = true := by
  have hbytes : (bytesLE 16 a ++ bytesLE 16 b ++ bs).drop 32 = bs := List.drop_left' (by simp)
  have hpayload (f : Flit) (xs : List Byte) : (flitsOf f xs).payload = xs := rfl
  simp only [goesByHub, header_flitsOf, decode_hubFlit hlane hlen, hpayload, hbytes]
  simp only [hubFlit, blockAt_block, decide_true, Bool.and_self]
  simp [hubBlock]

theorem sendSpan_peer {key m lane : Nat} {dest : PacketDest} {dst src len tag : Nat} {t : QTask} {s : State} (hpos : 0 < len)
    (hlen : len ≤ 4064) (hblock : key / 16 < 53760) (htag : tag < 65536) (hm : m < 1024)
    (hlane : peerLane s m (blockBx (key / 16)) (blockBy (key / 16)) tag = some lane) :
    ∃ msg, sendSpan key dest dst src len tag (some ⟨m, hm⟩) t s = emit msg s ∧
      goesByHub (key / 16) lane (sramBytes (coreS s key) src len) msg = true := by
  have hcut : cutSpan len (packetBytes (some ⟨m, hm⟩)) = [(0, len)] := cutSpan_single hpos hlen
  have hspan : sendSpan key dest dst src len tag (some ⟨m, hm⟩) t s = fromBlock (key / 16) (some m) (flitsOf (taskFlit key
      { dest with block := destBlock s key dest (addrOn dest.kind dst 0) } t.desc.fmtOut 2 (ceilDiv len 16)
      (addrOn dest.kind dst 0) tag false t) (sramBytes (coreS s key) src len)) s := by
    rw [sendSpan, hcut]
    rfl
  obtain ⟨hbx, hby, htag'⟩ := decode_taskFlit key { dest with block := destBlock s key dest (addrOn dest.kind dst 0) }
    t.desc.fmtOut 2 (ceilDiv len 16) (addrOn dest.kind dst 0) tag false t hblock htag
  refine ⟨_, hspan.trans (fromBlock_peer (by rw [header_flitsOf, hbx, hby, htag']; exact hlane)), ?_⟩
  exact goesByHub_hubFlit (peerLane_lt hlane) (by simp [sramBytes, mapGetList, hlen])

/-! ## Contributions to reduction blocks (R305 to R312) -/

/-- The piece that a RACC entry has a core hold. -/
def heldOf (key : Nat) (e : RaccRec) (ws : List Nat) : HeldPiece :=
  { core := key, block := e.block, piece := e.piece, owner := e.owner, bexp := e.bexp, stack := e.stack, addr := e.addr
    ackEntry := e.ackEntry, ackAddr := e.ackAddr, values := ws }

theorem sendPiece_eq (key : Nat) (e : RaccRec) (ws : List Nat) (s : State) :
    sendPiece key e ws s = sendHeld (heldOf key e ws) { s with red := { s.red with held := s.red.held ++ [heldOf key e ws] } } := rfl

theorem sendHeld_sent (p : HeldPiece) (s : State) : (sendHeld p s).sent = s.sent ++ [(heldMsg s p p.stack p.addr).2] := by
  unfold sendHeld
  rw [emit_sent]
  split <;> rfl

theorem sendHeld_red (p : HeldPiece) (s : State) : (sendHeld p s).red = s.red := (sendHeld_grows p s).same .red rfl

/-- A piece that a core sends is the last one held, and its message leaves. -/
theorem sendPiece_holds (k : Issue) (e : RaccRec) (ws : List Nat) (s : State) :
    let t := advance (issueKey k) k.ctx.val (updCore (issueKey k) (commTaken k.ctx.val)
      (sendPiece (issueKey k) e ws (updCtx (issueKey k) k.ctx.val sendDone s)))
    ∃ p, t.red.held.getLast? = some p ∧ t.red.held.dropLast = s.red.held ∧ p.core = issueKey k ∧ p.values = ws ∧
      p.block = e.block ∧ t.sent = s.sent ++ [(heldMsg s p p.stack p.addr).2] := by
  refine ⟨heldOf (issueKey k) e ws, ?_, ?_, rfl, rfl, rfl, sendHeld_sent _ _⟩
  · exact (congrArg (fun r : ReduceS => r.held.getLast?) (sendHeld_red _ _)).trans (List.getLast?_concat ..)
  · exact (congrArg (fun r : ReduceS => r.held.dropLast) (sendHeld_red _ _)).trans (List.dropLast_concat ..)

theorem sendPiece_step (k key : Nat) (e : RaccRec) (ws : List Nat) (s : State) :
    CoreStep k id [.sent, .red, .counters] s (sendPiece key e ws s) :=
  .of_only ((sendPiece_grows key e ws s).onlyIn _ rfl) ((sendPiece_grows key e ws s).same .cores rfl)

theorem putDeferred_step (k : Nat) (e : RaccRec) (ws : List Nat) (s : State) : CoreStep k id [.red] s (putDeferred e ws s) :=
  .of_only ((putDeferred_grows e ws s).onlyIn _ rfl) ((putDeferred_grows e ws s).same .cores rfl)

theorem putDeferred_red (key c : Nat) (f : CtxS → CtxS) (e : RaccRec) (ws : List Nat) (s : State) :
    (putDeferred e ws (updCtx key c f s)).red = (putDeferred e ws s).red := by
  have hcur : (updCtx key c f s).mem.ownerCur = s.mem.ownerCur := rfl
  unfold putDeferred
  rw [hcur]
  split <;> rfl

section
variable {k : Issue} {s : State} {task : QTask} (h : Issues k s task) (hfree : (issueCore k s).comm = none)
  (hsend : (issueCtx k s).suppress = 0) {table src : RegIx}
  (htable : reg (issueCtx k s) table + 16 ≤ 0x10000) (hsrc : reg (issueCtx k s) src + 2048 ≤ 0x10000)
include h hfree hsend htable hsrc

theorem racc_eq (hready : deferWaits s (decodeRacc (sramNat (issueCore k s) (reg (issueCtx k s) table) 16)) = false) :
    exec (.racc k table src) s = .next (advance (issueKey k) k.ctx.val (updCore (issueKey k) (commTaken k.ctx.val)
      (gradientPiece (issueKey k) (decodeRacc (sramNat (issueCore k s) (reg (issueCtx k s) table) 16))
        ((List.range 512).map fun i => sramNat (issueCore k s) (reg (issueCtx k s) src + 4 * i) 4)
        (updCtx (issueKey k) k.ctx.val sendDone s)))) := by
  refine congrArg Host.Outcome.next (comm_sends h hfree hsend (act := gradientPiece (issueKey k)
    (decodeRacc (sramNat (issueCore k s) (reg (issueCtx k s) table) 16))
    ((List.range 512).map fun i => sramNat (issueCore k s) (reg (issueCtx k s) src + 4 * i) 4)) ?_)
  simp only [inSram_of_le htable, inSram_of_le hsrc, hready, Bool.not_true, Bool.or_self, Bool.false_eq_true, if_false]

end

theorem deferWaits_of_none {s : State} {e : RaccRec} (h : deferredLayer s e = none) : deferWaits s e = false := by
  simp [deferWaits, h]

theorem deferWaits_of_committed {s : State} {e : RaccRec} (h : s.tick.step ≤ s.red.committed + 1) : deferWaits s e = false := by
  simp [deferWaits, Nat.not_lt.mpr h]

theorem gradientPiece_of_none {key : Nat} {e : RaccRec} {ws : List Nat} {s : State} (h : deferredLayer s e = none) :
    gradientPiece key e ws s = sendPiece key e ws s := by
  simp only [gradientPiece, h]

theorem gradientPiece_deferred {key : Nat} {e : RaccRec} {ws : List Nat} {l : LayerRec} {s : State}
    (h : deferredLayer s e = some l) (hstep : sendStep l s.tick.step = false) :
    gradientPiece key e ws s = putDeferred e ((deferredSum s e).zipWith (fpAdd false) ws) s := by
  simp only [gradientPiece, h, hstep, Bool.false_eq_true, if_false]

/-! ## Glint (R367) -/

theorem contribute_one {key op comm scope : Nat} {bs : List Byte} {s : State} (h : bs.length ≤ glintPiece) :
    contribute key op comm scope bs s = emit (.glint (.field (Fin.ofNat 84 (key / 16 / 640))) none
      (encodeGlint { op := op, comm := comm, seq := mapGet 0 s.beam.glintSeq (64 * key + comm) % 65536, piece := 0, pieces := 0
                     bytes := bs.length, scope := scope, count := 1, roll := s.red.roll, step := s.tick.step % 65536 }) bs)
      { s with beam := { s.beam with
        glintSeq := mapSet 0 s.beam.glintSeq (64 * key + comm) (mapGet 0 s.beam.glintSeq (64 * key + comm) + 1) } } := by
  have hpieces : max 1 (ceilDiv bs.length glintPiece) = 1 := by
    have hdiv : ceilDiv bs.length glintPiece ≤ 1 := by
      have hlen : bs.length ≤ 4048 := h
      rw [glintPiece, ceilDiv, if_neg (by decide)]
      omega
    omega
  have hbytes : (bs.drop (glintPiece * 0)).take glintPiece = bs := by simpa using List.take_of_length_le h
  simp only [contribute, hpieces, each, List.range_one, List.foldl_cons, List.foldl_nil, hbytes, glintOn]

theorem contribute_step {k key op comm scope : Nat} {bs : List Byte} (h : bs.length ≤ glintPiece) (s : State) :
    CoreStep k id [.sent, .beam] s (contribute key op comm scope bs s) := by
  rw [contribute_one h]
  exact .of_only (only_of_patch rfl) rfl

theorem glint_eq {k : Issue} {s : State} {task : QTask} {op : Fin 16} {src len : RegIx} (h : Issues k s task)
    (hfree : (issueCore k s).comm = none) (hsend : (issueCtx k s).suppress = 0) (hop : op.val < 0xA)
    (hcomm : (commOf s task.desc.comm).glint = true) (hlen : reg (issueCtx k s) len ≤ glintPiece)
    (hsrc : reg (issueCtx k s) src + reg (issueCtx k s) len ≤ 0x10000) :
    exec (.glint k op src len) s = .next (advance (issueKey k) k.ctx.val (updCore (issueKey k) (commTaken k.ctx.val)
      (contribute (issueKey k) op.val task.desc.comm (commOf s task.desc.comm).scope
        (sramBytes (issueCore k s) (reg (issueCtx k s) src) (reg (issueCtx k s) len))
        (updCtx (issueKey k) k.ctx.val sendDone s)))) := by
  refine congrArg Host.Outcome.next (comm_sends h hfree hsend (act := contribute (issueKey k) op.val task.desc.comm
    (commOf s task.desc.comm).scope (sramBytes (issueCore k s) (reg (issueCtx k s) src) (reg (issueCtx k s) len))) ?_)
  have hshort : ¬ 256 * glintPiece < reg (issueCtx k s) len := by
    have hpiece : glintPiece = 4048 := rfl
    omega
  simp only [Nat.not_le.mpr hop, hcomm, hshort, inSram_of_le hsrc, Bool.not_true, Bool.false_eq_true, if_false]

/-- Settles O17. -/
theorem communicateInstructionsComplete : Obligations.CommunicateInstructionsComplete := by
  unfold Obligations.CommunicateInstructionsComplete
  refine ⟨fun k s task kind block dst src len tag h hfree hsend hfmt hpos hlen hsrc => ?_,
    fun k s task kind block dst src len tag h hfree hsend hfmt hsrc => ?_,
    fun k s task m block dst src len tag lane h hfree hsend hfmt hpos hlen hsrc hlane => ?_,
    fun k s task kind block dst src len tag h hfree hsend hfmt hpos hlen hdst => ?_,
    fun k s task table src h hfree hsend htable hsrc hlayer => ?_,
    fun k s task table src l h hfree hsend htable hsrc hlayer hcommitted hstep => ?_,
    fun k s task op src len h hfree hsend hop hcomm hlen hsrc => ?_⟩
  · have hstep := comm_step (k := k) (s := s) (act := sendSpan (issueKey k) { kind := kind, block := reg (issueCtx k s) block }
      (reg (issueCtx k s) dst) (reg (issueCtx k s) src) (reg (issueCtx k s) len) tag.toNat none task)
      fun st => by rw [sendSpan_one hpos hlen]; exact emit_step _ _ _
    have hsram := congrArg CoreS.sram (updCtx_step (issueKey k) k.ctx.val sendDone s).core
    refine ⟨_, send_eq h hfree hsend hfmt hsrc, congrArg CoreS.comm hstep.core, ?_, (congrArg CoreS.sram hstep.core).trans rfl,
      hstep.onCore (commIssued_keeps _ _)⟩
    rw [sendSpan_one hpos hlen, issueKey_div, sramBytes, hsram]
    rfl
  · have hact (st : State) := sendSpan_own (issueKey k) { kind := kind, block := reg (issueCtx k s) block }
      (reg (issueCtx k s) dst) (reg (issueCtx k s) src) (reg (issueCtx k s) len) tag.toNat task st
    have hstep := comm_step (k := k) (s := s) (act := sendSpan (issueKey k) { kind := kind, block := reg (issueCtx k s) block }
      (reg (issueCtx k s) dst) (reg (issueCtx k s) src) (reg (issueCtx k s) len) tag.toNat none task)
      fun st => by obtain ⟨ms, heq, _⟩ := hact st; rw [heq]; exact emitAll_step _ _ _
    refine ⟨_, send_eq h hfree hsend hfmt hsrc, ?_, hstep.onCore (commIssued_keeps _ _)⟩
    obtain ⟨ms, heq, hlength⟩ := hact (updCtx (issueKey k) k.ctx.val sendDone s)
    rw [heq, ← hlength]
    exact List.length_append
  · have hblock : issueKey k / 16 < 53760 := by rw [issueKey_div]; exact k.block.isLt
    have hsram := congrArg CoreS.sram (updCtx_step (issueKey k) k.ctx.val sendDone s).core
    have hlane' : peerLane s m.val (blockBx (issueKey k / 16)) (blockBy (issueKey k / 16)) tag.toNat = some lane := by
      rw [issueKey_div]
      exact hlane
    obtain ⟨msg, heq, hmsg⟩ := sendSpan_peer (s := updCtx (issueKey k) k.ctx.val sendDone s)
      (dest := { kind := .core, block := reg (issueCtx k s) block }) (dst := reg (issueCtx k s) dst)
      (src := reg (issueCtx k s) src) (t := task) hpos hlen hblock tag.isLt m.isLt hlane'
    rw [issueKey_div, sramBytes, hsram] at hmsg
    have hall := (((updCtx_step (issueKey k) k.ctx.val sendDone s).trans (emit_step (issueKey k) msg _)).trans
      (updCore_step _ (commTaken k.ctx.val) _)).trans (advance_step _ k.ctx.val _)
    refine ⟨_, send_eq h hfree hsend hfmt hsrc, ?_⟩
    rw [heq]
    exact ⟨(hall.mono (by simp)).onCore (commIssued_keeps _ _), List.length_append, msg, List.getLast?_concat .., hmsg⟩
  · have hstep := comm_step (k := k) (s := s) (act := readSpan (issueKey k) { kind := kind, block := reg (issueCtx k s) block }
      (reg (issueCtx k s) dst) (reg (issueCtx k s) src) (reg (issueCtx k s) len) tag.toNat none task)
      fun st => by rw [readSpan_one hpos hlen]; exact emit_step _ _ _
    refine ⟨_, read_eq h hfree hsend hfmt hdst, congrArg CoreS.comm hstep.core, ?_, hstep.onCore (commIssued_keeps _ _)⟩
    rw [readSpan_one hpos hlen, issueKey_div]
    rfl
  · have hlayer' : deferredLayer (updCtx (issueKey k) k.ctx.val sendDone s)
        (decodeRacc (sramNat (issueCore k s) (reg (issueCtx k s) table) 16)) = none := hlayer
    have hexec := racc_eq h hfree hsend htable hsrc (deferWaits_of_none hlayer)
    rw [gradientPiece_of_none hlayer'] at hexec
    have hstep := comm_step (k := k) (s := s) (act := sendPiece (issueKey k)
      (decodeRacc (sramNat (issueCore k s) (reg (issueCtx k s) table) 16))
      ((List.range 512).map fun i => sramNat (issueCore k s) (reg (issueCtx k s) src + 4 * i) 4))
      fun st => sendPiece_step _ _ _ _ st
    exact ⟨_, hexec, hstep.onCore (commIssued_keeps _ _), congrArg CoreS.comm hstep.core, sendPiece_holds k _ _ s⟩
  · have hlayer' : deferredLayer (updCtx (issueKey k) k.ctx.val sendDone s)
        (decodeRacc (sramNat (issueCore k s) (reg (issueCtx k s) table) 16)) = some l := hlayer
    have hexec := racc_eq h hfree hsend htable hsrc (deferWaits_of_committed hcommitted)
    rw [gradientPiece_deferred hlayer' hstep] at hexec
    have hall := comm_step (k := k) (s := s) (act := putDeferred
      (decodeRacc (sramNat (issueCore k s) (reg (issueCtx k s) table) 16))
      ((deferredSum s (decodeRacc (sramNat (issueCore k s) (reg (issueCtx k s) table) 16))).zipWith (fpAdd false)
        ((List.range 512).map fun i => sramNat (issueCore k s) (reg (issueCtx k s) src + 4 * i) 4)))
      fun st => putDeferred_step _ _ _ st
    exact ⟨_, hexec, hall.onCore (commIssued_keeps _ _), putDeferred_red _ _ _ _ _ _⟩
  · have hbytes : (sramBytes (issueCore k s) (reg (issueCtx k s) src) (reg (issueCtx k s) len)).length =
        reg (issueCtx k s) len := by simp [sramBytes, mapGetList]
    have hshort : (sramBytes (issueCore k s) (reg (issueCtx k s) src) (reg (issueCtx k s) len)).length ≤ glintPiece :=
      hbytes.le.trans hlen
    have hstep := comm_step (k := k) (s := s) (act := contribute (issueKey k) op.val task.desc.comm
      (commOf s task.desc.comm).scope (sramBytes (issueCore k s) (reg (issueCtx k s) src) (reg (issueCtx k s) len)))
      fun st => contribute_step hshort st
    refine ⟨_, glint_eq h hfree hsend hop hcomm hlen hsrc, congrArg CoreS.comm hstep.core, ?_,
      hstep.onCore (commIssued_keeps _ _)⟩
    rw [contribute_one hshort, hbytes]
    rfl

end Sys2Proof.Machine

/-! SUPPORT. The fused class (R137, Table 4.8, R197). -/

namespace Sys2Proof.Machine

/-- The change of a core that a fused product and drain makes: the product's set is drained, and the communication engine taken. -/
def fusedCore (c : Nat) (p : Product) (o : CoreS) : CoreS := { clearSet p.set (accumulate p o) with comm := some c }

/-- The state in which a fused instruction hands its words on. -/
def fusedState (k : Issue) (p : Product) (s : State) : State :=
  useSet (issueKey k) k.ctx.val p.set (setCore (issueKey k) (fusedCore k.ctx.val p (issueCore k s)) s)

theorem fusedState_step (k : Issue) (p : Product) (s : State) : CoreStep (issueKey k)
    (fun o => ctxChanged k.ctx.val (usedSet p.set) (fusedCore k.ctx.val p o)) [] s (fusedState k p s) := by
  have hset : CoreStep (issueKey k) (fusedCore k.ctx.val p) [] s
      (setCore (issueKey k) (fusedCore k.ctx.val p (issueCore k s)) s) :=
    ⟨coreS_setCore_same _ _ _, fun _ hj => coreS_setCore_ne _ _ hj, only_of_patch rfl⟩
  exact hset.trans (useSet_step _ _ _ _)

theorem fusedState_suppress {k : Issue} {s : State} (p : Product) (hsend : (issueCtx k s).suppress = 0) :
    (issueCtx k (fusedState k p s)).suppress = 0 := by
  rw [(fusedState_step k p s).ctx]
  exact (congrArg CtxS.suppress (mapGet_mapUpd_same _ _ _)).trans hsend

/-- A fused product whose checks find nothing, while array and communication engine are free. -/
theorem fused_drains {op word : Nat} {o : CoreS} {x : CtxS} {t : QTask} {key c : Nat} {f : List Nat → State → State} {p : Product}
    (harray : o.tensor.length < 2) (hcomm : o.comm = none) (hprep : prepare op o x t word = .ok p)
    (hshift : shiftMismatch o p = none) (hdrain : drainMismatch (accumulate p o) p.set = none) :
    fused op word o x t key c f = .act fun st => advance key c (f (drainWords (accumulate p o) p.set)
      (useSet key c p.set (setCore key (fusedCore c p o) st))) := by
  simp only [fused, Nat.not_le.mpr harray, hcomm, hprep, hshift, hdrain, Option.isSome_none, decide_false, Bool.or_self,
    Bool.false_eq_true, if_false]
  rfl

/-- The change of a core that a fused instruction makes with a send. -/
def fusedSent (c : Nat) (p : Product) (o : CoreS) : CoreS :=
  coreIssued c (ctxChanged c sendDone (ctxChanged c (usedSet p.set) (fusedCore c p o)))

theorem fusedSent_keeps (c : Nat) (p : Product) (o : CoreS) : KeepsCtxs c (fusedSent c p) o :=
  keepsCtxs_issued (F := fun o => ctxChanged c sendDone (ctxChanged c (usedSet p.set) (fusedCore c p o)))
    (keepsCtxs_changed (F := fun o => ctxChanged c (usedSet p.set) (fusedCore c p o)) sendDone
      (keepsCtxs_changed (F := fusedCore c p) _ (keepsCtxs_of_eq rfl)))

theorem fusedSent_cell (c : Nat) (p : Product) (o : CoreS) (i j : Fin 4) : cellOf (fusedSent c p o) p.set i.val j.val = {} :=
  cellOf_clearSet_same (o := accumulate p o) i j

/-- A fused instruction's send, whatever it changes beside the cores. -/
theorem fusedSent_step {k : Issue} {s : State} (p : Product) {ps : List Part} {act : State → State}
    (hsend : (issueCtx k s).suppress = 0) (hact : ∀ st, CoreStep (issueKey k) id ps st (act st)) :
    CoreStep (issueKey k) (fusedSent k.ctx.val p) ps s
      (advance (issueKey k) k.ctx.val (sendFrom (issueKey k) k.ctx.val act (fusedState k p s))) := by
  rw [sendFrom_of_free act (fusedState_suppress p hsend)]
  exact ((((fusedState_step k p s).trans (updCtx_step (issueKey k) k.ctx.val sendDone _)).trans (hact _)).trans
    (advance_step _ _ _)).mono (by simp)

/-! ## MMA.RS -/

theorem tileValues_fp32 (bexp : Int) (ws : List Nat) : tileValues 1 bexp ws = ws.map fun w : Nat => (w : Int) := by
  simp [tileValues]

theorem handTile_step (k f comm dest tile : Nat) (last : Bool) (vs : List Int) (s : State) :
    CoreStep k id [.beam] s (handTile f comm dest tile last vs s) :=
  .of_only (only_of_patch rfl) rfl

theorem mmaRs_eq {k : Issue} {s : State} {task : QTask} {word : BitVec 64} {dest : MemberId} {tile : BitVec 32} {last : Bool}
    {p : Product} (h : Issues (withPred k word) s task) (hfree : (issueCore k s).comm = none)
    (harray : (issueCore k s).tensor.length < 2) (hbulk : (commOf s task.desc.comm).bulk = true)
    (hadd : (commOf s task.desc.comm).add = 1)
    (hprep : prepare 0xA0 (issueCore k s) (issueCtx k s) task word.toNat = .ok p)
    (hshift : shiftMismatch (issueCore k s) p = none) (hdrain : drainMismatch (accumulate p (issueCore k s)) p.set = none) :
    exec (.mmaRs k word dest tile last) s = .next (advance (issueKey k) k.ctx.val (sendFrom (issueKey k) k.ctx.val
      (handTile (issueKey k / 16 / 640) task.desc.comm dest.val tile.toNat last
        ((drainWords (accumulate p (issueCore k s)) p.set).map fun w : Nat => (w : Int))) (fusedState k p s))) := by
  refine congrArg Host.Outcome.next (runInstr_act (g := fun st => advance (issueKey k) k.ctx.val
    (sendFrom (issueKey k) k.ctx.val (handTile (issueKey k / 16 / 640) task.desc.comm dest.val tile.toNat last
      ((drainWords (accumulate p (issueCore k s)) p.set).map fun w : Nat => (w : Int)))
      (useSet (issueKey k) k.ctx.val p.set (setCore (issueKey k) (fusedCore k.ctx.val p (issueCore k s)) st)))) h ?_)
  have hfused (f : List Nat → State → State) := fused_drains (key := issueKey k) (c := k.ctx.val) (f := f) harray hfree hprep hshift hdrain
  have hkind : decide (3 < 1) = false := rfl
  simp only [hbulk, hadd, hkind, Bool.not_true, Bool.or_self, Bool.false_eq_true, if_false, Nat.reduceEqDiff, OfNat.one_ne_ofNat,
    decide_false, Bool.false_and, tileValues_fp32]
  exact hfused _

/-! ## AG.MMA -/

theorem chunksIn_all {o : CoreS} {chunks : List (Fin 64 × BitVec 16)}
    (h : (chunks.all fun e => decide ((mapGet {} o.sb e.1.val).state = .fired)) = true) : chunksIn o chunks = chunks :=
  List.takeWhile_eq_self_iff.mpr (List.all_eq_true.mp h)

theorem chunksIn_length_lt {o : CoreS} {chunks : List (Fin 64 × BitVec 16)}
    (h : (chunks.any fun e => decide ((mapGet {} o.sb e.1.val).state ≠ .fired)) = true) :
    (chunksIn o chunks).length < chunks.length := by
  have hprefix : chunksIn o chunks <+: chunks := List.takeWhile_prefix _
  refine hprefix.length_le.lt_of_ne fun hlength => ?_
  have hall := List.takeWhile_eq_self_iff.mp (hprefix.eq_of_length hlength)
  obtain ⟨e, he, hne⟩ := List.any_eq_true.mp h
  exact of_decide_eq_true hne (of_decide_eq_true (hall e he))

section
variable {k : Issue} {s : State} {task : QTask} {word : BitVec 64} {chunks : List (Fin 64 × BitVec 16)} {p : Product}
  (h : Issues (withPred k word) s task) (harray : (issueCore k s).tensor.length < 2)
  (hbulk : (commOf s task.desc.comm).bulk = true)
  (hprep : prepare 0xA1 (issueCore k s) (issueCtx k s) task word.toNat = .ok p)
include h harray hbulk hprep

theorem agMma_runs (hin : (chunks.all fun e => decide ((mapGet {} (issueCore k s).sb e.1.val).state = .fired)) = true)
    (hshift : shiftMismatch (issueCore k s) p = none) :
    exec (.agMma k word chunks) s = .next (advance (issueKey k) k.ctx.val
      (useSet (issueKey k) k.ctx.val p.set (updCore (issueKey k) (accumulate p) s))) := by
  refine congrArg Host.Outcome.next (runInstr_act (g := fun st => advance (issueKey k) k.ctx.val
    (useSet (issueKey k) k.ctx.val p.set (updCore (issueKey k) (accumulate p) st))) h ?_)
  have harray' : ¬ 2 ≤ (issueCore (withPred k word) s).tensor.length := Nat.not_le.mpr harray
  have hprep' : prepare 0xA1 (issueCore (withPred k word) s) (issueCtx (withPred k word) s) task word.toNat = .ok p := hprep
  have hin' : chunksIn (issueCore (withPred k word) s) chunks = chunks := chunksIn_all hin
  have hshift' : shiftMismatch (issueCore (withPred k word) s) p = none := hshift
  simp only [hbulk, harray', hprep', hin', hshift', Bool.not_true, Bool.false_eq_true, if_false, Nat.lt_irrefl]
  rfl

theorem agMma_waits (hout : (chunks.any fun e => decide ((mapGet {} (issueCore k s).sb e.1.val).state ≠ .fired)) = true) :
    exec (.agMma k word chunks) s = .next (updCtx (issueKey k) k.ctx.val (fun y => { y with waiting := true })
      (updCore (issueKey k) (enterTiles p (((chunksIn (issueCore k s) chunks).map (·.2.toNat)).sum)) s)) := by
  refine congrArg Host.Outcome.next (runInstr_wait
    (g := updCore (issueKey k) (enterTiles p (((chunksIn (issueCore k s) chunks).map (·.2.toNat)).sum))) h ?_)
  have harray' : ¬ 2 ≤ (issueCore (withPred k word) s).tensor.length := Nat.not_le.mpr harray
  have hprep' : prepare 0xA1 (issueCore (withPred k word) s) (issueCtx (withPred k word) s) task word.toNat = .ok p := hprep
  have hout' : (chunksIn (issueCore (withPred k word) s) chunks).length < chunks.length := chunksIn_length_lt hout
  simp only [hbulk, harray', hprep', hout', Bool.not_true, Bool.false_eq_true, if_false, if_true]
  rfl

end

theorem enterTiles_ctxs (p : Product) (n : Nat) (o : CoreS) : (enterTiles p n o).ctxs = o.ctxs := by
  unfold enterTiles
  split <;> rfl

/-! ## MMA.RACC -/

theorem putTile_length {tile : Nat} {ws : List Nat} {l : List (Nat × Nat)} (h : l.length < 496) :
    (putTile tile ws l).length < 512 := by
  have hfilter := List.length_filter_le (fun e : Nat × Nat => !((List.range 16).map (pieceElem tile)).contains e.1) l
  simp only [putTile, List.length_append, List.length_map, List.length_range]
  omega

/-- The change of a core that puts a tile's words into the piece in hand. -/
def tilePut (rc tile : Nat) (ws : List Nat) (o : CoreS) : CoreS :=
  { o with racc := mapSet [] o.racc rc (putTile tile ws (mapGet [] o.racc rc)) }

theorem drainTile_of_short {key c rc tile : Nat} {e : RaccRec} {ws : List Nat} {s : State}
    (h : (mapGet [] (coreS s key).racc rc).length < 496) : drainTile key c rc tile e ws s = updCore key (tilePut rc tile ws) s := by
  simp only [drainTile, putTile_length h, if_true]
  rfl

theorem mmaRacc_eq {k : Issue} {s : State} {task : QTask} {word : BitVec 64} {tile : Fin 32} {p : Product}
    (h : Issues (withPred k word) s task) (hfree : (issueCore k s).comm = none) (harray : (issueCore k s).tensor.length < 2)
    (hentry : reg (issueCtx k s) (Fin.ofNat 32 (decodeMma word.toNat).rc) + 16 ≤ 0x10000)
    (hprep : prepare 0xA2 (issueCore k s) (pastEntry (issueCtx k s) task (decodeMma word.toNat)) task word.toNat = .ok p)
    (hshift : shiftMismatch (issueCore k s) p = none) (hdrain : drainMismatch (accumulate p (issueCore k s)) p.set = none)
    (hshort : (mapGet [] (issueCore k s).racc (reg (issueCtx k s) (Fin.ofNat 32 (decodeMma word.toNat).rc))).length < 496) :
    exec (.mmaRacc k word tile) s = .next (advance (issueKey k) k.ctx.val (updCore (issueKey k)
      (tilePut (reg (issueCtx k s) (Fin.ofNat 32 (decodeMma word.toNat).rc)) tile.val
        (drainWords (accumulate p (issueCore k s)) p.set)) (fusedState k p s))) := by
  have hracc : mapGet [] (coreS (fusedState k p s) (issueKey k)).racc (reg (issueCtx k s) (Fin.ofNat 32 (decodeMma word.toNat).rc)) =
      mapGet [] (issueCore k s).racc (reg (issueCtx k s) (Fin.ofNat 32 (decodeMma word.toNat).rc)) := by
    rw [(fusedState_step k p s).core]
    rfl
  rw [← drainTile_of_short (c := k.ctx.val) (e := decodeRacc (sramNat (issueCore k s)
    (reg (issueCtx k s) (Fin.ofNat 32 (decodeMma word.toNat).rc)) 16)) (by rw [hracc]; exact hshort)]
  refine congrArg Host.Outcome.next (runInstr_act (g := fun st => advance (issueKey k) k.ctx.val (drainTile (issueKey k) k.ctx.val
    (reg (issueCtx k s) (Fin.ofNat 32 (decodeMma word.toNat).rc)) tile.val (decodeRacc (sramNat (issueCore k s)
      (reg (issueCtx k s) (Fin.ofNat 32 (decodeMma word.toNat).rc)) 16)) (drainWords (accumulate p (issueCore k s)) p.set)
    (useSet (issueKey k) k.ctx.val p.set (setCore (issueKey k) (fusedCore k.ctx.val p (issueCore k s)) st)))) h ?_)
  have hfused (f : List Nat → State → State) := fused_drains (key := issueKey k) (c := k.ctx.val) (f := f) harray hfree hprep hshift hdrain
  have hput : ¬ 512 ≤ (putTile tile.val [] (mapGet [] (issueCore (withPred k word) s).racc
      (reg (issueCtx (withPred k word) s) (Fin.ofNat 32 (decodeMma word.toNat).rc)))).length :=
    Nat.not_le.mpr (putTile_length hshort)
  have hentry' : inSram (reg (issueCtx (withPred k word) s) (Fin.ofNat 32 (decodeMma word.toNat).rc)) 16 = true :=
    inSram_of_le hentry
  simp only [hentry', hput, Bool.not_true, Bool.false_eq_true, if_false, decide_false, Bool.and_false]
  exact hfused _

/-! ## MMA.SPILL -/

theorem mmaSpill_eq {k : Issue} {s : State} {task : QTask} {word : BitVec 64} {p : Product}
    (h : Issues (withPred k word) s task) (hfree : (issueCore k s).comm = none) (harray : (issueCore k s).tensor.length < 2)
    (hprep : prepare 0xA3 (issueCore k s) (issueCtx k s) task word.toNat = .ok p)
    (hshift : shiftMismatch (issueCore k s) p = none) (hdrain : drainMismatch (accumulate p (issueCore k s)) p.set = none) :
    exec (.mmaSpill k word) s = .next (advance (issueKey k) k.ctx.val (sendFrom (issueKey k) k.ctx.val
      (emit (.fabric (issueKey k / 16) .local_ (flitsOf (taskFlit (issueKey k) { block := reg (issueCtx k s) 12 % 65536 } 1 2 5
        (reg (issueCtx k s) 9 % 65536 + 65536 * 2 ^ (reg (issueCtx k s) 12 / 65536 % 16)) (reg (issueCtx k s) 8 % 65536) true task)
        (bytesLE 16 1 ++ (drainWords (accumulate p (issueCore k s)) p.set).flatMap (bytesLE 4))))) (fusedState k p s))) :=
  congrArg Host.Outcome.next (runInstr_act (g := fun st => advance (issueKey k) k.ctx.val (sendFrom (issueKey k) k.ctx.val
    (emit (.fabric (issueKey k / 16) .local_ (flitsOf (taskFlit (issueKey k) { block := reg (issueCtx k s) 12 % 65536 } 1 2 5
      (reg (issueCtx k s) 9 % 65536 + 65536 * 2 ^ (reg (issueCtx k s) 12 / 65536 % 16)) (reg (issueCtx k s) 8 % 65536) true task)
      (bytesLE 16 1 ++ (drainWords (accumulate p (issueCore k s)) p.set).flatMap (bytesLE 4)))))
    (useSet (issueKey k) k.ctx.val p.set (setCore (issueKey k) (fusedCore k.ctx.val p (issueCore k s)) st)))) h
    (fused_drains (o := issueCore k s) harray hfree hprep hshift hdrain))

/-- Settles O18. -/
theorem fusedInstructionsComplete : Obligations.FusedInstructionsComplete := by
  unfold Obligations.FusedInstructionsComplete
  refine ⟨fun k s task word dest tile last p h hfree hsend harray hbulk hadd hprep hshift hdrain => ?_,
    fun k s task word chunks p h harray hbulk hin hprep hshift => ?_,
    fun k s task word chunks p h harray hbulk hprep hout => ?_,
    fun k s task word tile p h hfree hsend harray hentry hprep hshift hdrain hshort => ?_,
    fun k s task word p h hfree hsend harray hprep hshift hdrain => ?_⟩
  · have hstep := fusedSent_step (k := k) (s := s) p (act := handTile (issueKey k / 16 / 640) task.desc.comm dest.val tile.toNat
      last ((drainWords (accumulate p (issueCore k s)) p.set).map fun w : Nat => (w : Int))) hsend fun st => handTile_step ..
    refine ⟨_, mmaRs_eq h hfree harray hbulk hadd (ok_of_toOption hprep) hshift hdrain, ?_, fun i j => ?_,
      congrArg CoreS.comm hstep.core, hstep.onCore (fusedSent_keeps _ _ _)⟩
    · rw [sendFrom_of_free _ (fusedState_suppress p hsend)]
      rfl
    · rw [show issueCore k _ = _ from hstep.core]
      exact fusedSent_cell _ _ _ i j
  · have hstep := issuedUsing_step (k := k) p.set (updCore_step (issueKey k) (accumulate p) s)
    exact ⟨_, agMma_runs h harray hbulk (ok_of_toOption hprep) hin hshift, congrArg CoreS.acc hstep.core,
      (congrArg CoreS.sram hstep.core).trans rfl, hstep.onCore (issuedUsing_keeps rfl)⟩
  · have hwait := waits_step (k := k) (updCore_step (issueKey k)
      (enterTiles p (((chunksIn (issueCore k s) chunks).map (·.2.toNat)).sum)) s)
    exact ⟨_, agMma_waits h harray hbulk (ok_of_toOption hprep) hout, hwait.core,
      hwait.onCore (keepsCtxs_changed _ (keepsCtxs_of_eq (enterTiles_ctxs _ _ _)))⟩
  · have hstep := ((fusedState_step k p s).trans (updCore_step (issueKey k) (tilePut
      (reg (issueCtx k s) (Fin.ofNat 32 (decodeMma word.toNat).rc)) tile.val (drainWords (accumulate p (issueCore k s)) p.set))
      _)).trans (advance_step _ k.ctx.val _)
    refine ⟨_, mmaRacc_eq h hfree harray hentry (ok_of_toOption hprep) hshift hdrain hshort, ?_, fun i j => ?_,
      hstep.onCore (keepsCtxs_issued (F := fun o => tilePut _ tile.val _ (ctxChanged k.ctx.val (usedSet p.set) _))
        (keepsCtxs_changed (F := fusedCore k.ctx.val p) _ (keepsCtxs_of_eq rfl)))⟩
    · rw [show issueCore k _ = _ from hstep.core]
      exact mapGet_mapSet_same
    · rw [show issueCore k _ = _ from hstep.core]
      exact cellOf_clearSet_same (o := accumulate p (issueCore k s)) i j
  · have hstep := fusedSent_step (k := k) (s := s) p (act := emit (.fabric (issueKey k / 16) .local_ (flitsOf (taskFlit (issueKey k)
      { block := reg (issueCtx k s) 12 % 65536 } 1 2 5
      (reg (issueCtx k s) 9 % 65536 + 65536 * 2 ^ (reg (issueCtx k s) 12 / 65536 % 16)) (reg (issueCtx k s) 8 % 65536) true task)
      (bytesLE 16 1 ++ (drainWords (accumulate p (issueCore k s)) p.set).flatMap (bytesLE 4))))) hsend fun st => emit_step _ _ _
    refine ⟨_, mmaSpill_eq h hfree harray (ok_of_toOption hprep) hshift hdrain, ?_, fun i j => ?_,
      hstep.onCore (fusedSent_keeps _ _ _)⟩
    · rw [sendFrom_of_free _ (fusedState_suppress p hsend), issueKey_div]
      rfl
    · rw [show issueCore k _ = _ from hstep.core]
      exact fusedSent_cell _ _ _ i j

end Sys2Proof.Machine

/-! SUPPORT. Tasks, from a unit's anchor to a context, and scoreboard arrivals (R125 to R132). -/

namespace Sys2Proof.Machine

/-! ## Spreading (R125) -/

theorem anchorOf_leaf {s : State} {u a : Nat} (hkind : (entryOf s u).kind = 1) (htarget : (entryOf s u).target = a) :
    anchorOf s u = some a := by
  simp only [anchorOf, anchorIn, hkind, if_true, htarget]

theorem leavesOf_leaf {s : State} {u a : Nat} (hkind : (entryOf s u).kind = 1) (htarget : (entryOf s u).target = a) :
    leavesOf s u = [a] := by
  simp only [leavesOf, leavesIn, hkind, if_true, htarget]

/-- The task that a descriptor gives the one core it names at one leaf. -/
def wholeTask (d : Desc) : QTask := { desc := d, r1 := d.indexBase, r2 := d.indexCount }

theorem spreadCopies_one {d : Desc} (a : Nat) (hspread : d.spread = 0) (hmask : d.coreMask = 1) :
    spreadCopies d [a] = [(coreKey a 0, wholeTask d)] := by
  have hcores : maskCores 1 = [0] := by decide
  simp only [spreadCopies, hspread, hmask, hcores]
  rfl

/-- The change of a core whose queue takes a task. -/
def taskQueued (t : QTask) (o : CoreS) : CoreS := { o with queue := o.queue ++ [t] }

theorem pushTask_counted {key : Nat} {t : QTask} {s : State} (hon : coreOn s key = true) (hslack : taskSlack t = false) :
    pushTask key t s = addOutstanding (key / 16) 1 (updCore key (taskQueued t) s) := by
  simp only [pushTask, hon, hslack, Bool.not_true, Bool.false_eq_true, if_false]
  rfl

/-- The state with no spread in hand. -/
def withoutSpreads (s : State) : State := { s with fabric := { s.fabric with spreads := [] } }

theorem deliverAll_of_none {s : State} (h : s.fabric.spreads = []) : deliverAll s = withoutSpreads s := by
  simp only [deliverAll, h, deliverSpreads]
  rfl

/-- A spread of one copy, for a core that holds a queue stage. -/
theorem startSpread_one {unit anchor key : Nat} {t : QTask} {s : State} (hnone : s.fabric.spreads = [])
    (hon : coreOn s key = true) (hslack : taskSlack t = false) (hroom : (coreS s key).queue.length < 32) :
    startSpread unit anchor false [(key, t)] s = withoutSpreads (subOutstanding anchor 1
      (addOutstanding (key / 16) 1 (updCore key (taskQueued t) (withoutSpreads (addOutstanding anchor 1 s))))) := by
  have hroom' : (coreS (withoutSpreads (addOutstanding anchor 1 s)) key).queue.length < 32 := hroom
  have hon' : coreOn (withoutSpreads (addOutstanding anchor 1 s)) key = true := hon
  have hspreads : (addOutstanding anchor 1 s).fabric.spreads = [] := hnone
  have hpush := pushTask_counted hon' hslack
  simp only [withoutSpreads] at hroom' hpush ⊢
  simp only [startSpread, Bool.false_eq_true, if_false, deliverAll, hspreads, List.nil_append, deliverSpreads, deliverCopies,
    hroom', if_true, List.isEmpty_nil, hpush]

theorem startSpread_one_only {a key : Nat} {F : CoreS → CoreS} {s : State} : Only [.fabric, .cores] s (withoutSpreads
    (subOutstanding a 1 (addOutstanding (key / 16) 1 (updCore key F (withoutSpreads (addOutstanding a 1 s)))))) := by
  have hadd (b : Nat) (st : State) : Only [.fabric] st (addOutstanding b 1 st) := only_of_patch rfl
  have hsub (st : State) : Only [.fabric] st (subOutstanding a 1 st) := only_of_patch rfl
  have hclear (st : State) : Only [.fabric] st (withoutSpreads st) := only_of_patch rfl
  exact ((((((hadd a s).trans (hclear _)).trans (updCore_only (k := key) (f := F))).trans (hadd _ _)).trans (hsub _)).trans
    (hclear _)).mono (by decide)

theorem taskSpread_of_one {u : UnitId} {desc : BitVec 512} {s : State} {a : Nat} (hready : Ready s)
    (hkind : (entryOf s u.val).kind = 1) (htarget : (entryOf s u.val).target = a) (hon : coreOn s (coreKey a 0) = true)
    (hreserved : (decodeDesc desc.toNat).reservedSet = false) (hspill : (decodeDesc desc.toNat).spill = false)
    (hslack : (decodeDesc desc.toNat).slack = false) (hspread : (decodeDesc desc.toNat).spread = 0)
    (hmask : (decodeDesc desc.toNat).coreMask = 1) :
    exec (.taskSpread u desc none) s =
      .next (startSpread u.val a false [(coreKey a 0, wholeTask (decodeDesc desc.toNat))] s) := by
  refine (next_of_ready hready rfl).trans (congrArg _ ?_)
  simp only [taskSpreadTo, anchorOf_leaf hkind htarget, leavesOf_leaf hkind htarget, hon, hreserved, hspill, hslack,
    spreadCopies_one a hspread hmask, hmask, Nat.one_ne_zero, decide_false, Bool.not_true, Bool.or_self, Bool.false_eq_true,
    if_false]

theorem taskSpread_without_cores {u : UnitId} {desc : BitVec 512} {s : State} (hready : Ready s)
    (hmask : (decodeDesc desc.toNat).coreMask = 0) : exec (.taskSpread u desc none) s = .next (count cPktDiscard 1 s) := by
  refine (next_of_ready hready rfl).trans (congrArg _ ?_)
  unfold taskSpreadTo
  dsimp only
  split
  · rfl
  · simp only [hmask, decide_true, Bool.or_true, if_true]

theorem leafOutstanding_addOutstanding (a n : Nat) (s : State) :
    leafOutstanding (addOutstanding a n s) a = min (2 ^ 24 - 1) (leafOutstanding s a + n) := by
  simp [leafOutstanding, addOutstanding, mapUpd]

theorem leafOutstanding_subOutstanding (a n : Nat) (s : State) :
    leafOutstanding (subOutstanding a n s) a = leafOutstanding s a - n := by
  simp [leafOutstanding, subOutstanding, mapUpd]

theorem coreS_congr {s t : State} (h : t.cores = s.cores) (k : Nat) : coreS t k = coreS s k := by simp only [coreS, h]

theorem cores_updCore_congr {s t : State} (h : t.cores = s.cores) (k : Nat) (F : CoreS → CoreS) :
    (updCore k F t).cores = (updCore k F s).cores := by
  simp only [updCore, setCore, coreS, h]

theorem coreS_startSpread_one (a key : Nat) (F : CoreS → CoreS) (s : State) : coreS (withoutSpreads (subOutstanding a 1
    (addOutstanding (key / 16) 1 (updCore key F (withoutSpreads (addOutstanding a 1 s)))))) key = F (coreS s key) := by
  have houter (t : State) : coreS (withoutSpreads (subOutstanding a 1 (addOutstanding (key / 16) 1 t))) key = coreS t key := rfl
  have hinner : coreS (withoutSpreads (addOutstanding a 1 s)) key = coreS s key := rfl
  rw [houter, coreS_updCore_same, hinner]

/-! ## Dispatch (R129, R132) -/

/-- The change of a core whose context `c` starts the task at place `i` of the queue. -/
def dispatched (key i c : Nat) (o : CoreS) : CoreS :=
  { o with queue := o.queue.eraseIdx i
           ctxs := mapSet {} o.ctxs c (startCtx (key % 16) (nth {} o.queue i) (mapGet {} o.ctxs c).gen 0 []) }

/-- A dispatched SLACK task is counted as such (R128). -/
def countSlackRun (t : QTask) (s : State) : State := if taskSlack t then count cSlackRun 1 s else s

theorem dispatchCore_eq {key i c : Nat} {s : State} (hpick : pickTask (coreS s key) = some i)
    (hfree : freeCtx (coreS s key) = some c) (hkeep : (nth {} (coreS s key).queue i).desc.keep = false) :
    dispatchCore key s = deliverAll (countSlackRun (nth {} (coreS s key).queue i)
      (count cDispatched 1 (updCore key (dispatched key i c) s))) := by
  simp only [dispatchCore, hpick, hfree, hkeep, Bool.false_and, Bool.false_eq_true, if_false]
  rfl

theorem countSlackRun_eq (t : QTask) (s : State) : countSlackRun t s = { s with counters := (countSlackRun t s).counters } := by
  unfold countSlackRun
  split <;> rfl

/-- What a dispatched task counts, as a counter file: nothing but SLACK_RUN changes. -/
theorem deliverAll_countSlackRun {u : QTask} {t : State} (hnone : t.fabric.spreads = []) :
    deliverAll (countSlackRun u t) = withoutSpreads { t with counters := (countSlackRun u t).counters } := by
  have hspreads : (countSlackRun u t).fabric.spreads = [] := by rw [countSlackRun_eq]; exact hnone
  rw [deliverAll_of_none hspreads]
  exact congrArg withoutSpreads (countSlackRun_eq u t)

theorem counter_countSlackRun (t : QTask) (s : State) : counter (countSlackRun t s) cDispatched = counter s cDispatched := by
  unfold countSlackRun
  split
  · exact counter_count_ne _ _ (by decide)
  · rfl

theorem taskDispatch_of_on {core : CoreRef} {s : State} (hready : Ready s)
    (hon : coreOn s (coreKey core.block.val core.core.val) = true) (hstop : s.power.stopCause = 0) :
    exec (.taskDispatch core) s = .next (dispatchCore (coreKey core.block.val core.core.val) s) := by
  refine (next_of_ready hready rfl).trans ?_
  simp only [hon, hstop, decide_true, Bool.and_self, if_true]

theorem dispatchCore_of_empty {key : Nat} {s : State} (h : (coreS s key).queue = []) : dispatchCore key s = s := by
  have hpick : pickTask (coreS s key) = none := by rw [pickTask, h]; rfl
  simp only [dispatchCore, hpick]

/-! ## Arrivals (R130) -/

/-- The change of a core at whose entry `i` an arrival of `n` counts. -/
def arrived (i n : Nat) (o : CoreS) : CoreS :=
  { o with sb := mapSet {} o.sb i (sbAdd (mapGet {} o.sb i) n), ctxs := unwait o.ctxs }

theorem arrive_of_room {key i n : Nat} {s : State} (h : (mapGet {} (coreS s key).sb i).count + n ≤ 0xFFFF) :
    arrive key i n s = updCore key (arrived i n) s := by
  simp only [arrive, Nat.not_lt.mpr h, if_false]
  rfl

theorem scoreboardArrival_of_on {core : CoreRef} {entry : Fin 64} {n : BitVec 16} {s : State} (hready : Ready s)
    (hon : coreOn s (coreKey core.block.val core.core.val) = true)
    (hroom : (mapGet {} (coreS s (coreKey core.block.val core.core.val)).sb entry.val).count + n.toNat ≤ 0xFFFF) :
    exec (.scoreboardArrival core entry n) s =
      .next (updCore (coreKey core.block.val core.core.val) (arrived entry.val n.toNat) s) := by
  refine (next_of_ready hready rfl).trans ?_
  rw [if_pos hon, arrive_of_room hroom]

/-- Settles O19. -/
theorem tasksReachContexts : Obligations.TasksReachContexts := by
  unfold Obligations.TasksReachContexts
  refine ⟨fun u desc s a hready hkind htarget hon hnone hreserved hspill hslack hspread hmask hroom hfew => ?_,
    fun u desc s hready hmask => ⟨_, taskSpread_without_cores hready hmask, counter_count_same _ _ _, only_of_patch rfl⟩,
    fun core s i c hready hon hstop hpick hfree hnone hkeep => ?_, fun core s hready hempty => ?_,
    fun core entry n s hready hon hroom => ?_⟩
  · refine ⟨_, taskSpread_of_one hready hkind htarget hon hreserved hspill hslack hspread hmask, ?_⟩
    have hslack' : taskSlack (wholeTask (decodeDesc desc.toNat)) = false := by simp [taskSlack, wholeTask, hslack]
    rw [startSpread_one hnone hon hslack' hroom]
    refine ⟨?_, ?_, rfl, startSpread_one_only⟩
    · exact congrArg CoreS.queue (coreS_startSpread_one a (coreKey a 0) _ s)
    · have hfirst := leafOutstanding_addOutstanding a 1 s
      have hsecond := leafOutstanding_addOutstanding a 1 (updCore (coreKey a 0) (taskQueued (wholeTask (decodeDesc desc.toNat)))
        (withoutSpreads (addOutstanding a 1 s)))
      rw [coreKey_div a (by decide)]
      refine (leafOutstanding_subOutstanding a 1 _).trans ?_
      rw [hsecond]
      have hsame : leafOutstanding (updCore (coreKey a 0) (taskQueued (wholeTask (decodeDesc desc.toNat)))
        (withoutSpreads (addOutstanding a 1 s))) a = leafOutstanding (addOutstanding a 1 s) a := rfl
      rw [hsame, hfirst]
      omega
  · refine ⟨_, taskDispatch_of_on hready hon hstop, ?_⟩
    rw [dispatchCore_eq hpick hfree hkeep, deliverAll_countSlackRun (t := count cDispatched 1 (updCore _ _ s)) hnone]
    have hcore := coreS_updCore_same (coreKey core.block.val core.core.val)
      (dispatched (coreKey core.block.val core.core.val) i c) s
    refine ⟨(counter_countSlackRun _ _).trans (counter_count_same _ _ _), congrArg CoreS.queue hcore, ?_, only_of_patch rfl⟩
    refine (congrArg (fun o : CoreS => mapGet ({} : CtxS) o.ctxs c) hcore).trans ?_
    rw [dispatched, mapGet_mapSet_same]
    rfl
  · refine ⟨_, next_of_ready hready rfl, ?_⟩
    split
    · exact dispatchCore_of_empty hempty
    · rfl
  · refine ⟨_, scoreboardArrival_of_on hready hon hroom, ?_, ?_, updCore_only⟩
    · rw [coreS_updCore_same]
      exact mapGet_mapSet_same
    · rw [coreS_updCore_same]
      rfl

end Sys2Proof.Machine

/-! SUPPORT. A late frame raises an event (R44), and an event ring without room counts it in its control block in SYSTEM (R408). -/

namespace Sys2Proof.Machine

/-- A data frame of one segment for SEQ 0 under epoch 1, which answers tick 0 (Table 7.2); its CHECK still zero. -/
def frameBody : Nat := pack [(48, 0), (48, 0), (40, 0), (2, 1), (6, 0), (16, 1), (16, 0), (16, 1), (32, 0)]

/-- The same frame with its CHECK. -/
def checkedFrame : BitVec 256 := BitVec.ofNat 256 (frameBody + crc32 (bytesLE 28 frameBody) * 2 ^ 224)

/-- A READY module in a started job with one ranked lane, which has had tick 1 and has an event ring without room. -/
def fullEventRing : State :=
  { State.reset with
    boot := { State.reset.boot with state := .ready }
    job := { State.reset.job with started := true }
    tick := { State.reset.tick with tickCount := 1, lastValidAt := some 0 }
    host := { State.reset.host with rings := [(0, { kind := 3, ctx := 0xFF, reserved := 1 })] }
    stream := { State.reset.stream with slotBytes := 2 ^ 30, stop := false, epochA := 1, ranks := [0] } }

/-- The bytes of stacked memory that an outcome's state holds other than zero; none for another outcome. -/
def bytesHeld : Host.Outcome State Fault Refusal → Option Nat
  | .next t => some t.mem.bytes.length
  | _ => none

theorem bytesHeld_checkedFrame : bytesHeld (exec (.frameArrival 0 ⟨0, by decide⟩ checkedFrame) fullEventRing) = some 6 := by
  decide +kernel

/-- Refutes O20: the expected data frame that comes late raises the event of R44, and the control block of a full event ring,
which lies in SYSTEM, counts it lost; the statement's first clause does not ask that the frame come in time, and leaves memory as
it was. -/
theorem not_framesAreTaken : ¬ Obligations.FramesAreTaken := by
  unfold Obligations.FramesAreTaken
  rintro ⟨hexpected, -⟩
  obtain ⟨t, ht, -, -, -, -, -, -, -, hmem, -⟩ := hexpected 0 ⟨0, by decide⟩ checkedFrame fullEventRing rfl rfl
    (by decide +kernel) (by decide +kernel) (by decide +kernel) (by decide +kernel) rfl rfl (by decide +kernel) (by decide +kernel)
  have hheld := bytesHeld_checkedFrame
  rw [ht, bytesHeld, hmem] at hheld
  exact absurd hheld (by decide)

end Sys2Proof.Machine

/-! SUPPORT. Segments of frames: into the window (R233 to R238) and the landing zone (R225), and the slots that consumers free
(R223). -/

namespace Sys2Proof.Machine

/-! ## A state that only some parts of another distinguish -/

theorem eq_of_parts {s t : State} (h : ∀ p : Part, p.same s t) : t = s := by
  cases s
  cases t
  simp only [State.mk.injEq]
  exact ⟨h .now, h .freeCtr, h .sent, h .pending, h .flash, h .boot, h .pins, h .side, h .power,
    h .fault, h .snap, h .tap, h .tick, h .lead, h .job, h .grp, h .fabric, h .cores,
    h .stream, h .mem, h .red, h .beam, h .place, h .host, h .counters, h .cmdLatch, h .sideLatch,
    h .fieldWrites⟩

/-- A state differs by the parts that its frame lists. -/
theorem Only.eq_patch {ps : List Part} {s t : State} (h : Only ps s t) : t = patch ps s t := by
  refine eq_of_parts fun p => ?_
  by_cases hp : p ∈ ps
  · cases p <;> exact (if_pos hp).symm
  · have hsame := h p hp
    cases p <;> exact hsame.trans (if_neg hp).symm

/-! ## The segment that a lane gives -/

/-- A lane's frame in hand gives one of its segments. -/
def segmentTaken (τ c : Nat) (s : State) : State :=
  setStreamLane c { streamLane (atTime τ s) c with left := (streamLane (atTime τ s) c).left - 1 } (atTime τ s)

@[simp] theorem streamLane_segmentTaken (τ c : Nat) (s : State) :
    streamLane (segmentTaken τ c s) c = { streamLane s c with left := (streamLane s c).left - 1 } :=
  streamLane_setStreamLane_same _ _ _

@[simp] theorem streamLane_count (n k c : Nat) (s : State) : streamLane (count n k s) c = streamLane s c := rfl

section
variable {τ : Nat} {lane : LaneId} {header : BitVec 256} {payload : List Byte} {s : State} (hready : Ready s)
  (hactive : laneActive s lane.val = true) (hleft : (streamLane s lane.val).left ≠ 0)
include hready hactive hleft

theorem segmentIngest_of_ingest (hplace : (streamLane s lane.val).place = .ingest) :
    exec (.segmentIngest τ lane header payload) s = .next (endFrame lane.val (segmentInto lane.val header.toNat payload
      (count cStreamBytes payload.length (segmentTaken τ lane.val s)))) := by
  have hactive' : laneActive (atTime τ s) lane.val = true := hactive
  have hleft' : ¬ (streamLane (atTime τ s) lane.val).left = 0 := hleft
  have hplace' : (streamLane (atTime τ s) lane.val).place = .ingest := hplace
  refine (next_of_ready hready rfl).trans (congrArg _ ?_)
  simp only [hactive', hleft', decide_false, Bool.not_true, Bool.or_self, Bool.false_eq_true, if_false]
  split
  next => rfl
  next h => exact absurd (hplace'.symm.trans h) (by decide)
  next h _ => exact absurd hplace' h

theorem segmentIngest_of_landing (hplace : (streamLane s lane.val).place = .landing) :
    exec (.segmentIngest τ lane header payload) s =
      .next (landSegment lane.val header.toNat payload (segmentTaken τ lane.val s)) := by
  have hactive' : laneActive (atTime τ s) lane.val = true := hactive
  have hleft' : ¬ (streamLane (atTime τ s) lane.val).left = 0 := hleft
  have hplace' : (streamLane (atTime τ s) lane.val).place = .landing := hplace
  refine (next_of_ready hready rfl).trans (congrArg _ ?_)
  simp only [hactive', hleft', decide_false, Bool.not_true, Bool.or_self, Bool.false_eq_true, if_false]
  split
  next h => exact absurd (hplace'.symm.trans h) (by decide)
  next => rfl
  next _ h => exact absurd hplace' h

end

/-! ## A segment that fails (Table 7.9) -/

/-- A lane's record of a frame that is asked for again. -/
def repeatAsked (q : Nat) (l : StreamLaneS) : StreamLaneS :=
  { l with repeats := if l.repeats.contains q then l.repeats else l.repeats ++ [q], repeatsStep := l.repeatsStep + 1 }

theorem mem_repeatAsked (q : Nat) (l : StreamLaneS) : q ∈ (repeatAsked q l).repeats := by
  unfold repeatAsked
  dsimp only
  split <;> simp_all

theorem requestRepeat_within {c q : Nat} {s : State} (hstop : s.stream.stop = false)
    (hlimit : (streamLane s c).repeatsStep < s.stream.repeatLimit) :
    requestRepeat c q s = setStreamLane c (repeatAsked q (streamLane s c)) s := by
  have hkept : ¬ s.stream.repeatLimit < (streamLane s c).repeatsStep + 1 := by omega
  simp only [requestRepeat, hstop, hkept, Bool.false_eq_true, if_false]
  rfl

/-- The lane after a segment that fails PCRC. -/
def crcFailed (l : StreamLaneS) : StreamLaneS := repeatAsked l.frame.seq { l with bad := true }

theorem failFrame_crc {c : Nat} {s : State} (hbad : (streamLane s c).bad = false) (hstop : s.stream.stop = false)
    (hlimit : (streamLane s c).repeatsStep < s.stream.repeatLimit) :
    failFrame c false s = setStreamLane c (crcFailed (streamLane s c)) (setStreamLane c { streamLane s c with bad := true }
      (count cCrcErrors 1 s)) := by
  have hlane : streamLane (setStreamLane c { streamLane s c with bad := true } (count cCrcErrors 1 s)) c =
      { streamLane s c with bad := true } := streamLane_setStreamLane_same _ _ _
  have hlimit' : (streamLane (setStreamLane c { streamLane s c with bad := true } (count cCrcErrors 1 s)) c).repeatsStep <
      s.stream.repeatLimit := by rw [hlane]; exact hlimit
  have hrepeat := requestRepeat_within (q := (streamLane s c).frame.seq)
    (s := setStreamLane c { streamLane s c with bad := true } (count cCrcErrors 1 s)) hstop hlimit'
  simp only [failFrame, hbad, Bool.false_and, Bool.false_eq_true, if_false, Bool.or_false]
  rw [hrepeat, hlane]
  rfl

/-- The end of a frame of which a segment failed ingests nothing. -/
theorem endFrame_of_bad {c : Nat} {s : State} (hbad : (streamLane s c).bad = true) :
    (streamLane (endFrame c s) c).repeats = (streamLane s c).repeats ∧ (endFrame c s).stream.slots = s.stream.slots ∧
      (endFrame c s).counters = s.counters ∧ Only [.stream] s (endFrame c s) := by
  unfold endFrame
  simp only [hbad, if_true]
  split
  · exact ⟨rfl, rfl, rfl, Only.refl _ _⟩
  · rw [streamLane_setStreamLane_same]
    exact ⟨rfl, rfl, rfl, only_of_patch rfl⟩

theorem endFrame_of_more {c : Nat} {s : State} (h : (streamLane s c).left ≠ 0) : endFrame c s = s := by
  simp only [endFrame, h, ne_eq, not_false_eq_true, decide_true, Bool.true_or, if_true]

theorem segmentInto_of_crc {c raw : Nat} {payload : List Byte} {s : State} (h : crc32 payload ≠ (decodeSeg raw).pcrc) :
    segmentInto c raw payload s = failFrame c false s := by
  simp only [segmentInto, ingestSegment, h, ne_eq, not_false_eq_true, if_true]

/-! ## A segment that passes the checks of R233 -/

/-- A state with other work of the stream in hand: the time, the lanes, the pieces held and the counters. -/
def withStreamWork (n : Nat) (lanes : Map StreamLaneS) (pieces : List PieceS) (c : Map Nat) (s : State) : State :=
  { s with now := n, stream := { s.stream with lanes := lanes, pieces := pieces }, counters := c }

theorem each_commutes {α : Type} {f : α → State → State} {g : State → State} (h : ∀ a s, f a (g s) = g (f a s)) (l : List α)
    (s : State) : each l f (g s) = g (each l f s) := by
  induction l generalizing s with
  | nil => rfl
  | cons a l ih => exact (congrArg (each l f) (h a s)).trans (ih (f a s))

/-- The window is written alike whatever work the stream has in hand. -/
theorem windowBits_withStreamWork (base : Nat) (ws : List BitWrite) (n : Nat) (lanes : Map StreamLaneS)
    (pieces : List PieceS) (c : Map Nat) (s : State) :
    windowBits base ws (withStreamWork n lanes pieces c s) = withStreamWork n lanes pieces c (windowBits base ws s) := by
  have hregion : regionBase (withStreamWork n lanes pieces c s) 2 = regionBase s 2 := rfl
  unfold windowBits
  rw [hregion]
  dsimp only
  refine (congrArg (each _ _) (each_commutes (g := withStreamWork n lanes pieces c) (fun w st => ?_) ws s)).trans
    (each_commutes (g := withStreamWork n lanes pieces c) (fun u st => ?_) _ _)
  · refine each_commutes (g := withStreamWork n lanes pieces c) (fun i q => ?_) _ _
    rfl
  · unfold sealStriped
    refine each_commutes (g := withStreamWork n lanes pieces c) (fun k q => ?_) _ _
    rfl

theorem keepSegs_withStreamWork (b : Bool) (seq tensor role : Nat) (segs : List (Nat × List Byte)) (n : Nat)
    (lanes : Map StreamLaneS) (pieces : List PieceS) (c : Map Nat) (s : State) :
    ∃ kept, (if b then keepSegs seq tensor role segs (withStreamWork n lanes pieces c s) else withStreamWork n lanes pieces c s) =
      withStreamWork n lanes kept c s := by
  cases b with
  | false => exact ⟨pieces, rfl⟩
  | true => exact ⟨_, rfl⟩

/-- The checks that a segment of frame `f` passes (R233), with what it decompresses to and the bits that it writes. -/
structure Ingests (s : State) (f : FrameHdr) (raw : Nat) (payload bs : List Byte) (e : IngestRec) (shape : Shape)
    (w : List BitWrite × List BitWrite) : Prop where
  pcrc : crc32 payload = (decodeSeg raw).pcrc
  whole : decompress (decodeSeg raw) payload = some bs
  entry : ingestEntry s (decodeSeg raw).tensor (slotPlan s f.seq).role = some e
  shaped : segShape (decodeSeg raw) e = some shape
  format : segMatches s (decodeSeg raw) e = true
  fits : (decodeSeg raw).offset + bs.length ≤ imageLen shape
  exponents : badExponent shape (decodeSeg raw).offset bs = false
  notOwned : e.owned = false
  writes : segWrites (seedOf s (stepOfSeq s f.seq)) (decodeSeg raw) e shape
    (segsWith s f.seq (slotPlan s f.seq).role (decodeSeg raw) bs) bs = some w

/-- A segment's bits in the window, and in its shadow copy. -/
def inWindow (f : FrameHdr) (e : IngestRec) (w : List BitWrite × List BitWrite) (s : State) : State :=
  windowBits (slotBase s f.seq + e.windowOffset) w.1 (windowBits (slotBase s f.seq + e.shadowOffset) w.2 s)

theorem inWindow_only (f : FrameHdr) (e : IngestRec) (w : List BitWrite × List BitWrite) (s : State) :
    Only [.mem] s (inWindow f e w s) :=
  (((windowBits_grows _ _ s).onlyIn [.mem] rfl).trans ((windowBits_grows _ _ _).onlyIn [.mem] rfl)).mono (by decide)

theorem ingestSegment_done {s : State} {f : FrameHdr} {raw : Nat} {payload bs : List Byte} {e : IngestRec} {shape : Shape}
    {w : List BitWrite × List BitWrite} (h : Ingests s f raw payload bs e shape w) (n : Nat) (lanes : Map StreamLaneS)
    (c : Map Nat) :
    ∃ pieces, ingestSegment f raw payload (withStreamWork n lanes s.stream.pieces c s) =
      .done (signalArrival e (withStreamWork n lanes pieces c (inWindow f e w s))) := by
  obtain ⟨pieces, hpieces⟩ := keepSegs_withStreamWork (e.shadow || (outShape shape e (decodeSeg raw).elem).isSome) f.seq
    (decodeSeg raw).tensor (slotPlan s f.seq).role (segsWith s f.seq (slotPlan s f.seq).role (decodeSeg raw) bs) n lanes
    s.stream.pieces c s
  refine ⟨pieces, ?_⟩
  obtain ⟨hcrc, hwhole, hentry, hshape, hformat, hfits, hexps, howned, hwrites⟩ := h
  have hentry' : ingestEntry (withStreamWork n lanes s.stream.pieces c s) (decodeSeg raw).tensor
      (slotPlan s f.seq).role = some e := hentry
  have hformat' : segMatches (withStreamWork n lanes s.stream.pieces c s) (decodeSeg raw) e = true := hformat
  have hwrites' : segWrites (seedOf (withStreamWork n lanes s.stream.pieces c s)
      (stepOfSeq (withStreamWork n lanes s.stream.pieces c s) f.seq)) (decodeSeg raw) e shape
      (segsWith s f.seq (slotPlan s f.seq).role (decodeSeg raw) bs) bs = some w := hwrites
  have hfits' : ¬ imageLen shape < (decodeSeg raw).offset + bs.length := by omega
  have hplan : slotPlan (withStreamWork n lanes s.stream.pieces c s) f.seq = slotPlan s f.seq := rfl
  have hsegs (role : Nat) : segsWith (withStreamWork n lanes s.stream.pieces c s) f.seq role (decodeSeg raw) bs =
    segsWith s f.seq role (decodeSeg raw) bs := rfl
  have hbase : slotBase (withStreamWork n lanes s.stream.pieces c s) f.seq = slotBase s f.seq := rfl
  simp only [ingestSegment, hcrc, hwhole, hentry', hshape, hformat', hfits', hexps, howned, hwrites', hplan, hsegs, hbase, hpieces,
    windowBits_withStreamWork, ne_eq, not_true_eq_false, decide_false, Bool.not_true, Bool.or_self, Bool.false_and,
    Bool.false_eq_true, if_false]
  rfl

/-- The segment taken, with its bytes counted, is other work of the stream. -/
theorem segmentTaken_eq (τ c n : Nat) (s : State) : count cStreamBytes n (segmentTaken τ c s) =
    withStreamWork (max s.now τ) (segmentTaken τ c s).stream.lanes s.stream.pieces (count cStreamBytes n s).counters s := rfl

/-- A segment that passes the checks of R233, of a frame with more segments to come. -/
theorem segmentIngest_done {τ : Nat} {lane : LaneId} {header : BitVec 256} {payload bs : List Byte} {s : State} {e : IngestRec}
    {shape : Shape} {w : List BitWrite × List BitWrite} (hready : Ready s) (hactive : laneActive s lane.val = true)
    (hplace : (streamLane s lane.val).place = .ingest) (hmore : 2 ≤ (streamLane s lane.val).left)
    (h : Ingests s (streamLane s lane.val).frame header.toNat payload bs e shape w) :
    ∃ pieces, exec (.segmentIngest τ lane header payload) s = .next (endFrame lane.val (signalArrival e
      (withStreamWork (max s.now τ) (segmentTaken τ lane.val s).stream.lanes pieces (count cStreamBytes payload.length s).counters
        (inWindow (streamLane s lane.val).frame e w s)))) := by
  obtain ⟨pieces, hdone⟩ := ingestSegment_done h (max s.now τ) (segmentTaken τ lane.val s).stream.lanes
    (count cStreamBytes payload.length s).counters
  refine ⟨pieces, (segmentIngest_of_ingest hready hactive (by omega) hplace).trans ?_⟩
  have hframe : (streamLane (count cStreamBytes payload.length (segmentTaken τ lane.val s)) lane.val).frame =
      (streamLane s lane.val).frame := by
    rw [streamLane_count, streamLane_segmentTaken]
  rw [segmentInto, hframe, segmentTaken_eq, hdone]

/-- A segment's arrival on the cores of a list. -/
theorem each_arrive {b entry : Nat} {l : List Nat} {s : State} (hnodup : l.Nodup)
    (hon : ∀ i ∈ l, coreOn s (coreKey b i) = true)
    (hroom : ∀ i ∈ l, (mapGet {} (coreS s (coreKey b i)).sb entry).count < 0xFFFF) :
    each l (fun i q => if coreOn q (coreKey b i) then arrive (coreKey b i) entry 1 q else count cPktDiscard 1 q) s =
      updCores (l.map (coreKey b)) (arrived entry 1) s := by
  induction l generalizing s with
  | nil => rfl
  | cons i l ih =>
    have ⟨hi, hl⟩ := List.nodup_cons.mp hnodup
    have hfirst : (if coreOn s (coreKey b i) then arrive (coreKey b i) entry 1 s else count cPktDiscard 1 s) =
        updCore (coreKey b i) (arrived entry 1) s := by
      rw [if_pos (hon i List.mem_cons_self), arrive_of_room (hroom i List.mem_cons_self)]
    have hothers : ∀ j ∈ l, coreS (updCore (coreKey b i) (arrived entry 1) s) (coreKey b j) = coreS s (coreKey b j) := by
      intro j hj
      refine coreS_updCore_ne _ _ fun h => hi ?_
      rwa [Nat.add_left_cancel (h : 16 * b + j = 16 * b + i)] at hj
    have hrest := ih (s := updCore (coreKey b i) (arrived entry 1) s) hl (fun j hj => hon j (List.mem_cons_of_mem _ hj))
      fun j hj => by rw [hothers j hj]; exact hroom j (List.mem_cons_of_mem _ hj)
    exact (congrArg (each l _) hfirst).trans hrest

theorem each_singleton {α : Type} (a : α) (f : α → State → State) (s : State) : each [a] f s = f a s := rfl

theorem signalArrival_leaf {e : IngestRec} {b : Nat} {s : State} (hunit : e.arriveUnit ≠ 0xFFFF)
    (hleaf : leavesOf s e.arriveUnit = [b]) (hon : ∀ i : Fin 16, coreOn s (coreKey b i.val) = true)
    (hroom : ∀ i : Fin 16, (mapGet {} (coreS s (coreKey b i.val)).sb e.arriveEntry).count < 0xFFFF) :
    signalArrival e s = updCores ((List.range 16).map (coreKey b)) (arrived e.arriveEntry 1) s := by
  have hcores := each_arrive (entry := e.arriveEntry) (s := s) List.nodup_range
    (fun i hi => hon ⟨i, List.mem_range.mp hi⟩) (fun i hi => hroom ⟨i, List.mem_range.mp hi⟩)
  rw [signalArrival, if_neg hunit, hleaf, each_singleton]
  exact hcores

/-! ## A landed segment (R225) -/

theorem stripedBytes_withStreamWork (base o : Nat) (bs : List Byte) (n : Nat) (lanes : Map StreamLaneS) (pieces : List PieceS)
    (c : Map Nat) (s : State) : stripedBytes base o bs (withStreamWork n lanes pieces c s) =
      withStreamWork n lanes pieces c (stripedBytes base o bs s) := by
  induction bs generalizing o s with
  | nil => rfl
  | cons b bs ih => exact ih _ (setMemByte _ _ b s)

theorem stripedWrite_withStreamWork (base o : Nat) (bs : List Byte) (n : Nat) (lanes : Map StreamLaneS) (pieces : List PieceS)
    (c : Map Nat) (s : State) : stripedWrite base o bs (withStreamWork n lanes pieces c s) =
      withStreamWork n lanes pieces c (stripedWrite base o bs s) := by
  rw [stripedWrite, stripedBytes_withStreamWork]
  unfold stripedWrite sealStriped
  refine each_commutes (g := withStreamWork n lanes pieces c) (fun k q => ?_) _ _
  rfl

theorem landBytes_segmentTaken (τ c : Nat) (payload : List Byte) (s : State) :
    (landBytes c payload (segmentTaken τ c s)).mem = (landBytes c payload s).mem := by
  have htaken : segmentTaken τ c s = withStreamWork (max s.now τ) (segmentTaken τ c s).stream.lanes s.stream.pieces s.counters s :=
    rfl
  have hregion : regionBase (segmentTaken τ c s) 1 = regionBase s 1 := rfl
  have hperiod : (segmentTaken τ c s).tick.period = s.tick.period := rfl
  have hranks : (segmentTaken τ c s).stream.ranks = s.stream.ranks := rfl
  simp only [landBytes, streamLane_segmentTaken, hregion, hperiod, hranks]
  rw [htaken, stripedWrite_withStreamWork]
  rfl

theorem landSegment_last {c raw : Nat} {payload : List Byte} {s : State} {l : List LandedFrame} {f : LandedFrame}
    (hcrc : crc32 payload = (decodeSeg raw).pcrc) (hlanding : (streamLane s c).landing = l ++ [f]) :
    landSegment c raw payload s = setStreamLane c { streamLane s c with
      landing := l ++ [{ f with segs := f.segs ++ [(raw, payload)] }] } (landBytes c payload s) := by
  have hreverse : (l ++ [f]).reverse = f :: l.reverse := by simp
  simp only [landSegment, hcrc, ne_eq, not_true_eq_false, if_false, hlanding, hreverse, List.reverse_cons, List.reverse_reverse]

/-! ## Consumers' signals and OLDEST (R223) -/

/-- A slot with one more consumer signal. -/
def slotSignalled (q : Nat) (s : State) : State := setSlot q { slotS s q with signals := (slotS s q).signals + 1 } s

theorem consumerSignal_of_held {seq : BitVec 48} {s : State} (hready : Ready s) (h : s.stream.oldest ≤ seq.toNat) :
    exec (.consumerSignal seq) s = .next (settleSlots (slotSignalled seq.toNat s)) := by
  refine (next_of_ready hready rfl).trans (congrArg _ ?_)
  rw [if_neg (Nat.not_lt.mpr h)]
  rfl

theorem advanceOldest_of_busy {s : State} (h : slotFree s s.stream.oldest = false) (n : Nat) : advanceOldest n s = s := by
  cases n with
  | zero => rfl
  | succ n => simp only [advanceOldest, h, Bool.false_eq_true, if_false]

theorem slotFree_slotSignalled_ne {q j : Nat} {s : State} (h : j ≠ q) : slotFree (slotSignalled q s) j = slotFree s j := by
  have hslot : slotS (slotSignalled q s) j = slotS s j := slotS_setSlot_ne _ _ h
  have hplan : slotPlan (slotSignalled q s) j = slotPlan s j := rfl
  have hranks : (slotSignalled q s).stream.ranks = s.stream.ranks := rfl
  simp only [slotFree, hslot, hplan, hranks]

theorem settleSlots_of_busy {s : State} (h : slotFree s s.stream.oldest = false) : settleSlots s = s := by
  simp only [settleSlots, advanceOldest_of_busy h, if_true]

/-- OLDEST does not go back, and it, the slots and the pieces are all that advances. -/
theorem advanceOldest_spec (n : Nat) (s : State) : ∃ slots pieces oldest, s.stream.oldest ≤ oldest ∧ advanceOldest n s =
    { s with stream := { s.stream with slots := slots, pieces := pieces, oldest := oldest } } := by
  induction n generalizing s with
  | zero => exact ⟨_, _, _, Nat.le_refl _, rfl⟩
  | succ n ih =>
    rw [advanceOldest]
    dsimp only
    split
    · obtain ⟨slots, pieces, oldest, hle, heq⟩ := ih { s with stream := { s.stream with
        slots := mapSet {} s.stream.slots s.stream.oldest {}
        pieces := s.stream.pieces.filter fun p => decide (s.stream.oldest < p.seq), oldest := s.stream.oldest + 1 } }
      exact ⟨slots, pieces, oldest, Nat.le_of_succ_le hle, heq⟩
    · exact ⟨_, _, _, Nat.le_refl _, rfl⟩

theorem advanceOldest_of_free {n : Nat} {s : State} (h : slotFree s s.stream.oldest = true) : ∃ slots pieces oldest,
    s.stream.oldest < oldest ∧ advanceOldest (n + 1) s =
      { s with stream := { s.stream with slots := slots, pieces := pieces, oldest := oldest } } := by
  rw [advanceOldest]
  simp only [h, if_true]
  exact advanceOldest_spec n { s with stream := { s.stream with
    slots := mapSet {} s.stream.slots s.stream.oldest {}
    pieces := s.stream.pieces.filter fun p => decide (s.stream.oldest < p.seq), oldest := s.stream.oldest + 1 } }

/-- OLDEST advances past a free slot; where no SEQ waits for credit, nothing is asked for. -/
theorem settleSlots_of_free {s : State} (h : slotFree s s.stream.oldest = true) (hslots : s.stream.slots ≠ [])
    (hlater : ∀ e ∈ s.stream.lanes, e.2.later = []) : ∃ slots pieces oldest, s.stream.oldest < oldest ∧ settleSlots s =
      { s with stream := { s.stream with slots := slots, pieces := pieces, oldest := oldest } } := by
  obtain ⟨n, hn⟩ := Nat.exists_eq_succ_of_ne_zero (mt List.eq_nil_of_length_eq_zero hslots)
  obtain ⟨slots, pieces, oldest, hlt, heq⟩ := advanceOldest_of_free (n := n) h
  have hnone : (s.stream.lanes.filter fun e => !e.2.later.isEmpty) = [] := by
    refine List.filter_eq_nil_iff.mpr fun e he => ?_
    rw [hlater e he]
    decide
  refine ⟨slots, pieces, oldest, hlt, ?_⟩
  have hmoved : ¬ oldest = s.stream.oldest := by omega
  simp only [settleSlots, hn, Nat.succ_eq_add_one, heq, hmoved, if_false, hnone, List.map_nil]
  rfl

theorem slotFree_slotSignalled_same {q : Nat} {s : State} (hranks : s.stream.ranks ≠ [])
    (hlanes : ∀ c ∈ s.stream.ranks, c ∈ (slotS s q).lanes) (hsignals : (slotPlan s q).signals ≤ (slotS s q).signals + 1) :
    slotFree (slotSignalled q s) q = true := by
  have hslot : slotS (slotSignalled q s) q = { slotS s q with signals := (slotS s q).signals + 1 } := slotS_setSlot_same _ _ _
  have hplan : slotPlan (slotSignalled q s) q = slotPlan s q := rfl
  have hsame : (slotSignalled q s).stream.ranks = s.stream.ranks := rfl
  simp only [slotFree, hslot, hplan, hsame, Bool.and_eq_true, decide_eq_true_eq, List.all_eq_true, List.contains_iff_mem]
  exact ⟨⟨by simpa using hranks, hlanes⟩, hsignals⟩

theorem slots_slotSignalled_ne_nil (q : Nat) (s : State) : (slotSignalled q s).stream.slots ≠ [] := by
  intro hnil
  have hslot : slotS (slotSignalled q s) q = { slotS s q with signals := (slotS s q).signals + 1 } := slotS_setSlot_same _ _ _
  rw [slotS, hnil] at hslot
  exact absurd (congrArg SlotS.signals hslot) (by simp [mapGet])

theorem failFrame_segmentTaken {τ c n : Nat} {s : State} (hbad : (streamLane s c).bad = false) (hstop : s.stream.stop = false)
    (hlimit : (streamLane s c).repeatsStep < s.stream.repeatLimit) :
    ∃ lanes, failFrame c false (count cStreamBytes n (segmentTaken τ c s)) =
        withStreamWork (max s.now τ) lanes s.stream.pieces (count cCrcErrors 1 (count cStreamBytes n s)).counters s ∧
      mapGet {} lanes c = crcFailed { streamLane s c with left := (streamLane s c).left - 1 } := by
  have hlane : streamLane (count cStreamBytes n (segmentTaken τ c s)) c =
      { streamLane s c with left := (streamLane s c).left - 1 } := streamLane_segmentTaken τ c s
  have hfail := failFrame_crc (c := c) (s := count cStreamBytes n (segmentTaken τ c s)) (by rw [hlane]; exact hbad) hstop
    (by rw [hlane]; exact hlimit)
  rw [hlane] at hfail
  exact ⟨_, hfail.trans rfl, mapGet_mapSet_same⟩

/-- The state after a segment of `n` payload bytes has passed into the window. -/
def segmentIn (τ c n : Nat) (pieces : List PieceS) (e : IngestRec) (w : List BitWrite × List BitWrite) (s : State) : State :=
  withStreamWork (max s.now τ) (segmentTaken τ c s).stream.lanes pieces (count cStreamBytes n s).counters
    (inWindow (streamLane s c).frame e w s)

theorem streamLane_segmentIn (τ c n : Nat) (pieces : List PieceS) (e : IngestRec) (w : List BitWrite × List BitWrite) (s : State) :
    streamLane (segmentIn τ c n pieces e w s) c = { streamLane s c with left := (streamLane s c).left - 1 } :=
  streamLane_segmentTaken τ c s

theorem segmentIn_only (τ c n : Nat) (pieces : List PieceS) (e : IngestRec) (w : List BitWrite × List BitWrite) (s : State) :
    Only [.now, .mem, .stream, .counters] s (segmentIn τ c n pieces e w s) := by
  have hwork : Only [.now, .stream, .counters] (inWindow (streamLane s c).frame e w s) (segmentIn τ c n pieces e w s) :=
    only_of_patch rfl
  exact ((inWindow_only _ _ _ _).trans hwork).mono (by decide)

theorem leavesOf_segmentIn (τ c n : Nat) (pieces : List PieceS) (e : IngestRec) (w : List BitWrite × List BitWrite) (s : State)
    (u : Nat) : leavesOf (segmentIn τ c n pieces e w s) u = leavesOf s u := by
  rw [(segmentIn_only τ c n pieces e w s).eq_patch]
  rfl

theorem coreOn_segmentIn (τ c n : Nat) (pieces : List PieceS) (e : IngestRec) (w : List BitWrite × List BitWrite) (s : State)
    (k : Nat) : coreOn (segmentIn τ c n pieces e w s) k = coreOn s k := by
  rw [(segmentIn_only τ c n pieces e w s).eq_patch]
  rfl

/-- Settles O21. -/
theorem segmentsFillTheWindow : Obligations.SegmentsFillTheWindow := by
  unfold Obligations.SegmentsFillTheWindow
  refine ⟨fun τ lane header payload s hready hactive hplace hleft hbad hcrc hstop hlimit => ?_,
    fun τ lane header payload s bs e shape w hready hactive hplace hmore hpcrc hwhole hentry hshape hformat hfits hexps howned
      hwrites hunit => ?_,
    fun τ lane header payload s bs e shape w b hready hactive hplace hmore hpcrc hwhole hentry hshape hformat hfits hexps howned
      hwrites hunit hleaf hon hroom => ?_,
    fun τ lane header payload s l f hready hactive hplace hleft hcrc hlanding => ?_,
    fun seq s hready hheld hbusy hne => ?_, fun seq s hready heq hranks hlanes hlater hsignals => ?_⟩
  · obtain ⟨lanes, hfail, hlane⟩ := failFrame_segmentTaken (τ := τ) (n := payload.length) hbad hstop hlimit
    have hbad' : (streamLane (failFrame lane.val false (count cStreamBytes payload.length (segmentTaken τ lane.val s)))
        lane.val).bad = true := by rw [hfail]; exact congrArg StreamLaneS.bad hlane
    obtain ⟨hrepeats, hslots, hcounters, honly⟩ := endFrame_of_bad hbad'
    refine ⟨_, (segmentIngest_of_ingest hready hactive hleft hplace).trans
      (congrArg (fun st => Host.Outcome.next (endFrame lane.val st)) (segmentInto_of_crc hcrc)), ?_, ?_, ?_, ?_⟩
    · refine (counter_congr hcounters _).trans ?_
      rw [hfail]
      exact (counter_count_same _ _ _).trans (congrArg (· + 1) (counter_count_ne _ _ (by decide)))
    · rw [hrepeats, hfail]
      exact (congrArg StreamLaneS.repeats hlane) ▸ mem_repeatAsked _ _
    · rw [hslots, hfail]
      rfl
    · rw [hfail] at honly ⊢
      exact Only.trans (only_of_patch rfl : Only [.now, .stream, .counters] s _) honly |>.mono (by decide)
  · obtain ⟨pieces, heq⟩ := segmentIngest_done (τ := τ) hready hactive hplace hmore
      ⟨hpcrc, hwhole, hentry, hshape, hformat, hfits, hexps, howned, hwrites⟩
    have hnone (st : State) : signalArrival e st = st := if_pos hunit
    rw [hnone] at heq
    have hlane := streamLane_segmentIn τ lane.val payload.length pieces e w s
    have hleft := congrArg StreamLaneS.left hlane
    have hlast : (streamLane s lane.val).left - 1 ≠ 0 := by omega
    have hend := endFrame_of_more (c := lane.val) (s := segmentIn τ lane.val payload.length pieces e w s)
      (by rw [hlane]; exact hlast)
    exact ⟨_, heq.trans (congrArg _ hend), counter_count_same _ _ _, rfl, hleft, segmentIn_only _ _ _ _ _ _ _⟩
  · obtain ⟨pieces, heq⟩ := segmentIngest_done (τ := τ) hready hactive hplace hmore
      ⟨hpcrc, hwhole, hentry, hshape, hformat, hfits, hexps, howned, hwrites⟩
    have hin := segmentIn_only τ lane.val payload.length pieces e w s
    have hcores (k : Nat) : coreS (segmentIn τ lane.val payload.length pieces e w s) k = coreS s k :=
      coreS_congr (hin .cores (by decide)) k
    have harrive := signalArrival_leaf (s := segmentIn τ lane.val payload.length pieces e w s) hunit
      ((leavesOf_segmentIn _ _ _ _ _ _ _ _).trans hleaf) (fun i => (coreOn_segmentIn _ _ _ _ _ _ _ _).trans (hon i))
      fun i => by rw [hcores]; exact hroom i
    have honly := updCores_only ((List.range 16).map (coreKey b)) (arrived e.arriveEntry 1)
      (segmentIn τ lane.val payload.length pieces e w s)
    have hlane : streamLane (updCores ((List.range 16).map (coreKey b)) (arrived e.arriveEntry 1)
        (segmentIn τ lane.val payload.length pieces e w s)) lane.val = _ :=
      (congrArg (fun r : StreamS => mapGet ({} : StreamLaneS) r.lanes lane.val) (honly .stream (by decide))).trans
        (streamLane_segmentIn τ lane.val payload.length pieces e w s)
    have hlast : (streamLane s lane.val).left - 1 ≠ 0 := by omega
    have hend := endFrame_of_more (c := lane.val) (s := updCores ((List.range 16).map (coreKey b)) (arrived e.arriveEntry 1)
      (segmentIn τ lane.val payload.length pieces e w s)) (by rw [hlane]; exact hlast)
    refine ⟨_, heq.trans ((congrArg (fun st => Host.Outcome.next (endFrame lane.val st)) harrive).trans (congrArg _ hend)),
      fun i => ?_, (hin.trans honly).mono (by decide)⟩
    have hmem : coreKey b i.val ∈ (List.range 16).map (coreKey b) := List.mem_map_of_mem (List.mem_range.mpr i.isLt)
    have hnodup : ((List.range 16).map (coreKey b)).Nodup :=
      List.nodup_range.map fun x y (h : 16 * b + x = 16 * b + y) => Nat.add_left_cancel h
    rw [coreS_updCores_of_mem _ _ hnodup hmem, hcores]
    exact mapGet_mapSet_same
  · have hlanding' : (streamLane (segmentTaken τ lane.val s) lane.val).landing = l ++ [f] := by
      rw [streamLane_segmentTaken]; exact hlanding
    have htaken : Only [.now, .stream] s (segmentTaken τ lane.val s) := only_of_patch rfl
    have hland := (landBytes_grows lane.val payload (segmentTaken τ lane.val s)).onlyIn [.mem] rfl
    refine ⟨_, (segmentIngest_of_landing hready hactive hleft hplace).trans (congrArg _ (landSegment_last hcrc hlanding')),
      congrArg StreamLaneS.landing (streamLane_setStreamLane_same _ _ _), landBytes_segmentTaken τ lane.val payload s, ?_⟩
    exact ((htaken.trans hland).trans (only_of_patch rfl : Only [.stream] _ _)).mono (by decide)
  · have hbusy' : slotFree (slotSignalled seq.toNat s) (slotSignalled seq.toNat s).stream.oldest = false :=
      (slotFree_slotSignalled_ne (Ne.symm hne)).trans hbusy
    refine ⟨_, (consumerSignal_of_held hready hheld).trans (congrArg _ (settleSlots_of_busy hbusy')), ?_, rfl, only_of_patch rfl⟩
    exact congrArg SlotS.signals (slotS_setSlot_same _ _ _)
  · have hfree : slotFree (slotSignalled seq.toNat s) (slotSignalled seq.toNat s).stream.oldest = true := by
      have hfree := slotFree_slotSignalled_same hranks hlanes hsignals
      rw [heq] at hfree ⊢
      exact hfree
    obtain ⟨slots, pieces, oldest, hlt, hsettle⟩ := settleSlots_of_free hfree (slots_slotSignalled_ne_nil _ _) hlater
    refine ⟨_, (consumerSignal_of_held hready (by omega)).trans (congrArg _ hsettle), hlt, ?_, only_of_patch rfl⟩
    exact Nat.add_lt_add_right hlt (windowSlots s)

end Sys2Proof.Machine

/-! SUPPORT. What writing to a ring in SYSTEM leaves alone (R399 to R408): all of memory but contents and check bits, and all that
hosts see but the rings. -/

namespace Sys2Proof.Machine

/-- Stacked memory but for its contents and their check bits. -/
def memRest (s : State) : MemS := { s.mem with bytes := [], checks := [] }

/-- The host's side but for its rings. -/
def hostRest (s : State) : HostS := { s.host with rings := [] }

/-- Rings may differ, with what SYSTEM holds of them. -/
def RingsWritten (s t : State) : Prop := memRest t = memRest s ∧ hostRest t = hostRest s

theorem RingsWritten.refl (s : State) : RingsWritten s s := ⟨rfl, rfl⟩

theorem RingsWritten.trans {s t u : State} (h : RingsWritten s t) (h' : RingsWritten t u) : RingsWritten s u :=
  ⟨h'.1.trans h.1, h'.2.trans h.2⟩

theorem RingsWritten.each {α : Type} {f : α → State → State} (h : ∀ a s, RingsWritten s (f a s)) (l : List α) (s : State) :
    RingsWritten s (each l f s) := by
  induction l generalizing s with
  | nil => exact .refl s
  | cons a l ih => exact (h a s).trans (ih (f a s))

theorem systemBytes_ringsWritten (o : Nat) (bs : List Byte) (s : State) : RingsWritten s (systemBytes o bs s) := by
  induction bs generalizing o s with
  | nil => exact .refl s
  | cons b bs ih =>
    have hbyte (m a : Nat) (st : State) : RingsWritten st (setMemByte m a b st) := ⟨rfl, rfl⟩
    exact ((hbyte _ _ s).trans (hbyte _ _ _)).trans (ih _ _)

theorem systemWrite_ringsWritten (o : Nat) (bs : List Byte) (s : State) : RingsWritten s (systemWrite o bs s) := by
  have hseal (m u : Nat) (st : State) : RingsWritten st (sealUnit m u st) := ⟨rfl, rfl⟩
  exact (systemBytes_ringsWritten o bs s).trans (.each (fun k st => (hseal _ _ st).trans (hseal _ _ _)) _ _)

theorem setRing_ringsWritten (n : Nat) (r : RingS) (s : State) : RingsWritten s (setRing n r s) := by
  have hrings : RingsWritten s { s with host := { s.host with rings := mapSet {} s.host.rings n r } } := ⟨rfl, rfl⟩
  exact hrings.trans (systemWrite_ringsWritten _ _ _)

theorem emit_ringsWritten (m : Msg) (s : State) : RingsWritten s (emit m s) := ⟨rfl, rfl⟩

theorem ringNotice_ringsWritten (n : Nat) (s : State) : RingsWritten s (ringNotice n s) := by
  unfold ringNotice
  dsimp only
  split
  · exact .refl s
  · split
    · exact (setRing_ringsWritten _ _ _).trans (emit_ringsWritten _ _)
    · split
      · exact (setRing_ringsWritten _ _ _).trans (emit_ringsWritten _ _)
      · exact setRing_ringsWritten _ _ _

theorem ringReply_ringsWritten (n : Nat) (r : StatusRec) (body : List Byte) (s : State) :
    RingsWritten s (ringReply n r body s) :=
  (RingsWritten.each (fun _ st => (systemWrite_ringsWritten _ _ st).trans (setRing_ringsWritten _ _ _)) _ s).trans
    (ringNotice_ringsWritten _ _)

theorem eventToRing_ringsWritten (r : StatusRec) (body : List Byte) (n : Nat) (s : State) :
    RingsWritten s (eventToRing r body n s) := by
  unfold eventToRing
  dsimp only
  split
  · exact ringReply_ringsWritten _ _ _ _
  · exact setRing_ringsWritten _ _ _

/-! ## Events and faults -/

theorem eventCtx_memRest (ctx code detail : Nat) (body : List Byte) (s : State) :
    memRest (eventCtx ctx code detail body s) = memRest s :=
  (RingsWritten.each (eventToRing_ringsWritten _ _) _ s).1

theorem eventCtx_eventNumber (ctx code detail : Nat) (body : List Byte) (s : State) :
    (eventCtx ctx code detail body s).host.eventNumber = s.host.eventNumber + 1 := by
  have hrest (st : State) (h : hostRest st = hostRest s) : st.host.eventNumber + 1 = s.host.eventNumber + 1 :=
    congrArg (a₁ := hostRest st) (a₂ := hostRest s) (fun h : HostS => h.eventNumber + 1) h
  exact hrest _ (RingsWritten.each (eventToRing_ringsWritten _ _) (eventRings s ctx) s).2

theorem event_memRest (code detail : Nat) (s : State) : memRest (event code detail s) = memRest s := eventCtx_memRest _ _ _ _ _

theorem event_eventNumber (code detail : Nat) (s : State) :
    (event code detail s).host.eventNumber = s.host.eventNumber + 1 := eventCtx_eventNumber _ _ _ _ _

theorem faultEvent_memRest (r : FaultRec) (s : State) : memRest (faultEvent r s) = memRest s :=
  event_memRest _ _ (recordFault r s)

theorem faultEvent_eventNumber (r : FaultRec) (s : State) :
    (faultEvent r s).host.eventNumber = s.host.eventNumber + 1 := event_eventNumber _ _ (recordFault r s)

theorem faultEvent_requests (r : FaultRec) (s : State) : (faultEvent r s).grp.requests = s.grp.requests :=
  (congrArg GroupS.requests (event_grp 0x8012 (recordFault r s).fault.head (recordFault r s))).trans rfl

theorem faultEvent_now (r : FaultRec) (s : State) : (faultEvent r s).now = s.now := (faultEvent_grows r s).same .now rfl

theorem faultEvent_counters (r : FaultRec) (s : State) : (faultEvent r s).counters = s.counters :=
  (faultEvent_grows r s).same .counters rfl

/-- A fault at the job lead of a started job asks for a rollback. -/
theorem rollFault_of_jobLead (r : FaultRec) {cause : Nat} {s : State} (hstarted : s.job.started = true)
    (hlead : isJobLead s = true) : rollFault r cause s = { faultEvent r s with grp := { (faultEvent r s).grp with
      requests := s.grp.requests ++ [({ cause := cause, source := selfIndex s }, s.now)] } } := by
  have hjob := faultEvent_job r s
  have hstarted' : (faultEvent r s).job.started = true := by rw [hjob]; exact hstarted
  have hrequests : (faultEvent r s).grp.requests ++ [(({ cause := cause, source := selfIndex (faultEvent r s) } : RollbackReq),
      (faultEvent r s).now)] = s.grp.requests ++ [({ cause := cause, source := selfIndex s }, s.now)] := by
    rw [selfIndex_congr hjob, faultEvent_requests, faultEvent_now]
  exact (requestRollback_of_jobLead cause hstarted' ((isJobLead_congr hjob).trans hlead)).trans
    (congrArg (fun q => { faultEvent r s with grp := { (faultEvent r s).grp with requests := q } }) hrequests)

end Sys2Proof.Machine

/-! SUPPORT. A stack's controller (R250 to R264) and the loss of a stack (R258). -/

namespace Sys2Proof.Machine

/-! ## Bytes of a stack and their check bits (R259) -/

theorem mapGet_mapSetList {α : Type} [DecidableEq α] {d : α} (m : Map α) (n : Nat) (vs : List α) (k : Nat) :
    mapGet d (mapSetList d m n vs) k = if n ≤ k ∧ k < n + vs.length then nth d vs (k - n) else mapGet d m k := by
  induction vs generalizing m n with
  | nil =>
    have hempty : ¬ (n ≤ k ∧ k < n + ([] : List α).length) := by simp only [List.length_nil]; omega
    rw [if_neg hempty, mapSetList]
  | cons v vs ih =>
    rw [mapSetList, ih, List.length_cons]
    rcases Nat.lt_trichotomy k n with hlt | rfl | hgt
    · rw [if_neg (by omega), if_neg (by omega), mapGet_mapSet_ne (by omega)]
    · rw [if_neg (by omega), if_pos (by omega), mapGet_mapSet_same, Nat.sub_self]
      rfl
    · rw [mapGet_mapSet_ne (by omega)]
      by_cases hin : k < n + (vs.length + 1)
      · obtain ⟨j, rfl⟩ := Nat.exists_eq_add_of_lt hgt
        rw [if_pos (by omega), if_pos (by omega), show n + j + 1 - (n + 1) = j by omega, show n + j + 1 - n = j + 1 by omega]
        rfl
      · rw [if_neg (by omega), if_neg (by omega)]

/-- The bytes of a stack from an address, with no check bits yet. -/
def bytesPut (stack addr : Nat) (bs : List Byte) (s : State) : State :=
  { s with mem := { s.mem with bytes := mapSetList 0#8 s.mem.bytes (memKey stack addr) bs } }

theorem memWrite_eq (stack addr : Nat) (bs : List Byte) (s : State) :
    memWrite stack addr bs s = each (unitsOver addr bs.length) (sealUnit stack) (bytesPut stack addr bs s) := rfl

/-- Sealing units sets check bits and nothing else; what is sealed is sound. -/
theorem sealUnits_spec (stack : Nat) (us : List Nat) (s : State) :
    (each us (sealUnit stack) s).mem.bytes = s.mem.bytes ∧ Only [.mem] s (each us (sealUnit stack) s) ∧
      ∀ u, (u ∈ us ∨ mapGet 0 s.mem.checks (2 ^ 30 * stack + u) = unitCrc u (memRead s stack (64 * u) 64) + 1) →
        mapGet 0 (each us (sealUnit stack) s).mem.checks (2 ^ 30 * stack + u) =
          unitCrc u (memRead s stack (64 * u) 64) + 1 := by
  induction us generalizing s with
  | nil => exact ⟨rfl, Only.refl _ _, fun u hu => hu.elim (fun h => nomatch h) id⟩
  | cons v us ih =>
    obtain ⟨hbytes, honly, hsound⟩ := ih (sealUnit stack v s)
    refine ⟨hbytes, ((only_of_patch rfl : Only [.mem] s (sealUnit stack v s)).trans honly).mono (by decide), fun u hu => ?_⟩
    refine hsound u ?_
    by_cases heq : u = v
    · subst heq
      have hset : mapGet 0 (mapSet 0 s.mem.checks (2 ^ 30 * stack + u) (unitCrc u (memRead s stack (64 * u) 64) + 1))
        (2 ^ 30 * stack + u) = unitCrc u (memRead s stack (64 * u) 64) + 1 := mapGet_mapSet_same
      exact .inr hset
    · have hkey : 2 ^ 30 * stack + u ≠ 2 ^ 30 * stack + v := by omega
      have hset (n : Nat) : mapGet 0 (mapSet 0 s.mem.checks (2 ^ 30 * stack + v) n) (2 ^ 30 * stack + u) =
        mapGet 0 s.mem.checks (2 ^ 30 * stack + u) := mapGet_mapSet_ne hkey
      exact hu.imp (fun h => (List.mem_cons.mp h).resolve_left heq) fun h => (hset (unitCrc v (memRead s stack (64 * v) 64) + 1)).trans h

theorem memByte_memWrite {stack addr : Nat} {bs : List Byte} {s : State} (hend : addr + bs.length ≤ 2 ^ 36) {m a : Nat}
    (ha : a < 2 ^ 36) : memByte (memWrite stack addr bs s) m a =
      if m = stack ∧ addr ≤ a ∧ a < addr + bs.length then nth 0#8 bs (a - addr) else memByte s m a := by
  obtain ⟨hbytes, -, -⟩ := sealUnits_spec stack (unitsOver addr bs.length) (bytesPut stack addr bs s)
  have hget : memByte (memWrite stack addr bs s) m a =
      mapGet 0#8 (mapSetList 0#8 s.mem.bytes (memKey stack addr) bs) (memKey m a) :=
    congrArg (fun b => mapGet 0#8 b (memKey m a)) hbytes
  rw [hget, mapGet_mapSetList]
  by_cases hin : m = stack ∧ addr ≤ a ∧ a < addr + bs.length
  · obtain ⟨rfl, hle, hlt⟩ := hin
    have hkey : memKey m addr ≤ memKey m a ∧ memKey m a < memKey m addr + bs.length := by unfold memKey; omega
    have hplace : memKey m a - memKey m addr = a - addr := by unfold memKey; omega
    rw [if_pos hkey, if_pos ⟨rfl, hle, hlt⟩, hplace]
  · have hkey : ¬ (memKey stack addr ≤ memKey m a ∧ memKey m a < memKey stack addr + bs.length) := by unfold memKey; omega
    rw [if_neg hkey, if_neg hin]
    rfl

theorem memWrite_only (stack addr : Nat) (bs : List Byte) (s : State) : Only [.mem] s (memWrite stack addr bs s) :=
  (memWrite_grows stack addr bs s).onlyIn _ rfl

theorem unitSound_memWrite {stack addr : Nat} {bs : List Byte} {s : State} {u : Nat} (hu : u ∈ unitsOver addr bs.length) :
    unitSound (memWrite stack addr bs s) stack u = true := by
  obtain ⟨hbytes, -, hsound⟩ := sealUnits_spec stack (unitsOver addr bs.length) (bytesPut stack addr bs s)
  have hread : memRead (memWrite stack addr bs s) stack (64 * u) 64 = memRead (bytesPut stack addr bs s) stack (64 * u) 64 :=
    congrArg (fun b => mapGetList 0#8 b (memKey stack (64 * u)) 64) hbytes
  have hheld : mapGet 0 (memWrite stack addr bs s).mem.checks (2 ^ 30 * stack + u) =
      unitCrc u (memRead (bytesPut stack addr bs s) stack (64 * u) 64) + 1 := hsound u (.inl hu)
  simp only [unitSound, hread, hheld, decide_true, Bool.or_true]

/-! ## A packet at a controller (R251, R260) -/

theorem countBus_eq (f : MemFacts) (s : State) : countBus f s = { s with counters := (countBus f s).counters } := by
  unfold countBus
  dsimp only
  split <;> split <;> rfl

theorem countBus_of_none {f : MemFacts} (s : State) (hretries : f.ifRetries = 0) (hodecc : f.odecc = 0) : countBus f s = s := by
  simp only [countBus, hretries, hodecc, if_true]

theorem counter_countBus {k : Nat} (f : MemFacts) (s : State) (hretry : k ≠ cIfRetry) (hodecc : k ≠ cOdecc) :
    counter (countBus f s) k = counter s k := by
  simp only [countBus]
  split <;> split <;> simp only [counter_count_ne _ _ hretry, counter_count_ne _ _ hodecc]

theorem countBus_only (f : MemFacts) (s : State) : Only [.counters] s (countBus f s) := by
  rw [countBus_eq]
  exact only_of_patch rfl

theorem regionOf_countBus (f : MemFacts) (s : State) (addr : Nat) : regionOf (countBus f s) addr = regionOf s addr := by
  rw [countBus_eq]
  rfl

theorem failedReads_countBus (f : MemFacts) (s : State) (stack unit : Nat) (bs : List Burst) :
    failedReads (countBus f s) stack unit bs = failedReads s stack unit bs := by
  rw [countBus_eq]
  rfl

theorem memRead_countBus (f : MemFacts) (s : State) (stack addr len : Nat) :
    memRead (countBus f s) stack addr len = memRead s stack addr len := by
  rw [countBus_eq]
  rfl

section
variable {stack : StackId} {addr : BitVec 32} {f : MemFacts} {s : State} (hready : Ready s) (hgone : stackGone s stack.val = false)
include hready hgone

theorem memoryRequest_read {len : Nat} (hrange : memInRange (memAddr addr) len = true) :
    exec (.memoryRequest stack (.read addr len f)) s = .next (serveRead stack.val (memAddr addr) len f (countBus f s)) := by
  refine (next_of_ready hready rfl).trans (congrArg _ ?_)
  simp only [memoryOp, hgone, hrange, Bool.false_eq_true, if_false, if_true]

theorem memoryRequest_write {data : List Byte} {acc : Bool} (hrange : memInRange (memAddr addr) data.length = true) :
    exec (.memoryRequest stack (.write addr data acc f)) s =
      .next (serveWrite stack.val (memAddr addr) data acc f (countBus f s)) := by
  refine (next_of_ready hready rfl).trans (congrArg _ ?_)
  simp only [memoryOp, hgone, hrange, Bool.false_eq_true, if_false, if_true]

theorem memoryRequest_beyond {len : Nat} (hspan : 4096 < memAddr addr % 4096 + len) :
    exec (.memoryRequest stack (.read addr len f)) s = .next (count cPktDiscard 1 s) := by
  have hrange : memInRange (memAddr addr) len = false := by
    rw [memInRange, decide_eq_false (Nat.not_le.mpr hspan), Bool.false_and]
  refine (next_of_ready hready rfl).trans (congrArg _ ?_)
  simp only [memoryOp, hgone, hrange, Bool.false_eq_true, if_false]

end

/-! ## Reads -/

theorem inCache_of_region {s : State} {stack addr : Nat} (h : regionOf s addr < 5) : inCache s stack addr = false := by
  have hne : ¬ regionOf s addr = 7 := by omega
  simp only [inCache, hne, decide_false, Bool.false_and]

theorem readAt_of_region {s : State} {stack addr : Nat} (h : regionOf s addr < 5) (len : Nat) :
    readAt s stack addr len = memRead s stack addr len := by
  rw [readAt, if_pos (.inl h)]

theorem checkedRead_of_sound {stack addr : Nat} {is : List Nat} {f : MemFacts} {s : State}
    (h : ∀ i ∈ is, failedReads s stack (addr / 64 + i) (burstsOf f i) = 0) : checkedRead stack addr is f s = ([], s) := by
  induction is with
  | nil => rfl
  | cons i is ih =>
    have hfirst : checkUnit stack addr f i ([], s) = ([], s) := by
      simp only [checkUnit, h i List.mem_cons_self, if_true]
    have hstep : checkedRead stack addr (i :: is) f s = is.foldl (fun r i => checkUnit stack addr f i r)
      (checkUnit stack addr f i ([], s)) := rfl
    rw [hstep, hfirst]
    exact ih fun j hj => h j (List.mem_cons_of_mem _ hj)

theorem serveRead_of_checked {stack addr len : Nat} {f : MemFacts} {s t : State} (hregion : regionOf s addr < 5)
    (hchecked : checkedRead stack addr (List.range (ceilDiv (addr % 64 + len) 64)) f s = ([], t)) :
    serveRead stack addr len f s = deliver stack addr len t := by
  simp only [serveRead, inCache_of_region hregion, hchecked, List.isEmpty_nil, Bool.false_eq_true, if_false, if_true]

/-- Bytes within one unit have that unit read. -/
theorem unitsOf_one {a len : Nat} (hpos : 0 < len) (hfits : a % 64 + len ≤ 64) :
    List.range (ceilDiv (a % 64 + len) 64) = [0] := by
  have hone : ceilDiv (a % 64 + len) 64 = 1 := by
    rw [ceilDiv, if_neg (by decide)]
    omega
  rw [hone]
  rfl

theorem checkedRead_retried {stack addr : Nat} {f : MemFacts} {s : State}
    (hsome : 0 < failedReads s stack (addr / 64) (burstsOf f 0)) (hfew : failedReads s stack (addr / 64) (burstsOf f 0) < 3) :
    checkedRead stack addr [0] f s = ([], count cCrcRetried 1 s) := by
  have hne : ¬ failedReads s stack (addr / 64 + 0) (burstsOf f 0) = 0 := Nat.ne_of_gt hsome
  have hlt : failedReads s stack (addr / 64 + 0) (burstsOf f 0) < 3 := hfew
  simp only [checkedRead, List.foldl_cons, List.foldl_nil, checkUnit, hne, hlt, if_false, if_true]

/-- A unit that fails three reads: counted, and in the defect list (R260). -/
def unitLost (stack unit : Nat) (s : State) : State :=
  count cCrcPersist 1 { s with
    mem := { s.mem with defects := s.mem.defects ++ [(stack, unit)] }
    flash := { s.flash with memDefects := s.flash.memDefects ++ [(stack, unit)] } }

theorem checkedRead_persistent {stack addr : Nat} {f : MemFacts} {s : State}
    (h : 3 ≤ failedReads s stack (addr / 64) (burstsOf f 0)) :
    checkedRead stack addr [0] f s = ([0], unitLost stack (addr / 64) s) := by
  have hpos : 0 < failedReads s stack (addr / 64) (burstsOf f 0) := by omega
  have hne : ¬ failedReads s stack (addr / 64 + 0) (burstsOf f 0) = 0 := Nat.ne_of_gt hpos
  have hlt : ¬ failedReads s stack (addr / 64 + 0) (burstsOf f 0) < 3 := Nat.not_lt.mpr h
  simp only [checkedRead, List.foldl_cons, List.foldl_nil, checkUnit, hne, hlt, if_false]
  rfl

/-- Regions begin at whole MiB (R257). -/
theorem dvd_regionBase (s : State) (i : Nat) : 2 ^ 20 ∣ regionBase s i := by
  have hshares : regionShares s = [toMib (ceilDiv (s.mem.systemGib * 2 ^ 30) 16),
      toMib (ceilDiv (landingBytes s) s.mem.stripe.length), toMib (ceilDiv (s.stream.windowGib * 2 ^ 30) s.mem.stripe.length),
      toMib (ceilDiv (s.mem.stashGib * 2 ^ 30) s.mem.stripe.length), toMib (ceilDiv (s.mem.kvGib * 2 ^ 30) s.mem.stripe.length),
      toMib (maxOwner s), toMib (maxOwner s), toMib (maxReduce s), toMib (maxShadow s)].map (2 ^ 20 * ·) := rfl
  refine List.dvd_sum fun x hx => ?_
  have hmem := List.mem_of_mem_take hx
  rw [hshares] at hmem
  obtain ⟨y, -, rfl⟩ := List.mem_map.mp hmem
  exact Nat.dvd_mul_right _ _

/-- A unit lies in the region of its bytes. -/
theorem regionOf_unit (s : State) (a : Nat) : regionOf s (64 * (a / 64)) = regionOf s a := by
  have hmib : 64 * (a / 64) / 2 ^ 20 = a / 2 ^ 20 := by omega
  unfold regionOf uncarvedAddr
  rw [hmib]
  refine congrArg List.length (List.filter_congr fun i _ => decide_eq_decide.mpr ?_)
  obtain ⟨c, hc⟩ := dvd_regionBase s (i + 1)
  rw [hc]
  omega

theorem serveRead_persistent {stack addr len : Nat} {f : MemFacts} {s : State} (hregion : regionOf s addr = 2)
    (hpos : 0 < len) (hfits : addr % 64 + len ≤ 64) (h : 3 ≤ failedReads s stack (addr / 64) (burstsOf f 0)) :
    serveRead stack addr len f s =
      rollFault (memRecord stack (64 * (addr / 64 + 0)) 3) 4 (unitLost stack (addr / 64) s) := by
  have hcache : inCache s stack addr = false := inCache_of_region (by omega)
  have hlost : regionOf (unitLost stack (addr / 64) s) (unitAddr addr [0]) = 2 := (regionOf_unit s addr).trans hregion
  simp only [serveRead, hcache, unitsOf_one hpos hfits, checkedRead_persistent h, List.isEmpty_cons, hregion, Bool.false_eq_true,
    if_false, Nat.reduceEqDiff, decide_false, Bool.false_and, persistentAt, hlost, Nat.reduceLeDiff, if_true]
  rfl

/-- A read that its controller delivers. -/
theorem deliver_spec {stack addr len : Nat} {s : State} (hregion : regionOf s addr < 5) :
    (deliver stack addr len s).sent = s.sent ++ [.memory stack addr (memRead s stack addr len)] ∧
      (∀ k, k ≠ cMemRead → counter (deliver stack addr len s) k = counter s k) ∧
      counter (deliver stack addr len s) cMemRead = counter s cMemRead + len ∧
      Only [.sent, .counters] s (deliver stack addr len s) := by
  refine ⟨congrArg (fun bs => s.sent ++ [Msg.memory stack addr bs]) (readAt_of_region hregion len),
    fun k hk => counter_count_ne _ _ hk, counter_count_same _ _ _, only_of_patch rfl⟩

/-! ## Writes (R255, R264) -/

theorem partUnits_of_whole {addr len : Nat} (haddr : addr % 64 = 0) (hlen : len % 64 = 0) : partUnits addr len = [] := by
  have hend : ¬ (addr + len) % 64 ≠ 0 := by omega
  simp only [partUnits, haddr, hend, ne_eq, not_true_eq_false, false_and, if_false, List.append_nil]

theorem serveWrite_whole {stack addr : Nat} {data : List Byte} {acc : Bool} {f : MemFacts} {s : State}
    (hregion : regionOf s addr < 5) (haddr : addr % 64 = 0) (hlen : data.length % 64 = 0) :
    serveWrite stack addr data acc f s = putWrite stack addr data s := by
  have hne : ¬ regionOf s addr = 7 := by omega
  have hchecked : checkedRead stack addr [] f s = ([], s) := rfl
  simp only [serveWrite, hne, if_false, partUnits_of_whole haddr hlen, hchecked, List.isEmpty_nil, if_true]

theorem writeAt_of_region {stack addr : Nat} {bs : List Byte} {s : State} (hpos : 0 < regionOf s addr) (h : regionOf s addr < 5) :
    writeAt stack addr bs s = memWrite stack addr bs s := by
  have hne : ¬ regionOf s addr = 0 := by omega
  rw [writeAt, if_neg hne, if_pos (.inl h)]

theorem writeAt_system {stack addr : Nat} {bs : List Byte} {s : State} (h : regionOf s addr = 0) :
    writeAt stack addr bs s = memWrite ((stack + 16) % 32) addr bs (memWrite stack addr bs s) := by
  rw [writeAt, if_pos h]

theorem end_of_memInRange {addr len : Nat} (h : memInRange addr len = true) : addr + len ≤ 2 ^ 36 := by
  have hend : addr + len ≤ stackBytes := of_decide_eq_true ((Bool.and_eq_true _ _).mp h).2
  unfold stackBytes at hend
  omega

theorem memByte_countBus (f : MemFacts) (s : State) (m a : Nat) : memByte (countBus f s) m a = memByte s m a := by
  rw [countBus_eq]
  rfl

theorem unitsOver_of_whole {addr len : Nat} (haddr : addr % 64 = 0) (hlen : len % 64 = 0) :
    unitsOver addr len = rangeFrom (addr / 64) ((addr + len) / 64) := by
  have hend : ceilDiv (addr + len) 64 = (addr + len) / 64 := by
    rw [ceilDiv, if_neg (by decide)]
    omega
  rw [unitsOver, hend]

/-- Settles O22. -/
theorem controllersServeTheirStack : Obligations.ControllersServeTheirStack := by
  unfold Obligations.ControllersServeTheirStack
  refine ⟨fun stack addr len f s hready hgone hrange hregion hretries hodecc hsound => ?_,
    fun stack addr len f s hready hgone hrange hregion hpos hfits hsome hfew => ?_,
    fun stack addr data acc f s hready hgone hrange hpos hregion haddr hlen => ?_,
    fun stack addr data acc f s hready hgone hrange hregion haddr hlen => ?_,
    fun stack addr len f s hready hgone hspan => ?_, fun stack addr data f s hready hgone hrange hregion => ?_,
    fun stack addr len f s hready hgone hrange hregion hpos hfits hfails hlead hstarted => ?_⟩
  · obtain ⟨hsent, -, hcount, honly⟩ := deliver_spec (stack := stack.val) (len := len) hregion
    refine ⟨_, (memoryRequest_read hready hgone hrange).trans (congrArg _ ?_), hsent, hcount, honly⟩
    rw [countBus_of_none s hretries hodecc]
    exact serveRead_of_checked hregion (checkedRead_of_sound hsound)
  · have hregion' : regionOf (count cCrcRetried 1 (countBus f s)) (memAddr addr) < 5 := by
      rw [← regionOf_countBus f] at hregion
      exact hregion
    rw [← failedReads_countBus f] at hsome hfew
    obtain ⟨hsent, hother, -, honly⟩ := deliver_spec (stack := stack.val) (len := len) hregion'
    have hbefore : Only [.counters] (countBus f s) (count cCrcRetried 1 (countBus f s)) := only_of_patch rfl
    refine ⟨_, (memoryRequest_read hready hgone hrange).trans (congrArg _ (serveRead_of_checked hregion' ?_)), ?_, ?_,
      (((countBus_only f s).trans hbefore).trans honly).mono (by decide)⟩
    · rw [unitsOf_one hpos hfits]
      exact checkedRead_retried hsome hfew
    · rw [hsent]
      exact congrArg₂ (fun ms bs => ms ++ [Msg.memory stack.val (memAddr addr) bs])
        ((countBus_only f s) .sent (by decide)) (memRead_countBus f s _ _ _)
    · rw [hother _ (by decide), counter_count_same, counter_countBus f s (by decide) (by decide)]
  · have hput : putWrite stack.val (memAddr addr) data (countBus f s) =
        count cMemWritten data.length (memWrite stack.val (memAddr addr) data (countBus f s)) := by
      rw [putWrite, writeAt_of_region] <;> rwa [regionOf_countBus]
    have hserve := serveWrite_whole (stack := stack.val) (acc := acc) (f := f) (s := countBus f s) (data := data)
      (by rwa [regionOf_countBus]) haddr hlen
    have hmem := memWrite_only stack.val (memAddr addr) data (countBus f s)
    have hcount : Only [.counters] (memWrite stack.val (memAddr addr) data (countBus f s)) _ :=
      only_of_patch (t := count cMemWritten data.length (memWrite stack.val (memAddr addr) data (countBus f s))) rfl
    refine ⟨_, (memoryRequest_write hready hgone hrange).trans (congrArg _ (hserve.trans hput)), fun m a ha => ?_,
      fun u hu => ?_, ?_, (((countBus_only f s).trans hmem).trans hcount).mono (by decide)⟩
    · refine (memByte_memWrite (s := countBus f s) (end_of_memInRange hrange) ha).trans ?_
      rw [memByte_countBus]
    · rw [← unitsOver_of_whole haddr hlen] at hu
      exact unitSound_memWrite hu
    · refine (counter_count_same _ _ _).trans (congrArg (· + data.length) ?_)
      exact (counter_congr (hmem .counters (by decide)) _).trans (counter_countBus f s (by decide) (by decide))
  · have hput : putWrite stack.val (memAddr addr) data (countBus f s) = count cMemWritten data.length
        (memWrite ((stack.val + 16) % 32) (memAddr addr) data (memWrite stack.val (memAddr addr) data (countBus f s))) := by
      rw [putWrite, writeAt_system]
      rwa [regionOf_countBus]
    have hserve := serveWrite_whole (stack := stack.val) (acc := acc) (f := f) (s := countBus f s) (data := data)
      (by rw [regionOf_countBus]; omega) haddr hlen
    have hfirst := memWrite_only stack.val (memAddr addr) data (countBus f s)
    have hsecond := memWrite_only ((stack.val + 16) % 32) (memAddr addr) data
      (memWrite stack.val (memAddr addr) data (countBus f s))
    have hcount : Only [.counters] _ _ := only_of_patch (t := count cMemWritten data.length
      (memWrite ((stack.val + 16) % 32) (memAddr addr) data (memWrite stack.val (memAddr addr) data (countBus f s)))) rfl
    refine ⟨_, (memoryRequest_write hready hgone hrange).trans (congrArg _ (hserve.trans hput)), fun m a ha => ?_,
      ((((countBus_only f s).trans hfirst).trans hsecond).trans hcount).mono (by decide)⟩
    refine (memByte_memWrite (end_of_memInRange hrange) ha).trans ?_
    rw [memByte_memWrite (end_of_memInRange hrange) ha, memByte_countBus]
    grind
  · exact ⟨_, memoryRequest_beyond hready hgone hspan, counter_count_same _ _ _, only_of_patch rfl⟩
  · have hserve : serveWrite stack.val (memAddr addr) data false f (countBus f s) = count cPktDiscard 1 (countBus f s) := by
      simp only [serveWrite, regionOf_countBus, hregion, if_true, Bool.false_eq_true, if_false]
    have hcount : Only [.counters] (countBus f s) (count cPktDiscard 1 (countBus f s)) := only_of_patch rfl
    refine ⟨_, (memoryRequest_write hready hgone hrange).trans (congrArg _ hserve), ?_,
      ((countBus_only f s).trans hcount).mono (by decide)⟩
    rw [counter_count_same, counter_countBus f s (by decide) (by decide)]
  · rw [← failedReads_countBus f] at hfails
    rw [← regionOf_countBus f] at hregion
    have hserve := serveRead_persistent (len := len) hregion hpos hfits hfails
    have hbus := countBus_only f s
    have hjob : (unitLost stack.val (memAddr addr / 64) (countBus f s)).job = s.job := hbus .job (by decide)
    rw [rollFault_of_jobLead _ (by rw [hjob]; exact hstarted) ((isJobLead_congr hjob).trans hlead)] at hserve
    have hcounters : ∀ k, counter (faultEvent (memRecord stack.val (64 * (memAddr addr / 64 + 0)) 3)
        (unitLost stack.val (memAddr addr / 64) (countBus f s))) k =
        counter (unitLost stack.val (memAddr addr / 64) (countBus f s)) k := counter_congr (faultEvent_counters _ _)
    have hrest := congrArg MemS.defects (faultEvent_memRest (memRecord stack.val (64 * (memAddr addr / 64 + 0)) 3)
      (unitLost stack.val (memAddr addr / 64) (countBus f s)))
    refine ⟨_, (memoryRequest_read hready hgone hrange).trans (congrArg _ hserve), ?_, ?_, ?_, ?_, ?_⟩
    · refine (hcounters _).trans ((counter_count_same _ _ _).trans (congrArg (· + 1) ?_))
      exact counter_countBus f s (by decide) (by decide)
    · refine hrest.trans (congrArg (· ++ [_]) ?_)
      exact congrArg MemS.defects (hbus .mem (by decide))
    · refine List.mem_append_right _ (List.mem_singleton.mpr ?_)
      rw [selfIndex_congr hjob]
      exact congrArg (Prod.mk _) (hbus .now (by decide)).symm
    · refine (faultEvent_eventNumber _ _).trans (congrArg (· + 1) ?_)
      exact congrArg HostS.eventNumber (hbus .host (by decide))
    · refine (hcounters _).trans ((counter_count_ne _ _ (by decide)).trans ?_)
      exact counter_countBus f s (by decide) (by decide)

/-! ## Refresh, and the loss of a stack (R250, R258) -/

/-- A stack that is to leave the stripe set at the resume. -/
def stackLeaving (m : Nat) (s : State) : State := { s with mem := { s.mem with lostNext := s.mem.lostNext ++ [m] } }

theorem loseStack_of_present {m : Nat} {s : State} (h : stackGone s m = false) : loseStack m s = stackLeaving m s :=
  if_neg (by rw [stackGone] at h; simp only [h, Bool.false_eq_true, not_false_eq_true])

theorem stackUnreachable_of_present {stack : StackId} {s : State} (hready : Ready s) (h : stackGone s stack.val = false) :
    exec (.stackUnreachable stack) s =
      .next (rollFault { cls := 4, code := 4, detail := stack.val } 4 (stackLeaving stack.val s)) := by
  refine (next_of_ready hready rfl).trans (congrArg _ ?_)
  simp only [h, Bool.false_eq_true, if_false, loseStack_of_present h]

theorem stackGone_faultEvent_stackLeaving (r : FaultRec) (m : Nat) (s : State) :
    stackGone (faultEvent r (stackLeaving m s)) m = true := by
  have hnext : (faultEvent r (stackLeaving m s)).mem.lostNext = s.mem.lostNext ++ [m] :=
    congrArg MemS.lostNext (faultEvent_memRest r (stackLeaving m s))
  rw [stackGone, hnext]
  simp

/-- Settles O23. -/
theorem stacksRefreshAndLeave : Obligations.StacksRefreshAndLeave := by
  unfold Obligations.StacksRefreshAndLeave
  refine ⟨fun stack hot s hready hgone => ?_, fun stack s hready hgone hlead hstarted => ?_,
    fun stack s hready hgone hlead hstarted => ?_⟩
  · refine ⟨_, (next_of_ready hready rfl).trans (congrArg _ (if_neg (by rw [hgone]; decide))), ?_, ?_, rfl,
      only_of_patch rfl⟩
    · exact mapGet_mapUpd_same s.mem.refreshes stack.val fun n => n + if hot = true then 2 else 1
    · cases hot <;> simp
  · have hroll := rollFault_of_jobLead { cls := 4, code := 4, detail := stack.val } (cause := 4)
      (s := stackLeaving stack.val s) hstarted hlead
    have hstripe := congrArg MemS.stripe (faultEvent_memRest { cls := 4, code := 4, detail := stack.val }
      (stackLeaving stack.val s))
    refine ⟨_, (stackUnreachable_of_present hready hgone).trans (congrArg _ hroll),
      stackGone_faultEvent_stackLeaving _ _ _, hstripe,
      List.mem_append_right _ List.mem_cons_self, ?_⟩
    have hhead := (headRecord_recordFault { cls := 4, code := 4, detail := stack.val } (stackLeaving stack.val s)).1
    rw [← faultEvent_fault] at hhead
    exact hhead
  · have hjob := faultEvent_job { cls := 4, code := 4, detail := stack.val } (stackLeaving stack.val s)
    have hstarted' : (faultEvent { cls := 4, code := 4, detail := stack.val } (stackLeaving stack.val s)).job.started = true := by
      rw [hjob]; exact hstarted
    have hlead' : isJobLead (faultEvent { cls := 4, code := 4, detail := stack.val } (stackLeaving stack.val s)) = false :=
      (isJobLead_congr hjob).trans hlead
    have hself := selfIndex_congr hjob
    refine ⟨_, stackUnreachable_of_present hready hgone, ?_, ?_⟩
    · simp only [rollFault, requestRollback, hstarted', hlead', Bool.not_true, Bool.false_eq_true, if_false]
      exact stackGone_faultEvent_stackLeaving _ _ _
    · simp only [rollFault, requestRollback, hstarted', hlead', Bool.not_true, Bool.false_eq_true, if_false]
      exact List.mem_append_right _ (List.mem_singleton.mpr (congrArg (Msg.rollbackRequest 4) hself.symm))

end Sys2Proof.Machine

/-! SUPPORT. Contribution pieces at an owner's blocks (R313 to R319). -/

namespace Sys2Proof.Machine

/-! ## A block's entry comes into the cache (R262) -/

/-- A check that finds nothing for good leaves the state but for its counters, whatever the counters are. -/
theorem checkUnit_clean {stack addr i : Nat} {f : MemFacts} {r : List Nat × State} (h : (checkUnit stack addr f i r).1 = [])
    (c : Map Nat) : r.1 = [] ∧ (∃ c', checkUnit stack addr f i r = ([], { r.2 with counters := c' })) ∧
      ∃ c', checkUnit stack addr f i ([], { r.2 with counters := c }) = ([], { r.2 with counters := c' }) ∧
        ∀ k, k ≠ cCrcRetried → mapGet 0 c' k = mapGet 0 c k := by
  have hreads : failedReads { r.2 with counters := c } stack (addr / 64 + i) (burstsOf f i) =
      failedReads r.2 stack (addr / 64 + i) (burstsOf f i) := rfl
  obtain ⟨bad, s⟩ := r
  simp only [checkUnit, hreads] at h ⊢
  split at h
  next hnone => exact ⟨h, ⟨s.counters, by rw [if_pos hnone]; exact congrArg (·, s) h⟩, c, if_pos hnone, fun _ _ => rfl⟩
  next hsome =>
    simp only [hsome, if_false] at h ⊢
    split at h
    next hfew =>
      simp only [hfew, if_true]
      exact ⟨h, ⟨_, congrArg (·, count cCrcRetried 1 s) h⟩, _, rfl, fun k hk => mapGet_mapUpd_ne _ _ hk⟩
    next => simp at h

theorem foldl_checkUnit_clean {stack addr : Nat} {f : MemFacts} {is : List Nat} {r : List Nat × State}
    (h : (is.foldl (fun r i => checkUnit stack addr f i r) r).1 = []) (c : Map Nat) : r.1 = [] ∧
      ∃ c', is.foldl (fun r i => checkUnit stack addr f i r) ([], { r.2 with counters := c }) = ([], { r.2 with counters := c' }) ∧
        ∀ k, k ≠ cCrcRetried → mapGet 0 c' k = mapGet 0 c k := by
  induction is generalizing r c with
  | nil => exact ⟨h, c, rfl, fun _ _ => rfl⟩
  | cons i is ih =>
    obtain ⟨hfirst, -⟩ := ih (r := checkUnit stack addr f i r) h c
    obtain ⟨hnone, ⟨c₀, hthis⟩, c₁, hclean, hsame⟩ := checkUnit_clean hfirst c
    obtain ⟨-, c₂, hrest, hsame'⟩ := ih (r := checkUnit stack addr f i r) h c₁
    rw [hthis] at hrest
    refine ⟨hnone, c₂, ?_, fun k hk => (hsame' k hk).trans (hsame k hk)⟩
    rw [List.foldl_cons, hclean]
    exact hrest

/-- A state with another cache of accumulators and other counters. -/
def fetched (cache : Map (List Nat)) (c : Map Nat) (s : State) : State :=
  { s with mem := { s.mem with cache := cache }, counters := c }

theorem touchCache_fetched (stack b : Nat) (c : Map Nat) (s : State) : ∃ cache c',
    touchCache stack b { s with counters := c } = fetched cache c' s ∧ ∀ k, k ≠ cAccMisses → mapGet 0 c' k = mapGet 0 c k := by
  unfold touchCache
  dsimp only
  split
  · exact ⟨_, c, rfl, fun _ _ => rfl⟩
  · split
    · exact ⟨_, _, rfl, fun k hk => counter_count_ne 1 { s with counters := c } hk⟩
    · exact ⟨_, _, rfl, fun k hk => counter_count_ne 2 { s with counters := c } hk⟩

/-- An entry that can be read comes into the cache, whatever the counters are. -/
theorem fetchBlock_clean {stack b : Nat} {f : MemFacts} {s : State} (h : (fetchBlock stack b f s).1 = false) (c : Map Nat) :
    ∃ cache c', fetchBlock stack b f { s with counters := c } = (false, fetched cache c' s) ∧
      ∀ k, k ≠ cCrcRetried → k ≠ cAccMisses → mapGet 0 c' k = mapGet 0 c k := by
  have hblock : blockS { s with counters := c } b = blockS s b := rfl
  have haddr : reduceAddr { s with counters := c } b = reduceAddr s b := rfl
  simp only [fetchBlock, hblock, haddr] at h ⊢
  split at h
  next hin =>
    rw [if_pos hin]
    obtain ⟨cache, c', heq, hsame⟩ := touchCache_fetched stack b c s
    exact ⟨cache, c', congrArg (Prod.mk false) heq, fun k _ hk => hsame k hk⟩
  next hout =>
    rw [if_neg hout]
    split at h
    next hempty =>
      obtain ⟨-, c₁, hread, hsame⟩ := foldl_checkUnit_clean (List.isEmpty_iff.mp hempty) c
      obtain ⟨cache, c', heq, hsame'⟩ := touchCache_fetched stack b c₁ s
      have hchecked : checkedRead stack (reduceAddr s b) (List.range 385) f { s with counters := c } =
        ([], { s with counters := c₁ }) := hread
      rw [hchecked]
      exact ⟨cache, c', congrArg (Prod.mk false) heq, fun k hk hk' => (hsame' k hk').trans (hsame k hk)⟩
    next => exact absurd h (by simp)

/-! ## An accepted piece (R313) -/

/-- What a piece's arrival counts besides itself: reads again, misses of the cache, and what the stack reports. -/
def countsFetch (k : Nat) : Prop := k = cCrcRetried ∨ k = cAccMisses ∨ k = cIfRetry ∨ k = cOdecc

/-- A block with a piece added, and the piece counted. -/
def pieceAdded (h : ContribHdr) (p : PieceData) (s : State) : State :=
  count cPieces 1 (setBlock h.block (addPiece h p (blockS s h.block)) s)

@[simp] theorem blockS_pieceAdded (h : ContribHdr) (p : PieceData) (s : State) :
    blockS (pieceAdded h p s) h.block = addPiece h p (blockS s h.block) := blockS_setBlock_same _ _ _

theorem fetchBlock_countBus {stack b : Nat} {f : MemFacts} {s : State} (h : (fetchBlock stack b f s).1 = false) :
    ∃ cache c, fetchBlock stack b f (countBus f s) = (false, fetched cache c s) ∧
      ∀ k, ¬ countsFetch k → mapGet 0 c k = counter s k := by
  obtain ⟨cache, c, heq, hsame⟩ := fetchBlock_clean h (countBus f s).counters
  rw [countBus_eq]
  refine ⟨cache, c, heq, fun k hk => ?_⟩
  obtain ⟨hretried, hmisses, hretry, hodecc⟩ : k ≠ cCrcRetried ∧ k ≠ cAccMisses ∧ k ≠ cIfRetry ∧ k ≠ cOdecc := by
    simpa only [countsFetch, not_or] using hk
  exact (hsame k hretried hmisses).trans (counter_countBus f s hretry hodecc)

section
variable {stack : StackId} {p : PieceData} {f : MemFacts} {s : State} {h : ContribHdr} {l : LayerRec} {bn : Nat}
  (hh : h = decodeContrib p.header.toNat) (hready : Ready s) (hgone : stackGone s stack.val = false)
include hh hready hgone

theorem pieceArrival_stale (hother : h.step ≠ (blockS s h.block).step % 65536 ∨ h.roll ≠ (blockS s h.block).roll) :
    exec (.pieceArrival stack p f) s = .next (stale (countBus f s)) := by
  subst hh
  refine (next_of_ready hready rfl).trans (congrArg _ ?_)
  rw [hgone, if_neg Bool.false_ne_true, pieceArrives]
  have hblock : blockS (countBus f s) (decodeContrib p.header.toNat).block = blockS s (decodeContrib p.header.toNat).block := by
    rw [countBus_eq]; rfl
  have hother' : (decide ((decodeContrib p.header.toNat).step ≠
      (blockS s (decodeContrib p.header.toNat).block).step % 65536) ||
    decide ((decodeContrib p.header.toNat).roll ≠ (blockS s (decodeContrib p.header.toNat).block).roll)) = true := by
    simpa only [Bool.or_eq_true, decide_eq_true_eq] using hother
  simp only [hblock, hother', if_true]
  split <;> rfl

variable (hlayer : layerAt s h.block = some (l, bn)) (hstep : h.step = (blockS s h.block).step % 65536)
  (hroll : h.roll = (blockS s h.block).roll) (hfetch : (fetchBlock stack.val h.block f s).1 = false)
include hlayer hstep hroll hfetch

theorem pieceArrival_open (hopen : (blockS s h.block).state = .open_)
    (hmode : (isUntrained (blockS s h.block) || decide (h.mode ≤ 2) || decide (h.mode = 4)) = true) :
    ∃ cache c, (∀ k, ¬ countsFetch k → mapGet 0 c k = counter s k) ∧ exec (.pieceArrival stack p f) s = .next
      (if (addPiece h p (blockS s h.block)).target ≤ (addPiece h p (blockS s h.block)).count
        then checkBlock h.block l bn (pieceAdded h p (fetched cache c s))
        else if (addPiece h p (blockS s h.block)).home && (addPiece h p (blockS s h.block)).clip && decide (1 < s.job.groups) &&
          allIn s (addPiece h p (blockS s h.block)) then raiseAll h.block (pieceAdded h p (fetched cache c s))
        else pieceAdded h p (fetched cache c s)) := by
  obtain ⟨cache, c, hin, hcounts⟩ := fetchBlock_countBus hfetch
  refine ⟨cache, c, hcounts, (next_of_ready hready rfl).trans (congrArg _ ?_)⟩
  have hblock : blockS (countBus f s) h.block = blockS s h.block := by rw [countBus_eq]; rfl
  have hat : layerAt (countBus f s) h.block = some (l, bn) := by rw [countBus_eq]; exact hlayer
  have hadded : blockS (count cPieces 1 (setBlock h.block (addPiece h p (blockS s h.block)) (fetched cache c s))) h.block =
    addPiece h p (blockS s h.block) := blockS_pieceAdded h p (fetched cache c s)
  have hmode' : (decide ((blockS s h.block).state = .open_) &&
      (isUntrained (blockS s h.block) || decide (h.mode ≤ 2) || decide (h.mode = 4))) = true := by simp [hopen, hmode]
  have hsame : (decide (h.step ≠ (blockS s h.block).step % 65536) || decide (h.roll ≠ (blockS s h.block).roll)) = false := by
    simp [hstep, hroll]
  rw [hgone, if_neg Bool.false_ne_true, pieceArrives, ← hh]
  dsimp only
  rw [hat]
  simp only [hblock, hsame, if_false, hmode', if_true, hin, Bool.false_eq_true, hadded]
  rfl

end

/-! ## The record after an accepted piece -/

/-- What a piece leaves of a block's record. -/
theorem addPiece_keeps (h : ContribHdr) (p : PieceData) (o : BlockS) : ∃ senders acc carried maxb clip nonfinite groups,
    addPiece h p o = { o with
      idsum := o.idsum + pieceId h.group h.member h.piece, count := o.count + 1, senders := senders, acc := acc
      carried := carried, maxb := maxb, clip := clip, nonfinite := nonfinite, groups := groups } := by
  unfold addPiece
  dsimp only
  split
  · exact ⟨_, o.acc, o.carried, o.maxb, o.clip, o.nonfinite, o.groups, rfl⟩
  · exact ⟨_, _, _, _, _, _, _, rfl⟩

theorem addPiece_untrained {h : ContribHdr} (p : PieceData) {o : BlockS} (hun : isUntrained o = true) :
    (addPiece h p o).acc = o.acc ∧ (addPiece h p o).clip = o.clip := by
  unfold addPiece
  simp only [hun, if_true]
  exact ⟨trivial, trivial⟩

theorem isUntrained_addPiece (h : ContribHdr) (p : PieceData) (o : BlockS) : isUntrained (addPiece h p o) = isUntrained o := by
  obtain ⟨_, _, _, _, _, _, _, heq⟩ := addPiece_keeps h p o
  rw [heq]
  rfl

/-- Values none of which overflows its accumulator are all added. -/
theorem addValues_spec {shift i : Nat} {vs : List Int} {r : AddOut}
    (hfits : ∀ k, k < vs.length → (mapGet 0 r.acc (i + k) + nth 0 vs k * 2 ^ shift).natAbs < 2 ^ 47) :
    (addValues shift i vs r).back = r.back ∧ (addValues shift i vs r).clip = r.clip ∧
      ∀ j, mapGet 0 (addValues shift i vs r).acc j = mapGet 0 r.acc j +
        (if i ≤ j ∧ j < i + vs.length then nth 0 vs (j - i) * 2 ^ shift else 0) := by
  induction vs generalizing i r with
  | nil =>
    refine ⟨rfl, rfl, fun j => ?_⟩
    have hnone : ¬ (i ≤ j ∧ j < i + ([] : List Int).length) := by simp only [List.length_nil]; omega
    rw [if_neg hnone, Int.add_zero]
    rfl
  | cons v vs ih =>
    have hfirst : (mapGet 0 r.acc i + v * 2 ^ shift).natAbs < 2 ^ 47 := hfits 0 (by simp)
    have hrest := ih (i := i + 1) (r := { r with acc := mapSet 0 r.acc i (mapGet 0 r.acc i + v * 2 ^ shift) }) fun k hk => by
      have hne : i + 1 + k ≠ i := by omega
      rw [mapGet_mapSet_ne hne]
      have hnext := hfits (k + 1) (by simpa using hk)
      rwa [show i + (k + 1) = i + 1 + k by omega] at hnext
    rw [addValues]
    simp only [hfirst, if_true]
    obtain ⟨hback, hclip, hacc⟩ := hrest
    refine ⟨hback, hclip, fun j => (hacc j).trans ?_⟩
    rw [List.length_cons]
    rcases Nat.lt_trichotomy j i with hlt | rfl | hgt
    · rw [mapGet_mapSet_ne (by omega), if_neg (by omega), if_neg (by omega)]
    · rw [mapGet_mapSet_same, if_neg (by omega), if_pos (by omega), Nat.sub_self, Int.add_zero]
      rfl
    · rw [mapGet_mapSet_ne (by omega)]
      obtain ⟨d, rfl⟩ := Nat.exists_eq_add_of_lt hgt
      have hplace : i + d + 1 - (i + 1) = d ∧ i + d + 1 - i = d + 1 := by omega
      rw [hplace.1, hplace.2]
      have hin : (i + 1 ≤ i + d + 1 ∧ i + d + 1 < i + 1 + vs.length) ↔ (i ≤ i + d + 1 ∧ i + d + 1 < i + (vs.length + 1)) := by
        omega
      simp only [hin]
      rfl

theorem addPiece_trained {h : ContribHdr} {p : PieceData} {o : BlockS} (htrained : isUntrained o = false) (hmode : h.mode = 0)
    (hfits : ∀ k, k < p.values.length →
      (mapGet 0 o.acc (512 * h.piece + k) + nth 0 p.values k * 2 ^ h.shift).natAbs < 2 ^ 47) :
    (∀ i, mapGet 0 (addPiece h p o).acc i = mapGet 0 o.acc i +
      (if 512 * h.piece ≤ i ∧ i < 512 * h.piece + p.values.length then nth 0 p.values (i - 512 * h.piece) * 2 ^ h.shift else 0)) ∧
      (addPiece h p o).carried = (o.carried + h.res * 2 ^ h.shift) % 65535 ∧
      (addPiece h p o).maxb = max o.maxb h.maxb ∧ (addPiece h p o).clip = (o.clip || h.clip) := by
  have hvalues : pieceValues h o p.values = p.values := by
    have hne : ¬ h.mode = 2 := by omega
    rw [pieceValues, if_neg hne]
  obtain ⟨hback, hclip, hacc⟩ := addValues_spec (r := { acc := o.acc, back := 0, clip := false }) hfits
  unfold addPiece
  simp only [htrained, hvalues, Bool.false_eq_true, if_false, hback, hclip, Bool.or_false, Int.sub_zero]
  refine ⟨hacc, ?_, trivial, trivial⟩
  exact_mod_cast Int.toNat_natCast ((o.carried + h.res * 2 ^ h.shift) % 65535)

/-! ## The completion check (R315 to R318) -/

section
variable {b : Nat} {l : LayerRec} {bn : Nat} {s : State}

theorem checkBlock_of_ids (hids : (blockS s b).idsum ≠ (blockS s b).idexp) : checkBlock b l bn s = failBlock b s := by
  simp only [checkBlock, hids, ne_eq, not_false_eq_true, decide_true, Bool.true_or, if_true]

variable (hids : (blockS s b).idsum = (blockS s b).idexp) (hcarried : (blockS s b).carried = residue (accList (blockS s b)))
  (htrained : isUntrained (blockS s b) = false)
include hids hcarried htrained

theorem checkBlock_whole : checkBlock b l bn s =
    if (blockS s b).clip then (if (blockS s b).home then raiseAll b s else sendSum b l bn true s)
    else if !(blockS s b).home then sendSum b l bn true s else reachTotal b l bn s := by
  simp only [checkBlock, hids, hcarried, htrained, ne_eq, not_true_eq_false, decide_false, Bool.and_false, Bool.or_self,
    Bool.false_eq_true, if_false]

end

/-- A block that is asked for again of the members of its group only. -/
theorem reRequestBlock_members {b : Nat} {all : Bool} {s : State} (h : (all && (blockS s b).home) = false) :
    reRequestBlock b all s = emit (.reRequest s.job.group s.job.member b (blockS s b).bexp false)
      (setBlock b (zeroBlock (blockS s b)) s) := by
  simp only [reRequestBlock, h, Bool.false_and, Bool.false_eq_true, if_false]

/-- A block that fails its check the first time, at an owner that is not the job home. -/
theorem failBlock_first {b : Nat} {s : State} (hfails : (blockS s b).fails = 0) (hhome : (blockS s b).home = false) :
    failBlock b s = emit (.reRequest s.job.group s.job.member b (blockS s b).bexp false)
      (setBlock b (zeroBlock { blockS s b with fails := 1 })
        (count cResidueFail 1 (setBlock b { blockS s b with fails := 1 } s))) := by
  have hblock : blockS (count cResidueFail 1 (setBlock b { blockS s b with fails := 1 } s)) b =
      { blockS s b with fails := 1 } := blockS_setBlock_same _ _ _
  have hagain := reRequestBlock_members (b := b) (all := true)
    (s := count cResidueFail 1 (setBlock b { blockS s b with fails := 1 } s)) (by rw [hblock, hhome]; rfl)
  rw [hblock] at hagain
  simp only [failBlock, hfails, Nat.zero_add, Nat.reduceLeDiff, if_false]
  exact hagain

/-- The group sum of a block that is not of class S leaves in 8 pieces (R315). -/
theorem sendSum_pieces {b : Nat} {l : LayerRec} {bn : Nat} {first : Bool} {s : State} (hclip : (blockS s b).clip = false)
    (hcls : l.cls ≠ 1) : sendSum b l bn first s = emitAll ((List.range 8).map fun q =>
      accPiece (setBlock b { blockS s b with state := .sent } s) b q 1 0 (ownerModule s l.tensor (homeGroup s l.tensor bn)))
      (setBlock b { blockS s b with state := .sent } s) := by
  simp only [sendSum, hclip, hcls, Bool.false_eq_true, if_false]

/-- What is left of a block that fails its check the first time. -/
theorem failBlock_first_spec {b : Nat} {s : State} (hfails : (blockS s b).fails = 0) (hhome : (blockS s b).home = false) :
    blockS (failBlock b s) b = zeroBlock { blockS s b with fails := 1 } ∧
      counter (failBlock b s) cResidueFail = counter s cResidueFail + 1 ∧
      (failBlock b s).sent = s.sent ++ [.reRequest s.job.group s.job.member b (blockS s b).bexp false] := by
  rw [failBlock_first hfails hhome]
  refine ⟨blockS_setBlock_same _ _ _, ?_, by simp only [emit_sent, setBlock_sent, count_sent]⟩
  rw [counter_congr (emit_counters _ _), counter_congr (setBlock_counters _ _ _), counter_count_same,
    counter_congr (setBlock_counters _ _ _)]

theorem accPiece_emitAll (ms : List Msg) (s : State) (b q mode extra dest : Nat) :
    accPiece (emitAll ms s) b q mode extra dest = accPiece s b q mode extra dest := rfl

/-- What a group sum leaves and sends. -/
theorem sendSum_pieces_spec {b : Nat} {l : LayerRec} {bn : Nat} {first : Bool} {s : State} (hclip : (blockS s b).clip = false)
    (hcls : l.cls ≠ 1) : blockS (sendSum b l bn first s) b = { blockS s b with state := .sent } ∧
      (sendSum b l bn first s).sent.length = s.sent.length + 8 ∧ ∀ q, q < 8 →
        accPiece (sendSum b l bn first s) b q 1 0 (ownerModule s l.tensor (homeGroup s l.tensor bn)) ∈
          (sendSum b l bn first s).sent := by
  rw [sendSum_pieces hclip hcls]
  refine ⟨blockS_setBlock_same _ _ _, by simp [emitAll, setBlock], fun q hq => ?_⟩
  rw [accPiece_emitAll]
  exact List.mem_append_right _ (List.mem_map_of_mem (List.mem_range.mpr hq))

/-- A raise at the job home, within its range and not the third (R317). -/
theorem raiseAll_within {b : Nat} {s : State} {e : Int} (hbexp : (blockS s b).bexp < 97) (hraises : (blockS s b).raises < 2)
    (he : e = clampExp ((blockS s b).bexp + max 1 (((blockS s b).maxb : Int) - 31 + (s.red.headroom : Int)))) :
    raiseAll b s = emit (.reRequest s.job.group s.job.member b e false)
      (setBlock b (zeroBlock { blockS s b with raises := (blockS s b).raises + 1, bexp := e }) (count cClip 1
        (setBlock b { blockS s b with raises := (blockS s b).raises + 1, bexp := e } (emit (.raise b e false) s)))) := by
  have hne : ¬ (blockS s b).bexp = 97 := by omega
  have hthird : ¬ 3 ≤ (blockS s b).raises + 1 := by omega
  have hblock : blockS (emit (.raise b e false) s) b = blockS s b := rfl
  have hraised : blockS (count cClip 1 (setBlock b { blockS s b with raises := (blockS s b).raises + 1, bexp := e }
      (emit (.raise b e false) s))) b = { blockS s b with raises := (blockS s b).raises + 1, bexp := e } :=
    blockS_setBlock_same _ _ _
  have hagain := reRequestBlock_members (b := b) (all := false) (s := count cClip 1 (setBlock b
    { blockS s b with raises := (blockS s b).raises + 1, bexp := e } (emit (.raise b e false) s))) rfl
  rw [hraised] at hagain
  simp only [raiseAll, hne, if_false, ← he, raiseTo, hblock, hthird]
  exact hagain

/-- What a raise leaves and sends. -/
theorem raiseAll_within_spec {b : Nat} {s : State} {e : Int} (hbexp : (blockS s b).bexp < 97) (hraises : (blockS s b).raises < 2)
    (he : e = clampExp ((blockS s b).bexp + max 1 (((blockS s b).maxb : Int) - 31 + (s.red.headroom : Int)))) :
    blockS (raiseAll b s) b = zeroBlock { blockS s b with raises := (blockS s b).raises + 1, bexp := e } ∧
      counter (raiseAll b s) cClip = counter s cClip + 1 ∧ Msg.raise b e false ∈ (raiseAll b s).sent := by
  rw [raiseAll_within hbexp hraises he]
  refine ⟨blockS_setBlock_same _ _ _, ?_, ?_⟩
  · rw [counter_congr (emit_counters _ _), counter_congr (setBlock_counters _ _ _), counter_count_same,
      counter_congr (setBlock_counters _ _ _), counter_congr (emit_counters _ _)]
  · exact List.mem_append_left _ (List.mem_append_right _ List.mem_cons_self)

/-- A block of an element rule that is not carried, with nothing to wait for, goes to the pipe (R321). -/
theorem trigger_updates {b : Nat} {l : LayerRec} {bn : Nat} {s : State} (hlayer : layerAt s b = some (l, bn))
    (hcarried : carriedInStep l (blockS s b) = false) (hmatrix : isMatrixRule l = false)
    (hrepair : (blockS s b).repairWait = false) (hcommit : (blockS s b).step ≤ s.red.committed + 1) :
    trigger b s = leaveCache b (setBlock b { blockS s b with state := .updating } s) := by
  have hlate : ¬ s.red.committed + 1 < (blockS s b).step := by omega
  simp only [trigger, hlayer, hlate, hrepair, hcarried, hmatrix, decide_false, Bool.or_self, Bool.false_and, Bool.false_eq_true,
    if_false]

theorem ackMembers_eq (b : Nat) (s : State) : ackMembers b s = setBlock b { blockS s b with senders := [] }
    (emitAll ((blockS s b).senders.map fun x => Msg.pieceAck x b ((blockS s b).step % 65536)) s) := rfl

/-- A block that reaches TOTAL, its next exponent formed (R303, R318). -/
def blockTotal (b : Nat) (s : State) : State :=
  setBlock b { blockS s b with state := .total, nextBexp := nextExponent s (blockS s b) } s

@[simp] theorem blockS_blockTotal (b : Nat) (s : State) : blockS (blockTotal b s) b =
    { blockS s b with state := .total, nextBexp := nextExponent s (blockS s b) } := blockS_setBlock_same _ _ _

theorem carriedInStep_of_class_F {l : LayerRec} (h : l.cls = 0) (o : BlockS) : carriedInStep l o = isUntrained o := by
  simp [carriedInStep, sendStep, h]

/-- A block of class F under an element rule, at the home of a job of one group without a shadow owner, goes to the update
(R318, R321). -/
theorem reachTotal_updates {b : Nat} {l : LayerRec} {bn : Nat} {s : State} (hlayer : layerAt s b = some (l, bn))
    (hone : s.job.groups = 1) (hshadow : s.grp.shadowedBy = none) (hcls : l.cls = 0) (hrule : l.rule < 4)
    (htrained : isUntrained (blockS s b) = false) (hrepair : (blockS s b).repairWait = false)
    (hcommit : (blockS s b).step ≤ s.red.committed + 1) :
    blockS (reachTotal b l bn s) b =
        { blockS s b with state := .updating, nextBexp := nextExponent s (blockS s b), senders := [] } ∧
      (reachTotal b l bn s).sent =
        s.sent ++ (blockS s b).senders.map fun x => .pieceAck x b ((blockS s b).step % 65536) := by
  have hmatrix : isMatrixRule l = false := by
    have h4 : ¬ l.rule = 4 := by omega
    have h5 : ¬ l.rule = 5 := by omega
    simp only [isMatrixRule, h4, h5, decide_false, Bool.or_self]
  have hmulti : ¬ 1 < s.job.groups := by omega
  have htwo : ¬ s.job.groups = 2 := by omega
  have hkeep : keepTotal b (blockTotal b s) = blockTotal b s := if_neg htwo
  have hform : formSumsq b l bn (blockTotal b s) = blockTotal b s := if_neg (by rw [hmatrix]; decide)
  have hshadow' : (blockTotal b s).grp.shadowedBy = none := hshadow
  have hacked : blockS (ackMembers b (blockTotal b s)) b =
      { blockS s b with state := .total, nextBexp := nextExponent s (blockS s b), senders := [] } := by
    rw [ackMembers_eq, blockS_setBlock_same, blockS_blockTotal]
  have hcarried : carriedInStep l (blockS (ackMembers b (blockTotal b s)) b) = false := by
    rw [hacked, carriedInStep_of_class_F hcls]
    exact htrained
  have hupdates := trigger_updates (b := b) (s := ackMembers b (blockTotal b s)) hlayer hcarried hmatrix
    (by rw [hacked]; exact hrepair) (by rw [hacked]; exact hcommit)
  have hreach : reachTotal b l bn s = trigger b (ackMembers b (blockTotal b s)) := by
    simp only [reachTotal, hmulti, decide_false, Bool.false_and, Bool.false_eq_true, if_false]
    rw [show setBlock b { blockS s b with state := .total, nextBexp := nextExponent s (blockS s b) } s = blockTotal b s from rfl,
      hkeep, hform]
    simp only [hshadow']
  rw [hreach, hupdates, hacked]
  refine ⟨blockS_setBlock_same _ _ _, ?_⟩
  have hsent : (ackMembers b (blockTotal b s)).sent = s.sent ++
      ((blockS (blockTotal b s) b).senders.map fun x => Msg.pieceAck x b ((blockS (blockTotal b s) b).step % 65536)) := rfl
  rw [blockS_blockTotal] at hsent
  exact hsent

/-! ## Pieces of the total (R319) -/

section
variable {stack : StackId} {p : PieceData} {f : MemFacts} {s : State} {h : ContribHdr} {l : LayerRec} {bn : Nat}
  (hh : h = decodeContrib p.header.toNat) (hready : Ready s) (hgone : stackGone s stack.val = false)
  (hlayer : layerAt s h.block = some (l, bn)) (hstep : h.step = (blockS s h.block).step % 65536)
  (hroll : h.roll = (blockS s h.block).roll) (hfetch : (fetchBlock stack.val h.block f s).1 = false)
include hh hready hgone hlayer hstep hroll hfetch

theorem pieceArrival_total (hsent : (blockS s h.block).state = .sent) (hmode : h.mode = 3) :
    ∃ cache c, (∀ k, ¬ countsFetch k → mapGet 0 c k = counter s k) ∧ exec (.pieceArrival stack p f) s =
      .next (totalPiece h p h.block l bn (count cPieces 1 (fetched cache c s))) := by
  obtain ⟨cache, c, hin, hcounts⟩ := fetchBlock_countBus hfetch
  refine ⟨cache, c, hcounts, (next_of_ready hready rfl).trans (congrArg _ ?_)⟩
  have hblock : blockS (countBus f s) h.block = blockS s h.block := by rw [countBus_eq]; rfl
  have hat : layerAt (countBus f s) h.block = some (l, bn) := by rw [countBus_eq]; exact hlayer
  have hopen : (decide ((blockS s h.block).state = .open_) &&
      (isUntrained (blockS s h.block) || decide (h.mode ≤ 2) || decide (h.mode = 4))) = false := by simp [hsent]
  have htotal : (decide ((blockS s h.block).state = .sent) && decide (h.mode = 3)) = true := by simp [hsent, hmode]
  have hsame : (decide (h.step ≠ (blockS s h.block).step % 65536) || decide (h.roll ≠ (blockS s h.block).roll)) = false := by
    simp [hstep, hroll]
  rw [hgone, if_neg Bool.false_ne_true, pieceArrives, ← hh]
  dsimp only
  rw [hat]
  simp only [hblock, hsame, if_false, hopen, htotal, if_true, hin, Bool.false_eq_true]

end

/-- A block with a piece of the total, of which more are to come. -/
def totalTaken (h : ContribHdr) (p : PieceData) (o : BlockS) : BlockS :=
  { o with
    acc := mapSetList 0 o.acc (512 * h.piece) p.values
    totalPieces := if o.totalPieces.contains h.piece then o.totalPieces else o.totalPieces ++ [h.piece], maxb := h.maxb
    nonfinite := o.nonfinite || h.nonfinite, nextBexp := toSigned 16 h.ackAddr }

theorem totalPiece_more {h : ContribHdr} {p : PieceData} {b : Nat} {l : LayerRec} {bn : Nat} {s : State}
    (hres : residue p.values = h.res) (hfew : (blockS s b).totalPieces.length < 7) :
    totalPiece h p b l bn s = setBlock b (totalTaken h p (blockS s b)) s := by
  have hmore : (if (blockS s b).totalPieces.contains h.piece then (blockS s b).totalPieces
      else (blockS s b).totalPieces ++ [h.piece]).length < 8 := by
    split
    · omega
    · rw [List.length_append, List.length_singleton]
      omega
  simp only [totalPiece, hres, ne_eq, not_true_eq_false, if_false, hmore, if_true]
  rfl

theorem mem_totalTaken (h : ContribHdr) (p : PieceData) (o : BlockS) : h.piece ∈ (totalTaken h p o).totalPieces := by
  unfold totalTaken
  dsimp only
  split
  next hin => exact List.contains_iff_mem.mp hin
  next => simp

theorem totalPiece_bad {h : ContribHdr} {p : PieceData} {b : Nat} {l : LayerRec} {bn : Nat} {s : State}
    (hres : residue p.values ≠ h.res) (hfew : mapGet 0 (blockS s b).totalFails h.piece < 2) :
    totalPiece h p b l bn s = emit (.totalRerequest b h.piece) (count cResidueFail 1 (setBlock b { blockS s b with
      totalFails := mapSet 0 (blockS s b).totalFails h.piece (mapGet 0 (blockS s b).totalFails h.piece + 1) } s)) := by
  have hthird : ¬ 3 ≤ mapGet 0 (blockS s b).totalFails h.piece + 1 := by omega
  simp only [totalPiece, hres, ne_eq, not_false_eq_true, if_true, hthird, if_false]

/-- What a total piece whose residue is wrong leaves and sends. -/
theorem totalPiece_bad_spec {h : ContribHdr} {p : PieceData} {b : Nat} {l : LayerRec} {bn : Nat} {s : State}
    (hres : residue p.values ≠ h.res) (hfew : mapGet 0 (blockS s b).totalFails h.piece < 2) :
    counter (totalPiece h p b l bn s) cResidueFail = counter s cResidueFail + 1 ∧
      (blockS (totalPiece h p b l bn s) b).acc = (blockS s b).acc ∧
      (totalPiece h p b l bn s).sent = s.sent ++ [.totalRerequest b h.piece] := by
  rw [totalPiece_bad hres hfew]
  refine ⟨?_, ?_, by simp only [emit_sent, setBlock_sent, count_sent]⟩
  · rw [counter_congr (emit_counters _ _), counter_count_same, counter_congr (setBlock_counters _ _ _)]
  · exact (congrArg BlockS.acc (blockS_setBlock_same b { blockS s b with
    totalFails := mapSet 0 (blockS s b).totalFails h.piece (mapGet 0 (blockS s b).totalFails h.piece + 1) } s)).trans rfl

/-! ## The statement -/

theorem count_addPiece (h : ContribHdr) (p : PieceData) (o : BlockS) : (addPiece h p o).count = o.count + 1 := by
  obtain ⟨_, _, _, _, _, _, _, heq⟩ := addPiece_keeps h p o
  rw [heq]

theorem idsum_addPiece (h : ContribHdr) (p : PieceData) (o : BlockS) :
    (addPiece h p o).idsum = o.idsum + pieceId h.group h.member h.piece := by
  obtain ⟨_, _, _, _, _, _, _, heq⟩ := addPiece_keeps h p o
  rw [heq]

theorem blockS_addedTo (h : ContribHdr) (p : PieceData) (cache : Map (List Nat)) (c : Map Nat) (s : State) :
    blockS (pieceAdded h p (fetched cache c s)) h.block = addPiece h p (blockS s h.block) :=
  blockS_pieceAdded h p (fetched cache c s)

/-- What a piece leaves of a block's record, field by field. -/
theorem addPiece_same (h : ContribHdr) (p : PieceData) (o : BlockS) :
    (addPiece h p o).target = o.target ∧ (addPiece h p o).idexp = o.idexp ∧ (addPiece h p o).state = o.state ∧
      (addPiece h p o).home = o.home ∧ (addPiece h p o).fails = o.fails ∧ (addPiece h p o).bexp = o.bexp ∧
      (addPiece h p o).raises = o.raises ∧ (addPiece h p o).step = o.step ∧ (addPiece h p o).repairWait = o.repairWait := by
  obtain ⟨_, _, _, _, _, _, _, heq⟩ := addPiece_keeps h p o
  rw [heq]
  exact ⟨rfl, rfl, rfl, rfl, rfl, rfl, rfl, rfl, rfl⟩

theorem counter_pieceAdded {h : ContribHdr} {p : PieceData} {cache : Map (List Nat)} {c : Map Nat} {s : State}
    (hcounts : ∀ k, ¬ countsFetch k → mapGet 0 c k = counter s k) :
    counter (pieceAdded h p (fetched cache c s)) cPieces = counter s cPieces + 1 ∧
      ∀ k, k ≠ cPieces → ¬ countsFetch k → counter (pieceAdded h p (fetched cache c s)) k = counter s k :=
  ⟨(counter_count_same _ _ _).trans (congrArg (· + 1) (hcounts _ (by unfold countsFetch; decide))),
    fun _ hk hk' => (counter_count_ne _ _ hk).trans (hcounts _ hk')⟩

section
variable {stack : StackId} {p : PieceData} {f : MemFacts} {s : State} {h : ContribHdr} {l : LayerRec} {bn : Nat} {o : BlockS}
  (hh : h = decodeContrib p.header.toNat) (hready : Ready s) (hgone : stackGone s stack.val = false)
  (hlayer : layerAt s h.block = some (l, bn)) (ho : o = blockS s h.block) (hstep : h.step = o.step % 65536) (hroll : h.roll = o.roll)
  (hfetch : (fetchBlock stack.val h.block f s).1 = false) (hopen : o.state = .open_)
  (hmode : (isUntrained o || decide (h.mode ≤ 2) || decide (h.mode = 4)) = true)
include hh hready hgone hlayer ho hstep hroll hfetch hopen hmode

/-- A piece that leaves its block short of TARGET, and no clip. -/
theorem pieceArrival_more (hcount : o.count + 1 < o.target) (hclip : (addPiece h p o).clip = false) :
    ∃ cache c, (∀ k, ¬ countsFetch k → mapGet 0 c k = counter s k) ∧
      exec (.pieceArrival stack p f) s = .next (pieceAdded h p (fetched cache c s)) := by
  subst ho
  obtain ⟨cache, c, hcounts, heq⟩ := pieceArrival_open hh hready hgone hlayer hstep hroll hfetch hopen hmode
  have hshort : ¬ (addPiece h p (blockS s h.block)).target ≤ (addPiece h p (blockS s h.block)).count := by
    rw [count_addPiece, (addPiece_same h p (blockS s h.block)).1]
    omega
  refine ⟨cache, c, hcounts, heq.trans (congrArg _ ?_)⟩
  simp only [hshort, hclip, if_false, Bool.and_false, Bool.false_and, Bool.false_eq_true]

/-- The piece that fills TARGET. -/
theorem pieceArrival_last (htarget : o.target = o.count + 1) :
    ∃ cache c, (∀ k, ¬ countsFetch k → mapGet 0 c k = counter s k) ∧ exec (.pieceArrival stack p f) s =
      .next (checkBlock h.block l bn (pieceAdded h p (fetched cache c s))) := by
  subst ho
  obtain ⟨cache, c, hcounts, heq⟩ := pieceArrival_open hh hready hgone hlayer hstep hroll hfetch hopen hmode
  have hfull : (addPiece h p (blockS s h.block)).target ≤ (addPiece h p (blockS s h.block)).count := by
    rw [count_addPiece, (addPiece_same h p (blockS s h.block)).1]
    omega
  exact ⟨cache, c, hcounts, heq.trans (congrArg _ (if_pos hfull))⟩

end

section
variable {stack : StackId} {p : PieceData} {f : MemFacts} {s : State} {h : ContribHdr} {l : LayerRec} {bn : Nat} {o o' : BlockS}
  (hh : h = decodeContrib p.header.toNat) (hready : Ready s) (hgone : stackGone s stack.val = false)
  (hlayer : layerAt s h.block = some (l, bn)) (ho : o = blockS s h.block)
  (hfetch : (fetchBlock stack.val h.block f s).1 = false) (hstep : h.step = o.step % 65536) (hroll : h.roll = o.roll)
  (hopen : o.state = .open_) (hmode : h.mode = 0) (htarget : o.target = o.count + 1)
include hh hready hgone hlayer ho hfetch hstep hroll hopen hmode htarget

/-- Identifiers that do not come out, the first time, away from the job home (R316). -/
theorem pieceArrival_asks (hfails : o.fails = 0) (hhome : o.home = false)
    (hids : o.idsum + pieceId h.group h.member h.piece ≠ o.idexp) :
    ∃ t, exec (.pieceArrival stack p f) s = .next t ∧ counter t cResidueFail = counter s cResidueFail + 1 ∧
      (blockS t h.block).acc = [] ∧ (blockS t h.block).count = 0 ∧ (blockS t h.block).state = .open_ ∧
      t.sent = s.sent ++ [.reRequest s.job.group s.job.member h.block o.bexp false] := by
  obtain ⟨cache, c, hcounts, heq⟩ := pieceArrival_last hh hready hgone hlayer ho hstep hroll hfetch hopen (by simp [hmode]) htarget
  have hblock := blockS_addedTo h p cache c s
  rw [← ho] at hblock
  obtain ⟨-, hidexp, -, hsameHome, hsameFails, hsameBexp, -⟩ := addPiece_same h p o
  have hbad := checkBlock_of_ids (l := l) (bn := bn) (s := pieceAdded h p (fetched cache c s))
    (by rw [hblock, idsum_addPiece, hidexp]; exact hids)
  obtain ⟨hzero, hcount, hsent⟩ := failBlock_first_spec (s := pieceAdded h p (fetched cache c s))
    (by rw [hblock, hsameFails]; exact hfails) (by rw [hblock, hsameHome]; exact hhome)
  rw [hblock, hsameBexp] at hsent
  refine ⟨_, heq.trans (congrArg _ hbad), ?_, congrArg BlockS.acc hzero, congrArg BlockS.count hzero, congrArg BlockS.state hzero,
    hsent⟩
  rw [hcount, (counter_pieceAdded hcounts).2 _ (by decide) (by unfold countsFetch; decide)]

variable (ho' : o' = addPiece h p o) (htrained : isUntrained o = false) (hids : o'.idsum = o'.idexp)
  (hcarried : o'.carried = residue (accList o'))
include ho' htrained hids hcarried

/-- A block that checks. -/
theorem pieceArrival_checks : ∃ cache c, (∀ k, ¬ countsFetch k → mapGet 0 c k = counter s k) ∧
    blockS (pieceAdded h p (fetched cache c s)) h.block = o' ∧ exec (.pieceArrival stack p f) s = .next
      (if o'.clip then (if o.home then raiseAll h.block (pieceAdded h p (fetched cache c s))
          else sendSum h.block l bn true (pieceAdded h p (fetched cache c s)))
        else if !o.home then sendSum h.block l bn true (pieceAdded h p (fetched cache c s))
        else reachTotal h.block l bn (pieceAdded h p (fetched cache c s))) := by
  obtain ⟨cache, c, hcounts, heq⟩ := pieceArrival_last hh hready hgone hlayer ho hstep hroll hfetch hopen (by simp [hmode]) htarget
  have hblock := blockS_addedTo h p cache c s
  rw [← ho, ← ho'] at hblock
  have hwhole := checkBlock_whole (l := l) (bn := bn) (s := pieceAdded h p (fetched cache c s)) (by rw [hblock]; exact hids)
    (by rw [hblock]; exact hcarried) (by rw [hblock, ho', isUntrained_addPiece]; exact htrained)
  have hhome : o'.home = o.home := ho' ▸ (addPiece_same h p o).2.2.2.1
  rw [hblock, hhome] at hwhole
  exact ⟨cache, c, hcounts, hblock, heq.trans (congrArg _ hwhole)⟩

/-- A group sum leaves for the job home (R315). -/
theorem pieceArrival_sums (hhome : o.home = false) (hclip : o'.clip = false) (hcls : l.cls ≠ 1) :
    ∃ t, exec (.pieceArrival stack p f) s = .next t ∧ (blockS t h.block).state = .sent ∧ (blockS t h.block).acc = o'.acc ∧
      t.sent.length = s.sent.length + 8 ∧
      ∀ q, q < 8 → accPiece t h.block q 1 0 (ownerModule s l.tensor (homeGroup s l.tensor bn)) ∈ t.sent := by
  obtain ⟨cache, c, -, hblock, heq⟩ := pieceArrival_checks hh hready hgone hlayer ho hfetch hstep hroll hopen hmode htarget ho'
    htrained hids hcarried
  obtain ⟨hstate, hlength, hpieces⟩ := sendSum_pieces_spec (bn := bn) (first := true) (s := pieceAdded h p (fetched cache c s))
    (by rw [hblock]; exact hclip) hcls
  rw [hclip, hhome] at heq
  replace heq : exec (.pieceArrival stack p f) s = .next (sendSum h.block l bn true (pieceAdded h p (fetched cache c s))) := heq
  rw [hblock] at hstate
  exact ⟨_, heq, congrArg BlockS.state hstate, (congrArg BlockS.acc hstate).trans rfl, hlength, hpieces⟩

/-- A block of a job of one group goes to the update (R303, R318, R321). -/
theorem pieceArrival_updates (hhome : o.home = true) (hone : s.job.groups = 1) (hshadow : s.grp.shadowedBy = none)
    (hclip : o'.clip = false) (hcls : l.cls = 0) (hrule : l.rule < 4) (hrepair : o.repairWait = false)
    (hcommit : o.step ≤ s.red.committed + 1) :
    ∃ t, exec (.pieceArrival stack p f) s = .next t ∧ (blockS t h.block).state = .updating ∧
      (blockS t h.block).nextBexp = (if o'.maxb = 0 then o.bexp else max (-149) (min 97 (o.bexp + o'.maxb - 31 + s.red.headroom))) ∧
      t.sent = s.sent ++ o'.senders.map fun x => .pieceAck x h.block (o.step % 65536) := by
  obtain ⟨cache, c, -, hblock, heq⟩ := pieceArrival_checks hh hready hgone hlayer ho hfetch hstep hroll hopen hmode htarget ho'
    htrained hids hcarried
  obtain ⟨-, -, -, -, -, hsameBexp, -, hsameStep, hsameRepair⟩ := addPiece_same h p o
  rw [← ho'] at hsameBexp hsameStep hsameRepair
  have huntrained : isUntrained o' = false := by rw [ho', isUntrained_addPiece]; exact htrained
  obtain ⟨hupdating, hacks⟩ := reachTotal_updates (b := h.block) (l := l) (bn := bn)
    (s := pieceAdded h p (fetched cache c s)) hlayer hone hshadow hcls hrule (by rw [hblock]; exact huntrained)
    (by rw [hblock, hsameRepair]; exact hrepair) (by rw [hblock, hsameStep]; exact hcommit)
  rw [hclip, hhome] at heq
  replace heq : exec (.pieceArrival stack p f) s = .next (reachTotal h.block l bn (pieceAdded h p (fetched cache c s))) := heq
  rw [hblock] at hupdating hacks
  refine ⟨_, heq, congrArg BlockS.state hupdating, (congrArg BlockS.nextBexp hupdating).trans ?_, ?_⟩
  · rw [← hsameBexp]
    rfl
  · rw [hacks, hsameStep]
    rfl

/-- A clipped block at the job home is raised (R317). -/
theorem pieceArrival_raises (hhome : o.home = true) (hclip : o'.clip = true) (hbexp : o.bexp < 97) (hraises : o.raises < 2) :
    ∃ t, exec (.pieceArrival stack p f) s = .next t ∧
      (blockS t h.block).bexp = max (-149) (min 97 (o.bexp + max 1 ((o'.maxb : Int) - 31 + (s.red.headroom : Int)))) ∧
      (blockS t h.block).raises = o.raises + 1 ∧ (blockS t h.block).acc = [] ∧ counter t cClip = counter s cClip + 1 ∧
      Msg.raise h.block (blockS t h.block).bexp false ∈ t.sent := by
  obtain ⟨cache, c, hcounts, hblock, heq⟩ := pieceArrival_checks hh hready hgone hlayer ho hfetch hstep hroll hopen hmode htarget
    ho' htrained hids hcarried
  obtain ⟨-, -, -, -, -, hsameBexp, hsameRaises, -⟩ := addPiece_same h p o
  rw [← ho'] at hsameBexp hsameRaises
  obtain ⟨hraised, hcount, hsent⟩ := raiseAll_within_spec (b := h.block) (s := pieceAdded h p (fetched cache c s))
    (e := clampExp (o.bexp + max 1 ((o'.maxb : Int) - 31 + (s.red.headroom : Int))))
    (by rw [hblock, hsameBexp]; exact hbexp) (by rw [hblock, hsameRaises]; exact hraises) (by rw [hblock, hsameBexp]; rfl)
  rw [hclip, hhome] at heq
  replace heq : exec (.pieceArrival stack p f) s = .next (raiseAll h.block (pieceAdded h p (fetched cache c s))) := heq
  rw [hblock, hsameRaises] at hraised
  refine ⟨_, heq, congrArg BlockS.bexp hraised, congrArg BlockS.raises hraised, congrArg BlockS.acc hraised, ?_, ?_⟩
  · exact hcount.trans (congrArg (· + 1) ((counter_pieceAdded hcounts).2 _ (by decide) (by unfold countsFetch; decide)))
  · have hexp : (blockS (raiseAll h.block (pieceAdded h p (fetched cache c s))) h.block).bexp = _ := congrArg BlockS.bexp hraised
    exact hexp ▸ hsent

end

/-- Settles O24. -/
theorem piecesAccumulate : Obligations.PiecesAccumulate := by
  unfold Obligations.PiecesAccumulate
  refine ⟨fun stack p f s l hready hgone hlayer hfetch _ hstep hroll hopen hmode htrained hclip hclip' hcount hfits => ?_,
    fun stack p f s l hready hgone hlayer hstep hroll hopen hun hfetch hclip hcount => ?_,
    fun stack p f s hready hgone hother => ?_,
    fun stack p f s l o hready hgone hlayer ho hfetch hstep hroll hopen hmode htarget hfails hhome hids => ?_,
    fun stack p f s l bn o o' hready hgone hlayer ho ho' hfetch hstep hroll hopen hmode htrained htarget hhome hclip hids hcarried
      hcls => ?_,
    fun stack p f s l bn o o' hready hgone hlayer ho ho' hfetch hstep hroll hopen hmode htrained htarget hhome hone hshadow hclip
      hids hcarried hcls hrule hrepair hcommit => ?_,
    fun stack p f s l bn o o' hready hgone hlayer ho ho' hfetch hstep hroll hopen hmode htrained htarget hhome hclip hids hcarried
      hbexp hraises => ?_,
    fun stack p f s l o hready hgone hlayer ho hstep hroll hsent hmode hfetch hlength hres hfew => ?_,
    fun stack p f s l o hready hgone hlayer ho hstep hroll hsent hmode hfetch hres hfew => ?_⟩
  · have hmode' : (isUntrained (blockS s (decodeContrib p.header.toNat).block) || decide ((decodeContrib p.header.toNat).mode ≤ 2) ||
        decide ((decodeContrib p.header.toNat).mode = 4)) = true := by simp [hmode]
    obtain ⟨hacc, hcarried, hmaxb, hsum⟩ := addPiece_trained htrained hmode hfits
    obtain ⟨cache, c, hcounts, heq⟩ := pieceArrival_more rfl hready hgone hlayer rfl hstep hroll hfetch hopen hmode' hcount
      (by rw [hsum, hclip, hclip']; rfl)
    have hblock := blockS_addedTo (decodeContrib p.header.toNat) p cache c s
    refine ⟨_, heq, ?_, ?_, ?_, ?_, ?_, ?_, fun b hb => blockS_setBlock_ne _ _ hb, (counter_pieceAdded hcounts).1, rfl,
      only_of_patch rfl⟩
    all_goals rw [hblock]
    · exact hacc
    · exact idsum_addPiece _ _ _
    · exact count_addPiece _ _ _
    · exact hcarried
    · exact hmaxb
    · exact (addPiece_same _ _ _).2.2.1.trans hopen
  · obtain ⟨hacc, hkept⟩ := addPiece_untrained p hun
    obtain ⟨cache, c, hcounts, heq⟩ := pieceArrival_more rfl hready hgone hlayer rfl hstep hroll hfetch hopen
      (by rw [hun]; rfl) hcount (hkept.trans hclip)
    have hblock := blockS_addedTo (decodeContrib p.header.toNat) p cache c s
    refine ⟨_, heq, ?_, ?_, ?_, (counter_pieceAdded hcounts).1, only_of_patch rfl⟩
    all_goals rw [hblock]
    · exact hacc
    · exact idsum_addPiece _ _ _
    · exact count_addPiece _ _ _
  · refine ⟨_, pieceArrival_stale rfl hready hgone hother, ?_, ?_⟩
    · exact (counter_count_same _ _ _).trans (congrArg (· + 1) (counter_countBus f s (by decide) (by decide)))
    · exact ((countBus_only f s).trans (only_of_patch rfl : Only [.counters] _ _)).mono (by decide)
  · exact pieceArrival_asks rfl hready hgone hlayer ho hfetch hstep hroll hopen hmode htarget hfails hhome hids
  · exact pieceArrival_sums rfl hready hgone hlayer ho hfetch hstep hroll hopen hmode htarget ho' htrained hids hcarried hhome hclip
      hcls
  · exact pieceArrival_updates rfl hready hgone hlayer ho hfetch hstep hroll hopen hmode htarget ho' htrained hids hcarried hhome hone
      hshadow hclip hcls hrule hrepair hcommit
  · exact pieceArrival_raises rfl hready hgone hlayer ho hfetch hstep hroll hopen hmode htarget ho' htrained hids hcarried hhome hclip
      hbexp hraises
  · subst ho
    obtain ⟨cache, c, -, heq⟩ := pieceArrival_total rfl hready hgone hlayer hstep hroll hfetch hsent hmode
    have hmore := totalPiece_more (l := l.1) (bn := l.2) (s := count cPieces 1 (fetched cache c s)) hres hfew
    refine ⟨_, heq.trans (congrArg _ hmore), fun i => ?_, ?_, rfl⟩
    · rw [blockS_setBlock_same]
      refine (mapGet_mapSetList _ _ _ _).trans ?_
      rw [hlength]
      rfl
    · rw [blockS_setBlock_same]
      exact mem_totalTaken _ _ _
  · subst ho
    obtain ⟨cache, c, hcounts, heq⟩ := pieceArrival_total rfl hready hgone hlayer hstep hroll hfetch hsent hmode
    obtain ⟨hcount, hacc, hmsg⟩ := totalPiece_bad_spec (l := l.1) (bn := l.2) (s := count cPieces 1 (fetched cache c s)) hres hfew
    refine ⟨_, heq, hcount.trans (congrArg (· + 1) ?_), hacc, hmsg⟩
    exact (counter_count_ne _ _ (by decide)).trans (hcounts _ (by unfold countsFetch; decide))

end Sys2Proof.Machine

/-! SUPPORT. Re-requests, raises and totals (R316 to R319). -/

namespace Sys2Proof.Machine

/-! ## Held pieces that go again (R316) -/

/-- The pieces that a member holds of block `b` for an owner. -/
def heldFor (owner b : Nat) (h : HeldPiece) : Bool := decide (h.owner = owner) && decide (h.block = b)

/-- A held piece of the block, against another exponent. -/
def heldAgainst (owner b : Nat) (bexp : Int) (h : HeldPiece) : HeldPiece :=
  if h.owner = owner ∧ h.block = b then { h with bexp := bexp } else h

theorem sendHeld_eq (h : HeldPiece) (s : State) : sendHeld h s =
    { s with counters := (sendHeld h s).counters, sent := s.sent ++ [(heldMsg s h h.stack h.addr).2] } := by
  unfold sendHeld
  dsimp only
  split <;> rfl

theorem each_sendHeld (hs : List HeldPiece) (s : State) : each hs sendHeld s =
    { s with counters := (each hs sendHeld s).counters
             sent := s.sent ++ hs.map fun h => (heldMsg s h h.stack h.addr).2 } := by
  induction hs generalizing s with
  | nil => simp [each]
  | cons h hs ih =>
    have hstep : each (h :: hs) sendHeld s = each hs sendHeld (sendHeld h s) := rfl
    rw [hstep, ih (sendHeld h s), sendHeld_eq h s]
    simp only [List.map_cons, List.append_assoc, List.cons_append, List.nil_append]
    rfl

theorem resendHeld_eq (owner b : Nat) (bexp : Int) (s : State) : resendHeld owner b bexp s =
    each ((s.red.held.map (heldAgainst owner b bexp)).filter (heldFor owner b)) sendHeld
      { s with red := { s.red with held := s.red.held.map (heldAgainst owner b bexp) } } := by
  have hmap : (fun h : HeldPiece => if (decide (h.owner = owner) && decide (h.block = b)) = true then { h with bexp := bexp } else h)
      = heldAgainst owner b bexp := by
    funext h
    simp only [heldAgainst, Bool.and_eq_true, decide_eq_true_eq]
  simp only [resendHeld, hmap]
  rfl

/-! ## Raises (R317) -/

/-- A raise that is not the third in its step. -/
theorem raiseTo_within {b : Nat} {bexp : Int} {s : State} (hraises : (blockS s b).raises < 2) :
    raiseTo b bexp s = emit (.reRequest s.job.group s.job.member b bexp false)
      (setBlock b (zeroBlock { blockS s b with raises := (blockS s b).raises + 1, bexp := bexp }) (count cClip 1
        (setBlock b { blockS s b with raises := (blockS s b).raises + 1, bexp := bexp } s))) := by
  have hthird : ¬ 3 ≤ (blockS s b).raises + 1 := by omega
  have hraised : blockS (count cClip 1 (setBlock b { blockS s b with raises := (blockS s b).raises + 1, bexp := bexp } s)) b =
      { blockS s b with raises := (blockS s b).raises + 1, bexp := bexp } := blockS_setBlock_same _ _ _
  have hagain := reRequestBlock_members (b := b) (all := false) (s := count cClip 1 (setBlock b
    { blockS s b with raises := (blockS s b).raises + 1, bexp := bexp } s)) rfl
  rw [hraised] at hagain
  simp only [raiseTo, hthird, if_false]
  exact hagain

/-- What a raise leaves, counts and sends. -/
theorem raiseTo_within_spec {b : Nat} {bexp : Int} {s : State} (hraises : (blockS s b).raises < 2) :
    blockS (raiseTo b bexp s) b = zeroBlock { blockS s b with raises := (blockS s b).raises + 1, bexp := bexp } ∧
      counter (raiseTo b bexp s) cClip = counter s cClip + 1 ∧
      (raiseTo b bexp s).sent = s.sent ++ [.reRequest s.job.group s.job.member b bexp false] := by
  rw [raiseTo_within hraises]
  refine ⟨blockS_setBlock_same _ _ _, ?_, by simp only [emit_sent, setBlock_sent, count_sent]⟩
  rw [counter_congr (emit_counters _ _), counter_congr (setBlock_counters _ _ _), counter_count_same,
    counter_congr (setBlock_counters _ _ _)]

theorem raiseMessage_of_open {msg : RaiseMsg} {s : State} {l : LayerRec × Nat} (hready : Ready s)
    (hlayer : layerAt s msg.block = some l) (hopen : (blockS s msg.block).state = .open_) : exec (.raiseMessage msg) s =
      .next (if msg.nonfinite then raiseNonfinite msg.block s else raiseTo msg.block (clampExp msg.bexp) s) := by
  refine (next_of_ready hready rfl).trans (congrArg _ ?_)
  have hserves : ((layerAt s msg.block).isNone || (decide ((blockS s msg.block).state ≠ .open_) &&
      decide ((blockS s msg.block).state ≠ .sent))) = false := by simp [hlayer, hopen]
  simp only [hserves, Bool.false_eq_true, if_false]

/-- A block whose step waits for the commit before it (R321). -/
theorem trigger_waits {b : Nat} {l : LayerRec × Nat} {s : State} (hlayer : layerAt s b = some l)
    (hlate : s.red.committed + 1 < (blockS s b).step) :
    trigger b s = setBlock b { blockS s b with state := .waitCommit } s := by
  simp only [trigger, hlayer, hlate, decide_true, Bool.true_or, if_true]

/-- A block of which no raise is possible, its members acknowledged. -/
def blockCarried (b : Nat) (s : State) : State :=
  setBlock b { blockS s b with senders := [], nonfinite := true, state := .total, nextBexp := (blockS s b).bexp } (ackMembers b s)

theorem raiseNonfinite_eq (b : Nat) (s : State) : raiseNonfinite b s = trigger b (blockCarried b s) := by
  have hacked : blockS (ackMembers b s) b = { blockS s b with senders := [] } := by rw [ackMembers_eq, blockS_setBlock_same]
  simp only [raiseNonfinite, hacked]
  rfl

/-! ## Acknowledgements of totals (R318) -/

/-- A block with one more acknowledgement of its total. -/
def totalAcked (b g : Nat) (s : State) : State := setBlock b { blockS s b with totalAcks := (blockS s b).totalAcks ++ [g] } s

theorem totalAcknowledgement_of_total {block : BitVec 32} {group : GroupId} {s : State} (hready : Ready s)
    (htotal : (blockS s block.toNat).state = .total) (hhome : (blockS s block.toNat).home = true)
    (hnew : group.val ∉ (blockS s block.toNat).totalAcks) : exec (.totalAcknowledgement block group false) s = .next
      (if (otherGroups s).all ((blockS s block.toNat).totalAcks ++ [group.val]).contains
        then trigger block.toNat (totalAcked block.toNat group.val s) else totalAcked block.toNat group.val s) := by
  refine (next_of_ready hready rfl).trans (congrArg _ ?_)
  have hacks : ¬ (!(blockS s block.toNat).home || (blockS s block.toNat).totalAcks.contains group.val) = true := by
    simpa [hhome] using hnew
  exact (if_neg (not_not.mpr htotal)).trans ((if_neg Bool.false_ne_true).trans ((if_neg hacks).trans rfl))

/-- Settles O25. -/
theorem blocksAreAskedAgain : Obligations.BlocksAreAskedAgain := by
  unfold Obligations.BlocksAreAskedAgain
  refine ⟨fun group owner block bexp s hready hown => ?_,
    fun group owner block bexp s l bn hready hother hlayer hsent hclip hcls => ?_,
    fun msg s l hready hlayer hopen hfinite hraises => ?_,
    fun msg s l hready hlayer hopen hnonfinite hlate => ?_,
    fun block group s l bn hready hlayer htotal hhome hnew hall hcls hrule htrained hrepair hcommit => ?_,
    fun block group s hready htotal hhome hnew hsome => ?_,
    fun block group piece s l bn hready hlayer htotal hother => ?_⟩
  · have hexec : exec (.reRequest group owner block bexp) s = .next (resendHeld owner.val block.toNat bexp s) :=
      (next_of_ready hready rfl).trans (congrArg _ (if_pos hown))
    rw [resendHeld_eq, each_sendHeld] at hexec
    exact ⟨_, hexec, rfl, rfl, only_of_patch rfl⟩
  · have hexec : exec (.reRequest group owner block bexp) s = .next (sendSum block.toNat l bn false s) := by
      refine (next_of_ready hready rfl).trans (congrArg _ ?_)
      simp only [hother, if_false, hlayer, hsent, if_true]
    have hsame : blockS (setBlock block.toNat { blockS s block.toNat with state := .sent } s) block.toNat =
        blockS s block.toNat := by rw [blockS_setBlock_same, ← hsent]
    rw [sendSum_pieces hclip hcls] at hexec
    refine ⟨_, hexec, ?_, congrArg BlockS.acc hsame, (congrArg BlockS.state hsame).trans hsent, only_of_patch rfl⟩
    refine congrArg (s.sent ++ ·) (List.map_congr_left fun q _ => ?_)
    have hpiece : ∀ o, blockS (setBlock block.toNat o s) block.toNat = blockS s block.toNat →
        accPiece (setBlock block.toNat o s) block.toNat q 1 0 (ownerModule s l.tensor (homeGroup s l.tensor bn)) =
          accPiece s block.toNat q 1 0 (ownerModule s l.tensor (homeGroup s l.tensor bn)) := by
      intro o ho
      simp only [accPiece, ho]
      rfl
    exact hpiece _ hsame
  · have hexec := raiseMessage_of_open hready hlayer hopen
    rw [hfinite] at hexec
    obtain ⟨hraised, hcount, hmsg⟩ := raiseTo_within_spec (bexp := clampExp msg.bexp) hraises
    exact ⟨_, hexec, congrArg BlockS.bexp hraised, congrArg BlockS.raises hraised, congrArg BlockS.acc hraised,
      congrArg BlockS.count hraised, congrArg BlockS.state hraised, hcount, hmsg⟩
  · have hexec := raiseMessage_of_open hready hlayer hopen
    have hblock : blockS (blockCarried msg.block s) msg.block = { blockS s msg.block with
        senders := [], nonfinite := true, state := .total, nextBexp := (blockS s msg.block).bexp } := blockS_setBlock_same _ _ _
    have hwaits := trigger_waits (b := msg.block) (s := blockCarried msg.block s) hlayer (by rw [hblock]; exact hlate)
    rw [hblock] at hwaits
    rw [hnonfinite, if_pos rfl, raiseNonfinite_eq, hwaits] at hexec
    refine ⟨_, hexec, congrArg BlockS.nonfinite (blockS_setBlock_same _ _ _), congrArg BlockS.state (blockS_setBlock_same _ _ _),
      congrArg BlockS.nextBexp (blockS_setBlock_same _ _ _), rfl, only_of_patch rfl⟩
  · have hexec := totalAcknowledgement_of_total hready htotal hhome hnew
    have hblock : blockS (totalAcked block.toNat group.val s) block.toNat =
        { blockS s block.toNat with totalAcks := (blockS s block.toNat).totalAcks ++ [group.val] } := blockS_setBlock_same _ _ _
    have hmatrix : isMatrixRule l = false := by
      have h4 : ¬ l.rule = 4 := by omega
      have h5 : ¬ l.rule = 5 := by omega
      simp only [isMatrixRule, h4, h5, decide_false, Bool.or_self]
    have hupdates := trigger_updates (b := block.toNat) (s := totalAcked block.toNat group.val s) hlayer
      (by rw [hblock, carriedInStep_of_class_F hcls]; exact htrained) hmatrix (by rw [hblock]; exact hrepair)
      (by rw [hblock]; exact hcommit)
    rw [hall, if_pos rfl, hupdates, hblock] at hexec
    refine ⟨_, hexec, congrArg BlockS.state (blockS_setBlock_same _ _ _), congrArg BlockS.totalAcks (blockS_setBlock_same _ _ _),
      only_of_patch rfl⟩
  · have hexec := totalAcknowledgement_of_total hready htotal hhome hnew
    rw [hsome] at hexec
    refine ⟨_, hexec, ?_, ?_, only_of_patch rfl⟩
    · exact (congrArg BlockS.state (blockS_setBlock_same _ _ _)).trans htotal
    · exact congrArg BlockS.totalAcks (blockS_setBlock_same _ _ _)
  · have hexec : exec (.totalRerequest block group piece) s = .next (emit (accPiece s block.toNat piece.val 3
        (ofSigned 16 (blockS s block.toNat).nextBexp) (ownerModule s l.tensor group.val)) s) := by
      refine (next_of_ready hready rfl).trans (congrArg _ ?_)
      simp only [hlayer, htotal, ne_eq, not_true_eq_false, if_false, hother]
    exact ⟨_, hexec, rfl, only_of_patch rfl⟩

end Sys2Proof.Machine

/-! SUPPORT. The update of an owner's blocks (R322 to R329). -/

namespace Sys2Proof.Machine

/-! ## What keeps the owner state -/

/-- The blocks, both banks and OWNER_CUR stand as they stood, at the same tick. -/
structure OwnerKept (s t : State) : Prop where
  blocks : t.red.blocks = s.red.blocks
  bankA : t.red.bankA = s.red.bankA
  bankB : t.red.bankB = s.red.bankB
  current : t.mem.ownerCur = s.mem.ownerCur
  tick : t.tick = s.tick

theorem OwnerKept.refl (s : State) : OwnerKept s s := ⟨rfl, rfl, rfl, rfl, rfl⟩

theorem OwnerKept.trans {s t u : State} (h : OwnerKept s t) (h' : OwnerKept t u) : OwnerKept s u :=
  ⟨h'.blocks.trans h.blocks, h'.bankA.trans h.bankA, h'.bankB.trans h.bankB, h'.current.trans h.current, h'.tick.trans h.tick⟩

section
variable {s t : State} (h : OwnerKept s t) (b : Nat)
include h

theorem OwnerKept.blockS : blockS t b = blockS s b := by simp only [Machine.blockS, h.blocks]

theorem OwnerKept.curBank : curBank t b = curBank s b := by simp only [Machine.curBank, h.bankA, h.bankB, h.current]

theorem OwnerKept.otherBank : otherBank t b = otherBank s b := by simp only [Machine.otherBank, h.bankA, h.bankB, h.current]

end

theorem event_ownerKept (code detail : Nat) (s : State) : OwnerKept s (event code detail s) := by
  have hred : (event code detail s).red = s.red := (event_grows code detail s).same .red rfl
  have hcur := congrArg MemS.ownerCur (event_memRest code detail s)
  exact ⟨congrArg _ hred, congrArg _ hred, congrArg _ hred, hcur, (event_grows code detail s).same .tick rfl⟩

theorem noteUpdated_ownerKept (step tensor : Nat) (s : State) : OwnerKept s (noteUpdated step tensor s) := by
  unfold noteUpdated
  split <;> exact ⟨rfl, rfl, rfl, rfl, rfl⟩

theorem eventIf_ownerKept (on : Bool) (code detail : Nat) {s t : State} (h : OwnerKept s t) :
    OwnerKept s (if on then event code detail t else t) := by
  cases on
  · exact h
  · exact h.trans (event_ownerKept code detail t)

theorem noteChurn_ownerKept (l : LayerRec) (step changes : Nat) (s : State) : OwnerKept s (noteChurn l step changes s) :=
  eventIf_ownerKept _ _ _ ⟨rfl, rfl, rfl, rfl, rfl⟩

theorem bindRefresh_ownerKept (tensor step : Nat) (s : State) : OwnerKept s (bindRefresh tensor step s).2 := by
  unfold bindRefresh
  dsimp only
  split
  · exact .refl s
  · split
    · exact ⟨rfl, rfl, rfl, rfl, rfl⟩
    · split <;> exact ⟨rfl, rfl, rfl, rfl, rfl⟩

theorem reportDone_of_member {s : State} (hlead : isLead s = false) : OwnerKept s (reportDone s) ∧
    Only [.sent, .red] s (reportDone s) ∧ (∃ ms, (reportDone s).sent = s.sent ++ ms) := by
  unfold reportDone
  dsimp only
  split
  · exact ⟨.refl s, Only.refl _ _, [], (List.append_nil _).symm⟩
  · simp only [hlead, Bool.false_eq_true, if_false]
    split
    · exact ⟨⟨rfl, rfl, rfl, rfl, rfl⟩, only_of_patch rfl, _, List.append_assoc _ _ _⟩
    · exact ⟨⟨rfl, rfl, rfl, rfl, rfl⟩, only_of_patch rfl, _, rfl⟩

/-! ## The pipe (R322, R329) -/

theorem pipeBlock_of_finite {p : PipeIn} {carry nonHome home : Bool} (h : p.l.wcFmt ≠ 10) :
    (pipeBlock p carry nonHome home).bank = (pipePass p carry nonHome home).bank ∧
      (pipeBlock p carry nonHome home).nonfinite = false := by
  have hfinite : (pipePass p carry nonHome home).nonfinite = false := by
    simp only [pipePass, h, decide_false, Bool.false_and]
  simp only [pipeBlock, hfinite, Bool.and_false, Bool.false_eq_true, if_false]
  exact ⟨trivial, trivial⟩

theorem master_pipePass {p : PipeIn} {carry nonHome home : Bool} (h : isMatrixRule p.l = false) {i : Nat} (hi : i < 4096) :
    mapGet 0 (pipePass p carry nonHome home).bank.master i = (elemOut p carry i).w := by
  have hmaster : (pipePass p carry nonHome home).bank.master =
      mapSetList 0 [] 0 (((List.range 4096).map (elemOut p carry)).map (·.w)) := by
    simp only [pipePass, newBank, newMaster, h, Bool.false_and, Bool.false_eq_true, if_false]
  have hlength : i < (((List.range 4096).map (elemOut p carry)).map (·.w)).length := by simpa using hi
  rw [hmaster, mapGet_mapSetList, if_pos ⟨Nat.zero_le _, by rwa [Nat.zero_add]⟩, Nat.sub_zero, nth,
    List.getD_eq_getElem _ _ hlength]
  simp

theorem elemOut_of_kept {p : PipeIn} {carry : Bool} {i : Nat} (h : updates p carry i = false) :
    (elemOut p carry i).w = mapGet 0 p.cur.master i := by
  simp only [elemOut, h, Bool.false_eq_true, if_false]

/-- What the pipe notes beside the block and its bank: the mirror digest, the updates, the mask's changes, a nonfinite block, the
norm, and that the block leaves the cache. -/
def pipeNoted (b : Nat) (l : LayerRec) (o : BlockS) (out : PipeOut) (carried : Bool) (s1 : State) : State :=
  let mirror := mapSet noDigest s1.grp.mirror b out.digest
  let s2 := { s1 with grp := { s1.grp with mirror := mirror } }
  let s3 := if carried then s2 else noteUpdated o.step l.tensor (count cBlocksUpdated 1 s2)
  let s4 := if l.prune = .none ∨ carried then s3 else noteChurn l o.step out.changes s3
  let s5 := if (o.nonfinite || out.nonfinite) && !carriedInStep l o then noteNonfinite l.tensor s4 else s4
  leaveCache b (noteNorm o.step out.sumsq s5)

theorem pipeNoted_ownerKept (b : Nat) (l : LayerRec) (o : BlockS) (out : PipeOut) (carried : Bool) (s : State) :
    OwnerKept s (pipeNoted b l o out carried s) := by
  have hupdated (st : State) : OwnerKept st (if carried then st else noteUpdated o.step l.tensor (count cBlocksUpdated 1 st)) := by
    split
    · exact .refl st
    · exact OwnerKept.trans (t := count cBlocksUpdated 1 st) ⟨rfl, rfl, rfl, rfl, rfl⟩ (noteUpdated_ownerKept _ _ _)
  have hchurn (st : State) : OwnerKept st (if l.prune = .none ∨ carried then st else noteChurn l o.step out.changes st) := by
    split
    · exact .refl st
    · exact noteChurn_ownerKept _ _ _ _
  have hnonfinite (st : State) : OwnerKept st
      (if (o.nonfinite || out.nonfinite) && !carriedInStep l o then noteNonfinite l.tensor st else st) := by
    split
    · exact ⟨rfl, rfl, rfl, rfl, rfl⟩
    · exact .refl st
  have hmirror : OwnerKept s { s with grp := { s.grp with mirror := mapSet noDigest s.grp.mirror b out.digest } } :=
    ⟨rfl, rfl, rfl, rfl, rfl⟩
  have hlast (st : State) : OwnerKept st (leaveCache b (noteNorm o.step out.sumsq st)) := ⟨rfl, rfl, rfl, rfl, rfl⟩
  exact (((hmirror.trans (hupdated _)).trans (hchurn _)).trans (hnonfinite _)).trans (hlast _)

theorem setOther_spec (b : Nat) (v : OwnerBlock) (s : State) : otherBank (setOther b v s) b = v ∧
    (∀ a, curBank (setOther b v s) a = curBank s a) ∧ (setOther b v s).red.blocks = s.red.blocks ∧
      (setOther b v s).mem = s.mem ∧ (setOther b v s).tick = s.tick := by
  unfold setOther otherBank curBank
  split
  · simp
  · simp

/-- The state in which the pipe has written its block and the block's new bank. -/
def pipeWritten (b : Nat) (o : BlockS) (bank : OwnerBlock) (tensor step : Nat) (s : State) : State :=
  setOther b bank (setBlock b o (bindRefresh tensor step s).2)

/-- What the pipe forms of a block, which may come as carried. -/
def pipeFormed (b : Nat) (l : LayerRec) (bn : Nat) (carry : Bool) (s : State) : PipeOut :=
  let p := pipeInput s b l bn
  let o := blockS s b
  let exchanged := decide (1 < s.job.groups)
  pipeBlock p (carry || o.nonfinite) (exchanged && !o.home && decide (p.l.cls = 1)) (exchanged && o.home && decide (p.l.cls = 1))

/-- The block as the pipe leaves it, UPDATED. -/
def blockUpdated (b : Nat) (l : LayerRec) (bn : Nat) (carry : Bool) (s : State) : BlockS :=
  let p := pipeInput s b l bn
  let o := blockS s b
  let out := pipeFormed b l bn carry s
  let next := if carriedInStep p.l o then o.bexp else o.nextBexp
  let grad := ((List.range 4096).filter (inTensor p.l bn)).flatMap fun i => bytesLE 4 (gradWord (mapGet 0 o.acc i) o.bexp fpOne)
  { o with state := .updated, nextBexp := next, sumsq := out.sumsq, driftE := out.driftE, driftU := out.driftU
           doneStep := o.step + 1, mark := o.mark
           outSegs := outboundOf s p.l o (bindRefresh p.l.tensor o.step s).1 out next grad }

theorem pipeWrite_eq {b : Nat} {l : LayerRec} {bn : Nat} (carry : Bool) {s : State} (hlayer : layerAt s b = some (l, bn)) (s6 : State)
    (hs6 : s6 = pipeNoted b (pipeInput s b l bn).l (blockS s b) (pipeFormed b l bn carry s)
      ((carry || (blockS s b).nonfinite) || (pipeFormed b l bn carry s).nonfinite) (pipeWritten b (blockUpdated b l bn carry s)
        (pipeFormed b l bn carry s).bank (pipeInput s b l bn).l.tensor (blockS s b).step s)) :
    pipeWrite b carry s =
      if (blockS s b).step < s6.tick.step && s6.job.started then openRecord s6.tick.step b l bn s6 else s6 := by
  subst hs6
  unfold pipeWrite
  rw [hlayer]
  rfl

/-- The pipe leaves its block UPDATED, with the bank that it forms in the other one (R322). -/
theorem pipeWrite_spec {b : Nat} {l : LayerRec} {bn : Nat} {s : State} (hlayer : layerAt s b = some (l, bn))
    (hstep : s.tick.step ≤ (blockS s b).step) : blockS (pipeWrite b false s) b = blockUpdated b l bn false s ∧
      otherBank (pipeWrite b false s) b = (pipeFormed b l bn false s).bank ∧
      curBank (pipeWrite b false s) b = curBank s b ∧ (pipeWrite b false s).mem.ownerCur = s.mem.ownerCur := by
  have hbound := bindRefresh_ownerKept (pipeInput s b l bn).l.tensor (blockS s b).step s
  obtain ⟨hother, hcur, hblocks, hmem, htick⟩ := setOther_spec b (pipeFormed b l bn false s).bank
    (setBlock b (blockUpdated b l bn false s) (bindRefresh (pipeInput s b l bn).l.tensor (blockS s b).step s).2)
  have hsame : (pipeWritten b (blockUpdated b l bn false s) (pipeFormed b l bn false s).bank (pipeInput s b l bn).l.tensor
      (blockS s b).step s).tick = s.tick := htick.trans hbound.tick
  have hnoted := pipeNoted_ownerKept b (pipeInput s b l bn).l (blockS s b) (pipeFormed b l bn false s)
    ((false || (blockS s b).nonfinite) || (pipeFormed b l bn false s).nonfinite)
    (pipeWritten b (blockUpdated b l bn false s) (pipeFormed b l bn false s).bank (pipeInput s b l bn).l.tensor (blockS s b).step s)
  have hwritten := pipeWrite_eq false hlayer _ rfl
  rw [if_neg (by rw [hnoted.tick, hsame]; simpa using fun h => absurd h (Nat.not_lt.mpr hstep))] at hwritten
  rw [hwritten]
  refine ⟨?_, ?_, ?_, ?_⟩
  · rw [hnoted.blockS]
    exact (congrArg (fun m => mapGet ({} : BlockS) m b) hblocks).trans (blockS_setBlock_same _ _ _)
  · rw [hnoted.otherBank]
    exact hother
  · rw [hnoted.curBank]
    exact (hcur b).trans (hbound.curBank b)
  · rw [hnoted.current]
    exact (congrArg MemS.ownerCur hmem).trans hbound.current

theorem layerInStep_rule (s : State) (step : Nat) (l : LayerRec) :
    (layerInStep s step l).rule = l.rule ∧ (layerInStep s step l).wcFmt = l.wcFmt := by
  unfold layerInStep
  split <;> exact ⟨rfl, rfl⟩

/-! ## The region of a matrix rule (R326) -/

/-- A block of a matrix-rule tensor goes on to its update. -/
def startUpdate (b : Nat) (s : State) : State := leaveCache b (setBlock b { blockS s b with state := .updating } s)

theorem blockS_startUpdate_same (b : Nat) (s : State) : (blockS (startUpdate b s) b).state = .updating := by
  have hblock : blockS (startUpdate b s) b = { blockS s b with state := .updating } := blockS_setBlock_same _ _ _
  rw [hblock]

theorem blockS_startUpdate_ne {a b : Nat} (h : a ≠ b) (s : State) : blockS (startUpdate b s) a = blockS s a :=
  blockS_setBlock_ne (k := b) { blockS s b with state := .updating } s h

theorem each_startUpdate (l : List Nat) (s : State) : Only [.mem, .red] s (each l startUpdate s) ∧
    (∀ b, b ∉ l → blockS (each l startUpdate s) b = blockS s b) ∧
    ∀ b, (b ∈ l ∨ (blockS s b).state = .updating) → (blockS (each l startUpdate s) b).state = .updating := by
  induction l generalizing s with
  | nil => exact ⟨Only.refl _ _, fun _ _ => rfl, fun b h => h.resolve_left List.not_mem_nil⟩
  | cons a l ih =>
    obtain ⟨honly, hother, hmine⟩ := ih (startUpdate a s)
    have hfirst : Only [.mem, .red] s (startUpdate a s) := only_of_patch rfl
    refine ⟨(hfirst.trans honly).mono (by decide), fun b hb => ?_, fun b hb => hmine b ?_⟩
    · rw [List.mem_cons, not_or] at hb
      exact (hother b hb.2).trans (blockS_startUpdate_ne hb.1 s)
    · by_cases hab : b = a
      · exact .inr (hab ▸ blockS_startUpdate_same a s)
      · rw [blockS_startUpdate_ne hab]
        exact hb.imp_left fun h => (List.mem_cons.mp h).resolve_left hab

theorem regionSignalled_eq {tensor : BitVec 32} {s : State} (hready : Ready s)
    (hrule : isMatrixRule (mapGet {} s.red.layers tensor.toNat) = true)
    (hall : (blocksOf s tensor.toNat).all (totalReleased s) = true) (hsome : blocksOf s tensor.toNat ≠ []) :
    exec (.updateRegionSignal tensor) s = .next (each (blocksOf s tensor.toNat) startUpdate
      (emit (.signal (mapGet {} s.red.layers tensor.toNat).updateUnit (mapGet {} s.red.layers tensor.toNat).updateEntry 1) s)) := by
  have hmine : (blocksOf s tensor.toNat).filter (totalReleased s) = blocksOf s tensor.toNat :=
    List.filter_eq_self.mpr (List.all_eq_true.mp hall)
  have hfilled : (blocksOf s tensor.toNat).isEmpty = false := List.isEmpty_eq_false_iff.mpr hsome
  have hevery : (blocksOf s tensor.toNat).all (fun b => totalReleased s b || (blockS s b).nonfinite ||
      carriedInStep (mapGet {} s.red.layers tensor.toNat) (blockS s b)) = true :=
    List.all_eq_true.mpr fun b hb => by rw [List.all_eq_true.mp hall b hb]; rfl
  refine (next_of_ready hready rfl).trans (congrArg _ ?_)
  dsimp only
  rw [hmine, hrule, hfilled, hevery]
  rfl

/-! ## The segments of an updated block (R329) -/

theorem queueChunks_only (c rank kind : Nat) (chunks : List Nat) (s : State) : Only [.beam] s (queueChunks c rank kind chunks s) := by
  unfold queueChunks
  split
  · exact Only.refl _ _
  · exact only_of_patch rfl

theorem each_only {α : Type} {ps : List Part} {f : α → State → State} (h : ∀ a s, Only ps s (f a s)) (l : List α) (s : State) :
    Only ps s (each l f s) := by
  induction l generalizing s with
  | nil => exact Only.refl _ _
  | cons a l ih => exact ((h a s).trans (ih (f a s))).mono (List.append_subset.mpr ⟨List.Subset.refl ps, List.Subset.refl ps⟩)

section
variable {block : BitVec 32} {s : State} {l : LayerRec} {bn : Nat}

theorem outboundLeft (hready : Ready s) (hlayer : layerAt s block.toNat = some (l, bn))
    (hsegs : (blockS s block.toNat).outSegs ≠ []) (hlead : isLead s = false) :
    ∃ t, exec (.outboundWorkingCopy block) s = .next t ∧ (blockS t block.toNat).outSegs = [] ∧
      (∀ e, e ∈ (blockS s block.toNat).outSegs → Msg.segment (if e.1 = 3 then l.tensor + 0x80000000 else l.tensor)
        block.toNat e.1 ((blockS s block.toNat).doneStep - 1) e.2 ∈ t.sent) ∧
      counter t cOutSegBytes = counter s cOutSegBytes + ((blockS s block.toNat).outSegs.map (·.2.length)).sum ∧
      Only [.sent, .red, .counters, .beam] s t := by
  obtain ⟨msg, hmsg⟩ : ∃ msg : Nat × List Byte → Msg, msg = fun e => .segment (if e.1 = 3 then l.tensor + 0x80000000 else l.tensor)
      block.toNat e.1 ((blockS s block.toNat).doneStep - 1) e.2 := ⟨_, rfl⟩
  obtain ⟨heads, hheads, heq⟩ : ∃ heads : Nat × List Byte → State → State, (∀ e x, Only [.beam] x (heads e x)) ∧
      exec (.outboundWorkingCopy block) s = .next (reportDone (each (blockS s block.toNat).outSegs heads
        (count cOutSegBytes (((blockS s block.toNat).outSegs.map (·.2.length)).sum)
          (emitAll ((blockS s block.toNat).outSegs.map msg) (setBlock block.toNat { blockS s block.toNat with outSegs := [] } s))))) := by
    refine ⟨fun e x => if s.stream.ranks.isEmpty then x else
      queueChunks (nth 0 s.stream.ranks (block.toNat % max 1 s.stream.ranks.length)) 3 2
        ((Config.outHeader l.tensor block.toNat e.1 ((blockS s block.toNat).doneStep - 1)).map (·.toNat)) x, fun e x => ?_, ?_⟩
    · dsimp only
      split
      · exact Only.refl _ _
      · exact queueChunks_only _ _ _ _ _
    · subst hmsg
      refine (next_of_ready hready rfl).trans (congrArg _ ?_)
      have hfilled : (blockS s block.toNat).outSegs.isEmpty = false := List.isEmpty_eq_false_iff.mpr hsegs
      dsimp only
      rw [hlayer]
      dsimp only
      rw [hfilled]
      rfl
  obtain ⟨left, hleft⟩ : ∃ left, left = count cOutSegBytes (((blockS s block.toNat).outSegs.map (·.2.length)).sum)
      (emitAll ((blockS s block.toNat).outSegs.map msg) (setBlock block.toNat { blockS s block.toNat with outSegs := [] } s)) :=
    ⟨_, rfl⟩
  have hleftOnly : Only [.sent, .red, .counters] s left := by subst hleft; exact only_of_patch rfl
  have hblock : (blockS left block.toNat).outSegs = [] := by
    have hset : blockS left block.toNat = { blockS s block.toNat with outSegs := [] } := by
      subst hleft; exact blockS_setBlock_same _ _ _
    rw [hset]
  have hsent : left.sent = s.sent ++ (blockS s block.toNat).outSegs.map msg := by subst hleft; rfl
  have hcount : counter left cOutSegBytes =
      counter s cOutSegBytes + ((blockS s block.toNat).outSegs.map (·.2.length)).sum := by
    subst hleft; exact counter_count_same _ _ _
  rw [← hleft] at heq
  obtain ⟨queued, hqueued⟩ : ∃ queued, queued = each (blockS s block.toNat).outSegs heads left := ⟨_, rfl⟩
  have hqueuedOnly : Only [.beam] left queued := hqueued ▸ each_only hheads _ _
  rw [← hqueued] at heq
  have hmember : isLead queued = false := (congrArg (fun j : JobS => decide (j.role = .lead))
    ((hqueuedOnly .job (by decide)).trans (hleftOnly .job (by decide)))).trans hlead
  obtain ⟨hkept, hdoneOnly, ms, hreport⟩ := reportDone_of_member hmember
  have hred : queued.red = left.red := hqueuedOnly .red (by decide)
  have hcounters : (reportDone queued).counters = left.counters :=
    (hdoneOnly .counters (by decide)).trans (hqueuedOnly .counters (by decide))
  refine ⟨_, heq, ?_, fun e he => ?_, ?_, ?_⟩
  · rw [hkept.blockS, show blockS queued block.toNat = blockS left block.toNat by simp only [Machine.blockS, hred], hblock]
  · rw [hreport, hqueuedOnly .sent (by decide), hsent]
    exact List.mem_append_left _ (List.mem_append_right _ (List.mem_map.mpr ⟨e, he, by rw [hmsg]⟩))
  · rw [counter_congr hcounters, hcount]
  · exact ((hleftOnly.trans hqueuedOnly).trans hdoneOnly).mono (by decide)

theorem updateDone_spec (hready : Ready s) (hlayer : layerAt s block.toNat = some (l, bn))
    (hstate : (blockS s block.toNat).state = .updating) (hlead : isLead s = false)
    (hstep : s.tick.step ≤ (blockS s block.toNat).step) :
    ∃ t, exec (.blockUpdateDone block true) s = .next t ∧ blockS t block.toNat = blockUpdated block.toNat l bn false s ∧
      otherBank t block.toNat = (pipeFormed block.toNat l bn false s).bank ∧ curBank t block.toNat = curBank s block.toNat ∧
      t.mem.ownerCur = s.mem.ownerCur := by
  have heq : exec (.blockUpdateDone block true) s = .next (reportDone (pipeWrite block.toNat false s)) := by
    refine (next_of_ready hready rfl).trans (congrArg _ ?_)
    dsimp only
    rw [if_neg (by simp [hstate]), if_pos rfl]
  have hmember : isLead (pipeWrite block.toNat false s) = false :=
    (congrArg (fun j : JobS => decide (j.role = .lead)) ((pipeWrite_grows _ _ _).same .job rfl)).trans hlead
  obtain ⟨hblock, hother, hcur, howner⟩ := pipeWrite_spec hlayer hstep
  obtain ⟨hkept, -, -⟩ := reportDone_of_member hmember
  exact ⟨_, heq, (hkept.blockS _).trans hblock, (hkept.otherBank _).trans hother, (hkept.curBank _).trans hcur,
    hkept.current.trans howner⟩

theorem residueRedone (hready : Ready s) (hstate : (blockS s block.toNat).state = .updating)
    (hredone : (blockS s block.toNat).redone = 0) : exec (.blockUpdateDone block false) s =
      .next (count cResidue 1 (setBlock block.toNat { blockS s block.toNat with redone := 1 } s)) := by
  refine (next_of_ready hready rfl).trans (congrArg _ ?_)
  dsimp only
  rw [if_neg (by simp [hstate]), hredone]
  rfl

end

theorem master_pipeFormed {b : Nat} {l : LayerRec} {bn : Nat} {s : State} (hrule : l.rule < 4) (hfmt : l.wcFmt ≠ 10) {i : Nat}
    (hi : i < 4096) : mapGet 0 (pipeFormed b l bn false s).bank.master i =
      (elemOut (pipeInput s b l bn) (blockS s b).nonfinite i).w := by
  obtain ⟨hsameRule, hsameFmt⟩ := layerInStep_rule s (blockS s b).step l
  have hfinite : (pipeInput s b l bn).l.wcFmt ≠ 10 := fun h => hfmt (hsameFmt.symm.trans h)
  have helement : isMatrixRule (pipeInput s b l bn).l = false := by
    have : (pipeInput s b l bn).l.rule = l.rule := hsameRule
    simp only [isMatrixRule, this, Bool.or_eq_false_iff, decide_eq_false_iff_not]
    omega
  unfold pipeFormed
  dsimp only
  rw [(pipeBlock_of_finite hfinite).1, master_pipePass helement hi]
  rfl

/-- Settles O26: one clause each for the pipe's end, the failed check, the matrix rule's region and the outbound segments. -/
theorem blocksAreUpdated : Obligations.BlocksAreUpdated := by
  unfold Obligations.BlocksAreUpdated
  refine ⟨fun block s l bn hready hlayer hstate hlead hstep _ hrule hfmt => ?_, fun block s hready hstate hredone => ?_,
    fun tensor s hready hrule hall hsome => ?_, fun block s l bn hready hlayer hsegs hlead _ => ?_⟩
  · obtain ⟨t, heq, hblock, hother, hcur, howner⟩ := updateDone_spec hready hlayer hstate hlead hstep
    have hmaster (i : Nat) (hi : i < 4096) : mapGet 0 (otherBank t block.toNat).master i =
        (elemOut (pipeInput s block.toNat l bn) (blockS s block.toNat).nonfinite i).w := by
      rw [hother, master_pipeFormed hrule hfmt hi]
    refine ⟨t, heq, hblock ▸ rfl, hblock ▸ rfl, hmaster, fun i hi hkept => ?_, hcur, howner⟩
    rw [hmaster i hi, elemOut_of_kept hkept]
    rfl
  · refine ⟨_, residueRedone hready hstate hredone, ?_, ?_, counter_count_same _ _ _, rfl, only_of_patch rfl⟩
    all_goals
      have hblock : blockS (count cResidue 1 (setBlock block.toNat { blockS s block.toNat with redone := 1 } s)) block.toNat =
        { blockS s block.toNat with redone := 1 } := blockS_setBlock_same _ _ _
      rw [hblock]
    exact hstate
  · obtain ⟨honly, hother, hmine⟩ := each_startUpdate (blocksOf s tensor.toNat) (emit (.signal
      (mapGet {} s.red.layers tensor.toNat).updateUnit (mapGet {} s.red.layers tensor.toNat).updateEntry 1) s)
    have hfirst : Only [.sent] s (emit (.signal (mapGet {} s.red.layers tensor.toNat).updateUnit
      (mapGet {} s.red.layers tensor.toNat).updateEntry 1) s) := only_of_patch rfl
    exact ⟨_, regionSignalled_eq hready hrule hall hsome, honly .sent (by decide), fun b hb => hmine b (.inl hb),
      hother, (hfirst.trans honly).mono (by decide)⟩
  · exact outboundLeft hready hlayer hsegs hlead

end Sys2Proof.Machine

/-! SUPPORT. The commit of a step and reconcile copies (R332, R333, R493). -/

namespace Sys2Proof.Machine

/-! ## What a commit's last operations keep -/

/-- What the commit of a step sets once: nothing after it in the same command changes these. -/
structure CommitKept (s t : State) : Prop where
  events : t.host.eventNumber = s.host.eventNumber
  current : t.mem.ownerCur = s.mem.ownerCur
  committed : t.red.committed = s.red.committed
  clip : t.red.clipFactor = s.red.clipFactor
  reported : t.red.groupReported = s.red.groupReported
  rollback : t.grp.mirrorRollback = s.grp.mirrorRollback

theorem CommitKept.refl (s : State) : CommitKept s s := ⟨rfl, rfl, rfl, rfl, rfl, rfl⟩

theorem CommitKept.trans {s t u : State} (h : CommitKept s t) (k : CommitKept t u) : CommitKept s u :=
  ⟨k.events.trans h.events, k.current.trans h.current, k.committed.trans h.committed, k.clip.trans h.clip,
    k.reported.trans h.reported, k.rollback.trans h.rollback⟩

theorem CommitKept.each {α : Type} {f : α → State → State} (h : ∀ a s, CommitKept s (f a s)) (l : List α) (s : State) :
    CommitKept s (each l f s) := by
  induction l generalizing s with
  | nil => exact .refl s
  | cons a l ih => exact (h a s).trans (ih (f a s))

theorem setBlock_commitKept (b : Nat) (o : BlockS) (s : State) : CommitKept s (setBlock b o s) := ⟨rfl, rfl, rfl, rfl, rfl, rfl⟩

theorem noteUpdated_commitKept (step tensor : Nat) (s : State) : CommitKept s (noteUpdated step tensor s) := by
  unfold noteUpdated
  split <;> exact ⟨rfl, rfl, rfl, rfl, rfl, rfl⟩

theorem bindRefresh_commitKept (tensor step : Nat) (s : State) : CommitKept s (bindRefresh tensor step s).2 := by
  unfold bindRefresh
  dsimp only
  split
  · exact .refl s
  · split
    · exact ⟨rfl, rfl, rfl, rfl, rfl, rfl⟩
    · split <;> exact ⟨rfl, rfl, rfl, rfl, rfl, rfl⟩

theorem setOther_commitKept (b : Nat) (v : OwnerBlock) (s : State) : CommitKept s (setOther b v s) := by
  unfold setOther
  split <;> exact ⟨rfl, rfl, rfl, rfl, rfl, rfl⟩

/-- A block that is carried raises no event. -/
theorem pipeNoted_commitKept (b : Nat) (l : LayerRec) (o : BlockS) (out : PipeOut) (s : State) :
    CommitKept s (pipeNoted b l o out true s) := by
  have hnonfinite (st : State) : CommitKept st
      (if (o.nonfinite || out.nonfinite) && !carriedInStep l o then noteNonfinite l.tensor st else st) := by
    split
    · exact ⟨rfl, rfl, rfl, rfl, rfl, rfl⟩
    · exact .refl st
  have hmirror : CommitKept s { s with grp := { s.grp with mirror := mapSet noDigest s.grp.mirror b out.digest } } :=
    ⟨rfl, rfl, rfl, rfl, rfl, rfl⟩
  have hlast (st : State) : CommitKept st (leaveCache b (noteNorm o.step out.sumsq st)) := ⟨rfl, rfl, rfl, rfl, rfl, rfl⟩
  unfold pipeNoted
  simp only [or_true, if_true]
  exact (hmirror.trans (hnonfinite _)).trans (hlast _)

theorem openRecord_commitKept (step b : Nat) (l : LayerRec) (bn : Nat) (s : State) : CommitKept s (openRecord step b l bn s) :=
  ⟨rfl, rfl, rfl, rfl, rfl, rfl⟩

theorem pipeWrite_carried_commitKept (b : Nat) (s : State) : CommitKept s (pipeWrite b true s) := by
  cases hlayer : layerAt s b with
  | none =>
    unfold pipeWrite
    rw [hlayer]
    exact .refl s
  | some r =>
    obtain ⟨l, bn⟩ := r
    rw [pipeWrite_eq true hlayer _ rfl, Bool.true_or, Bool.true_or]
    have hwritten : CommitKept s (pipeWritten b (blockUpdated b l bn true s) (pipeFormed b l bn true s).bank
        (pipeInput s b l bn).l.tensor (blockS s b).step s) :=
      ((bindRefresh_commitKept _ _ s).trans (setBlock_commitKept _ _ _)).trans (setOther_commitKept _ _ _)
    have hnoted := hwritten.trans (pipeNoted_commitKept b (pipeInput s b l bn).l (blockS s b) (pipeFormed b l bn true s) _)
    split
    · exact hnoted.trans (openRecord_commitKept _ _ _ _ _)
    · exact hnoted

theorem trigger_commitKept (b : Nat) (s : State) : CommitKept s (trigger b s) := by
  unfold trigger
  split
  · exact .refl s
  · dsimp only
    split
    · exact setBlock_commitKept _ _ _
    · split
      · exact pipeWrite_carried_commitKept b s
      · split
        · exact setBlock_commitKept _ _ _
        · exact ⟨rfl, rfl, rfl, rfl, rfl, rfl⟩

theorem releaseWaiting_commitKept (s : State) : CommitKept s (releaseWaiting s) := by
  refine .each (fun b st => ?_) _ s
  split
  · exact trigger_commitKept b st
  · exact .refl st

theorem reconcile_commitKept (step : Nat) (s : State) : CommitKept s (reconcile step s) := by
  unfold reconcile
  split
  · exact .refl s
  · refine .each (fun b st => ?_) _ s
    have hforced (st1 : State) (h : CommitKept st st1) : CommitKept st (if st.job.group = 0 then
        emit (.reconcileCopy b (curBank st1 b)) (count cMirReconciled 1 (setBlock b { blockS st1 b with mark := false } st1))
      else setBlock b { blockS st1 b with repairWait := true } st1) := by
      split
      · exact h.trans ⟨rfl, rfl, rfl, rfl, rfl, rfl⟩
      · exact h.trans (setBlock_commitKept _ _ _)
    refine hforced (match layerAt st b with | some (l, _) => forceRefresh l.tensor st | none => st) ?_
    split
    · exact ⟨rfl, rfl, rfl, rfl, rfl, rfl⟩
    · exact .refl st

/-! ## The commit -/

/-- The state in which the step has committed and its event has gone, before the blocks that it releases. -/
def stepCommitted (step k : Nat) (s : State) : State :=
  let s1 := { s with mem := { s.mem with ownerCur := !s.mem.ownerCur } }
  let s2 := addUpdates step { s1 with red := { s1.red with
    committed := step, reports := [], groupReported := [], mirrorDone := false, nonfiniteTensor := none, groupNorm := 0
    groupBad := none
    blocks := s1.red.blocks.foldl (fun m e => mapSet {} m e.1 (commitRecord step e.2)) []
    params := s1.red.params.filter fun e => decide (step ≤ e.1) } }
  let s3 := event 0x8002 0 (stepJournal 0 step 0 0 s2)
  putClip (step + 1) (takeClip (some k) { s3 with grp := { s3.grp with
    repaired := 0, marked := 0, totalKeep := mapFilter (fun k _ => decide (k % 2 ≠ step % 2)) s3.grp.totalKeep } })

/-- What a step's commit leaves. -/
structure Commits (step k : Nat) (s t : State) : Prop where
  events : t.host.eventNumber = s.host.eventNumber + 1
  current : t.mem.ownerCur = !s.mem.ownerCur
  committed : t.red.committed = step
  clip : t.red.clipFactor = k
  reported : t.red.groupReported = []
  rollback : t.grp.mirrorRollback = s.grp.mirrorRollback

theorem Commits.kept {step k : Nat} {s t u : State} (h : Commits step k s t) (hk : CommitKept t u) : Commits step k s u :=
  ⟨hk.events.trans h.events, hk.current.trans h.current, hk.committed.trans h.committed, hk.clip.trans h.clip,
    hk.reported.trans h.reported, hk.rollback.trans h.rollback⟩

theorem stepCommitted_commits (step k : Nat) (s : State) : Commits step k s (stepCommitted step k s) := by
  obtain ⟨u, hu⟩ : ∃ u, u = stepJournal 0 step 0 0 (addUpdates step { s with
      mem := { s.mem with ownerCur := !s.mem.ownerCur }
      red := { s.red with
        committed := step, reports := [], groupReported := [], mirrorDone := false, nonfiniteTensor := none, groupNorm := 0
        groupBad := none
        blocks := s.red.blocks.foldl (fun m e => mapSet {} m e.1 (commitRecord step e.2)) []
        params := s.red.params.filter fun e => decide (step ≤ e.1) } }) := ⟨_, rfl⟩
  have hred : (event 0x8002 0 u).red = u.red := (event_grows _ _ u).same .red rfl
  have hgrp : (event 0x8002 0 u).grp = u.grp := event_grp _ _ u
  have hstate : stepCommitted step k s = putClip (step + 1) (takeClip (some k) { event 0x8002 0 u with
      grp := { (event 0x8002 0 u).grp with
        repaired := 0, marked := 0
        totalKeep := mapFilter (fun k _ => decide (k % 2 ≠ step % 2)) (event 0x8002 0 u).grp.totalKeep } }) := by
    rw [hu]; rfl
  have hcurrent : (event 0x8002 0 u).mem.ownerCur = u.mem.ownerCur := congrArg (a₁ := memRest (event 0x8002 0 u)) (a₂ := memRest u) MemS.ownerCur (event_memRest _ _ u)
  rw [hstate]
  refine ⟨(event_eventNumber _ _ u).trans ?_, hcurrent.trans ?_, (congrArg ReduceS.committed hred).trans ?_, rfl,
    (congrArg ReduceS.groupReported hred).trans ?_, (congrArg GroupS.mirrorRollback hgrp).trans ?_⟩
  all_goals rw [hu]; rfl

theorem applyCommit_commits {step k : Nat} {s : State} (hnext : step = s.red.committed + 1) (hstarted : s.job.started = true) :
    Commits step k s (applyCommit step (some k) s) := by
  have hgoes : (decide (step ≠ s.red.committed + 1) || !s.job.started) = false := by simp [hnext, hstarted]
  have hreleased : Commits step k s (releaseWaiting (reconcile step (stepCommitted step k s))) :=
    ((stepCommitted_commits step k s).kept (reconcile_commitKept _ _)).kept (releaseWaiting_commitKept _)
  have heq : applyCommit step (some k) s =
      if pausedAfter step (releaseWaiting (reconcile step (stepCommitted step k s))) then
        stopStream false (releaseWaiting (reconcile step (stepCommitted step k s)))
      else releaseWaiting (reconcile step (stepCommitted step k s)) := by
    unfold applyCommit
    rw [hgoes, if_neg Bool.false_ne_true]
    rfl
  rw [heq]
  split
  · exact hreleased.kept ⟨rfl, rfl, rfl, rfl, rfl, rfl⟩
  · exact hreleased

/-! ## Reports and notices (R332) -/

section
variable {group : GroupId} {member : MemberId} {norm : BitVec 32} {s : State}

/-- A group's first report, before the job lead looks whether the step may commit. -/
def groupNoted (g : Nat) (s : State) : State := { s with red := { s.red with groupReported := s.red.groupReported ++ [g] } }

theorem groupReport_first {g : Nat} (hfirst : g ∉ s.red.groupReported) :
    groupReport g none s = tryCommit (groupNoted g s) := by
  have hnew : s.red.groupReported.contains g = false := by simpa using hfirst
  have heq : groupReport g none s = tryCommit { s with red := { s.red with
      groupReported := if s.red.groupReported.contains g then s.red.groupReported else s.red.groupReported ++ [g] } } := rfl
  rw [heq, hnew, if_neg Bool.false_ne_true]
  rfl

theorem groupReported_eq (hready : Ready s) (hlead : isJobLead s = true) (hstarted : s.job.started = true)
    (hfirst : group.val ∉ s.red.groupReported) :
    exec (.updateDoneReport group member true none norm) s = .next (tryCommit (groupNoted group.val s)) := by
  have hisLead : isLead s = true := (Bool.and_eq_true _ _ ▸ hlead).1
  refine (next_of_ready hready rfl).trans (congrArg _ ?_)
  rw [hisLead, hstarted, hlead]
  exact groupReport_first hfirst

theorem tryCommit_of_missing {g : Nat} (hmissing : (List.range s.job.groups).all (s.red.groupReported ++ [g]).contains = false) :
    tryCommit (groupNoted g s) = groupNoted g s := by
  refine if_neg ?_
  have hall : (List.range (groupNoted g s).job.groups).all (groupNoted g s).red.groupReported.contains = false := hmissing
  rw [hall, Bool.and_false, Bool.false_and]
  exact Bool.false_ne_true

theorem tryCommit_of_complete {g : Nat} (hlead : isJobLead s = true) (hmirror : s.red.mirrorDone = true)
    (hcomplete : (List.range s.job.groups).all (s.red.groupReported ++ [g]).contains = true) :
    tryCommit (groupNoted g s) = commitJob (groupNoted g s) := by
  refine if_pos ?_
  have hall : (List.range (groupNoted g s).job.groups).all (groupNoted g s).red.groupReported.contains = true := hcomplete
  have hjobLead : isJobLead (groupNoted g s) = true := hlead
  have hdone : (groupNoted g s).red.mirrorDone = true := hmirror
  rw [hall, hjobLead, hdone, Bool.or_true]
  rfl

/-- The state in which the commit's notice has gone, and the pause that its last nonfinite step asks for is noted. -/
def commitSent (s : State) : State :=
  let step := s.red.committed + 1
  let bad := decide (s.red.nonfiniteStep = step + 1)
  let run := if bad then s.red.nonfiniteRun + 1 else 0
  let s1 := emit (.commit step s.red.roll (clipOf s)) { s with red := { s.red with nonfiniteRun := run } }
  if bad && decide (run = s.red.nonfiniteSteps) then { s1 with job := { s1.job with pauseFor := s1.job.pauseFor ++ [11] } } else s1

theorem pauseNoted_kept (on : Bool) (st : State) (u : State)
    (hu : u = if on then { st with job := { st.job with pauseFor := st.job.pauseFor ++ [11] } } else st) :
    u.sent = st.sent ∧ u.red = st.red ∧ u.job.started = st.job.started ∧ u.host = st.host ∧ u.mem = st.mem ∧ u.grp = st.grp := by
  subst hu
  cases on <;> exact ⟨rfl, rfl, rfl, rfl, rfl, rfl⟩

/-- The job lead's commit, where no repair asks for the rollback to it. -/
theorem commitJob_commits (hstarted : s.job.started = true) (hroll : s.grp.mirrorRollback = false) :
    Commits (s.red.committed + 1) (clipOf s) s (commitJob s) ∧
      Msg.commit (s.red.committed + 1) s.red.roll (clipOf s) ∈ (commitJob s).sent := by
  obtain ⟨hsent, hred, hjob, hhost, hmem, hgrp⟩ := pauseNoted_kept _ _ (commitSent s) rfl
  replace hsent : (commitSent s).sent = s.sent ++ [Msg.commit (s.red.committed + 1) s.red.roll (clipOf s)] := hsent
  replace hred : (commitSent s).red.committed = s.red.committed := (congrArg ReduceS.committed hred).trans rfl
  replace hjob : (commitSent s).job.started = s.job.started := hjob
  replace hhost : (commitSent s).host = s.host := hhost
  replace hmem : (commitSent s).mem = s.mem := hmem
  replace hgrp : (commitSent s).grp = s.grp := hgrp
  have heq : commitJob s = if (applyCommit (s.red.committed + 1) (some (clipOf s)) (commitSent s)).grp.mirrorRollback then
      requestRollback 10 { applyCommit (s.red.committed + 1) (some (clipOf s)) (commitSent s) with
        grp := { (applyCommit (s.red.committed + 1) (some (clipOf s)) (commitSent s)).grp with mirrorRollback := false } }
      else applyCommit (s.red.committed + 1) (some (clipOf s)) (commitSent s) := rfl
  obtain ⟨u, hu⟩ : ∃ u, u = commitSent s := ⟨_, rfl⟩
  rw [← hu] at hsent hred hjob hhost hmem hgrp heq
  have happlied := applyCommit_commits (k := clipOf s) (s := u) (by rw [hred]) (hjob.trans hstarted)
  rw [if_neg (by rw [happlied.rollback, hgrp, hroll]; exact Bool.false_ne_true)] at heq
  rw [heq]
  refine ⟨⟨?_, ?_, happlied.committed, happlied.clip, happlied.reported, ?_⟩, ?_⟩
  · rw [happlied.events, hhost]
  · rw [happlied.current, hmem]
  · rw [happlied.rollback, hgrp]
  · exact (applyCommit_grows _ _ u).sent.subset (hsent ▸ List.mem_append_right _ (List.mem_singleton.mpr rfl))

theorem memberReported_eq (hready : Ready s) (hlead : isLead s = true) (hstarted : s.job.started = true)
    (hgroup : group.val = s.job.group) (hfirst : member.val ∉ s.red.reports)
    (hmissing : (groupOwners s s.job.group).all (s.red.reports ++ [member.val]).contains = false) :
    exec (.updateDoneReport group member false none norm) s = .next { s with red := { s.red with
      reports := s.red.reports ++ [member.val], groupNorm := fpAdd false s.red.groupNorm norm.toNat
      groupBad := match s.red.groupBad with | some t => some t | none => none } } := by
  have hnew : s.red.reports.contains member.val = false := by simpa using hfirst
  refine (next_of_ready hready rfl).trans (congrArg _ ?_)
  rw [hlead, hstarted]
  refine (if_pos hgroup).trans ?_
  unfold memberReport
  dsimp only
  rw [hnew, if_neg Bool.false_ne_true]
  have hlast (st : State) (hst : (groupOwners st st.job.group).all st.red.reports.contains = false) :
      (if (groupOwners st st.job.group).all st.red.reports.contains then
        (if isJobLead st then groupReport st.job.group none st
         else emit (.groupDone st.job.group (st.red.committed + 1) st.red.groupBad) st) else st) = st :=
    if_neg (by rw [hst]; exact Bool.false_ne_true)
  split
  · exact hlast { s with red := { s.red with
      reports := s.red.reports ++ [member.val], groupNorm := fpAdd false s.red.groupNorm norm.toNat
      groupBad := match s.red.groupBad with | some t => some t | none => none } } hmissing
  · exact hlast { s with red := { s.red with
      reports := s.red.reports ++ [member.val], groupNorm := fpAdd false s.red.groupNorm norm.toNat
      groupBad := match s.red.groupBad with | some t => some t | none => none } } hmissing

theorem noticeNoted_eq {τ : Nat} {step : BitVec 40} {roll : BitVec 8} {clip : BitVec 32} (hready : Ready s)
    (hstarted : s.job.started = true) (hroll : roll.toNat = s.red.roll) (hnext : step.toNat = s.red.committed + 1) :
    ∃ t, exec (.commitNotice τ step roll clip) s = .next t ∧ Commits step.toNat clip.toNat (atTime τ s) t :=
  ⟨_, (next_of_ready hready rfl).trans (congrArg _ (if_pos hroll)), applyCommit_commits hnext hstarted⟩

theorem noticeDropped_eq {τ : Nat} {step : BitVec 40} {roll : BitVec 8} {clip : BitVec 32} (hready : Ready s)
    (hother : roll.toNat ≠ s.red.roll ∨ step.toNat ≠ s.red.committed + 1) :
    exec (.commitNotice τ step roll clip) s = .next (atTime τ s) := by
  refine (next_of_ready hready rfl).trans (congrArg _ ?_)
  by_cases hroll : roll.toNat = s.red.roll
  · refine (if_pos hroll).trans (if_pos ?_)
    have hstep : step.toNat ≠ (atTime τ s).red.committed + 1 := hother.resolve_left (not_not.mpr hroll)
    simp only [hstep, ne_eq, not_false_eq_true, decide_true, Bool.true_or]
  · exact if_neg hroll

end

/-! ## Reconcile copies (R493) -/

theorem setCur_spec (b : Nat) (v : OwnerBlock) (s : State) : curBank (setCur b v s) b = v ∧
    (∀ a, otherBank (setCur b v s) a = otherBank s a) ∧ (setCur b v s).red.blocks = s.red.blocks ∧
      (setCur b v s).red.layers = s.red.layers ∧ (setCur b v s).counters = s.counters ∧ Only [.red] s (setCur b v s) := by
  unfold setCur curBank otherBank
  cases hcur : s.mem.ownerCur
  all_goals
    simp only [Bool.false_eq_true, if_true, if_false, mapGet_mapSet_same, implies_true, true_and, hcur]
    exact only_of_patch rfl

theorem layerAt_congr {s t : State} (h : t.red.layers = s.red.layers) (b : Nat) : layerAt t b = layerAt s b := by
  simp only [layerAt, ownLayers, h]

/-- The new drift of a block changes nothing else of it, nor its banks. -/
theorem reformDrift_spec {b : Nat} {r : LayerRec × Nat} {s : State} (hlayer : layerAt s b = some r) : ∃ e u,
    reformDrift b s = setBlock b { blockS s b with driftE := e, driftU := u } s := by
  unfold reformDrift
  rw [hlayer]
  exact ⟨_, _, rfl⟩

theorem banks_of_counted (k n b a : Nat) (o : BlockS) (s : State) : curBank (count k n (setBlock b o s)) a = curBank s a ∧
    otherBank (count k n (setBlock b o s)) a = otherBank s a := ⟨rfl, rfl⟩

section
variable {block : BitVec 32} {bank : OwnerBlock} {s : State} {r : LayerRec × Nat}

theorem copyTaken (hready : Ready s) (hlayer : layerAt s block.toNat = some r) (hshadow : shadowAt s block.toNat = none)
    (hmark : (blockS s block.toNat).mark = true) (hrepair : (blockS s block.toNat).repairWait = false)
    (hwait : (blockS s block.toNat).state ≠ .waitCommit) : ∃ e u,
    exec (.reconcileCopy block bank) s = .next (count cMirReconciled 1 (setBlock block.toNat
      { blockS s block.toNat with mark := false, repairWait := false, driftE := e, driftU := u }
      (setCur block.toNat bank (setBlock block.toNat { blockS s block.toNat with mark := false, repairWait := false } s)))) := by
  obtain ⟨u, hu⟩ : ∃ u, u = setCur block.toNat bank
      (setBlock block.toNat { blockS s block.toNat with mark := false, repairWait := false } s) := ⟨_, rfl⟩
  obtain ⟨-, -, hblocks, hlayers, -, -⟩ := setCur_spec block.toNat bank
    (setBlock block.toNat { blockS s block.toNat with mark := false, repairWait := false } s)
  rw [← hu] at hblocks hlayers
  have hlayerU : layerAt u block.toNat = some r :=
    (layerAt_congr (s := setBlock block.toNat { blockS s block.toNat with mark := false, repairWait := false } s) hlayers _).trans hlayer
  have hblockU : blockS u block.toNat = { blockS s block.toNat with mark := false, repairWait := false } :=
    (congrArg (fun m => mapGet ({} : BlockS) m block.toNat) hblocks).trans (blockS_setBlock_same _ _ _)
  obtain ⟨e, d, hdrift⟩ := reformDrift_spec hlayerU
  rw [hblockU] at hdrift
  have hwants : shadowWants s block.toNat = false := by simp only [shadowWants, hshadow, Option.isSome_none, Bool.false_and]
  have hdue : repairDue s block.toNat = false := by simp only [repairDue, hrepair, Bool.false_and]
  have hsome : ¬ (layerAt s block.toNat).isNone = true := by rw [hlayer]; exact Bool.false_ne_true
  have hnotWanted : ¬ (shadowWants s block.toNat && !(blockS s block.toNat).mark && !(blockS s block.toNat).repairWait) = true := by
    rw [hwants]; exact Bool.false_ne_true
  have hleft (st : State) (o : BlockS) : blockS (count cMirReconciled 1 (setBlock block.toNat o st)) block.toNat = o :=
    blockS_setBlock_same _ _ _
  obtain ⟨v, hv⟩ : ∃ v, v = if (blockS s block.toNat).mark then count cMirReconciled 1 (reformDrift block.toNat u)
      else reformDrift block.toNat u := ⟨_, rfl⟩
  have htaken : exec (.reconcileCopy block bank) s =
      .next (if (blockS v block.toNat).state = .waitCommit then trigger block.toNat v else v) := by
    subst hv
    subst hu
    exact (next_of_ready hready rfl).trans (congrArg _
      ((if_neg hnotWanted).trans ((if_neg (by rw [hdue]; exact Bool.false_ne_true)).trans (if_neg hsome))))
  rw [hmark, if_pos rfl, hdrift] at hv
  have hstate : (blockS v block.toNat).state = (blockS s block.toNat).state := by rw [hv, hleft]
  refine ⟨e, d, htaken.trans (congrArg _ ?_)⟩
  rw [if_neg (by rw [hstate]; exact hwait), hv, hu]

end

/-- Settles O27: one clause each for the reports, the commit, the notice and the reconcile copy. -/
theorem stepsCommit : Obligations.StepsCommit := by
  unfold Obligations.StepsCommit
  refine ⟨fun group member norm s hready hlead hstarted hmissing hfirst => ?_,
    fun group member norm s hready hlead hstarted hgroup hfirst hmissing => ?_,
    fun group member norm s hready hlead hstarted hcomplete hfirst hmirror hroll => ?_,
    fun τ step roll clip s hready hstarted hroll hnext _ => ?_, fun τ step roll clip s hready hother => ?_,
    fun block bank s r hready hlayer hshadow hmark hrepair hwait => ?_⟩
  · exact ⟨_, (groupReported_eq hready hlead hstarted hfirst).trans (congrArg _ (tryCommit_of_missing hmissing)), rfl, rfl,
      only_of_patch rfl⟩
  · exact ⟨_, memberReported_eq hready hlead hstarted hgroup hfirst hmissing, rfl, rfl, rfl, only_of_patch rfl⟩
  · obtain ⟨hcommits, hsent⟩ := commitJob_commits (s := groupNoted group.val s) hstarted hroll
    exact ⟨_, (groupReported_eq hready hlead hstarted hfirst).trans
      (congrArg _ (tryCommit_of_complete hlead hmirror hcomplete)), hcommits.committed, hcommits.current, hcommits.reported, hsent⟩
  · obtain ⟨t, heq, hcommits⟩ := noticeNoted_eq (clip := clip) (τ := τ) hready hstarted hroll hnext
    exact ⟨t, heq, hcommits.committed, hcommits.current, hcommits.clip, hcommits.events⟩
  · exact ⟨_, noticeDropped_eq hready hother, only_of_patch rfl⟩
  · obtain ⟨e, d, heq⟩ := copyTaken (bank := bank) hready hlayer hshadow hmark hrepair hwait
    obtain ⟨hcur, hother, -, -, hcounters, honly⟩ := setCur_spec block.toNat bank
      (setBlock block.toNat { blockS s block.toNat with mark := false, repairWait := false } s)
    have hblock : blockS (count cMirReconciled 1 (setBlock block.toNat
        { blockS s block.toNat with mark := false, repairWait := false, driftE := e, driftU := d }
        (setCur block.toNat bank (setBlock block.toNat { blockS s block.toNat with mark := false, repairWait := false } s))))
          block.toNat = { blockS s block.toNat with mark := false, repairWait := false, driftE := e, driftU := d } :=
      blockS_setBlock_same _ _ _
    have hother' : otherBank (setBlock block.toNat { blockS s block.toNat with mark := false, repairWait := false } s) block.toNat =
      otherBank s block.toNat := (banks_of_counted 0 0 block.toNat block.toNat _ s).2
    refine ⟨_, heq, (banks_of_counted _ _ _ _ _ _).1.trans hcur,
      (banks_of_counted _ _ _ _ _ _).2.trans ((hother _).trans hother'), (congrArg BlockS.mark hblock).trans rfl, (congrArg BlockS.state hblock).trans rfl, (counter_count_same _ _ _).trans ?_, ?_⟩
    · have hsame (o : BlockS) : (setBlock block.toNat o (setCur block.toNat bank (setBlock block.toNat
          { blockS s block.toNat with mark := false, repairWait := false } s))).counters = s.counters := hcounters
      exact congrArg (· + 1) (counter_congr (hsame _) _)
    · have hfirst : Only [.red] s (setBlock block.toNat { blockS s block.toNat with mark := false, repairWait := false } s) :=
        only_of_patch rfl
      have hlast (o : BlockS) (st : State) : Only [.red, .counters] st (count cMirReconciled 1 (setBlock block.toNat o st)) :=
        only_of_patch rfl
      exact ((hfirst.trans honly).trans (hlast _ _)).mono (by decide)

end Sys2Proof.Machine

/-! SUPPORT. Lanes train, retrain and retire (R340, R355, R356, Table 11.6). -/

namespace Sys2Proof.Machine

/-! ## What a retrain and a lost peer leave of the lanes -/

theorem laneS_congr {s t : State} (h : t.beam.lanes = s.beam.lanes) (c : Nat) : laneS t c = laneS s c := by
  simp only [laneS, h]

theorem pauseOff_lanes (m : Nat) (s : State) : (pauseOff m s).beam.lanes = s.beam.lanes := by
  unfold pauseOff
  dsimp only
  split
  · rfl
  · split <;> rfl

theorem noteRetrain_lanes (c : Nat) (begins : Bool) (s : State) : (noteRetrain c begins s).beam.lanes = s.beam.lanes := by
  unfold noteRetrain
  split
  · rfl
  · cases begins
    · exact pauseOff_lanes _ _
    · rfl

theorem noteRetrain_only (c : Nat) (begins : Bool) (s : State) : Only [.sent, .beam] s (noteRetrain c begins s) :=
  (noteRetrain_grows c begins s).onlyIn _ (by decide)

theorem checkPeerDown_only (c : Nat) (s : State) : Only [.sent, .side, .fault, .grp, .mem, .host] s (checkPeerDown c s) :=
  (checkPeerDown_grows c s).onlyIn _ (by decide)

theorem isStreamLane_congr {s t : State} (h : t.fabric = s.fabric) (c : Nat) : isStreamLane t c = isStreamLane s c := by
  simp only [isStreamLane, h]

theorem laneIn_congr {s t : State} (hlane : laneS t = laneS s) (hfabric : t.fabric = s.fabric) (c : Nat) :
    laneIn t c = laneIn s c := by
  simp only [laneIn, hlane, isDark_congr hfabric]

theorem checkPeerDown_of_stream {c : Nat} {s : State} (h : isStreamLane s c = true) : checkPeerDown c s = s := by
  simp only [checkPeerDown, h, Bool.true_or, if_true]

theorem noteRetrain_of_stream {c : Nat} {begins : Bool} {s : State} (h : isStreamLane s c = true) : noteRetrain c begins s = s := by
  simp only [noteRetrain, h, if_true]

theorem requestRollback_beam (cause : Nat) (s : State) : (requestRollback cause s).beam = s.beam :=
  (requestRollback_grows cause s).same .beam rfl

/-! ## Retirement (R355, R356) -/

/-- The lane is retired, its engine to be tested. -/
def markRetired (c : Nat) (s : State) : State :=
  let s1 := if (laneS s c).retraining then noteRetrain c false s else s
  setLane c { laneS s1 c with retired := true, testing := true, retraining := false } s1

theorem markRetired_only (c : Nat) (s : State) : Only [.sent, .beam] s (markRetired c s) := by
  have hset (u : State) (v : LaneS) : Only [.sent, .beam] u (setLane c v u) := only_of_patch rfl
  unfold markRetired
  dsimp only
  split
  · exact ((noteRetrain_only c false s).trans (hset _ _)).mono (by decide)
  · exact hset _ _

theorem laneS_markRetired (c : Nat) (s : State) :
    laneS (markRetired c s) c = { laneS s c with retired := true, testing := true, retraining := false } := by
  unfold markRetired
  dsimp only
  split
  · rw [laneS_setLane_same, laneS_congr (noteRetrain_lanes c false s)]
  · rw [laneS_setLane_same]

/-- The record and the event of a lane's retirement. -/
def retirementTold (c : Nat) (s : State) : State :=
  event 0x800B c (faultEvent { cls := 7, code := 1, field := laneField c, detail := c } s)

theorem retirementTold_only (c : Nat) (s : State) : Only [.sent, .side, .fault, .grp, .mem, .host] s (retirementTold c s) :=
  ((event_grows _ _ _).step (by decide) (faultEvent_grows _ s)).onlyIn _ (by decide)

theorem retireLane_eq (c : Nat) (roll : Bool) (s : State) : retireLane c roll s =
    if roll || collectiveActive (checkPeerDown c (retirementTold c (markRetired c s))) then
      requestRollback 3 (checkPeerDown c (retirementTold c (markRetired c s)))
    else checkPeerDown c (retirementTold c (markRetired c s)) := rfl

/-- What a retirement leaves before it asks for a rollback. -/
theorem retirementChecked_only (c : Nat) (s : State) : Only [.sent, .side, .fault, .grp, .mem, .beam, .host] s
    (checkPeerDown c (retirementTold c (markRetired c s))) :=
  (((markRetired_only c s).trans (retirementTold_only c _)).trans (checkPeerDown_only c _)).mono (by decide)

theorem retirementChecked_beam (c : Nat) (s : State) :
    (checkPeerDown c (retirementTold c (markRetired c s))).beam = (markRetired c s).beam :=
  (checkPeerDown_only c _ .beam (by decide)).trans (retirementTold_only c _ .beam (by decide))

theorem laneS_retireLane (c : Nat) (roll : Bool) (s : State) :
    laneS (retireLane c roll s) c = { laneS s c with retired := true, testing := true, retraining := false } := by
  have hbeam : (retireLane c roll s).beam = (markRetired c s).beam := by
    rw [retireLane_eq]
    split
    · exact (requestRollback_beam _ _).trans (retirementChecked_beam c s)
    · exact retirementChecked_beam c s
  exact (laneS_congr (congrArg BeamS.lanes hbeam) c).trans (laneS_markRetired c s)

/-- A lane that rolls the step back asks the job lead for it, under cause 3. -/
theorem retireLane_requests {c : Nat} {s : State} (hstarted : s.job.started = true) (hlead : isJobLead s = true) :
    ({ cause := 3, source := selfIndex s }, s.now) ∈ (retireLane c true s).grp.requests := by
  obtain ⟨u, hu⟩ : ∃ u, u = checkPeerDown c (retirementTold c (markRetired c s)) := ⟨_, rfl⟩
  have honly := retirementChecked_only c s
  rw [retireLane_eq, Bool.true_or, if_pos rfl]
  rw [← hu] at honly ⊢
  have hjob : u.job = s.job := honly .job (by decide)
  have hnow : u.now = s.now := honly .now (by decide)
  rw [requestRollback_of_jobLead 3 ((congrArg JobS.started hjob).trans hstarted) ((isJobLead_congr hjob).trans hlead),
    selfIndex_congr hjob, hnow]
  exact List.mem_append_right _ (List.mem_singleton.mpr rfl)

section
variable {c : Nat} {s : State} (hstream : isStreamLane s c = true)
include hstream

theorem isStreamLane_retirementTold : isStreamLane (retirementTold c (markRetired c s)) c = true := by
  have hfabric := ((markRetired_only c s).trans (retirementTold_only c _)) .fabric (by decide)
  rw [isStreamLane_congr hfabric, hstream]

/-- The retirement of a stream lane stands at the head of the records. -/
theorem headRecord_retireLane (roll : Bool) : (headRecord (retireLane c roll s)).cls = 7 ∧
    (headRecord (retireLane c roll s)).detail = c := by
  have hfault : (retireLane c roll s).fault = (retirementTold c (markRetired c s)).fault := by
    rw [retireLane_eq, checkPeerDown_of_stream (isStreamLane_retirementTold hstream)]
    split
    · exact (requestRollback_grows 3 _).same .fault rfl
    · rfl
  have hrecord : (retireLane c roll s).fault =
      (recordFault { cls := 7, code := 1, field := laneField c, detail := c } (markRetired c s)).fault :=
    hfault.trans ((event_fault _ _ _).trans (faultEvent_fault _ _))
  obtain ⟨hcls, -, hdetail⟩ := headRecord_recordFault { cls := 7, code := 1, field := laneField c, detail := c } (markRetired c s)
  exact ⟨(congrArg (fun f : FaultS => (mapGet {} f.records f.head).cls) hrecord).trans hcls,
    (congrArg (fun f : FaultS => (mapGet {} f.records f.head).detail) hrecord).trans hdetail⟩

/-- Outside a collective a changed far end asks for no rollback. -/
theorem requests_retireLane_idle (hidle : collectiveActive s = false) :
    (retireLane c false s).grp.requests = s.grp.requests := by
  have hbeam : (retirementTold c (markRetired c s)).beam = (markRetired c s).beam := retirementTold_only c _ .beam (by decide)
  have hmarked : markRetired c s = setLane c { laneS s c with retired := true, testing := true, retraining := false } s := by
    unfold markRetired
    rw [noteRetrain_of_stream hstream, ite_self]
  have hstill : collectiveActive (retirementTold c (markRetired c s)) = false := by
    rw [hmarked] at hbeam ⊢
    have hsame : collectiveActive (retirementTold c (setLane c
        { laneS s c with retired := true, testing := true, retraining := false } s)) = collectiveActive s :=
      (congrArg (fun b : BeamS => !b.chunks.isEmpty || !b.positions.isEmpty) hbeam).trans rfl
    rw [hsame, hidle]
  rw [retireLane_eq, checkPeerDown_of_stream (isStreamLane_retirementTold hstream), hstill, hmarked]
  exact (congrArg GroupS.requests (event_grp _ _ _)).trans (faultEvent_requests _ _)

end

/-! ## The commands of a lane -/

section
variable {τ : Nat} {lane : LaneId} {s : State}

theorem laneTrained_eq {delay : BitVec 16} {identity : BitVec 80} (hready : Ready s) (hlit : isDark s (laneField lane.val) = false)
    (hkept : (laneS s lane.val).retired = false) : exec (.laneTraining lane delay identity true) s =
      .next (queueManage lane.val 2 identity.toNat (emit (.identity lane.val identity.toNat)
        (setLane lane.val (trainedLane (laneS s lane.val) delay.toNat identity.toNat) s))) := by
  refine (next_of_ready hready rfl).trans (congrArg _ ?_)
  dsimp only
  rw [hlit, hkept]
  rfl

/-- Chunks that wait for a lane change its list of groups alone. -/
theorem queueChunks_eq (c rank kind : Nat) (chunks : List Nat) (s : State) :
    ∃ tx, queueChunks c rank kind chunks s = s ∧ tx = (laneS s c).tx ∨
      queueChunks c rank kind chunks s = setLane c { laneS s c with tx := tx } s := by
  unfold queueChunks
  split
  · exact ⟨_, .inl ⟨rfl, rfl⟩⟩
  · exact ⟨_, .inr rfl⟩

theorem laneS_queueChunks (c rank kind : Nat) (chunks : List Nat) (s : State) : ∃ tx,
    laneS (queueChunks c rank kind chunks s) c = { laneS s c with tx := tx } ∧
      (∀ a, a ≠ c → laneS (queueChunks c rank kind chunks s) a = laneS s a) := by
  obtain ⟨tx, ⟨heq, htx⟩ | heq⟩ := queueChunks_eq c rank kind chunks s
  · exact ⟨tx, by rw [heq, htx], fun a _ => by rw [heq]⟩
  · exact ⟨tx, by rw [heq, laneS_setLane_same], fun a ha => by rw [heq, laneS_setLane_ne _ _ ha]⟩

theorem isDark_atTime (f : Nat) : isDark (atTime τ s) f = isDark s f := isDark_congr rfl f

/-- The lane with its new retrain. -/
def retrainNoted (τ c : Nat) (ts : List Nat) (s : State) : State :=
  count cRetrains 1 (setLane c { laneS s c with retrains := ts } (atTime τ s))

theorem retrain_eq {ts : List Nat} (hready : Ready s) (hin : laneIn s lane.val = true)
    (hidle : (laneS s lane.val).retraining = false)
    (hdue : 64 < (laneS s lane.val).uncorr.length ∨ 3 ≤ (laneS s lane.val).replays)
    (hts : ts = ((laneS s lane.val).retrains.filter fun x => decide (τ < x + 1000000000)) ++ [τ]) :
    exec (.laneRetrain τ lane) s = .next (if 3 ≤ ts.length then retireLane lane.val true (retrainNoted τ lane.val ts s)
      else noteRetrain lane.val true (setLane lane.val { laneS (retrainNoted τ lane.val ts s) lane.val with retraining := true }
        (retrainNoted τ lane.val ts s))) := by
  subst hts
  have hgoes : ¬ (!laneIn (atTime τ s) lane.val || (laneS (atTime τ s) lane.val).retraining ||
      !laneRetrainDue (laneS (atTime τ s) lane.val)) = true := by
    have hsameIn : laneIn (atTime τ s) lane.val = true := (laneIn_congr rfl rfl _).trans hin
    have hsameIdle : (laneS (atTime τ s) lane.val).retraining = false := hidle
    have hsameDue : laneRetrainDue (laneS s lane.val) = true := by simpa [laneRetrainDue] using hdue
    replace hsameDue : laneRetrainDue (laneS (atTime τ s) lane.val) = true := hsameDue
    rw [hsameIn, hsameIdle, hsameDue]
    exact Bool.false_ne_true
  exact (next_of_ready hready rfl).trans (congrArg _ (if_neg hgoes))

theorem laneS_retrainNoted (τ c : Nat) (ts : List Nat) (s : State) :
    laneS (retrainNoted τ c ts s) c = { laneS s c with retrains := ts } := laneS_setLane_same _ _ _

theorem retrainDone_eq {identity : BitVec 80} (hready : Ready s) (hretraining : (laneS s lane.val).retraining = true)
    (hsame : otherEnd (laneS s lane.val).identity identity.toNat = false) : ∃ d,
    exec (.laneRetrainDone τ lane true identity) s = .next (drainAll lane.val (setLane lane.val
      (trainedLane (laneS s lane.val) d identity.toNat) (noteRetrain lane.val false (atTime τ s)))) := by
  obtain ⟨u, hu⟩ : ∃ u, u = noteRetrain lane.val false (atTime τ s) := ⟨_, rfl⟩
  have hlane : laneS u lane.val = laneS s lane.val := by
    rw [hu]; exact laneS_congr (noteRetrain_lanes _ _ (atTime τ s)) _
  have hgoes : ¬ (!(laneS (atTime τ s) lane.val).retraining) = true := by
    have : (laneS (atTime τ s) lane.val).retraining = true := hretraining
    rw [this]; exact Bool.false_ne_true
  have hend : ¬ otherEnd (laneS (atTime τ s) lane.val).identity identity.toNat = true := by
    have : otherEnd (laneS (atTime τ s) lane.val).identity identity.toNat = false := hsame
    rw [this]; exact Bool.false_ne_true
  refine ⟨if (decodeIdentity identity.toNat).delay = 0 then (laneS (atTime τ s) lane.val).delay
    else (decodeIdentity identity.toNat).delay, ?_⟩
  rw [← hu, ← hlane, hu]
  exact (next_of_ready hready rfl).trans (congrArg _ ((if_neg hgoes).trans ((if_neg Bool.false_ne_true).trans (if_neg hend))))

theorem drainAll_of_none {c : Nat} (h : (laneS s c).waiting = []) : drainAll c s = s := by
  simp only [drainAll, h, List.length_nil, drainLane]

theorem otherEnd_retires {identity : BitVec 80} (hready : Ready s) (hretraining : (laneS s lane.val).retraining = true)
    (hother : otherEnd (laneS s lane.val).identity identity.toNat = true) :
    exec (.laneRetrainDone τ lane true identity) s = .next (retireLane lane.val false (setLane lane.val
      { laneS s lane.val with identity := identity.toNat } (atTime τ s))) := by
  have hgoes : ¬ (!(laneS (atTime τ s) lane.val).retraining) = true := by
    have : (laneS (atTime τ s) lane.val).retraining = true := hretraining
    rw [this]; exact Bool.false_ne_true
  exact (next_of_ready hready rfl).trans (congrArg _ ((if_neg hgoes).trans ((if_neg Bool.false_ne_true).trans (if_pos hother))))

theorem failedRetrain_retires {identity : BitVec 80} (hready : Ready s) (hretraining : (laneS s lane.val).retraining = true) :
    exec (.laneRetrainDone τ lane false identity) s = .next (retireLane lane.val true (atTime τ s)) := by
  have hgoes : ¬ (!(laneS (atTime τ s) lane.val).retraining) = true := by
    have : (laneS (atTime τ s) lane.val).retraining = true := hretraining
    rw [this]; exact Bool.false_ne_true
  exact (next_of_ready hready rfl).trans (congrArg _ ((if_neg hgoes).trans (if_pos rfl)))

theorem signalLoss_retires (hready : Ready s) (hin : laneIn s lane.val = true) :
    exec (.laneSignalLoss τ lane) s = .next (retireLane lane.val true (atTime τ s)) :=
  (next_of_ready hready rfl).trans (congrArg _ (if_pos ((laneIn_congr rfl rfl _).trans hin)))

end

/-! ## The loopback (R356) -/

section
variable {lane : LaneId} {s : State}

theorem loopback_peer {pass : Bool} (hready : Ready s) (htesting : (laneS s lane.val).testing = true)
    (hpeer : isStreamLane s lane.val = false) : exec (.laneLoopbackDone lane pass) s =
      .next (setLane lane.val { laneS s lane.val with testing := false } s) := by
  refine (next_of_ready hready rfl).trans (congrArg _ ?_)
  dsimp only
  rw [htesting, hpeer]
  rfl

theorem loopback_channel (hready : Ready s) (htesting : (laneS s lane.val).testing = true)
    (hstream : isStreamLane s lane.val = true) : exec (.laneLoopbackDone lane true) s = .next (loseChannel lane.val s) := by
  refine (next_of_ready hready rfl).trans (congrArg _ ?_)
  dsimp only
  rw [htesting, hstream]
  rfl

theorem loopback_engine {p : Nat} (hready : Ready s) (htesting : (laneS s lane.val).testing = true)
    (hstream : isStreamLane s lane.val = true) (hpeer : substitute s (laneField lane.val) = some p) :
    exec (.laneLoopbackDone lane false) s = .next (takeEngine lane.val p s) := by
  refine (next_of_ready hready rfl).trans (congrArg _ ?_)
  dsimp only
  rw [htesting, hstream, hpeer]
  rfl

theorem substitute_peer {f p : Nat} (h : substitute s f = some p) : isStreamLane s p = false := by
  have hmem := List.mem_of_getLast? h
  obtain ⟨-, hp⟩ := List.mem_filter.mp hmem
  exact (Bool.not_eq_true' _).mp (Bool.and_eq_true _ _ ▸ hp).1

theorem engineOf_of_remap {c e : Nat} (h : mapGet 0 s.beam.remap c = e + 1) : engineOf s c = e := by
  simp only [engineOf, h]

theorem takeEngine_spec {c p : Nat} (hne : p ≠ c) : engineOf (takeEngine c p s) c = engineOf s p ∧
    laneS (takeEngine c p s) c = { laneS s c with retired := false, testing := false, trained := false } ∧
      laneS (takeEngine c p s) p = { laneS s p with retired := true } := by
  obtain ⟨u, hlanes, hremap, heq⟩ : ∃ u, u.beam.lanes =
      (setLane p { laneS s p with retired := true }
        (setLane c { laneS s c with retired := false, testing := false, trained := false } s)).beam.lanes ∧
      u.beam.remap = mapSet 0 s.beam.remap c (engineOf s p + 1) ∧ takeEngine c p s = checkPeerDown p u := by
    refine ⟨_, ?_, ?_, rfl⟩
    · rw [laneS_setLane_ne _ _ hne]
    · rfl
  have hbeam : (takeEngine c p s).beam = u.beam := by rw [heq]; exact checkPeerDown_only p u .beam (by decide)
  have hlane (a : Nat) := laneS_congr ((congrArg BeamS.lanes hbeam).trans hlanes) a
  refine ⟨?_, ?_, ?_⟩
  · exact engineOf_of_remap (by rw [hbeam, hremap, mapGet_mapSet_same])
  · rw [hlane, laneS_setLane_ne _ _ hne.symm, laneS_setLane_same]
  · rw [hlane, laneS_setLane_same]

end

/-- Settles O28: one clause each for the training, the retrains, the retirements and the loopback. -/
theorem lanesTrainAndRetire : Obligations.LanesTrainAndRetire := by
  unfold Obligations.LanesTrainAndRetire
  refine ⟨fun lane delay identity s hready hlit hkept => ?_, fun τ lane s hready hin hidle hdue hnone => ?_,
    fun τ lane s a b hready hin hidle hdue htwo ha hb hstream hstarted hlead => ?_,
    fun τ lane identity s hready hretraining hsame hnone => ?_, fun τ lane identity s hready hretraining hother hstream hquiet => ?_,
    fun τ lane ok identity s hready hfailed hretraining hstarted hlead => ?_, fun τ lane s hready hin hstarted hlead => ?_,
    fun lane pass s hready htesting hpeer => ?_, fun lane s hready htesting hstream => ?_,
    fun lane p s hready htesting hstream hpeer => ?_⟩
  · obtain ⟨u, hu⟩ : ∃ u, u = emit (.identity lane.val identity.toNat)
      (setLane lane.val (trainedLane (laneS s lane.val) delay.toNat identity.toNat) s) := ⟨_, rfl⟩
    have heq := laneTrained_eq (delay := delay) (identity := identity) hready hlit hkept
    rw [← hu] at heq
    have hlane : laneS u lane.val = trainedLane (laneS s lane.val) delay.toNat identity.toNat := by
      rw [hu]; exact laneS_setLane_same _ _ _
    have hothers (c : Nat) (hc : c ≠ lane.val) : laneS u c = laneS s c := by rw [hu]; exact laneS_setLane_ne _ _ hc
    have honly : Only [.sent, .beam] s u := by rw [hu]; exact only_of_patch rfl
    have hsent : u.sent = s.sent ++ [.identity lane.val identity.toNat] := by rw [hu]; rfl
    have hqueue : Only [.beam] u (queueManage lane.val 2 identity.toNat u) := queueChunks_only _ _ _ _ _
    obtain ⟨tx, hqueued, hkeptOthers⟩ :=
      laneS_queueChunks lane.val 0 4 ((Config.linkChunks 2 identity.toNat).map (·.toNat)) u
    rw [hlane] at hqueued
    replace hqueued : laneS (queueManage lane.val 2 identity.toNat u) lane.val =
        { trainedLane (laneS s lane.val) delay.toNat identity.toNat with tx := tx } := hqueued
    have hdark : isDark (queueManage lane.val 2 identity.toNat u) (laneField lane.val) = false := by
      rw [isDark_congr (hqueue .fabric (by decide)), isDark_congr (honly .fabric (by decide)), hlit]
    refine ⟨_, heq, by rw [hqueued]; rfl, by rw [hqueued]; rfl, by rw [hqueued]; rfl, by rw [hqueued]; rfl, ?_,
      fun c hc => (hkeptOthers c hc).trans (hothers c hc), (hqueue .sent (by decide)).trans hsent,
      (honly.trans hqueue).mono (by decide)⟩
    simp only [laneIn, hqueued, hdark, trainedLane, hkept, Bool.not_false, Bool.and_true]
  · have heq := retrain_eq (ts := [τ]) hready hin hidle hdue (by rw [hnone]; rfl)
    rw [if_neg (by simp)] at heq
    have hnot : (laneS s lane.val).retired = false := by
      simp only [laneIn, Bool.and_eq_true, Bool.not_eq_true'] at hin
      exact hin.1.2
    have hlane (u : State) (v : LaneS) : laneS (noteRetrain lane.val true (setLane lane.val v u)) lane.val = v :=
      (laneS_congr (noteRetrain_lanes _ _ _) _).trans (laneS_setLane_same _ _ _)
    have hnoted (v : LaneS) : Only [.now, .beam, .counters] s (setLane lane.val v (retrainNoted τ lane.val [τ] s)) :=
      only_of_patch rfl
    have honly (v : LaneS) := (hnoted v).trans (noteRetrain_only lane.val true _)
    refine ⟨_, heq, by rw [hlane], by rw [hlane, laneS_retrainNoted], by rw [hlane, laneS_retrainNoted, hnot], ?_,
      honly _ .grp (by decide), (honly _).mono (by decide)⟩
    have hcounters (v : LaneS) : (noteRetrain lane.val true (setLane lane.val v (retrainNoted τ lane.val [τ] s))).counters =
        (count cRetrains 1 s).counters := noteRetrain_only lane.val true _ .counters (by decide)
    exact (counter_congr (hcounters _) _).trans (counter_count_same _ _ _)
  · have heq := retrain_eq (τ := τ) (ts := [a, b, τ]) hready hin hidle hdue (by rw [htwo]; simp [ha, hb])
    rw [if_pos (show 3 ≤ [a, b, τ].length from Nat.le_refl 3)] at heq
    have hstreamNoted : isStreamLane (retrainNoted τ lane.val [a, b, τ] s) lane.val = true := hstream
    have hlane := laneS_retireLane lane.val true (retrainNoted τ lane.val [a, b, τ] s)
    obtain ⟨hcls, hdetail⟩ := headRecord_retireLane hstreamNoted true
    refine ⟨_, heq, by rw [hlane], by rw [hlane], ?_, hcls, hdetail,
      retireLane_requests (s := retrainNoted τ lane.val [a, b, τ] s) hstarted hlead⟩
    simp only [laneIn, hlane, Bool.not_true, Bool.and_false, Bool.false_and]
  · obtain ⟨d, heq⟩ := retrainDone_eq (τ := τ) hready hretraining hsame
    obtain ⟨u, hu⟩ : ∃ u, u = setLane lane.val (trainedLane (laneS s lane.val) d identity.toNat)
      (noteRetrain lane.val false (atTime τ s)) := ⟨_, rfl⟩
    have hlane : laneS u lane.val = trainedLane (laneS s lane.val) d identity.toNat := by rw [hu]; exact laneS_setLane_same _ _ _
    have hset (v : LaneS) (st : State) : Only [.beam] st (setLane lane.val v st) := only_of_patch rfl
    have htime : Only [.now] s (atTime τ s) := only_of_patch rfl
    have honly : Only [.now, .sent, .beam] s u := by
      rw [hu]
      exact ((htime.trans (noteRetrain_only lane.val false _)).trans (hset _ _)).mono (by decide)
    rw [← hu, drainAll_of_none (by rw [hlane]; exact hnone)] at heq
    exact ⟨u, heq, by rw [hlane]; rfl, by rw [hlane]; rfl, by rw [hlane]; rfl, by rw [hlane]; rfl, by rw [hlane]; rfl,
      by rw [hlane]; rfl, honly⟩
  · have heq := otherEnd_retires (τ := τ) hready hretraining hother
    obtain ⟨u, hu⟩ : ∃ u, u = setLane lane.val { laneS s lane.val with identity := identity.toNat } (atTime τ s) := ⟨_, rfl⟩
    have hstreamU : isStreamLane u lane.val = true := by rw [hu]; exact hstream
    have hquietU : collectiveActive u = false := by rw [hu]; exact hquiet
    have hrequests : u.grp.requests = s.grp.requests := by rw [hu]; rfl
    rw [← hu] at heq
    exact ⟨_, heq, by rw [laneS_retireLane], (headRecord_retireLane hstreamU false).1,
      (requests_retireLane_idle hstreamU hquietU).trans hrequests⟩
  · subst hfailed
    exact ⟨_, failedRetrain_retires hready hretraining, by rw [laneS_retireLane],
      retireLane_requests (s := atTime τ s) hstarted hlead⟩
  · exact ⟨_, signalLoss_retires hready hin, by rw [laneS_retireLane], by rw [laneS_retireLane],
      retireLane_requests (s := atTime τ s) hstarted hlead⟩
  · exact ⟨_, loopback_peer hready htesting hpeer, by rw [laneS_setLane_same], by rw [laneS_setLane_same], rfl, only_of_patch rfl⟩
  · have hlane : laneS (loseChannel lane.val s) lane.val = { laneS s lane.val with testing := false, chanLost := true } :=
      laneS_setLane_same _ _ _
    exact ⟨_, loopback_channel hready htesting hstream, by rw [hlane], by rw [hlane], by rw [hlane], rfl, only_of_patch rfl⟩
  · have hne : p ≠ lane.val := fun h => Bool.false_ne_true ((substitute_peer hpeer).symm.trans (h ▸ hstream))
    obtain ⟨hengine, hlane, htaken⟩ := takeEngine_spec (s := s) hne
    exact ⟨_, loopback_engine hready htesting hstream hpeer, hengine, by rw [hlane], by rw [hlane], by rw [htaken]⟩

end Sys2Proof.Machine

/-! SUPPORT. Codewords, beam packets and retrain notices (R342 to R351, R366). -/

namespace Sys2Proof.Machine

/-! ## Frames of the shared operations -/

theorem setLane_only (c : Nat) (v : LaneS) (s : State) : Only [.beam] s (setLane c v s) := only_of_patch rfl

theorem emit_only (m : Msg) (s : State) : Only [.sent] s (emit m s) := only_of_patch rfl

/-! ## Codewords -/

/-- A codeword that leaves changes what is to be sent on its lane, and counts it. -/
theorem sendCodeword_eq (c : Nat) (s : State) : ∃ w owed out tx kept, sendCodeword c s = emit (.control c w) (setLane c
    { laneS s c with creditOwed := owed, glintOut := out, tx := tx, sentCount := (laneS s c).sentCount + 1, kept := kept } s) := by
  unfold sendCodeword
  dsimp only
  split <;> exact ⟨_, _, _, _, _, rfl⟩

section
variable {τ : Nat} {lane : LaneId} {s : State}

/-- The state in which the lane has sent its own codeword. -/
def codewordSent (τ : Nat) (lane : LaneId) (s : State) : State := sendCodeword lane.val (atTime τ s)

theorem codewordSent_only : Only [.now, .sent, .beam] s (codewordSent τ lane s) := by
  obtain ⟨w, owed, out, tx, kept, heq⟩ := sendCodeword_eq lane.val (atTime τ s)
  rw [codewordSent, heq]
  exact only_of_patch rfl

/-- Its lane, and the message that left. -/
theorem codewordSent_lane : ∃ w owed out tx kept, (codewordSent τ lane s).sent = s.sent ++ [.control lane.val w] ∧
    laneS (codewordSent τ lane s) lane.val = { laneS s lane.val with
      creditOwed := owed, glintOut := out, tx := tx, sentCount := (laneS s lane.val).sentCount + 1, kept := kept } := by
  obtain ⟨w, owed, out, tx, kept, heq⟩ := sendCodeword_eq lane.val (atTime τ s)
  rw [codewordSent, heq]
  exact ⟨w, owed, out, tx, kept, rfl, laneS_setLane_same _ _ _⟩

theorem codeword_eq {cw : Codeword} (hready : Ready s) (hin : laneIn s lane.val = true)
    (hidle : (laneS s lane.val).retraining = false) : exec (.codewordReceived τ lane cw) s = .next (
      match cw with
      | .bad replay => badCodeword lane.val replay (codewordSent τ lane s)
      | .good replay errors control data =>
        if (laneS (codewordSent τ lane s) lane.val).awaiting && !replay then codewordSent τ lane s
        else takeCodeword lane.val errors.val control.toNat (data.map (·.toNat)) (codewordSent τ lane s)) := by
  have hgoes : ¬ (!laneIn (atTime τ s) lane.val || (laneS (atTime τ s) lane.val).retraining) = true := by
    have hsameIn : laneIn (atTime τ s) lane.val = true := (laneIn_congr rfl rfl _).trans hin
    have hsameIdle : (laneS (atTime τ s) lane.val).retraining = false := hidle
    rw [hsameIn, hsameIdle]
    exact Bool.false_ne_true
  refine (next_of_ready hready rfl).trans (congrArg _ ((if_neg hgoes).trans ?_))
  cases cw <;> rfl

/-- A control field without a chunk returns its CREDIT alone. -/
theorem takeControl_plain {c control : Nat} (hkind : field control 76 3 = 0) (hwaiting : (laneS s c).waiting = []) :
    takeControl c control s = setLane c { laneS s c with spent := (laneS s c).spent - field control 64 8 } s := by
  have hnone : drainAll c (setLane c { laneS s c with spent := (laneS s c).spent - field control 64 8 } s) =
      setLane c { laneS s c with spent := (laneS s c).spent - field control 64 8 } s :=
    drainAll_of_none (by rw [laneS_setLane_same]; exact hwaiting)
  unfold takeControl
  dsimp only
  rw [hkind]
  exact hnone

/-- A codeword without data and chunk: its CREDIT returns, and it counts as received. -/
theorem takeCodeword_plain {c errors control : Nat} (hkind : field control 76 3 = 0) (hglint : bitAt control 79 = false)
    (hwaiting : (laneS s c).waiting = []) : laneS (takeCodeword c errors control [] s) c = { laneS s c with
      received := (laneS s c).received + 1, awaiting := false, replays := 0, spent := (laneS s c).spent - field control 64 8 } ∧
    counter (takeCodeword c errors control [] s) cFecCorr = counter s cFecCorr + (if errors = 0 then 0 else 1) ∧
      Only [.beam, .counters] s (takeCodeword c errors control [] s) := by
  obtain ⟨u, hu⟩ : ∃ u, u =
    setLane c { laneS s c with received := (laneS s c).received + 1, awaiting := false, replays := 0 } s := ⟨_, rfl⟩
  have hlane : laneS u c = { laneS s c with received := (laneS s c).received + 1, awaiting := false, replays := 0 } := by
    rw [hu]; exact laneS_setLane_same _ _ _
  have honly : Only [.beam] s u := by rw [hu]; exact only_of_patch rfl
  obtain ⟨v, hv⟩ : ∃ v, v = if errors = 0 then u else count cFecCorr 1 u := ⟨_, rfl⟩
  have hdone : takeCodeword c errors control [] s = takeControl c control v := by
    unfold takeCodeword
    dsimp only
    rw [hglint, if_neg Bool.false_ne_true, ← hu, ← hv]
    split <;> rfl
  have hlaneV : laneS v c = laneS u c := by rw [hv]; split <;> rfl
  have honlyV : Only [.counters] u v := by
    rw [hv]
    split
    · exact Only.refl _ _
    · exact only_of_patch rfl
  have hcount : counter v cFecCorr = counter s cFecCorr + (if errors = 0 then 0 else 1) := by
    have hcounters := honly .counters (by decide)
    rw [hv]
    split
    · exact counter_congr hcounters _
    · exact (counter_count_same _ _ _).trans (congrArg (· + 1) (counter_congr hcounters _))
  have hset (w : LaneS) : Only [.beam] v (setLane c w v) := only_of_patch rfl
  rw [hdone, takeControl_plain hkind (by rw [hlaneV, hlane]; exact hwaiting), laneS_setLane_same, hlaneV, hlane]
  exact ⟨rfl, hcount, ((honly.trans honlyV).trans (hset _)).mono (by decide)⟩

/-- A codeword that cannot be corrected, the first: the receiver asks for it, and waits. -/
theorem badCodeword_first {c : Nat} (hfirst : (laneS s c).awaiting = false) : ∃ uncorr tx,
    laneS (badCodeword c false s) c =
      { laneS s c with uncorr := uncorr, awaiting := true, replays := 0, tx := tx } ∧
    (badCodeword c false s).sent = s.sent ++ [.nak c ((laneS s c).received % 65536)] ∧
    counter (badCodeword c false s) cFecUncorr = counter s cFecUncorr + 1 ∧
    counter (badCodeword c false s) cReplays = counter s cReplays + 1 ∧ Only [.sent, .beam, .counters] s (badCodeword c false s) := by
  obtain ⟨uncorr, huncorr⟩ : ∃ l, l = ((laneS s c).uncorr.filter fun x => decide (s.now < x + 1000000)) ++ [s.now] := ⟨_, rfl⟩
  obtain ⟨u, hu⟩ : ∃ u, u = emit (.nak c ((laneS s c).received % 65536)) (setLane c
      { laneS s c with uncorr := uncorr, awaiting := true, replays := 0 }
      (count cFecUncorr 1 (setLane c { laneS s c with uncorr := uncorr } s))) := ⟨_, rfl⟩
  have heq : badCodeword c false s = count cReplays 1 (queueManage c 1 ((laneS s c).received % 65536) u) := by
    rw [hu, huncorr]
    unfold badCodeword
    dsimp only
    rw [hfirst]
    rfl
  have hlane : laneS u c = { laneS s c with uncorr := uncorr, awaiting := true, replays := 0 } := by
    rw [hu]; exact laneS_setLane_same _ _ _
  have honly : Only [.sent, .beam, .counters] s u := by
    rw [hu]
    exact (((setLane_only _ _ _).trans (count_only _ _ _)).trans ((setLane_only _ _ _).trans (emit_only _ _))).mono (by decide)
  have hcount (k : Nat) : counter u k = counter (count cFecUncorr 1 s) k := by
    rw [hu]
    simp only [counter, emit_counters, setLane_counters, count]
  have hsent : u.sent = s.sent ++ [.nak c ((laneS s c).received % 65536)] := by
    rw [hu]; simp only [emit_sent, setLane_sent, count_sent]
  have hqueue : Only [.beam] u (queueManage c 1 ((laneS s c).received % 65536) u) := queueChunks_only _ _ _ _ _
  have hcounters := hqueue .counters (by decide)
  obtain ⟨tx, hqueued, -⟩ := laneS_queueChunks c 0 4 ((Config.linkChunks 1 ((laneS s c).received % 65536)).map (·.toNat)) u
  rw [hlane] at hqueued
  have hlast (st : State) : Only [.counters] st (count cReplays 1 st) := only_of_patch rfl
  refine ⟨uncorr, tx, ?_, ?_, ?_, ?_, ?_⟩
  · rw [heq]; exact hqueued
  · rw [heq]; exact (hqueue .sent (by decide)).trans hsent
  · rw [heq, counter_count_ne _ _ (by decide), counter_congr hcounters, hcount, counter_count_same]
  · rw [heq, counter_count_same, counter_congr hcounters, hcount, counter_count_ne _ _ (by decide)]
  · rw [heq]; exact ((honly.trans hqueue).trans (hlast _)).mono (by decide)

end

/-! ## NAKs, beam packets and notices -/

section
variable {s : State}

theorem nak_eq {lane : LaneId} {n : BitVec 16} (hready : Ready s) (hin : laneIn s lane.val = true) :
    exec (.nakReceived lane n) s = .next (emitAll ((resendFrom (laneS s lane.val) n.toNat).map (Msg.control lane.val))
      (emit (.resend lane.val n.toNat) s)) :=
  (next_of_ready hready rfl).trans (congrArg _ (if_pos hin))

theorem beamPacket_eq {f : FieldId} {header : BitVec 128} {inner : Flits} (hready : Ready s) (hlit : isDark s f.val = false) :
    exec (.beamPacketArrival f header inner) s = .next (beamArrival f.val header.toNat inner s) :=
  (next_of_ready hready rfl).trans (congrArg _ (if_neg (by rw [hlit]; exact Bool.false_ne_true)))

theorem beamArrival_dropped {f header : Nat} {inner : Flits} (h : (decodeBeamHdr header).jobTag ≠ s.job.tag ∨
      ((decodeBeamHdr header).destMod ≠ selfIndex s ∧ (decodeBeamHdr header).relay = 0)) :
    beamArrival f header inner s = count cBeamDrops 1 s := by
  by_cases hform : (decodeBeamHdr header).kind ≠ 1 ∨ (decodeBeamHdr header).flits = 0 ∨ 255 < (decodeBeamHdr header).flits ∨
      (decodeBeamHdr header).jobTag ≠ s.job.tag
  · exact if_pos hform
  · obtain ⟨hdest, hrelay⟩ := h.resolve_left fun htag => hform (.inr (.inr (.inr htag)))
    exact (if_neg hform).trans ((if_neg hdest).trans (if_pos hrelay))

theorem beamArrival_here {f header : Nat} {inner : Flits} (htag : (decodeBeamHdr header).jobTag = s.job.tag)
    (hdest : (decodeBeamHdr header).destMod = selfIndex s) (hkind : (decodeBeamHdr header).kind = 1)
    (hsome : 0 < (decodeBeamHdr header).flits) (hfits : (decodeBeamHdr header).flits ≤ 255) :
    beamArrival f header inner s = forward (hubRouter f (decodeFlit inner.header.toNat).destBx) [inner] s :=
  (if_neg (by rw [htag, hkind]; omega)).trans (if_pos hdest)

theorem retrainBegins_eq {τ : Nat} {m : Fin 1024} (hready : Ready s) :
    exec (.retrainNotice τ m true) s = .next (pauseOn m.val (atTime τ s)) :=
  (next_of_ready hready rfl).trans (congrArg _ (congrFun (if_pos rfl) _))

theorem isPaused_pauseOn (m : Nat) : isPaused (pauseOn m s) m = true := by
  simp [isPaused, pauseOn, mapUpd]

theorem retrainEnds_eq {τ : Nat} {m : Fin 1024} (hready : Ready s) (hone : (mapGet {} s.beam.paused m.val).n = 1) :
    exec (.retrainNotice τ m false) s = .next (shiftWaits (max s.now τ - (mapGet {} s.beam.paused m.val).since)
      { atTime τ s with beam := { s.beam with paused := mapSet {} s.beam.paused m.val {} } }) := by
  refine (next_of_ready hready rfl).trans (congrArg _ ?_)
  have hnotNone : ¬ (mapGet {} (atTime τ s).beam.paused m.val).n = 0 := fun h => absurd (hone.symm.trans h) (by decide)
  exact (if_neg hnotNone).trans (if_pos hone)

end

/-- Settles O29: one clause each for the codewords, the NAK, the beam packets and the notices. -/
theorem codewordsAndPacketsArrive : Obligations.CodewordsAndPacketsArrive := by
  unfold Obligations.CodewordsAndPacketsArrive
  refine ⟨fun τ lane replay errors control data s hready hin hidle hfirst hkind hglint hdata hwaiting => ?_,
    fun τ lane errors control data s hready hin hidle hawaiting => ?_, fun τ lane s hready hin hidle hfirst => ?_,
    fun lane n s hready hin => ?_, fun f header inner s hready hlit hdropped => ?_,
    fun f header inner s hready hlit htag hdest hkind hsome hfits => ?_, fun τ m s hready hrunning => ?_,
    fun τ m s hready hone => ?_⟩
  · subst hdata
    have heq := codeword_eq (τ := τ) (cw := .good replay errors control []) hready hin hidle
    have honly := codewordSent_only (τ := τ) (lane := lane) (s := s)
    obtain ⟨w, owed, out, tx, kept, hsent, hlane⟩ := codewordSent_lane (τ := τ) (lane := lane) (s := s)
    obtain ⟨hdone, hcount, htaken⟩ := takeCodeword_plain (s := codewordSent τ lane s) (errors := errors.val) hkind hglint
      (c := lane.val) (by rw [hlane]; exact hwaiting)
    have hnot : ¬ ((laneS (codewordSent τ lane s) lane.val).awaiting && !replay) = true := by
      rw [hlane]; simp [hfirst]
    rw [hlane] at hdone
    refine ⟨_, heq.trans (congrArg _ (if_neg hnot)), by rw [List.map_nil, hdone], by rw [List.map_nil, hdone],
      by rw [List.map_nil, hdone], by rw [List.map_nil, hdone], ?_, ?_, (honly.trans htaken).mono (by decide)⟩
    · rw [List.map_nil, show _ = (codewordSent τ lane s).sent from htaken .sent (by decide), hsent, List.length_append, List.length_singleton]
    · exact hcount.trans (congrArg (· + _) (counter_congr (honly .counters (by decide)) _))
  · have heq := codeword_eq (τ := τ) (cw := .good false errors control data) hready hin hidle
    obtain ⟨w, owed, out, tx, kept, -, hlane⟩ := codewordSent_lane (τ := τ) (lane := lane) (s := s)
    have hwaits : ((laneS (codewordSent τ lane s) lane.val).awaiting && !false) = true := by
      rw [hlane]; simp [hawaiting]
    exact ⟨_, heq.trans (congrArg _ (if_pos hwaits)), by rw [hlane], by rw [hlane]; exact hawaiting, by rw [hlane],
      codewordSent_only⟩
  · have honly := codewordSent_only (τ := τ) (lane := lane) (s := s)
    obtain ⟨w, owed, out, tx, kept, -, hlane⟩ := codewordSent_lane (τ := τ) (lane := lane) (s := s)
    obtain ⟨uncorr, tx', hbad, hnak, huncorr, hreplays, hchanged⟩ :=
      badCodeword_first (s := codewordSent τ lane s) (c := lane.val) (by rw [hlane]; exact hfirst)
    have hcounters := honly .counters (by decide)
    rw [hlane] at hbad hnak
    exact ⟨_, codeword_eq hready hin hidle, by rw [hbad], by rw [hbad], by rw [huncorr, counter_congr hcounters],
      by rw [hreplays, counter_congr hcounters], by rw [hnak, List.getLast?_concat], (honly.trans hchanged).mono (by decide)⟩
  · exact ⟨_, nak_eq hready hin, List.append_assoc _ _ _, only_of_patch rfl⟩
  · exact ⟨_, (beamPacket_eq hready hlit).trans (congrArg _ (beamArrival_dropped hdropped)), counter_count_same _ _ _,
      only_of_patch rfl⟩
  · exact (beamPacket_eq hready hlit).trans (congrArg _ (beamArrival_here htag hdest hkind hsome hfits))
  · exact ⟨_, retrainBegins_eq hready, isPaused_pauseOn _, rfl, only_of_patch rfl⟩
  · exact ⟨_, retrainEnds_eq hready hone, by simp [isPaused, shiftWaits], rfl, only_of_patch rfl⟩

end Sys2Proof.Machine

/-! SUPPORT. Bulk collectives (R358 to R366). -/

namespace Sys2Proof.Machine

/-! ## Source engines (R362, R363) -/

section
variable {s : State}

theorem inFlight_of_credits {t : State} {comm dest : Nat} {f : Nat → Nat}
    (h : t.beam.credits = mapUpd 0 s.beam.credits (64 * comm + dest) f) : inFlight t comm dest = f (inFlight s comm dest) := by
  rw [inFlight, h, mapGet_mapUpd_same]
  rfl

theorem inFlight_of_other {t : State} {comm dest c d : Nat} {f : Nat → Nat} (hne : 64 * c + d ≠ 64 * comm + dest)
    (h : t.beam.credits = mapUpd 0 s.beam.credits (64 * comm + dest) f) : inFlight t c d = inFlight s c d := by
  rw [inFlight, h, mapGet_mapUpd_ne _ _ hne]
  rfl

theorem chunkSent_eq {f : FieldId} {comm left i : Nat} {c : ChunkS} (hready : Ready s) (hlit : isDark s f.val = false)
    (hturn : turnOf s f.val = some (comm, left)) (hnext : nextChunk s f.val comm = some i)
    (hchunk : s.beam.chunks[i]? = some c) (hfresh : c.held = false) : exec (.chunkSend f none) s =
      .next (count cChunksSent 1 (emitAll (chunkPackets s c (if c.gather then 0 else (commOf s comm).add) 66 0 (chunkValues c))
        { s with beam := { s.beam with
            chunks := s.beam.chunks.set i { c with held := true, rerequested := false }
            credits := mapUpd 0 s.beam.credits (64 * comm + c.dest) fun n => n + 1
            rr := mapSet 0 s.beam.rr f.val (comm + 64 * left) } })) := by
  refine (next_of_ready hready rfl).trans (congrArg _ ((if_neg (by rw [hlit]; exact Bool.false_ne_true)).trans ?_))
  dsimp only [sendChunk]
  rw [hturn]
  dsimp only
  rw [hnext]
  dsimp only
  rw [hchunk]
  dsimp only
  rw [hfresh]
  rfl

theorem chunkAcked_eq {f : FieldId} {comm : Fin 64} {dest : MemberId} {position : BitVec 32} {i : Nat} (hready : Ready s)
    (hheld : s.beam.chunks.findIdx? (isHeldChunk f.val comm.val dest.val position.toNat) = some i) :
    exec (.chunkAck f comm dest position) s = .next { s with beam := { s.beam with
      chunks := s.beam.chunks.eraseIdx i, credits := mapUpd 0 s.beam.credits (64 * comm.val + dest.val) fun n => n - 1 } } := by
  refine (next_of_ready hready rfl).trans (congrArg _ ?_)
  unfold ackChunk
  rw [hheld]

/-! ## Destination engines (R361, R373) -/

theorem chunkArrives_eq {τ : Nat} {f : FieldId} {header : BitVec 128} {values : List Int} {chk : Bool}
    {place : List GatherPlace} (hready : Ready s) (hlit : isDark s f.val = false) :
    exec (.chunkPacketArrival τ f header values chk place) s =
      .next (chunkPacket f.val (decodeChunk header.toNat) values chk place (atTime τ s)) :=
  (next_of_ready hready rfl).trans (congrArg _ (if_neg (by rw [hlit]; exact Bool.false_ne_true)))

/-- A packet of a reduce-scatter of this step, from a source whose chunk is not whole. -/
theorem chunkPacket_taken {f : Nat} {h : ChunkHdr} {vs : List Int} {chk : Bool} {ps : List GatherPlace}
    (hstep : h.step = s.tick.step % 65536) (hroll : h.roll = s.red.roll) (hop : h.op = 0)
    (hin : s.beam.excluded.contains (64 * h.comm + h.src) = false)
    (hmissing : sourceIn (positionOf s (positionKey false 0 h.comm h.position)) h.src = false) :
    chunkPacket f h vs chk ps s = settle (positionKey false 0 h.comm h.position) h.comm h.position (commOf s h.comm).add
      (sourcesOf s h.comm) (setPosition (positionKey false 0 h.comm h.position)
        (takePacket (commOf s h.comm).add h vs chk (positionOf s (positionKey false 0 h.comm h.position))) s) := by
  refine (if_neg (not_or.mpr ⟨not_not.mpr hstep, not_not.mpr hroll⟩)).trans ?_
  rw [hop]
  dsimp only
  rw [hin, hmissing]
  rfl

theorem positionOf_setPosition_same (k : Nat) (p : PositionS) : positionOf (setPosition k p s) k = p := mapGet_mapSet_same

theorem setPosition_only (k : Nat) (p : PositionS) (s : State) : Only [.beam] s (setPosition k p s) := only_of_patch rfl

/-- A position that still misses a source waits. -/
theorem settle_waits {k comm position add : Nat} {need : List Nat} {m : Nat} (hmissing : m ∈ missing (positionOf s k) need) :
    ∃ w, settle k comm position add need s = setPosition k { positionOf s k with waitSince := w } s := by
  unfold settle
  dsimp only
  split
  next h => rw [h] at hmissing; exact absurd hmissing List.not_mem_nil
  · exact ⟨_, rfl⟩
  · exact ⟨_, rfl⟩

theorem total_takePacket {add : Nat} {h : ChunkHdr} {vs : List Int} {chk : Bool} {p : PositionS} (hlast : h.last = false) :
    (takePacket add h vs chk p).total = p.total := by
  simp only [takePacket, hlast, Bool.false_eq_true, if_false]

theorem sourceIn_of_total {p : PositionS} {m : Nat} (h : mapGet 0 p.total m = 0) : sourceIn p m = false := by
  simp only [sourceIn, h]

/-- A whole chunk of FP32 values in one packet. -/
theorem sourceIn_takePacket {h : ChunkHdr} {vs : List Int} (hlast : h.last = true) (hoffset : h.offset = 0) :
    sourceIn (takePacket 1 h vs true {}) h.src = true := by
  simp only [sourceIn, takePacket, hlast, hoffset, if_true, mapGet_mapSet_same, mapUpd, Nat.mul_zero, Nat.zero_add]
  simp [mapGet]

/-- The position that its only source has filled: the values go on, and the source is acknowledged. -/
theorem settle_whole {k comm position src : Nat} {p : PositionS} (hp : positionOf s k = p) (hin : sourceIn p src = true)
    (hok : p.packets.all (·.ok) = true) : ∃ vs, settle k comm position 1 [src] s =
      emitAll [.chunkAck comm src position] (emit (.delivered comm position vs) (setPosition k {} s)) := by
  have hnone : missing (positionOf s k) [src] = [] := by simp [missing, hp, hin]
  have hgood : positionOk 1 (packetsOf (positionOf s k) [src]) (sumPackets 1 (packetsOf (positionOf s k) [src])) = true := by
    have hall : (packetsOf p [src]).all (·.ok) = true :=
      List.all_eq_true.mpr fun q hq => List.all_eq_true.mp hok q (List.mem_filter.mp hq).1
    simp only [positionOk, hp, hall]
    rfl
  unfold settle
  dsimp only
  rw [hnone, hgood]
  exact ⟨_, rfl⟩

end

/-! ## The late bound and exclusion (R365, R366) -/

section
variable {s : State}

/-- What settles a position excludes no source. -/
theorem shardTile_excluded (clip : Bool) (tile : Nat) (vs : List Int) (big : Nat) (s : State) :
    (shardTile clip tile vs big s).beam.excluded = s.beam.excluded := by
  unfold shardTile
  dsimp only
  split <;> rfl

theorem each_excluded {α : Type} {f : α → State → State} (h : ∀ a s, (f a s).beam.excluded = s.beam.excluded) (l : List α)
    (s : State) : (each l f s).beam.excluded = s.beam.excluded := by
  induction l generalizing s with
  | nil => rfl
  | cons a l ih => exact (ih (f a s)).trans (h a s)

theorem deliverPosition_excluded (comm position add : Nat) (qs : List PacketS) (a : AddOut) (s : State) :
    (deliverPosition comm position add qs a s).beam.excluded = s.beam.excluded := by
  unfold deliverPosition
  split
  · rfl
  · split
    · exact each_excluded (fun _ _ => shardTile_excluded _ _ _ _ _) _ _
    · rfl

theorem failPosition_excluded (k comm position : Nat) (need : List Nat) (s : State) :
    (failPosition k comm position need s).beam.excluded = s.beam.excluded := by
  unfold failPosition
  dsimp only
  split
  · exact (congrArg BeamS.excluded ((rollFault_grows _ 6 _).same .beam rfl)).trans rfl
  · rfl

theorem settle_excluded (k comm position add : Nat) (need : List Nat) (s : State) :
    (settle k comm position add need s).beam.excluded = s.beam.excluded := by
  unfold settle
  dsimp only
  split
  · split
    · exact failPosition_excluded _ _ _ _ _
    · exact deliverPosition_excluded _ _ _ _ _ _
  · rfl
  · rfl

/-- The positions that an exclusion may complete. -/
def settleOpen (comm : Nat) (s : State) : State :=
  each (s.beam.positions.filter fun e => decide (e.1 / 2 ^ 32 = comm)) (fun e st =>
    settle e.1 comm (e.1 % 2 ^ 32) (commOf st comm).add (sourcesOf st comm) st) s

theorem settleOpen_grows (comm : Nat) (s : State) : Grows 11043460 s (settleOpen comm s) :=
  .each (.refl _ s) fun _ st => settle_grows _ _ _ _ _ st

theorem settleOpen_excluded (comm : Nat) (s : State) : (settleOpen comm s).beam.excluded = s.beam.excluded :=
  each_excluded (fun _ _ => settle_excluded _ _ _ _ _ _) _ s

theorem settleOpen_of_none {comm : Nat} (h : s.beam.positions = []) : settleOpen comm s = s := by
  simp only [settleOpen, h, List.filter_nil, each, List.foldl_nil]

/-- The member's place among the sources left out. -/
def leftOut (comm member : Nat) (s : State) : State :=
  { s with beam := { s.beam with excluded := s.beam.excluded ++ [64 * comm + member] } }

theorem excludeSource_eq {comm member source : Nat} (hnew : s.beam.excluded.contains (64 * comm + member) = false) :
    excludeSource comm member source s = stepJournal 2 (settleOpen comm (leftOut comm member s)).tick.step 9 source
      (settleOpen comm (leftOut comm member s)) :=
  if_neg (by rw [hnew]; exact Bool.false_ne_true)

theorem excluded_excludeSource {comm member source : Nat} (hnew : s.beam.excluded.contains (64 * comm + member) = false) :
    (excludeSource comm member source s).beam.excluded = s.beam.excluded ++ [64 * comm + member] := by
  rw [excludeSource_eq hnew]
  exact settleOpen_excluded comm (leftOut comm member s)

/-- Without an open position an exclusion leaves its mark and its journal entry alone. -/
theorem excludeSource_only {comm member source : Nat} (hnew : s.beam.excluded.contains (64 * comm + member) = false)
    (hnone : s.beam.positions = []) : Only [.beam, .snap] s (excludeSource comm member source s) := by
  rw [excludeSource_eq hnew, settleOpen_of_none (s := leftOut comm member s) hnone]
  exact only_of_patch rfl

/-- The entry just written stands last in the journal. -/
theorem stepJournal_last {kind step cause source : Nat} (hroom : 0 < s.snap.journalEntries) :
    (stepJournal kind step cause source s).snap.journal.getLast?.map (fun e => (e.kind, e.source)) = some (kind, source) := by
  unfold stepJournal
  dsimp only
  rw [List.getLast?_drop, List.getLast?_concat, if_neg (by simp only [List.length_append, List.length_singleton]; omega)]
  rfl

theorem journal_excludeSource {comm member source : Nat} (hnew : s.beam.excluded.contains (64 * comm + member) = false)
    (hroom : 0 < s.snap.journalEntries) :
    (excludeSource comm member source s).snap.journal.getLast?.map (fun e => (e.kind, e.source)) = some (2, source) := by
  rw [excludeSource_eq hnew]
  refine stepJournal_last ?_
  rw [(settleOpen_grows comm (leftOut comm member s)).same .snap rfl]
  exact hroom

theorem bound_paused {τ : Nat} {comm : Fin 64} {source : MemberId} (hready : Ready s)
    (hpaused : isPaused s (64 * s.job.group + source.val) = true) :
    exec (.lateBoundExpired τ comm source) s = .next (atTime τ s) := by
  refine (next_of_ready hready rfl).trans (congrArg _ (if_pos ?_))
  have hsame : isPaused (atTime τ s) (64 * (atTime τ s).job.group + source.val) = true := hpaused
  rw [hsame, Bool.true_or]

theorem bound_late {τ : Nat} {comm : Fin 64} {source : MemberId} {w : Nat × PositionS} (hready : Ready s)
    (hruns : isPaused s (64 * s.job.group + source.val) = false) (hlead : isLead s = false)
    (hwaits : waitingFor s comm.val source.val = [w]) (hsince : w.2.waitSince = some 0) (hlate : lateNs s ≤ max s.now τ) :
    exec (.lateBoundExpired τ comm source) s =
      .next (emit (.suspect comm.val (64 * s.job.group + source.val) false) (atTime τ s)) := by
  have hpassed : lateFor (atTime τ s) comm.val source.val = true := by
    have hsame : waitingFor (atTime τ s) comm.val source.val = [w] := hwaits
    have hbound : lateNs (atTime τ s) ≤ (atTime τ s).now := hlate
    simp only [lateFor, hsame, List.isEmpty_cons, Bool.false_and, Bool.false_eq_true, if_false, List.any_cons, late, hsince,
      Nat.zero_add, hbound, decide_true, Bool.true_or]
  have hgoes : ¬ (isPaused (atTime τ s) (64 * (atTime τ s).job.group + source.val) ||
      !lateFor (atTime τ s) comm.val source.val) = true := by
    have hsame : isPaused (atTime τ s) (64 * (atTime τ s).job.group + source.val) = false := hruns
    rw [hsame, hpassed]
    exact Bool.false_ne_true
  have hmember : ¬ isLead (atTime τ s) = true := by
    rw [show isLead (atTime τ s) = false from hlead]; exact Bool.false_ne_true
  have hgather : (waitingFor (atTime τ s) comm.val source.val).isEmpty = false := by
    rw [show waitingFor (atTime τ s) comm.val source.val = [w] from hwaits]; rfl
  refine (next_of_ready hready rfl).trans (congrArg _ ((if_neg hgoes).trans ((if_neg hmember).trans ?_)))
  rw [hgather]
  rfl

theorem suspect_eq {τ : Nat} {comm : Fin 64} {gather : Bool} {group : GroupId} {member : MemberId} (hready : Ready s)
    (hlead : isLead s = true) (hstarted : s.job.started = true) : exec (.suspectReport τ comm gather group member) s =
      .next (onSuspect comm.val gather group.val member.val (atTime τ s)) := by
  refine (next_of_ready hready rfl).trans (congrArg _ (if_pos ?_))
  have hsameLead : isLead (atTime τ s) = true := hlead
  have hsameJob : (atTime τ s).job.started = true := hstarted
  rw [hsameLead, hsameJob]
  rfl

/-- The lead excludes by notice where the communicator allows it. -/
theorem onSuspect_excludes {comm group member : Nat} (hbulk : (commOf s comm).bulk = true)
    (hexcludable : (commOf s comm).excludable = true) (hsource : bitAt (commOf s comm).dests member = false)
    (hnew : s.beam.excluded.contains (64 * comm + member) = false) : onSuspect comm false group member s =
      excludeSource comm member (64 * group + member) (emit (.exclusion comm member) s) := by
  refine (if_pos ?_).trans (if_neg (by rw [hnew]; exact Bool.false_ne_true))
  rw [hbulk, hexcludable, hsource]
  rfl

theorem onSuspect_gather {comm group member : Nat} (hnone : (s.grp.requests.any fun r => decide (r.1.cause = 9)) = false)
    (hactive : (memberS s (64 * group + member)).state = .active) : onSuspect comm true group member s =
      requestRollback 9 (leaveRoles (64 * group + member) (setMemberState (64 * group + member) .excluded s)) := by
  refine (if_neg ?_).trans ((if_neg (by rw [hnone]; exact Bool.false_ne_true)).trans ?_)
  · rw [Bool.not_true, Bool.and_false, Bool.false_and]; exact Bool.false_ne_true
  · simp only [excludeMember, hactive]

end

/-- Settles O30: one clause each for the source engine, the destination engine, the late bound and the exclusion. -/
theorem collectivesAdvance : Obligations.CollectivesAdvance := by
  unfold Obligations.CollectivesAdvance
  refine ⟨fun f s comm left i c hready hlit hturn hnext hchunk hfresh => ?_, fun f comm dest position s i hready hheld => ?_,
    fun f comm dest position s hready => ?_, fun τ f header values chk place s hready hlit hstale => ?_,
    fun τ f header values chk place s h hready hlit hh hstep hroll hop hin hmissing hlast hsource hadd htotal => ?_,
    fun τ f header values place s h hready hlit hh hstep hroll hop hadd hsource hlast hoffset hin hnone => ?_,
    fun τ comm source s hready hpaused => ?_, fun τ comm source s w hready hruns hlead hwaits hsince hlate => ?_,
    fun τ comm group member s hready hlead hstarted hbulk hexcludable hsource hnew => ?_,
    fun τ comm group member s hready hlead hstarted hactive hnone => ?_, fun comm group member s hready hnew hroom => ?_⟩
  · exact ⟨_, chunkSent_eq hready hlit hturn hnext hchunk hfresh, rfl, rfl, inFlight_of_credits rfl, counter_count_same _ _ _,
      only_of_patch rfl⟩
  · refine ⟨_, chunkAcked_eq hready hheld, rfl, inFlight_of_credits (f := fun n => n - 1) rfl,
      fun c d hne hd => inFlight_of_other (comm := comm.val) (dest := dest.val) (f := fun n => n - 1) ?_ rfl, only_of_patch rfl⟩
    intro hkey
    have hdest := dest.isLt
    exact hne (Prod.ext (by omega) (by omega))
  · exact ⟨_, next_of_ready hready rfl, rfl, only_of_patch rfl⟩
  · exact ⟨_, (chunkArrives_eq hready hlit).trans (congrArg _ (if_pos hstale)), counter_count_same _ _ _, only_of_patch rfl⟩
  · subst hh
    have htaken := chunkPacket_taken (s := atTime τ s) (f := f.val) (h := decodeChunk header.toNat) (vs := values) (chk := chk)
      (ps := place) hstep hroll hop hin hmissing
    obtain ⟨p, hp⟩ : ∃ p, p = takePacket (commOf s (decodeChunk header.toNat).comm).add (decodeChunk header.toNat) values chk
      (positionOf s (positionKey false 0 (decodeChunk header.toNat).comm (decodeChunk header.toNat).position)) := ⟨_, rfl⟩
    have hwaits : (decodeChunk header.toNat).src ∈ missing p (sourcesOf s (decodeChunk header.toNat).comm) := by
      refine List.mem_filter.mpr ⟨hsource, ?_⟩
      rw [sourceIn_of_total (by rw [hp, total_takePacket hlast, htotal])]
      rfl
    obtain ⟨w, hsettled⟩ := settle_waits (comm := (decodeChunk header.toNat).comm) (position := (decodeChunk header.toNat).position)
      (add := (commOf s (decodeChunk header.toNat).comm).add)
      (s := setPosition (positionKey false 0 (decodeChunk header.toNat).comm (decodeChunk header.toNat).position) p (atTime τ s))
      (k := positionKey false 0 (decodeChunk header.toNat).comm (decodeChunk header.toNat).position)
      (need := sourcesOf s (decodeChunk header.toNat).comm)
      (by rw [positionOf_setPosition_same]; exact hwaits)
    rw [positionOf_setPosition_same] at hsettled
    have htime : Only [.now] s (atTime τ s) := only_of_patch rfl
    refine ⟨_, (chunkArrives_eq hready hlit).trans (congrArg _ (htaken.trans ((hp ▸ hsettled :)))), ?_, rfl,
      ((htime.trans (setPosition_only _ _ _)).trans (setPosition_only _ _ _)).mono (by decide)⟩
    rw [positionOf_setPosition_same]
    simp only [takePacket, Nat.ne_of_gt hadd, if_false]
  · subst hh
    have htaken := chunkPacket_taken (s := atTime τ s) (f := f.val) (h := decodeChunk header.toNat) (vs := values) (chk := true)
      (ps := place) hstep hroll hop hin (by
        rw [show positionOf (atTime τ s) _ = _ from hnone]; rfl)
    obtain ⟨vs, hsettled⟩ := settle_whole (comm := (decodeChunk header.toNat).comm)
      (position := (decodeChunk header.toNat).position) (src := (decodeChunk header.toNat).src)
      (s := setPosition (positionKey false 0 (decodeChunk header.toNat).comm (decodeChunk header.toNat).position)
        (takePacket 1 (decodeChunk header.toNat) values true {}) (atTime τ s)) (positionOf_setPosition_same _ _)
      (sourceIn_takePacket hlast hoffset) rfl
    have hadd' : (commOf (atTime τ s) (decodeChunk header.toNat).comm).add = 1 := hadd
    have hsource' : sourcesOf (atTime τ s) (decodeChunk header.toNat).comm = [(decodeChunk header.toNat).src] := hsource
    have hnone' : positionOf (atTime τ s) (positionKey false 0 (decodeChunk header.toNat).comm
      (decodeChunk header.toNat).position) = {} := hnone
    rw [hadd', hsource', hnone'] at htaken
    have htime : Only [.now] s (atTime τ s) := only_of_patch rfl
    exact ⟨_, (chunkArrives_eq hready hlit).trans (congrArg _ (htaken.trans hsettled)), positionOf_setPosition_same _ _,
      List.getLast?_concat, (((htime.trans (setPosition_only _ _ _)).trans (setPosition_only _ _ _)).trans
        ((emit_only _ _).trans ((emitAll_grows _ _).onlyIn [.sent] (by decide)))).mono (by decide)⟩
  · exact ⟨_, bound_paused hready hpaused, only_of_patch rfl⟩
  · exact ⟨_, bound_late hready hruns hlead hwaits hsince hlate, rfl, only_of_patch rfl⟩
  · have heq := suspect_eq (τ := τ) (comm := comm) (gather := false) (group := group) (member := member) hready hlead hstarted
    rw [onSuspect_excludes (s := atTime τ s) hbulk hexcludable hsource hnew] at heq
    have hnew' : (emit (.exclusion comm.val member.val) (atTime τ s)).beam.excluded.contains (64 * comm.val + member.val) = false := hnew
    refine ⟨_, heq, (excludeSource_grows _ _ _ _).sent.subset (List.mem_append_right _ (List.mem_singleton.mpr rfl)), ?_,
      fun hnone => excludeSource_only hnew' hnone .grp (by decide)⟩
    rw [excluded_excludeSource hnew']
    exact List.mem_append_right _ (List.mem_singleton.mpr rfl)
  · have hisLead : isLead s = true := (Bool.and_eq_true _ _ ▸ hlead).1
    have hjob : (leaveRoles (64 * group.val + member.val) (setMemberState (64 * group.val + member.val) .excluded
      (atTime τ s))).job = s.job := by simp
    refine ⟨_, (suspect_eq hready hisLead hstarted).trans (congrArg _ (onSuspect_gather (s := atTime τ s) hnone hactive)), ?_, ?_⟩
    · rw [memberS_requestRollback, memberS_leaveRoles, memberS_setMemberState_same]
    · rw [requestRollback_of_jobLead 9 (by rw [hjob, hstarted]) (by rw [isJobLead_congr hjob, hlead]), selfIndex_congr hjob]
      simp
  · exact ⟨_, next_of_ready hready rfl, excluded_excludeSource hnew, journal_excludeSource hnew hroom, excludeSource_only hnew⟩

end Sys2Proof.Machine

/-! SUPPORT. The glint path (R367 to R373). -/

namespace Sys2Proof.Machine

/-! ## One 64-bit word -/

theorem addI64Bytes_word {a : List Byte} (ha : a.length = 8) (w : BitVec 64) :
    addI64Bytes a (bytesLE 8 w.toNat) = bytesLE 8 (ofBytesLE a + w.toNat) := by
  have hword : ofBytesLE (bytesLE 8 w.toNat) = w.toNat := by
    rw [ofBytesLE_bytesLE]
    exact Nat.mod_eq_of_lt w.isLt
  have htake : a.take 8 = a := List.take_of_length_le (by omega)
  have htakeWord : (bytesLE 8 w.toNat).take 8 = bytesLE 8 w.toNat := List.take_of_length_le (by rw [length_bytesLE])
  simp only [addI64Bytes, ha, length_bytesLE, ceilDiv, Nat.min_self]
  simp [htake, htakeWord, hword]

/-! ## Combining (R368) -/

section
variable {s : State} {stage : GlintStage} {h : GlintHdr} {data : List Byte}

/-- The combine in progress at a stage. -/
def combineIn (s : State) (stage : GlintStage) (h : GlintHdr) : CombineS :=
  mapGet {} s.beam.combines (combineKey (stageCode stage) h.comm h.seq h.piece)

/-- The combine's record set. -/
def setCombine (stage : GlintStage) (h : GlintHdr) (v : CombineS) (s : State) : State :=
  { s with beam := { s.beam with
      combines := mapSet {} s.beam.combines (combineKey (stageCode stage) h.comm h.seq h.piece) v } }

theorem combineIn_setCombine (v : CombineS) : combineIn (setCombine stage h v s) stage h = v := mapGet_mapSet_same

theorem setCombine_only (v : CombineS) : Only [.beam] s (setCombine stage h v s) := only_of_patch rfl

theorem glintAt_stale (hstale : h.roll ≠ s.red.roll ∨ h.step ≠ s.tick.step % 65536) :
    glintAt stage h data s = count cGlintStale 1 s := if_pos hstale

theorem glintAt_combines (hroll : h.roll = s.red.roll) (hstep : h.step = s.tick.step % 65536) (hstage : stage ≠ .result)
    (hop : h.op ≤ 4) : glintAt stage h data s = combineAt stage h data s :=
  (if_neg (not_or.mpr ⟨not_not.mpr hroll, not_not.mpr hstep⟩)).trans ((if_neg hstage).trans (if_pos hop))

theorem combineAt_waits (hshort : (combineIn s stage h).count + h.count < stageCount s h.comm stage) : ∃ v,
    v.count = (combineIn s stage h).count + h.count ∧ combineAt stage h data s = setCombine stage h v s :=
  ⟨_, rfl, if_neg (Nat.not_le.mpr hshort)⟩

theorem combineAt_done (hwhole : stageCount s h.comm stage ≤ (combineIn s stage h).count + h.count) :
    combineAt stage h data s = stageDone stage h ((combineIn s stage h).count + h.count)
      (if (combineIn s stage h).count = 0 then data else (glintCombine h.op (combineIn s stage h).data data).getD data) data
      (setCombine stage h {} s) := if_pos hwhole

/-- A packet reaches its combiner, whose field is not dark. -/
theorem glintArrives {τ : Nat} {header : BitVec 128} {ws : List (BitVec 64)} (hready : Ready s)
    (hlit : ∀ f, stage = GlintStage.field f → isDark s f.val = false) : exec (.glintPacket τ stage header ws) s =
      .next (glintAt stage (decodeGlint header.toNat)
        ((ws.flatMap fun w => bytesLE 8 w.toNat).take (decodeGlint header.toNat).bytes) (atTime τ s)) := by
  refine (next_of_ready hready rfl).trans (congrArg _ (if_neg ?_))
  cases stage with
  | field f => exact fun hdark => Bool.false_ne_true ((hlit f rfl).symm.trans hdark)
  | moduleRoot => exact Bool.false_ne_true
  | rootRoot => exact Bool.false_ne_true
  | jobRoot => exact Bool.false_ne_true
  | result => exact Bool.false_ne_true

theorem time_only (τ : Nat) : Only [.now] s (atTime τ s) := only_of_patch rfl

/-! ## Results and barriers (R372) -/

theorem each_noteLateMember (last : Nat) (l : List Nat) (s : State) : Only [.grp] s (each l (noteLateMember last) s) :=
  each_only (fun m s => (show Only [.grp] s (noteLateMember last m s) from only_of_patch rfl)) l s

theorem noteBarrier_of_lead {comm last : Nat} (hlead : isLead s = true) : (noteBarrier comm last s).sent = s.sent ∧
    (noteBarrier comm last s).counters = (count cBarriers 1 s).counters ∧ (noteBarrier comm last s).job = s.job := by
  have heq : noteBarrier comm last s = each (maskMembers (commOf (count cBarriers 1 s) comm).sources) (noteLateMember last)
    (count cBarriers 1 s) := if_pos (show isLead (count cBarriers 1 s) = true from hlead)
  have honly := each_noteLateMember last (maskMembers (commOf (count cBarriers 1 s) comm).sources) (count cBarriers 1 s)
  rw [← heq] at honly
  exact ⟨honly .sent (by decide), honly .counters (by decide), honly .job (by decide)⟩

theorem each_glintOn (h : GlintHdr) (data : List Byte) (l : List Nat) (s : State) :
    (each l (fun m st => glintOn .result (some (64 * st.job.group + m)) h data st) s).sent.length = s.sent.length + l.length ∧
      Only [.sent] s (each l (fun m st => glintOn .result (some (64 * st.job.group + m)) h data st) s) := by
  obtain ⟨ms, heq, hlength⟩ := each_emit (fun m st =>
    Msg.glint .result (some (64 * st.job.group + m)) (encodeGlint { h with bytes := data.length }) data) l s
  have hsame : each l (fun m st => glintOn .result (some (64 * st.job.group + m)) h data st) s = emitAll ms s := heq
  rw [hsame]
  exact ⟨by rw [emitAll_sent, List.length_append, hlength], only_of_patch rfl⟩

/-- A result goes to every other member, and is delivered here. -/
theorem spreadResult_first (hpiece : h.piece = 0) :
    (spreadResult h data s).sent.length =
      s.sent.length + 1 + ((groupMembers s).filter fun m => decide (m ≠ s.job.member)).length ∧
    (spreadResult h data s).counters = (count cGlintOps 1 s).counters := by
  obtain ⟨hlength, honly⟩ := each_glintOn h data ((groupMembers s).filter fun m => decide (m ≠ s.job.member)) s
  obtain ⟨u, hu⟩ : ∃ u, u = each ((groupMembers s).filter fun m => decide (m ≠ s.job.member))
    (fun m st => glintOn .result (some (64 * st.job.group + m)) h data st) s := ⟨_, rfl⟩
  have heq : spreadResult h data s = emit (.glint .result none (encodeGlint { h with bytes := data.length }) data)
      (count cGlintOps 1 u) := by
    have hdelivered : spreadResult h data s = deliverGlint h data u := by rw [hu]; rfl
    rw [hdelivered]
    simp only [deliverGlint, glintOn, hpiece, if_true]
  rw [← hu] at hlength honly
  rw [heq, emit_sent, emit_counters, count_sent, List.length_append, hlength]
  refine ⟨by simp only [List.length_singleton]; omega, ?_⟩
  exact congrArg (fun m => mapUpd 0 m cGlintOps fun v => v + 1) (honly .counters (by decide))

end

/-- Settles O31: one clause each for the stale packet, the combiner that waits, the field's and the module's totals and ROOT. -/
theorem glintCombines : Obligations.GlintCombines := by
  unfold Obligations.GlintCombines
  refine ⟨fun τ stage header data s hready hlit hstale => ?_, fun τ f header data s h hready hlit hh hroll hstep hop hshort => ?_,
    fun τ f header data s h hready hlit hh hroll hstep hop hscope hword hbytes hbegun hlength hwhole => ?_,
    fun τ header data s h hready hh hroll hstep hop hscope hbytes hnone hfresh hwhole => ?_,
    fun τ header data s h hready hh hroll hstep hop hscope hpiece hlead hwhole => ?_⟩
  · exact ⟨_, (glintArrives hready hlit).trans (congrArg _ (glintAt_stale hstale)), counter_count_same _ _ _, only_of_patch rfl⟩
  · subst hh
    have hfield : ∀ g, GlintStage.field f = GlintStage.field g → isDark s g.val = false := fun g hg => by cases hg; exact hlit
    obtain ⟨v, hcount, hwaits⟩ := combineAt_waits (s := atTime τ s) (stage := .field f) (h := decodeGlint header.toNat)
      (data := (data.flatMap fun w => bytesLE 8 w.toNat).take (decodeGlint header.toNat).bytes) hshort
    refine ⟨_, (glintArrives hready hfield).trans (congrArg _ ((glintAt_combines (s := atTime τ s) (stage := .field f) hroll hstep (by simp) hop).trans hwaits)),
      ?_, ((time_only τ).trans (setCombine_only v)).mono (by decide)⟩
    exact (congrArg CombineS.count (combineIn_setCombine v)).trans hcount
  · subst hh
    have hfield : ∀ g, GlintStage.field f = GlintStage.field g → isDark s g.val = false := fun g hg => by cases hg; exact hlit
    obtain ⟨w, rfl⟩ := List.length_eq_one_iff.mp hword
    have hdata : (([w].flatMap fun w => bytesLE 8 w.toNat).take (decodeGlint header.toNat).bytes) = bytesLE 8 w.toNat := by
      rw [hbytes, List.flatMap_singleton]
      exact List.take_of_length_le (by rw [length_bytesLE])
    have hdone := combineAt_done (s := atTime τ s) (stage := .field f) (h := decodeGlint header.toNat) (data := bytesLE 8 w.toNat)
      (Nat.le_of_eq hwhole)
    have hcount : (combineIn (atTime τ s) (.field f) (decodeGlint header.toNat)).count ≠ 0 := Nat.ne_of_gt hbegun
    have hsum : (glintCombine (decodeGlint header.toNat).op
        (combineIn (atTime τ s) (.field f) (decodeGlint header.toNat)).data (bytesLE 8 w.toNat)).getD (bytesLE 8 w.toNat) =
        bytesLE 8 (ofBytesLE (combineIn (atTime τ s) (.field f) (decodeGlint header.toNat)).data + w.toNat) := by
      rw [hop]
      exact addI64Bytes_word hlength w
    have hscoped (n : Nat) (d : List Byte) (st : State) : stageDone (.field f) (decodeGlint header.toNat) n d (bytesLE 8 w.toNat) st =
        glintOn .moduleRoot (some (selfIndex st)) { decodeGlint header.toNat with count := n } d st := if_neg hscope
    rw [if_neg hcount, hsum, hscoped] at hdone
    have heq := glintArrives (τ := τ) (stage := .field f) (header := header) (ws := [w]) hready hfield
    rw [hdata, glintAt_combines (s := atTime τ s) hroll hstep (by simp) (by omega), hdone] at heq
    refine ⟨_, heq, ?_, combineIn_setCombine (s := atTime τ s) {},
      (((time_only τ).trans (setCombine_only {})).trans (emit_only _ _)).mono (by decide)⟩
    have hsent (st : State) (d : List Byte) (hd : d.length = 8) (n : Nat) :
        (glintOn .moduleRoot (some (selfIndex st)) { decodeGlint header.toNat with count := n } d st).sent =
          st.sent ++ [.glint .moduleRoot (some (selfIndex st)) (encodeGlint { decodeGlint header.toNat with count := n }) d] := by
      simp only [glintOn, emit_sent, hd, hbytes]
    exact hsent _ _ (length_bytesLE _ _) _
  · subst hh
    subst hnone
    have hdone := combineAt_done (s := atTime τ s) (stage := .moduleRoot) (h := decodeGlint header.toNat) (data := [])
      (by rw [show (combineIn (atTime τ s) .moduleRoot (decodeGlint header.toNat)).count = 0 from hfresh, Nat.zero_add]; exact hwhole)
    have hcount : (combineIn (atTime τ s) .moduleRoot (decodeGlint header.toNat)).count = 0 := hfresh
    have hscoped (n : Nat) (st : State) : stageDone .moduleRoot (decodeGlint header.toNat) n [] [] st =
        glintOn .rootRoot (some (64 * st.job.group + (commOf st (decodeGlint header.toNat).comm).root))
          { decodeGlint header.toNat with count := 1 } [] st := if_neg (by omega)
    rw [if_pos hcount, hscoped] at hdone
    have heq := glintArrives (τ := τ) (stage := .moduleRoot) (header := header) (ws := []) hready (fun f hf => nomatch hf)
    rw [List.flatMap_nil, List.take_nil, glintAt_combines (s := atTime τ s) hroll hstep (by simp) hop, hdone] at heq
    have hsent (st : State) (dest : Option Nat) :
        (glintOn .rootRoot dest { decodeGlint header.toNat with count := 1 } [] st).sent =
          st.sent ++ [.glint .rootRoot dest (encodeGlint { decodeGlint header.toNat with count := 1 }) []] := by
      simp only [glintOn, emit_sent, List.length_nil, hbytes]
    exact ⟨_, heq, hsent _ _, (((time_only τ).trans (setCombine_only {})).trans (emit_only _ _)).mono (by decide)⟩
  · subst hh
    obtain ⟨d, hd⟩ : ∃ d, d = (data.flatMap fun w => bytesLE 8 w.toNat).take (decodeGlint header.toNat).bytes := ⟨_, rfl⟩
    have heq := glintArrives (τ := τ) (stage := .rootRoot) (header := header) (ws := data) hready (fun f hf => nomatch hf)
    rw [← hd, glintAt_combines (s := atTime τ s) hroll hstep (by simp) (by omega),
      combineAt_done (s := atTime τ s) (stage := .rootRoot) (h := decodeGlint header.toNat) hwhole] at heq
    obtain ⟨n, hn⟩ : ∃ n, n = (combineIn (atTime τ s) .rootRoot (decodeGlint header.toNat)).count +
      (decodeGlint header.toNat).count := ⟨_, rfl⟩
    obtain ⟨sum, hsum⟩ : ∃ b, b = if (combineIn (atTime τ s) .rootRoot (decodeGlint header.toNat)).count = 0 then d else
      (glintCombine (decodeGlint header.toNat).op (combineIn (atTime τ s) .rootRoot (decodeGlint header.toNat)).data d).getD d :=
      ⟨_, rfl⟩
    have hscoped (st : State) : stageDone .rootRoot (decodeGlint header.toNat) n sum d st =
        spreadResult { decodeGlint header.toNat with count := n } sum
          (noteBarrier (decodeGlint header.toNat).comm (ofBytesLE (d.take 8)) st) := by
      simp only [stageDone, hop, hscope, if_true, Nat.le_refl]
    rw [← hn, ← hsum, hscoped] at heq
    obtain ⟨hsent, hcounters, hjob⟩ := noteBarrier_of_lead (comm := (decodeGlint header.toNat).comm)
      (last := ofBytesLE (d.take 8)) (s := setCombine .rootRoot (decodeGlint header.toNat) {} (atTime τ s)) hlead
    obtain ⟨hlength, hcounted⟩ := spreadResult_first (h := { decodeGlint header.toNat with count := n }) (data := sum)
      (s := noteBarrier (decodeGlint header.toNat).comm (ofBytesLE (d.take 8))
        (setCombine .rootRoot (decodeGlint header.toNat) {} (atTime τ s))) hpiece
    have hmembers : groupMembers (noteBarrier (decodeGlint header.toNat).comm (ofBytesLE (d.take 8))
        (setCombine .rootRoot (decodeGlint header.toNat) {} (atTime τ s))) = groupMembers s := by
      simp only [groupMembers, hjob]; rfl
    refine ⟨_, heq, ?_, ?_, ?_⟩
    · rw [hlength, hsent, hmembers, hjob]; rfl
    · rw [counter_congr hcounted, counter_count_ne _ _ (by decide), counter_congr hcounters]
      exact counter_count_same _ _ _
    · rw [counter_congr hcounted, counter_count_same, counter_congr hcounters, counter_count_ne _ _ (by decide)]
      rfl

end Sys2Proof.Machine

/-! SUPPORT. Placement: rebinding, re-placement and layout loads (R98, R104, R378 to R388). -/

namespace Sys2Proof.Machine

/-! ## What the checks of a layout set read (R378, R379) -/

section
variable {s t : State} (hfabric : t.fabric = s.fabric)
include hfabric

theorem isLit_congr : isLit t = isLit s := by
  funext f
  rw [isLit, isLit, fieldState, fieldState, fieldS_congr hfabric]

theorem isEnabled_congr : isEnabled t = isEnabled s := by
  funext b
  simp only [isEnabled, hfabric]

theorem bindable_congr : bindable t = bindable s := by
  funext b
  simp only [bindable, isEnabled_congr hfabric, isLit_congr hfabric]

theorem nearestBlock_congr : nearestBlock t = nearestBlock s := by
  funext used b
  rw [nearestBlock, nearestBlock, bindable_congr hfabric]

theorem bindRest_congr (m : Map Nat) (used : List Nat) : bindRest t used m = bindRest s used m := by
  delta bindRest bindRest._f
  rw [bindable_congr hfabric, nearestBlock_congr hfabric]

theorem bindMap_congr (m : Map Nat) : bindMap t m = bindMap s m := by
  simp only [bindMap, bindable_congr hfabric, bindRest_congr hfabric]

theorem matching_congr (is : List LayoutImage) : matching t is = matching s is := by
  have hmask : outMask t = outMask s := by rw [outMask, outMask, isLit_congr hfabric]
  rw [matching, matching, hmask]

theorem allDone_congr : allDone t = allDone s := by simp only [allDone, hfabric]

variable (hmem : t.mem = s.mem)
include hmem

theorem bindProblem_congr (i : LayoutImage) : bindProblem t i = bindProblem s i := by
  have henabled : enabledIn t = enabledIn s := by
    funext f
    simp only [enabledIn, hfabric]
  have hbad (m : Map Nat) : firstBad t m = firstBad s m := by
    simp only [firstBad, entryOk, isEnabled_congr hfabric, isLit_congr hfabric]
  have hbytes : hbmBytes t = hbmBytes s := by simp only [hbmBytes, excludedSpans, hmem]
  have hsum : sumEnabled t (isLit t) = sumEnabled s (isLit s) := by
    rw [sumEnabled, sumEnabled, henabled, isLit_congr hfabric]
  unfold bindProblem
  rw [bindMap_congr hfabric, hsum, hbytes]
  simp only [hbad]

theorem asIf_congr (mask : Nat) : (asIf mask t).fabric = (asIf mask s).fabric ∧ (asIf mask t).mem = (asIf mask s).mem := by
  unfold asIf
  generalize List.range 84 = l
  induction l generalizing s t with
  | nil => exact ⟨hfabric, hmem⟩
  | cons f l ih =>
    refine ih (s := setField f { fieldS s f with state := if bitAt mask f then .shade else .lit } s)
      (t := setField f { fieldS t f with state := if bitAt mask f then .shade else .lit } t) ?_ hmem
    simp only [setField, fieldS_congr hfabric, hfabric]

variable (hstored : t.place.stored = s.place.stored)
include hstored

omit hfabric in
theorem setImages_congr (o : Nat) : setImages t o = setImages s o := by
  have hread (o n : Nat) : systemRead t o n = systemRead s o n := by
    have hplace : systemPlace t = systemPlace s := by
      funext o
      simp only [systemPlace, carvedAddr, excludedSpans, hmem]
    have hgone : stackGone t = stackGone s := by
      funext m
      simp only [stackGone, hmem]
    have hbyte (o : Nat) : systemByte t o = systemByte s o := by
      rw [systemByte, systemByte, hplace, hgone]
      simp only [memByte, hmem]
    simp only [systemRead, hbyte]
  have himage (o : Nat) : imageAt t o = imageAt s o := by
    simp only [imageAt, imageLength, hread, hmem, hstored]
  simp only [setImages, himage]

theorem checkSet_congr (htick : t.tick = s.tick) (hjob : t.job = s.job) (o : Nat) : checkSet t o = checkSet s o := by
  have htiming : checkTiming t = checkTiming s := by
    funext ix i
    simp only [checkTiming, htick, hjob]
  have hsections (p : LayoutImage) : checkSections t p = checkSections s p := by
    funext ix i
    obtain ⟨hfabric', hmem'⟩ := asIf_congr hfabric hmem i.outMask
    simp only [checkSections, bindProblem_congr hfabric' hmem']
  simp only [checkSet, setImages_congr hmem hstored, htiming, hsections]

end

/-! ## Retired blocks (R104) -/

/-- The blocks out of service, those due to leave it and the failed cores stand. -/
structure BlocksKept (s t : State) : Prop where
  out : t.fabric.outBlocks = s.fabric.outBlocks
  due : t.fabric.retireNext = s.fabric.retireNext
  failed : t.fabric.failedCores = s.fabric.failedCores

theorem BlocksKept.refl (s : State) : BlocksKept s s := ⟨rfl, rfl, rfl⟩

theorem BlocksKept.trans {s t u : State} (h : BlocksKept s t) (k : BlocksKept t u) : BlocksKept s u :=
  ⟨k.out.trans h.out, k.due.trans h.due, k.failed.trans h.failed⟩

theorem BlocksKept.of_fabric {s t : State} (h : t.fabric = s.fabric) : BlocksKept s t :=
  ⟨congrArg _ h, congrArg _ h, congrArg _ h⟩

theorem putSize_blocksKept (z : SizeTable) (s : State) : BlocksKept s (putSize z s) := by
  unfold putSize
  split
  · exact .refl s
  · exact ⟨rfl, rfl, rfl⟩

theorem putSize_spec (z : SizeTable) (s : State) : (putSize z s).fabric.unitMap = s.fabric.unitMap ∧
    (putSize z s).fabric.size.mapVersion = z.mapVersion := by
  unfold putSize
  split
  next h => exact ⟨rfl, (congrArg SizeTable.mapVersion h).symm⟩
  next => exact ⟨rfl, rfl⟩

theorem loadPieces_only (ps : List LeafPiece) (s : State) : Only [.cores] s (loadPieces ps s) :=
  (loadPieces_grows ps s).onlyIn _ (by decide)

/-- Rebinding retires the blocks that are due. -/
theorem rebindRetired_kept {s : State} (hdue : s.fabric.retireNext ≠ []) (hdone : allDone s = true) :
    BlocksKept (each s.fabric.retireNext retireBlock { s with fabric := { s.fabric with retireNext := [] } }) (rebindRetired s) := by
  obtain ⟨u, hu⟩ : ∃ u, u = refreshSize (each s.fabric.retireNext retireBlock
    { s with fabric := { s.fabric with retireNext := [] } }) := ⟨_, rfl⟩
  have hsized : BlocksKept (each s.fabric.retireNext retireBlock { s with fabric := { s.fabric with retireNext := [] } }) u := by
    rw [hu]; exact putSize_blocksKept _ _
  have hgoes : ¬ (s.fabric.retireNext.isEmpty || !allDone s) = true := by
    rw [List.isEmpty_eq_false_iff.mpr hdue, hdone]; exact Bool.false_ne_true
  refine hsized.trans ?_
  unfold rebindRetired
  dsimp only
  rw [if_neg hgoes, ← hu]
  split
  · exact .of_fabric ((holdFor_grows 10 _).same .fabric rfl)
  · split
    · exact .refl u
    · next m _ _ =>
      have hdropped : BlocksKept u (dropTranslations { u with fabric := { u.fabric with unitMap := m } }) := ⟨rfl, rfl, rfl⟩
      exact (hdropped.trans (putSize_blocksKept _ _)).trans (.of_fabric (loadPieces_only _ _ .fabric (by decide)))

section
variable {core : CoreRef} {s : State}

/-- The core is noted as failed, its block to leave service. -/
def failureNoted (core : CoreRef) (s : State) : State :=
  { s with fabric := { s.fabric with
      failedCores := if s.fabric.failedCores.contains (coreKey core.block.val core.core.val) then s.fabric.failedCores
        else s.fabric.failedCores ++ [coreKey core.block.val core.core.val]
      retireNext := if s.fabric.outBlocks.contains core.block.val || s.fabric.retireNext.contains core.block.val then
          s.fabric.retireNext
        else s.fabric.retireNext ++ [core.block.val] } }

theorem coreFailed_eq (hready : Ready s) : exec (.coreFailedRebind core) s =
    .next (if heldOrIdle s then rebindRetired (failureNoted core s) else failureNoted core s) :=
  (next_of_ready hready rfl).trans rfl

theorem mem_noted (a : Nat) (l : List Nat) : a ∈ if l.contains a then l else l ++ [a] := by
  split
  · next h => exact List.contains_iff_mem.mp h
  · exact List.mem_append_right _ (List.mem_singleton.mpr rfl)

theorem failed_failureNoted : coreKey core.block.val core.core.val ∈ (failureNoted core s).fabric.failedCores := mem_noted _ _

theorem due_failureNoted (hin : s.fabric.outBlocks.contains core.block.val = false) :
    core.block.val ∈ (failureNoted core s).fabric.retireNext := by
  have heq : (failureNoted core s).fabric.retireNext = if s.fabric.outBlocks.contains core.block.val ||
      s.fabric.retireNext.contains core.block.val then s.fabric.retireNext else s.fabric.retireNext ++ [core.block.val] := rfl
  rw [heq, hin, Bool.false_or]
  exact mem_noted _ _

end

/-! ## An image in force (R98) -/

theorem rewriteContrib_place (f : ContribRec → ContribRec) {s : State} {i : LayoutImage} (hin : s.place.inForce = some i) :
    (rewriteContrib f s).place = { s.place with inForce := some { i with contrib := i.contrib.map f } } := by
  unfold rewriteContrib
  rw [hin]
  have hstep (r : ContribRec) (st : State) : Only [.freeCtr, .cores] st (if f r = r then st else retableBlock r (f r) st) := by
    split
    · exact Only.refl _ _
    · exact (retableBlock_grows _ _ _).onlyIn _ (by decide)
  exact each_only hstep i.contrib _ .place (by decide)

theorem rewriteContrib_fabric (f : ContribRec → ContribRec) (s : State) : (rewriteContrib f s).fabric = s.fabric :=
  (rewriteContrib_grows f s).same .fabric rfl

/-- The image as it stands in force: with the homes of blocks taken over and the owners of now. -/
def forcedImage (i : LayoutImage) (s : State) : LayoutImage :=
  if s.job.started then
    { keepHomes s.place.inForce i with contrib := (keepHomes s.place.inForce i).contrib.map (recordNow s.place.inForce) }
  else i

theorem forcedImage_eq (i : LayoutImage) (s : State) :
    forcedImage i s = { i with homes := (forcedImage i s).homes, contrib := (forcedImage i s).contrib } := by
  unfold forcedImage keepHomes
  split
  · split <;> rfl
  · rfl

section
variable {ix : Nat} {i : LayoutImage} {m : Map Nat} {s : State}

/-- The bound map is in every copy, under a new version. -/
def mapInstalled (i : LayoutImage) (m : Map Nat) (s : State) : State :=
  count cRegClamp (if 1152 < i.stashGib then 1 else 0)
    (putSize { s.fabric.size with mapVersion := (s.fabric.size.mapVersion + 1) % 2 ^ 32 }
      (dropTranslations { s with fabric := { s.fabric with unitMap := m } }))

/-- The image's tables stand in their places. -/
def tablesInForce (ix : Nat) (i : LayoutImage) (m : Map Nat) (s : State) : State :=
  let s2 := mapInstalled i m s
  loadPieces i.leaves { s2 with
    place := { s2.place with
      inForce := some (if s.job.started then keepHomes s.place.inForce i else i), inForceIx := ix, replacing := false, needLayout := false }
    stream := { s2.stream with slotBytes := slotBytesOf i }
    mem := { s2.mem with stashGib := min 1152 i.stashGib }
    red := { s2.red with layers := loadLayers s2 i }
    beam := { s2.beam with glintSeq := [], credits := [], chunks := [], positions := [], shards := [], combines := [] } }

/-- The owners of now stand in the image and in the RACC tables of a running job. -/
def ownersKept (ix : Nat) (i : LayoutImage) (m : Map Nat) (s : State) : State :=
  (if s.job.started then rewriteContrib (recordNow s.place.inForce) else id) (tablesInForce ix i m s)

theorem putInForce_eq : putInForce ix i m s =
    if (ownersKept ix i m s).job.started && decide (scheduleOf (ownersKept ix i m s) ≠ scheduleOf s) && !(ownersKept ix i m s).stream.stop
    then stopStream true (ownersKept ix i m s) else ownersKept ix i m s := rfl

theorem mapInstalled_spec : (mapInstalled i m s).fabric.unitMap = m ∧
    (mapInstalled i m s).fabric.size.mapVersion = (s.fabric.size.mapVersion + 1) % 2 ^ 32 ∧
      Only [.fabric, .cores, .counters] s (mapInstalled i m s) := by
  have hdropped : Only [.fabric, .cores] s (dropTranslations { s with fabric := { s.fabric with unitMap := m } }) :=
    only_of_patch rfl
  refine ⟨?_, ?_, (((hdropped.trans ((putSize_grows _ _).onlyIn [.fabric] (by decide))).trans
    (count_only _ _ _)).mono (by decide))⟩
  · exact (putSize_spec _ _).1
  · exact (putSize_spec _ _).2

theorem tablesInForce_spec : (tablesInForce ix i m s).fabric = (mapInstalled i m s).fabric ∧ (tablesInForce ix i m s).place =
    { s.place with
      inForce := some (if s.job.started then keepHomes s.place.inForce i else i), inForceIx := ix, replacing := false
      needLayout := false } ∧ (tablesInForce ix i m s).job = s.job := by
  obtain ⟨-, -, honly⟩ := mapInstalled_spec (i := i) (m := m) (s := s)
  obtain ⟨u, hu⟩ : ∃ u, u = mapInstalled i m s := ⟨_, rfl⟩
  rw [← hu] at honly ⊢
  unfold tablesInForce
  dsimp only
  rw [← hu, ← (honly .place (by decide) : u.place = s.place)]
  exact ⟨loadPieces_only _ _ .fabric (by decide), loadPieces_only _ _ .place (by decide),
    (loadPieces_only _ _ .job (by decide)).trans (honly .job (by decide))⟩

/-- What an image leaves that is put in force. -/
theorem putInForce_spec : (putInForce ix i m s).place =
      { s.place with inForce := some (forcedImage i s), inForceIx := ix, replacing := false, needLayout := false } ∧
    (putInForce ix i m s).fabric.unitMap = m ∧
      (putInForce ix i m s).fabric.size.mapVersion = (s.fabric.size.mapVersion + 1) % 2 ^ 32 ∧
      (putInForce ix i m s).job = s.job := by
  obtain ⟨hmap, hversion, -⟩ := mapInstalled_spec (i := i) (m := m) (s := s)
  obtain ⟨hfabric, hplace, hjob⟩ := tablesInForce_spec (ix := ix) (i := i) (m := m) (s := s)
  have howners : (ownersKept ix i m s).fabric = (mapInstalled i m s).fabric ∧ (ownersKept ix i m s).place =
      { s.place with inForce := some (forcedImage i s), inForceIx := ix, replacing := false, needLayout := false } ∧
      (ownersKept ix i m s).job = s.job := by
    unfold ownersKept forcedImage
    split
    next hstarted =>
      rw [if_pos hstarted] at hplace
      refine ⟨(rewriteContrib_fabric _ _).trans hfabric, ?_, ((rewriteContrib_grows _ _).same .job rfl).trans hjob⟩
      rw [rewriteContrib_place _ (by rw [hplace]), hplace]
    next hidle =>
      rw [if_neg hidle] at hplace
      exact ⟨hfabric, hplace, hjob⟩
  obtain ⟨hfabric', hplace', hjob'⟩ := howners
  rw [putInForce_eq]
  split
  · exact ⟨hplace', (congrArg FabricS.unitMap hfabric').trans hmap,
      (congrArg (fun f : FabricS => f.size.mapVersion) hfabric').trans hversion, hjob'⟩
  · exact ⟨hplace', (congrArg FabricS.unitMap hfabric').trans hmap,
      (congrArg (fun f : FabricS => f.size.mapVersion) hfabric').trans hversion, hjob'⟩

theorem bindAndForce_bound (hbinds : bindProblem s i = none) (hmap : bindMap s (writeMap i.unitMap []) = some m) :
    bindAndForce ix i s = some (putInForce ix i m s) := by
  unfold bindAndForce
  rw [hbinds, hmap]

end

/-! ## Re-placement and the return to the primary (R382 to R388) -/

section
variable {s : State}

theorem replacement_eq {τ : Nat} {sound copies : Bool} (hready : Ready s) (hdone : allDone s = true)
    (hreplacing : s.place.replacing = true) (hbuilt : s.fabric.rebuildPending = false) :
    exec (.replacementReady τ sound copies) s = .next (finishReplacement sound copies (atTime τ s)) := by
  refine (next_of_ready hready rfl).trans (congrArg _ (if_neg ?_))
  have hreplacing' : (atTime τ s).place.replacing = true := hreplacing
  have hbuilt' : (atTime τ s).fabric.rebuildPending = false := hbuilt
  have hdone' : allDone (atTime τ s) = true := hdone
  rw [hreplacing', hbuilt', hdone']
  exact Bool.false_ne_true

theorem noneDue_eq (hdue : s.fabric.retireNext = []) : { s with fabric := { s.fabric with retireNext := [] } } = s := by
  have hsame (l : List Nat) (hl : s.fabric.retireNext = l) : { s with fabric := { s.fabric with retireNext := l } } = s := by
    subst hl; rfl
  exact hsame [] hdue

theorem finishReplacement_forces {sound copies : Bool} {ix : Nat} {i : LayoutImage} {m : Map Nat}
    (hdue : s.fabric.retireNext = []) (hmatch : matching s s.place.set = some (ix, i)) (hbinds : bindProblem s i = none)
    (hmap : bindMap s (writeMap i.unitMap []) = some m) (hsound : sound = true) (hcopies : copies = true) :
    finishReplacement sound copies s = emit (.ready (putInForce ix i m s).job.member) (putInForce ix i m s) := by
  unfold finishReplacement
  rw [noneDue_eq hdue, hdue]
  dsimp only [List.isEmpty_nil, if_true]
  rw [if_pos rfl, hmatch]
  dsimp only
  rw [hsound, hcopies, if_neg (by decide), bindAndForce_bound hbinds hmap]

theorem finishReplacement_fails {sound copies : Bool} (hdue : s.fabric.retireNext = [])
    (hbad : sound = false ∨ copies = false) : finishReplacement sound copies s = needOnDemand s := by
  unfold finishReplacement
  rw [noneDue_eq hdue, hdue]
  dsimp only [List.isEmpty_nil, if_true]
  rw [if_pos rfl]
  split
  · rfl
  · exact if_pos (by rcases hbad with h | h <;> simp [h])

theorem needOnDemand_spec (hstarted : s.job.started = true) :
    (needOnDemand s).place = { s.place with replacing := false, needLayout := true } ∧ (needOnDemand s).fabric = s.fabric := by
  have heq : needOnDemand s = holdFor 5 { s with place := { s.place with replacing := false, needLayout := true } } :=
    if_pos hstarted
  rw [heq]
  exact ⟨(holdFor_grows 5 _).same .place rfl, (holdFor_grows 5 _).same .fabric rfl⟩

theorem returnAsked_eq (hready : Ready s) (hstarted : s.job.started = true) (hdegraded : s.place.degraded = true)
    (hlit : allLitInJob s = true) : exec .returnToPrimary s =
      .next (if s.job.held && !s.grp.rolling then beginReturn s else { s with place := { s.place with returnDue := true } }) := by
  refine (next_of_ready hready rfl).trans (congrArg _ (if_neg ?_))
  rw [hstarted, hdegraded, hlit]
  exact Bool.false_ne_true

theorem beginReturn_place (hset : s.place.set ≠ []) : (beginReturn s).place =
    { s.place with degraded := false, returnDue := false, replacing := true, replacingStart := s.now, overrunReported := false } := by
  have hsome : ¬ s.place.set.isEmpty = true := by rw [List.isEmpty_eq_false_iff.mpr hset]; exact Bool.false_ne_true
  exact (congrArg State.place (if_neg hsome : beginReturn s = _)).trans rfl

/-! ## LAYOUT_LOAD's end (R378) -/

/-- The load has ended. -/
def loadEnded (τ : Nat) (s : State) : State := { atTime τ s with place := { s.place with loading := none } }

theorem loadDone_eq {τ o : Nat} {copies : Bool} (hready : Ready s) (hidle : s.job.started = false) (hdone : allDone s = true)
    (hloading : s.place.loading = some o) : exec (.layoutLoadDone τ copies) s = .next (
      match loadResult o copies (loadEnded τ s) with
      | .error r => finish isLayoutLoad r.status r.detail r.body (loadEnded τ s)
      | .ok t => finish isLayoutLoad 0 0 [] t) := by
  refine (next_of_ready hready rfl).trans (congrArg _ ?_)
  have hloading' : (atTime τ s).place.loading = some o := hloading
  have hgoes : ¬ (!heldOrIdle (atTime τ s) || !allDone (atTime τ s)) = true := by
    have hidle' : heldOrIdle (atTime τ s) = true := by
      have : (atTime τ s).job.started = false := hidle
      rw [heldOrIdle, this]; rfl
    have hdone' : allDone (atTime τ s) = true := hdone
    rw [hidle', hdone']
    exact Bool.false_ne_true
  dsimp only
  rw [hloading']
  exact if_neg hgoes

theorem checkSet_loadEnded (τ o : Nat) : checkSet (loadEnded τ s) o = checkSet s o := checkSet_congr (s := s) (t := loadEnded τ s) rfl rfl rfl rfl rfl o

theorem loadResult_refused {o : Nat} {copies : Bool} {r : SetRefusal} (h : checkSet s o = .error r) :
    loadResult o copies s = .error r := by
  unfold loadResult
  rw [h]

theorem installSet_spec (is : List LayoutImage) : (installSet is s).place =
      { s.place with set := is, primary := is.head?, degraded := s.job.started && s.place.degraded } ∧
    (installSet is s).fabric = s.fabric ∧ (installSet is s).mem = s.mem ∧ (installSet is s).job = s.job := by
  unfold installSet
  cases is <;> exact ⟨rfl, rfl, rfl, rfl⟩

theorem loadResult_taken {o ix : Nat} {is : List LayoutImage} {i : LayoutImage} {m : Map Nat} (hset : checkSet s o = .ok is)
    (hmatch : matching s is = some (ix, i)) (hbinds : bindProblem s i = none)
    (hmap : bindMap s (writeMap i.unitMap []) = some m) : loadResult o true s = .ok (putInForce ix i m (installSet is s)) := by
  obtain ⟨-, hfabric, hmem, -⟩ := installSet_spec (s := s) is
  unfold loadResult
  rw [hset]
  dsimp only
  rw [hmatch]
  dsimp only
  rw [bindAndForce_bound ((bindProblem_congr hfabric hmem i).trans hbinds) ((bindMap_congr hfabric _).trans hmap)]
  rfl

end

/-- Settles O32: one clause each for the failed core, the re-placement, the return to the primary and the load's end. -/
theorem layoutsAreReplaced : Obligations.LayoutsAreReplaced := by
  unfold Obligations.LayoutsAreReplaced
  refine ⟨fun core s hready hrunning hin => ?_, fun core s hready hheld hdone hnone hin => ?_,
    fun τ s ix i m hready hdone hreplacing hbuilt hnone hmatch hbinds hmap => ?_,
    fun τ s sound copies hready hdone hreplacing hbuilt hnone hstarted hbad => ?_,
    fun s hready hstarted hdegraded hlit hrunning => ?_, fun s hready hstarted hdegraded hlit hheld hstill hset => ?_,
    fun τ s o is ix i m hready hidle hdone hloading hset hmatch hbinds hmap => ?_,
    fun τ s o r copies hready hidle hdone hloading hrefused => ?_⟩
  · have heq := coreFailed_eq (core := core) hready
    rw [if_neg (by rw [hrunning]; exact Bool.false_ne_true)] at heq
    exact ⟨_, heq, due_failureNoted hin, failed_failureNoted, rfl, rfl, only_of_patch rfl⟩
  · have heq := coreFailed_eq (core := core) hready
    rw [if_pos hheld] at heq
    have hdue : (failureNoted core s).fabric.retireNext = [core.block.val] := by
      simp only [failureNoted, hin, hnone, List.contains_nil, Bool.or_false, Bool.false_eq_true, if_false, List.nil_append]
    have hkept := rebindRetired_kept (s := failureNoted core s) (by rw [hdue]; exact List.cons_ne_nil _ _) hdone
    rw [hdue] at hkept
    have hout : core.block.val ∈ (rebindRetired (failureNoted core s)).fabric.outBlocks := by
      rw [hkept.out]
      exact mem_noted _ _
    exact ⟨_, heq, hout, hkept.due.trans rfl, by rw [hkept.failed]; exact failed_failureNoted⟩
  · obtain ⟨hplace, hunits, hversion, hjob⟩ := putInForce_spec (ix := ix) (i := i) (m := m) (s := atTime τ s)
    obtain ⟨u, hu⟩ : ∃ u, u = putInForce ix i m (atTime τ s) := ⟨_, rfl⟩
    have hforced := finishReplacement_forces (s := atTime τ s) (sound := true) (copies := true) hnone
      ((matching_congr rfl _).trans hmatch) ((bindProblem_congr (s := s) (t := atTime τ s) rfl rfl i).trans hbinds) ((bindMap_congr (s := s) (t := atTime τ s) rfl _).trans hmap) rfl rfl
    rw [← hu] at hplace hunits hversion hjob hforced
    have hsent (st : State) : Msg.ready st.job.member ∈ (emit (.ready st.job.member) st).sent :=
      List.mem_append_right _ (List.mem_singleton.mpr rfl)
    have hready' := hsent u
    have hmember : u.job.member = s.job.member := congrArg JobS.member hjob
    rw [hmember] at hready' hforced
    refine ⟨_, (replacement_eq hready hdone hreplacing hbuilt).trans (congrArg _ hforced), ?_, ?_, ?_, hunits, hversion, hready'⟩
    · rw [emit_place, hplace]
      exact congrArg some (forcedImage_eq i (atTime τ s))
    · rw [emit_place, hplace]
    · rw [emit_place, hplace]
  · obtain ⟨hplace, hfabric⟩ := needOnDemand_spec (s := atTime τ s) hstarted
    exact ⟨_, (replacement_eq hready hdone hreplacing hbuilt).trans
      (congrArg _ (finishReplacement_fails (s := atTime τ s) hnone hbad)), by rw [hplace]; rfl, by rw [hplace], by rw [hplace], hfabric⟩
  · have heq := returnAsked_eq hready hstarted hdegraded hlit
    rw [hrunning, Bool.false_and, if_neg Bool.false_ne_true] at heq
    exact ⟨_, heq, rfl, only_of_patch rfl⟩
  · have heq := returnAsked_eq hready hstarted hdegraded hlit
    rw [hheld, hstill, Bool.not_false, Bool.and_true, if_pos rfl] at heq
    have hplace := beginReturn_place hset
    exact ⟨_, heq, by rw [hplace], by rw [hplace], by rw [hplace]⟩
  · have hok : checkSet s o = .ok is := by
      cases hc : checkSet s o with
      | error r => rw [hc] at hset; exact nomatch hset
      | ok js => rw [hc] at hset; exact congrArg _ (Option.some.inj hset)
    have hresult := loadResult_taken (s := loadEnded τ s) ((checkSet_loadEnded τ o).trans hok)
      ((matching_congr rfl _).trans hmatch) ((bindProblem_congr (s := s) (t := loadEnded τ s) rfl rfl i).trans hbinds) ((bindMap_congr (s := s) (t := loadEnded τ s) rfl _).trans hmap)
    have heq := loadDone_eq (τ := τ) (copies := true) hready hidle hdone hloading
    rw [hresult] at heq
    obtain ⟨hset', -, -, hjob⟩ := installSet_spec (s := loadEnded τ s) is
    obtain ⟨hplace, hunits, -, -⟩ := putInForce_spec (ix := ix) (i := i) (m := m) (s := installSet is (loadEnded τ s))
    have hnotStarted : ¬ (installSet is (loadEnded τ s)).job.started = true := by
      rw [hjob, show (loadEnded τ s).job.started = false from hidle]; exact Bool.false_ne_true
    have himage : forcedImage i (installSet is (loadEnded τ s)) = i := if_neg hnotStarted
    exact ⟨_, heq, by rw [hplace, himage], by rw [hplace, hset'], by rw [hplace, hset']; rfl, hunits⟩
  · have herror : checkSet s o = .error r := by
      cases hc : checkSet s o with
      | error q => rw [hc] at hrefused; exact congrArg _ (Option.some.inj hrefused)
      | ok js => rw [hc] at hrefused; exact nomatch hrefused
    have heq := loadDone_eq (τ := τ) (copies := copies) hready hidle hdone hloading
    rw [loadResult_refused ((checkSet_loadEnded τ o).trans herror)] at heq
    exact ⟨loadEnded τ s, heq, rfl, only_of_patch rfl⟩

end Sys2Proof.Machine

/-! SUPPORT. A reply on a lost network (R391, R406). -/

namespace Sys2Proof.Machine

/-- IDENTIFY in a datagram of source 0, which was last heard on network 0. -/
def identifyHeader : CmdHdr := { seq := 0, ctx := 0xFF, quiet := false, fence := false, origin := .datagram 0 }

/-- A READY module at reset values, but that network 0 is lost. -/
def networkLost : State :=
  { State.reset with
    boot := { State.reset.boot with state := .ready }
    host := { State.reset.host with netLost := [0] } }

/-- The module after the command: the reply is kept for a repetition. -/
def replyKept : State := done identifyHeader (identifyBody networkLost) networkLost

theorem identify_networkLost : exec (.identify identifyHeader) networkLost = .next replyKept := rfl

theorem sourceHeard_networkLost : sourceHeard networkLost 0 = false := by decide +kernel

/-- While a source's network is lost its reply is kept, and does not leave. -/
theorem reply_of_lostNetwork {h : CmdHdr} {source : Nat} {status detail : Nat} {body : List Byte} {final : Bool} {s : State}
    (horigin : h.origin = .datagram source) (hloud : h.quiet = false) (hlost : sourceHeard s source = false) :
    (reply h status detail body final s).sent = s.sent := by
  unfold reply
  simp only [horigin, hloud, Bool.false_and, Bool.false_eq_true, if_false]
  rw [if_neg (by rw [hlost]; exact Bool.false_ne_true)]
  rfl

/-- Refutes O33: while the network is lost on which a datagram's source was last heard, the reply to its command is kept and does
not leave. -/
theorem not_repliesReachTheirSender : ¬ Obligations.RepliesReachTheirSender := by
  unfold Obligations.RepliesReachTheirSender
  rintro ⟨hdatagram, -⟩
  obtain ⟨t, ht, hsent, -⟩ := hdatagram identifyHeader 0 networkLost ⟨rfl, rfl, rfl⟩ rfl rfl
  rw [next_unique ht identify_networkLost] at hsent
  have hkept : replyKept.sent = networkLost.sent := reply_of_lostNetwork rfl rfl sourceHeard_networkLost
  have hlength := congrArg List.length (hkept.symm.trans hsent)
  rw [List.length_append, List.length_singleton] at hlength
  omega

end Sys2Proof.Machine

/-! SUPPORT. Command datagrams (R390 to R396, R404 to R410). -/

namespace Sys2Proof.Machine

section
variable {τ : Nat} {port : PortId} {source : BitVec 160} {bytes : Fin 65536} {pkt : Packet} {s : State}

/-- A datagram at a port that takes it, its port noted (R394). -/
theorem datagram_taken (hruns : executes s = true) (hhears : portHears s port.val = true) :
    exec (.commandDatagram τ port source bytes false pkt) s = .next (
      if !allowed s source.toNat then count cUdpDenied 1 (cameThrough port.val source.toNat (atTime τ s))
      else if bytes.val ≠ 32 + pkt.length.toNat then
        truncated source.toNat bytes.val pkt (cameThrough port.val source.toNat (atTime τ s))
      else match keptFor (atTime τ s) source.toNat pkt.seq.toNat with
        | some k => emitAll (k.reply.map fun e => Msg.datagram source.toNat e) (cameThrough port.val source.toNat (atTime τ s))
        | none => runPacket (.datagram source.toNat) pkt (cameThrough port.val source.toNat (atTime τ s))) := by
  have hnoted : (if executes (atTime τ s) && portHears (atTime τ s) port.val && !false then
      cameThrough port.val source.toNat (atTime τ s) else atTime τ s) = cameThrough port.val source.toNat (atTime τ s) := by
    have hruns' : executes (atTime τ s) = true := hruns
    have hhears' : portHears (atTime τ s) port.val = true := hhears
    rw [hruns', hhears']
    rfl
  have hgoes : ¬ (!executes (cameThrough port.val source.toNat (atTime τ s)) ||
      !portHears (cameThrough port.val source.toNat (atTime τ s)) port.val || false) = true := by
    have hruns' : executes (cameThrough port.val source.toNat (atTime τ s)) = true := hruns
    have hhears' : portHears (cameThrough port.val source.toNat (atTime τ s)) port.val = true := hhears
    rw [hruns', hhears']
    exact Bool.false_ne_true
  obtain ⟨u, hu⟩ : ∃ u, u = cameThrough port.val source.toNat (atTime τ s) := ⟨_, rfl⟩
  have heq : exec (.commandDatagram τ port source bytes false pkt) s = .next (
      if !executes u || !portHears u port.val || false then u
      else if !allowed u source.toNat then count cUdpDenied 1 u
      else if bytes.val ≠ 32 + pkt.length.toNat then truncated source.toNat bytes.val pkt u
      else match keptFor u source.toNat pkt.seq.toNat with
        | some k => emitAll (k.reply.map fun e => Msg.datagram source.toNat e) u
        | none => runPacket (.datagram source.toNat) pkt u) := by
    rw [hu, ← hnoted]
    rfl
  rw [heq, if_neg (by rw [hu]; exact hgoes), hu]
  rfl

theorem datagram_unheard (hdeaf : portHears s port.val = false) :
    exec (.commandDatagram τ port source bytes false pkt) s = .next (atTime τ s) := by
  have hdeaf' : portHears (atTime τ s) port.val = false := hdeaf
  have hnoted : (if executes (atTime τ s) && portHears (atTime τ s) port.val && !false then
      cameThrough port.val source.toNat (atTime τ s) else atTime τ s) = atTime τ s := by
    rw [hdeaf', Bool.and_false]
    rfl
  refine (congrArg Host.Outcome.next (if_pos ?_)).trans (congrArg Host.Outcome.next hnoted)
  rw [hnoted, hdeaf', Bool.not_false, Bool.or_true]
  rfl

theorem datagram_fragment : exec (.commandDatagram τ port source bytes true pkt) s = .next (atTime τ s) := by
  have hnoted : (if executes (atTime τ s) && portHears (atTime τ s) port.val && !true then
      cameThrough port.val source.toNat (atTime τ s) else atTime τ s) = atTime τ s := by
    rw [Bool.not_true, Bool.and_false]
    rfl
  refine (congrArg Host.Outcome.next (if_pos ?_)).trans (congrArg Host.Outcome.next hnoted)
  rw [Bool.or_true]

/-- A datagram of its size, from a source that is let in, with a new SEQ. -/
theorem datagram_runs (hruns : executes s = true) (hhears : portHears s port.val = true)
    (hallowed : allowed s source.toNat = true) (hsize : bytes.val = 32 + pkt.length.toNat)
    (hnew : keptFor (atTime τ s) source.toNat pkt.seq.toNat = none) :
    exec (.commandDatagram τ port source bytes false pkt) s =
      .next (runPacket (.datagram source.toNat) pkt (cameThrough port.val source.toNat (atTime τ s))) := by
  have heq := datagram_taken (τ := τ) (source := source) (bytes := bytes) (pkt := pkt) hruns hhears
  rwa [hallowed, Bool.not_true, if_neg Bool.false_ne_true, if_neg (not_not.mpr hsize), hnew] at heq

end

/-! ## From a packet to its command (R404 to R410) -/

section
variable {source : Nat} {p : Packet} {b : CmdBody} {s : State}

theorem runPacket_refused {o : Origin} {status detail : Nat} (hruns : executes s = true)
    (hformat : formatRefusal p = some (status, detail)) : runPacket o p s = refuse (headerOf o p) status detail s := by
  unfold runPacket
  rw [hruns, hformat]
  rfl

theorem runPacket_runs {o : Origin} (hruns : executes s = true) (hformat : formatRefusal p = none) (hbody : p.body = some b) :
    runPacket o p s = runBody (headerOf o p) b s := by
  unfold runPacket
  rw [hruns, hformat, hbody]
  rfl

theorem command_refused {h : CmdHdr} {act : State → State} {r : Refused} (hruns : executes s = true)
    (hhost : isDistributed h = false) (hrefused : admission h b s = some r) :
    command h b act s = refuse h r.status r.detail r.st := by
  unfold command
  rw [hruns, hhost, hrefused]
  rfl

/-- A packet that the shared checks refuse. -/
theorem packet_refused {source : Nat} {r : Refused} (hruns : executes s = true) (hformat : formatRefusal p = none)
    (hbody : p.body = some b) (hrefused : admission (headerOf (.datagram source) p) b s = some r) :
    runPacket (.datagram source) p s = refuse (headerOf (.datagram source) p) r.status r.detail r.st :=
  (runPacket_runs hruns hformat hbody).trans (command_refused hruns rfl hrefused)

theorem admission_recovery {h : CmdHdr} (hrecovery : s.boot.state = .recovery) (hout : inRecovery b = false) :
    admission h b s = some ⟨0x0305, 0, s⟩ := if_pos ⟨hrecovery, .inl hout⟩

theorem admission_context {h : CmdHdr} (hready : Ready s) (hwrong : ctxOk s h b = false) :
    admission h b s = some ⟨0x0104, h.ctx.toNat, s⟩ := by
  have hrunning : ¬ (s.boot.state = .recovery ∧ (inRecovery b = false ∨ fromRing h = true)) := by
    rintro ⟨hrecovery, -⟩
    exact absurd (hready.symm.trans hrecovery) (by decide)
  exact (if_neg hrunning).trans (if_pos (by rw [hwrong]; rfl))

theorem admission_role {h : CmdHdr} (hready : Ready s) (hscope : scopeOf b = .job) (hctx : h.ctx.toNat = 0xFF)
    (hlead : isJobLead s = false) (hconfigured : s.job.configured = true) (hgroup : s.job.group = 0)
    (hnamed : s.grp.noLead = false) : admission h b s = some ⟨0x0306, s.job.leadMember, s⟩ := by
  have hrunning : ¬ (s.boot.state = .recovery ∧ (inRecovery b = false ∨ fromRing h = true)) := by
    rintro ⟨hrecovery, -⟩
    exact absurd (hready.symm.trans hrecovery) (by decide)
  have hfits : ctxOk s h b = true := by simp only [ctxOk, hscope, hctx, decide_true, Bool.true_or]
  have hdetail : leadDetail s = (s.job.leadMember, s) := by
    simp [leadDetail, hconfigured, hgroup, hnamed]
  refine (if_neg hrunning).trans ((if_neg (by rw [hfits]; exact Bool.false_ne_true)).trans
    ((if_pos ⟨hscope, hlead, .inl hconfigured⟩).trans ?_))
  rw [hdetail]

theorem ctxOk_wrong {h : CmdHdr} (hwrong : (scopeOf b = .module ∧ h.ctx.toNat ≠ 0xFF) ∨
    (scopeOf b ≠ .module ∧ h.ctx.toNat ≠ 0xFF ∧ ctxOpen s h.ctx.toNat = false)) : ctxOk s h b = false := by
  obtain ⟨hscope, hctx⟩ | ⟨hscope, hctx, hclosed⟩ := hwrong
  · simp only [ctxOk, hscope, hctx, decide_false]
  · cases hb : scopeOf b with
    | module => exact absurd hb hscope
    | job => simp only [ctxOk, hb, hctx, hclosed, decide_false, Bool.false_and, Bool.or_self]
    | context => simp only [ctxOk, hb, hclosed, Bool.false_and]

theorem formatRefusal_opcode (hopcode : opcodes.contains p.opcode.toNat = false) : formatRefusal p = some (0x0101, 0) :=
  if_pos (by rw [hopcode]; rfl)

end

/-- Settles O34: one clause each for the datagrams not taken, those answered, the refusals and the commands that run. -/
theorem datagramsAreAdmitted : Obligations.DatagramsAreAdmitted := by
  unfold Obligations.DatagramsAreAdmitted
  refine ⟨fun τ port source bytes pkt s hdeaf => datagram_unheard hdeaf, fun τ port source bytes pkt s => datagram_fragment,
    fun τ port source bytes pkt s hruns hhears hdenied => ?_, fun τ port source bytes pkt s hruns hhears hallowed hsize hheader => ?_,
    fun τ port source bytes pkt s k hruns hhears hallowed hsize hkept => ?_,
    fun τ port source bytes pkt s hruns hhears hallowed hsize hnew hopcode => ?_,
    fun τ port source bytes pkt s b hrecovery hhears hallowed hsize hnew hformat hbody hout => ?_,
    fun τ port source bytes pkt s b hready hhears hallowed hsize hnew hformat hbody hwrong => ?_,
    fun τ port source bytes pkt s b hready hhears hallowed hsize hnew hformat hbody hscope hctx hlead hconfigured hgroup hnamed => ?_,
    fun τ port source bytes pkt s b hruns hhears hallowed hsize hnew hformat hbody => ?_⟩
  · have heq := datagram_taken (τ := τ) (source := source) (bytes := bytes) (pkt := pkt) hruns hhears
    rw [hdenied, Bool.not_false, if_pos rfl] at heq
    exact ⟨_, heq, counter_count_same _ _ _, only_of_patch rfl⟩
  · have heq := datagram_taken (τ := τ) (source := source) (bytes := bytes) (pkt := pkt) hruns hhears
    rw [hallowed, Bool.not_true, if_neg Bool.false_ne_true, if_pos hsize] at heq
    refine ⟨_, heq, ?_, only_of_patch rfl⟩
    simp only [truncated, if_pos hheader, if_pos (show 4 ≤ bytes.val by omega)]
    rfl
  · have heq := datagram_taken (τ := τ) (source := source) (bytes := bytes) (pkt := pkt) hruns hhears
    rw [hallowed, Bool.not_true, if_neg Bool.false_ne_true, if_neg (not_not.mpr hsize), hkept] at heq
    exact ⟨_, heq, rfl, only_of_patch rfl⟩
  · exact (datagram_runs hruns hhears hallowed hsize hnew).trans
      (congrArg _ (runPacket_refused hruns (formatRefusal_opcode hopcode)))
  · have hruns : executes s = true := by rw [executes, hrecovery]; rfl
    exact (datagram_runs hruns hhears hallowed hsize hnew).trans (congrArg _ (packet_refused
      (s := cameThrough port.val source.toNat (atTime τ s)) hruns hformat hbody
      (admission_recovery hrecovery hout)))
  · have hruns : executes s = true := by rw [executes, hready]; rfl
    exact (datagram_runs hruns hhears hallowed hsize hnew).trans (congrArg _ (packet_refused
      (s := cameThrough port.val source.toNat (atTime τ s)) hruns hformat hbody
      (admission_context hready (ctxOk_wrong hwrong))))
  · have hruns : executes s = true := by rw [executes, hready]; rfl
    exact (datagram_runs hruns hhears hallowed hsize hnew).trans (congrArg _ (packet_refused
      (s := cameThrough port.val source.toNat (atTime τ s)) hruns hformat hbody
      (admission_role hready hscope hctx hlead hconfigured hgroup hnamed)))
  · have hran := (datagram_runs hruns hhears hallowed hsize hnew).trans
      (congrArg Host.Outcome.next (runPacket_runs (o := .datagram source.toNat)
        (s := cameThrough port.val source.toNat (atTime τ s)) hruns hformat hbody))
    refine ⟨?_, ?_, ?_⟩
    all_goals
      rintro rfl
      exact hran

end Sys2Proof.Machine

/-! SUPPORT. Doorbells, parsing and RDMA (R392, R393, R401, R402). -/

namespace Sys2Proof.Machine

/-! ## A ring set (R400) -/

theorem systemWrite_only (o : Nat) (bs : List Byte) (s : State) : Only [.mem] s (systemWrite o bs s) :=
  (systemWrite_grows o bs s).onlyIn _ (by decide)

theorem setRing_only (n : Nat) (r : RingS) (s : State) : Only [.mem, .host] s (setRing n r s) :=
  (setRing_grows n r s).onlyIn _ (by decide)

theorem setRing_host (n : Nat) (r : RingS) (s : State) :
    (setRing n r s).host = { s.host with rings := mapSet {} s.host.rings n r } := systemWrite_only _ _ _ .host (by decide)

@[simp] theorem ringS_setRing_same (n : Nat) (r : RingS) (s : State) : ringS (setRing n r s) n = r := by
  rw [ringS, setRing_host, mapGet_mapSet_same]

@[simp] theorem ringS_setRing_ne {n k : Nat} (r : RingS) (s : State) (h : k ≠ n) : ringS (setRing n r s) k = ringS s k := by
  rw [ringS, setRing_host, mapGet_mapSet_ne h]
  rfl

theorem ringS_congr {s t : State} (h : t.host.rings = s.host.rings) (n : Nat) : ringS t n = ringS s n := by
  simp only [ringS, h]

/-! ## Doorbells (R401) -/

section
variable {ring : Fin 2048} {value : BitVec 32} {s : State}

theorem doorbell_bad (hready : Ready s) (hbad : doorbellIsBad s ring.val value.toNat = true) :
    exec (.doorbell ring value) s = .next (count cDoorbellBad 1 s) :=
  (next_of_ready hready rfl).trans (congrArg _ (if_pos hbad))

theorem doorbell_tail (hready : Ready s) (hgood : doorbellIsBad s ring.val value.toNat = false)
    (hkind : (ringS s ring.val).kind = 1) :
    exec (.doorbell ring value) s = .next (setRing ring.val { ringS s ring.val with tail := value.toNat } s) :=
  (next_of_ready hready rfl).trans (congrArg _ ((if_neg (by rw [hgood]; exact Bool.false_ne_true)).trans (if_pos hkind)))

theorem doorbell_head (hready : Ready s) (hgood : doorbellIsBad s ring.val value.toNat = false)
    (hkind : (ringS s ring.val).kind = 2) :
    exec (.doorbell ring value) s = .next (setRing ring.val { ringS s ring.val with head := value.toNat } s) := by
  have hnotSubmission : ¬ (ringS s ring.val).kind = 1 := by omega
  have hnone : eventsLost ring.val (setRing ring.val { ringS s ring.val with head := value.toNat } s) =
      setRing ring.val { ringS s ring.val with head := value.toNat } s := by
    refine if_neg ?_
    rw [ringS_setRing_same]
    rintro ⟨hevents, -⟩
    exact absurd (hkind.symm.trans hevents) (by decide)
  exact (next_of_ready hready rfl).trans (congrArg _ ((if_neg (by rw [hgood]; exact Bool.false_ne_true)).trans
    ((if_neg hnotSubmission).trans hnone)))

end

/-! ## Parsing (R402) -/

section
variable {τ n : Nat} {s : State}

/-- The packet at the head of ring `n` is taken, and the next ring has its turn. -/
def packetTaken (τ n : Nat) (s : State) : State :=
  let s1 := setRing n { ringS s n with head := ((ringS s n).head + 1) % 65536, outstanding := (ringS s n).outstanding + 1 } (atTime τ s)
  { s1 with host := { s1.host with turn := (n + 1) % 1024 } }

theorem parse_none (hready : Ready s) (hnone : nextRing (atTime τ s) = none) :
    exec (.packetParse τ) s = .next (atTime τ s) := by
  refine (next_of_ready hready rfl).trans (congrArg _ ?_)
  dsimp only
  rw [hnone]

theorem parse_some (hready : Ready s) (hnext : nextRing (atTime τ s) = some n) : exec (.packetParse τ) s =
    .next (runPacket (.ring (Fin.ofNat 1024 n)) (entryAt s n (ringS s n).head) (packetTaken τ n s)) := by
  refine (next_of_ready hready rfl).trans (congrArg _ ?_)
  dsimp only
  rw [hnext]
  rfl

theorem packetTaken_only : Only [.now, .mem, .host] s (packetTaken τ n s) := by
  have htime : Only [.now] s (atTime τ s) := only_of_patch rfl
  have hturn (st : State) : Only [.host] st { st with host := { st.host with turn := (n + 1) % 1024 } } := only_of_patch rfl
  exact ((htime.trans (setRing_only _ _ _)).trans (hturn _)).mono (by decide)

theorem ringS_packetTaken_same : ringS (packetTaken τ n s) n =
    { ringS s n with head := ((ringS s n).head + 1) % 65536, outstanding := (ringS s n).outstanding + 1 } :=
  ringS_setRing_same n _ (atTime τ s)

theorem ringS_packetTaken_ne {k : Nat} (h : k ≠ n) : ringS (packetTaken τ n s) k = ringS s k :=
  ringS_setRing_ne _ (atTime τ s) h

theorem executes_of_ready (hready : Ready s) : executes s = true := by rw [executes, hready]; rfl

theorem admission_module {h : CmdHdr} {b : CmdBody} (hready : Ready s) (hscope : scopeOf b = .module) (hctx : h.ctx = 0xFF#8) :
    admission h b s = none := by
  have hrunning : ¬ (s.boot.state = .recovery ∧ (inRecovery b = false ∨ fromRing h = true)) := by
    rintro ⟨hrecovery, -⟩
    exact absurd (hready.symm.trans hrecovery) (by decide)
  have hfits : ctxOk s h b = true := by simp [ctxOk, hscope, hctx]
  refine (if_neg hrunning).trans ((if_neg (by rw [hfits]; exact Bool.false_ne_true)).trans (if_neg ?_))
  rintro ⟨hjob, -⟩
  exact absurd (hscope.symm.trans hjob) (by decide)

/-- A module-scope command that nothing refuses runs, behind 0x0001 where it is deferred. -/
theorem command_module {h : CmdHdr} {b : CmdBody} {act : State → State} (hready : Ready s) (hctx : h.ctx = 0xFF#8)
    (hhost : isDistributed h = false) (hscope : scopeOf b = .module) :
    command h b act s = act (if isDeferred b then reply h 1 0 [] false s else s) := by
  unfold command
  rw [executes_of_ready hready, hhost, admission_module hready hscope hctx]
  rfl

theorem identifyBody_congr {t : State} (hflash : t.flash = s.flash) (hboot : t.boot = s.boot) : identifyBody t = identifyBody s := by
  simp only [identifyBody, hflash, hboot]

end

/-! ## RDMA (R392, R393) -/

section
variable (s : State) (n : Nat) (h : HostS)

/-! What a read through a grant returns does not turn on the time or the host's records. -/

theorem regionOf_hosted (addr : Nat) : regionOf { s with now := n, host := h } addr = regionOf s addr := rfl

theorem localPlace_hosted (m addr r : Nat) : localPlace { s with now := n, host := h } m addr r = localPlace s m addr r := rfl

theorem bankIn_hosted (r b : Nat) : bankIn { s with now := n, host := h } r b = bankIn s r b := rfl

theorem blockLayer_hosted (r b : Nat) : blockLayer { s with now := n, host := h } r b = blockLayer s r b := rfl

theorem driftField_hosted (b : Nat) : driftField { s with now := n, host := h } b = driftField s b := rfl

theorem reduceBytes_hosted (b : Nat) : reduceBytes { s with now := n, host := h } b = reduceBytes s b := by
  have hblock : blockS { s with now := n, host := h } b = blockS s b := rfl
  unfold reduceBytes
  rw [driftField_hosted, hblock]

theorem readBlock_hosted (r m a : Nat) (place : Option (Nat × Nat)) (len : Nat) :
    readBlock { s with now := n, host := h } r m a place len = readBlock s r m a place len := by
  unfold readBlock
  cases place with
  | none => rfl
  | some p => simp only [reduceBytes_hosted, blockLayer_hosted, bankIn_hosted]

theorem readAt_hosted (m a len : Nat) : readAt { s with now := n, host := h } m a len = readAt s m a len := by
  have hbytes : memRead { s with now := n, host := h } m a len = memRead s m a len := rfl
  unfold readAt
  dsimp only
  rw [regionOf_hosted, localPlace_hosted, readBlock_hosted, hbytes]

theorem readRegion_hosted (g : MrS) (a len : Nat) : readRegion { s with now := n, host := h } g a len = readRegion s g a len := by
  have hsystem : systemRead { s with now := n, host := h } a len = systemRead s a len := rfl
  have hplace (r a : Nat) : ownerPlace { s with now := n, host := h } r a = ownerPlace s r a := rfl
  unfold readRegion ownerRead
  simp only [readAt_hosted, hsystem, hplace]

end

section
variable {h : RoceHdr} {data : RdmaData} {s : State}

/-- The queue pair with the PSN that it expects next. -/
def psnMoved (h : RoceHdr) (n : Nat) (s : State) : State :=
  { s with host := { s.host with
      qps := mapSet {} s.host.qps h.qpn { mapGet {} s.host.qps h.qpn with psn := ((mapGet {} s.host.qps h.qpn).psn + n) % 2 ^ 24 } } }

theorem answerMark_unmarked (hmark : h.ce = false) (u : State) : answerMark h u = u := by
  unfold answerMark
  dsimp only
  rw [hmark, Bool.false_and, if_neg Bool.false_ne_true]

theorem roceAnswer_heard {write : Bool} {len n : Nat} {again : State → State} {act : MrS → State → State} {u : State}
    (hu : u = atTime h.at_ s) (hheard : roceHeard s h = true) (hmark : h.ce = false) : roceAnswer h write len n again act s =
      if isDuplicate (mapGet {} u.host.qps h.qpn).psn h.psn then again u
      else if h.psn ≠ (mapGet {} u.host.qps h.qpn).psn then emit (.roceNak h.qpn nakPsn) u
      else if !h.opcodeOk then emit (.roceNak h.qpn nakRequest) u
      else match grantOf u h write len with
        | none => emit (.roceNak h.qpn nakAccess) u
        | some m => act m (psnMoved h n u) := by
  unfold roceAnswer
  rw [answerMark_unmarked hmark, ← hu]
  exact if_neg (by rw [hheard]; exact Bool.false_ne_true)

/-- The PSN expected is not one had already. -/
theorem isDuplicate_self (psn : Nat) : isDuplicate psn psn = false := by
  have hback : (psn + 2 ^ 24 - psn) % 2 ^ 24 = 0 := by rw [Nat.add_sub_cancel_left]; rfl
  simp only [isDuplicate, hback, Nat.lt_irrefl, decide_false, Bool.false_and]

theorem roceAnswer_turn {write : Bool} {len n : Nat} {again : State → State} {act : MrS → State → State}
    (hheard : roceHeard s h = true) (hmark : h.ce = false) (hopcode : h.opcodeOk = true)
    (hpsn : h.psn = (mapGet {} s.host.qps h.qpn).psn) : roceAnswer h write len n again act s =
      match grantOf s h write len with
      | none => emit (.roceNak h.qpn nakAccess) (atTime h.at_ s)
      | some m => act m (psnMoved h n (atTime h.at_ s)) := by
  obtain ⟨u, hu⟩ : ∃ u, u = atTime h.at_ s := ⟨_, rfl⟩
  have hhost : u.host = s.host := by rw [hu]; rfl
  have hgrants : grantOf u h write len = grantOf s h write len := by rw [grantOf, grantOf, hhost]
  rw [roceAnswer_heard hu hheard hmark, hhost, ← hpsn, isDuplicate_self, if_neg Bool.false_ne_true, if_neg (not_not.mpr rfl),
    hopcode, if_neg (by simp), hgrants, hu]

theorem spoil_kept (o len : Nat) (s : State) : (spoil o len s).mem = s.mem ∧ (spoil o len s).host.mrs = s.host.mrs ∧
    (spoil o len s).host.rings = s.host.rings ∧ (spoil o len s).host.qps = s.host.qps := ⟨rfl, rfl, rfl, rfl⟩

theorem systemWrite_mem_congr {o : Nat} {bs : List Byte} {s t : State} (h : t.mem = s.mem) :
    (systemWrite o bs t).mem = (systemWrite o bs s).mem := by
  have hbytes : ∀ (l : List Byte) (o : Nat) (s t : State), t.mem = s.mem → (systemBytes o l t).mem = (systemBytes o l s).mem := by
    intro l
    induction l with
    | nil => exact fun o s t h => h
    | cons b l ih =>
      intro o s t h
      have hplace : systemPlace t o = systemPlace s o := by simp only [systemPlace, carvedAddr, excludedSpans, h]
      refine ih _ _ _ ?_
      rw [hplace]
      simp only [setMemByte, h]
  have hseal : ∀ (l : List Nat) (s t : State), t.mem = s.mem →
      (each l (fun k st => sealUnit ((systemPlace st (64 * k)).1 + 16) ((systemPlace st (64 * k)).2 / 64)
        (sealUnit (systemPlace st (64 * k)).1 ((systemPlace st (64 * k)).2 / 64) st)) t).mem =
      (each l (fun k st => sealUnit ((systemPlace st (64 * k)).1 + 16) ((systemPlace st (64 * k)).2 / 64)
        (sealUnit (systemPlace st (64 * k)).1 ((systemPlace st (64 * k)).2 / 64) st)) s).mem := by
    intro l
    induction l with
    | nil => exact fun s t h => h
    | cons k l ih =>
      intro s t h
      have hplace : systemPlace t (64 * k) = systemPlace s (64 * k) := by simp only [systemPlace, carvedAddr, excludedSpans, h]
      refine ih _ _ ?_
      dsimp only
      rw [hplace]
      simp only [sealUnit, memRead, h]
  exact hseal _ _ _ (hbytes _ _ _ _ h)

/-- Data placed in SYSTEM leaves the grants, the rings and the queue pairs. -/
theorem systemPut_spec (o : Nat) (d : RdmaData) (s : State) : (systemPut o d s).host.mrs = s.host.mrs ∧
    (systemPut o d s).host.rings = s.host.rings ∧ (systemPut o d s).host.qps = s.host.qps := by
  unfold systemPut
  cases d with
  | bytes bs =>
    have hhost := systemWrite_only o bs (spoil o bs.length s) .host (by decide)
    obtain ⟨-, hmrs, hrings, hqps⟩ := spoil_kept o bs.length s
    exact ⟨(congrArg HostS.mrs hhost).trans hmrs, (congrArg HostS.rings hhost).trans hrings, (congrArg HostS.qps hhost).trans hqps⟩
  | packet p =>
    dsimp only
    split <;> exact ⟨rfl, rfl, rfl⟩
  | image i => exact ⟨rfl, rfl, rfl⟩

theorem systemPut_mem {o : Nat} {d : RdmaData} {s t : State} (h : t.mem = s.mem) : (systemPut o d t).mem = (systemPut o d s).mem := by
  unfold systemPut
  cases d with
  | bytes bs => exact systemWrite_mem_congr h
  | packet p =>
    dsimp only
    split <;> split <;> exact h
  | image i => exact h

end

/-- Settles O35: one clause each for the doorbells, the packets parsed, the writes and the read. -/
theorem hostsReachTheRings : Obligations.HostsReachTheRings := by
  unfold Obligations.HostsReachTheRings
  refine ⟨fun ring value s hready hbad => ?_, fun ring value s hready hgood hkind => ?_, fun ring value s hready hgood hkind => ?_,
    fun τ s hready hnone => ?_, fun τ s n p st d hready hnext hn hp hformat => ?_,
    fun τ s n p hready hnext hn hp hformat hbody hctx => ?_,
    fun h data s m hready hheard hmark hopcode hpsn hgrant hkind => ?_, fun h data s hready hheard hmark hdup => ?_,
    fun h data s hready hheard hmark hdup hpsn => ?_, fun h data s hready hheard hmark hopcode hpsn hgrant => ?_,
    fun h len s m hready hheard hmark hopcode hpsn hgrant => ?_⟩
  · exact ⟨_, doorbell_bad hready hbad, counter_count_same _ _ _, only_of_patch rfl⟩
  · exact ⟨_, doorbell_tail hready hgood hkind, ringS_setRing_same _ _ _, fun k hk => ringS_setRing_ne _ _ hk, setRing_only _ _ _⟩
  · exact ⟨_, doorbell_head hready hgood hkind, ringS_setRing_same _ _ _, fun k hk => ringS_setRing_ne _ _ hk, setRing_only _ _ _⟩
  · exact ⟨_, parse_none hready hnone, only_of_patch rfl⟩
  · have hruns : executes (packetTaken τ n s) = true := executes_of_ready
      ((congrArg BootS.state (packetTaken_only .boot (by decide))).trans hready)
    refine ⟨packetTaken τ n s, (parse_some hready hnext).trans (congrArg _ ?_), by rw [ringS_packetTaken_same],
      by rw [ringS_packetTaken_same], fun k hk => ringS_packetTaken_ne hk, packetTaken_only⟩
    rw [hp]
    exact runPacket_refused hruns hformat
  · have hready' : Ready (packetTaken τ n s) := (congrArg BootS.state (packetTaken_only .boot (by decide))).trans hready
    refine ⟨packetTaken τ n s, (parse_some hready hnext).trans (congrArg _ ?_), by rw [ringS_packetTaken_same], packetTaken_only⟩
    rw [hp, runPacket_runs (executes_of_ready hready') hformat hbody,
      ← identifyBody_congr (packetTaken_only .flash (by decide)) (packetTaken_only .boot (by decide))]
    exact command_module hready' hctx rfl rfl
  · have heq := roceAnswer_turn (write := true) (len := dataBytes data) (n := 1) (again := emit (.roceAck h.qpn h.psn))
      (act := fun m q => emit (.roceAck h.qpn h.psn) (placeWrite h data m q)) hheard hmark hopcode hpsn
    rw [hgrant] at heq
    have hplaced (q : State) : placeWrite h data m q = systemPut (m.offset + h.offset) data q := by
      unfold placeWrite
      dsimp only
      rw [hkind]
      cases data <;> rfl
    dsimp only at heq
    rw [hplaced] at heq
    obtain ⟨hmrs, hrings, hqps⟩ := systemPut_spec (m.offset + h.offset) data (psnMoved h 1 (atTime h.at_ s))
    have hput : Only [.mem, .place, .host] (psnMoved h 1 (atTime h.at_ s)) (systemPut (m.offset + h.offset) data (psnMoved h 1 (atTime h.at_ s))) :=
      (systemPut_grows _ _ _).onlyIn _ (by decide)
    have hmoved : Only [.now, .host] s (psnMoved h 1 (atTime h.at_ s)) := only_of_patch rfl
    refine ⟨_, (next_of_ready hready rfl).trans (congrArg _ heq), ?_, systemPut_mem rfl, ?_, hmrs, hrings,
      ((hmoved.trans hput).trans (emit_only _ _)).mono (by decide)⟩
    · exact congrArg (· ++ [_]) ((hput .sent (by decide)).trans (hmoved .sent (by decide)))
    · rw [emit_host, hqps, hpsn]
      exact congrArg QpS.psn mapGet_mapSet_same
  · have heq := roceAnswer_heard (hu := rfl) (write := true) (len := dataBytes data) (n := 1) (again := emit (.roceAck h.qpn h.psn))
      (act := fun m q => emit (.roceAck h.qpn h.psn) (placeWrite h data m q)) (hheard := hheard) (hmark := hmark)
    rw [show (atTime h.at_ s).host = s.host from rfl, if_pos hdup] at heq
    exact ⟨_, (next_of_ready hready rfl).trans (congrArg _ heq), rfl, only_of_patch rfl⟩
  · have heq := roceAnswer_heard (hu := rfl) (write := true) (len := dataBytes data) (n := 1) (again := emit (.roceAck h.qpn h.psn))
      (act := fun m q => emit (.roceAck h.qpn h.psn) (placeWrite h data m q)) (hheard := hheard) (hmark := hmark)
    rw [show (atTime h.at_ s).host = s.host from rfl, hdup, if_neg Bool.false_ne_true, if_pos hpsn] at heq
    exact ⟨_, (next_of_ready hready rfl).trans (congrArg _ heq), rfl, only_of_patch rfl⟩
  · have heq := roceAnswer_turn (write := true) (len := dataBytes data) (n := 1) (again := emit (.roceAck h.qpn h.psn))
      (act := fun m q => emit (.roceAck h.qpn h.psn) (placeWrite h data m q)) hheard hmark hopcode hpsn
    rw [hgrant] at heq
    exact ⟨_, (next_of_ready hready rfl).trans (congrArg _ heq), rfl, only_of_patch rfl⟩
  · have heq := roceAnswer_turn (write := false) (len := len.toNat)
      (n := max 1 (ceilDiv len.toNat (mapGet {} s.host.qps h.qpn).mtu)) (again := fun q => match grantOf q h false len.toNat with
        | some m => emit (.roceData h.qpn (readRegion q m (m.offset + h.offset) len.toNat)) q
        | none => emit (.roceNak h.qpn nakAccess) q)
      (act := fun m q => emit (.roceData h.qpn (readRegion q m (m.offset + h.offset) len.toNat)) q) hheard hmark hopcode hpsn
    rw [hgrant] at heq
    dsimp only at heq
    have hread : readRegion (psnMoved h (max 1 (ceilDiv len.toNat (mapGet {} s.host.qps h.qpn).mtu)) (atTime h.at_ s)) m (m.offset + h.offset)
        len.toNat = readRegion s m (m.offset + h.offset) len.toNat := readRegion_hosted s _ _ m _ _
    rw [hread] at heq
    refine ⟨_, (next_of_ready hready rfl).trans (congrArg _ heq), rfl, ?_, only_of_patch rfl⟩
    rw [emit_host, hpsn]
    exact congrArg QpS.psn mapGet_mapSet_same

end Sys2Proof.Machine

/-! SUPPORT. Ports, networks and PTP instances (R389 to R391, R397, R398). -/

namespace Sys2Proof.Machine

/-- An event writes rings and counts itself, and nothing else of the host's side. -/
theorem eventCtx_hostRest (ctx code detail : Nat) (body : List Byte) (s : State) :
    hostRest (eventCtx ctx code detail body s) = { hostRest s with eventNumber := s.host.eventNumber + 1 } := by
  have hrest (st : State) (h : hostRest st = hostRest s) :
      { hostRest st with eventNumber := st.host.eventNumber + 1 } = { hostRest s with eventNumber := s.host.eventNumber + 1 } :=
    congrArg (fun h : HostS => { h with eventNumber := h.eventNumber + 1 }) h
  exact hrest _ (RingsWritten.each (eventToRing_ringsWritten _ _) (eventRings s ctx) s).2

/-- A reading of the host's side that rings and the event count do not enter is as before an event. -/
theorem eventCtx_host {α : Type} (f : HostS → α)
    (hf : ∀ (h : HostS) (rings : List (Nat × RingS)) (n : Nat), f { h with rings := rings, eventNumber := n } = f h)
    (ctx code detail : Nat) (body : List Byte) (s : State) : f (eventCtx ctx code detail body s).host = f s.host := by
  have hrest := congrArg f (eventCtx_hostRest ctx code detail body s)
  exact (hf _ [] (eventCtx ctx code detail body s).host.eventNumber).symm.trans (hrest.trans (hf s.host [] (s.host.eventNumber + 1)))

theorem event_host {α : Type} (f : HostS → α)
    (hf : ∀ (h : HostS) (rings : List (Nat × RingS)) (n : Nat), f { h with rings := rings, eventNumber := n } = f h)
    (code detail : Nat) (s : State) : f (event code detail s).host = f s.host := eventCtx_host f hf _ _ _ _ _

section
variable {port : PortId} {s : State}

/-- The port down, and its network lost. -/
def portLost (port : PortId) (s : State) : State :=
  let s1 := setPort port.val { portS s port.val with down := true } s
  { s1 with host := { s1.host with netLost := s1.host.netLost ++ [port.val / 4] } }

theorem portDown_lost (hready : Ready s)
    (hdown : networkDown (setPort port.val { portS s port.val with down := true } s) (port.val / 4) = true)
    (hheld : s.host.netLost.contains (port.val / 4) = false) :
    exec (.portDown port) s = .next (event 0x8001 (port.val / 4) (portLost port s)) :=
  (next_of_ready hready rfl).trans (congrArg _ (if_pos (Bool.and_eq_true_iff.mpr
    ⟨hdown, (congrArg (!·) (show _ = false from hheld)).trans rfl⟩)))

theorem portDown_kept (hready : Ready s)
    (hup : networkDown (setPort port.val { portS s port.val with down := true } s) (port.val / 4) = false) :
    exec (.portDown port) s = .next (setPort port.val { portS s port.val with down := true } s) :=
  (next_of_ready hready rfl).trans (congrArg _ (if_neg (by rw [hup, Bool.false_and]; exact Bool.false_ne_true)))

end

/-- Settles O36: one clause each for the port down and up, the answered address and the PTP instances. -/
theorem portsAndClocksFollow : Obligations.PortsAndClocksFollow := by
  unfold Obligations.PortsAndClocksFollow
  refine ⟨fun port s hready hdown hheld => ?_, fun port s hready hup => ?_, fun port s hready => ?_,
    fun port target echo s hruns => ?_, fun τ port offset rank s hready hport hlocked hrank => ?_,
    fun τ port offset rank s hready hport hlocked hrank => ?_, fun s hready hfollow hlocked => ?_⟩
  · have hports := event_host (·.ports) (fun _ _ _ => rfl) 0x8001 (port.val / 4) (portLost port s)
    have hlost := event_host (·.netLost) (fun _ _ _ => rfl) 0x8001 (port.val / 4) (portLost port s)
    refine ⟨_, portDown_lost hready hdown hheld, ?_, ?_, (event_eventNumber _ _ _).trans rfl⟩
    · rw [portS, hports]
      exact congrArg PortS.down mapGet_mapSet_same
    · rw [hlost]
      exact List.mem_append_right _ (List.mem_singleton_self _)
  · exact ⟨_, portDown_kept hready hup, mapGet_mapSet_same, fun p hp => mapGet_mapSet_ne hp, rfl, only_of_patch rfl⟩
  · exact ⟨_, next_of_ready hready rfl, mapGet_mapSet_same, by simp, only_of_patch rfl⟩
  · refine congrArg Host.Outcome.next ?_
    rw [hruns, Bool.true_and]
  · refine ⟨_, next_of_ready hready rfl, ?_, ?_, ?_, only_of_patch rfl⟩
    · exact if_pos hport
    · exact if_pos hport
    · dsimp only
      rw [if_pos hport, if_pos hport]
      simp only [followB, show (atTime τ s).host.ptpB = s.host.ptpB from rfl, hlocked, Bool.and_self, if_true,
        decide_eq_false_iff_not]
      exact Nat.lt_asymm hrank
  · have hnet : ¬ port.val < 4 := by omega
    refine ⟨_, next_of_ready hready rfl, ?_, ?_, ?_, only_of_patch rfl⟩
    · exact if_neg hnet
    · exact if_neg hnet
    · dsimp only
      rw [if_neg hnet, if_neg hnet]
      simp [followB, hlocked, hrank]
  · refine ⟨_, next_of_ready hready rfl, ?_, ?_, ?_, only_of_patch rfl⟩ <;> simp [followB, hfollow, hlocked]

end Sys2Proof.Machine

/-! SUPPORT. Commands of identity and management (Table 13.8). -/

namespace Sys2Proof.Machine

section
variable {h : CmdHdr} {b : CmdBody} {act : State → State} {s : State}

/-- A module-level command that is not deferred runs its operation at once. -/
theorem command_immediate (hmodule : ModuleLevel h s) (hscope : scopeOf b = .module) (hnow : isDeferred b = false) :
    command h b act s = act s := by
  obtain ⟨hready, hctx, hhost⟩ := hmodule
  rw [command_module hready hctx hhost hscope, hnow, if_neg Bool.false_ne_true]

theorem checked_ok {checks : List (Nat × Bool)} (hall : checks.all (·.2) = true) : checked h b checks act s = act s := by
  have hnone : badParam b checks = none := by
    rw [badParam, Option.map_eq_none_iff, List.find?_eq_none]
    intro c hc
    simp [List.all_eq_true.mp hall c hc]
  rw [checked, hnone]

/-- The first parameter out of its range is named. -/
theorem checked_first {checks : List (Nat × Bool)} {n : Nat} {rest : List (Nat × Bool)} (hbad : checks = (n, false) :: rest) :
    checked h b checks act s = refuse h 0x0201 (Config.paramOffset (opcodeOf b) n) s := by
  rw [checked, hbad]
  rfl

/-! ## What a reply leaves -/

theorem keepReply_host {α : Type} (f : HostS → α)
    (hf : ∀ (h : HostS) (rings : List (Nat × RingS)) (kept : List KeptReply), f { h with rings := rings, kept := kept } = f h)
    (source seq : Nat) (es : List (List Byte)) (s : State) : f (keepReply source seq es s).host = f s.host :=
  hf s.host s.host.rings _

/-- A reading of the host's side that rings do not enter is as before rings were written. -/
theorem RingsWritten.host {α : Type} {t : State} (hwritten : RingsWritten s t) (f : HostS → α)
    (hf : ∀ (h : HostS) (rings : List (Nat × RingS)), f { h with rings := rings } = f h) : f t.host = f s.host :=
  (hf t.host []).symm.trans ((congrArg f hwritten.2).trans (hf s.host []))

/-- A reading of the host's side that rings and kept replies do not enter is as before a reply. -/
theorem reply_host {α : Type} (f : HostS → α)
    (hf : ∀ (h : HostS) (rings : List (Nat × RingS)) (kept : List KeptReply), f { h with rings := rings, kept := kept } = f h)
    (h : CmdHdr) (status detail : Nat) (body : List Byte) (final : Bool) (s : State) :
    f (reply h status detail body final s).host = f s.host := by
  have hrings {t : State} (hwritten : RingsWritten s t) : f t.host = f s.host := hwritten.host f fun h rings => hf h rings h.kept
  unfold reply
  cases h.origin with
  | ring n =>
    dsimp only
    have hfreed : RingsWritten s (if final then
        setRing n.val { ringS s n.val with outstanding := (ringS s n.val).outstanding - 1 } s else s) := by
      split
      · exact setRing_ringsWritten _ _ _
      · exact .refl s
    split
    · exact hrings hfreed
    · exact hrings (hfreed.trans (ringReply_ringsWritten _ _ _ _))
  | datagram source =>
    dsimp only
    split
    · exact keepReply_host f hf _ _ _ _
    · split <;> exact keepReply_host f hf _ _ _ _
  | sideband =>
    dsimp only
    split
    · split <;> rfl
    · rfl
  | distributed => rfl

/-- A reply to a datagram is kept and sent, and nothing else. -/
theorem reply_datagram_only {source status detail : Nat} {body : List Byte} {final : Bool} (hsource : h.origin = .datagram source) :
    Only [.sent, .host] s (reply h status detail body final s) ∧
      (reply h status detail body final s).host.rings = s.host.rings := by
  have hkept (es : List (List Byte)) : Only [.sent, .host] s (keepReply source h.seq.toNat es s) := only_of_patch rfl
  have hsent (ms : List Msg) (st : State) : Only [.sent] st (emitAll ms st) := only_of_patch rfl
  unfold reply
  rw [hsource]
  dsimp only
  split
  · exact ⟨hkept _, rfl⟩
  · split
    · exact ⟨((hkept _).trans (hsent _ _)).mono (by decide), rfl⟩
    · exact ⟨hkept _, rfl⟩

end

section
variable {h : CmdHdr} {s : State}

/-! ## Networks and rings -/

theorem setNet_checked (hmodule : ModuleLevel h s) {p : NetSettings} (hall : (netChecks p).all (·.2) = true) :
    exec (.setNet h p) s = .next (storeNet p (done h [] s)) :=
  congrArg Host.Outcome.next ((command_immediate hmodule rfl rfl).trans (checked_ok hall))

theorem setNet_badPort (hmodule : ModuleLevel h s) {p : NetSettings} (hport : 8 ≤ p.port) :
    exec (.setNet h p) s = .next (refuse h 0x0201 (Config.paramOffset 0x0103 0) s) := by
  refine congrArg Host.Outcome.next ((command_immediate hmodule rfl rfl).trans (checked_first (rest := (netChecks p).tail) ?_))
  rw [netChecks, decide_eq_false (by omega : ¬ p.port < 8)]
  rfl

/-- The ring that RING_CREATE makes. -/
def ringMade (p : RingParams) (base : Nat) : RingS :=
  { kind := p.kind, order := p.order, entryShift := p.entryShift, ctx := p.ctx
    cq := if p.kind = 1 then p.cq else 0xFFFF, base := base, notifyAddr := p.notifyAddr, notifyPort := p.notifyPort }

theorem ringCreate_checked (hmodule : ModuleLevel h s) {p : RingParams} (hall : (ringChecks s p).all (·.2) = true) :
    exec (.ringCreate h p) s = .next (match placeRing s (2 ^ (p.order + p.entryShift)) with
      | none => refuse h 0x0401 5 s
      | some base => done h [] (setRing p.ring (ringMade p base) s)) :=
  congrArg Host.Outcome.next ((command_immediate hmodule rfl rfl).trans (checked_ok hall))

theorem ringDestroy_idle (hmodule : ModuleLevel h s) {n : BitVec 16} (hexists : ringExists s n.toNat = true)
    (hempty : (ringS s n.toNat).head = (ringS s n.toNat).tail) (hunused : usedAsCq s n.toNat = false) :
    exec (.ringDestroy h n) s = .next (let s1 := setRing n.toNat {} (done h [] s)
      { s1 with host := { s1.host with entries := mapFilter (fun k _ => decide (k / 4096 ≠ n.toNat)) s1.host.entries } }) := by
  refine congrArg Host.Outcome.next ((command_immediate hmodule rfl rfl).trans
    ((if_neg (by rw [hexists]; exact Bool.false_ne_true)).trans (if_neg ?_)))
  rintro (hheld | hused)
  · exact hheld hempty
  · exact Bool.false_ne_true (hunused.symm.trans hused)

/-! ## Regions and queue pairs -/

theorem mrRegister_checked (hmodule : ModuleLevel h s) {p : MrParams} (hall : (mrChecks s p).all (·.2) = true) :
    exec (.mrRegister h p) s = .next (grantRegion h p false s) :=
  congrArg Host.Outcome.next ((command_immediate hmodule rfl rfl).trans (checked_ok hall))

theorem mrRevoke_granted (hmodule : ModuleLevel h s) {rkey : BitVec 32}
    (hgranted : (s.host.mrs.any fun m => decide (m.rkey = rkey.toNat)) = true) : exec (.mrRevoke h rkey) s =
      .next (done h [] { s with host := { s.host with mrs := s.host.mrs.filter fun m => decide (m.rkey ≠ rkey.toNat) } }) :=
  congrArg Host.Outcome.next ((command_immediate hmodule rfl rfl).trans
    (checked_ok (by rw [List.all_cons, hgranted]; rfl)))

/-- The queue pair that QP_CREATE makes, under its number. -/
def pairMade (p : QpParams) (s : State) : State :=
  let n := freshKey (s.host.qps.map (·.1)) 24 s
  let psn := drawFree n.2
  let q : QpS := { open_ := true, port := p.port, gid := p.gid, qpn := p.qpn, mtu := p.mtu, psn := p.psn % 2 ^ 24
                   modulePsn := psn.1 % 2 ^ 24 }
  { psn.2 with host := { psn.2.host with qps := mapSet {} psn.2.host.qps n.1 q } }

theorem pairMade_qps (p : QpParams) : (pairMade p s).host.qps = mapSet {} s.host.qps (freshKey (s.host.qps.map (·.1)) 24 s).1
    { open_ := true, port := p.port, gid := p.gid, qpn := p.qpn, mtu := p.mtu, psn := p.psn % 2 ^ 24
      modulePsn := (drawFree (freshKey (s.host.qps.map (·.1)) 24 s).2).1 % 2 ^ 24 } := rfl

theorem qpCreate_checked (hmodule : ModuleLevel h s) {p : QpParams} (hall : (qpChecks p).all (·.2) = true) :
    exec (.qpCreate h p) s = .next (if 2048 ≤ s.host.qps.length then refuse h 0x0401 5 s else
      done h (bytesLE 4 (freshKey (s.host.qps.map (·.1)) 24 s).1 ++
        bytesLE 4 ((drawFree (freshKey (s.host.qps.map (·.1)) 24 s).2).1 % 2 ^ 24)) (pairMade p s)) :=
  congrArg Host.Outcome.next ((command_immediate hmodule rfl rfl).trans (checked_ok hall))

theorem qpDestroy_open (hmodule : ModuleLevel h s) {qpn : BitVec 24} (hopen : (mapGet {} s.host.qps qpn.toNat).open_ = true) :
    exec (.qpDestroy h qpn) s = .next (done h [] { s with host := { s.host with qps := mapSet {} s.host.qps qpn.toNat {} } }) :=
  congrArg Host.Outcome.next ((command_immediate hmodule rfl rfl).trans
    (checked_ok (by rw [List.all_cons, hopen]; rfl)))

end

/-- Settles O37: one clause each for what the commands of Table 13.8 do and refuse. -/
theorem moduleCommandsComplete : Obligations.ModuleCommandsComplete := by
  unfold Obligations.ModuleCommandsComplete
  refine ⟨fun h s hm => ?_, fun h s hm => ?_, fun h p s hm hall => ?_, fun h p s hm hport => setNet_badPort hm hport,
    fun h p s base hm hall hplace => ?_, fun h p s hm hall hplace => ?_, fun h n source s hm hsource hexists hempty hunused => ?_,
    fun h p s hm hall => ?_, fun h rkey s hm hgranted => ?_, fun h p s hm hall hroom => ?_, fun h p s hm hall hfull => ?_,
    fun h qpn s hm hopen => ?_⟩
  · exact congrArg Host.Outcome.next (command_immediate hm rfl rfl)
  · exact congrArg Host.Outcome.next (command_immediate hm rfl rfl)
  · have hports := reply_host (·.ports) (fun _ _ _ => rfl) h 0 0 [] true s
    have hset : portS (storeNet p (done h [] s)) p.port =
        { ipv4 := p.ipv4, ipv4Prefix := p.ipv4Prefix, ipv6 := p.ipv6, ipv6Prefix := p.ipv6Prefix, vlan := p.vlan, mtu := p.mtu
          pfc := p.pfc, down := (portS (done h [] s) p.port).down } := mapGet_mapSet_same
    refine ⟨_, setNet_checked hm hall, rfl, by rw [hset], by rw [hset], ?_, rfl, rfl⟩
    rw [hset, portS, done, hports, portS]
  · have heq := ringCreate_checked hm hall
    rw [hplace] at heq
    refine ⟨_, heq, ?_, ?_, ?_, ?_, fun n hn => ringS_setRing_ne _ _ hn, setRing_only _ _ _⟩ <;> rw [ringS_setRing_same] <;> rfl
  · have heq := ringCreate_checked hm hall
    rw [hplace] at heq
    exact heq
  · obtain ⟨honly, hrings⟩ := reply_datagram_only (s := s) (status := 0) (detail := 0) (body := []) (final := true) hsource
    have hentries (st : State) : Only [.host] st { st with host := { st.host with
        entries := mapFilter (fun k _ => decide (k / 4096 ≠ n.toNat)) st.host.entries } } := only_of_patch rfl
    refine ⟨_, ringDestroy_idle hm hexists hempty hunused, ?_, fun k hk => ?_,
      ((honly.trans (setRing_only _ _ _)).trans (hentries _)).mono (by decide)⟩
    · have hgone : ringS (setRing n.toNat {} (done h [] s)) n.toNat = {} := ringS_setRing_same _ _ _
      have hkind : (ringS (setRing n.toNat {} (done h [] s)) n.toNat).kind = 0 := by rw [hgone]
      exact Bool.and_eq_false_iff.mpr (.inr (decide_eq_false (not_not.mpr hkind)))
    · exact (ringS_setRing_ne _ (done h [] s) hk).trans (ringS_congr hrings k)
  · exact ⟨_, mrRegister_checked hm hall, rfl, only_of_patch rfl⟩
  · exact ⟨_, mrRevoke_granted hm hgranted, rfl, only_of_patch rfl⟩
  · refine ⟨pairMade p s, (qpCreate_checked hm hall).trans (congrArg _ ((if_neg (by omega)).trans ?_)), ?_, ?_, only_of_patch rfl⟩
    all_goals rw [pairMade_qps, mapGet_mapSet_same]
  · exact (qpCreate_checked hm hall).trans (congrArg _ (if_pos hfull))
  · refine ⟨_, qpDestroy_open hm hopen, ?_, fun n hn => mapGet_mapSet_ne (d := ({} : QpS)) (m := s.host.qps) (v := {}) hn, only_of_patch rfl⟩
    exact congrArg QpS.open_ (mapGet_mapSet_same (d := {}) (m := s.host.qps) (n := qpn.toNat) (v := {}))

end Sys2Proof.Machine

/-! SUPPORT. Commands of the job (Table 13.9). -/

namespace Sys2Proof.Machine

/-! ## Commands at the job lead -/

/-- The reply 0x0001 of a deferred command stands before its effect. -/
abbrev accepted (h : CmdHdr) (s : State) : State := reply h 1 0 [] false s

theorem reply_only (h : CmdHdr) (status detail : Nat) (body : List Byte) (final : Bool) (s : State) :
    Only [.sent, .side, .mem, .host] s (reply h status detail body final s) := (reply_grows _ _ _ _ _ s).onlyIn _ (by decide)

theorem owe_only (h : CmdHdr) (b : CmdBody) (s : State) : Only [.host] s (owe h b s) := only_of_patch rfl

theorem mem_owe (h : CmdHdr) (b : CmdBody) (s : State) : ({ hdr := h, body := b } : DeferredS) ∈ (owe h b s).host.deferred :=
  List.mem_append_right _ (List.mem_singleton_self _)

theorem owe_sent (h : CmdHdr) (b : CmdBody) (s : State) : (owe h b s).sent = s.sent := rfl

section
variable {h : CmdHdr} {b : CmdBody} {act : State → State} {s : State}

theorem command_lead (hmodule : ModuleLevel h s) (hlead : isJobLead s = true) (hscope : scopeOf b = .job) :
    command h b act s = act (if isDeferred b then accepted h s else s) := by
  obtain ⟨hready, hctx, hhost⟩ := hmodule
  have hrunning : ¬ (s.boot.state = .recovery ∧ (inRecovery b = false ∨ fromRing h = true)) := by
    rintro ⟨hrecovery, -⟩
    exact absurd (hready.symm.trans hrecovery) (by decide)
  have hfits : ctxOk s h b = true := by simp [ctxOk, hscope, hctx]
  have hnone : admission h b s = none := by
    refine (if_neg hrunning).trans ((if_neg (by rw [hfits]; exact Bool.false_ne_true)).trans (if_neg ?_))
    rintro ⟨-, hmember, -⟩
    exact Bool.false_ne_true (hmember.symm.trans hlead)
  unfold command
  rw [executes_of_ready hready, hhost, hnone]
  rfl

theorem command_lead_deferred (hmodule : ModuleLevel h s) (hlead : isJobLead s = true) (hscope : scopeOf b = .job)
    (hdeferred : isDeferred b = true) : command h b act s = act (accepted h s) := by
  rw [command_lead hmodule hlead hscope, hdeferred, if_pos rfl]

theorem command_deferred (hmodule : ModuleLevel h s) (hscope : scopeOf b = .module) (hdeferred : isDeferred b = true) :
    command h b act s = act (accepted h s) := by
  obtain ⟨hready, hctx, hhost⟩ := hmodule
  rw [command_module hready hctx hhost hscope, hdeferred, if_pos rfl]

theorem accepted_job : (accepted h s).job = s.job := reply_only _ _ _ _ _ _ .job (by decide)

/-- A command from a host is passed on. -/
theorem distribute_host (hhost : isDistributed h = false) : distribute h b s = emit (.distribute h b) s :=
  if_neg (by rw [hhost]; exact Bool.false_ne_true)

theorem mem_sent_of_grows {m : Nat} {s t : State} {x : Msg} (hgrows : Grows m s t) (hx : x ∈ s.sent) : x ∈ t.sent :=
  hgrows.sent.subset hx

end

/-! ## JOB_CONFIGURE -/

section
variable {h : CmdHdr} {p : JobParams} {s : State}

theorem jobConfigure_started (hmodule : ModuleLevel h s) (hstarted : s.job.started = true) :
    exec (.jobConfigure h p) s = .next (refuse h 0x0302 0 s) :=
  congrArg Host.Outcome.next ((command_immediate hmodule rfl rfl).trans (if_pos hstarted))

theorem jobConfigure_checked (hmodule : ModuleLevel h s) (hidle : s.job.started = false) (hall : (jobChecks p).all (·.2) = true) :
    exec (.jobConfigure h p) s = .next (if !strapIn p.member p.straps p.lead s then refuse h 0x0503 p.lead s
      else if decide (1 < p.members) && !strapIn p.member p.straps p.standby s then refuse h 0x0503 p.standby s
      else done h [] (configureJob p s)) :=
  congrArg Host.Outcome.next ((command_immediate hmodule rfl rfl).trans
    ((if_neg (by rw [hidle]; exact Bool.false_ne_true)).trans (checked_ok hall)))

/-- The layers of the layout in force come with the configuration; all else is as it names. -/
theorem configureJob_spec (p : JobParams) (s : State) : ∃ layers, configureJob p s =
    { s with
      job := { s.job with
        configured := true, tag := p.jobTag, group := p.group, member := p.member, groups := p.groups, members := p.members
        leadMember := p.lead, standbyMember := if p.members ≤ 1 then none else some p.standby
        role := roleIn p.member p.lead p.standby, split := p.split, initialEpoch := p.initialEpoch
        straps := p.straps - (if bitAt p.straps p.member then 2 ^ p.member else 0) + b2n s.pins.leadSel * 2 ^ p.member }
      tick := { s.tick with period := p.period, grace := p.grace, policy := if p.slipPause then .pause else .cont
                            source := if p.tickExternal then .external else .internal }
      stream := { s.stream with windowGib := p.windowGib }
      mem := { s.mem with systemGib := p.systemGib, kvGib := p.kvGib }
      beam := { s.beam with lateTicks := p.lateTicks }
      grp := { s.grp with members := keepHalts s.grp.members, mask := 2 ^ p.members - 1, owners := [], standbyLost := false
                          noLead := false }
      red := { s.red with layers := layers } } := by
  unfold configureJob
  dsimp only
  split
  · exact ⟨_, rfl⟩
  · exact ⟨s.red.layers, rfl⟩

end

/-! ## JOB_START -/

section
variable {facts : AdmissionFacts} {s : State}

/-- With no route before, none is lost where the routes are built. -/
theorem buildPeerRoutes_fresh (hnone : s.beam.routes = []) : Only [.beam] s (buildPeerRoutes s) := by
  have hroutes (st : State) (r : Map Nat) : Only [.beam] st { st with beam := { st.beam with routes := r } } := only_of_patch rfl
  unfold buildPeerRoutes
  split
  · exact Only.refl _ _
  · have hlost (others : List Nat) (routes : Map Nat) : others.filter (fun m =>
        decide (mapGet 0 routes m = 0) && decide (mapGet 0 s.beam.routes m ≠ 0)) = [] := by
      rw [hnone]
      exact List.filter_eq_nil_iff.mpr (by simp [mapGet])
    dsimp only
    rw [hlost]
    exact hroutes _ _

/-- The job's fields as its start leaves them, before the routes. -/
def jobBegun (facts : AdmissionFacts) (s : State) : State :=
  let s1 := startGroup facts (startReduce (startStream s))
  setCounter cSlip 0 { s1 with job := { s1.job with
    started := true, ending := false, holds := [], held := false, pauseFor := [], haltPause := false, hostPause := false
    starveReported := false, passRunning := false } }

/-- Where HALT_N is asserted on a module that is not the job lead, the request goes out with the start (R527). -/
def haltAtStart (s : State) : State :=
  if bitAt s.pins.asserted 3 && !isJobLead s then
    emit (.halt (selfIndex s) false) { s with pins := { s.pins with haltSent := true } }
  else s

theorem startJob_eq : startJob facts s =
    haltAtStart (buildPeerRoutes (jobBegun facts (dropMoves (takeSplit (rejoinStacks s))))) := by
  delta startJob haltAtStart jobBegun
  dsimp only

theorem haltAtStart_only : Only [.sent, .pins] s (haltAtStart s) := by
  unfold haltAtStart
  split
  · exact only_of_patch rfl
  · exact Only.refl _ _

theorem jobBegun_spec : (jobBegun facts s).job.started = true ∧ (jobBegun facts s).job.holds = [] ∧
    (jobBegun facts s).red.committed = 0 ∧ (jobBegun facts s).red.roll = 0 ∧
    (jobBegun facts s).grp.mask = 2 ^ s.job.members - 1 ∧ (jobBegun facts s).stream.epochA = 0 ∧
    (jobBegun facts s).stream.pending = some s.job.initialEpoch ∧ (jobBegun facts s).beam.routes = [] :=
  ⟨rfl, rfl, rfl, rfl, rfl, rfl, rfl, rfl⟩

theorem startJob_spec : (startJob facts s).job.started = true ∧ (startJob facts s).job.holds = [] ∧
    (startJob facts s).red.committed = 0 ∧ (startJob facts s).red.roll = 0 ∧
    (startJob facts s).grp.mask = 2 ^ s.job.members - 1 ∧ (startJob facts s).stream.epochA = 0 ∧
    (startJob facts s).stream.pending = some s.job.initialEpoch := by
  obtain ⟨u, hu⟩ : ∃ u, u = dropMoves (takeSplit (rejoinStacks s)) := ⟨_, rfl⟩
  have hjob : u.job = s.job := by
    rw [hu]
    exact ((dropMoves_grows _).same .job rfl).trans (((takeSplit_grows _).same .job rfl).trans ((rejoinStacks_grows _).same .job rfl))
  obtain ⟨hstarted, hholds, hcommitted, hroll, hmask, hepoch, hpending, hroutes⟩ := jobBegun_spec (facts := facts) (s := u)
  have honly : Only [.sent, .pins, .beam] (jobBegun facts u) (startJob facts s) := by
    rw [startJob_eq, ← hu]
    exact ((buildPeerRoutes_fresh hroutes).trans haltAtStart_only).mono (by decide)
  rw [honly .job (by decide), honly .red (by decide), honly .grp (by decide), honly .stream (by decide), ← hjob]
  exact ⟨hstarted, hholds, hcommitted, hroll, hmask, hepoch, hpending⟩

variable {h : CmdHdr}

theorem jobStart_checked (hmodule : ModuleLevel h s) (hlead : isJobLead s = true) (hidle : s.job.started = false) :
    exec (.jobStart h facts) s = .next (match startRefusal facts (accepted h s) with
      | some r => refuse h r.1 r.2 (accepted h s)
      | none => owe h (.jobStart facts) (startJob facts (emit (.jobWide (jobWideValues (accepted h s)))
          (emit (.distribute h (.jobStart facts)) (accepted h s))))) := by
  have hhost : isDistributed h = false := hmodule.2.2
  refine congrArg Host.Outcome.next ((command_lead_deferred hmodule hlead rfl rfl).trans ?_)
  unfold jobStartOp
  rw [hhost, if_neg Bool.false_ne_true, accepted_job, hidle, if_neg Bool.false_ne_true, distribute_host hhost] <;> rfl

end

/-! ## JOB_PAUSE, JOB_RESUME, JOB_END -/

section
variable {h : CmdHdr} {s : State}

theorem jobPauseOp_again (hhost : isDistributed h = false) (hstarted : s.job.started = true) (hpaused : s.job.hostPause = true) :
    jobPauseOp h s = refuse h 0x0002 0 s := by
  unfold jobPauseOp
  rw [hhost, hstarted, hpaused]
  rfl

/-- The pause that a host asks for, passed on. -/
def pauseAsked (h : CmdHdr) (s : State) : State :=
  askPause (emit (.distribute h .jobPause) { s with job := { s.job with hostPause := true } })

theorem jobPauseOp_asked (hhost : isDistributed h = false) (hstarted : s.job.started = true) (hfree : s.job.hostPause = false)
    (hholds : s.job.holds.contains 1 = false) : jobPauseOp h s = owe h .jobPause (pauseAsked h s) := by
  refine (if_neg (ne_true_of_eq_false hhost)).trans ((if_neg (by rw [hstarted]; exact Bool.false_ne_true)).trans
    ((if_neg (ne_true_of_eq_false hfree)).trans ((if_neg (ne_true_of_eq_false hholds)).trans ?_)))
  rw [distribute_host hhost]
  rfl

theorem askPause_spec (hholds : s.job.holds.contains 1 = false) : Only [.job] s (askPause s) ∧
    (askPause s).job.hostPause = s.job.hostPause ∧ 1 ∈ (askPause s).job.pauseFor ∧ (askPause s).job.holds = s.job.holds := by
  unfold askPause
  split
  · next hasked =>
    rw [hholds, Bool.or_false] at hasked
    exact ⟨Only.refl _ _, rfl, List.contains_iff_mem.mp hasked, rfl⟩
  · exact ⟨only_of_patch rfl, rfl, List.mem_append_right _ (List.mem_singleton_self _), rfl⟩

theorem pauseAsked_spec (hholds : s.job.holds.contains 1 = false) : Only [.sent, .job] s (pauseAsked h s) ∧
    (pauseAsked h s).job.hostPause = true ∧ 1 ∈ (pauseAsked h s).job.pauseFor ∧ (pauseAsked h s).job.holds = s.job.holds ∧
    (pauseAsked h s).sent = s.sent ++ [.distribute h .jobPause] := by
  obtain ⟨u, hu⟩ : ∃ u, u = emit (.distribute h .jobPause) { s with job := { s.job with hostPause := true } } := ⟨_, rfl⟩
  have hfirst : Only [.sent, .job] s u := by rw [hu]; exact only_of_patch rfl
  have hjob : u.job = { s.job with hostPause := true } := by rw [hu]; rfl
  obtain ⟨honly, hpause, hasked, hheld⟩ := askPause_spec (s := u) (by rw [hjob, hholds])
  have hpauseAsked : pauseAsked h s = askPause u := by rw [hu]; rfl
  rw [hpauseAsked]
  refine ⟨(hfirst.trans honly).mono (by decide), by rw [hpause, hjob], hasked, by rw [hheld, hjob], ?_⟩
  rw [honly .sent (by decide), hu]
  rfl

theorem jobResumeOp_refused {status detail : Nat} (hhost : isDistributed h = false) (hstarted : s.job.started = true)
    (hholds : s.job.holds.isEmpty = false) (hrefused : resumeRefusal s.job.holds s = (some (status, detail), s)) :
    jobResumeOp h s = refuse h status detail s := by
  unfold jobResumeOp
  dsimp only
  rw [hhost, hstarted, hholds, hrefused]
  rfl

/-- The holds released, a host's pause no more. -/
def resumed (h : CmdHdr) (s : State) : State :=
  let st := emit (.distribute h .jobResume) s
  releaseHolds st.job.holds { st with job := { st.job with hostPause := false } }

theorem jobResumeOp_released (hhost : isDistributed h = false) (hstarted : s.job.started = true)
    (hholds : s.job.holds.isEmpty = false) (hmet : (resumeRefusal s.job.holds s).1 = none) :
    jobResumeOp h s = owe h .jobResume (resumed h s) := by
  unfold jobResumeOp
  dsimp only
  rw [hhost, hstarted, hholds, hmet, distribute_host hhost]
  rfl

theorem releaseHolds_pause (hhalt : s.job.haltPause = false) : releaseHolds [1] s =
    { s with job := { s.job with holds := s.job.holds.filter fun c => decide (c ≠ 1) } } := by
  have hmet : releaseRefusal 1 s = (none, s) := rfl
  unfold releaseHolds releaseHolds
  dsimp only
  rw [hmet, hhalt]
  rfl

theorem resumed_spec (hholds : s.job.holds = [1]) (hhalt : s.job.haltPause = false) : Only [.sent, .job] s (resumed h s) ∧
    (resumed h s).job.holds = [] ∧ (resumed h s).job.hostPause = false ∧
    (resumed h s).sent = s.sent ++ [.distribute h .jobResume] := by
  obtain ⟨u, hu⟩ : ∃ u, u = { emit (.distribute h .jobResume) s with job := { s.job with hostPause := false } } := ⟨_, rfl⟩
  have hfirst : Only [.sent, .job] s u := by rw [hu]; exact only_of_patch rfl
  have hjob : u.job = { s.job with hostPause := false } := by rw [hu]
  have hreleased : Only [.job] u { u with job := { u.job with holds := u.job.holds.filter fun c => decide (c ≠ 1) } } :=
    only_of_patch rfl
  have hresumed : resumed h s = { u with job := { u.job with holds := u.job.holds.filter fun c => decide (c ≠ 1) } } := by
    rw [← releaseHolds_pause (by rw [hjob, hhalt]), hu, resumed]
    dsimp only [emit_job]
    rw [hholds]
  rw [hresumed]
  refine ⟨(hfirst.trans hreleased).mono (by decide), ?_, ?_, ?_⟩
  · dsimp only
    rw [hjob]
    dsimp only
    rw [hholds]
    rfl
  · dsimp only
    rw [hjob]
  · dsimp only
    rw [hu]
    rfl

theorem jobEndOp_started (hhost : isDistributed h = false) (hstarted : s.job.started = true) :
    jobEndOp h s = owe h .jobEnd (beginEnd (emit (.distribute h .jobEnd) s)) := by
  unfold jobEndOp
  rw [hhost, hstarted, distribute_host hhost]
  rfl

/-! ## Contexts closed -/

theorem replyRequest_contexts (r : RequestS) (status detail : Nat) (body : List Byte) :
    (replyRequest r status detail body s).host.contexts = s.host.contexts := by
  have hreserved (h : CmdHdr) (n : Nat) : (reserveEntries h 0 n s).host.contexts = s.host.contexts := by
    unfold reserveEntries
    split <;> rfl
  exact (reply_host (·.contexts) (fun _ _ _ => rfl) _ _ _ _ _ _).trans (hreserved _ _)

theorem each_contexts {α : Type} {f : α → State → State} (hf : ∀ a st, (f a st).host.contexts = st.host.contexts) (l : List α)
    (s : State) : (each l f s).host.contexts = s.host.contexts := by
  induction l generalizing s with
  | nil => rfl
  | cons a l ih => exact (ih (f a s)).trans (hf a s)

theorem endContextWork_contexts (status ctx : Nat) : (endContextWork status ctx s).host.contexts =
    mapSet {} s.host.contexts ctx
      { ctxOf s ctx with requests := (ctxOf s ctx).requests.filter fun _ => !true } := by
  unfold endContextWork
  exact (each_contexts (fun d st => reply_host (·.contexts) (fun _ _ _ => rfl) _ _ _ _ _ _) _ _).trans
    (each_contexts (fun r st => replyRequest_contexts _ _ _ _) _ _)

/-- The context closed is empty, and no other changes. -/
theorem closeContext_contexts (status ctx : Nat) : ∃ c, (closeContext status ctx s).host.contexts =
    mapSet {} (mapSet {} s.host.contexts ctx c) ctx {} :=
  ⟨_, congrArg (fun m => mapSet ({} : ContextS) m ctx {}) (endContextWork_contexts status ctx)⟩

theorem ctxOf_closeContext_same (status ctx : Nat) : ctxOf (closeContext status ctx s) ctx = {} := by
  obtain ⟨c, hcontexts⟩ := closeContext_contexts (s := s) status ctx
  rw [ctxOf, hcontexts, mapGet_mapSet_same]

theorem ctxOf_closeContext_ne (status : Nat) {ctx n : Nat} (hn : n ≠ ctx) : ctxOf (closeContext status ctx s) n = ctxOf s n := by
  obtain ⟨c, hcontexts⟩ := closeContext_contexts (s := s) status ctx
  rw [ctxOf, hcontexts, mapGet_mapSet_ne hn, mapGet_mapSet_ne hn, ctxOf]

/-- A context of the list, or one that is empty, is empty once the list's are closed. -/
theorem ctxOf_closedAll (status : Nat) (l : List Nat) (n : Nat) (hn : n ∈ l ∨ (ctxOf s n).kind = none) :
    (ctxOf (each l (closeContext status) s) n).kind = none := by
  induction l generalizing s with
  | nil => exact hn.resolve_left (List.not_mem_nil)
  | cons a l ih =>
    refine ih ?_
    by_cases ha : n = a
    · subst ha
      exact .inr (by rw [ctxOf_closeContext_same])
    · rw [ctxOf_closeContext_ne _ ha]
      exact hn.imp_left fun hmem => (List.mem_cons.mp hmem).resolve_left ha

theorem beginEnd_only : Only [.sent, .side, .job, .stream, .mem, .host] s (beginEnd s) := (beginEnd_grows s).onlyIn _ (by decide)

theorem beginEnd_spec : (beginEnd s).job.ending = true ∧ (beginEnd s).stream.stop = true ∧
    ∀ n, n < 64 → (ctxOf (beginEnd s) n).kind = none := by
  obtain ⟨u, hu⟩ : ∃ u, u = stopStream false { s with job := { s.job with ending := true } } := ⟨_, rfl⟩
  have hend : beginEnd s = each (openContexts s) (closeContext 0x0703) u := by rw [hu]; rfl
  have honly : Only [.sent, .side, .mem, .host] u (beginEnd s) := by
    rw [hend]
    exact each_only (ps := [.sent, .side, .mem, .host]) (fun n st => (closeContext_grows 0x0703 n st).onlyIn _ (by decide)) _ _
  refine ⟨?_, ?_, fun n hn => ?_⟩
  · rw [honly .job (by decide), hu]
    rfl
  · rw [honly .stream (by decide), hu]
    rfl
  · rw [hend]
    refine ctxOf_closedAll _ _ _ ?_
    have hsame : ctxOf u n = ctxOf s n := by rw [hu]; rfl
    rw [hsame]
    by_cases hopen : (ctxOf s n).kind.isSome
    · exact .inl (List.mem_filter.mpr ⟨List.mem_range.mpr hn, hopen⟩)
    · exact .inr (Option.not_isSome_iff_eq_none.mp hopen)

/-! ## NAME_LEAD -/

theorem nameLeadOp_unheld {lead standby straps : Nat} (hnone : s.job.holds.contains 4 = false) :
    nameLeadOp h lead standby straps s = refuse h 0x0303 (s.job.holds.headD 0) s := by
  refine if_pos ?_
  rw [hnone, Bool.not_false, Bool.or_true]

theorem nameLeadOp_named {lead standby straps : Nat} (hstarted : s.job.started = true) (hheld : s.job.holds.contains 4 = true)
    (hall : (nameChecks s lead standby).all (·.2) = true) (hlead : strapOf s straps lead = true)
    (hstandby : standby ≠ 0xFF → strapOf s straps standby = true) :
    nameLeadOp h lead standby straps s = takeRoles lead standby (owe h (.nameLead lead standby straps) s) := by
  refine (if_neg (by rw [hstarted, hheld]; exact Bool.false_ne_true)).trans ((checked_ok hall).trans ?_)
  rw [hlead, if_neg (by simp), if_neg ?_]
  rintro ⟨hnamed, hlow⟩
  exact Bool.false_ne_true (hlow.symm.trans (hstandby hnamed))

theorem requestRollback_kept (cause : Nat) : (requestRollback cause s).job = s.job ∧
    (requestRollback cause s).grp.noLead = s.grp.noLead ∧ (requestRollback cause s).host = s.host := by
  unfold requestRollback
  split
  · exact ⟨rfl, rfl, rfl⟩
  · split <;> exact ⟨rfl, rfl, rfl⟩

theorem assumeLead_kept : (assumeLead s).job = s.job ∧ (assumeLead s).grp.noLead = s.grp.noLead ∧ (assumeLead s).host = s.host := by
  unfold assumeLead
  exact requestRollback_kept 13

/-- The roles as named, and the hold of a lost lead left. -/
def rolesNamed (lead standby : Nat) (s : State) : State :=
  let sb := if standby = 0xFF then none else some standby
  emit (.roles lead sb) { s with
    job := { s.job with leadMember := lead, standbyMember := sb, role := roleIn s.job.member lead standby
                        holds := s.job.holds.filter fun c => decide (c ≠ 4), held := true }
    grp := { s.grp with noLead := false, standbyLost := sb.isNone } }

theorem takeRoles_spec (lead standby : Nat) : (takeRoles lead standby s).job = (rolesNamed lead standby s).job ∧
    (takeRoles lead standby s).grp.noLead = false ∧ (takeRoles lead standby s).host = s.host ∧
    ∀ m ∈ (rolesNamed lead standby s).sent, m ∈ (takeRoles lead standby s).sent := by
  have htake : takeRoles lead standby s = if lead = (rolesNamed lead standby s).job.member then
      assumeLead (rolesNamed lead standby s) else rolesNamed lead standby s := rfl
  rw [htake]
  split
  · obtain ⟨hjob, hlead, hhost⟩ := assumeLead_kept (s := rolesNamed lead standby s)
    exact ⟨hjob, hlead, hhost, fun m hm => mem_sent_of_grows (assumeLead_grows _) hm⟩
  · exact ⟨rfl, rfl, rfl, fun m hm => hm⟩

end

/-- Settles O38: one clause each for what the commands of the job do and refuse. -/
theorem jobCommandsComplete : Obligations.JobCommandsComplete := by
  unfold Obligations.JobCommandsComplete
  refine ⟨fun h p s hm hidle hall hlead hstandby => ?_, fun h p s hm hidle hall hlead => ?_,
    fun h p s hm hidle hall hlead htwo hstandby => ?_, fun h p s hm hstarted => jobConfigure_started hm hstarted,
    fun h facts s hm hlead hidle hok => ?_, fun h facts s r hm hlead hidle hno => ?_, fun h s hjob hfree hholds => ?_,
    fun h s hjob hpaused => ?_, fun h s hjob hholds hhalt => ?_, fun h s hjob hholds => ?_, fun h s hjob => ?_,
    fun h lead standby straps s hm hstarted hheld hall hlead hstandby => ?_, fun h lead standby straps s hm hnone => ?_⟩
  · have hstandby' : ¬ (decide (1 < p.members) && !strapIn p.member p.straps p.standby s) = true := by
      rw [Bool.and_eq_true, decide_eq_true_eq]
      rintro ⟨htwo, hlow⟩
      rw [hstandby htwo] at hlow
      exact Bool.false_ne_true hlow
    obtain ⟨layers, hconf⟩ := configureJob_spec p s
    refine ⟨configureJob p s, (jobConfigure_checked hm hidle hall).trans (congrArg _ ((if_neg (by rw [hlead]; simp)).trans
      (if_neg hstandby'))), ?_⟩
    rw [hconf]
    exact ⟨rfl, rfl, rfl, rfl, rfl, rfl, rfl, rfl, rfl, rfl, rfl, rfl, rfl, rfl, rfl, only_of_patch rfl⟩
  · exact (jobConfigure_checked hm hidle hall).trans (congrArg _ (if_pos (by rw [hlead]; rfl)))
  · exact (jobConfigure_checked hm hidle hall).trans (congrArg _ ((if_neg (by rw [hlead]; simp)).trans
      (if_pos (by rw [hstandby, decide_eq_true htwo]; rfl))))
  · have heq := jobStart_checked (facts := facts) hm hlead hidle
    rw [hok] at heq
    obtain ⟨u, hu⟩ : ∃ u, u = emit (.jobWide (jobWideValues (accepted h s))) (emit (.distribute h (.jobStart facts)) (accepted h s)) :=
      ⟨_, rfl⟩
    have hjob : u.job = s.job := by rw [hu]; exact accepted_job
    have hpassed : Msg.distribute h (.jobStart facts) ∈ u.sent := by
      rw [hu]
      exact List.mem_append_left _ (List.mem_append_right _ (List.mem_singleton_self _))
    obtain ⟨hstarted, hholds, hcommitted, hroll, hmask, hepoch, hpending⟩ := startJob_spec (facts := facts) (s := u)
    rw [hjob] at hmask hpending
    rw [← hu] at heq
    have hsent : Msg.distribute h (.jobStart facts) ∈ (startJob facts u).sent := mem_sent_of_grows (startJob_grows facts u) hpassed
    exact ⟨_, heq, hstarted, hholds, hcommitted, hroll, hmask, hepoch, hpending, hsent, mem_owe _ _ _⟩
  · have heq := jobStart_checked (facts := facts) hm hlead hidle
    rw [hno] at heq
    exact heq
  · obtain ⟨hmodule, hlead, hstarted⟩ := hjob
    have hjob : (accepted h s).job = s.job := accepted_job
    have hrun := jobPauseOp_asked (h := h) (s := accepted h s) hmodule.2.2 (by rw [hjob, hstarted]) (by rw [hjob, hfree])
      (by rw [hjob, hholds])
    obtain ⟨honly, hpause, hasked, hheld, hsent⟩ := pauseAsked_spec (h := h) (s := accepted h s) (by rw [hjob, hholds])
    refine ⟨_, congrArg Host.Outcome.next ((command_lead_deferred hmodule hlead rfl rfl).trans hrun), hpause, hasked,
      hheld.trans (congrArg JobS.holds hjob), ?_, mem_owe _ _ _,
      (((reply_only _ _ _ _ _ _).trans honly).trans (owe_only _ _ _)).mono (by decide)⟩
    rw [owe_sent, hsent]
    exact List.mem_append_right _ (List.mem_singleton_self _)
  · obtain ⟨hmodule, hlead, hstarted⟩ := hjob
    have hjob : (accepted h s).job = s.job := accepted_job
    exact congrArg Host.Outcome.next ((command_lead_deferred hmodule hlead rfl rfl).trans
      (jobPauseOp_again hmodule.2.2 (by rw [hjob, hstarted]) (by rw [hjob, hpaused])))
  · obtain ⟨hmodule, hlead, hstarted⟩ := hjob
    have hjob : (accepted h s).job = s.job := accepted_job
    have hrun := jobResumeOp_released (h := h) (s := accepted h s) hmodule.2.2 (by rw [hjob, hstarted]) (by rw [hjob, hholds]; rfl)
      (by rw [hjob, hholds]; rfl)
    obtain ⟨honly, hnone, hpause, hsent⟩ := resumed_spec (h := h) (s := accepted h s) (by rw [hjob, hholds]) (by rw [hjob, hhalt])
    refine ⟨_, congrArg Host.Outcome.next ((command_lead_deferred hmodule hlead rfl rfl).trans hrun), hnone, hpause, ?_, mem_owe _ _ _,
      (((reply_only _ _ _ _ _ _).trans honly).trans (owe_only _ _ _)).mono (by decide)⟩
    rw [owe_sent, hsent]
    exact List.mem_append_right _ (List.mem_singleton_self _)
  · obtain ⟨hmodule, hlead, hstarted⟩ := hjob
    have hjob : (accepted h s).job = s.job := accepted_job
    exact congrArg Host.Outcome.next ((command_lead_deferred hmodule hlead rfl rfl).trans
      (jobResumeOp_refused hmodule.2.2 (by rw [hjob, hstarted]) (by rw [hjob, hholds]; rfl) (by rw [hjob, hholds]; rfl)))
  · obtain ⟨hmodule, hlead, hstarted⟩ := hjob
    have hjob : (accepted h s).job = s.job := accepted_job
    have hrun := jobEndOp_started (h := h) (s := accepted h s) hmodule.2.2 (by rw [hjob, hstarted])
    obtain ⟨u, hu⟩ : ∃ u, u = emit (.distribute h .jobEnd) (accepted h s) := ⟨_, rfl⟩
    have hpassed : Msg.distribute h .jobEnd ∈ u.sent := by
      rw [hu]
      exact List.mem_append_right _ (List.mem_singleton_self _)
    have honly : Only [.sent, .side, .mem, .host] s u := by
      rw [hu]
      exact ((reply_only _ _ _ _ _ _).trans (emit_only _ _)).mono (by decide)
    rw [← hu] at hrun
    obtain ⟨hending, hstop, hclosed⟩ := beginEnd_spec (s := u)
    have hsent : Msg.distribute h .jobEnd ∈ (beginEnd u).sent := mem_sent_of_grows (beginEnd_grows u) hpassed
    exact ⟨_, congrArg Host.Outcome.next ((command_lead_deferred hmodule hlead rfl rfl).trans hrun), hending, hstop, hclosed,
      hsent, mem_owe _ _ _,
      ((honly.trans beginEnd_only).trans (owe_only _ _ _)).mono (by decide)⟩
  · have hjob : (accepted h s).job = s.job := accepted_job
    have honly : Only [.sent, .side, .mem, .host] s (accepted h s) := reply_only _ _ _ _ _ _
    have hstrap (m : Nat) : strapOf (accepted h s) straps.toNat m = strapOf s straps.toNat m := by
      rw [strapOf, strapOf, strapIn, strapIn, hjob, honly .pins (by decide)]
    have hchecks : nameChecks (accepted h s) lead.toNat standby.toNat = nameChecks s lead.toNat standby.toNat := by
      have hgrp : (accepted h s).grp = s.grp := honly .grp (by decide)
      unfold nameChecks memberS
      rw [hjob, hgrp]
    have hrun := nameLeadOp_named (h := h) (s := accepted h s) (by rw [hjob, hstarted]) (by rw [hjob, hheld])
      (by rw [hchecks, hall]) (by rw [hstrap, hlead]) (fun hnamed => by rw [hstrap, hstandby hnamed])
    obtain ⟨u, hu⟩ : ∃ u, u = owe h (.nameLead lead.toNat standby.toNat straps.toNat) (accepted h s) := ⟨_, rfl⟩
    have hjob' : u.job = s.job := by rw [hu]; exact hjob
    rw [← hu] at hrun
    obtain ⟨hroles, hnoLead, hhost, hsent⟩ := takeRoles_spec (s := u) lead.toNat standby.toNat
    refine ⟨_, congrArg Host.Outcome.next ((command_deferred hm rfl rfl).trans hrun), ?_, ?_, ?_, ?_, ?_, hnoLead, ?_, ?_⟩
    · rw [hroles]
      rfl
    · rw [hroles]
      simp [rolesNamed]
    · rw [hroles]
      rfl
    · rw [hroles, ← hjob']
      rfl
    · rw [hroles]
      rfl
    · rw [hroles]
      exact hsent _ (List.mem_append_right _ (List.mem_singleton_self _))
    · rw [hhost, hu]
      exact mem_owe _ _ _
  · have hjob : (accepted h s).job = s.job := accepted_job
    have hrun := nameLeadOp_unheld (h := h) (s := accepted h s) (lead := lead.toNat) (standby := standby.toNat)
      (straps := straps.toNat) (by rw [hjob, hnone])
    rw [hjob] at hrun
    exact congrArg Host.Outcome.next ((command_deferred hm rfl rfl).trans hrun)

end Sys2Proof.Machine

/-! SUPPORT. Commands of contexts, requests and epochs (Tables 13.9 and 13.10). -/

namespace Sys2Proof.Machine

/-! ## Context-scope commands -/

section
variable {h : CmdHdr} {b : CmdBody} {act : State → State} {s : State}

theorem command_context (hcontext : ContextLevel h s) (hscope : scopeOf b = .context) :
    command h b act s = act (if isDeferred b then accepted h s else s) := by
  obtain ⟨hready, hhost, hring, hopen⟩ := hcontext
  have hrunning : ¬ (s.boot.state = .recovery ∧ (inRecovery b = false ∨ fromRing h = true)) := by
    rintro ⟨hrecovery, -⟩
    exact absurd (hready.symm.trans hrecovery) (by decide)
  have hunbound : boundCtx s h = 0xFF := by
    unfold fromRing at hring
    unfold boundCtx
    cases horigin : h.origin with
    | ring n => rw [horigin] at hring; exact absurd hring.symm Bool.false_ne_true
    | datagram _ => rfl
    | sideband => rfl
    | distributed => rfl
  have hfits : ctxOk s h b = true := by simp [ctxOk, hscope, hopen, hunbound]
  have hnone : admission h b s = none := by
    refine (if_neg hrunning).trans ((if_neg (by rw [hfits]; exact Bool.false_ne_true)).trans (if_neg ?_))
    rintro ⟨hjob, -⟩
    exact absurd (hscope.symm.trans hjob) (by decide)
  unfold command
  rw [executes_of_ready hready, hhost, hnone]
  rfl

theorem command_context_now (hcontext : ContextLevel h s) (hscope : scopeOf b = .context) (hnow : isDeferred b = false) :
    command h b act s = act s := by
  rw [command_context hcontext hscope, hnow, if_neg Bool.false_ne_true]

theorem command_lead_now (hmodule : ModuleLevel h s) (hlead : isJobLead s = true) (hscope : scopeOf b = .job)
    (hnow : isDeferred b = false) : command h b act s = act s := by
  rw [command_lead hmodule hlead hscope, hnow, if_neg Bool.false_ne_true]

theorem ctxOf_congr {t : State} (hcontexts : t.host.contexts = s.host.contexts) (n : Nat) : ctxOf t n = ctxOf s n := by
  rw [ctxOf, ctxOf, hcontexts]

theorem ctxOf_reply (status detail : Nat) (body : List Byte) (final : Bool) (n : Nat) :
    ctxOf (reply h status detail body final s) n = ctxOf s n := ctxOf_congr (reply_host (·.contexts) (fun _ _ _ => rfl) _ _ _ _ _ _) n

/-- A distributed command beside the reply: the messages that a command sends on. -/
theorem emit_distribute_only : Only [.sent] s (emit (.distribute h b) s) := only_of_patch rfl

end

/-! ## Contexts and rules -/

section
variable {h : CmdHdr} {s : State}

theorem contextOpen_checked (hmodule : ModuleLevel h s) {p : CtxParams} (hconfigured : s.job.configured = true)
    (hall : (contextChecks s p).all (·.2) = true) : exec (.contextOpen h p) s =
      .next (if p.kind = .serve ∧ kvPageBytes s (newContext p) ≠ 0 ∧ freePages s (newContext p) = 0 then refuse h 0x0401 3 s
        else done h [] (setCtx p.ctx (newContext p) s)) :=
  congrArg Host.Outcome.next ((command_immediate hmodule rfl rfl).trans
    ((if_neg (by rw [hconfigured]; exact Bool.false_ne_true)).trans (checked_ok hall)))

theorem contextOpen_unconfigured (hmodule : ModuleLevel h s) {p : CtxParams} (hnone : s.job.configured = false) :
    exec (.contextOpen h p) s = .next (refuse h 0x0304 0 s) :=
  congrArg Host.Outcome.next ((command_immediate hmodule rfl rfl).trans (if_pos (by rw [hnone]; rfl)))

theorem contextClose_open (hcontext : ContextLevel h s) :
    exec (.contextClose h) s = .next (done h [] (closeContext 0x0702 h.ctx.toNat (accepted h s))) :=
  congrArg Host.Outcome.next ((command_context hcontext rfl).trans rfl)

theorem closeContext_only (status ctx : Nat) : Only [.sent, .side, .mem, .host] s (closeContext status ctx s) :=
  (closeContext_grows _ _ s).onlyIn _ (by decide)

theorem setRule_checked {tensor value : BitVec 32} {f : RuleField} (hmodule : ModuleLevel h s) (hlead : isJobLead s = true)
    (hconfigured : s.job.configured = true) (hall : (ruleChecks s tensor.toNat f value.toNat).all (·.2) = true) :
    exec (.setRule h tensor f value) s = .next (done h [] (setRuleNow tensor.toNat f value.toNat
      (emit (.distribute h (.setRule tensor.toNat f value.toNat)) s))) := by
  have hhost : isDistributed h = false := hmodule.2.2
  refine congrArg Host.Outcome.next ((command_lead_now hmodule hlead rfl rfl).trans
    ((if_neg (ne_true_of_eq_false hhost)).trans ((if_neg (by rw [hconfigured]; exact Bool.false_ne_true)).trans ?_)))
  refine (checked_ok hall).trans ?_
  rw [distribute_host hhost]

theorem setRuleNow_later {tensor value : Nat} {f : RuleField} (hstarted : s.job.started = true) : setRuleNow tensor f value s =
    { s with host := { s.host with ruleWrites := s.host.ruleWrites ++ [(tensor, f, value)] } } := if_pos hstarted

theorem setRuleNow_gscale {tensor value : Nat} (hidle : s.job.started = false) : setRuleNow tensor .gscale value s =
    { s with red := { s.red with gscale := value } } := if_neg (ne_true_of_eq_false hidle)

/-! ## Batches -/

theorem batchReady_checked {step : BitVec 40} {bytes : BitVec 64} {kind : CtxKind} (hcontext : ContextLevel h s)
    (hkind : (ctxOf s h.ctx.toNat).kind = some kind) (hserve : kind ≠ .serve)
    (hall : (batchChecks s (decide (kind = .train)) (ctxOf s h.ctx.toNat).inputMib step.toNat bytes.toNat).all (·.2) = true) :
    exec (.batchReady h step bytes) s = .next (
      let st := setCtx h.ctx.toNat { ctxOf s h.ctx.toNat with
        ready := some step.toNat, readyBytes := bytes.toNat
        inputEpoch := if kind = .train then (ctxOf s h.ctx.toNat).inputEpoch else s.tick.epoch } s
      if kind = .train then done h [] st else owe h (.batchReady step.toNat bytes.toNat) (accepted h st)) := by
  have hother : ¬ (ctxOf s h.ctx.toNat).kind = some .serve := by
    rw [hkind, Option.some_inj]
    exact hserve
  have htrain : decide ((ctxOf s h.ctx.toNat).kind = some .train) = decide (kind = .train) := by
    rw [hkind]
    simp only [Option.some_inj]
  refine congrArg Host.Outcome.next ((command_context_now hcontext rfl rfl).trans ((if_neg hother).trans ?_))
  dsimp only
  rw [htrain, checked_ok hall]
  simp only [decide_eq_true_eq]

/-! ## Requests -/

/-- The request as it stands at its admission's decision. -/
def requestMade (h : CmdHdr) (p : RequestParams) (s : State) : RequestS :=
  { hdr := h, indirect := p.indirect, prompt := promptOf s h.ctx.toNat p, promptLen := p.promptLen, newLen := p.newLen
    sampled := p.sampled, seed := p.seed.toNat, epoch := none, pages := pagesFor (ctxOf s h.ctx.toNat) p.promptLen p.newLen
    tokens := [], inBatch := false, cancelled := false, stopped := false, kvLost := false }

theorem request_checked (hcontext : ContextLevel h s) {p : RequestParams} (hkind : (ctxOf s h.ctx.toNat).kind = some .serve)
    (hpage : kvPageBytes s (ctxOf s h.ctx.toNat) ≠ 0) (hall : (requestChecks (ctxOf s h.ctx.toNat) p).all (·.2) = true) :
    exec (.request h p) s = .next (admitRequest h.ctx.toNat (requestMade h p s) s) :=
  congrArg Host.Outcome.next ((command_context_now hcontext rfl rfl).trans
    ((if_neg (not_not.mpr hkind)).trans ((if_neg hpage).trans (checked_ok hall))))

theorem admitRequest_waiting {ctx : Nat} {r : RequestS} (hclosed : s.tick.epoch = 0) : admitRequest ctx r s =
    setCtx ctx { ctxOf s ctx with requests := (ctxOf s ctx).requests ++ [r] } s := if_pos hclosed

theorem admitRequest_refused {ctx : Nat} {r : RequestS} (hopen : s.tick.epoch ≠ 0) (hcode : capacityCode s (ctxOf s ctx) r ≠ 0) :
    admitRequest ctx r s = replyRequest r 0x0401 (capacityCode s (ctxOf s ctx) r) [] s :=
  (if_neg hopen).trans (if_pos hcode)

theorem admitRequest_admitted {ctx : Nat} {r : RequestS} (hopen : s.tick.epoch ≠ 0) (hcode : capacityCode s (ctxOf s ctx) r = 0) :
    admitRequest ctx r s = setCtx ctx { ctxOf s ctx with requests := (ctxOf s ctx).requests ++
        [{ r with epoch := some s.tick.epoch, held := pickPages s (ctxOf s ctx) r.pages }] }
      (reserveEntries r.hdr (resultEntries s r.hdr r.newLen) 0 s) := by
  refine (if_neg hopen).trans ?_
  dsimp only
  rw [if_neg (not_not.mpr hcode)]

theorem reserveEntries_offRing {add take : Nat} (hring : fromRing h = false) : reserveEntries h add take s = s := by
  unfold fromRing at hring
  unfold reserveEntries
  split
  · next n horigin => rw [horigin] at hring; exact absurd hring.symm Bool.false_ne_true
  · rfl

/-- Off a ring a request fails for its pages alone, once its batch has room. -/
theorem capacityCode_offRing {c : ContextS} {r : RequestS} (hring : fromRing r.hdr = false)
    (hcount : nextCount s c < c.maxRequests) (htokens : nextTokens s c + r.promptLen ≤ c.passTokens)
    (hpages : r.pages ≤ freePages s c) : capacityCode s c r = 0 := by
  refine (if_neg (by omega)).trans ((if_neg (by omega)).trans ((if_neg (by omega)).trans (if_neg ?_)))
  unfold fromRing at hring
  split
  · next n horigin => rw [horigin] at hring; exact absurd hring.symm Bool.false_ne_true
  · exact Bool.false_ne_true

theorem cancel_none (hcontext : ContextLevel h s) {seq : BitVec 32} (hkind : (ctxOf s h.ctx.toNat).kind = some .serve)
    (hnone : (ctxOf s h.ctx.toNat).requests.any (cancellable s seq) = false) :
    exec (.cancel h seq) s = .next (refuse h 0x0002 0 s) :=
  congrArg Host.Outcome.next ((command_context_now hcontext rfl rfl).trans
    ((if_neg (not_not.mpr hkind)).trans (if_pos (by rw [hnone]; rfl))))

theorem cancel_marked (hcontext : ContextLevel h s) {seq : BitVec 32} (hkind : (ctxOf s h.ctx.toNat).kind = some .serve)
    (hsome : (ctxOf s h.ctx.toNat).requests.any (cancellable s seq) = true) (hstarted : s.job.started = true) :
    exec (.cancel h seq) s = .next (done h [] (setCtx h.ctx.toNat { ctxOf s h.ctx.toNat with
      requests := (ctxOf s h.ctx.toNat).requests.map fun r =>
        if cancellable s seq r = true then { r with cancelled := true } else r } s)) :=
  congrArg Host.Outcome.next ((command_context_now hcontext rfl rfl).trans
    ((if_neg (not_not.mpr hkind)).trans ((if_neg (by rw [hsome]; exact Bool.false_ne_true)).trans
      (if_neg (by rw [hstarted]; exact Bool.false_ne_true)))))

/-! ## Epochs and limits -/

theorem finish_only (p : CmdBody → Bool) (status detail : Nat) (body : List Byte) :
    Only [.sent, .side, .mem, .host] s (finish p status detail body s) := (finish_grows _ _ _ _ s).onlyIn _ (by decide)

theorem epochSwitch_checked (hjob : JobLevel h s) {epoch : BitVec 16} (hsingle : s.stream.dual = false) (hepoch : epoch.toNat ≠ 0) :
    exec (.epochSwitch h epoch) s = .next (owe h (.epochSwitch epoch.toNat) (pendEpoch epoch.toNat
      (emit (.distribute h (.epochSwitch epoch.toNat)) (accepted h s)))) := by
  obtain ⟨hmodule, hlead, hstarted⟩ := hjob
  have hhost : isDistributed h = false := hmodule.2.2
  have hstream : (accepted h s).stream = s.stream := reply_only _ _ _ _ _ _ .stream (by decide)
  refine congrArg Host.Outcome.next ((command_lead_deferred hmodule hlead rfl rfl).trans
    ((if_neg (ne_true_of_eq_false hhost)).trans ((if_neg (by rw [accepted_job, hstarted]; exact Bool.false_ne_true)).trans
      ((if_neg (by rw [hstream, hsingle]; exact Bool.false_ne_true)).trans
        ((checked_ok (by rw [decide_eq_true hepoch]; rfl)).trans ?_)))))
  rw [distribute_host hhost]

theorem epochWithdraw_checked (hjob : JobLevel h s) (hopen : s.stream.epochA ≠ 0) :
    exec (.epochWithdraw h) s = .next (owe h .epochWithdraw (let st := emit (.distribute h .epochWithdraw) (accepted h s)
      { st with stream := { st.stream with withdraw := true } })) := by
  obtain ⟨hmodule, hlead, hstarted⟩ := hjob
  have hhost : isDistributed h = false := hmodule.2.2
  have hstream : (accepted h s).stream = s.stream := reply_only _ _ _ _ _ _ .stream (by decide)
  refine congrArg Host.Outcome.next ((command_lead_deferred hmodule hlead rfl rfl).trans
    ((if_neg (ne_true_of_eq_false hhost)).trans ((if_neg (by rw [accepted_job, hstarted]; exact Bool.false_ne_true)).trans
      ((if_neg (by rw [hstream]; exact hopen)).trans ?_))))
  rw [distribute_host hhost]

theorem streamLimits_checked (hjob : JobLevel h s) {dual rep : BitVec 8} (hheld : s.job.held = true) (hdual : 1 ≤ dual.toNat)
    (hmost : dual.toNat ≤ 64) (hrep : 1 ≤ rep.toNat) :
    exec (.streamLimits h dual rep) s = .next (done h [] (let st := emit (.distribute h (.streamLimits dual.toNat rep.toNat)) s
      { st with stream := { st.stream with dualLimit := dual.toNat, repeatLimit := rep.toNat } })) := by
  obtain ⟨hmodule, hlead, -⟩ := hjob
  have hhost : isDistributed h = false := hmodule.2.2
  have hidle : heldOrIdle s = true := by rw [heldOrIdle, hheld, Bool.or_true]
  have hbyte : rep.toNat ≤ 255 := by have := rep.isLt; omega
  have hall : [(0, within 1 64 dual.toNat), (1, within 1 255 rep.toNat)].all (·.2) = true := by
    simp [within, hdual, hmost, hrep, hbyte]
  have hclampDual : clamp 1 64 dual.toNat = dual.toNat := by
    rw [clamp, if_neg (by omega), if_neg (by omega)]
  have hclampRep : clamp 1 255 rep.toNat = rep.toNat := by
    rw [clamp, if_neg (by omega), if_neg (by omega)]
  refine congrArg Host.Outcome.next ((command_lead_now hmodule hlead rfl rfl).trans
    ((if_neg (ne_true_of_eq_false hhost)).trans ((if_neg (by rw [hidle]; exact Bool.false_ne_true)).trans
      ((checked_ok hall).trans ?_))))
  dsimp only
  rw [hclampDual, hclampRep, distribute_host hhost]

end

/-- Settles O39: one clause each for what the commands of contexts, requests and epochs do and refuse. -/
theorem contextCommandsComplete : Obligations.ContextCommandsComplete := by
  unfold Obligations.ContextCommandsComplete
  refine ⟨fun h p s hm hconfigured hall hroom => ?_, fun h p s hm hnone => contextOpen_unconfigured hm hnone, fun h s hc => ?_,
    fun h tensor f value s hjob hconfigured hall => ?_, fun h tensor value s hm hlead hidle hconfigured hknown => ?_,
    fun h step bytes s hc hkind hstep hsome hmost => ?_, fun h step bytes s hc hkind hsome hmost => ?_,
    fun h p s hc hkind hpage hall hclosed => ?_, fun h p s hc hkind hpage hall hopen hfull => ?_,
    fun h p s hc hkind hpage hall hopen hcount htokens hpages => ?_, fun h seq s hc hkind hsome hstarted => ?_,
    fun h seq s hc hkind hnone => cancel_none hc hkind hnone, fun h epoch s hjob hsingle hepoch => ?_,
    fun h s hjob hopen => ?_, fun h dual rep s hjob hheld hdual hmost hrep => ?_, fun h s hm => ?_⟩
  · refine ⟨_, (contextOpen_checked hm hconfigured hall).trans (congrArg _ (if_neg ?_)), ctxOf_setCtx_same _ _ _,
      fun n hn => ctxOf_setCtx_ne _ _ hn, only_of_patch rfl⟩
    rintro ⟨hserve, hsize, hfree⟩
    exact hroom.elim (fun hother => hother hserve) (fun hrest => hrest.elim hsize fun hsome => hsome hfree)
  · refine ⟨_, contextClose_open hc, ctxOf_closeContext_same _ _, fun n hn => ?_,
      ((reply_only _ _ _ _ _ _).trans (closeContext_only _ _)).mono (by decide)⟩
    exact (ctxOf_closeContext_ne _ hn).trans (ctxOf_reply _ _ _ _ _)
  · obtain ⟨hmodule, hlead, hstarted⟩ := hjob
    have heq := setRule_checked hmodule hlead hconfigured hall
    rw [setRuleNow_later (s := emit _ s) hstarted] at heq
    exact ⟨_, heq, rfl, rfl, rfl, only_of_patch rfl⟩
  · have hall : (ruleChecks s tensor.toNat .gscale value.toNat).all (·.2) = true := by
      rw [ruleChecks, hknown]
      rfl
    have heq := setRule_checked hm hlead hconfigured hall
    rw [setRuleNow_gscale (s := emit _ s) hidle] at heq
    exact ⟨_, heq, rfl, only_of_patch rfl⟩
  · have hall : (batchChecks s (decide (CtxKind.train = .train)) (ctxOf s h.ctx.toNat).inputMib step.toNat bytes.toNat).all (·.2) =
        true := by
      simp [batchChecks, hstep, within, decide_eq_true hmost, Nat.succ_le_of_lt hsome, -Nat.reducePow]
    exact ⟨_, (batchReady_checked hc hkind (by decide) hall).trans (congrArg _ (if_pos rfl)), ctxOf_setCtx_same _ _ _,
      only_of_patch rfl⟩
  · have hall : (batchChecks s (decide (CtxKind.eval = .train)) (ctxOf s h.ctx.toNat).inputMib step.toNat bytes.toNat).all (·.2) =
        true := by
      simp [batchChecks, within, decide_eq_true hmost, Nat.succ_le_of_lt hsome, -Nat.reducePow]
    refine ⟨_, (batchReady_checked hc hkind (by decide) hall).trans (congrArg _ (if_neg (by decide))), ?_, mem_owe _ _ _⟩
    refine (congrArg ContextS.ready ((ctxOf_congr (t := owe _ _ _) rfl _).trans (ctxOf_reply _ _ _ _ _))).trans ?_
    rw [ctxOf_setCtx_same]
  · refine ⟨_, (request_checked hc hkind hpage hall).trans (congrArg _ (admitRequest_waiting hclosed)), ?_, ?_, only_of_patch rfl⟩
    · rw [ctxOf_setCtx_same, List.length_append]
      rfl
    · rw [ctxOf_setCtx_same, List.getLast?_concat]
      rfl
  · have hcode : capacityCode s (ctxOf s h.ctx.toNat) (requestMade h p s) = 1 := if_pos hfull
    refine (request_checked hc hkind hpage hall).trans (congrArg _ ((admitRequest_refused hopen (by rw [hcode]; decide)).trans ?_))
    rw [hcode]
    exact congrArg (reply h 0x0401 1 [] true) (reserveEntries_offRing hc.2.2.1)
  · have hcode : capacityCode s (ctxOf s h.ctx.toNat) (requestMade h p s) = 0 :=
      capacityCode_offRing (r := requestMade h p s) hc.2.2.1 hcount htokens hpages
    have hfree : reserveEntries (requestMade h p s).hdr (resultEntries s (requestMade h p s).hdr (requestMade h p s).newLen) 0 s = s :=
      reserveEntries_offRing hc.2.2.1
    have heq := admitRequest_admitted hopen hcode
    rw [hfree] at heq
    refine ⟨_, (request_checked hc hkind hpage hall).trans (congrArg _ heq), ?_, ?_, ?_, only_of_patch rfl⟩
    · rw [ctxOf_setCtx_same, List.length_append]
      rfl
    · rw [ctxOf_setCtx_same, List.getLast?_concat]
      rfl
    · rw [ctxOf_setCtx_same, List.getLast?_concat]
      rfl
  · refine ⟨_, cancel_marked hc hkind hsome hstarted, ?_, only_of_patch rfl⟩
    rw [ctxOf_setCtx_same]
  · have heq := epochSwitch_checked hjob hsingle hepoch
    obtain ⟨u, hu⟩ : ∃ u, u = emit (.distribute h (.epochSwitch epoch.toNat)) (accepted h s) := ⟨_, rfl⟩
    have hstream : (finish isEpochSwitch 0x0702 0 [] u).stream = s.stream := by
      rw [finish_only isEpochSwitch 0x0702 0 [] .stream (by decide), hu]
      exact reply_only _ _ _ _ _ _ .stream (by decide)
    have hpassed : Msg.distribute h (.epochSwitch epoch.toNat) ∈ u.sent := by
      rw [hu]
      exact List.mem_append_right _ (List.mem_singleton_self _)
    have hsent : Msg.distribute h (.epochSwitch epoch.toNat) ∈ (finish isEpochSwitch 0x0702 0 [] u).sent :=
      mem_sent_of_grows (finish_grows _ _ _ _ u) hpassed
    rw [← hu] at heq
    refine ⟨_, heq, ?_, hsent, mem_owe _ _ _⟩
    rw [← hstream]
    rfl
  · have hstream : (accepted h s).stream = s.stream := reply_only _ _ _ _ _ _ .stream (by decide)
    refine ⟨_, epochWithdraw_checked hjob hopen, ?_, List.mem_append_right _ (List.mem_singleton_self _), mem_owe _ _ _⟩
    rw [← hstream]
    rfl
  · exact ⟨_, streamLimits_checked hjob hheld hdual hmost hrep, rfl, only_of_patch rfl⟩
  · exact congrArg Host.Outcome.next (command_immediate hm rfl rfl)

end Sys2Proof.Machine

/-! SUPPORT. Commands of layouts, owners and the self-test (Table 13.11, R102). -/

namespace Sys2Proof.Machine

/-! ## Layouts and owners -/

section
variable {h : CmdHdr} {s : State}

theorem layoutLoad_begun (hmodule : ModuleLevel h s) {offset length : BitVec 64} (hstill : s.place.replacing = false)
    (hfree : s.place.loading = none) (hheld : heldOrIdle s = true) : exec (.layoutLoad h offset length) s =
      .next (owe h (.layoutLoad offset.toNat length.toNat)
        { accepted h s with place := { s.place with loading := some offset.toNat } }) := by
  have hplace : (accepted h s).place = s.place := reply_only _ _ _ _ _ _ .place (by decide)
  have hidle : heldOrIdle (accepted h s) = true := by rw [heldOrIdle, accepted_job]; exact hheld
  refine congrArg Host.Outcome.next ((command_deferred hmodule rfl rfl).trans
    ((if_neg (by rw [hplace, hstill]; exact Bool.false_ne_true)).trans
      ((if_neg (by rw [hplace, hfree]; exact Bool.false_ne_true)).trans
        ((if_neg (by rw [hidle]; exact Bool.false_ne_true)).trans ?_))))
  rw [hplace]

theorem layoutLoad_busy (hmodule : ModuleLevel h s) {offset length : BitVec 64} (hstill : s.place.replacing = false)
    (hloading : s.place.loading.isSome = true) :
    exec (.layoutLoad h offset length) s = .next (refuse h 0x0301 0x0401 (accepted h s)) := by
  have hplace : (accepted h s).place = s.place := reply_only _ _ _ _ _ _ .place (by decide)
  exact congrArg Host.Outcome.next ((command_deferred hmodule rfl rfl).trans
    ((if_neg (by rw [hplace, hstill]; exact Bool.false_ne_true)).trans (if_pos (by rw [hplace, hloading]))))

theorem layoutQuery_run (hmodule : ModuleLevel h s) : exec (.layoutQuery h) s = .next (layoutQueryOp h s) :=
  congrArg Host.Outcome.next (command_immediate hmodule rfl rfl)

theorem ownerLoaded_started (hmodule : ModuleLevel h s) (hstarted : s.job.started = true) :
    exec (.ownerLoaded h) s = .next (refuse h 0x0302 0 s) :=
  congrArg Host.Outcome.next ((command_immediate hmodule rfl rfl).trans (if_pos hstarted))

/-- The owned blocks as the host loaded them. -/
def ownersTaken (s : State) : State :=
  let s1 := each (ownedBlocks s) loadExponent s
  { s1 with mem := { s1.mem with ownerCur := false }, job := { s1.job with ownersLoaded := true } }

theorem ownerLoaded_idle (hmodule : ModuleLevel h s) (hidle : s.job.started = false) (hlayout : s.place.inForce.isSome = true) :
    exec (.ownerLoaded h) s = .next (done h [] (ownersTaken s)) :=
  congrArg Host.Outcome.next ((command_immediate hmodule rfl rfl).trans
    ((if_neg (ne_true_of_eq_false hidle)).trans (if_neg (by rw [Option.isNone_iff_eq_none]; rintro hnone; rw [hnone] at hlayout; exact Bool.false_ne_true hlayout))))

theorem loadExponent_only (b : Nat) : Only [.freeCtr, .red] s (loadExponent b s) := only_of_patch rfl

theorem loadExponent_idle (b : Nat) : (blockS (loadExponent b s) b).state = .idle := by
  unfold loadExponent
  dsimp only
  rw [blockS_setBlock_same]

theorem loadExponent_other {b c : Nat} (hc : c ≠ b) : blockS (loadExponent b s) c = blockS s c := by
  unfold loadExponent
  dsimp only
  rw [blockS_setBlock_ne _ _ hc]
  rfl

/-- A block of the list, or one that is idle, is idle once the list's are loaded. -/
theorem loadExponents_idle (l : List Nat) (c : Nat) (hc : c ∈ l ∨ (blockS s c).state = .idle) :
    (blockS (each l loadExponent s) c).state = .idle := by
  induction l generalizing s with
  | nil => exact hc.resolve_left List.not_mem_nil
  | cons b l ih =>
    refine ih ?_
    by_cases hb : c = b
    · subst hb
      exact .inr (loadExponent_idle c)
    · rw [loadExponent_other hb]
      exact hc.imp_left fun hmem => (List.mem_cons.mp hmem).resolve_left hb

theorem ownersTaken_spec : (ownersTaken s).mem = { s.mem with ownerCur := false } ∧
    (ownersTaken s).job = { s.job with ownersLoaded := true } ∧ (∀ b, b ∈ ownedBlocks s → (blockS (ownersTaken s) b).state = .idle) ∧
    Only [.freeCtr, .job, .mem, .red] s (ownersTaken s) := by
  obtain ⟨u, hu⟩ : ∃ u, u = each (ownedBlocks s) loadExponent s := ⟨_, rfl⟩
  have honly : Only [.freeCtr, .red] s u := by
    rw [hu]
    exact each_only (fun b st => loadExponent_only b) _ _
  have hmem : u.mem = s.mem := honly .mem (by decide)
  have hjob : u.job = s.job := honly .job (by decide)
  have htaken : ownersTaken s = { u with mem := { u.mem with ownerCur := false }, job := { u.job with ownersLoaded := true } } := by
    rw [hu]
    rfl
  have hlast : Only [.job, .mem] u { u with mem := { u.mem with ownerCur := false }, job := { u.job with ownersLoaded := true } } :=
    only_of_patch rfl
  rw [htaken]
  refine ⟨by rw [← hmem], by rw [← hjob], fun b hb => ?_, (honly.trans hlast).mono (by decide)⟩
  have hidle : (blockS u b).state = .idle := by
    rw [hu]
    exact loadExponents_idle _ _ (.inl hb)
  exact hidle

theorem ownerExpose_held (hmodule : ModuleLevel h s) (hheld : s.job.held = true) : exec (.ownerExpose h) s = .next (grantRegion h
    { kind := 3, ctx := 0xFF, read := true, write := false, offset := 0, length := regionBytes s 3 0xFF } true s) :=
  congrArg Host.Outcome.next ((command_immediate hmodule rfl rfl).trans
    (if_neg (by rw [hheld]; exact Bool.false_ne_true)))

theorem selfTest_owed (hmodule : ModuleLevel h s) {quick : Bool} (hnone : anyWork s = false) :
    exec (.selfTest h quick) s = .next (owe h (.selfTest quick) (accepted h s)) := by
  have hfabric : (accepted h s).fabric = s.fabric := reply_only _ _ _ _ _ _ .fabric (by decide)
  have hcores : (accepted h s).cores = s.cores := reply_only _ _ _ _ _ _ .cores (by decide)
  have hwork : anyWork (accepted h s) = false := by rw [anyWork, hfabric, hcores]; exact hnone
  exact congrArg Host.Outcome.next ((command_deferred hmodule rfl rfl).trans (if_neg (ne_true_of_eq_false hwork)))

end

/-! ## What leaves the defect map -/

/-- Flash, the failed parts that the map names, and the replies owed are as they were. -/
structure DefectsKept (s t : State) : Prop where
  flash : t.flash = s.flash
  cores : t.fabric.failedCores = s.fabric.failedCores
  routers : t.fabric.failedRouters = s.fabric.failedRouters
  wires : t.fabric.failedWires = s.fabric.failedWires
  deferred : t.host.deferred = s.host.deferred

section
variable {s : State}

theorem DefectsKept.refl (s : State) : DefectsKept s s := ⟨rfl, rfl, rfl, rfl, rfl⟩

theorem DefectsKept.trans {t u : State} (h : DefectsKept s t) (h' : DefectsKept t u) : DefectsKept s u :=
  ⟨h'.flash.trans h.flash, h'.cores.trans h.cores, h'.routers.trans h.routers, h'.wires.trans h.wires, h'.deferred.trans h.deferred⟩

theorem DefectsKept.of_only {t : State} {ps : List Part} (h : Only ps s t) (hflash : .flash ∉ ps) (hfabric : .fabric ∉ ps)
    (hhost : .host ∉ ps) : DefectsKept s t := by
  have hf : t.fabric = s.fabric := h .fabric hfabric
  have hh : t.host = s.host := h .host hhost
  exact ⟨h .flash hflash, by rw [hf], by rw [hf], by rw [hf], by rw [hh]⟩

theorem DefectsKept.each {α : Type} {f : α → State → State} (hf : ∀ a s, DefectsKept s (f a s)) (l : List α) (s : State) :
    DefectsKept s (each l f s) := by
  induction l generalizing s with
  | nil => exact .refl s
  | cons a l ih => exact (hf a s).trans (ih (f a s))

theorem eventCtx_defects (ctx code detail : Nat) (body : List Byte) : DefectsKept s (eventCtx ctx code detail body s) := by
  have hgrows := eventCtx_grows ctx code detail body s
  have hfabric : (eventCtx ctx code detail body s).fabric = s.fabric := hgrows.same .fabric rfl
  exact ⟨hgrows.same .flash rfl, by rw [hfabric], by rw [hfabric], by rw [hfabric],
    eventCtx_host (·.deferred) (fun _ _ _ => rfl) _ _ _ _ _⟩

theorem faultEvent_defects (r : FaultRec) : DefectsKept s (faultEvent r s) := by
  have hrecord : DefectsKept s (recordFault r s) :=
    .of_only ((recordFault_grows r s).onlyIn [.fault, .grp] (by decide)) (by decide) (by decide) (by decide)
  exact hrecord.trans (eventCtx_defects _ _ _ _)

theorem putSize_defects (z : SizeTable) : DefectsKept s (putSize z s) := by
  unfold putSize
  split <;> exact ⟨rfl, rfl, rfl, rfl, rfl⟩

theorem refreshSize_defects : DefectsKept s (refreshSize s) := putSize_defects _

theorem dropPorts_defects (f : Nat) : DefectsKept s (dropPorts f s) := by
  unfold dropPorts
  exact ⟨rfl, rfl, rfl, rfl, rfl⟩

theorem fieldOut_defects : DefectsKept s (fieldOut s) :=
  .of_only ((fieldOut_grows s).onlyIn [.sent, .grp, .place] (by decide)) (by decide) (by decide) (by decide)

theorem darkField_defects (f cause : Nat) : DefectsKept s (darkField f cause s) := by
  have hfield (v : FieldS) (st : State) : DefectsKept st (setField f v st) := ⟨rfl, rfl, rfl, rfl, rfl⟩
  have hcores (st : State) : DefectsKept st (dropCores f st) := ⟨rfl, rfl, rfl, rfl, rfl⟩
  have hqueues (st : State) : DefectsKept st (dropMemoryPorts f st) := ⟨rfl, rfl, rfl, rfl, rfl⟩
  have hlanes (st : State) : DefectsKept st (dropLanes f st) :=
    .of_only ((dropLanes_grows f st).onlyIn [.beam] (by decide)) (by decide) (by decide) (by decide)
  have hstacks (st : State) : DefectsKept st (loseUnreachable st) :=
    .of_only ((loseUnreachable_grows st).onlyIn [.mem] (by decide)) (by decide) (by decide) (by decide)
  have hpending (st : State) : DefectsKept st { st with fabric := { st.fabric with rebuildPending := true } } := ⟨rfl, rfl, rfl, rfl, rfl⟩
  unfold darkField
  split
  · exact .refl s
  · exact ((((((((hfield _ _).trans (hcores _)).trans (dropPorts_defects f)).trans (hqueues _)).trans (hlanes _)).trans
      (hstacks _)).trans (hpending _)).trans refreshSize_defects).trans ((eventCtx_defects _ _ _ _).trans fieldOut_defects)

theorem holdFor_defects (cause : Nat) : DefectsKept s (holdFor cause s) := by
  have hheld (holds : List Nat) : DefectsKept s { s with job := { s.job with holds := holds, held := true } } := ⟨rfl, rfl, rfl, rfl, rfl⟩
  exact (hheld _).trans (eventCtx_defects _ _ _ _)

theorem rebindRetired_defects : DefectsKept s (rebindRetired s) := by
  have hretire (b : Nat) (st : State) : DefectsKept st (retireBlock b st) := ⟨rfl, rfl, rfl, rfl, rfl⟩
  have hstart : DefectsKept s { s with fabric := { s.fabric with retireNext := [] } } := ⟨rfl, rfl, rfl, rfl, rfl⟩
  have hretired (l : List Nat) : DefectsKept s (refreshSize (each l retireBlock { s with fabric := { s.fabric with retireNext := [] } })) :=
    (hstart.trans (.each hretire _ _)).trans refreshSize_defects
  have hneed (st : State) : DefectsKept st { st with place := { st.place with needLayout := true } } := ⟨rfl, rfl, rfl, rfl, rfl⟩
  have hmap (m : Map Nat) (st : State) : DefectsKept st (dropTranslations { st with fabric := { st.fabric with unitMap := m } }) :=
    ⟨rfl, rfl, rfl, rfl, rfl⟩
  have hpieces (ps : List LeafPiece) (st : State) : DefectsKept st (loadPieces ps st) :=
    .of_only (loadPieces_only ps st) (by decide) (by decide) (by decide)
  unfold rebindRetired
  dsimp only
  split
  · exact .refl s
  · split
    · exact ((hretired _).trans (hneed _)).trans (holdFor_defects _)
    · split
      · exact hretired _
      · exact (((hretired _).trans (hmap _ _)).trans (putSize_defects _)).trans (hpieces _ _)

/-! ## The self-test's end (R102) -/

theorem journalPush_defects (e : JournalEntry) : (journalPush e s).flash.defectMap = s.flash.defectMap ∧
    (journalPush e s).flash.defectQuick = s.flash.defectQuick ∧ Only [.flash] s (journalPush e s) := by
  unfold journalPush
  dsimp only
  split <;> exact ⟨rfl, rfl, only_of_patch rfl⟩

theorem journalEntry_defects (step result code : Nat) (slotB : Bool) (data : Nat) :
    (journalEntry step result code slotB data s).flash.defectMap = s.flash.defectMap ∧
    (journalEntry step result code slotB data s).flash.defectQuick = s.flash.defectQuick ∧
    Only [.flash] s (journalEntry step result code slotB data s) := journalPush_defects _

theorem storeDefects_full (r : TestResult) : (storeDefects .full r s).flash.defectMap = moduleDefects (coreVerdicts s r) .full r s ∧
    (storeDefects .full r s).flash.defectQuick = (moduleDefects (coreVerdicts s r) .full r s).quick ∧
    (storeDefects .full r s).fabric.failedCores = (moduleDefects (coreVerdicts s r) .full r s).cores ∧
    (storeDefects .full r s).fabric.failedRouters = (moduleDefects (coreVerdicts s r) .full r s).routers ∧
    (storeDefects .full r s).fabric.failedWires = (moduleDefects (coreVerdicts s r) .full r s).wires ∧
    (storeDefects .full r s).host = s.host := by
  obtain ⟨m, hm⟩ : ∃ m, m = moduleDefects (coreVerdicts s r) .full r s := ⟨_, rfl⟩
  obtain ⟨u, hu⟩ : ∃ u, u = ({ s with
      flash := { s.flash with defectMap := m, defectStart := s.boot.start, defectQuick := m.quick }
      fabric := { s.fabric with failedCores := m.cores, failedRouters := m.routers, failedWires := m.wires
                                outBlocks := blocksOut m } } : State) := ⟨_, rfl⟩
  obtain ⟨w, hw⟩ : ∃ w, w = journalEntry 0x23 0 0 s.boot.slotB m.digest (extendMeas 5 (bytesLE 48 m.digest) u) := ⟨_, rfl⟩
  have heq : storeDefects .full r s = putSize { sizeNow u with defectAge := m.time, defectQuick := m.quick } w := by
    rw [hw, hu, hm]
    rfl
  obtain ⟨hmap, hquick, honly⟩ := journalEntry_defects (s := extendMeas 5 (bytesLE 48 m.digest) u) 0x23 0 0 s.boot.slotB m.digest
  rw [← hw] at hmap hquick honly
  obtain ⟨z, hz⟩ : ∃ z, z = { sizeNow u with defectAge := m.time, defectQuick := m.quick } := ⟨_, rfl⟩
  have hkept := putSize_defects (s := w) z
  have hfabric : w.fabric = u.fabric := honly .fabric (by decide)
  have hhost : w.host = u.host := honly .host (by decide)
  have hsized : Only [.fabric] w
      (putSize z w) := (putSize_grows _ _).onlyIn _ (by decide)
  rw [heq, ← hm, ← hz]
  refine ⟨?_, ?_, ?_, ?_, ?_, ?_⟩
  · rw [hkept.flash, hmap, hu]
    rfl
  · rw [hkept.flash, hquick, hu]
    rfl
  · rw [hkept.cores, hfabric, hu]
  · rw [hkept.routers, hfabric, hu]
  · rw [hkept.wires, hfabric, hu]
  · exact (hsized .host (by decide)).trans (hhost.trans (by rw [hu]))

theorem moduleDefects_quick (cores : List Nat) (r : TestResult) : (moduleDefects cores .full r s).quick = false := by
  have hfold (l : List Nat) (m : DefectMap) (hm : m.quick = false) : (l.foldl (fun a f =>
      let d := fieldDefects cores r f
      { a with cores := a.cores ++ d.cores, routers := a.routers ++ d.routers, wires := a.wires ++ d.wires }) m).quick = false := by
    induction l generalizing m with
    | nil => exact hm
    | cons f l ih => exact ih _ hm
  exact hfold _ _ rfl

theorem coreVerdicts_congr {t : State} (h : t.fabric = s.fabric) (r : TestResult) : coreVerdicts t r = coreVerdicts s r := by
  have htesters : testersOf t = testersOf s := funext fun k => by simp only [testersOf, isDark_congr h]
  unfold coreVerdicts firstPass
  rw [htesters]

/-- The blocks found out of service that were not so before are to leave at the next boundary. -/
def blocksToLeave (before : List Nat) (s : State) : State :=
  let new := s.fabric.outBlocks.filter fun b => !before.contains b
  { s with
    grp := { s.grp with drainHold := s.grp.drainHold && false }
    fabric := { s.fabric with
      outBlocks := s.fabric.outBlocks.filter fun b => !new.contains b
      retireNext := s.fabric.retireNext ++ (new.filter fun b => !s.fabric.retireNext.contains b) } }

def rebindIfHeld (s : State) : State := if heldOrIdle s then rebindRetired s else s

/-- A full test's findings as the module takes them: the map stored, the blocks found failed to leave, and what is found failed in
service reported and dark. -/
def testTaken (result : TestResult) (s : State) : State :=
  each (newlyFailed s result) (fun e st => darkField e.2 6 (faultEvent e.1 st))
    (refreshSize (rebindIfHeld (blocksToLeave s.fabric.outBlocks (storeDefects .full result s))))

theorem rebindIfHeld_defects : DefectsKept s (rebindIfHeld s) := by
  unfold rebindIfHeld
  split
  · exact rebindRetired_defects
  · exact .refl _

theorem testTaken_defects (result : TestResult) : DefectsKept (storeDefects .full result s) (testTaken result s) := by
  have hdue (before : List Nat) (st : State) : DefectsKept st (blocksToLeave before st) := ⟨rfl, rfl, rfl, rfl, rfl⟩
  have hdark (e : FaultRec × Nat) (st : State) : DefectsKept st (darkField e.2 6 (faultEvent e.1 st)) :=
    (faultEvent_defects e.1).trans (darkField_defects e.2 6)
  exact (((hdue _ _).trans rebindIfHeld_defects).trans refreshSize_defects).trans (.each hdark _ _)

/-- The state that the reply of the test leaves from. -/
def testAnswered (result : TestResult) (d : DeferredS) (s : State) : State :=
  { testTaken result s with host := { (testTaken result s).host with deferred := (testTaken result s).host.deferred.erase d } }

theorem selfTestDone_full {τ : Nat} {result : TestResult} {d : DeferredS} (hready : Ready s)
    (hdue : (s.host.deferred.find? fun d => (isSelfTest d).isSome) = some d) (hbody : d.body = .selfTest false)
    (hdrained : s.grp.drainHold = false) (hnone : anyWork s = false) : exec (.selfTestDone τ result) s = .next
      (reply d.hdr 0 0 (bytesLE 8 (testTaken result (atTime τ s)).fabric.size.defectAge) true
        (testAnswered result d (atTime τ s))) := by
  obtain ⟨hdr, body⟩ := d
  cases hbody
  refine (next_of_ready hready rfl).trans (congrArg _ ?_)
  dsimp only
  rw [show ((atTime τ s).host.deferred.find? fun d => (isSelfTest d).isSome) = some _ from hdue,
    show anyWork (atTime τ s) = false from hnone, show (atTime τ s).grp.drainHold = false from hdrained]
  rfl

end

/-- Settles O40: one clause each for what the commands of layouts, owners and the self-test do and refuse. -/
theorem layoutCommandsComplete : Obligations.LayoutCommandsComplete := by
  unfold Obligations.LayoutCommandsComplete
  refine ⟨fun h offset length s hm hstill hfree hheld => ?_, fun h offset length s hm hstill hloading => layoutLoad_busy hm hstill hloading,
    fun h s i hm hlayout => ?_, fun h s hm hnone => ?_, fun h s hm hidle hlayout => ?_,
    fun h s hm hstarted => ownerLoaded_started hm hstarted, fun h s hm hheld => ?_, fun h quick s hm hnone => ?_,
    fun τ result s d hready hdue hbody hdrained hnone => ?_⟩
  · have hplace (st : State) (p : PlaceS) : Only [.place] st { st with place := p } := only_of_patch rfl
    exact ⟨_, layoutLoad_begun hm hstill hfree hheld, rfl, mem_owe _ _ _,
      (((reply_only _ _ _ _ _ _).trans (hplace _ _)).trans (owe_only _ _ _)).mono (by decide)⟩
  · refine (layoutQuery_run hm).trans (congrArg _ ?_)
    unfold layoutQueryOp
    rw [hlayout]
  · refine (layoutQuery_run hm).trans (congrArg _ ?_)
    unfold layoutQueryOp
    rw [hnone]
  · exact ⟨_, ownerLoaded_idle hm hidle hlayout, ownersTaken_spec⟩
  · refine ⟨_, ownerExpose_held hm hheld, ?_, ?_, only_of_patch rfl⟩
    · exact List.length_append
    · exact congrArg (Option.map _) List.getLast?_concat
  · exact ⟨_, selfTest_owed hm hnone, mem_owe _ _ _, (reply_only _ _ _ _ _ _ .flash (by decide)),
      ((reply_only _ _ _ _ _ _).trans (owe_only _ _ _)).mono (by decide)⟩
  · obtain ⟨hmap, hquick, hcores, hrouters, hwires, hhost⟩ := storeDefects_full (s := atTime τ s) result
    have hkept := testTaken_defects (s := atTime τ s) result
    rw [coreVerdicts_congr (s := s) (t := atTime τ s) rfl] at hmap hquick hcores hrouters hwires
    have hflash : (testTaken result (atTime τ s)).flash.defectMap = moduleDefects (coreVerdicts s result) .full result (atTime τ s) := by
      rw [hkept.flash, hmap]
    refine ⟨testAnswered result d (atTime τ s), selfTestDone_full hready hdue hbody hdrained hnone, hflash, ?_, ?_, ?_, ?_, ?_, ?_⟩
    · exact (congrArg DefectMap.quick hflash).trans (moduleDefects_quick _ _)
    · exact (congrArg FlashS.defectQuick hkept.flash).trans (hquick.trans (moduleDefects_quick _ _))
    · exact hkept.cores.trans (hcores.trans (congrArg DefectMap.cores hflash).symm)
    · exact hkept.routers.trans (hrouters.trans (congrArg DefectMap.routers hflash).symm)
    · exact hkept.wires.trans (hwires.trans (congrArg DefectMap.wires hflash).symm)
    · exact congrArg (fun l : List DeferredS => l.erase d) (hkept.deferred.trans (congrArg HostS.deferred hhost))

end Sys2Proof.Machine

/-! SUPPORT. Commands of power, faults and fields (Tables 13.12 and 13.13). -/

namespace Sys2Proof.Machine

/-! ## Caps -/

section
variable {h : CmdHdr} {s : State}

theorem within_iff {lo hi v : Nat} : within lo hi v = true ↔ lo ≤ v ∧ v ≤ hi := by
  rw [within, Bool.and_eq_true, decide_eq_true_eq, decide_eq_true_eq]

theorem eventCtx_only (ctx code detail : Nat) (body : List Byte) : Only [.sent, .side, .mem, .host] s (eventCtx ctx code detail body s) :=
  (eventCtx_grows _ _ _ _ s).onlyIn _ (by decide)

theorem powerEvent_eventNumber (cause what : Nat) : (powerEvent cause what s).host.eventNumber = s.host.eventNumber + 1 :=
  eventCtx_eventNumber _ _ _ _ _

theorem capSet_ranged (hmodule : ModuleLevel h s) {watts : BitVec 16} {hard : Bool} (hlow : 2400 ≤ watts.toNat)
    (hhigh : watts.toNat ≤ 24000) : exec (.capSet h watts hard) s =
      .next (done h [] (if hard then setHardCap watts.toNat s else setSoftCap watts.toNat s)) :=
  congrArg Host.Outcome.next ((command_immediate hmodule rfl rfl).trans
    (checked_ok (by rw [List.all_cons, within_iff.mpr ⟨hlow, hhigh⟩]; rfl)))

theorem capSet_outside (hmodule : ModuleLevel h s) {watts : BitVec 16} {hard : Bool}
    (hout : watts.toNat < 2400 ∨ 24000 < watts.toNat) :
    exec (.capSet h watts hard) s = .next (refuse h 0x0201 (Config.paramOffset 0x0501 0) s) := by
  have hbad : within 2400 24000 watts.toNat = false := by
    rw [Bool.eq_false_iff]
    intro hin
    obtain ⟨hlow, hhigh⟩ := within_iff.mp hin
    omega
  exact congrArg Host.Outcome.next ((command_immediate hmodule rfl rfl).trans (checked_first (rest := []) (by rw [hbad])))

theorem reportLowCap_spec : (reportLowCap s).power.capSoft = s.power.capSoft ∧ (reportLowCap s).power.capHard = s.power.capHard ∧
    Only [.sent, .side, .power, .mem, .host] s (reportLowCap s) := by
  have hreport : Only [.power] s { s with power := { s.power with capLowReported := true } } := only_of_patch rfl
  have hevent := powerEvent_only 5 s.power.capSoft { s with power := { s.power with capLowReported := true } }
  have hpower : (powerEvent 5 s.power.capSoft { s with power := { s.power with capLowReported := true } }).power =
      { s.power with capLowReported := true } := hevent .power (by decide)
  unfold reportLowCap
  split
  · split
    · exact ⟨rfl, rfl, Only.refl _ _⟩
    · exact ⟨by rw [hpower], by rw [hpower], (hreport.trans hevent).mono (by decide)⟩
  · exact ⟨rfl, rfl, Only.refl _ _⟩

/-! ## Every lit field's power side -/

/-- What the caps and the ceiling stand at, beside the fields' own power side. -/
def powerRest (s : State) : PowerS := { s.power with fields := [] }

theorem updFieldPower_rest (f : Nat) (g : FieldPowerS → FieldPowerS) : powerRest (updFieldPower f g s) = powerRest s := rfl

theorem updFieldPower_only (f : Nat) (g : FieldPowerS → FieldPowerS) : Only [.power] s (updFieldPower f g s) := only_of_patch rfl

theorem updateFields_spec (g : FieldPowerS → FieldPowerS) (l : List Nat) :
    powerRest (each l (fun f => updFieldPower f g) s) = powerRest s ∧ Only [.power] s (each l (fun f => updFieldPower f g) s) := by
  refine ⟨?_, each_only (fun f st => updFieldPower_only f g) l s⟩
  induction l generalizing s with
  | nil => rfl
  | cons f l ih => exact ih.trans (updFieldPower_rest f g)

/-- A field of the list has a property of the new value, which a second change does not take away. -/
theorem updateFields_mem (g : FieldPowerS → FieldPowerS) {P : FieldPowerS → Prop} (hg : ∀ q, P (g q)) (l : List Nat) (f : Nat)
    (hf : f ∈ l ∨ P (fieldPower s f)) : P (fieldPower (each l (fun f => updFieldPower f g) s) f) := by
  induction l generalizing s with
  | nil => exact hf.resolve_left List.not_mem_nil
  | cons e l ih =>
    refine ih ?_
    unfold updFieldPower
    by_cases he : f = e
    · subst he
      exact .inr (by rw [fieldPower_setFieldPower_same]; exact hg _)
    · rw [fieldPower_setFieldPower_ne _ _ he]
      exact hf.imp_left fun hmem => (List.mem_cons.mp hmem).resolve_left he

theorem allLit_spec (g : FieldPowerS → FieldPowerS) : powerRest (allLit g s) = powerRest s ∧ Only [.power] s (allLit g s) :=
  updateFields_spec g _

/-- The hard cap in force, its ceiling with it. -/
def hardCapTaken (w : Nat) (s : State) : State :=
  { s with power := { s.power with
      capHard := w, ceilingMw := min s.power.ceilingMw (1000 * w), limitMw := min s.power.limitMw (1000 * w)
      hardForced := decide (w < s.power.inputW) } }

/-- A hard cap below the present input power is reported, the glow gone. -/
def hardCapForced (w : Nat) (s : State) : State :=
  if w < s.power.inputW then powerEvent 4 w (allLit (fun q => { q with glow := 0 }) (hardCapTaken w s)) else hardCapTaken w s

theorem setHardCap_low {w : Nat} (hlow : w < s.power.drawMin) : setHardCap w s =
    powerEvent 5 w (allLit (fun q => { q with sCap := 4, glow := 0 }) (hardCapForced w s)) := if_pos hlow

theorem setHardCap_above {w : Nat} (hdraw : s.power.drawMin ≤ w) (hinput : s.power.inputW ≤ w) : setHardCap w s =
    allLit (fun q => { q with sCap := 16 }) (hardCapTaken w s) :=
  (if_neg (Nat.not_lt.mpr hdraw)).trans (congrArg (allLit _) (if_neg (Nat.not_lt.mpr hinput)))

theorem hardCapForced_spec (w : Nat) : (hardCapForced w s).power.capHard = w ∧ (hardCapForced w s).fabric = s.fabric ∧
    s.host.eventNumber ≤ (hardCapForced w s).host.eventNumber := by
  obtain ⟨u, hu⟩ : ∃ u, u = hardCapTaken w s := ⟨_, rfl⟩
  have hcap : u.power.capHard = w := by rw [hu]; rfl
  have hfabric : u.fabric = s.fabric := by rw [hu]; rfl
  have hhost : u.host = s.host := by rw [hu]; rfl
  unfold hardCapForced
  rw [← hu]
  split
  · obtain ⟨hrest, honly⟩ := allLit_spec (s := u) (fun q => { q with glow := 0 })
    have hevent := powerEvent_only 4 w (allLit (fun q => { q with glow := 0 }) u)
    refine ⟨?_, ?_, ?_⟩
    · exact (congrArg PowerS.capHard (hevent .power (by decide))).trans ((congrArg (a₁ := powerRest _) PowerS.capHard hrest).trans hcap)
    · exact (hevent .fabric (by decide)).trans ((honly .fabric (by decide)).trans hfabric)
    · have hsame : (allLit (fun q => { q with glow := 0 }) u).host = s.host := (honly .host (by decide)).trans hhost
      rw [powerEvent_eventNumber, hsame]
      omega
  · exact ⟨hcap, hfabric, by rw [hhost]⟩

theorem litFields_congr {t : State} (hfabric : t.fabric = s.fabric) : litFields t = litFields s := by
  unfold litFields
  rw [show isLit t = isLit s from isLit_congr hfabric]

/-! ## Ramp, heartbeat, safe cap and glow floor -/

theorem rampSet_ranged (hmodule : ModuleLevel h s) {rate : BitVec 16} (hlow : 50 ≤ rate.toNat) (hhigh : rate.toNat ≤ 4800) :
    exec (.rampSet h rate) s = .next (done h [] (setRamp rate.toNat s)) :=
  congrArg Host.Outcome.next ((command_immediate hmodule rfl rfl).trans
    (checked_ok (by rw [List.all_cons, within_iff.mpr ⟨hlow, hhigh⟩]; rfl)))

theorem setRamp_spec (v : Nat) : (setRamp v s).power =
    (if s.job.started then { s.power with rampNext := some v } else { s.power with ramp := v }) ∧ Only [.power] s (setRamp v s) := by
  unfold setRamp atBoundary
  split <;> exact ⟨rfl, only_of_patch rfl⟩

theorem heartbeatOp_spec (id : Nat) : (heartbeatOp id s).power =
      { s.power with hbArmed := true, hbId := id, hbAt := s.now, hbLost := false } ∧
    (s.power.hbLost = false → Only [.power] s (heartbeatOp id s)) := by
  unfold heartbeatOp
  dsimp only
  split
  · next hlost =>
    refine ⟨powerEvent_only 7 id _ .power (by decide), fun hheld => absurd (hheld.symm.trans hlost) (by decide)⟩
  · exact ⟨rfl, fun _ => only_of_patch rfl⟩

/-! ## Fault records -/

theorem clearRecords_spec (l : List Nat) : Only [.fault] s (each l clearRecord s) ∧ (each l clearRecord s).fault.head = s.fault.head ∧
    ∀ i, mapGet {} (each l clearRecord s).fault.records i =
      { mapGet {} s.fault.records i with valid := (mapGet {} s.fault.records i).valid && !decide (i ∈ l) } := by
  have hone (n : Nat) (st : State) : Only [.fault] st (clearRecord n st) := only_of_patch rfl
  refine ⟨each_only hone l s, ?_⟩
  induction l generalizing s with
  | nil => exact ⟨rfl, fun i => by simp [each]⟩
  | cons n l ih =>
    obtain ⟨hhead, hrecords⟩ := ih (s := clearRecord n s)
    refine ⟨hhead, fun i => (hrecords i).trans ?_⟩
    by_cases hi : i = n
    · have hsame : mapGet {} (clearRecord n s).fault.records i = { mapGet {} s.fault.records i with valid := false } := by
        rw [hi]
        exact mapGet_mapUpd_same (d := ({} : FaultRec)) s.fault.records n fun r => { r with valid := false }
      rw [hsame]
      simp [hi]
    · have hother : mapGet {} (clearRecord n s).fault.records i = mapGet {} s.fault.records i :=
        mapGet_mapUpd_ne (d := ({} : FaultRec)) s.fault.records (fun r => { r with valid := false }) hi
      rw [hother]
      simp [hi]

/-! ## Rollback, exclusion, shadowing -/

theorem rollback_started (hjob : JobLevel h s) :
    exec (.rollback h) s = .next (owe h .rollback (requestRollback 12 (accepted h s))) := by
  obtain ⟨hmodule, hlead, hstarted⟩ := hjob
  have hhost : isDistributed h = false := hmodule.2.2
  refine congrArg Host.Outcome.next ((command_lead_deferred hmodule hlead rfl rfl).trans ?_)
  rw [if_neg (ne_true_of_eq_false hhost)]
  exact if_neg (by rw [accepted_job, hstarted]; exact Bool.false_ne_true)

theorem exclude_active (hjob : JobLevel h s) {index : BitVec 16} (hmember : (jobModules s).contains index.toNat = true)
    (hactive : (memberS s index.toNat).state = .active) : exec (.exclude h index) s =
      .next (owe h (.exclude index.toNat) (requestRollback 12 (leaveRoles index.toNat
        (setMemberState index.toNat .excluded (accepted h s))))) := by
  obtain ⟨hmodule, hlead, hstarted⟩ := hjob
  have hhost : isDistributed h = false := hmodule.2.2
  have hgrp : (accepted h s).grp = s.grp := reply_only _ _ _ _ _ _ .grp (by decide)
  have hstate : (memberS (accepted h s) index.toNat).state = .active := by
    rw [memberS_congr (congrArg GroupS.members hgrp), hactive]
  have hok : excludable (accepted h s) index.toNat = true := by
    have hmodules : jobModules (accepted h s) = jobModules s := by rw [jobModules, jobModules, accepted_job]
    rw [excludable, hmodules, hmember, hstate]
    rfl
  refine congrArg Host.Outcome.next ((command_lead_deferred hmodule hlead rfl rfl).trans ?_)
  rw [if_neg (ne_true_of_eq_false hhost)]
  refine (if_neg (by rw [accepted_job, hstarted]; exact Bool.false_ne_true)).trans ((checked_ok (by rw [hok]; rfl)).trans ?_)
  simp only [excludeMember, hstate]

theorem shadowSet_checked (hmodule : ModuleLevel h s) {member : BitVec 8} (hidle : s.job.started = false) (hgroups : s.job.groups ≤ 1)
    (hmember : member.toNat < s.job.members) (hother : member.toNat ≠ s.job.member) : exec (.shadowSet h member) s =
      .next (done h [] { s with grp := { s.grp with shadowed := some member.toNat } }) :=
  congrArg Host.Outcome.next ((command_immediate hmodule rfl rfl).trans ((if_neg (ne_true_of_eq_false hidle)).trans
    (checked_ok (by rw [decide_eq_true hgroups, decide_eq_true hmember, decide_eq_true hother]; rfl))))

/-! ## The return of a field -/

theorem isLit_of_isDark {f : Nat} (hdark : isDark s f = true) : isLit s f = false := by
  have hstate : fieldState s f = .dark := of_decide_eq_true hdark
  rw [isLit, hstate]
  rfl

theorem fieldReturn_begun (hmodule : ModuleLevel h s) {f : BitVec 8} (hheld : heldOrIdle s = true) (hf : f.toNat < 84)
    (hdark : isDark s f.toNat = true) (hreset : protectionReset s f.toNat = true) : exec (.fieldReturn h f) s =
      .next (owe h (.fieldReturn f.toNat) (setField f.toNat { fieldS s f.toNat with returning := true } (accepted h s))) := by
  have honly : Only [.sent, .side, .mem, .host] s (accepted h s) := reply_only _ _ _ _ _ _
  have hfabric : (accepted h s).fabric = s.fabric := honly .fabric (by decide)
  have hpower : (accepted h s).power = s.power := honly .power (by decide)
  have hidle : heldOrIdle (accepted h s) = true := by rw [heldOrIdle, accepted_job]; exact hheld
  have hprot : protectionReset (accepted h s) f.toNat = true := by
    rw [protectionReset, fieldPower, hpower]
    exact hreset
  have hunlit : ¬ (f.toNat < 84 ∧ isLit (accepted h s) f.toNat = true) := by
    rintro ⟨-, hlit⟩
    rw [isLit_congr hfabric, isLit_of_isDark hdark] at hlit
    exact Bool.false_ne_true hlit
  refine congrArg Host.Outcome.next ((command_deferred hmodule rfl rfl).trans
    ((if_neg (by rw [hidle]; exact Bool.false_ne_true)).trans ((if_neg hunlit).trans
      ((checked_ok (by rw [decide_eq_true hf, isDark_congr hfabric, hdark, hprot]; rfl)).trans ?_))))
  rw [fieldS_congr hfabric]

theorem fieldReturn_lit (hmodule : ModuleLevel h s) {f : BitVec 8} (hheld : heldOrIdle s = true) (hf : f.toNat < 84)
    (hlit : isLit s f.toNat = true) : exec (.fieldReturn h f) s = .next (refuse h 0x0002 0 (accepted h s)) := by
  have hfabric : (accepted h s).fabric = s.fabric := reply_only _ _ _ _ _ _ .fabric (by decide)
  have hidle : heldOrIdle (accepted h s) = true := by rw [heldOrIdle, accepted_job]; exact hheld
  exact congrArg Host.Outcome.next ((command_deferred hmodule rfl rfl).trans
    ((if_neg (by rw [hidle]; exact Bool.false_ne_true)).trans (if_pos ⟨hf, by rw [isLit_congr hfabric]; exact hlit⟩)))

/-- A field that returns, its heat forgotten, lit where it was not. -/
def fieldBack (f : Nat) (s : State) : State := litField f (updFieldPower f (fun q => { q with heatDark := false }) s)

/-- The field's return: the route tables are to be rebuilt and the layout chosen anew. -/
def returnTaken (f : Nat) (s : State) : State :=
  startReplacement { fieldBack f s with fabric := { (fieldBack f s).fabric with rebuildPending := true, returnRebuild := true } }

theorem fieldReturned (hready : Ready s) {f : FieldId} (hreturning : (fieldS s f.val).returning = true)
    (hmap : mapToCopy s f.val = true) :
    exec (.fieldReturnComplete f true) s = .next (finish (isFieldReturn f.val) 0 0 [] (returnTaken f.val s)) :=
  (next_of_ready hready rfl).trans (congrArg _ ((if_neg (by rw [hreturning]; exact Bool.false_ne_true)).trans
    (if_neg (by rw [hmap]; exact Bool.false_ne_true))))

theorem fieldKeptDark (hready : Ready s) {f : FieldId} {ok : Bool} (hreturning : (fieldS s f.val).returning = true)
    (hno : ok = false ∨ mapToCopy s f.val = false) : exec (.fieldReturnComplete f ok) s =
      .next (finish (isFieldReturn f.val) 0x0F01 4 [] (setField f.val { fieldS s f.val with returning := false } s)) := by
  have hfailed : (!ok || !mapToCopy s f.val) = true := by
    rcases hno with hok | hmap
    · rw [hok]; rfl
    · rw [hmap, Bool.not_false, Bool.or_true]
  exact (next_of_ready hready rfl).trans (congrArg _ ((if_neg (by rw [hreturning]; exact Bool.false_ne_true)).trans (if_pos hfailed)))

theorem fieldS_eventCtx (ctx code detail : Nat) (body : List Byte) (f : Nat) : fieldS (eventCtx ctx code detail body s) f = fieldS s f :=
  fieldS_congr (eventCtx_only ctx code detail body .fabric (by decide)) f

theorem litField_spec (f : Nat) : isLit (litField f s) f = true ∧ (isLit s f = false → (fieldS (litField f s) f).returning = false) ∧
    (litField f s).power = s.power := by
  unfold litField
  split
  · next hlit => exact ⟨hlit, fun hunlit => absurd (hunlit.symm.trans hlit) (by decide), rfl⟩
  · obtain ⟨u, hu⟩ : ∃ u, u = setField f { fieldS s f with
        state := .lit, pllLocked := true, controlRunning := true, returning := false, mapCopy := true } s := ⟨_, rfl⟩
    have hfield : fieldS (fieldEvent 0 f 4 (refreshSize u)) f = { fieldS s f with
        state := .lit, pllLocked := true, controlRunning := true, returning := false, mapCopy := true } := by
      rw [fieldEvent, fieldS_eventCtx, refreshSize, fieldS_putSize, hu, fieldS_setField_same]
    have hpower : (fieldEvent 0 f 4 (refreshSize u)).power = s.power := by
      have hevent := eventCtx_only (s := refreshSize u) 0xFF 0x800A (256 * 0 + f) (bytesLE 1 4) .power (by decide)
      have hsized : (refreshSize u).power = u.power := (refreshSize_grows u).same .power rfl
      exact hevent.trans (hsized.trans (by rw [hu]; rfl))
    rw [← hu]
    exact ⟨by rw [isLit, fieldState, hfield]; rfl, fun _ => by rw [hfield], hpower⟩

theorem startReplacement_only : Only [.place] s (startReplacement s) := (startReplacement_grows s).onlyIn _ (by decide)

theorem returnTaken_spec (f : Nat) : isLit (returnTaken f s) f = true ∧
    (isLit s f = false → (fieldS (returnTaken f s) f).returning = false) ∧ (returnTaken f s).fabric.rebuildPending = true ∧
    (fieldPower (returnTaken f s) f).heatDark = false := by
  obtain ⟨hlit, hreturning, hpower⟩ := litField_spec (s := updFieldPower f (fun q => { q with heatDark := false }) s) f
  obtain ⟨u, hu⟩ : ∃ u, u = ({ fieldBack f s with
      fabric := { (fieldBack f s).fabric with rebuildPending := true, returnRebuild := true } } : State) := ⟨_, rfl⟩
  have hfields : u.fabric.fields = (fieldBack f s).fabric.fields := by rw [hu]
  have htaken : returnTaken f s = startReplacement u := by rw [hu]; rfl
  have hfabric : (startReplacement u).fabric = u.fabric := startReplacement_only .fabric (by decide)
  have hfield : fieldS (startReplacement u) f = fieldS (fieldBack f s) f := by rw [fieldS, hfabric, hfields, fieldS]
  have hheat : (startReplacement u).power = (updFieldPower f (fun q => { q with heatDark := false }) s).power := by
    have hplaced : (startReplacement u).power = u.power := startReplacement_only .power (by decide)
    rw [hplaced, hu]
    exact hpower
  rw [htaken]
  refine ⟨?_, fun hunlit => ?_, ?_, ?_⟩
  · rw [isLit, fieldState, hfield]
    exact hlit
  · rw [hfield]
    exact hreturning hunlit
  · rw [hfabric, hu]
  · rw [fieldPower, hheat]
    exact congrArg FieldPowerS.heatDark (fieldPower_setFieldPower_same f _ s)

theorem length_powerBody : (powerBody s).length = 188 := by
  have hfields (l : List Nat) (g k : Nat → Nat) : (l.flatMap fun f => bytesLE 1 (g f) ++ bytesLE 1 (k f)).length = 2 * l.length := by
    induction l with
    | nil => rfl
    | cons f l ih =>
      rw [List.flatMap_cons, List.length_append, ih, List.length_append, length_bytesLE, length_bytesLE, List.length_cons]
      omega
  unfold powerBody
  rw [List.length_append, hfields, List.length_range]
  simp only [List.length_append, length_bytesLE]

end

/-- Settles O41: one clause each for what the commands of power, faults and fields do and refuse. -/
theorem powerAndFaultCommandsComplete : Obligations.PowerAndFaultCommandsComplete := by
  unfold Obligations.PowerAndFaultCommandsComplete
  refine ⟨fun h watts s hm hlow hhigh => ?_, fun h watts s hm hlow hhigh hdraw hinput => ?_, fun h watts s hm hlow hhigh hdraw => ?_,
    fun h watts hard s hm hout => capSet_outside hm hout, fun h rate s hm hlow hhigh => ?_, fun h id s hm => ?_,
    fun h percent s hm hlow hhigh => ?_, fun h percent s hm hmost => ?_, fun h s hm => ?_, fun h first count s hm hfirst hsome hmost => ?_,
    fun h mask s hm => ?_, fun h s hjob => ?_, fun h index s hjob hmember hactive => ?_,
    fun h member s hm hidle hgroups hmember hother => ?_, fun h f s hm hheld hf hdark hreset => ?_,
    fun h f s hm hheld hf hlit => fieldReturn_lit hm hheld hf hlit, fun f s hready hreturning hmap => ?_,
    fun f ok s hready hreturning hno => ?_⟩
  · obtain ⟨hsoft, hhard, honly⟩ := reportLowCap_spec
      (s := { s with power := { s.power with capSoft := watts.toNat, capLowReported := false } })
    have hfirst : Only [.power] s { s with power := { s.power with capSoft := watts.toNat, capLowReported := false } } := only_of_patch rfl
    exact ⟨_, capSet_ranged hm hlow hhigh, hsoft, hhard, (hfirst.trans honly).mono (by decide)⟩
  · obtain ⟨hrest, honly⟩ := allLit_spec (s := hardCapTaken watts.toNat s) (fun q => { q with sCap := 16 })
    have hfirst : Only [.power] s (hardCapTaken watts.toNat s) := only_of_patch rfl
    refine ⟨_, (capSet_ranged hm hlow hhigh).trans (congrArg (fun st => Host.Outcome.next (done h [] st)) (setHardCap_above hdraw hinput)),
      ?_, ?_, (hfirst.trans honly).mono (by decide)⟩
    · exact congrArg (a₁ := powerRest _) PowerS.capHard hrest
    · exact congrArg (a₁ := powerRest _) PowerS.ceilingMw hrest
  · obtain ⟨hcap, hfabric, hnumber⟩ := hardCapForced_spec (s := s) watts.toNat
    obtain ⟨hrest, honly⟩ := allLit_spec (s := hardCapForced watts.toNat s) (fun q => { q with sCap := 4, glow := 0 })
    have hevent := powerEvent_only 5 watts.toNat (allLit (fun q => { q with sCap := 4, glow := 0 }) (hardCapForced watts.toNat s))
    have hpower := hevent .power (by decide)
    refine ⟨_, (capSet_ranged hm hlow hhigh).trans (congrArg (fun st => Host.Outcome.next (done h [] st)) (setHardCap_low hdraw)),
      ?_, fun f hf hlit => ?_, ?_⟩
    · exact (congrArg PowerS.capHard hpower).trans ((congrArg (a₁ := powerRest _) PowerS.capHard hrest).trans hcap)
    · have hmem : f ∈ litFields (hardCapForced watts.toNat s) := by
        rw [litFields_congr hfabric]
        exact List.mem_filter.mpr ⟨List.mem_range.mpr hf, hlit⟩
      have hfield := updateFields_mem (s := hardCapForced watts.toNat s) (fun q => { q with sCap := 4, glow := 0 })
        (P := fun q => q.sCap = 4 ∧ q.glow = 0) (fun q => ⟨rfl, rfl⟩) _ f (.inl hmem)
      rw [fieldPower, hpower]
      exact hfield
    · rw [powerEvent_eventNumber, honly .host (by decide)]
      exact Nat.lt_succ_of_le hnumber
  · exact ⟨_, rampSet_ranged hm hlow hhigh, setRamp_spec _⟩
  · exact ⟨_, congrArg Host.Outcome.next (command_immediate hm rfl rfl), heartbeatOp_spec _⟩
  · exact ⟨_, congrArg Host.Outcome.next ((command_immediate hm rfl rfl).trans
      (checked_ok (by rw [List.all_cons, within_iff.mpr ⟨hlow, hhigh⟩]; rfl))), rfl, only_of_patch rfl⟩
  · exact ⟨_, congrArg Host.Outcome.next ((command_immediate hm rfl rfl).trans
      (checked_ok (by rw [List.all_cons, decide_eq_true hmost]; rfl))), rfl, only_of_patch rfl⟩
  · exact ⟨congrArg Host.Outcome.next (command_immediate hm rfl rfl), length_powerBody⟩
  · exact congrArg Host.Outcome.next ((command_immediate hm rfl rfl).trans
      (checked_ok (by rw [List.all_cons, decide_eq_true hfirst, List.all_cons, within_iff.mpr ⟨hsome, hmost⟩]; rfl)))
  · obtain ⟨honly, hhead, hrecords⟩ := clearRecords_spec (s := s) ((List.range 256).filter (bitAt mask.toNat))
    refine ⟨_, congrArg Host.Outcome.next (command_immediate hm rfl rfl), fun i hi => (hrecords i).trans ?_, hhead, honly⟩
    have hmem : decide (i ∈ (List.range 256).filter (bitAt mask.toNat)) = bitAt mask.toNat i := by
      rw [Bool.eq_iff_iff, decide_eq_true_eq, List.mem_filter, List.mem_range]
      exact ⟨fun hboth => hboth.2, fun hbit => ⟨hi, hbit⟩⟩
    rw [hmem]
  · have heq := rollback_started hjob
    obtain ⟨-, hlead, hstarted⟩ := hjob
    have honly : Only [.sent, .side, .mem, .host] s (accepted h s) := reply_only _ _ _ _ _ _
    have hjobSame : (accepted h s).job = s.job := accepted_job
    rw [requestRollback_of_jobLead 12 (by rw [hjobSame, hstarted]) (by rw [isJobLead_congr hjobSame, hlead])] at heq
    have hasked (st : State) (rs : List (RollbackReq × Nat)) : Only [.grp] st { st with grp := { st.grp with requests := rs } } :=
      only_of_patch rfl
    refine ⟨_, heq, ?_, mem_owe _ _ _, ((honly.trans (hasked _ _)).trans (owe_only _ _ _)).mono (by decide)⟩
    have hnow : (accepted h s).now = s.now := honly .now (by decide)
    rw [selfIndex_congr hjobSame, hnow]
    exact List.mem_append_right _ (List.mem_singleton_self _)
  · have heq := exclude_active hjob hmember hactive
    obtain ⟨-, hlead, hstarted⟩ := hjob
    have hjobSame : (accepted h s).job = s.job := accepted_job
    have hnow : (accepted h s).now = s.now := reply_only _ _ _ _ _ _ .now (by decide)
    obtain ⟨u, hu⟩ : ∃ u, u = leaveRoles index.toNat (setMemberState index.toNat .excluded (accepted h s)) := ⟨_, rfl⟩
    have hjobU : u.job = s.job := by rw [hu, leaveRoles_job, setMemberState_job, hjobSame]
    have hnowU : u.now = s.now := by rw [hu, leaveRoles_now, setMemberState_now, hnow]
    have hmemberU : (memberS u index.toNat).state = .excluded := by rw [hu, memberS_leaveRoles, memberS_setMemberState_same]
    rw [← hu, requestRollback_of_jobLead 12 (by rw [hjobU, hstarted]) (by rw [isJobLead_congr hjobU, hlead])] at heq
    refine ⟨_, heq, hmemberU, ?_, mem_owe _ _ _⟩
    rw [selfIndex_congr hjobU, hnowU]
    exact List.mem_append_right _ (List.mem_singleton_self _)
  · exact ⟨_, shadowSet_checked hm hidle hgroups hmember hother, rfl, only_of_patch rfl⟩
  · have honly : Only [.sent, .side, .mem, .host] s (accepted h s) := reply_only _ _ _ _ _ _
    have hset (v : FieldS) (st : State) : Only [.fabric] st (setField f.toNat v st) := only_of_patch rfl
    have hfield (b : CmdBody) (st : State) : fieldS (owe h b st) f.toNat = fieldS st f.toNat := rfl
    refine ⟨_, fieldReturn_begun hm hheld hf hdark hreset, ?_, ?_, mem_owe _ _ _,
      ((honly.trans (hset _ _)).trans (owe_only _ _ _)).mono (by decide)⟩
    · rw [hfield, fieldS_setField_same]
    · rw [isDark, fieldState, hfield, fieldS_setField_same]
      exact hdark
  · exact ⟨_, fieldReturned hready hreturning hmap, returnTaken_spec f.val⟩
  · exact ⟨_, fieldKeptDark hready hreturning hno, fieldS_setField_same _ _ _, only_of_patch rfl⟩

end Sys2Proof.Machine

/-! SUPPORT. Commands of snapshots, security and firmware (Tables 13.14 and 13.15). -/

namespace Sys2Proof.Machine

section
variable {h : CmdHdr} {s : State}

/-! ## Shutters and snapshots (R508, R511, R512) -/

theorem shutterFire_module (hmodule : ModuleLevel h s) : exec (.shutterFire h .module) s = .next (done h [] (fireShutter 1 none s)) :=
  congrArg Host.Outcome.next (command_immediate hmodule rfl rfl)

theorem shutterFire_group (hmodule : ModuleLevel h s) (hlead : isLead s = true) :
    exec (.shutterFire h .group) s = .next (done h [] (fireGroup 1 (selfIndex s) s)) :=
  congrArg Host.Outcome.next ((command_immediate hmodule rfl rfl).trans (if_neg (by rw [hlead]; exact Bool.false_ne_true)))

theorem shutterFire_member (hmodule : ModuleLevel h s) (hmember : isLead s = false) :
    exec (.shutterFire h .group) s = .next (refuse h 0x0306 (leadDetail s).1 (leadDetail s).2) :=
  congrArg Host.Outcome.next ((command_immediate hmodule rfl rfl).trans (if_pos (by rw [hmember]; rfl)))

theorem leadDetail_known (hconfigured : s.job.configured = true) (hgroup : s.job.group = 0) (hlead : s.grp.noLead = false) :
    leadDetail s = (s.job.leadMember, s) := by
  refine (if_neg ?_).trans (if_pos hgroup)
  rw [hconfigured, hlead, Bool.and_false]
  exact Bool.false_ne_true

theorem fireGroup_latched {code module_ : Nat} (henabled : bitAt s.snap.sources (code - 1) = true) (harmed : s.snap.armed = true) :
    fireGroup code module_ s = emit (.shutterPacket (pack [(16, nextShutterId s), (4, code), (10, module_)]) (sendDelays s))
      { s with snap := latchedSnap code (nextShutterId s) s } := by
  unfold fireGroup
  dsimp only
  rw [fireShutter_eq none henabled harmed, henabled]
  rfl

theorem snapshotRead_busy (hmodule : ModuleLevel h s) {kind : BitVec 8} {index offset length : BitVec 32}
    (hlatching : s.snap.latching = true) : exec (.snapshotRead h kind index offset length) s = .next (refuseBusy h s) :=
  congrArg Host.Outcome.next ((command_immediate hmodule rfl rfl).trans (if_pos hlatching))

theorem snapshotRead_checked (hmodule : ModuleLevel h s) {kind : BitVec 8} {index offset length : BitVec 32}
    (hlatched : s.snap.latching = false) (hall : (snapshotChecks kind.toNat index.toNat offset.toNat length.toNat).all (·.2) = true) :
    exec (.snapshotRead h kind index offset length) s =
      .next (done h (bankRead s kind.toNat index.toNat offset.toNat length.toNat) s) :=
  congrArg Host.Outcome.next ((command_immediate hmodule rfl rfl).trans
    ((if_neg (ne_true_of_eq_false hlatched)).trans (checked_ok hall)))

/-! ## Attestation (R435) -/

theorem length_attestReport (n : Nat) : (attestReport n s).length = 512 := by
  have hmeas (g : Nat → Nat) : ((List.range 8).flatMap fun n => bytesLE 48 (g n)).length = 384 := by
    rw [List.length_flatMap]
    simp only [length_bytesLE]
    rfl
  unfold attestReport
  dsimp only
  simp only [List.length_append, length_bytesLE, List.length_replicate, hmeas]

/-- The body of ATTEST's reply. -/
def attestBody (nonce : List Byte) (s : State) : List Byte :=
  attestReport nonce.length s ++ bytesLE 64 (Config.edSign (edSeed s) (attestReport nonce.length s ++ nonce)) ++
    bytesLE 3309 (Config.mldsaSign (mldsaSeed s) (attestReport nonce.length s ++ nonce))

theorem length_attestBody (nonce : List Byte) : (attestBody nonce s).length = 3885 := by
  unfold attestBody
  rw [List.length_append, List.length_append, length_attestReport, length_bytesLE, length_bytesLE]

theorem take_attestBody (nonce : List Byte) : (attestBody nonce s).take 4 = bytesLE 4 0x54414456 := by
  unfold attestBody attestReport
  dsimp only
  simp only [List.append_assoc]
  exact List.take_left' (length_bytesLE _ _)

theorem attest_checked (hmodule : ModuleLevel h s) {nonce : List Byte} (hlow : 16 ≤ nonce.length) (hhigh : nonce.length ≤ 64) :
    exec (.attest h nonce) s = .next (done h (attestBody nonce s) s) :=
  congrArg Host.Outcome.next ((command_immediate hmodule rfl rfl).trans
    (checked_ok (by rw [List.all_cons, within_iff.mpr ⟨hlow, hhigh⟩]; rfl)))

/-! ## The journal of a start -/

/-- The entry written stands last. -/
theorem journalPush_last (e : JournalEntry) : ∃ l, (journalPush e s).flash.journal = l ++ [e] := by
  unfold journalPush
  dsimp only
  split
  · exact ⟨_, rfl⟩
  · exact ⟨_, rfl⟩

theorem journalEntry_find {step result code : Nat} {slotB : Bool} {data : Nat} {p : JournalEntry → Bool}
    (hp : ∀ e : JournalEntry, e.step = step → e.slotB = slotB → p e = true) :
    ∃ e : JournalEntry, (journalEntry step result code slotB data s).flash.journal.reverse.find? p = some e ∧ e.step = step ∧
      e.slotB = slotB := by
  obtain ⟨e, he, hstep, hslot⟩ : ∃ e, journalEntry step result code slotB data s = journalPush e s ∧ e.step = step ∧
    e.slotB = slotB := ⟨_, rfl, rfl, rfl⟩
  obtain ⟨l, hl⟩ := journalPush_last (s := s) e
  refine ⟨e, ?_, hstep, hslot⟩
  rw [he, hl, List.reverse_append]
  exact List.find?_cons_of_pos (hp e hstep hslot)

theorem slotVerified_journalEntry {result code : Nat} {slotB : Bool} {data : Nat} :
    slotVerified (journalEntry 0x21 result code slotB data s) slotB = true := by
  obtain ⟨e, hfind, hstep, -⟩ := journalEntry_find (s := s) (step := 0x21) (result := result) (code := code) (slotB := slotB)
    (data := data) (p := fun e => (decide (e.step = 0x21) || decide (e.step = 0x22)) && decide (e.slotB = slotB))
    (fun e hstep hslot => by rw [decide_eq_true hstep, decide_eq_true hslot]; rfl)
  unfold slotVerified
  rw [hfind]
  exact decide_eq_true hstep

theorem lastEntry_journalEntry {step result code : Nat} {slotB : Bool} {data : Nat} :
    (lastEntry (journalEntry step result code slotB data s) step).map (·.slotB) = some slotB := by
  obtain ⟨e, hfind, -, hslot⟩ := journalEntry_find (s := s) (result := result) (code := code) (slotB := slotB) (data := data)
    (p := fun e => decide (e.step = step)) (fun e hstep _ => decide_eq_true hstep)
  rw [lastEntry, hfind, Option.map_some, hslot]

theorem journalPush_bundles (e : JournalEntry) : (journalPush e s).flash.bundleA = s.flash.bundleA ∧
    (journalPush e s).flash.bundleB = s.flash.bundleB := by
  unfold journalPush
  dsimp only
  split <;> exact ⟨rfl, rfl⟩

theorem journalEntry_only (step result code : Nat) (slotB : Bool) (data : Nat) :
    Only [.flash] s (journalEntry step result code slotB data s) := (journalPush_defects _).2.2

/-! ## Flash (R416 to R418) -/

theorem flashChecks_ok {slotB : Bool} {offset len : Nat} (hother : s.boot.slotB ≠ slotB) (hpage : offset % 256 = 0)
    (hfits : offset + len ≤ 96 * 2 ^ 20) (hsome : 0 < len) (hmost : len ≤ 4032) :
    (flashChecks s slotB offset len).all (·.2) = true := by
  have hidle : isRunningSlot s slotB = false := by rw [isRunningSlot, decide_eq_false hother, Bool.and_false]
  unfold flashChecks
  rw [hidle, decide_eq_true hpage, decide_eq_true hfits, within_iff.mpr ⟨hsome, hmost⟩]
  rfl

section
variable {slotB : Bool} {offset : BitVec 32} {data : List Byte} (hmodule : ModuleLevel h s)
  (hall : (flashChecks s slotB offset.toNat data.length).all (·.2) = true)
  (hdevice : (if slotB then s.boot.devB else s.boot.devA) = true)
include hmodule hall hdevice

theorem flashWrite_checked : exec (.flashWrite h slotB offset data) s = .next (match failedSector s slotB with
    | some n => refuse h 0x0804 n { s with flash := { s.flash with failedSectors := s.flash.failedSectors.erase (slotB, n) } }
    | none => if stagingRoom s data.length then done h [] (stageWrite slotB offset.toNat data s) else s) :=
  congrArg Host.Outcome.next ((command_immediate hmodule rfl rfl).trans ((checked_ok hall).trans
    (if_neg (by rw [hdevice]; exact Bool.false_ne_true))))

end

theorem stageWrite_spec (slotB : Bool) (offset : Nat) (data : List Byte) :
    (stageWrite slotB offset data s).boot.staging = s.boot.staging ++ [{ slotB := slotB, offset := offset, data := data }] ∧
    (stageWrite slotB offset data s).flash.bundleA = s.flash.bundleA ∧
    (stageWrite slotB offset data s).flash.bundleB = s.flash.bundleB ∧ Only [.flash, .boot] s (stageWrite slotB offset data s) := by
  obtain ⟨u, hu⟩ : ∃ u, u = if firstWrite s slotB then journalEntry 0x22 0 0 slotB 0 s else s := ⟨_, rfl⟩
  obtain ⟨hboot, hbundleA, hbundleB, honly⟩ : u.boot = s.boot ∧ u.flash.bundleA = s.flash.bundleA ∧
      u.flash.bundleB = s.flash.bundleB ∧ Only [.flash] s u := by
    rw [hu]
    split
    · obtain ⟨hbundleA, hbundleB⟩ := journalPush_bundles (s := s) _
      exact ⟨journalEntry_only _ _ _ _ _ .boot (by decide), hbundleA, hbundleB, journalEntry_only _ _ _ _ _⟩
    · exact ⟨rfl, rfl, rfl, Only.refl _ _⟩
  have hstage : stageWrite slotB offset data s = noteOrder slotB offset data.length
      { u with boot := { u.boot with staging := u.boot.staging ++ [{ slotB := slotB, offset := offset, data := data }] } } := by
    rw [hu]
    rfl
  have hlast : Only [.flash, .boot] u (noteOrder slotB offset data.length
      { u with boot := { u.boot with staging := u.boot.staging ++ [{ slotB := slotB, offset := offset, data := data }] } }) :=
    only_of_patch rfl
  rw [hstage]
  refine ⟨?_, hbundleA, hbundleB, (honly.trans hlast).mono (by decide)⟩
  rw [← hboot]
  rfl

theorem mapGet_filterKeys {α : Type} {d : α} (p : Nat → Bool) (m : Map α) (k : Nat) :
    mapGet d (mapFilter (fun a _ => p a) m) k = if p k then mapGet d m k else d := by
  induction m with
  | nil => exact (ite_self d).symm
  | cons e m ih =>
    obtain ⟨a, v⟩ := e
    unfold mapFilter at ih ⊢
    dsimp only at ih ⊢
    by_cases hp : p a
    · rw [List.filter_cons_of_pos (p := fun e : Nat × α => p e.1) hp]
      simp only [mapGet]
      by_cases hk : k = a
      · subst hk
        rw [if_pos rfl, if_pos rfl, if_pos hp]
      · rw [if_neg hk, if_neg hk, ih]
    · rw [List.filter_cons_of_neg (p := fun e : Nat × α => p e.1) hp, ih]
      by_cases hk : k = a
      · subst hk
        rw [if_neg hp, if_neg hp]
      · simp only [mapGet, if_neg hk]

/-- A staged write as programmed: its bytes, and all ones in the rest of the sectors that it opens. -/
theorem mapGet_programWrite (w : Staged) (m : Map Byte) (a : Nat) : mapGet 0xFF#8 (programWrite w m) a =
    if w.offset ≤ a ∧ a < w.offset + w.data.length then nth 0#8 w.data (a - w.offset)
    else if a / 65536 ∈ openedSectors w.offset w.data.length then 0xFF#8 else mapGet 0xFF#8 m a := by
  unfold programWrite
  rw [mapGet_mapSetList, mapGet_filterKeys fun a => !(openedSectors w.offset w.data.length).contains (a / 65536)]
  split
  · next hin =>
    have hlt : a - w.offset < w.data.length := by omega
    rw [nth, nth, List.getD_eq_getElem _ _ hlt, List.getD_eq_getElem _ _ hlt]
  · by_cases hopen : a / 65536 ∈ openedSectors w.offset w.data.length
    · rw [if_pos hopen, if_neg (by simp [hopen])]
    · rw [if_neg hopen, if_pos (by simp [hopen])]

theorem stageDrain_failed {w : Staged} {rest : List Staged} (hruns : executes s = true) (hstaged : s.boot.staging = w :: rest) :
    exec (.flashStageDrain false) s = .next { s with
      boot := { s.boot with staging := rest }
      flash := { s.flash with failedSectors := s.flash.failedSectors ++ [(w.slotB, w.offset / 65536)] } } := by
  refine congrArg Host.Outcome.next ((if_neg (by rw [hruns]; exact Bool.false_ne_true)).trans ?_)
  rw [hstaged]
  rfl

theorem stageDrain_slotA {w : Staged} {rest : List Staged} (hruns : executes s = true) (hstaged : s.boot.staging = w :: rest)
    (hslot : w.slotB = false) : exec (.flashStageDrain true) s = .next { s with
      boot := { s.boot with staging := rest }, flash := { s.flash with bundleA := programWrite w s.flash.bundleA } } := by
  refine congrArg Host.Outcome.next ((if_neg (by rw [hruns]; exact Bool.false_ne_true)).trans ?_)
  rw [hstaged]
  dsimp only
  rw [hslot]
  rfl

/-! ## Verification and activation (R420) -/

theorem verifyDone_due {τ : Nat} {checks : BundleChecks} {d : DeferredS} {slotB : Bool} {r : Nat × Nat} (hruns : executes s = true)
    (hstaged : s.boot.staging = []) (hdue : (s.host.deferred.find? fun d => (isVerify d).isSome) = some d)
    (hbody : d.body = .bundleVerify slotB) (hstatus : verifyStatus s slotB checks = r) :
    exec (.bundleVerifyDone τ checks) s = .next (reply d.hdr r.1 r.2 [] true
      (if r.1 = 0 then journalEntry 0x21 0 0 slotB 0 { atTime τ s with host := { s.host with deferred := s.host.deferred.erase d } }
        else { atTime τ s with host := { s.host with deferred := s.host.deferred.erase d } })) := by
  have hslot : (isVerify d).getD false = slotB := by rw [isVerify, hbody]; rfl
  refine congrArg Host.Outcome.next ((if_neg ?_).trans ?_)
  · rw [show executes (atTime τ s) = true from hruns, show (atTime τ s).boot.staging = [] from hstaged]
    exact Bool.false_ne_true
  · rw [show ((atTime τ s).host.deferred.find? fun d => (isVerify d).isSome) = some d from hdue]
    dsimp only
    rw [hslot, show verifyStatus (atTime τ s) slotB checks = r from hstatus]
    rfl

theorem bundleActivate_verified (hmodule : ModuleLevel h s) {slotB : Bool} (hverified : slotVerified s slotB = true) :
    exec (.bundleActivate h slotB) s = .next (done h [] (journalEntry 0x20 0 0 slotB 0 s)) :=
  congrArg Host.Outcome.next ((command_immediate hmodule rfl rfl).trans (checked_ok (by rw [List.all_cons, hverified]; rfl)))

theorem bundleActivate_unverified (hmodule : ModuleLevel h s) {slotB : Bool} (hnone : slotVerified s slotB = false) :
    exec (.bundleActivate h slotB) s = .next (refuse h 0x0201 (Config.paramOffset 0x0804 0) s) :=
  congrArg Host.Outcome.next ((command_immediate hmodule rfl rfl).trans (checked_first (rest := []) (by rw [hnone])))

/-! ## RESET (R433) -/

theorem reset_held (hmodule : ModuleLevel h s) (hheld : heldOrIdle s = true) :
    exec (.resetCmd h) s = .next (resetModule true (done h [] s)) := by
  have hrunning : ¬ s.boot.state = .recovery := by
    rw [hmodule.1]
    decide
  refine congrArg Host.Outcome.next ((command_immediate hmodule rfl rfl).trans
    ((if_neg (by rw [hheld]; exact Bool.false_ne_true)).trans ?_))
  dsimp only
  rw [if_neg hrunning]

theorem reset_refused (hmodule : ModuleLevel h s) (hheld : heldOrIdle s = false) :
    exec (.resetCmd h) s = .next (refuse h 0x0302 0 s) :=
  congrArg Host.Outcome.next ((command_immediate hmodule rfl rfl).trans (if_pos (by rw [hheld]; rfl)))

end

/-- Settles O42: one clause each for what the commands of snapshots, security and firmware do and refuse. -/
theorem snapshotAndFirmwareCommandsComplete : Obligations.SnapshotAndFirmwareCommandsComplete := by
  unfold Obligations.SnapshotAndFirmwareCommandsComplete
  refine ⟨fun h s hm henabled harmed => ?_, fun h s hm henabled harmed hlead => ?_,
    fun h s hm hmember hconfigured hgroup hlead => ?_, fun h kind index offset length s hm hlatched hall => snapshotRead_checked hm hlatched hall,
    fun h kind index offset length s hm hlatching => snapshotRead_busy hm hlatching, fun h first count s hm hsome hmost hend => ?_,
    fun h first count s hm hsome hmost => ?_, fun h first count s hm hsome hmost hbase => ?_, fun h nonce s hm hlow hhigh => ?_,
    fun h slotB offset data s hm hother hpage hfits hsome hmost hdevice hgood hroom => ?_,
    fun h slotB offset data s hm hother hpage hfits hsome hmost hdevice hgood hroom => ?_,
    fun h slotB offset data s n hm hother hpage hfits hsome hmost hdevice hfailed => ?_, fun w rest s hruns hstaged hslot => ?_,
    fun w rest s hruns hstaged => ?_, fun h slotB s hm => ?_, fun τ checks s d slotB hruns hstaged hfault horder hdue hbody => ?_,
    fun τ checks s d slotB hruns hstaged hfault hdue hbody => ?_, fun h slotB s hm hverified => ?_,
    fun h slotB s hm hnone => bundleActivate_unverified hm hnone, fun h s hm hheld => ?_, fun h s hm hheld => reset_refused hm hheld⟩
  · refine ⟨_, (shutterFire_module hm).trans (congrArg (fun st => Host.Outcome.next (done h [] st)) (fireShutter_eq none henabled harmed)),
      rfl, rfl, rfl, rfl, rfl, rfl, only_of_patch rfl⟩
  · exact ⟨_, (shutterFire_group hm hlead).trans (congrArg (fun st => Host.Outcome.next (done h [] st)) (fireGroup_latched henabled harmed)),
      rfl, rfl, only_of_patch rfl⟩
  · refine (shutterFire_member hm hmember).trans ?_
    rw [leadDetail_known hconfigured hgroup hlead]
  · have hchecks : [(0, decide (first.toNat < 1856)), (1, within 1 508 count.toNat && decide (first.toNat + count.toNat ≤ 1856))].all
        (·.2) = true := by
      rw [decide_eq_true (by omega), within_iff.mpr ⟨hsome, hmost⟩, decide_eq_true hend]
      rfl
    exact congrArg Host.Outcome.next ((command_immediate hm rfl rfl).trans (checked_ok hchecks))
  · exact congrArg Host.Outcome.next ((command_immediate hm rfl rfl).trans
      (checked_ok (by rw [List.all_cons, within_iff.mpr ⟨hsome, hmost⟩]; rfl)))
  · refine congrArg Host.Outcome.next ((command_immediate hm rfl rfl).trans
      ((checked_ok (by rw [List.all_cons, within_iff.mpr ⟨hsome, hmost⟩]; rfl)).trans ?_))
    dsimp only
    rw [hbase, Nat.max_zero, Nat.sub_zero]
  · exact ⟨_, attest_checked hm hlow hhigh, length_attestBody nonce, take_attestBody nonce⟩
  · have heq := flashWrite_checked hm (flashChecks_ok hother hpage hfits hsome hmost) hdevice
    rw [hgood] at heq
    exact ⟨_, heq.trans (congrArg _ (if_pos hroom)), stageWrite_spec _ _ _⟩
  · have heq := flashWrite_checked hm (flashChecks_ok hother hpage hfits hsome hmost) hdevice
    rw [hgood] at heq
    exact heq.trans (congrArg _ (if_neg (ne_true_of_eq_false hroom)))
  · have heq := flashWrite_checked hm (flashChecks_ok hother hpage hfits hsome hmost) hdevice
    rw [hfailed] at heq
    exact ⟨_, heq, rfl, rfl, only_of_patch rfl⟩
  · exact ⟨_, stageDrain_slotA hruns hstaged hslot, rfl, fun a => mapGet_programWrite w s.flash.bundleA a, rfl, only_of_patch rfl⟩
  · exact ⟨_, stageDrain_failed hruns hstaged, rfl, rfl, rfl, List.mem_append_right _ (List.mem_singleton_self _), only_of_patch rfl⟩
  · exact ⟨_, congrArg Host.Outcome.next (command_deferred hm rfl rfl), mem_owe _ _ _, reply_only _ _ _ _ _ _ .flash (by decide),
      ((reply_only _ _ _ _ _ _).trans (owe_only _ _ _)).mono (by decide)⟩
  · have hstatus : verifyStatus s slotB checks = (0, 0) := by
      refine (if_neg (ne_true_of_eq_false horder)).trans ?_
      rw [hfault]
    have hfirst : Only [.now, .host] s { atTime τ s with host := { s.host with deferred := s.host.deferred.erase d } } := only_of_patch rfl
    refine ⟨_, (verifyDone_due hruns hstaged hdue hbody hstatus).trans (congrArg _ (congrArg _ (if_pos rfl))),
      slotVerified_journalEntry, ?_, (hfirst.trans (journalEntry_only _ _ _ _ _)).mono (by decide)⟩
    exact congrArg HostS.deferred (journalEntry_only _ _ _ _ _ .host (by decide))
  · have hstatus : verifyStatus s slotB checks = (0x0803, 0xFFFF) := by
      unfold verifyStatus
      rw [hfault]
      exact ite_self _
    exact ⟨_, (verifyDone_due hruns hstaged hdue hbody hstatus).trans (congrArg _ (congrArg _ (if_neg (by decide)))), rfl,
      only_of_patch rfl⟩
  · exact ⟨_, bundleActivate_verified hm hverified, lastEntry_journalEntry, journalEntry_only _ _ _ _ _⟩
  · exact ⟨_, reset_held hm hheld, rfl, rfl, rfl, rfl, rfl, rfl, reply_only _ _ _ _ _ _ .flash (by decide), rfl⟩

end Sys2Proof.Machine

/-! SUPPORT. Registers (chapter 19). -/

namespace Sys2Proof.Machine

/-! ## Addresses -/

section
variable {s : State}

/-- No page lies at 0x100000 or above. -/
theorem regAt_beyond {addr : Nat} (hfar : 0x100000 ≤ addr) : regAt s addr = none := by
  have hpage : ∃ k, addr / 2 ^ 16 = k + 16 := ⟨addr / 2 ^ 16 - 16, by omega⟩
  obtain ⟨k, hk⟩ := hpage
  unfold regAt
  dsimp only
  rw [hk]
  split
  · rfl
  · rfl

theorem addrProblem_beyond {addr : Nat} (haligned : addr % 4 = 0) (hfar : 0x100000 ≤ addr) : addrProblem s addr = some 0x0901 := by
  refine (if_neg (not_not.mpr haligned)).trans (if_pos ?_)
  rw [regAt_beyond hfar]
  rfl

theorem addrProblem_unaligned {addr : Nat} (hunaligned : addr % 4 ≠ 0) : addrProblem s addr = some 0x0902 := if_pos hunaligned

theorem addrProblem_mapped {addr : Nat} {r : Reg} (haligned : addr % 4 = 0) (hreg : regAt s addr = some r) :
    addrProblem s addr = none := by
  refine (if_neg (not_not.mpr haligned)).trans (if_neg ?_)
  rw [hreg]
  exact Bool.false_ne_true

theorem firstProblem_single (addr : Nat) : firstProblem s [addr] = (addrProblem s addr).map fun st => (st, addr % 65536) := by
  unfold firstProblem
  rw [List.findSome?_cons, List.findSome?_nil]
  cases addrProblem s addr <;> rfl

/-! ## The registers named -/

theorem notRecovery (hready : Ready s) {p : Prop} : ¬ (s.boot.state = .recovery ∧ p) := by
  rintro ⟨hrecovery, -⟩
  exact absurd (hready.symm.trans hrecovery) (by decide)

theorem regAt_deviceId (hready : Ready s) : regAt s 0x10000 = some ⟨0x00, 1, 0xD718⟩ :=
  (if_neg (notRecovery hready)).trans rfl

theorem regAt_period (hready : Ready s) : regAt s 0x30000 = some ⟨0x00, 1, s.tick.period⟩ :=
  (if_neg (notRecovery hready)).trans rfl

theorem regAt_throttle (hready : Ready s) : regAt s 0xB0000 = some ⟨0x00, 1, s.power.throttleC⟩ :=
  (if_neg (notRecovery hready)).trans rfl

theorem regAt_suspect (hready : Ready s) :
    regAt s 0xC0020 = some ⟨0x20, 1, s.grp.suspectWindow + 2 ^ 16 * s.grp.suspectPct⟩ :=
  (if_neg (notRecovery hready)).trans rfl

theorem arrayReg_at {off base step n words k : Nat} {value : Nat → Nat} (hk : k < n) (hoff : off = base + step * k) (hstep : 0 < step)
    (hwords : 0 < words) : arrayReg off base step n words value = some ⟨base + step * k, words, value k⟩ := by
  have hindex : (off - base) / step = k := by
    rw [hoff, Nat.add_sub_cancel_left, Nat.mul_div_cancel_left _ hstep]
  unfold arrayReg
  dsimp only
  rw [hindex, if_pos ⟨by omega, hk, by omega⟩]

theorem regAt_faultCounter (hready : Ready s) {addr k : Nat} (hk : k < 64) (haddr : addr = 0xC8000 + 8 * k) :
    regAt s addr = some ⟨0x8000 + 8 * k, 2, counter s (448 + k)⟩ := by
  have hpage : addr / 2 ^ 16 = 12 := by omega
  have hoff : addr % 2 ^ 16 = 0x8000 + 8 * k := by omega
  have hsingle : ((pageRegs s 12).find? fun r => decide (r.off ≤ 0x8000 + 8 * k) && decide (0x8000 + 8 * k < r.off + 4 * r.words)) = none := by
    rw [List.find?_eq_none]
    intro r hr
    have hlow : r.off + 4 * r.words ≤ 0x8000 := by
      simp only [pageRegs, regsFault, List.mem_cons, List.not_mem_nil, or_false] at hr
      rcases hr with rfl | rfl | rfl | rfl | rfl | rfl <;> simp only <;> omega
    simp only [Bool.and_eq_true, decide_eq_true_eq, not_and]
    omega
  have hrecords : arrayReg (0x8000 + 8 * k) 0x4000 64 256 16 (fun i => encodeFault (mapGet {} s.fault.records i)) = none :=
    if_neg (by omega)
  refine (if_neg (notRecovery hready)).trans ?_
  rw [hpage, hoff, hsingle]
  unfold arraysOf
  rw [hrecords, arrayReg_at hk rfl (by decide) (by decide)]
  rfl

/-! ## Fields -/

theorem clamp_eq {lo hi v : Nat} (hlohi : lo ≤ hi) : clamp lo hi v = max lo (min hi v) := by
  unfold clamp
  split
  · omega
  · split <;> omega

theorem fieldsAt_period : fieldsAt 0x30000 = [⟨0x30000, 0, 13, 25, 5000, .fixed, fun s => s.tick.period,
    fun v s => { s with tick := { s.tick with period := v } }⟩] := rfl

theorem fieldsAt_throttle : fieldsAt 0xB0000 = [⟨0xB0000, 0, 7, 70, 95, .anytime, fun s => s.power.throttleC,
    fun v s => { s with power := { s.power with throttleC := v } }⟩] := rfl

theorem fieldsAt_suspect : fieldsAt 0xC0020 = [
    ⟨0xC0020, 0, 16, 100, 65535, .anytime, fun s => s.grp.suspectWindow, fun v s => { s with grp := { s.grp with suspectWindow := v } }⟩,
    ⟨0xC0020, 16, 7, 5, 100, .anytime, fun s => s.grp.suspectPct, fun v s => { s with grp := { s.grp with suspectPct := v } }⟩] := rfl

theorem fieldsAt_capSoft : fieldsAt 0xA0010 = [⟨0xA0010, 0, 15, 2400, 24000, .anytime, fun s => s.power.capSoft,
    fun v s => if v = s.power.capSoft then s else setSoftCap v s⟩] := rfl

theorem fieldsAt_capHard : fieldsAt 0xA0014 = [⟨0xA0014, 0, 15, 2400, 24000, .anytime, fun s => s.power.capHard,
    fun v s => if v = s.power.capHard then s else setHardCap v s⟩] := rfl

/-- A word without W1C and WO bits takes its fields alone. -/
theorem writeWord_fields {addr v : Nat} (hrearm : addr ≠ 0xD0008) (hheld : addr ≠ 0xE0014)
    (hrecord : ¬ (addr / 2 ^ 16 = 12 ∧ 0x4000 ≤ addr % 2 ^ 16)) : writeWord addr v s = each (fieldsAt addr) (writeField v) s := by
  refine (if_neg hrearm).trans ((if_neg hheld).trans (if_neg ?_))
  rintro ⟨hpage, hlow, -⟩
  exact hrecord ⟨hpage, hlow⟩

/-- A write counts its clamp before it takes effect. -/
def clampCounted (out : Bool) (s : State) : State := if out then count cRegClamp 1 s else s

theorem clampCounted_only (out : Bool) : Only [.counters] s (clampCounted out s) := by
  unfold clampCounted
  split
  · exact only_of_patch rfl
  · exact Only.refl _ _

theorem counter_clampCounted (out : Bool) : counter (clampCounted out s) cRegClamp = counter s cRegClamp + if out then 1 else 0 := by
  unfold clampCounted
  cases out with
  | true => exact counter_count_same _ _ _
  | false => rfl

theorem writeField_eq (v : Nat) (f : RwField) : writeField v f s = f.set (clamp f.min f.max (field v f.lo f.len))
    (clampCounted (decide (field v f.lo f.len < f.min ∨ f.max < field v f.lo f.len)) s) := by
  unfold writeField clampCounted
  dsimp only
  simp only [decide_eq_true_eq]

theorem field_low (v len : Nat) : field v 0 len = v % 2 ^ len := by rw [field, Nat.pow_zero, Nat.div_one]

/-! ## Commands of register access -/

variable {h : CmdHdr}

theorem regRead_checked (hmodule : ModuleLevel h s) {addr : BitVec 32} {count : BitVec 16} (hsome : 1 ≤ count.toNat)
    (hmost : count.toNat ≤ 1016) : exec (.regRead h addr count) s =
      .next (match firstProblem s ((List.range count.toNat).map fun i => addr.toNat + 4 * i) with
        | some (status, d) => refuse h status d s
        | none => done h (regWords ((List.range count.toNat).map fun i => addr.toNat + 4 * i) [] s).1
            (regWords ((List.range count.toNat).map fun i => addr.toNat + 4 * i) [] s).2) :=
  congrArg Host.Outcome.next ((command_immediate hmodule rfl rfl).trans
    (checked_ok (by rw [List.all_cons, within_iff.mpr ⟨hsome, hmost⟩]; rfl)))

theorem regRead_single (hmodule : ModuleLevel h s) {addr : BitVec 32} {status : Nat} (hproblem : addrProblem s addr.toNat = some status) :
    exec (.regRead h addr 1) s = .next (refuse h status (addr.toNat % 65536) s) := by
  have heq := regRead_checked (addr := addr) (count := 1) hmodule (by decide) (by decide)
  have hfirst : firstProblem s ((List.range (1 : BitVec 16).toNat).map fun i => addr.toNat + 4 * i) =
      some (status, addr.toNat % 65536) := (firstProblem_single (s := s) addr.toNat).trans (by rw [hproblem]; rfl)
  rw [hfirst] at heq
  exact heq

theorem readWord_single {addr : Nat} {r : Reg} (hreg : regAt s addr = some r) (hwords : r.words = 1) (side : Bool) :
    readWord side addr s = some (field r.value (32 * ((addr % 2 ^ 16 - r.off) / 4)) 32, s) := by
  have hnarrow : r.words ≠ 2 := by rw [hwords]; decide
  unfold readWord
  rw [hreg]
  exact if_pos hnarrow

theorem regWrite_refused (hmodule : ModuleLevel h s) {addr v : BitVec 32} (hfixed : writeRefused addr.toNat v.toNat s = true) :
    exec (.regWrite h [(addr, v)]) s = .next (refuse h 0x0302 0 s) :=
  congrArg Host.Outcome.next ((command_immediate hmodule rfl rfl).trans ((if_neg Bool.false_ne_true).trans
    (if_pos (by rw [natPairs, List.map_cons, List.map_nil, List.any_cons, List.any_nil, hfixed]; rfl))))

theorem regWrite_single (hmodule : ModuleLevel h s) {addr v : BitVec 32} (hfree : writeRefused addr.toNat v.toNat s = false)
    (hmapped : addrProblem s addr.toNat = none) :
    exec (.regWrite h [(addr, v)]) s = .next (done h [] (writeWord addr.toNat v.toNat s)) := by
  have hfirst : firstProblem s ((natPairs [(addr, v)]).map (·.1)) = none :=
    (firstProblem_single (s := s) addr.toNat).trans (by rw [hmapped]; rfl)
  refine congrArg Host.Outcome.next ((command_immediate hmodule rfl rfl).trans ((if_neg Bool.false_ne_true).trans
    ((if_neg (by rw [natPairs, List.map_cons, List.map_nil, List.any_cons, List.any_nil, hfree]; exact Bool.false_ne_true)).trans ?_)))
  rw [hfirst]
  rfl

theorem regRmw_written (hmodule : ModuleLevel h s) {addr mask value : BitVec 32} {old : Nat} (hold : regWord s addr.toNat = some old)
    (hfree : writeRefused addr.toNat (mergeBits old mask.toNat value.toNat) s = false) (hmapped : addrProblem s addr.toNat = none) :
    exec (.regRmw h addr mask value) s =
      .next (done h (bytesLE 4 old) (writeWord addr.toNat (mergeBits old mask.toNat value.toNat) s)) := by
  refine congrArg Host.Outcome.next ((command_immediate hmodule rfl rfl).trans ?_)
  unfold regRmwOp
  dsimp only
  rw [hold, Option.getD_some, hfree, if_neg Bool.false_ne_true, hmapped]

theorem registerWrite_free (hready : Ready s) {addr v : BitVec 32} (hfree : writeRefused addr.toNat v.toNat s = false)
    (hmapped : addrProblem s addr.toNat = none) : exec (.registerWrite addr v) s = .next (writeWord addr.toNat v.toNat s) :=
  (next_of_ready hready rfl).trans (congrArg _ (if_neg (by rw [hmapped, hfree]; exact Bool.false_ne_true)))

/-! ## The single writes -/

theorem writeWord_period (v : Nat) : writeWord 0x30000 v s = (let u := clampCounted (decide (v % 8192 < 25 ∨ 5000 < v % 8192)) s
    { u with tick := { u.tick with period := max 25 (min 5000 (v % 8192)) } }) := by
  rw [writeWord_fields (by decide) (by decide) (by decide), fieldsAt_period]
  refine (writeField_eq v _).trans ?_
  dsimp only
  rw [field_low, clamp_eq (by decide)]
  rfl

theorem writeWord_throttle (v : Nat) : writeWord 0xB0000 v s = (let u := clampCounted (decide (v % 128 < 70 ∨ 95 < v % 128)) s
    { u with power := { u.power with throttleC := max 70 (min 95 (v % 128)) } }) := by
  rw [writeWord_fields (by decide) (by decide) (by decide), fieldsAt_throttle]
  refine (writeField_eq v _).trans ?_
  dsimp only
  rw [field_low, clamp_eq (by decide)]
  rfl

theorem writeWord_suspect (v : Nat) : (writeWord 0xC0020 v s).grp = { s.grp with
      suspectWindow := max 100 (v % 65536), suspectPct := max 5 (min 100 (v / 65536 % 128)) } ∧
    Only [.grp, .counters] s (writeWord 0xC0020 v s) := by
  obtain ⟨u, hu⟩ : ∃ u, u = clampCounted (decide (v % 2 ^ 16 < 100 ∨ 65535 < v % 2 ^ 16)) s := ⟨_, rfl⟩
  have hgrp : u.grp = s.grp := by rw [hu]; exact clampCounted_only _ .grp (by decide)
  have honly : Only [.counters] s u := by rw [hu]; exact clampCounted_only _
  obtain ⟨w, hw⟩ : ∃ w, w = ({ u with grp := { u.grp with suspectWindow := max 100 (v % 65536) } } : State) := ⟨_, rfl⟩
  have hwindow : clamp 100 65535 (field v 0 16) = max 100 (v % 65536) := by
    rw [field_low, clamp_eq (by decide)]
    omega
  have hfirst : writeField v ⟨0xC0020, 0, 16, 100, 65535, .anytime, fun s => s.grp.suspectWindow,
      fun v s => { s with grp := { s.grp with suspectWindow := v } }⟩ s = w := by
    refine (writeField_eq v _).trans ?_
    dsimp only
    rw [hwindow, field_low, hw, hu]
  have hset : Only [.grp] u w := by rw [hw]; exact only_of_patch rfl
  obtain ⟨x, hx⟩ : ∃ x, x = clampCounted (decide (v / 65536 % 128 < 5 ∨ 100 < v / 65536 % 128)) w := ⟨_, rfl⟩
  have hgrpX : x.grp = w.grp := by rw [hx]; exact clampCounted_only _ .grp (by decide)
  have honlyX : Only [.counters] w x := by rw [hx]; exact clampCounted_only _
  have hlast : Only [.grp] x { x with grp := { x.grp with suspectPct := max 5 (min 100 (v / 65536 % 128)) } } := only_of_patch rfl
  have hword : writeWord 0xC0020 v s = { x with grp := { x.grp with suspectPct := max 5 (min 100 (v / 65536 % 128)) } } := by
    rw [writeWord_fields (by decide) (by decide) (by decide), fieldsAt_suspect]
    refine (congrArg (writeField v _) hfirst).trans ((writeField_eq v _).trans ?_)
    dsimp only
    rw [clamp_eq (by decide), hx]
    rfl
  rw [hword]
  refine ⟨?_, (((honly.trans hset).trans honlyX).trans hlast).mono (by decide)⟩
  dsimp only
  rw [hgrpX, hw]
  dsimp only
  rw [hgrp]

theorem writeWord_inRange {v addr : Nat} {f : RwField} (hfields : fieldsAt addr = [f]) (hrearm : addr ≠ 0xD0008)
    (hheld : addr ≠ 0xE0014) (hrecord : ¬ (addr / 2 ^ 16 = 12 ∧ 0x4000 ≤ addr % 2 ^ 16)) (hfield : field v f.lo f.len = v)
    (hlow : f.min ≤ v) (hhigh : v ≤ f.max) : writeWord addr v s = f.set v s := by
  rw [writeWord_fields hrearm hheld hrecord, hfields]
  refine (writeField_eq v f).trans ?_
  have hclamp : clamp f.min f.max v = v := by rw [clamp, if_neg (by omega), if_neg (by omega)]
  rw [hfield, hclamp, decide_eq_false (by omega)]
  rfl

theorem writeRefused_anytime {addr v : Nat} (hfields : ∀ f ∈ fieldsAt addr, f.time = .anytime) : writeRefused addr v s = false := by
  have hnone : ((fieldsAt addr).any fun f =>
      fieldChanges f v s && (decide (f.time = .fixed) || (decide (f.time = .held) && !s.job.held))) = false := by
    rw [List.any_eq_false]
    intro f hf
    rw [hfields f hf]
    simp
  rw [writeRefused, hnone, Bool.and_false]

theorem regWord_throttle (hready : Ready s) (hc : s.power.throttleC ≤ 95) : regWord s 0xB0000 = some s.power.throttleC := by
  rw [regWord, regAt_throttle hready]
  have hword : field s.power.throttleC 0 32 = s.power.throttleC := (field_low _ _).trans (Nat.mod_eq_of_lt (by omega))
  simp [hword]

end

/-- Settles O43: one clause each for what the register commands and rows read, write and refuse. -/
theorem registersAreReadAndWritten : Obligations.RegistersAreReadAndWritten := by
  unfold Obligations.RegistersAreReadAndWritten
  refine ⟨fun h addr count s hm hsome hmost hfirst => ?_, fun h s hm => ?_,
    fun h addr s hm hunaligned => regRead_single hm (addrProblem_unaligned hunaligned),
    fun h addr s hm haligned hfar => regRead_single hm (addrProblem_beyond haligned hfar), fun h v s hm hidle => ?_,
    fun h v s hm hstarted hchange => ?_, fun h mask value s hm hc => ?_, fun v s hready => ?_,
    fun addr v s hready hunaligned => ?_, fun v s hready hlow hhigh hnew => ?_, fun v s hready hlow hhigh hnew hdraw hinput => ?_,
    fun s hready hlatched => ?_, fun s hready hlatching => ?_, fun i s hready => ?_, fun v s hready => ?_,
    fun addr s k hready hk haddr => ?_⟩
  · have heq := regRead_checked (addr := addr) hm hsome hmost
    rw [hfirst] at heq
    exact heq
  · have hreg := regAt_deviceId hm.1
    have hfirst : firstProblem s ((List.range (1 : BitVec 16).toNat).map fun i => (0x10000 : BitVec 32).toNat + 4 * i) = none :=
      (firstProblem_single (s := s) 0x10000).trans (by rw [addrProblem_mapped (by decide) hreg]; rfl)
    have heq := regRead_checked (addr := 0x10000) (count := 1) hm (by decide) (by decide)
    rw [hfirst] at heq
    have hwords : regWords ((List.range (1 : BitVec 16).toNat).map fun i => (0x10000 : BitVec 32).toNat + 4 * i) [] s =
        (bytesLE 4 0xD718, s) := by
      have hword := readWord_single hreg rfl false
      change regWords [0x10000] [] s = _
      unfold regWords
      rw [hword]
      rfl
    rw [hwords] at heq
    exact heq
  · have hfree : writeRefused 0x30000 v.toNat s = false := by rw [writeRefused, hidle, Bool.false_and]
    refine ⟨_, regWrite_single hm hfree (addrProblem_mapped (by decide) (regAt_period hm.1)), ?_⟩
    change (writeWord 0x30000 v.toNat s).tick = _ ∧ counter (writeWord 0x30000 v.toNat s) cRegClamp = _ ∧
      Only [.tick, .counters] s (writeWord 0x30000 v.toNat s)
    rw [writeWord_period]
    obtain ⟨u, hu⟩ : ∃ u, u = clampCounted (decide (v.toNat % 8192 < 25 ∨ 5000 < v.toNat % 8192)) s := ⟨_, rfl⟩
    have honly : Only [.counters] s u := by rw [hu]; exact clampCounted_only _
    have htick : u.tick = s.tick := honly .tick (by decide)
    have hset : Only [.tick] u { u with tick := { u.tick with period := max 25 (min 5000 (v.toNat % 8192)) } } := only_of_patch rfl
    have hcount : counter u cRegClamp = counter s cRegClamp + if v.toNat % 8192 < 25 ∨ 5000 < v.toNat % 8192 then 1 else 0 := by
      rw [hu, counter_clampCounted]
      simp only [decide_eq_true_eq]
    rw [← hu]
    exact ⟨by rw [← htick], hcount, (honly.trans hset).mono (by decide)⟩
  · refine regWrite_refused hm ?_
    change writeRefused 0x30000 v.toNat s = true
    rw [writeRefused, hstarted, fieldsAt_period]
    have hchanged : field v.toNat 0 13 ≠ s.tick.period := by rw [field_low]; exact hchange
    simp [fieldChanges, hchanged]
  · have hfree : writeRefused 0xB0000 (mergeBits s.power.throttleC mask.toNat value.toNat) s = false :=
      writeRefused_anytime (by rw [fieldsAt_throttle]; simp)
    refine ⟨_, regRmw_written hm (regWord_throttle hm.1 hc) hfree (addrProblem_mapped (by decide) (regAt_throttle hm.1)), ?_⟩
    change (writeWord 0xB0000 _ s).power.throttleC = _ ∧ Only [.power, .counters] s (writeWord 0xB0000 _ s)
    rw [writeWord_throttle]
    have hset (t : Nat) (u : State) : Only [.power] u { u with power := { u.power with throttleC := t } } := only_of_patch rfl
    exact ⟨rfl, ((clampCounted_only _).trans (hset _ _)).mono (by decide)⟩
  · have hfree : writeRefused 0xC0020 v.toNat s = false := writeRefused_anytime (by rw [fieldsAt_suspect]; simp)
    exact ⟨_, registerWrite_free hready hfree (addrProblem_mapped (by decide) (regAt_suspect hready)), writeWord_suspect _⟩
  · refine (next_of_ready hready rfl).trans (congrArg _ (if_pos ?_))
    rw [addrProblem_unaligned hunaligned]
    rfl
  · have hword : writeWord 0xA0010 v.toNat s = setSoftCap v.toNat s := by
      rw [writeWord_inRange (s := s) fieldsAt_capSoft (by decide) (by decide) (by decide)
        ((field_low _ _).trans (Nat.mod_eq_of_lt (by simp only; omega))) hlow hhigh]
      exact if_neg hnew
    obtain ⟨hsoft, -, honly⟩ := reportLowCap_spec
      (s := { s with power := { s.power with capSoft := v.toNat, capLowReported := false } })
    have hfirst : Only [.power] s { s with power := { s.power with capSoft := v.toNat, capLowReported := false } } := only_of_patch rfl
    exact ⟨_, (next_of_ready hready rfl).trans (congrArg _ hword), hsoft, (hfirst.trans honly).mono (by decide)⟩
  · have hword : writeWord 0xA0014 v.toNat s = allLit (fun q => { q with sCap := 16 }) (hardCapTaken v.toNat s) := by
      rw [writeWord_inRange (s := s) fieldsAt_capHard (by decide) (by decide) (by decide)
        ((field_low _ _).trans (Nat.mod_eq_of_lt (by simp only; omega))) hlow hhigh]
      exact (if_neg hnew).trans (setHardCap_above hdraw hinput)
    obtain ⟨hrest, honly⟩ := allLit_spec (s := hardCapTaken v.toNat s) (fun q => { q with sCap := 16 })
    have hfirst : Only [.power] s (hardCapTaken v.toNat s) := only_of_patch rfl
    refine ⟨_, (next_of_ready hready rfl).trans (congrArg _ hword), ?_, ?_, (hfirst.trans honly).mono (by decide)⟩
    · exact congrArg (a₁ := powerRest _) PowerS.capHard hrest
    · exact congrArg (a₁ := powerRest _) PowerS.ceilingMw hrest
  · exact ⟨_, (next_of_ready hready rfl).trans (congrArg _ (if_neg (ne_true_of_eq_false hlatched))), rfl, only_of_patch rfl⟩
  · exact ⟨_, (next_of_ready hready rfl).trans (congrArg _ (if_pos hlatching)), rfl, only_of_patch rfl⟩
  · exact ⟨_, next_of_ready hready rfl, mapGet_mapUpd_same (d := ({} : FaultRec)) s.fault.records i.val fun r => { r with valid := false },
      fun k hk => mapGet_mapUpd_ne (d := ({} : FaultRec)) s.fault.records (fun r => { r with valid := false }) hk, only_of_patch rfl⟩
  · exact ⟨_, next_of_ready hready rfl, rfl, only_of_patch rfl⟩
  · have hreg := regAt_faultCounter hready hk haddr
    have hlow : (addr.toNat % 2 ^ 16 - (0x8000 + 8 * k)) / 4 = 0 := by omega
    have hword : readWord false addr.toNat s = some (field (counter s (448 + k)) 0 32,
        { s with cmdLatch := some (addr.toNat + 4, field (counter s (448 + k)) 32 32) }) := by
      unfold readWord
      rw [hreg]
      dsimp only
      rw [hlow]
      rfl
    refine ⟨{ s with cmdLatch := some (addr.toNat + 4, field (counter s (448 + k)) 32 32) }, ?_, rfl, only_of_patch rfl⟩
    refine (next_of_ready hready rfl).trans (congrArg _ ?_)
    rw [hword]

end Sys2Proof.Machine

/-! SUPPORT. The sideband (R533 to R535). -/

namespace Sys2Proof.Machine

section
variable {s : State}

theorem whenAnswering_on (f : State → State) (hanswers : s.side.answering = true) : whenAnswering f s = f s := if_pos hanswers

/-! ## Commands and replies -/

theorem sideCommand_nack (hanswers : s.side.answering = true) {bytes : Fin 65536} {pkt : Packet}
    (htaken : s.side.mailbox.isSome = true) : exec (.sidebandCommandWrite bytes pkt) s = .next (sideNack s) :=
  congrArg Host.Outcome.next ((whenAnswering_on _ hanswers).trans (if_pos (by rw [htaken]; rfl)))

/-- The packet in the mailbox, and no reply yet. -/
def mailed (pkt : Packet) (s : State) : State :=
  { s with side := { s.side with nack := false, mailbox := some pkt, reply := [], replyReady := false } }

theorem sideCommand_taken (hanswers : s.side.answering = true) (hready : Ready s) {bytes : Fin 65536} {pkt : Packet}
    (hfree : s.side.mailbox = none) (hsize : bytes.val = 32 + pkt.length.toNat) :
    exec (.sidebandCommandWrite bytes pkt) s = .next (runPacket .sideband pkt (mailed pkt s)) :=
  congrArg Host.Outcome.next ((whenAnswering_on _ hanswers).trans
    ((if_neg (by rw [hfree, executes_of_ready hready]; exact Bool.false_ne_true)).trans (if_neg (not_not.mpr hsize))))

theorem length_identifyBody : (identifyBody s).length = 64 := by
  unfold identifyBody
  simp only [List.length_append, length_bytesLE, List.length_replicate]

theorem length_encodeStatus (r : StatusRec) : (encodeStatus r).length = 16 := length_bytesLE _ _

/-- A body that one entry holds stands behind its status record. -/
theorem replyEntries_short {size : Nat} {r : StatusRec} {body : List Byte} (hfits : body.length ≤ size - 16) :
    (replyEntries size r body).flatten.drop 16 = body := by
  have hone : replyEntries size r body = [encodeStatus { r with length := body.length } ++ body] := by
    unfold replyEntries cutReply
    dsimp only
    rw [if_pos hfits, List.take_of_length_le hfits]
  rw [hone, List.flatten_cons, List.flatten_nil, List.append_nil]
  exact List.drop_left' (length_encodeStatus _)

/-- The reply on the sideband, spoken. -/
theorem reply_sideband {h : CmdHdr} {status detail : Nat} {body : List Byte} {final : Bool} (horigin : h.origin = .sideband)
    (hspoken : h.quiet = false) : ∃ r, reply h status detail body final s =
      { s with side := { s.side with reply := replyEntries 4096 r body, replyReady := final
                                     irq := if s.side.i2c then s.side.irq else s.side.irq + 1 } } := by
  unfold reply
  rw [horigin, hspoken]
  exact ⟨_, rfl⟩

theorem identify_sideband (hready : Ready s) {pkt : Packet} (hformat : formatRefusal pkt = none) (hbody : pkt.body = some .identify)
    (hctx : pkt.ctx = 0xFF#8) : runPacket .sideband pkt (mailed pkt s) =
      done (headerOf .sideband pkt) (identifyBody s) (mailed pkt s) :=
  (runPacket_runs (executes_of_ready (s := mailed pkt s) hready) hformat hbody).trans
    (command_module (s := mailed pkt s) hready hctx rfl rfl)

theorem replyRead_final (hanswers : s.side.answering = true) {p : Packet} (htaken : s.side.mailbox = some p)
    (hfinal : s.side.replyReady = true) : exec .sidebandReplyRead s = .next
      { s with side := { s.side with read := s.side.reply.flatten, nack := s.side.reply.isEmpty, reply := [], mailbox := none
                                     replyReady := false } } := by
  refine congrArg Host.Outcome.next ((whenAnswering_on _ hanswers).trans ?_)
  have hidle : (s.side.i2c && !s.side.replyReady) = false := by rw [hfinal, Bool.not_true, Bool.and_false]
  unfold readReply
  dsimp only
  rw [htaken, hidle, hfinal]
  rfl

theorem replyRead_busy (hanswers : s.side.answering = true) {p : Packet} (htaken : s.side.mailbox = some p)
    (howed : s.side.replyReady = false) (hi2c : s.side.i2c = true) : exec .sidebandReplyRead s = .next
      { s with side := { s.side with read := busyRecord p, nack := false } } := by
  refine congrArg Host.Outcome.next ((whenAnswering_on _ hanswers).trans ?_)
  have hbusy : (s.side.i2c && !s.side.replyReady) = true := by rw [hi2c, howed]; rfl
  unfold readReply
  dsimp only
  rw [htaken]
  exact if_pos hbusy

/-! ## Registers -/

/-- A read on the sideband's path moves its own latch alone. -/
theorem readWord_side {addr v : Nat} {u : State} (hread : readWord true addr s = some (v, u)) :
    u = { s with sideLatch := u.sideLatch } := by
  unfold readWord at hread
  dsimp only at hread
  split at hread
  · exact absurd hread (by simp)
  · split at hread
    · cases hread
      rfl
    · split at hread
      · cases hread
        rfl
      · split at hread
        · split at hread <;> (cases hread; rfl)
        · cases hread
          rfl

theorem sideRead_mapped (hanswers : s.side.answering = true) {addr : BitVec 32} {v : Nat} {u : State}
    (hmapped : addrProblem s addr.toNat = none) (hread : readWord true addr.toNat s = some (v, u)) :
    exec (.sidebandRegRead addr) s = .next { u with side := { u.side with read := bytesLE 4 v, nack := false } } := by
  refine congrArg Host.Outcome.next ((whenAnswering_on _ hanswers).trans ((if_neg (by rw [hmapped]; exact Bool.false_ne_true)).trans ?_))
  rw [hread]

theorem sideRead_unaligned (hanswers : s.side.answering = true) {addr : BitVec 32} (hunaligned : addr.toNat % 4 ≠ 0) :
    exec (.sidebandRegRead addr) s = .next (sideNack s) :=
  congrArg Host.Outcome.next ((whenAnswering_on _ hanswers).trans (if_pos (by rw [addrProblem_unaligned hunaligned]; rfl)))

theorem sideWrite_throttle (hanswers : s.side.answering = true) (hready : Ready s) (v : BitVec 32) :
    exec (.sidebandRegWrite 0xB0000 v) s = .next (sideAck (writeWord 0xB0000 v.toNat s)) := by
  have hfree : writeRefused 0xB0000 v.toNat s = false := writeRefused_anytime (by rw [fieldsAt_throttle]; simp)
  have hmapped : addrProblem s 0xB0000 = none := addrProblem_mapped (by decide) (regAt_throttle hready)
  have hpass : ((addrProblem s 0xB0000).isSome || writeRefused 0xB0000 v.toNat s || decide (s.boot.state ≠ .ready)) = false := by
    rw [hmapped, hfree, hready]
    rfl
  exact congrArg Host.Outcome.next ((whenAnswering_on _ hanswers).trans (if_neg (ne_true_of_eq_false hpass)))

end

/-- Settles O44: one clause each for the sideband's commands, replies, registers and addresses. -/
theorem sidebandAnswers : Obligations.SidebandAnswers := by
  unfold Obligations.SidebandAnswers
  refine ⟨fun bytes pkt s hanswers htaken => ?_, fun bytes pkt s hanswers hready hfree hsize hformat hbody hctx hspoken => ?_,
    fun p s hanswers htaken hfinal => ?_, fun p s hanswers htaken howed hi2c => ?_, fun addr v u s hanswers hmapped hread => ?_,
    fun addr s hanswers hunaligned => ?_, fun v s hanswers hready => ?_, fun addr s hanswers hnone hi3c => ?_,
    fun s hanswers hnone => ?_, fun bytes pkt s hsilent => ?_⟩
  · exact ⟨_, sideCommand_nack hanswers htaken, rfl, only_of_patch rfl⟩
  · obtain ⟨r, hreply⟩ := reply_sideband (s := mailed pkt s) (h := headerOf .sideband pkt) (status := 0) (detail := 0)
      (body := identifyBody s) (final := true) rfl hspoken
    refine ⟨_, (sideCommand_taken hanswers hready hfree hsize).trans
      (congrArg _ ((identify_sideband hready hformat hbody hctx).trans hreply)), rfl, rfl, rfl, ?_, only_of_patch rfl⟩
    exact replyEntries_short (by rw [length_identifyBody]; decide)
  · exact ⟨_, replyRead_final hanswers htaken hfinal, rfl, rfl, rfl, rfl, only_of_patch rfl⟩
  · exact ⟨_, replyRead_busy hanswers htaken howed hi2c, rfl, only_of_patch rfl⟩
  · have hlatch := readWord_side hread
    refine ⟨_, sideRead_mapped hanswers hmapped hread, ?_, rfl, ?_, ?_⟩
    · rw [hlatch]
    · rw [hlatch]
    · rw [hlatch]
      exact only_of_patch rfl
  · exact ⟨_, sideRead_unaligned hanswers hunaligned, rfl, only_of_patch rfl⟩
  · have hset (n : Nat) (u : State) : Only [.power] u { u with power := { u.power with throttleC := n } } := only_of_patch rfl
    have hword := writeWord_throttle (s := s) v.toNat
    have hwritten : Only [.power, .counters] s (writeWord 0xB0000 v.toNat s) := by
      rw [hword]
      exact ((clampCounted_only _).trans (hset _ _)).mono (by decide)
    have hack (u : State) : Only [.side] u (sideAck u) := only_of_patch rfl
    have hside : (writeWord 0xB0000 v.toNat s).side = s.side := hwritten .side (by decide)
    refine ⟨_, sideWrite_throttle hanswers hready v, ?_, ?_, (hwritten.trans (hack _)).mono (by decide)⟩
    · exact congrArg (fun u : State => u.power.throttleC) hword
    · exact congrArg (fun d : SidebandS => { d with nack := false }) hside
  · refine ⟨_, congrArg Host.Outcome.next ((whenAnswering_on _ hanswers).trans (if_neg ?_)), rfl, rfl, only_of_patch rfl⟩
    rw [hnone, hi3c]
    exact Bool.false_ne_true
  · refine ⟨_, congrArg Host.Outcome.next ((whenAnswering_on _ hanswers).trans (if_neg ?_)), rfl, only_of_patch rfl⟩
    rw [hnone]
    exact Bool.false_ne_true
  · exact congrArg Host.Outcome.next (if_neg (ne_true_of_eq_false hsilent))

end Sys2Proof.Machine

/-! SUPPORT. The start of the module (R426 to R432). -/

namespace Sys2Proof.Machine

/-! ## The journal's pushes leave the rest of flash -/

section
variable {s t : State}

/-- Flash but for the journal. -/
def flashRest (s : State) : FlashS := { s.flash with journal := [], journalBase := 0 }

theorem journalPush_flashRest (e : JournalEntry) : flashRest (journalPush e s) = flashRest s := by
  unfold journalPush
  dsimp only
  split <;> rfl

theorem journalEntry_flashRest (step result code : Nat) (slotB : Bool) (data : Nat) :
    flashRest (journalEntry step result code slotB data s) = flashRest s := journalPush_flashRest _

theorem passStep_flashRest (step data : Nat) : flashRest (passStep step data s) = flashRest s :=
  (journalEntry_flashRest _ _ _ _ _).trans (journalEntry_flashRest _ _ _ _ _)

theorem journalEntry_boot (step result code : Nat) (slotB : Bool) (data : Nat) :
    (journalEntry step result code slotB data s).boot = s.boot := journalEntry_only step result code slotB data .boot (by decide)

theorem passStep_boot (step data : Nat) : (passStep step data s).boot =
    { s.boot with lastStep := step, step := step, begunAt := s.now } := by
  have htwice := (journalEntry_only (s := s) step 0 0 s.boot.slotB 0).trans (journalEntry_only step 1 0 s.boot.slotB data)
  have hboot : (journalEntry step 1 0 s.boot.slotB data (journalEntry step 0 0 s.boot.slotB 0 s)).boot = s.boot :=
    htwice .boot (by decide)
  have hnow : (journalEntry step 1 0 s.boot.slotB data (journalEntry step 0 0 s.boot.slotB 0 s)).now = s.now :=
    htwice .now (by decide)
  unfold passStep
  dsimp only
  rw [hboot, hnow]

theorem passStep_only (step data : Nat) : Only [.flash, .boot] s (passStep step data s) :=
  (passStep_grows _ _ s).onlyIn _ (by decide)

/-- The entry just written, as Table 14.10's records are read. -/
theorem journalEntry_getLast (step result code : Nat) (slotB : Bool) (data : Nat) :
    ((journalEntry step result code slotB data s).flash.journal.getLast?.map fun e => (e.step, e.result, e.code)) =
      some (step, result, code) := by
  obtain ⟨e, he, hfacts⟩ : ∃ e, journalEntry step result code slotB data s = journalPush e s ∧
    (e.step, e.result, e.code) = (step, result, code) := ⟨_, rfl, rfl⟩
  obtain ⟨l, hl⟩ := journalPush_last (s := s) e
  rw [he, hl, List.getLast?_concat, Option.map_some, hfacts]

/-! ## What a start reads from flash -/

theorem failRun_congr (h : t.flash = s.flash) : failRun t = failRun s := by
  unfold failRun failedStarts sinceReady
  rw [h]

theorem preferredSlot_congr (h : t.flash = s.flash) : preferredSlot t = preferredSlot s := by
  unfold preferredSlot
  rw [h]

theorem bundleBytes_congr (h : flashRest t = flashRest s) (b : Bool) : bundleBytes t b = bundleBytes s b := by
  have hA : t.flash.bundleA = s.flash.bundleA := congrArg (·.bundleA) h
  have hB : t.flash.bundleB = s.flash.bundleB := congrArg (·.bundleB) h
  unfold bundleBytes
  rw [hA, hB]

theorem bundleNum_congr (h : flashRest t = flashRest s) (b : Bool) : bundleNum t b = bundleNum s b := by
  unfold bundleNum
  rw [bundleBytes_congr h]

theorem bundleFault_congr (h : flashRest t = flashRest s) (b : Bool) (c : BundleChecks) : bundleFault t b c = bundleFault s b c := by
  have hkeys : t.flash.keyFuses = s.flash.keyFuses := congrArg (·.keyFuses) h
  have hstepping : t.flash.stepping = s.flash.stepping := congrArg (·.stepping) h
  unfold bundleFault formatOk keySlotOk steppingOk
  rw [bundleNum_congr h, hkeys, hstepping]

theorem bundleMeasures_congr (h : flashRest t = flashRest s) (b : Bool) : bundleMeasures t b = bundleMeasures s b := by
  unfold bundleMeasures
  rw [bundleBytes_congr h, bundleNum_congr h]

/-! ## ROM_START to VERIFY (R430) -/

/-- The state at VERIFY of a start whose first two steps pass, in the slot chosen. -/
def slotSelected (slotB : Bool) (s : State) : State := passStep 2 0 (passStep 1 0 (beginStart slotB s))

theorem slotSelected_flashRest (slotB : Bool) : flashRest (slotSelected slotB s) = flashRest s :=
  (passStep_flashRest _ _).trans (passStep_flashRest _ _)

theorem slotSelected_only (slotB : Bool) : Only [.flash, .boot] s (slotSelected slotB s) :=
  (((only_of_patch rfl : Only [.boot] s (beginStart slotB s)).trans (passStep_only _ _)).trans (passStep_only _ _)).mono (by decide)

theorem slotSelected_boot (slotB : Bool) : (slotSelected slotB s).boot = { (beginStart slotB s).boot with
    lastStep := 2, step := 2, begunAt := s.now } := by
  have hnow : (passStep 1 0 (beginStart slotB s)).now = s.now := passStep_only (s := beginStart slotB s) 1 0 .now (by decide)
  rw [slotSelected, passStep_boot, passStep_boot, hnow]

theorem stepFails_other {facts : StartFacts} {n code : Nat} (hfail : facts.failStep = some (n, code)) {k : Nat} (hk : n ≠ k) :
    stepFails facts k s = none := by
  unfold stepFails
  rw [hfail]
  exact if_neg hk

theorem stepFails_never {facts : StartFacts} (hfail : facts.failStep = none) {k : Nat} (h5 : k ≠ 5) (h8 : k ≠ 8) :
    stepFails facts k s = none := by
  unfold stepFails
  rw [hfail]
  exact (if_neg fun h => h5 h.1).trans (if_neg fun h => h8 h.1)

theorem testKind_normal (mapOk : Bool) : ∃ kind, testKind .normal mapOk s = some kind := by
  unfold testKind
  dsimp only
  split <;> exact ⟨_, rfl⟩

section
variable {facts : StartFacts} {n : Nat} (hcontact : facts.contactFails = false) (hhangs : facts.hangs = none)
  (hrom : ∀ u, stepFails facts 1 u = none) (hselect : ∀ u, stepFails facts 2 u = none)
include hcontact hhangs hrom hselect

/-- With no start failed since READY, both devices there and the bundle sound, the preferred slot starts. -/
theorem attempt_preferred (hrun : failRun s = 0) (hA : facts.devA = true) (hB : facts.devB = true)
    (hbundle : bundleFault s (preferredSlot s) (if preferredSlot s = true then facts.checksB else facts.checksA) = none) :
    ∃ kind, attempt facts (n + 1) s = startVerified facts (preferredSlot s) kind (slotSelected (preferredSlot s) s) := by
  obtain ⟨kind, hkind⟩ := testKind_normal (s := slotSelected (preferredSlot s) s) facts.mapDigestOk
  have hchoice (usable : Bool → Bool) : withDevice facts.devA facts.devB (selectSlot s usable) = some (preferredSlot s, .normal) := by
    unfold selectSlot
    rw [if_pos hrun, hA, hB]
    unfold withDevice
    dsimp only
    rw [if_pos (ite_self _)]
  have hsound : bundleFault (slotSelected (preferredSlot s) s) (preferredSlot s)
      (if preferredSlot s = true then facts.checksB else facts.checksA) = none :=
    (bundleFault_congr (slotSelected_flashRest _) _ _).trans hbundle
  refine ⟨kind, ?_⟩
  unfold slotSelected at hsound hkind ⊢
  simp only [attempt, hchoice, hcontact, hhangs, hrom, hselect, hsound, hkind, Bool.false_and, Option.map_some, Option.getD_some,
    reduceCtorEq, if_false, Bool.false_eq_true]

/-- A third failed start leaves no slot to choose. -/
theorem attempt_recovers (hrun : 3 ≤ failRun s) : attempt facts (n + 1) s = enterRecovery (slotSelected false s) := by
  have hzero : failRun s ≠ 0 := by omega
  have hchoice (usable : Bool → Bool) : withDevice facts.devA facts.devB (selectSlot s usable) = none := by
    unfold selectSlot
    rw [if_neg hzero, if_pos hrun]
    rfl
  simp only [attempt, slotSelected, hchoice, hcontact, hhangs, hrom, hselect, Bool.false_and, Option.map_none, Option.getD_none,
    reduceCtorEq, if_false, Bool.false_eq_true]

end

/-! ## The steps from POWER_UP (Table 14.8) -/

/-- A step that passes leaves the run to the steps after it. -/
theorem runSteps_passes {facts : StartFacts} {k : Nat} {f : State → State} {rest : List (Nat × (State → State))}
    (hhangs : facts.hangs = none) (hpass : stepFails facts k s = none) :
    runSteps facts ((k, f) :: rest) s = runSteps facts rest (passStep k 0 (f s)) := by
  simp only [runSteps, hhangs, hpass, reduceCtorEq, if_false]

theorem runSteps_fails {facts : StartFacts} {k code : Nat} {f : State → State} {rest : List (Nat × (State → State))}
    (hhangs : facts.hangs = none) (hfail : stepFails facts k s = some code) :
    runSteps facts ((k, f) :: rest) s = failStep k code s := by
  simp only [runSteps, hhangs, hfail, reduceCtorEq, if_false]

/-- The sideband answers. -/
def sidebandUp (s : State) : State := { s with side := { s.side with answering := true } }

/-- POWER_UP to CONTROL_UP. -/
def poweredUp (facts : StartFacts) (s : State) : State :=
  passStep 7 0 (passStep 6 0 (passStep 5 0 (leaveDark facts.darkFields (sidebandUp (passStep 4 0 s)))))

/-- The self-test noted as not run, and the defect map stored. -/
def tested (facts : StartFacts) (kind : TestKind) (s : State) : State :=
  let test := if kind = .quick then 0x09 else 0x0A
  let run := passStep test 0 (journalEntry (0x13 - test) 3 0 s.boot.slotB 0 s)
  passStep 12 0 (trainLanes facts.lanes (passStep 11 0 (storeDefects kind facts.test run)))

/-- NET_UP: the stored port configuration. -/
def netUp (s : State) : State := passStep 13 0 { s with host := { s.host with ports := s.flash.ports, allow := s.flash.allow } }

/-- READY. -/
def readied (s : State) : State := passStep 14 0 { s with boot := { s.boot with state := .ready } }

/-- A start that MEMORY_TRAIN stops. -/
theorem runSteps_memoryFails {facts : StartFacts} {kind : TestKind} {code : Nat} (hhangs : facts.hangs = none)
    (hfail : facts.failStep = some (8, code)) : runSteps facts (startSteps facts kind) s = failStep 8 code (poweredUp facts s) := by
  have hother {k : Nat} {u : State} (hk : 8 ≠ k) : stepFails facts k u = none := stepFails_other hfail hk
  have hmemory (u : State) : stepFails facts 8 u = some code := by
    unfold stepFails
    rw [hfail]
    exact if_pos rfl
  rw [startSteps, runSteps_passes hhangs (hother (by decide)), runSteps_passes hhangs (hother (by decide)),
    runSteps_passes hhangs (hother (by decide)), runSteps_passes hhangs (hother (by decide)), runSteps_fails hhangs (hmemory _),
    poweredUp, sidebandUp, id, id, id]

/-- A start in which no step fails. -/
theorem runSteps_ready {facts : StartFacts} {kind : TestKind} (hhangs : facts.hangs = none) (hfail : facts.failStep = none)
    (hfields : facts.darkFields = []) (hstack : ∃ m, m < 32 ∧ stackReachable (poweredUp facts s) m = true) :
    runSteps facts (startSteps facts kind) s =
      readied (netUp (tested facts kind (passStep 8 0 (trainMemory facts.repaired (poweredUp facts s))))) := by
  have hother {k : Nat} {u : State} (h5 : k ≠ 5) (h8 : k ≠ 8) : stepFails facts k u = none := stepFails_never hfail h5 h8
  have hpower (u : State) : stepFails facts 5 u = none := by
    unfold stepFails
    rw [hfail, hfields]
    exact if_neg (by decide)
  have hmemory : stepFails facts 8 (poweredUp facts s) = none := by
    unfold stepFails
    rw [hfail]
    refine (if_neg fun h => absurd h.1 (by decide)).trans (if_neg ?_)
    obtain ⟨m, hm, hreach⟩ := hstack
    intro hlost
    have hnot := List.all_eq_true.mp hlost.2 m (List.mem_range.mpr hm)
    rw [hreach] at hnot
    exact Bool.false_ne_true hnot
  have htest {u : State} : stepFails facts (if kind = .quick then 0x09 else 0x0A) u = none :=
    hother (by split <;> decide) (by split <;> decide)
  rw [poweredUp, sidebandUp] at hmemory
  rw [startSteps, runSteps_passes hhangs (hother (by decide) (by decide)), runSteps_passes hhangs (hpower _),
    runSteps_passes hhangs (hother (by decide) (by decide)), runSteps_passes hhangs (hother (by decide) (by decide)), id, id, id,
    runSteps_passes hhangs hmemory, runSteps_passes hhangs htest, runSteps_passes hhangs (hother (by decide) (by decide)),
    runSteps_passes hhangs (hother (by decide) (by decide)), runSteps_passes hhangs (hother (by decide) (by decide)),
    runSteps_passes hhangs (hother (by decide) (by decide)), runSteps, readied, netUp, tested, poweredUp, sidebandUp]

/-! ## What a start sets, and what its other steps leave -/

/-- The stored configuration, the spans that memory excludes, the ports, the sideband, the slot, the start's state and MEAS0 to
MEAS4 are as they were. -/
structure StartKept (s t : State) : Prop where
  defects : t.flash.memDefects = s.flash.memDefects
  stored : t.flash.ports = s.flash.ports
  excluded : t.mem.excluded = s.mem.excluded
  answering : t.side.answering = s.side.answering
  ports : t.host.ports = s.host.ports
  slot : t.boot.slotB = s.boot.slotB
  state : t.boot.state = s.boot.state
  measures : ∀ i, i < 5 → mapGet 0 t.boot.meas i = mapGet 0 s.boot.meas i

theorem StartKept.refl (s : State) : StartKept s s := ⟨rfl, rfl, rfl, rfl, rfl, rfl, rfl, fun _ _ => rfl⟩

theorem StartKept.trans {u : State} (h : StartKept s t) (k : StartKept t u) : StartKept s u :=
  ⟨k.defects.trans h.defects, k.stored.trans h.stored, k.excluded.trans h.excluded, k.answering.trans h.answering,
    k.ports.trans h.ports, k.slot.trans h.slot, k.state.trans h.state, fun i hi => (k.measures i hi).trans (h.measures i hi)⟩

theorem StartKept.of_only {ps : List Part} (h : Only ps s t) (hflash : .flash ∉ ps) (hmem : .mem ∉ ps) (hside : .side ∉ ps)
    (hhost : .host ∉ ps) (hboot : .boot ∉ ps) : StartKept s t := by
  have hf : t.flash = s.flash := h .flash hflash
  have hm : t.mem = s.mem := h .mem hmem
  have hs : t.side = s.side := h .side hside
  have hh : t.host = s.host := h .host hhost
  have hb : t.boot = s.boot := h .boot hboot
  exact ⟨by rw [hf], by rw [hf], by rw [hm], by rw [hs], by rw [hh], by rw [hb], by rw [hb], fun i _ => by rw [hb]⟩

theorem StartKept.each {α : Type} {f : α → State → State} (hf : ∀ a u, StartKept u (f a u)) (l : List α) (s : State) :
    StartKept s (each l f s) := by
  induction l generalizing s with
  | nil => exact .refl s
  | cons a l ih => exact (hf a s).trans (ih (f a s))

theorem journalEntry_startKept (step result code : Nat) (slotB : Bool) (data : Nat) :
    StartKept s (journalEntry step result code slotB data s) := by
  have honly := journalEntry_only (s := s) step result code slotB data
  have hrest := journalEntry_flashRest (s := s) step result code slotB data
  generalize journalEntry step result code slotB data s = u at honly hrest
  have hm : u.mem = s.mem := honly .mem (by decide)
  have hs : u.side = s.side := honly .side (by decide)
  have hh : u.host = s.host := honly .host (by decide)
  have hb : u.boot = s.boot := honly .boot (by decide)
  exact ⟨congrArg (·.memDefects) hrest, congrArg (·.ports) hrest, by rw [hm], by rw [hs], by rw [hh], by rw [hb], by rw [hb],
    fun i _ => by rw [hb]⟩

theorem passStep_startKept (step data : Nat) : StartKept s (passStep step data s) := by
  have hmarked (u : State) : StartKept u { u with boot := { u.boot with lastStep := step, step := step, begunAt := u.now } } :=
    ⟨rfl, rfl, rfl, rfl, rfl, rfl, rfl, fun _ _ => rfl⟩
  exact ((journalEntry_startKept _ _ _ _ _).trans (journalEntry_startKept _ _ _ _ _)).trans (hmarked _)

theorem putSize_startKept (z : SizeTable) : StartKept s (putSize z s) := by
  unfold putSize
  split
  · exact .refl s
  · exact ⟨rfl, rfl, rfl, rfl, rfl, rfl, rfl, fun _ _ => rfl⟩

theorem extendMeas_other {k i : Nat} (hne : i ≠ k) (value : List Byte) :
    mapGet 0 (extendMeas k value s).boot.meas i = mapGet 0 s.boot.meas i := mapGet_mapSet_ne hne

theorem extendMeas_startKept (value : List Byte) : StartKept s (extendMeas 5 value s) :=
  ⟨rfl, rfl, rfl, rfl, rfl, rfl, rfl, fun i hi => extendMeas_other (by omega) value⟩

theorem storeDefects_startKept (kind : TestKind) (r : TestResult) : StartKept s (storeDefects kind r s) := by
  have hstored (m : DefectMap) (start : Nat) (fabric : FabricS) : StartKept s { s with
      flash := { s.flash with defectMap := m, defectStart := start, defectQuick := m.quick }, fabric := fabric } :=
    ⟨rfl, rfl, rfl, rfl, rfl, rfl, rfl, fun _ _ => rfl⟩
  exact (((hstored _ _ _).trans (extendMeas_startKept _)).trans (journalEntry_startKept _ _ _ _ _)).trans (putSize_startKept _)

theorem trainLanes_startKept (ls : List (Nat × Nat × BitVec 80)) : StartKept s (trainLanes ls s) :=
  .of_only ((trainLanes_grows ls s).onlyIn [.beam] (by decide)) (by decide) (by decide) (by decide) (by decide) (by decide)

theorem tested_startKept (facts : StartFacts) (kind : TestKind) : StartKept s (tested facts kind s) :=
  (((((journalEntry_startKept _ _ _ _ _).trans (passStep_startKept _ _)).trans (storeDefects_startKept _ _)).trans
    (passStep_startKept _ _)).trans (trainLanes_startKept _)).trans (passStep_startKept _ _)

theorem sidebandUp_only : Only [.side] s (sidebandUp s) := only_of_patch rfl

theorem poweredUp_fabric {facts : StartFacts} (hfields : facts.darkFields = []) : (poweredUp facts s).fabric = s.fabric := by
  have hnone (u : State) : Only [] u (leaveDark [] u) := .refl _ u
  have honly := ((((passStep_only (s := s) 4 0).trans sidebandUp_only).trans (hnone _)).trans (passStep_only 5 0)).trans
    ((passStep_only 6 0).trans (passStep_only 7 0))
  rw [poweredUp, hfields]
  exact honly .fabric (by decide)

theorem stackReachable_congr (h : t.fabric = s.fabric) (m : Nat) : stackReachable t m = stackReachable s m := by
  unfold stackReachable reachablePorts isDark fieldState fieldS
  rw [h]

/-- POWER_UP lets the sideband answer. -/
theorem poweredUp_startKept {facts : StartFacts} : StartKept (sidebandUp s) (poweredUp facts s) := by
  have hanswers {u : State} (h : StartKept s u) : StartKept (sidebandUp s) (sidebandUp u) :=
    ⟨h.defects, h.stored, h.excluded, rfl, h.ports, h.slot, h.state, h.measures⟩
  have hdark (fs : List Nat) (u : State) : StartKept u (leaveDark fs u) :=
    .of_only ((leaveDark_grows fs u).onlyIn [.fabric] (by decide)) (by decide) (by decide) (by decide) (by decide) (by decide)
  exact ((hanswers (passStep_startKept 4 0)).trans (hdark facts.darkFields _)).trans
    ((passStep_startKept 5 0).trans ((passStep_startKept 6 0).trans (passStep_startKept 7 0)))

/-- Each span named is in the list of spans made of a list of rows. -/
theorem mem_spans (rows : List (Nat × Nat)) (l : List (Nat × Nat)) :
    (∀ p, p ∈ l → p ∈ rows.foldl (fun l e => if l.contains (e.1, e.2 / 2 ^ 14) then l else l ++ [(e.1, e.2 / 2 ^ 14)]) l) ∧
    (∀ e, e ∈ rows → (e.1, e.2 / 2 ^ 14) ∈
      rows.foldl (fun l e => if l.contains (e.1, e.2 / 2 ^ 14) then l else l ++ [(e.1, e.2 / 2 ^ 14)]) l) := by
  induction rows generalizing l with
  | nil => exact ⟨fun _ h => h, fun _ h => absurd h List.not_mem_nil⟩
  | cons r rows ih =>
    rw [List.foldl_cons]
    split
    next hin =>
      obtain ⟨hkept, hrows⟩ := ih l
      refine ⟨hkept, fun e he => ?_⟩
      obtain rfl | he := List.mem_cons.mp he
      · exact hkept _ (List.contains_iff_mem.mp hin)
      · exact hrows e he
    next =>
      obtain ⟨hkept, hrows⟩ := ih (l ++ [(r.1, r.2 / 2 ^ 14)])
      refine ⟨fun p hp => hkept p (List.mem_append_left _ hp), fun e he => ?_⟩
      obtain rfl | he := List.mem_cons.mp he
      · exact hkept _ (List.mem_append_right _ List.mem_cons_self)
      · exact hrows e he

theorem trainMemory_excludes (repaired : List (Nat × Nat)) (e : Nat × Nat) (he : e ∈ (trainMemory repaired s).flash.memDefects) :
    (e.1, e.2 / 2 ^ 14) ∈ (trainMemory repaired s).mem.excluded := (mem_spans _ []).2 e he

/-! ## The measurements (R425) -/

theorem extendMeas_same (k : Nat) (value : List Byte) : mapGet 0 (extendMeas k value s).boot.meas k =
    Config.sha384 (bytesLE 48 (mapGet 0 s.boot.meas k) ++ value) % 2 ^ 384 := mapGet_mapSet_same

theorem each_extendMeas_other {l : List Nat} {i : Nat} (hi : i ∉ l) (v : Nat → List Byte) :
    mapGet 0 (each l (fun k st => extendMeas k (v k) st) s).boot.meas i = mapGet 0 s.boot.meas i := by
  induction l generalizing s with
  | nil => rfl
  | cons k l ih =>
    have hne : i ≠ k := fun h => hi (h ▸ List.mem_cons_self)
    have hout : i ∉ l := fun h => hi (List.mem_cons_of_mem _ h)
    exact (ih hout).trans (extendMeas_other hne _)

/-- Each register of a list of distinct ones is extended once. -/
theorem each_extendMeas_mem {l : List Nat} (hnodup : l.Nodup) {i : Nat} (hi : i ∈ l) (v : Nat → List Byte) :
    mapGet 0 (each l (fun k st => extendMeas k (v k) st) s).boot.meas i =
      Config.sha384 (bytesLE 48 (mapGet 0 s.boot.meas i) ++ v i) % 2 ^ 384 := by
  induction l generalizing s with
  | nil => exact absurd hi List.not_mem_nil
  | cons k l ih =>
    obtain ⟨hout, hrest⟩ := List.nodup_cons.mp hnodup
    obtain rfl | hin := List.mem_cons.mp hi
    · exact (each_extendMeas_other hout v).trans (extendMeas_same i (v i))
    · have hne : i ≠ k := fun h => hout (h ▸ hin)
      have hlater := ih hrest hin (s := extendMeas k (v k) s)
      rw [extendMeas_other hne] at hlater
      exact hlater

/-- The state that VERIFY leaves: the bundle's interface noted and its digests measured. -/
def measured (slotB : Bool) (kind : TestKind) (s : State) : State :=
  each (List.range 5) (fun i st => extendMeas i (bytesLE 48 (nth 0 (bundleMeasures s slotB) i)) st)
    { s with boot := { s.boot with gpe := bundleGpe s slotB, version := bundleVersion s slotB, iface := bundleEpochs s slotB
                                   quick := decide (kind = .quick) } }

/-- The state with which the steps from POWER_UP begin. -/
def verified (slotB : Bool) (kind : TestKind) (s : State) : State :=
  passStep 3 (bundleVersion s slotB + 2 ^ 64 * bundleGpe s slotB) (measured slotB kind s)

theorem startVerified_eq (facts : StartFacts) (slotB : Bool) (kind : TestKind) :
    startVerified facts slotB kind s = afterReady (runSteps facts (startSteps facts kind) (verified slotB kind s)) := rfl

theorem measured_only (slotB : Bool) (kind : TestKind) : Only [.boot] s (measured slotB kind s) := by
  have hextended (v : Nat → List Byte) (u : State) : Only [.boot] u (each (List.range 5) (fun i st => extendMeas i (v i) st) u) :=
    (Grows.each (.refl 32 u) fun i w => extendMeas_grows i (v i) w).onlyIn _ (by decide)
  exact ((only_of_patch rfl : Only [.boot] s { s with boot := _ }).trans (hextended _ _)).mono (by decide)

theorem extendMeas_slot (k : Nat) (value : List Byte) : (extendMeas k value s).boot.slotB = s.boot.slotB := rfl

theorem each_extendMeas_slot (l : List Nat) (v : Nat → List Byte) :
    (each l (fun k st => extendMeas k (v k) st) s).boot.slotB = s.boot.slotB := by
  induction l generalizing s with
  | nil => rfl
  | cons k l ih => exact ih.trans (extendMeas_slot k (v k))

theorem measured_slot (slotB : Bool) (kind : TestKind) : (measured slotB kind s).boot.slotB = s.boot.slotB :=
  each_extendMeas_slot _ _

theorem measured_measures (slotB : Bool) (kind : TestKind) {i : Nat} (hi : i < 5) : mapGet 0 (measured slotB kind s).boot.meas i =
    Config.sha384 (bytesLE 48 (mapGet 0 s.boot.meas i) ++ bytesLE 48 (nth 0 (bundleMeasures s slotB) i)) % 2 ^ 384 :=
  each_extendMeas_mem List.nodup_range (List.mem_range.mpr hi) _

/-! ## After READY -/

theorem eventCtx_startKept (ctx code detail : Nat) (body : List Byte) : StartKept s (eventCtx ctx code detail body s) := by
  have hgrows := eventCtx_grows ctx code detail body s
  have hb : (eventCtx ctx code detail body s).boot = s.boot := hgrows.same .boot rfl
  have hf : (eventCtx ctx code detail body s).flash = s.flash := hgrows.same .flash rfl
  have hmem : (memRest (eventCtx ctx code detail body s)).excluded = (memRest s).excluded := by rw [eventCtx_memRest]
  have hrings (l : List Nat) (r : StatusRec) (data : List Byte) : (each l (eventToRing r data) s).side = s.side :=
    (Grows.each (.refl _ s) fun n u => eventToRing_grows r data n u).same .side rfl
  have hside : (eventCtx ctx code detail body s).side.answering = s.side.answering := by
    unfold eventCtx
    dsimp only
    rw [hrings]
    split <;> rfl
  exact ⟨by rw [hf], by rw [hf], hmem, hside, eventCtx_host (·.ports) (fun _ _ _ => rfl) _ _ _ _ _, by rw [hb], by rw [hb],
    fun i _ => by rw [hb]⟩

theorem loseUnreachable_startKept : StartKept s (loseUnreachable s) := by
  unfold loseUnreachable
  refine .each (fun m u => ?_) _ _
  unfold loseStack
  split
  · exact .refl u
  · exact ⟨rfl, rfl, rfl, rfl, rfl, rfl, rfl, fun _ _ => rfl⟩

theorem darkField_startKept (f cause : Nat) : StartKept s (darkField f cause s) := by
  have hoff (u : State) : StartKept u (dropPorts f (dropCores f (setField f { state := .dark, pllLocked := false, controlRunning := false
                                                                              mapCopy := false } u))) :=
    ⟨rfl, rfl, rfl, rfl, rfl, rfl, rfl, fun _ _ => rfl⟩
  have hqueues (u : State) : StartKept u (dropMemoryPorts f u) := ⟨rfl, rfl, rfl, rfl, rfl, rfl, rfl, fun _ _ => rfl⟩
  have hlanes (u : State) : StartKept u (dropLanes f u) := .of_only ((dropLanes_grows f u).onlyIn [.beam] (by decide))
    (by decide) (by decide) (by decide) (by decide) (by decide)
  have hpending (u : State) : StartKept u { u with fabric := { u.fabric with rebuildPending := true } } :=
    ⟨rfl, rfl, rfl, rfl, rfl, rfl, rfl, fun _ _ => rfl⟩
  have hout (u : State) : StartKept u (fieldOut u) := .of_only ((fieldOut_grows u).onlyIn [.sent, .grp, .place] (by decide))
    (by decide) (by decide) (by decide) (by decide) (by decide)
  unfold darkField
  split
  · exact .refl s
  · exact ((((((hoff _).trans (hqueues _)).trans (hlanes _)).trans loseUnreachable_startKept).trans (hpending _)).trans
      (putSize_startKept _)).trans      ((eventCtx_startKept _ _ _ _).trans (hout _))

theorem faultEvent_startKept (r : FaultRec) : StartKept s (faultEvent r s) :=
  (StartKept.of_only ((recordFault_grows r s).onlyIn [.fault, .grp] (by decide)) (by decide) (by decide) (by decide) (by decide)
    (by decide)).trans (eventCtx_startKept _ _ _ _)

theorem afterReady_startKept : StartKept s (afterReady s) := by
  have hroutes (u : State) : StartKept u (installRoutes u) := .of_only ((installRoutes_grows u).onlyIn [.fabric] (by decide))
    (by decide) (by decide) (by decide) (by decide) (by decide)
  have hparts (u : State) : StartKept u (darkenParts u) :=
    .each (fun f v => (faultEvent_startKept _).trans (darkField_startKept f 7)) _ u
  unfold afterReady
  split
  · exact (((StartKept.each (fun f u => eventCtx_startKept _ _ _ _) _ s).trans (hparts _)).trans (hroutes _)).trans (putSize_startKept _)
  · exact .refl s

end

/-! ## The start as a whole -/

/-- NET_UP takes the stored ports and leaves the rest. -/
theorem netUp_startKept (s : State) :
    StartKept { s with host := { s.host with ports := s.flash.ports, allow := s.flash.allow } } (netUp s) :=
  passStep_startKept 13 0

theorem readied_startKept (s : State) : StartKept { s with boot := { s.boot with state := .ready } } (readied s) :=
  passStep_startKept 14 0

/-- What stands once the steps from POWER_UP have passed and what follows READY has been done. -/
theorem readyStart_spec (facts : StartFacts) (kind : TestKind) (v : State) :
    ∃ t, t = afterReady (readied (netUp (tested facts kind (passStep 8 0 (trainMemory facts.repaired (poweredUp facts v)))))) ∧
      t.boot.state = .ready ∧ t.boot.slotB = v.boot.slotB ∧ t.side.answering = true ∧ t.host.ports = v.flash.ports ∧
      t.flash.memDefects = (v.flash.memDefects.filter fun e => !facts.repaired.contains e) ∧
      (∀ e, e ∈ t.flash.memDefects → (e.1, e.2 / 2 ^ 14) ∈ t.mem.excluded) ∧
      ∀ i, i < 5 → mapGet 0 t.boot.meas i = mapGet 0 v.boot.meas i := by
  obtain ⟨up, hup⟩ : ∃ up, up = poweredUp facts v := ⟨_, rfl⟩
  have hpower : StartKept (sidebandUp v) up := hup ▸ poweredUp_startKept
  have hspans := fun e => trainMemory_excludes (s := up) facts.repaired e
  obtain ⟨trained, htrained⟩ : ∃ trained, trained = trainMemory facts.repaired up := ⟨_, rfl⟩
  obtain ⟨hrows, hstored, hside, hboot⟩ :
    trained.flash.memDefects = (up.flash.memDefects.filter fun e => !facts.repaired.contains e) ∧
    trained.flash.ports = up.flash.ports ∧ trained.side = up.side ∧ trained.boot = up.boot := htrained ▸ ⟨rfl, rfl, rfl, rfl⟩
  rw [← htrained] at hspans
  obtain ⟨net, hnet⟩ : ∃ net, net = tested facts kind (passStep 8 0 trained) := ⟨_, rfl⟩
  have htest : StartKept trained net := hnet ▸ (passStep_startKept 8 0).trans (tested_startKept facts kind)
  have hports := netUp_startKept net
  have hready := readied_startKept (netUp net)
  obtain ⟨ready, hreadied⟩ : ∃ ready, ready = netUp net := ⟨_, rfl⟩
  rw [← hreadied] at hports hready
  obtain ⟨done, hdone⟩ : ∃ done, done = readied ready := ⟨_, rfl⟩
  rw [← hdone] at hready
  have hafter := afterReady_startKept (s := done)
  obtain ⟨t, ht⟩ : ∃ t, t = afterReady done := ⟨_, rfl⟩
  rw [← ht] at hafter
  have hdefects : t.flash.memDefects = trained.flash.memDefects :=
    hafter.defects.trans (hready.defects.trans (hports.defects.trans htest.defects))
  have hexcluded : t.mem.excluded = trained.mem.excluded :=
    hafter.excluded.trans (hready.excluded.trans (hports.excluded.trans htest.excluded))
  refine ⟨t, by rw [ht, hdone, hreadied, hnet, htrained, hup], hafter.state.trans hready.state, ?_, ?_, ?_, ?_, ?_, ?_⟩
  · exact hafter.slot.trans (hready.slot.trans (hports.slot.trans (htest.slot.trans
      ((congrArg (·.slotB) hboot).trans hpower.slot))))
  · exact hafter.answering.trans (hready.answering.trans (hports.answering.trans (htest.answering.trans
      ((congrArg (·.answering) hside).trans hpower.answering))))
  · exact hafter.ports.trans (hready.ports.trans (hports.ports.trans (htest.stored.trans (hstored.trans hpower.stored))))
  · exact hdefects.trans (hrows.trans (congrArg (List.filter _) hpower.defects))
  · rw [hdefects, hexcluded]
    exact hspans
  · exact fun i hi => (hafter.measures i hi).trans ((hready.measures i hi).trans ((hports.measures i hi).trans
      ((htest.measures i hi).trans ((congrArg (fun b : BootS => mapGet 0 b.meas i) hboot).trans (hpower.measures i hi)))))

section
theorem failStep_afterReady (step code : Nat) (s : State) : afterReady (failStep step code s) = failStep step code s :=
  if_neg fun h : RunState.reset = RunState.ready => RunState.noConfusion h

/-- Recovery after a state of the first two steps. -/
theorem enterRecovery_spec (s : State) : (enterRecovery s).boot.state = .recovery ∧ (enterRecovery s).boot.meas = [] ∧
    (enterRecovery s).boot.failRun = s.boot.failRun ∧ (enterRecovery s).side.answering = true ∧
    (enterRecovery s).host.ports = s.flash.ports ∧ Only [.boot, .side, .host] s (enterRecovery s) :=
  ⟨rfl, rfl, rfl, rfl, rfl, only_of_patch rfl⟩

variable {n : Nat} {facts : StartFacts} {s : State}

/-- A due start that has begun. -/
def begunStart (n : Nat) (facts : StartFacts) (s : State) : State :=
  let s1 := atTime n s
  { s1 with boot := { s1.boot with state := .starting, startPending := false, devA := facts.devA, devB := facts.devB } }

theorem startPreamble_plain {u : State} (hheld : u.flash.heldDue = false) (hwatchdog : u.flash.watchdog = false) :
    startPreamble u = u := by
  unfold startPreamble
  dsimp only
  rw [if_neg (ne_true_of_eq_false hheld), if_neg (ne_true_of_eq_false hwatchdog)]

theorem moduleStart_due (hdue : startDue s = true) (hclock : s.boot.refclk = true) (hheld : s.flash.heldDue = false)
    (hwatchdog : s.flash.watchdog = false) : exec (.moduleStart n facts) s = .next (attempt facts 4 (begunStart n facts s)) := by
  have hnot : ¬ (!startDue (atTime n s)) = true := by
    rw [show startDue (atTime n s) = true from hdue]
    exact Bool.false_ne_true
  have hclocked : ¬ (!(atTime n s).boot.refclk) = true := by
    rw [show (atTime n s).boot.refclk = true from hclock]
    exact Bool.false_ne_true
  exact congrArg Host.Outcome.next ((if_neg hnot).trans ((if_neg hclocked).trans (congrArg (attempt facts 4)
    (startPreamble_plain (u := begunStart n facts s) hheld hwatchdog))))

theorem moduleStart_waits (hdue : startDue s = true) (hclock : s.boot.refclk = false) : exec (.moduleStart n facts) s =
    .next { atTime n s with boot := { s.boot with refclkWait := true } } := by
  have hnot : ¬ (!startDue (atTime n s)) = true := by
    rw [show startDue (atTime n s) = true from hdue]
    exact Bool.false_ne_true
  have hclocked : (!(atTime n s).boot.refclk) = true := by
    rw [show (atTime n s).boot.refclk = false from hclock]
    rfl
  exact congrArg Host.Outcome.next ((if_neg hnot).trans (if_pos hclocked))

theorem moduleStart_notDue (hdue : startDue s = false) : exec (.moduleStart n facts) s = .next (atTime n s) := by
  have hnot : (!startDue (atTime n s)) = true := by
    rw [show startDue (atTime n s) = false from hdue]
    rfl
  exact congrArg Host.Outcome.next (if_pos hnot)

theorem startStepTimeout_over (hstarting : s.boot.state = .starting) (hover : s.boot.begunAt + 2000000000 ≤ n) :
    exec (.startStepTimeout n) s =
      .next (resetModule true (journalEntry s.boot.step 2 0x0040 s.boot.slotB 0 (atTime n s))) :=
  congrArg Host.Outcome.next (if_pos ⟨hstarting, hover⟩)

theorem startStepTimeout_early (hearly : n < s.boot.begunAt + 2000000000) :
    exec (.startStepTimeout n) s = .next (atTime n s) :=
  congrArg Host.Outcome.next (if_neg fun h => absurd h.2 (Nat.not_le.mpr hearly))

end

/-- Settles O45: a start's steps followed in the order of Table 14.8, with what each sets and the others leave. -/
theorem startsReachReadyOrRecovery : Obligations.StartsReachReadyOrRecovery := by
  unfold Obligations.StartsReachReadyOrRecovery
  refine ⟨?_, ?_, ?_, ?_, ?_, ?_, ?_⟩
  · intro n facts s hdue hclock hmeas hheld hwatchdog hrun hA hB hcontact hfail hhangs hfields _ hstack hbundle
    obtain ⟨kind, hattempt⟩ := attempt_preferred (s := begunStart n facts s) (n := 3) hcontact hhangs
      (fun _ => stepFails_never hfail (by decide) (by decide)) (fun _ => stepFails_never hfail (by decide) (by decide)) hrun hA hB hbundle
    have hslot : preferredSlot (begunStart n facts s) = preferredSlot s := rfl
    rw [hslot] at hattempt
    have hbegun : Only [.now, .boot] s (begunStart n facts s) := only_of_patch rfl
    have hselected := slotSelected_only (s := begunStart n facts s) (preferredSlot s)
    have hrest := slotSelected_flashRest (s := begunStart n facts s) (preferredSlot s)
    have hboot := slotSelected_boot (s := begunStart n facts s) (preferredSlot s)
    obtain ⟨u, hu⟩ : ∃ u, u = slotSelected (preferredSlot s) (begunStart n facts s) := ⟨_, rfl⟩
    rw [← hu] at hattempt hselected hrest hboot
    have hmeasures : bundleMeasures u (preferredSlot s) = bundleMeasures s (preferredSlot s) := bundleMeasures_congr hrest _
    have hzero : u.boot.meas = [] := (congrArg (·.meas) hboot).trans hmeas
    obtain ⟨v, hv⟩ : ∃ v, v = verified (preferredSlot s) kind u := ⟨_, rfl⟩
    have hmeasured := measured_only (s := u) (preferredSlot s) kind
    have hverified : Only [.boot, .flash] u v := hv ▸ (hmeasured.trans (passStep_only _ _)).mono (by decide)
    have hkept : StartKept (measured (preferredSlot s) kind u) v := hv ▸ passStep_startKept _ _
    have hflash : (measured (preferredSlot s) kind u).flash = u.flash := hmeasured .flash (by decide)
    have hfabric : (poweredUp facts v).fabric = s.fabric :=
      (poweredUp_fabric hfields).trans ((((hbegun.trans hselected).trans hverified)) .fabric (by decide))
    have hreach : ∃ m, m < 32 ∧ stackReachable (poweredUp facts v) m = true := by
      obtain ⟨m, hm, hreachable⟩ := hstack
      exact ⟨m, hm, (stackReachable_congr hfabric m).trans hreachable⟩
    rw [startVerified_eq, ← hv, runSteps_ready hhangs hfail hfields hreach] at hattempt
    obtain ⟨t, ht, hstate, hslotB, hanswers, hports, hdefects, hspans, hregisters⟩ := readyStart_spec facts kind v
    rw [← ht] at hattempt
    refine ⟨t, (moduleStart_due hdue hclock hheld hwatchdog).trans (congrArg _ hattempt), hstate, ?_, hanswers, ?_, ?_, hspans, ?_⟩
    · exact hslotB.trans (hkept.slot.trans ((measured_slot _ _).trans (congrArg (·.slotB) hboot)))
    · exact hports.trans (hkept.stored.trans ((congrArg (·.ports) hflash).trans (congrArg (·.ports) hrest)))
    · rw [hdefects, hkept.defects, hflash]
      exact congrArg (List.filter _) (congrArg (·.memDefects) hrest)
    · intro i hi
      rw [hregisters i hi, hkept.measures i hi, measured_measures _ _ hi, hmeasures, hzero]
      rfl
  · intro n facts s hdue hclock hheld hwatchdog hrun hA hB hcontact hfail hhangs hbundle
    obtain ⟨kind, hattempt⟩ := attempt_preferred (s := begunStart n facts s) (n := 3) hcontact hhangs
      (fun _ => stepFails_other hfail (by decide)) (fun _ => stepFails_other hfail (by decide)) hrun hA hB hbundle
    obtain ⟨u, hu⟩ : ∃ u, u = poweredUp facts (verified (preferredSlot (begunStart n facts s)) kind
      (slotSelected (preferredSlot (begunStart n facts s)) (begunStart n facts s))) := ⟨_, rfl⟩
    rw [startVerified_eq, runSteps_memoryFails hhangs hfail, ← hu] at hattempt
    rw [failStep_afterReady] at hattempt
    exact ⟨_, (moduleStart_due hdue hclock hheld hwatchdog).trans (congrArg _ hattempt), rfl, rfl, rfl, journalEntry_getLast _ _ _ _ _⟩
  · intro n facts s hdue hclock hheld hwatchdog hrun hcontact hfail hhangs
    have hattempt := attempt_recovers (s := begunStart n facts s) (n := 3) hcontact hhangs
      (fun _ => stepFails_never hfail (by decide) (by decide)) (fun _ => stepFails_never hfail (by decide) (by decide)) hrun
    have hboot := slotSelected_boot (s := begunStart n facts s) false
    have hrest := slotSelected_flashRest (s := begunStart n facts s) false
    have hselected := slotSelected_only (s := begunStart n facts s) false
    obtain ⟨u, hu⟩ : ∃ u, u = slotSelected false (begunStart n facts s) := ⟨_, rfl⟩
    rw [← hu] at hattempt hboot hrest hselected
    have hbegun : Only [.now, .boot] s (begunStart n facts s) := only_of_patch rfl
    have hcount : u.boot.failRun = failRun s := congrArg (·.failRun) hboot
    have hports : u.flash.ports = s.flash.ports := congrArg (·.ports) hrest
    obtain ⟨hstate, hmeas, hfailRun, hanswers, hnet, honly⟩ := enterRecovery_spec u
    exact ⟨_, (moduleStart_due hdue hclock hheld hwatchdog).trans (congrArg _ hattempt), hstate, hmeas, hfailRun.trans hcount,
      hanswers, hnet.trans hports, ((hbegun.trans hselected).trans honly).mono (by decide)⟩
  · intro n facts s hdue hclock
    exact ⟨_, moduleStart_waits hdue hclock, rfl, only_of_patch rfl⟩
  · intro n facts s hdue
    exact ⟨_, moduleStart_notDue hdue, only_of_patch rfl⟩
  · intro n s hstarting hover
    exact ⟨_, startStepTimeout_over hstarting hover, rfl, rfl, journalEntry_getLast _ _ _ _ _⟩
  · intro n s _ hearly
    exact ⟨_, startStepTimeout_early hearly, only_of_patch rfl⟩

end Sys2Proof.Machine

/-! SUPPORT. Watchdogs, a lost clock and the resets they make (R443, R526, R530, R532, Table 14.10). -/

namespace Sys2Proof.Machine

section
variable {s : State}

theorem whenPowered_on (f : State → State) (hpowered : s.boot.state ≠ .off) : whenPowered f s = f s := if_neg hpowered

/-! ## A FAULT_RESET entry, then the reset -/

/-- What a reset with a start due leaves, whatever went before. -/
theorem resetModule_spec : (resetModule true s).boot.state = .reset ∧ (resetModule true s).boot.startPending = true ∧
    (resetModule true s).boot.refclk = s.boot.refclk ∧ (resetModule true s).flash = s.flash ∧
    (resetModule true s).pins = pinsAfterReset s ∧ (resetModule true s).tap = s.tap :=
  ⟨rfl, rfl, rfl, rfl, rfl, rfl⟩

/-- What a reset puts at its reset value. -/
theorem resetModule_atReset (startNext : Bool) : (resetModule startNext s).tick = State.reset.tick ∧
    (resetModule startNext s).stream = State.reset.stream ∧ (resetModule startNext s).mem = State.reset.mem ∧
    (resetModule startNext s).fault = State.reset.fault ∧ (resetModule startNext s).job = State.reset.job ∧
    (resetModule startNext s).counters = State.reset.counters ∧ (resetModule startNext s).red = State.reset.red ∧
    (resetModule startNext s).host = State.reset.host ∧ (resetModule startNext s).grp = State.reset.grp ∧
    (resetModule startNext s).beam = State.reset.beam :=
  ⟨rfl, rfl, rfl, rfl, rfl, rfl, rfl, rfl, rfl, rfl⟩

/-- Flash, the pins and test access after a FAULT_RESET. -/
theorem faultReset_spec (image : Nat) : (faultReset image s).boot.state = .reset ∧ (faultReset image s).boot.startPending = true ∧
    (faultReset image s).boot.refclk = s.boot.refclk ∧
    ((faultReset image s).flash.journal.getLast?.map fun e => (e.step, e.code)) = some (0x25, image) ∧
    flashRest (faultReset image s) = flashRest s ∧ (faultReset image s).pins = pinsAfterReset s ∧ (faultReset image s).tap = s.tap := by
  have honly := journalEntry_only (s := s) 0x25 0 image s.boot.slotB 0
  have hlast := journalEntry_getLast (s := s) 0x25 0 image s.boot.slotB 0
  have hrest := journalEntry_flashRest (s := s) 0x25 0 image s.boot.slotB 0
  unfold faultReset
  generalize journalEntry 0x25 0 image s.boot.slotB 0 s = u at honly hlast hrest
  obtain ⟨hstate, hpending, hclock, hflash, hpins, htap⟩ := resetModule_spec (s := u)
  have hboot : u.boot = s.boot := honly .boot (by decide)
  have hpinsKept : u.pins = s.pins := honly .pins (by decide)
  have hnow : u.now = s.now := honly .now (by decide)
  have htapKept : u.tap = s.tap := honly .tap (by decide)
  refine ⟨hstate, hpending, by rw [hclock, hboot], ?_, ?_, ?_, htap.trans htapKept⟩
  · have hcode := congrArg (Option.map fun p : Nat × Nat × Nat => (p.1, p.2.2)) hlast
    rw [Option.map_map] at hcode
    rw [hflash]
    exact hcode
  · exact (congrArg (fun f : FlashS => { f with journal := [], journalBase := 0 }) hflash).trans hrest
  · rw [hpins, pinsAfterReset, pinsAfterReset, hpinsKept, hnow]

theorem schedulerWatchdog_ready {n : Nat} (hready : Ready s) : exec (.schedulerWatchdog n) s = .next (faultReset 3 (atTime n s)) :=
  next_of_ready (s := atTime n s) hready rfl

theorem powerMgmtWatchdog_ready {n : Nat} (hready : Ready s) : exec (.powerMgmtWatchdog n) s = .next (faultReset 2 (atTime n s)) :=
  next_of_ready (s := atTime n s) hready rfl

theorem securityWatchdog_ready {n : Nat} (hready : Ready s) : exec (.securityWatchdog n) s =
    .next (resetModule true { atTime n s with flash := { s.flash with watchdog := true } }) :=
  next_of_ready (s := atTime n s) hready rfl

/-! ## REFCLK and the input -/

theorem refclkLost_ready {n : Nat} (hready : Ready s) : exec (.refclkLost n) s =
    .next (faultReset 0 { atTime n s with boot := { s.boot with refclk := false } }) := by
  have hpowered : s.boot.state ≠ .off := by rw [show s.boot.state = .ready from hready]; exact RunState.noConfusion
  have hnot : s.boot.state ≠ .reset := by rw [show s.boot.state = .ready from hready]; exact RunState.noConfusion
  exact congrArg Host.Outcome.next ((whenPowered_on (s := atTime n s) _ hpowered).trans (if_neg hnot))

theorem refclkLost_reset {n : Nat} (hreset : s.boot.state = .reset) : exec (.refclkLost n) s =
    .next { atTime n s with boot := { s.boot with refclk := false } } := by
  have hpowered : s.boot.state ≠ .off := by rw [hreset]; exact RunState.noConfusion
  exact congrArg Host.Outcome.next ((whenPowered_on (s := atTime n s) _ hpowered).trans (if_pos hreset))

theorem refclkPresent_powered {n : Nat} (hpowered : s.boot.state ≠ .off) : exec (.refclkPresent n) s =
    .next { atTime n s with boot := { s.boot with refclk := true, refclkWait := false } } :=
  congrArg Host.Outcome.next (whenPowered_on (s := atTime n s) _ hpowered)

theorem inputPowerPresent_off {n : Nat} (hoff : s.boot.state = .off) : exec (.inputPowerPresent n) s =
    .next { atTime n s with power := { s.power with present := true }
                            boot := { s.boot with state := .reset, startPending := false } } :=
  congrArg Host.Outcome.next (if_pos hoff)

/-! ## A field's control core (R415) -/

/-- The core halted and its image to be loaded again. -/
def coreHalted (f : Nat) (s : State) : State :=
  let halted := setField f { fieldS s f with controlRunning := false } s
  { halted with boot := { halted.boot with reloading := halted.boot.reloading ++ [f] } }

/-- A FIELD_RETURN that the halted core held, answered. -/
def returnAnswered (f : Nat) (s : State) : State :=
  finish (fun b => match b with | .fieldReturn g => decide (g = f) | _ => false) 0x0F01 4 [] s

theorem fieldControlWatchdog_running {f : FieldId} (hready : Ready s) (hpowered : isDark s f.val = false)
    (hrunning : (fieldS s f.val).controlRunning = true) : exec (.fieldControlWatchdog f) s =
      .next (rollFault { cls := 9, code := 4, field := f.val } 5 (returnAnswered f.val (coreHalted f.val s))) := by
  have hnot : ¬ (isDark s f.val || !(fieldS s f.val).controlRunning) = true := by
    rw [hpowered, hrunning]
    exact Bool.false_ne_true
  exact (next_of_ready hready rfl).trans (congrArg Host.Outcome.next (if_neg hnot))

theorem coreHalted_only (f : Nat) : Only [.boot, .fabric] s (coreHalted f s) := only_of_patch rfl

theorem returnAnswered_only (f : Nat) : Only [.sent, .side, .mem, .host] s (returnAnswered f s) := finish_only _ _ _ _

/-- The image that passed its digest runs again. -/
def coreReloaded (f : Nat) (s : State) : State :=
  let running := setField f { fieldS s f with controlRunning := true } s
  { running with boot := { running.boot with reloading := running.boot.reloading.filter fun g => decide (g ≠ f) } }

theorem fieldControlReloadDone_passed {f : FieldId} (hready : Ready s) (hreloading : f.val ∈ s.boot.reloading)
    (hstill : s.place.replacing = false) : exec (.fieldControlReloadDone f true) s = .next (coreReloaded f.val s) := by
  have hnot : ¬ (!s.boot.reloading.contains f.val) = true := by
    rw [List.contains_iff_mem.mpr hreloading]
    exact Bool.false_ne_true
  exact (next_of_ready hready rfl).trans (congrArg Host.Outcome.next ((if_neg hnot).trans ((if_neg Bool.false_ne_true).trans
    (if_neg (ne_true_of_eq_false hstill)))))

theorem fieldControlReloadDone_failed {f : FieldId} (hready : Ready s) (hreloading : f.val ∈ s.boot.reloading) :
    exec (.fieldControlReloadDone f false) s = .next (faultEvent { cls := 9, code := 0x0035, field := f.val } s) := by
  have hnot : ¬ (!s.boot.reloading.contains f.val) = true := by
    rw [List.contains_iff_mem.mpr hreloading]
    exact Bool.false_ne_true
  exact (next_of_ready hready rfl).trans (congrArg Host.Outcome.next ((if_neg hnot).trans (if_pos rfl)))

theorem headRecord_faultEvent (r : FaultRec) : (headRecord (faultEvent r s)).cls = r.cls ∧ (headRecord (faultEvent r s)).code = r.code ∧
    (headRecord (faultEvent r s)).field = r.field := by
  rw [headRecord, faultEvent_fault]
  simp [recordFault]

theorem rollFault_idle (r : FaultRec) {cause : Nat} (hidle : s.job.started = false) : rollFault r cause s = faultEvent r s := by
  have hkept : (faultEvent r s).job.started = false := by rw [faultEvent_job]; exact hidle
  exact if_pos (by rw [hkept]; rfl)

end

/-- Settles O46: each reset keeps flash but for its entry and puts the registers at their reset values. -/
theorem resetsKeepFlashAlone : Obligations.ResetsKeepFlashAlone := by
  unfold Obligations.ResetsKeepFlashAlone
  refine ⟨?_, ?_, ?_, ?_, ?_, ?_, ?_, ?_, ?_, ?_⟩
  · intro n s hready
    obtain ⟨hstate, hpending, -, hentry, hrest, hpins, htap⟩ := faultReset_spec (s := atTime n s) 3
    have hfuses : fuses (faultReset 3 (atTime n s)).flash = fuses s.flash :=
      (congrArg fuses hrest : fuses (flashRest (faultReset 3 (atTime n s))) = fuses (flashRest (atTime n s)))
    obtain ⟨htick, hstream, hmem, hfault, hjob, hcounters, -⟩ :=
      resetModule_atReset (s := journalEntry 0x25 0 3 s.boot.slotB 0 (atTime n s)) true
    exact ⟨_, schedulerWatchdog_ready hready, hstate, hpending, hentry, congrArg (·.bundleA) hrest, congrArg (·.bundleB) hrest, hfuses,
      htick, hstream, hmem, hfault, hjob, hcounters, hpins, htap⟩
  · intro n s hready
    obtain ⟨hstate, hpending, -, hentry, -, hpins, htap⟩ := faultReset_spec (s := atTime n s) 2
    obtain ⟨htick, -, hmem, -, -, -, hred, hhost, -⟩ :=
      resetModule_atReset (s := journalEntry 0x25 0 2 s.boot.slotB 0 (atTime n s)) true
    exact ⟨_, powerMgmtWatchdog_ready hready, hstate, hpending, hentry, htick, hmem, hred, hhost, hpins, htap⟩
  · intro n s hready
    exact ⟨_, securityWatchdog_ready hready, rfl, rfl, rfl, rfl, rfl, rfl, rfl, rfl, rfl⟩
  · intro n s hready
    obtain ⟨hstate, hpending, hclock, hentry, -⟩ :=
      faultReset_spec (s := { atTime n s with boot := { s.boot with refclk := false } }) 0
    exact ⟨_, refclkLost_ready hready, hstate, hpending, hclock, hentry, rfl⟩
  · intro n s hreset
    exact ⟨_, refclkLost_reset hreset, rfl, only_of_patch rfl⟩
  · intro n s hpowered
    exact ⟨_, refclkPresent_powered hpowered, rfl, only_of_patch rfl⟩
  · intro n s hoff
    exact ⟨_, inputPowerPresent_off hoff, rfl, rfl, rfl, only_of_patch rfl⟩
  · intro f s hready hpowered hrunning hidle
    obtain ⟨u, hu⟩ : ∃ u, u = returnAnswered f.val (coreHalted f.val s) := ⟨_, rfl⟩
    have honly : Only [.boot, .fabric, .sent, .side, .mem, .host] s u :=
      hu ▸ ((coreHalted_only f.val).trans (returnAnswered_only f.val)).mono (by decide)
    have hanswered : Only [.sent, .side, .mem, .host] (coreHalted f.val s) u := hu ▸ returnAnswered_only f.val
    have hjob : u.job = s.job := honly .job (by decide)
    have heq := fieldControlWatchdog_running hready hpowered hrunning
    rw [← hu, rollFault_idle _ (by rw [hjob]; exact hidle)] at heq
    obtain ⟨hcls, -, hfield⟩ := headRecord_faultEvent (s := u) { cls := 9, code := 4, field := f.val }
    have hlast := hanswered.trans (faultEvent_only (r := { cls := 9, code := 4, field := f.val }))
    obtain ⟨t, ht⟩ : ∃ t, t = faultEvent { cls := 9, code := 4, field := f.val } u := ⟨_, rfl⟩
    have hall := (honly.trans (faultEvent_only (r := { cls := 9, code := 4, field := f.val }))).mono
      (qs := [.sent, .boot, .side, .fault, .grp, .fabric, .mem, .host]) (by decide)
    rw [← ht] at heq hcls hfield hlast hall
    have hfabric : t.fabric = (setField f.val { fieldS s f.val with controlRunning := false } s).fabric := hlast .fabric (by decide)
    have hboot : t.boot = (coreHalted f.val s).boot := hlast .boot (by decide)
    have hfields (g : Nat) : fieldS t g = fieldS (setField f.val { fieldS s f.val with controlRunning := false } s) g :=
      fieldS_congr hfabric g
    refine ⟨t, heq, ?_, congrArg (·.reloading) hboot, fun g hg => ?_, hcls, hfield, hall⟩
    · rw [hfields, fieldS_setField_same]
    · rw [hfields, fieldS_setField_ne _ _ hg]
  · intro f s hready hreloading hstill
    refine ⟨_, fieldControlReloadDone_passed hready hreloading hstill, ?_, ?_, fun g hg => ?_, only_of_patch rfl⟩
    · exact fieldS_setField_same _ _ s
    · intro hin
      exact absurd rfl (of_decide_eq_true (List.mem_filter.mp hin).2)
    · exact fieldS_setField_ne _ s hg
  · intro f s hready hreloading
    obtain ⟨-, hcode, -⟩ := headRecord_faultEvent (s := s) { cls := 9, code := 0x0035, field := f.val }
    have honly := faultEvent_only (r := { cls := 9, code := 0x0035, field := f.val }) (s := s)
    exact ⟨_, fieldControlReloadDone_failed hready hreloading, honly .boot (by decide), honly .fabric (by decide), hcode,
      honly.mono (by decide)⟩

end Sys2Proof.Machine

/-! SUPPORT. A group lead that falls silent at a job lead of the same index (R23, R478). -/

namespace Sys2Proof.Machine

/-- A READY job lead of group 0 whose own member number is 64, that is the index of member 0 of group 1. The lead of group 1 is that
member, last heard at time 0; it has no standby lead, and the straps of its member 1 are high. -/
def sharedIndex : State :=
  { State.reset with
    boot := { State.reset.boot with state := .ready }
    job := { State.reset.job with started := true, role := .lead, member := 64, members := 2 }
    grp := { State.reset.grp with
      members := [(64, { beaconAt := some 0 })]
      roles := [{ group := 1, lead := 0, standby := none, straps := 2 }] } }

/-- The silence of the member is taken for the module's own, and nothing follows. -/
theorem beaconSilence_sharedIndex (n : Nat) : exec (.beaconSilence n 1 0) sharedIndex = .next (atTime n sharedIndex) := by
  have hown : decide (64 * (1 : GroupId).val + (0 : MemberId).val = selfIndex (atTime n sharedIndex)) = true := rfl
  exact (next_of_ready (s := sharedIndex) rfl rfl).trans (congrArg Host.Outcome.next (if_pos (by
    rw [hown, Bool.or_true, Bool.true_or])))

/-- Refutes O50: the statement asks of the job lead's member number no more than that it is a number; where it is the index of the
silent lead of group 1, that lead is not taken as lost. -/
theorem not_membersComeAndGo : ¬ Obligations.MembersComeAndGo := by
  unfold Obligations.MembersComeAndGo
  rintro ⟨-, -, -, -, hsilent, -⟩
  have hlate : 0 + silenceBound sharedIndex ≤ silenceBound sharedIndex := (Nat.zero_add _).le
  obtain ⟨t, ht, hlost, -⟩ := hsilent (silenceBound sharedIndex) 1 0 sharedIndex 0
    { group := 1, lead := 0, standby := none, straps := 2 } 1 []
    rfl rfl rfl (by decide) (by decide) rfl rfl hlate rfl rfl rfl rfl
  rw [next_unique ht (beaconSilence_sharedIndex _)] at hlost
  have hactive : (memberS sharedIndex 64).state = .active := rfl
  exact MemberState.noConfusion (hactive.symm.trans hlost)

end Sys2Proof.Machine

/-! SUPPORT. Rollback requests and notices (R485 to R488). -/

namespace Sys2Proof.Machine

/-! ## What leaves the rollback in hand -/

/-- The generation, the committed step, the rollback in hand and the mask are as they were, and a held job is held. -/
structure RollKept (s t : State) : Prop where
  roll : t.red.roll = s.red.roll
  committed : t.red.committed = s.red.committed
  rolling : t.grp.rolling = s.grp.rolling
  target : t.grp.rollTarget = s.grp.rollTarget
  cause : t.grp.rollCause = s.grp.rollCause
  mask : t.grp.mask = s.grp.mask
  held : s.job.held = true → t.job.held = true

section
variable {s t : State}

theorem RollKept.refl (s : State) : RollKept s s := ⟨rfl, rfl, rfl, rfl, rfl, rfl, id⟩

theorem RollKept.trans {u : State} (h : RollKept s t) (k : RollKept t u) : RollKept s u :=
  ⟨k.roll.trans h.roll, k.committed.trans h.committed, k.rolling.trans h.rolling, k.target.trans h.target, k.cause.trans h.cause,
    k.mask.trans h.mask, fun held => k.held (h.held held)⟩

theorem RollKept.of_only {ps : List Part} (h : Only ps s t) (hred : .red ∉ ps) (hgrp : .grp ∉ ps) (hjob : .job ∉ ps) :
    RollKept s t := by
  have hr : t.red = s.red := h .red hred
  have hg : t.grp = s.grp := h .grp hgrp
  have hj : t.job = s.job := h .job hjob
  exact ⟨by rw [hr], by rw [hr], by rw [hg], by rw [hg], by rw [hg], by rw [hg], fun held => by rw [hj]; exact held⟩

theorem RollKept.each {α : Type} {f : α → State → State} (hf : ∀ a u, RollKept u (f a u)) (l : List α) (s : State) :
    RollKept s (each l f s) := by
  induction l generalizing s with
  | nil => exact .refl s
  | cons a l ih => exact (hf a s).trans (ih (f a s))

theorem eventCtx_rollKept (ctx code detail : Nat) (body : List Byte) : RollKept s (eventCtx ctx code detail body s) :=
  .of_only (eventCtx_only _ _ _ _) (by decide) (by decide) (by decide)

theorem holdFor_rollKept (cause : Nat) : RollKept s (holdFor cause s) := by
  have hheld (holds : List Nat) : RollKept s { s with job := { s.job with holds := holds, held := true } } :=
    ⟨rfl, rfl, rfl, rfl, rfl, rfl, fun _ => rfl⟩
  exact (hheld _).trans (eventCtx_rollKept _ _ _ _)

theorem moveContrib_rollKept (m k : Nat) (ts : List Nat) : RollKept s (moveContrib m k ts s) :=
  .of_only ((moveContrib_grows m k ts s).onlyIn [.freeCtr, .cores, .place] (by decide)) (by decide) (by decide) (by decide)

theorem setBlock_rollKept (b : Nat) (o : BlockS) : RollKept s (setBlock b o s) := ⟨rfl, rfl, rfl, rfl, rfl, rfl, id⟩

theorem setCur_rollKept (b : Nat) (o : OwnerBlock) : RollKept s (setCur b o s) := by
  unfold setCur
  split <;> exact ⟨rfl, rfl, rfl, rfl, rfl, rfl, id⟩

theorem reformDrift_rollKept (b : Nat) : RollKept s (reformDrift b s) := by
  unfold reformDrift
  split
  · exact .refl s
  · exact setBlock_rollKept _ _

theorem gainTensor_rollKept (r : LayerRec) : RollKept s (gainTensor r s) := by
  have hentered (u : State) (place : PlaceS) (layers : Map LayerRec) :
      RollKept u { u with place := place, red := { u.red with layers := layers } } := ⟨rfl, rfl, rfl, rfl, rfl, rfl, id⟩
  have hforced (u : State) : RollKept u (forceRefresh r.tensor u) := ⟨rfl, rfl, rfl, rfl, rfl, rfl, id⟩
  unfold gainTensor
  refine ((hentered _ _ _).trans (.each (fun k u => ?_) _ _)).trans (hforced _)
  dsimp only
  split
  · exact ((setBlock_rollKept _ _).trans (setCur_rollKept _ _)).trans (reformDrift_rollKept _)
  · exact setBlock_rollKept _ _

/-- In a job of one group the successor's shadow duty ends with the move. -/
def shadowEnded (s : State) : State :=
  if s.job.groups ≤ 1 then
    { s with red := { s.red with shadow := [], shadowStep := [], shadowLayers := [] }, grp := { s.grp with shadowed := none } }
  else s

theorem shadowEnded_rollKept : RollKept s (shadowEnded s) := by
  unfold shadowEnded
  split
  · exact ⟨rfl, rfl, rfl, rfl, rfl, rfl, id⟩
  · exact .refl s

/-- This module takes over the tensors of a lost member. -/
def ownersGained (m k : Nat) (ts : List Nat) (s : State) : State :=
  moveContrib m k ts (shadowEnded (each (recordsFor s ts) gainTensor s))

theorem ownersGained_rollKept (m k : Nat) (ts : List Nat) : RollKept s (ownersGained m k ts s) :=
  ((RollKept.each (fun r _ => gainTensor_rollKept r) _ s).trans shadowEnded_rollKept).trans (moveContrib_rollKept m k ts)

/-- The successor named as the owner of the tensors of a lost member. -/
def ownersNamed (k : Nat) (ts : List Nat) (s : State) : State :=
  { s with grp := { s.grp with owners := ts.foldl (fun o t => mapSet 0 o (16 * t + s.job.group) (k + 1)) s.grp.owners } }

/-- Too small a carve holds the job. -/
def carveHeld (s : State) : State := if carveShort s = 0 then s else holdFor 6 s

theorem carveHeld_rollKept : RollKept s (carveHeld s) := by
  unfold carveHeld
  split
  · exact .refl s
  · exact holdFor_rollKept 6

theorem moveOwners_eq (m : Nat) : moveOwners m s = if (tensorsOf s m).isEmpty then s else match successorOf s m with
    | none => holdFor 9 s
    | some k =>
      if k ≠ (ownersNamed k (tensorsOf s m) s).job.member then moveContrib m k (tensorsOf s m) (ownersNamed k (tensorsOf s m) s)
      else carveHeld (ownersGained m k (tensorsOf s m) (ownersNamed k (tensorsOf s m) s)) := rfl

/-- The owners of a lost member passed on, to this module or another. -/
theorem moveOwners_rollKept (m : Nat) : RollKept s (moveOwners m s) := by
  have hnamed (k : Nat) (ts : List Nat) : RollKept s (ownersNamed k ts s) := ⟨rfl, rfl, rfl, rfl, rfl, rfl, id⟩
  rw [moveOwners_eq]
  split
  · exact .refl s
  · split
    · exact holdFor_rollKept _
    · split
      · exact (hnamed _ _).trans (moveContrib_rollKept _ _ _)
      · exact ((hnamed _ _).trans (ownersGained_rollKept _ _ _)).trans carveHeld_rollKept

/-- The shadow duties of a member struck out. -/
def dutiesEnded (m : Nat) (s : State) : State :=
  { s with grp := { s.grp with shadows := s.grp.shadows.filter fun x => decide (x.2 ≠ m)
                               shadowedBy := if s.grp.shadowedBy = some m then none else s.grp.shadowedBy } }

/-- A lead tells that member `k` goes on unshadowed by `m`. -/
def unshadowedTold (m k : Nat) (s : State) : State :=
  if isLead s then memberEvent (64 * s.job.group + k) (memberEvent (64 * s.job.group + m) s) else s

theorem unshadowedTold_rollKept (m k : Nat) : RollKept s (unshadowedTold m k s) := by
  unfold unshadowedTold
  split
  · exact (eventCtx_rollKept _ _ _ _).trans (eventCtx_rollKept _ _ _ _)
  · exact .refl s

theorem dropShadow_eq (m : Nat) : dropShadow m s = match s.grp.shadows.find? fun e => decide (e.2 = m) with
    | none => s
    | some e => unshadowedTold m e.1 (dutiesEnded m s) := rfl

theorem dropShadow_rollKept (m : Nat) : RollKept s (dropShadow m s) := by
  have hended : RollKept s (dutiesEnded m s) := ⟨rfl, rfl, rfl, rfl, rfl, rfl, id⟩
  rw [dropShadow_eq]
  split
  · exact .refl s
  · exact hended.trans (unshadowedTold_rollKept _ _)

theorem setMember_rollKept (m : Nat) (v : MemberS) : RollKept s (setMember m v s) := ⟨rfl, rfl, rfl, rfl, rfl, rfl, id⟩

/-- A notice's mask is in force, and the rollback in hand stays. -/
theorem applyMask_rollKept (mask : Nat) : RollKept { s with grp := { s.grp with mask := mask } } (applyMask mask s) := by
  unfold applyMask
  refine ((RollKept.each (fun m u => ?_) _ _).trans (.each (fun m u => dropShadow_rollKept m) _ _)).trans
    (.each (fun m u => moveOwners_rollKept m) _ _)
  dsimp only
  split
  · exact .refl u
  · exact setMember_rollKept _ _

theorem rollbackPlacement_only (cause : Nat) : Only [.place] s (rollbackPlacement cause s) :=
  (rollbackPlacement_grows cause s).onlyIn _ (by decide)

/-! ## A notice taken (R486) -/

/-- The module cleared: the shutter fired, the shadow owner's banks sent, cores, reduction and collectives cleared. -/
def rollbackCleared (s : State) : State :=
  stopStream true (predictUndo (rollbackRest (rollbackReduce (clearCores (restoreAtShadow (fireShutter 4 none s))))))

/-- The notice in force. -/
def rollbackBegun (m : RollbackMsg) (s : State) : State :=
  let c := rollbackCleared s
  { c with
    red := { c.red with roll := m.roll, shadowBlocks := [] }
    job := { c.job with held := true }
    grp := { c.grp with rolling := true, rollTarget := m.target, rollCause := m.cause, rollSource := m.source
                        rollHold := m.holdAfter, rollAt := c.now
                        members := c.grp.members.foldl (fun a e => mapSet {} a e.1 { e.2 with ready := false }) [] }
    place := { c.place with overrunReported := false } }

/-- The rollback told and journalled. -/
def rollbackTold (m : RollbackMsg) (s : State) : State :=
  stepJournal 1 m.target m.cause m.source (count cRollbacks 1 (eventCtx 0xFF 0x8009 m.roll (bytesLE 5 m.target) (rerunServing s)))

/-- The members, owners and placement that the notice names; it may hold the job after it. -/
def rollbackSettled (m : RollbackMsg) (s : State) : State :=
  let settled := rollbackPlacement m.cause (applyMask m.members s)
  if m.holdAfter && settled.job.holds.isEmpty then holdFor (heldOfRollback m.cause) settled else settled

theorem applyRollback_committed {m : RollbackMsg} (htarget : m.target = s.red.committed) :
    applyRollback m s = rollbackSettled m (rollbackTold m (rollbackBegun m s)) := by
  have hkept : (fireShutter 4 none s).red = s.red := (fireShutter_grows 4 none s).same .red rfl
  have hnot : ¬ m.target = (fireShutter 4 none s).red.committed + 1 := by
    rw [hkept]
    omega
  unfold applyRollback
  dsimp only
  rw [if_neg hnot]
  rfl

theorem fireShutter_rollbacks (code : Nat) (id : Option Nat) : counter (fireShutter code id s) cRollbacks = counter s cRollbacks := by
  unfold fireShutter
  split
  · rfl
  · split
    · exact counter_count_ne _ _ (by decide)
    · rfl

/-- What the clearing leaves of the parts that the notice speaks of. -/
theorem rollbackCleared_spec : (rollbackCleared s).red.committed = s.red.committed ∧ (rollbackCleared s).stream.stop = true ∧
    (rollbackCleared s).stream.discard = true ∧ (rollbackCleared s).beam.chunks = [] ∧ (rollbackCleared s).beam.positions = [] ∧
    (rollbackCleared s).tick.units = [] ∧ (rollbackCleared s).tick.slipRun = 0 ∧
    counter (rollbackCleared s) cRollbacks = counter s cRollbacks := by
  have hfired : Only [.snap, .counters] s (fireShutter 4 none s) := (fireShutter_grows 4 none s).onlyIn _ (by decide)
  have hsent (v : State) : Only [.sent] v (restoreAtShadow v) := (restoreAtShadow_grows v).onlyIn _ (by decide)
  have hcores (v : State) : Only [.fabric, .cores] v (clearCores v) := (clearCores_grows v).onlyIn _ (by decide)
  have hreduce (v : State) : Only [.grp, .mem, .red] v (rollbackReduce v) := (rollbackReduce_grows v).onlyIn _ (by decide)
  have hrest (v : State) : Only [.tick, .lead, .beam] v (rollbackRest v) := (rollbackRest_grows v).onlyIn _ (by decide)
  have hpredict (v : State) : Only [.place] v (predictUndo v) := (predictUndo_grows v).onlyIn _ (by decide)
  have hstream (v : State) : Only [.stream] v (stopStream true v) := (stopStream_grows true v).onlyIn _ (by decide)
  obtain ⟨u, hu⟩ : ∃ u, u = clearCores (restoreAtShadow (fireShutter 4 none s)) := ⟨_, rfl⟩
  have hbefore : Only [.sent, .fabric, .cores] (fireShutter 4 none s) u := hu ▸ (hsent _).trans (hcores _)
  have hred : u.red = s.red := hfired.trans hbefore .red (by decide)
  have hcommitted : (rollbackReduce u).red.committed = u.red.committed := rfl
  obtain ⟨v, hv⟩ : ∃ v, v = rollbackReduce u := ⟨_, rfl⟩
  have hreduced : Only [.grp, .mem, .red] u v := hv ▸ hreduce u
  obtain ⟨hchunks, hpositions, hunits, hslips⟩ : (rollbackRest v).beam.chunks = [] ∧ (rollbackRest v).beam.positions = [] ∧
    (rollbackRest v).tick.units = [] ∧ (rollbackRest v).tick.slipRun = 0 := ⟨rfl, rfl, rfl, rfl⟩
  obtain ⟨w, hw⟩ : ∃ w, w = predictUndo (rollbackRest v) := ⟨_, rfl⟩
  have hundone : Only [.place] (rollbackRest v) w := hw ▸ hpredict _
  obtain ⟨hstop, hdiscard⟩ : (stopStream true w).stream.stop = true ∧ (stopStream true w).stream.discard = true := ⟨rfl, rfl⟩
  have hlast := hundone.trans (hstream w)
  have hall := ((hrest v).trans hlast)
  rw [rollbackCleared, ← hu, ← hv, ← hw]
  generalize stopStream true w = x at hstop hdiscard hlast hall
  have hbeam : x.beam = (rollbackRest v).beam := hlast .beam (by decide)
  have htick : x.tick = (rollbackRest v).tick := hlast .tick (by decide)
  have hredLast : x.red = v.red := hall .red (by decide)
  have hcounters : x.counters = (fireShutter 4 none s).counters := (hbefore.trans (hreduced.trans hall)) .counters (by decide)
  refine ⟨?_, hstop, hdiscard, by rw [hbeam, hchunks], by rw [hbeam, hpositions], by rw [htick, hunits], by rw [htick, hslips],
    (counter_congr hcounters _).trans (fireShutter_rollbacks 4 none)⟩
  rw [hredLast, hv, hcommitted, hred]

theorem stepJournal_only (kind step cause source : Nat) : Only [.snap] s (stepJournal kind step cause source s) :=
  (stepJournal_grows _ _ _ _ s).onlyIn _ (by decide)

theorem rollbackTold_only (m : RollbackMsg) : Only [.sent, .side, .job, .mem, .host, .counters, .snap] s (rollbackTold m s) := by
  have hserving : Only [.sent, .side, .job, .mem, .host] s (rerunServing s) := (rerunServing_grows s).onlyIn _ (by decide)
  have hcounted (u : State) : Only [.counters] u (count cRollbacks 1 u) := count_only _ _ u
  exact (((hserving.trans (eventCtx_only _ _ _ _)).trans (hcounted _)).trans (stepJournal_only _ _ _ _)).mono (by decide)

theorem rollbackTold_counter (m : RollbackMsg) : counter (rollbackTold m s) cRollbacks = counter s cRollbacks + 1 := by
  have hserving : Only [.sent, .side, .job, .mem, .host] s (rerunServing s) := (rerunServing_grows s).onlyIn _ (by decide)
  rw [rollbackTold, counter_congr (stepJournal_only _ _ _ _ .counters (by decide)), counter_count_same,
    counter_congr ((hserving.trans (eventCtx_only 0xFF 0x8009 m.roll (bytesLE 5 m.target))) .counters (by decide))]

/-- A context's requests and its batch run again, or end. -/
theorem rerunServing_held : (rerunServing s).job.held = s.job.held := by
  have hset (n : Nat) (c : ContextS) (u : State) : Grows 8913028 u (setCtx n c u) := (setCtx_grows n c u).mono rfl
  unfold rerunServing
  dsimp only
  refine congrArg (·.held) ((Grows.each (m := 8913028) (.refl _ s) fun n u => ?_).same .job rfl)
  split
  · exact ((endRequests_grows _ _ _ u).trans (hset _ _ _)).trans (failEval_grows _ _ _ _)
  · exact (endRequests_grows _ _ _ u).trans (hset _ _ _)

theorem rollbackTold_rollKept (m : RollbackMsg) : RollKept s (rollbackTold m s) := by
  have hserving : RollKept s (rerunServing s) := by
    have honly : Only [.sent, .side, .job, .mem, .host] s (rerunServing s) := (rerunServing_grows s).onlyIn _ (by decide)
    have hr : (rerunServing s).red = s.red := honly .red (by decide)
    have hg : (rerunServing s).grp = s.grp := honly .grp (by decide)
    exact ⟨by rw [hr], by rw [hr], by rw [hg], by rw [hg], by rw [hg], by rw [hg], fun held => rerunServing_held.trans held⟩
  have hcounted (u : State) : Only [.counters] u (count cRollbacks 1 u) := count_only _ _ u
  exact (hserving.trans (eventCtx_rollKept _ _ _ _)).trans
    (.of_only ((hcounted _).trans (stepJournal_only _ _ _ _)) (by decide) (by decide) (by decide))

/-- What settling leaves of the notice that is in force. -/
theorem rollbackSettled_spec (m : RollbackMsg) : RollKept { s with grp := { s.grp with mask := m.members } } (rollbackSettled m s) ∧
    Only [.freeCtr, .sent, .side, .job, .grp, .cores, .mem, .red, .place, .host] s (rollbackSettled m s) := by
  have hmask := applyMask_rollKept (s := s) m.members
  have honly : Only [.freeCtr, .sent, .side, .job, .grp, .cores, .mem, .red, .place, .host] s (applyMask m.members s) :=
    (applyMask_grows m.members s).onlyIn _ (by decide)
  have hplaced := rollbackPlacement_only (s := applyMask m.members s) m.cause
  have hkept : RollKept (applyMask m.members s) (rollbackPlacement m.cause (applyMask m.members s)) :=
    .of_only hplaced (by decide) (by decide) (by decide)
  unfold rollbackSettled
  dsimp only
  split
  · have hheld := holdFor_rollKept (s := rollbackPlacement m.cause (applyMask m.members s)) (heldOfRollback m.cause)
    have hheldOnly : Only [.sent, .side, .job, .mem, .host] (rollbackPlacement m.cause (applyMask m.members s))
        (holdFor (heldOfRollback m.cause) (rollbackPlacement m.cause (applyMask m.members s))) := (holdFor_grows _ _).onlyIn _ (by decide)
    exact ⟨(hmask.trans hkept).trans hheld, ((honly.trans hplaced).trans hheldOnly).mono (by decide)⟩
  · exact ⟨hmask.trans hkept, (honly.trans hplaced).mono (by decide)⟩

/-! ## Requests -/

theorem rollbackRequest_jobLead {n : Nat} {req : RollbackReq} (hready : Ready s) (hstarted : s.job.started = true)
    (hlead : isJobLead s = true) : exec (.rollbackRequest n req) s =
      .next { atTime n s with grp := { s.grp with requests := s.grp.requests ++ [(req, (atTime n s).now)] } } := by
  have hmember : isLead s = true := (Bool.and_eq_true_iff.mp hlead).1
  have hnot : ¬ (!(atTime n s).job.started || !isLead (atTime n s)) = true := by
    rw [show (atTime n s).job.started = true from hstarted, show isLead (atTime n s) = true from hmember]
    exact Bool.false_ne_true
  exact (next_of_ready (s := s) hready rfl).trans (congrArg Host.Outcome.next ((if_neg hnot).trans (if_pos hlead)))

theorem rollbackRequest_passedOn {n : Nat} {req : RollbackReq} (hready : Ready s) (hstarted : s.job.started = true)
    (hlead : isLead s = true) (hother : isJobLead s = false) :
    exec (.rollbackRequest n req) s = .next (emit (.rollbackRequest req.cause req.source) (atTime n s)) := by
  have hnot : ¬ (!(atTime n s).job.started || !isLead (atTime n s)) = true := by
    rw [show (atTime n s).job.started = true from hstarted, show isLead (atTime n s) = true from hlead]
    exact Bool.false_ne_true
  exact (next_of_ready (s := s) hready rfl).trans (congrArg Host.Outcome.next ((if_neg hnot).trans
    (if_neg (ne_true_of_eq_false hother))))

theorem rollbackNotice_taken {n : Nat} {msg : RollbackMsg} (hready : Ready s) (hstarted : s.job.started = true)
    (hroll : msg.roll ≠ s.red.roll) (htarget : ¬ msg.target < s.red.committed) :
    exec (.rollbackNotice n msg) s = .next (applyRollback msg (atTime n s)) := by
  have hnot : ¬ (!(atTime n s).job.started || decide (msg.roll = (atTime n s).red.roll) ||
      decide (msg.target < (atTime n s).red.committed)) = true := by
    rw [show (atTime n s).job.started = true from hstarted, decide_eq_false (show ¬ msg.roll = (atTime n s).red.roll from hroll),
      decide_eq_false (show ¬ msg.target < (atTime n s).red.committed from htarget)]
    exact Bool.false_ne_true
  exact (next_of_ready (s := s) hready rfl).trans (congrArg Host.Outcome.next (if_neg hnot))

theorem rollbackNotice_stale {n : Nat} {msg : RollbackMsg} (hready : Ready s)
    (hstale : msg.roll = s.red.roll ∨ msg.target < s.red.committed) : exec (.rollbackNotice n msg) s = .next (atTime n s) := by
  have hdropped : (!(atTime n s).job.started || decide (msg.roll = (atTime n s).red.roll) ||
      decide (msg.target < (atTime n s).red.committed)) = true := by
    obtain hroll | htarget := hstale
    · rw [decide_eq_true (show msg.roll = (atTime n s).red.roll from hroll), Bool.or_true, Bool.true_or]
    · rw [decide_eq_true (show msg.target < (atTime n s).red.committed from htarget), Bool.or_true]
  exact (next_of_ready (s := s) hready rfl).trans (congrArg Host.Outcome.next (if_pos hdropped))

end

/-- Settles O51: the notice's own settings, which what follows it keeps. -/
theorem rollbacksRestartFromTheCommit : Obligations.RollbacksRestartFromTheCommit := by
  unfold Obligations.RollbacksRestartFromTheCommit
  refine ⟨?_, ?_, ?_, ?_, ?_⟩
  · intro n req s hready hstarted hlead
    exact ⟨_, rollbackRequest_jobLead hready hstarted hlead, rfl, only_of_patch rfl⟩
  · intro n req s hready hstarted hlead hother
    exact ⟨_, rollbackRequest_passedOn hready hstarted hlead hother, rfl, only_of_patch rfl⟩
  · intro n msg s hready hstarted hroll htarget
    obtain ⟨hcommitted, hstop, hdiscard, hchunks, hpositions, hunits, hslips, hcount⟩ := rollbackCleared_spec (s := atTime n s)
    obtain ⟨begun, hbegun⟩ : ∃ begun, begun = rollbackBegun msg (atTime n s) := ⟨_, rfl⟩
    have hset : begun.red.roll = msg.roll ∧ begun.red.committed = (rollbackCleared (atTime n s)).red.committed ∧
        begun.grp.rolling = true ∧ begun.grp.rollTarget = msg.target ∧ begun.grp.rollCause = msg.cause ∧ begun.job.held = true ∧
        begun.stream = (rollbackCleared (atTime n s)).stream ∧ begun.beam = (rollbackCleared (atTime n s)).beam ∧
        begun.tick = (rollbackCleared (atTime n s)).tick ∧ begun.counters = (rollbackCleared (atTime n s)).counters := by
      rw [hbegun]
      exact ⟨rfl, rfl, rfl, rfl, rfl, rfl, rfl, rfl, rfl, rfl⟩
    obtain ⟨hrollSet, hcommittedSet, hrolling, htargetSet, hcause, hheld, hstream, hbeam, htick, hcounters⟩ := hset
    have htold := rollbackTold_rollKept (s := begun) msg
    have htoldOnly := rollbackTold_only (s := begun) msg
    have htoldCount := rollbackTold_counter (s := begun) msg
    obtain ⟨told, htoldEq⟩ : ∃ told, told = rollbackTold msg begun := ⟨_, rfl⟩
    rw [← htoldEq] at htold htoldOnly htoldCount
    obtain ⟨hsettled, hsettledOnly⟩ := rollbackSettled_spec (s := told) msg
    have heq := (rollbackNotice_taken (n := n) hready hstarted hroll (by omega)).trans
      (congrArg Host.Outcome.next (applyRollback_committed (s := atTime n s) htarget))
    rw [← hbegun, ← htoldEq] at heq
    obtain ⟨t, ht⟩ : ∃ t, t = rollbackSettled msg told := ⟨_, rfl⟩
    rw [← ht] at heq hsettled hsettledOnly
    have hlast := htoldOnly.trans hsettledOnly
    have hstreamT : t.stream = begun.stream := hlast .stream (by decide)
    have hbeamT : t.beam = begun.beam := hlast .beam (by decide)
    have htickT : t.tick = begun.tick := hlast .tick (by decide)
    have hcountersT : t.counters = told.counters := hsettledOnly .counters (by decide)
    refine ⟨t, heq, ?_, ?_, ?_, ?_, ?_, hsettled.mask, ?_, ?_, ?_, ?_, ?_, ?_, ?_, ?_⟩
    · exact hsettled.roll.trans (htold.roll.trans hrollSet)
    · exact hsettled.committed.trans (htold.committed.trans (hcommittedSet.trans hcommitted))
    · exact hsettled.rolling.trans (htold.rolling.trans hrolling)
    · exact hsettled.target.trans (htold.target.trans htargetSet)
    · exact hsettled.cause.trans (htold.cause.trans hcause)
    · exact hsettled.held (htold.held hheld)
    · rw [hstreamT, hstream, hstop]
    · rw [hstreamT, hstream, hdiscard]
    · rw [hbeamT, hbeam, hchunks]
    · rw [hbeamT, hbeam, hpositions]
    · rw [htickT, htick, hunits]
    · rw [htickT, htick, hslips]
    · rw [counter_congr hcountersT, htoldCount, counter_congr hcounters, hcount]
      rfl
  · intro n msg s hready _ hroll
    exact ⟨_, rollbackNotice_stale hready (.inl hroll), only_of_patch rfl⟩
  · intro n msg s hready _ htarget
    exact ⟨_, rollbackNotice_stale hready (.inr htarget), only_of_patch rfl⟩

end Sys2Proof.Machine

/-! SUPPORT. The ticks that the job lead issues (R35 to R41, R50 to R56, R62 to R65). -/

namespace Sys2Proof.Machine

/-! ## What leaves the tick that is to be sent -/

/-- The time, TICK_OUT, the source of the tick and the flywheel's run are as they were. -/
structure TickKept (s t : State) : Prop where
  now : t.now = s.now
  pulses : t.tick.tickOut = s.tick.tickOut
  source : t.tick.source = s.tick.source
  flyRun : t.lead.flyRun = s.lead.flyRun

section
variable {s t : State}

theorem TickKept.refl (s : State) : TickKept s s := ⟨rfl, rfl, rfl, rfl⟩

theorem TickKept.trans {u : State} (h : TickKept s t) (k : TickKept t u) : TickKept s u :=
  ⟨k.now.trans h.now, k.pulses.trans h.pulses, k.source.trans h.source, k.flyRun.trans h.flyRun⟩

theorem TickKept.of_only {ps : List Part} (h : Only ps s t) (hnow : .now ∉ ps) (htick : .tick ∉ ps) (hlead : .lead ∉ ps) :
    TickKept s t := by
  have ht : t.tick = s.tick := h .tick htick
  have hl : t.lead = s.lead := h .lead hlead
  exact ⟨h .now hnow, by rw [ht], by rw [ht], by rw [hl]⟩

theorem enterPauses_only : Only [.sent, .side, .job, .stream, .mem, .host] s (enterPauses s) := (enterPauses_grows s).onlyIn _ (by decide)

theorem enterPauses_tickKept : TickKept s (enterPauses s) := .of_only enterPauses_only (by decide) (by decide) (by decide)

theorem takeSlip_tickKept : TickKept s (takeSlip s) := ⟨rfl, rfl, rfl, rfl⟩

theorem slipPolicy_only : Only [.sent, .side, .job, .mem, .host] s (slipPolicy s) := (slipPolicy_grows s).onlyIn _ (by decide)

theorem slipPolicy_tickKept : TickKept s (slipPolicy s) := .of_only slipPolicy_only (by decide) (by decide) (by decide)

theorem reports_tickKept (cur : Nat) : TickKept s (reportOverrun (reportStarved cur s)) := by
  have hstarved : Only [.sent, .side, .job, .mem, .host] s (reportStarved cur s) := (reportStarved_grows cur s).onlyIn _ (by decide)
  have hoverrun (u : State) : Only [.sent, .side, .fault, .grp, .mem, .place, .host] u (reportOverrun u) :=
    (reportOverrun_grows u).onlyIn _ (by decide)
  exact .of_only (hstarved.trans (hoverrun _)) (by decide) (by decide) (by decide)

/-- The rollback that the job lead starts clears slips and slot work, not the tick's count of pulses. -/
theorem rollbackCleared_tickKept : TickKept s (rollbackCleared s) := by
  have hfired : Only [.snap, .counters] s (fireShutter 4 none s) := (fireShutter_grows 4 none s).onlyIn _ (by decide)
  have hsent (v : State) : Only [.sent] v (restoreAtShadow v) := (restoreAtShadow_grows v).onlyIn _ (by decide)
  have hcores (v : State) : Only [.fabric, .cores] v (clearCores v) := (clearCores_grows v).onlyIn _ (by decide)
  have hreduce (v : State) : Only [.grp, .mem, .red] v (rollbackReduce v) := (rollbackReduce_grows v).onlyIn _ (by decide)
  have hrest (v : State) : TickKept v (rollbackRest v) := ⟨rfl, rfl, rfl, rfl⟩
  have hpredict (v : State) : Only [.place] v (predictUndo v) := (predictUndo_grows v).onlyIn _ (by decide)
  have hstream (v : State) : Only [.stream] v (stopStream true v) := (stopStream_grows true v).onlyIn _ (by decide)
  have hbefore : TickKept s (rollbackReduce (clearCores (restoreAtShadow (fireShutter 4 none s)))) :=
    .of_only (((hfired.trans (hsent _)).trans (hcores _)).trans (hreduce _)) (by decide) (by decide) (by decide)
  exact (hbefore.trans (hrest _)).trans (.of_only ((hpredict _).trans (hstream _)) (by decide) (by decide) (by decide))

theorem applyRollback_tickKept {m : RollbackMsg} (htarget : m.target = s.red.committed) : TickKept s (applyRollback m s) := by
  have hbegun : TickKept (rollbackCleared s) (rollbackBegun m s) := ⟨rfl, rfl, rfl, rfl⟩
  rw [applyRollback_committed htarget]
  exact (rollbackCleared_tickKept.trans hbegun).trans
    (.of_only ((rollbackTold_only m).trans (rollbackSettled_spec m).2) (by decide) (by decide) (by decide))

theorem startRollback_tickKept (due : List RollbackReq) : TickKept s (startRollback due s) := by
  have hsent : TickKept s (emit (.rollbackNotice (encodeRollback (noticeOf due s))) s) := ⟨rfl, rfl, rfl, rfl⟩
  have hrolled := hsent.trans (applyRollback_tickKept (m := noticeOf due s)
    (s := emit (.rollbackNotice (encodeRollback (noticeOf due s))) s) rfl)
  unfold startRollback
  dsimp only
  split
  · exact hrolled.trans (.of_only (rollbackPlacement_only 2) (by decide) (by decide) (by decide))
  · exact hrolled

/-! ## Sending a tick (R65) -/

/-- The delays of the lanes read the job's size, the lanes and the fabric. -/
theorem sendDelays_congr (hjob : t.job = s.job) (hbeam : t.beam = s.beam) (hfabric : t.fabric = s.fabric) :
    sendDelays t = sendDelays s := by
  have hlane : laneS t = laneS s := by
    funext c
    rw [laneS, laneS, hbeam]
  have hin : laneIn t = laneIn s := funext fun c => laneIn_congr hlane hfabric c
  have hstream : isStreamLane t = isStreamLane s := funext fun c => isStreamLane_congr hfabric c
  have hfar : farEnd t = farEnd s := by
    funext c
    rw [farEnd, farEnd, hlane]
  unfold sendDelays
  rw [hjob, hin, hstream, hfar, hlane]

/-- The tick on its way, before the lead's state follows to the standby lead. -/
def tickOnItsWay (m : TickMsg) (s : State) : State :=
  let noted := { s with lead := { s.lead with
    issued := some m, issuedAt := s.now, expected := (if m.flywheel then s.lead.expected else s.now) + periodNs s
    flyRun := if m.flywheel then s.lead.flyRun + 1 else 0 } }
  emit (.tick (encodeTick m) (sendDelays noted)) (pulseOut noted)

theorem sendTick_eq (m : TickMsg) : sendTick m s = sendLeadState (tickOnItsWay m s) := rfl

theorem tickOnItsWay_only (m : TickMsg) : Only [.sent, .lead, .tick] s (tickOnItsWay m s) := only_of_patch rfl

theorem sendLeadState_only : Only [.sent] s (sendLeadState s) := (sendLeadState_grows s).onlyIn _ (by decide)

theorem sendTick_only (m : TickMsg) : Only [.sent, .lead, .tick] s (sendTick m s) :=
  ((tickOnItsWay_only m).trans sendLeadState_only).mono (by decide)

theorem sendTick_spec (m : TickMsg) : (sendTick m s).lead.issued = some m ∧ (sendTick m s).lead.issuedAt = s.now ∧
    (sendTick m s).lead.flyRun = (if m.flywheel then s.lead.flyRun + 1 else 0) ∧
    (sendTick m s).tick = { s.tick with tickOut := s.tick.tickOut + 1 } ∧
    (sendTick m s).lead.overruns = s.lead.overruns ∧
    Msg.tick (encodeTick m) (sendDelays (sendTick m s)) ∈ (sendTick m s).sent := by
  have honly := sendTick_only (s := s) m
  have hlast : Only [.sent] (tickOnItsWay m s) (sendTick m s) := sendLeadState_only
  have hlead : (sendTick m s).lead = (tickOnItsWay m s).lead := hlast .lead (by decide)
  have htick : (sendTick m s).tick = (tickOnItsWay m s).tick := hlast .tick (by decide)
  have hnoted : ∃ x : LeadS, sendDelays { s with lead := x } = sendDelays s ∧
      Msg.tick (encodeTick m) (sendDelays { s with lead := x }) ∈ (tickOnItsWay m s).sent :=
    ⟨_, sendDelays_congr rfl rfl rfl, List.mem_append_right _ List.mem_cons_self⟩
  obtain ⟨x, hdelays, hemitted⟩ := hnoted
  rw [hdelays, ← sendDelays_congr (honly .job (by decide)) (honly .beam (by decide)) (honly .fabric (by decide))] at hemitted
  exact ⟨congrArg (·.issued) hlead, congrArg (·.issuedAt) hlead, congrArg (·.flyRun) hlead, htick, congrArg (·.overruns) hlead,
    mem_sent_of_grows (sendLeadState_grows _) hemitted⟩

/-- From `s`, a tick has been sent with the count and the marks of `m`. -/
def TickSent (m : TickMsg) (s t : State) : Prop := ∃ m' u, t = sendTick m' u ∧ TickKept s u ∧ m'.tickCount = m.tickCount ∧
  m'.external = m.external ∧ m'.flywheel = m.flywheel

theorem TickKept.sent {u : State} {m : TickMsg} (h : TickKept s u) (k : TickSent m u t) : TickSent m s t := by
  obtain ⟨m', v, ht, hkept, hmarks⟩ := k
  exact ⟨m', v, ht, h.trans hkept, hmarks⟩

theorem TickSent.spec {m : TickMsg} (h : TickSent m s t) : t.tick.tickOut = s.tick.tickOut + 1 ∧ t.tick.source = s.tick.source ∧
    t.lead.issuedAt = s.now ∧ t.lead.flyRun = (if m.flywheel then s.lead.flyRun + 1 else 0) ∧ ∃ m', t.lead.issued = some m' ∧
    m'.tickCount = m.tickCount ∧ m'.external = m.external ∧ m'.flywheel = m.flywheel ∧
    Msg.tick (encodeTick m') (sendDelays t) ∈ t.sent := by
  obtain ⟨m', u, rfl, hkept, hcount, hexternal, hflywheel⟩ := h
  obtain ⟨hissued, hat, hrun, htick, -, hsent⟩ := sendTick_spec (s := u) m'
  refine ⟨?_, ?_, hat.trans hkept.now, ?_, m', hissued, hcount, hexternal, hflywheel, hsent⟩
  · rw [htick, ← hkept.pulses]
  · rw [htick, ← hkept.source]
  · rw [hrun, hflywheel, hkept.flyRun]

theorem sendHold_sent (m : TickMsg) : TickSent m s (sendHold m s) :=
  ⟨{ m with hold := true }, dropSlips s, rfl, ⟨rfl, rfl, rfl, rfl⟩, rfl, rfl, rfl⟩

/-! ## The branches of a tick -/

theorem rollbackTick_sent (m : TickMsg) : TickSent m s (rollbackTick m s) := by
  have hslips (u : State) : TickKept u (if slipDue u && !u.job.held then takeSlip u else u) := by
    split
    · exact takeSlip_tickKept
    · exact .refl u
  have hrequests (u : State) (rs : List (RollbackReq × Nat)) : TickKept u { u with grp := { u.grp with requests := rs } } :=
    ⟨rfl, rfl, rfl, rfl⟩
  unfold rollbackTick
  exact (((hslips s).trans (hrequests _ _)).trans (startRollback_tickKept _)).sent (sendHold_sent m)

/-- The step that a boundary is to begin. -/
def boundaryStep (m : TickMsg) (s : State) : Nat := if s.lead.restartStep then s.red.committed + 1 else m.step + 1

/-- The held tick of a boundary; a withdrawn epoch shuts a training job's pass. -/
def boundaryHold (m : TickMsg) (s : State) : State :=
  let shut := hasTraining s && s.stream.withdraw
  sendHold { m with passBoundary := shut, epoch := if shut then 0 else m.epoch } s

/-- The first tick of a step. -/
def boundaryOpen (m : TickMsg) (step : Nat) (s : State) : State :=
  sendTick { m with step := step, slot := 0, stepBoundary := true, passBoundary := true, epoch := nextEpoch s m.epoch }
    { s with lead := { s.lead with restartStep := false }, tick := { s.tick with slipRun := 0 }
             job := { s.job with starveReported := false } }

theorem boundaryTick_eq (m : TickMsg) : boundaryTick m s =
    if gated (enterPauses s) (boundaryStep m (enterPauses s)) m.epoch then
      boundaryHold m (reportOverrun (reportStarved m.epoch (enterPauses s)))
    else boundaryOpen m (boundaryStep m (enterPauses s)) (enterPauses s) := rfl

theorem boundaryHold_sent (m : TickMsg) : TickSent m s (boundaryHold m s) :=
  ⟨_, dropSlips s, rfl, ⟨rfl, rfl, rfl, rfl⟩, rfl, rfl, rfl⟩

theorem boundaryOpen_sent (m : TickMsg) (step : Nat) : TickSent m s (boundaryOpen m step s) :=
  ⟨_, _, rfl, ⟨rfl, rfl, rfl, rfl⟩, rfl, rfl, rfl⟩

theorem boundaryTick_sent (m : TickMsg) : TickSent m s (boundaryTick m s) := by
  rw [boundaryTick_eq]
  split
  · exact (enterPauses_tickKept.trans (reports_tickKept m.epoch)).sent (boundaryHold_sent m)
  · exact enterPauses_tickKept.sent (boundaryOpen_sent m _)

theorem slipTick_sent (m : TickMsg) : TickSent m s (slipTick m s) := by
  have hrun (u : State) : TickKept u { u with tick := { u.tick with slipRun := u.tick.slipRun + 1 } } := ⟨rfl, rfl, rfl, rfl⟩
  exact ⟨_, _, rfl, (takeSlip_tickKept.trans (hrun _)).trans slipPolicy_tickKept, rfl, rfl, rfl⟩

theorem slotTick_sent (m : TickMsg) : TickSent m s (slotTick m s) := ⟨_, _, rfl, ⟨rfl, rfl, rfl, rfl⟩, rfl, rfl, rfl⟩

/-- Whatever holds, slips or begins, one tick is sent that follows the last. -/
theorem issueTick_sent {m : TickMsg} (ext fly : Bool) (hissued : s.lead.issued = some m) :
    TickSent (nextMsg ext fly s) s (issueTick ext fly s) := by
  have hsome : ¬ s.lead.issued.isNone = true := by
    rw [hissued]
    exact Bool.false_ne_true
  unfold issueTick
  dsimp only
  rw [if_neg hsome, hissued]
  dsimp only
  split
  · exact sendHold_sent _
  · split
    · exact rollbackTick_sent _
    · split
      · exact boundaryTick_sent _
      · split
        · exact slipTick_sent _
        · split
          · exact boundaryTick_sent _
          · exact slotTick_sent _

theorem nextMsg_after {m : TickMsg} (ext fly : Bool) (hissued : s.lead.issued = some m) : nextMsg ext fly s =
    { m with tickCount := m.tickCount + 1, slip := false, passBoundary := false, stepBoundary := false, hold := false
             external := ext, flywheel := fly, group := 0 } := by
  unfold nextMsg
  rw [hissued]

/-- The facts of a tick that follows `m`. -/
theorem issueTick_follows {m : TickMsg} (ext fly : Bool) (hissued : s.lead.issued = some m) :
    (issueTick ext fly s).tick.tickOut = s.tick.tickOut + 1 ∧ (issueTick ext fly s).tick.source = s.tick.source ∧
    (issueTick ext fly s).lead.issuedAt = s.now ∧ (issueTick ext fly s).lead.flyRun = (if fly then s.lead.flyRun + 1 else 0) ∧
    ∃ m', (issueTick ext fly s).lead.issued = some m' ∧ m'.tickCount = m.tickCount + 1 ∧ m'.external = ext ∧ m'.flywheel = fly ∧
      Msg.tick (encodeTick m') (sendDelays (issueTick ext fly s)) ∈ (issueTick ext fly s).sent := by
  have hspec := (issueTick_sent ext fly hissued).spec
  rw [nextMsg_after ext fly hissued] at hspec
  exact hspec

/-! ## A tick inside a step -/

section
variable {m : TickMsg} (hissued : s.lead.issued = some m) (hending : s.job.ending = false) (hrequests : s.grp.requests = [])
  (hhold : m.hold = false) (hrestart : s.lead.restartStep = false)
include hissued hending hrequests hhold hrestart

theorem issueTick_inStep : issueTick false false s =
    if slipDue s && !(decide (lastSlotOf s ≤ m.slot) && !inputsIn s) then slipTick (nextMsg false false s) s
    else if lastSlotOf s ≤ m.slot then boundaryTick (nextMsg false false s) s
    else slotTick (nextMsg false false s) s := by
  simp only [issueTick, nextMsg_after false false hissued, hissued, hending, hrequests, hhold, hrestart, Option.isNone_some,
    List.any_nil, Bool.or_false, Bool.false_eq_true, if_false]

/-- With no slip due the next slot's tick is sent. -/
theorem issueTick_slot (hoverruns : s.lead.overruns = []) (hforwarded : s.lead.groupSlip = []) (hslot : m.slot < lastSlotOf s) :
    issueTick false false s = slotTick (nextMsg false false s) s := by
  have hnone : slipDue s = false := by
    unfold slipDue
    rw [hoverruns, hforwarded]
    rfl
  rw [issueTick_inStep hissued hending hrequests hhold hrestart, hnone]
  exact (if_neg Bool.false_ne_true).trans (if_neg (by omega))

/-- A report that has stood for 2 µs slips the tick, but for a last slot that waits for input. -/
theorem issueTick_slip {o : Overrun} (ho : o ∈ s.lead.overruns) (hdue : o.at_ + 2000 ≤ s.now)
    (hplace : m.slot < lastSlotOf s ∨ inputsIn s = true) : issueTick false false s = slipTick (nextMsg false false s) s := by
  have hslip : slipDue s = true := by
    unfold slipDue
    rw [List.any_eq_true.mpr ⟨o, ho, decide_eq_true hdue⟩]
    rfl
  have hgoes : (decide (lastSlotOf s ≤ m.slot) && !inputsIn s) = false := by
    obtain hslot | hinputs := hplace
    · rw [decide_eq_false (by omega), Bool.false_and]
    · rw [hinputs, Bool.not_true, Bool.and_false]
  rw [issueTick_inStep hissued hending hrequests hhold hrestart, hslip, hgoes]
  exact if_pos rfl

end

/-- What a slipped tick counts and takes. -/
theorem slipTick_spec (m : TickMsg) {o : Overrun} (hdue : o.at_ + 2000 ≤ s.now) :
    counter (slipTick m s) cSlip = counter s cSlip + 1 ∧ (slipTick m s).tick.slipRun = s.tick.slipRun + 1 ∧
    o ∉ (slipTick m s).lead.overruns ∧ (slipTick m s).lead.issued = some { m with slip := true } := by
  have hcount : counter (takeSlip s) cSlip = counter s cSlip + 1 := counter_count_same _ _ _
  obtain ⟨run, hrun⟩ : ∃ run,
    run = { takeSlip s with tick := { (takeSlip s).tick with slipRun := (takeSlip s).tick.slipRun + 1 } } := ⟨_, rfl⟩
  have hran : run.counters = (takeSlip s).counters ∧ run.tick.slipRun = s.tick.slipRun + 1 ∧
      run.lead.overruns = s.lead.overruns.filter fun o => !decide (o.at_ + 2000 ≤ s.now) := by
    rw [hrun]
    exact ⟨rfl, rfl, rfl⟩
  obtain ⟨hcounts, hslips, hleft⟩ := hran
  have hpolicy := slipPolicy_only (s := run)
  have hlead : (slipPolicy run).lead = run.lead := hpolicy .lead (by decide)
  have htickKept : (slipPolicy run).tick = run.tick := hpolicy .tick (by decide)
  have hsend := sendTick_only (s := slipPolicy run) { m with slip := true }
  obtain ⟨hissued, -, -, htick, hoverruns, -⟩ := sendTick_spec (s := slipPolicy run) { m with slip := true }
  have hslip : slipTick m s = sendTick { m with slip := true } (slipPolicy run) := by rw [hrun]; rfl
  rw [hslip]
  refine ⟨?_, ?_, ?_, hissued⟩
  · rw [counter_congr ((hpolicy.trans hsend) .counters (by decide)), counter_congr hcounts, hcount]
  · rw [htick, htickKept, hslips]
  · rw [hoverruns, hlead, hleft]
    intro hin
    have hlate := (List.mem_filter.mp hin).2
    rw [decide_eq_true hdue] at hlate
    exact Bool.false_ne_true hlate

/-! ## The first tick of a job (R38) -/

/-- The first tick of a job that HALT_N does not hold. -/
def firstMsg (s : State) : TickMsg :=
  { tickCount := 0, step := 1, slot := 0, epoch := nextEpoch s 0, slip := false, passBoundary := true, stepBoundary := true
    hold := false, external := false, flywheel := false, group := 0 }

theorem issueTick_first (hnone : s.lead.issued = none) (hhalt : haltAsked s = false) :
    issueTick false false s = sendTick (firstMsg s) (finish isJobStart 0 0 [] s) := by
  have honly := finish_only (s := s) isJobStart 0 0 []
  have hfirst : s.lead.issued.isNone = true := by
    rw [hnone]
    rfl
  have hmsg : nextMsg false false s = { tickCount := 0, step := 0, slot := 0, epoch := 0, slip := false, passBoundary := false
                                        stepBoundary := false, hold := false, external := false, flywheel := false, group := 0 } := by
    unfold nextMsg
    rw [hnone]
  have hasked : haltAsked (finish isJobStart 0 0 [] s) = false := by
    have hpins : (finish isJobStart 0 0 [] s).pins = s.pins := honly .pins (by decide)
    have hgrp : (finish isJobStart 0 0 [] s).grp = s.grp := honly .grp (by decide)
    unfold haltAsked at hhalt ⊢
    rw [hpins, hgrp]
    exact hhalt
  have hepoch : nextEpoch (finish isJobStart 0 0 [] s) 0 = nextEpoch s 0 := by
    have hstream : (finish isJobStart 0 0 [] s).stream = s.stream := honly .stream (by decide)
    unfold nextEpoch
    rw [hstream]
  unfold issueTick
  dsimp only
  rw [if_pos hfirst, hmsg, firstTick]
  dsimp only
  rw [hasked, hepoch]
  rfl

/-! ## The commands of the tick -/

section
variable {τ : Nat} {m : TickMsg} (hready : Ready s) (hissues : issues s = true)
include hready hissues

theorem issueTick_begins (hnone : s.lead.issued = none) :
    exec (.issueTick τ) s = .next (issueTick false false (atTime τ s)) := by
  have hnot : ¬ (!issues (atTime τ s)) = true := by
    rw [show issues (atTime τ s) = true from hissues]
    exact Bool.false_ne_true
  have hfirst : (atTime τ s).lead.issued.isNone = true := by
    rw [show (atTime τ s).lead.issued = none from hnone]
    rfl
  exact (next_of_ready (s := s) hready rfl).trans (congrArg Host.Outcome.next ((if_neg hnot).trans (if_pos hfirst)))

theorem issueTick_due (hissued : s.lead.issued = some m) (hsource : s.tick.source = .internal)
    (hdue : s.lead.issuedAt + periodNs s ≤ max s.now τ) : exec (.issueTick τ) s = .next (issueTick false false (atTime τ s)) := by
  have hnot : ¬ (!issues (atTime τ s)) = true := by
    rw [show issues (atTime τ s) = true from hissues]
    exact Bool.false_ne_true
  have hlater : ¬ (atTime τ s).lead.issued.isNone = true := by
    rw [show (atTime τ s).lead.issued = some m from hissued]
    exact Bool.false_ne_true
  have hnow : (decide ((atTime τ s).tick.source = .internal) &&
      decide ((atTime τ s).lead.issuedAt + periodNs (atTime τ s) ≤ (atTime τ s).now)) = true := by
    rw [decide_eq_true (show (atTime τ s).tick.source = .internal from hsource),
      decide_eq_true (show (atTime τ s).lead.issuedAt + periodNs (atTime τ s) ≤ (atTime τ s).now from hdue)]
    rfl
  exact (next_of_ready (s := s) hready rfl).trans (congrArg Host.Outcome.next
    ((if_neg hnot).trans ((if_neg hlater).trans (if_pos hnow))))

section
variable (hissued : s.lead.issued = some m) (hsource : s.tick.source = .external)
include hissued hsource

theorem tickInEdge_valid (hlow : s.lead.expected ≤ max s.now τ + periodNs s / 100)
    (hhigh : max s.now τ ≤ s.lead.expected + periodNs s / 100) :
    exec (.tickInEdge τ) s = .next (issueTick true false (pulseAt 6 (atTime τ s))) := by
  have hexternal : ¬ decide ((pulseAt 6 (atTime τ s)).tick.source ≠ .external) = true := by
    rw [decide_eq_false (show ¬ (pulseAt 6 (atTime τ s)).tick.source ≠ .external from not_not_intro hsource)]
    exact Bool.false_ne_true
  have hnot : ¬ (!issues (pulseAt 6 (atTime τ s))) = true := by
    rw [show issues (pulseAt 6 (atTime τ s)) = true from hissues]
    exact Bool.false_ne_true
  have hinside : ((pulseAt 6 (atTime τ s)).lead.issued.isSome &&
      decide ((pulseAt 6 (atTime τ s)).lead.expected ≤ (pulseAt 6 (atTime τ s)).now + periodNs (pulseAt 6 (atTime τ s)) / 100) &&
      decide ((pulseAt 6 (atTime τ s)).now ≤
        (pulseAt 6 (atTime τ s)).lead.expected + periodNs (pulseAt 6 (atTime τ s)) / 100)) = true := by
    rw [show (pulseAt 6 (atTime τ s)).lead.issued = some m from hissued]
    exact Bool.and_eq_true_iff.mpr ⟨decide_eq_true hlow, decide_eq_true hhigh⟩
  exact (next_of_ready (s := s) hready rfl).trans (congrArg Host.Outcome.next
    ((if_neg hexternal).trans ((if_neg hnot).trans (if_pos hinside))))

omit hissued in
theorem tickInEdge_rejected
    (hout : s.lead.expected + periodNs s / 100 < max s.now τ ∨ max s.now τ + periodNs s / 100 < s.lead.expected) :
    exec (.tickInEdge τ) s = .next (count cExtReject 1 (pulseAt 6 (atTime τ s))) := by
  have hexternal : ¬ decide ((pulseAt 6 (atTime τ s)).tick.source ≠ .external) = true := by
    rw [decide_eq_false (show ¬ (pulseAt 6 (atTime τ s)).tick.source ≠ .external from not_not_intro hsource)]
    exact Bool.false_ne_true
  have hnot : ¬ (!issues (pulseAt 6 (atTime τ s))) = true := by
    rw [show issues (pulseAt 6 (atTime τ s)) = true from hissues]
    exact Bool.false_ne_true
  have houtside : ¬ ((pulseAt 6 (atTime τ s)).lead.issued.isSome &&
      decide ((pulseAt 6 (atTime τ s)).lead.expected ≤ (pulseAt 6 (atTime τ s)).now + periodNs (pulseAt 6 (atTime τ s)) / 100) &&
      decide ((pulseAt 6 (atTime τ s)).now ≤
        (pulseAt 6 (atTime τ s)).lead.expected + periodNs (pulseAt 6 (atTime τ s)) / 100)) = true := by
    intro hinside
    rw [Bool.and_eq_true, Bool.and_eq_true] at hinside
    obtain ⟨⟨-, hlow⟩, hhigh⟩ := hinside
    have hlow' : s.lead.expected ≤ max s.now τ + periodNs s / 100 := of_decide_eq_true hlow
    have hhigh' : max s.now τ ≤ s.lead.expected + periodNs s / 100 := of_decide_eq_true hhigh
    omega
  exact (next_of_ready (s := s) hready rfl).trans (congrArg Host.Outcome.next
    ((if_neg hexternal).trans ((if_neg hnot).trans (if_neg houtside))))

/-- What follows a flywheel tick: the third in a run ends EXTERNAL. -/
def flywheelEnd (s : State) : State :=
  if s.lead.flyRun < 3 then s
  else event 0x8008 0 { s with tick := { s.tick with source := .internal }, lead := { s.lead with flyRun := 0 } }

theorem flywheelTick_due (hdue : s.lead.expected + periodNs s / 100 ≤ max s.now τ) :
    exec (.flywheelTick τ) s = .next (flywheelEnd (issueTick false true (atTime τ s))) := by
  have hnot : ¬ (!issues (atTime τ s) || decide ((atTime τ s).tick.source ≠ .external) || (atTime τ s).lead.issued.isNone ||
      decide ((atTime τ s).now < (atTime τ s).lead.expected + periodNs (atTime τ s) / 100)) = true := by
    rw [show issues (atTime τ s) = true from hissues, show (atTime τ s).lead.issued = some m from hissued,
      decide_eq_false (show ¬ (atTime τ s).tick.source ≠ .external from not_not_intro hsource),
      decide_eq_false (show ¬ (atTime τ s).now < (atTime τ s).lead.expected + periodNs (atTime τ s) / 100 from Nat.not_lt.mpr hdue)]
    exact Bool.false_ne_true
  exact (next_of_ready (s := s) hready rfl).trans (congrArg Host.Outcome.next (if_neg hnot))

end

end

/-- The event at the flywheel's end leaves the tick that was sent. -/
theorem flywheelEnd_spec : (flywheelEnd s).lead.flyRun = (if s.lead.flyRun < 3 then s.lead.flyRun else 0) ∧
    (flywheelEnd s).tick.source = (if s.lead.flyRun < 3 then s.tick.source else .internal) ∧
    (flywheelEnd s).lead.issued = s.lead.issued ∧ (∀ x, x ∈ s.sent → x ∈ (flywheelEnd s).sent) ∧
    sendDelays (flywheelEnd s) = sendDelays s := by
  unfold flywheelEnd
  split
  · exact ⟨rfl, rfl, rfl, fun _ h => h, rfl⟩
  · have hgrows := event_grows 0x8008 0 { s with tick := { s.tick with source := .internal }, lead := { s.lead with flyRun := 0 } }
    have hlead := hgrows.same .lead rfl
    exact ⟨congrArg (·.flyRun) hlead, congrArg (·.source) (hgrows.same .tick rfl), congrArg (·.issued) hlead,
      fun x hx => mem_sent_of_grows hgrows hx,
      sendDelays_congr (hgrows.same .job rfl) (hgrows.same .beam rfl) (hgrows.same .fabric rfl)⟩

end

/-- Settles O6: every branch of a tick sends one message that follows the last, from a state in which the tick stands as it did. -/
theorem theLeadIssuesTicks : Obligations.TheLeadIssuesTicks := by
  unfold Obligations.TheLeadIssuesTicks
  refine ⟨?_, ?_, ?_, ?_, ?_, ?_, ?_⟩
  · intro τ s hready hissues hnone hhalt
    have heq := issueTick_begins (τ := τ) hready hissues hnone
    rw [issueTick_first (s := atTime τ s) hnone hhalt] at heq
    obtain ⟨hissued, -, -, htick, -, hsent⟩ := sendTick_spec (s := finish isJobStart 0 0 [] (atTime τ s)) (firstMsg (atTime τ s))
    have hkept : (finish isJobStart 0 0 [] (atTime τ s)).tick = s.tick :=
      finish_only (s := atTime τ s) isJobStart 0 0 [] .tick (by decide)
    exact ⟨_, heq, _, hissued, hsent, by rw [htick, hkept], rfl⟩
  · intro τ s m hready hissues hissued hsource hdue
    obtain ⟨hpulse, -, hat, -, m', hm', hcount, hexternal, hflywheel, hsent⟩ := issueTick_follows (s := atTime τ s) false false hissued
    exact ⟨_, issueTick_due hready hissues hissued hsource hdue, hat, m', hm', hcount, hexternal, hflywheel, hsent, hpulse⟩
  · intro τ s m hready hissues hissued hsource hdue hending hrequests hhold hrestart hoverruns hforwarded hslot
    have heq := issueTick_due hready hissues hissued hsource hdue
    rw [issueTick_slot (s := atTime τ s) hissued hending hrequests hhold hrestart hoverruns hforwarded hslot,
      nextMsg_after (s := atTime τ s) false false hissued] at heq
    have hcleared : Only [.now, .tick] s { atTime τ s with tick := { s.tick with slipRun := 0 } } := only_of_patch rfl
    exact ⟨_, heq, (hcleared.trans (sendTick_only _)).mono (by decide), _, (sendTick_spec _).1, rfl, rfl, rfl, rfl, rfl, rfl⟩
  · intro τ s m o hready hissues hissued hsource hdue hending hrequests hhold hrestart ho hlate hplace
    have heq := issueTick_due hready hissues hissued hsource hdue
    rw [issueTick_slip (s := atTime τ s) hissued hending hrequests hhold hrestart ho hlate hplace,
      nextMsg_after (s := atTime τ s) false false hissued] at heq
    obtain ⟨hcount, hrun, hgone, hslipped⟩ := slipTick_spec (s := atTime τ s) { m with
      tickCount := m.tickCount + 1, slip := false, passBoundary := false, stepBoundary := false, hold := false
      external := false, flywheel := false, group := 0 } hlate
    exact ⟨_, heq, hcount, hrun, hgone, _, hslipped, rfl, rfl, rfl⟩
  · intro τ s m hready hissues hissued hsource hlow hhigh
    obtain ⟨-, -, -, -, m', hm', hcount, hexternal, -, hsent⟩ := issueTick_follows (s := pulseAt 6 (atTime τ s)) true false hissued
    exact ⟨_, tickInEdge_valid hready hissues hissued hsource hlow hhigh, m', hm', hexternal, hcount, hsent⟩
  · intro τ s m hready hissues _ hsource hout
    have hpulsed : Only [.now, .pins] s (pulseAt 6 (atTime τ s)) := only_of_patch rfl
    exact ⟨_, tickInEdge_rejected hready hissues hsource hout, counter_count_same _ _ _,
      (hpulsed.trans (count_only _ _ _)).mono (by decide)⟩
  · intro τ s m hready hissues hissued hsource _ hdue
    obtain ⟨-, hkept, -, hrun, m', hm', hcount, -, hflywheel, hsent⟩ := issueTick_follows (s := atTime τ s) false true hissued
    obtain ⟨hflyRun, hended, hlast, hgrew, hdelays⟩ := flywheelEnd_spec (s := issueTick false true (atTime τ s))
    rw [if_pos rfl] at hrun
    rw [hrun] at hflyRun hended
    rw [hkept, show (atTime τ s).tick.source = .external from hsource] at hended
    exact ⟨_, flywheelTick_due hready hissues hissued hsource hdue, hflyRun, hended, m', hlast.trans hm', hflywheel, hcount,
      by rw [hdelays]; exact hgrew _ hsent⟩

end Sys2Proof.Machine

/-! SUPPORT. Ticks at a module, overruns and a lost lead (R20 to R22, R41, R45, R50 to R52, R58, R65). -/

namespace Sys2Proof.Machine

section
variable {s : State} {τ : Nat}

/-! ## A tick received (R45) -/

/-- What follows a held tick on the TICK page. -/
def heldTickDone (m : TickMsg) (s : State) : State :=
  let held := heldTick m (count cTicks 1 (count cHeld 1 (relayTick m s)))
  if held.job.ending && m.hold && allDone held then endJob held else reportDone (sendBeacon (sendMarkers held))

theorem takeTick_held {m : TickMsg} (hhold : m.hold = true) : takeTick m s = heldTickDone m (recordTick m (noteTiming m s)) := by
  unfold takeTick heldTickDone
  dsimp only
  rw [if_pos hhold, if_pos hhold]

/-- Under HOLD nothing after the TICK page's record touches it: no slot's work is released. -/
theorem heldTickDone_tick (m : TickMsg) : (heldTickDone m s).tick = s.tick := by
  have hrelay : Only [.sent, .lead] s (relayTick m s) := (relayTick_grows m s).onlyIn _ (by decide)
  have hheld (u : State) : (heldTick m u).tick = u.tick := (heldTick_grows m u).same .tick rfl
  obtain ⟨u, hu⟩ : ∃ u, u = heldTick m (count cTicks 1 (count cHeld 1 (relayTick m s))) := ⟨_, rfl⟩
  have hrelayed : u.tick = s.tick := hu ▸ (hheld _).trans (hrelay .tick (by decide))
  have hended : (endJob u).tick = u.tick := (endJob_grows u).same .tick rfl
  have hreported : (reportDone (sendBeacon (sendMarkers u))).tick = u.tick :=
    ((reportDone_grows _).same .tick rfl).trans (((sendBeacon_grows _).same .tick rfl).trans ((sendMarkers_grows u).same .tick rfl))
  unfold heldTickDone
  dsimp only
  rw [← hu]
  split
  · exact hended.trans hrelayed
  · exact hreported.trans hrelayed

/-- The TICK page as the message fills it; TICK_OUT pulses where the module is no job lead. -/
theorem recordTick_spec (m : TickMsg) : (recordTick m s).tick.tickCount = m.tickCount ∧ (recordTick m s).tick.step = m.step ∧
    (recordTick m s).tick.slot = m.slot ∧ (recordTick m s).tick.epoch = m.epoch ∧ (recordTick m s).tick.flags = tickFlags m ∧
    (recordTick m s).tick.missed = 0 ∧ (recordTick m s).tick.units = s.tick.units ∧
    (isLead s = false → (recordTick m s).tick.lastValidAt = some s.now ∧ (recordTick m s).tick.tickOut = s.tick.tickOut + 1) := by
  have hrecorded : ∃ u : State, recordTick m s = (if isJobLead s then u else pulseOut u) ∧
      u.tick = { s.tick with
        tickCount := m.tickCount, step := m.step, slot := m.slot, epoch := m.epoch, flags := tickFlags m
        ptpStamp := moduleTime { s with now := arrivedAt s }, lastValidAt := some (arrivedAt s), missed := 0, behind := false
        lossReported := false } := ⟨_, rfl, rfl⟩
  obtain ⟨u, hu, htick⟩ := hrecorded
  have hpage : ∃ out, (recordTick m s).tick = { u.tick with tickOut := out } ∧
      (isLead s = false → out = u.tick.tickOut + 1) := by
    rw [hu]
    split
    next hjob =>
      refine ⟨u.tick.tickOut, rfl, fun hmember => ?_⟩
      rw [isJobLead, hmember] at hjob
      exact absurd hjob Bool.false_ne_true
    next => exact ⟨u.tick.tickOut + 1, rfl, fun _ => rfl⟩
  obtain ⟨out, hout, hpulse⟩ := hpage
  rw [hout, htick]
  refine ⟨rfl, rfl, rfl, rfl, rfl, rfl, rfl, fun hmember => ⟨?_, ?_⟩⟩
  · have harrived : arrivedAt s = s.now := by
      unfold arrivedAt
      rw [hmember]
      rfl
    exact congrArg some harrived
  · exact (hpulse hmember).trans (by rw [htick])

/-- The timing event marks the step, no more. -/
theorem noteTiming_spec (m : TickMsg) : (noteTiming m s).tick.units = s.tick.units ∧ (noteTiming m s).tick.tickOut = s.tick.tickOut ∧
    Only [.sent, .side, .tick, .mem, .host] s (noteTiming m s) := by
  have honly : Only [.sent, .side, .tick, .mem, .host] s (noteTiming m s) := (noteTiming_grows m s).onlyIn _ (by decide)
  have htick : (noteTiming m s).tick.units = s.tick.units ∧ (noteTiming m s).tick.tickOut = s.tick.tickOut := by
    unfold noteTiming
    split
    · have hevent := (event_grows 0x800C 0xFFFF { s with tick := { s.tick with timingStep := some m.step } }).same .tick rfl
      exact ⟨congrArg (·.units) hevent, congrArg (·.tickOut) hevent⟩
    · exact ⟨rfl, rfl⟩
  exact ⟨htick.1, htick.2, honly⟩

theorem takeNews_only (news : TickNews) : Only [.sent, .lead, .job, .grp] s (takeNews news s) :=
  (takeNews_grows news s).onlyIn _ (by decide)

/-- Without new roles the role stays. -/
theorem isLead_takeNews {news : TickNews} (hroles : news.roles = none) : isLead (takeNews news s) = isLead s := by
  unfold takeNews
  rw [hroles]
  dsimp only
  split
  · split <;> rfl
  · rfl

theorem not_joins (hstarted : s.job.started = true) : joins s = false := by
  unfold joins
  rw [hstarted, Bool.not_true, Bool.and_false, Bool.false_and]

theorem tickReceived_valid {raw : BitVec 160} {news : TickNews} (hready : Ready s) (hstarted : s.job.started = true)
    (hcheck : tickCheckOk raw.toNat = true) :
    exec (.tickReceived τ raw news) s = .next (takeTick (decodeTick raw.toNat) (takeNews news (atTime τ s))) := by
  have hjoin : ¬ (joins (atTime τ s) && tickCheckOk raw.toNat) = true := by
    rw [not_joins (s := atTime τ s) hstarted]
    exact Bool.false_ne_true
  have hidle : ¬ (!(atTime τ s).job.started) = true := by
    rw [show (atTime τ s).job.started = true from hstarted]
    exact Bool.false_ne_true
  exact (next_of_ready (s := s) hready rfl).trans (congrArg Host.Outcome.next ((if_neg hjoin).trans ((if_neg hidle).trans (if_pos hcheck))))

/-! ## Ticks that count as missed (R58) -/

/-- One more tick missed. -/
def tickLost (s : State) : State := { s with tick := { s.tick with missed := s.tick.missed + 1, behind := true } }

theorem tickReceived_bad {raw : BitVec 160} {news : TickNews} (hready : Ready s) (hstarted : s.job.started = true)
    (hcheck : tickCheckOk raw.toNat = false) :
    exec (.tickReceived τ raw news) s = .next (count cBadTick 1 (tickLost (atTime τ s))) := by
  have hjoin : ¬ (joins (atTime τ s) && tickCheckOk raw.toNat) = true := by
    rw [not_joins (s := atTime τ s) hstarted]
    exact Bool.false_ne_true
  have hidle : ¬ (!(atTime τ s).job.started) = true := by
    rw [show (atTime τ s).job.started = true from hstarted]
    exact Bool.false_ne_true
  exact (next_of_ready (s := s) hready rfl).trans (congrArg Host.Outcome.next ((if_neg hjoin).trans ((if_neg hidle).trans
    (if_neg (ne_true_of_eq_false hcheck)))))

theorem tickMissed_late {p : Nat} (hready : Ready s) (hstarted : s.job.started = true) (hpredicted : predicted s = some p)
    (hlate : p + tickSlack s < max s.now τ) : exec (.tickMissed τ) s = .next (count cMissTick 1 (tickLost (atTime τ s))) := by
  have hnot : ¬ (!(atTime τ s).job.started || decide ((atTime τ s).now ≤ p + tickSlack (atTime τ s))) = true := by
    rw [show (atTime τ s).job.started = true from hstarted,
      decide_eq_false (show ¬ (atTime τ s).now ≤ p + tickSlack (atTime τ s) from Nat.not_le.mpr hlate)]
    exact Bool.false_ne_true
  refine (next_of_ready (s := s) hready rfl).trans (congrArg Host.Outcome.next ?_)
  dsimp only
  rw [show predicted (atTime τ s) = some p from hpredicted]
  exact if_neg hnot

theorem tickLost_counted (k : Nat) : counter (count k 1 (tickLost s)) k = counter s k + 1 ∧
    (count k 1 (tickLost s)).tick = { s.tick with missed := s.tick.missed + 1, behind := true } ∧
    Only [.tick, .counters] s (count k 1 (tickLost s)) :=
  ⟨counter_count_same _ _ _, rfl, ((only_of_patch rfl : Only [.tick] s (tickLost s)).trans (count_only _ _ _)).mono (by decide)⟩

/-! ## Overruns and slips (R50 to R52) -/

theorem graceExpired_reported {u : UnitId} {e : Nat} (hready : Ready s) (hheld : s.job.held = false) (hmember : isLead s = false)
    (hgrace : (unitRun s u.val).grace = some e) (hover : e ≤ max s.now τ) (hbusy : unitBusy s u.val = true) :
    exec (.graceExpired τ u) s = .next (emit (.overrun s.job.member u.val ((unitRun s u.val).running.getD 0))
      (setUnitRun u.val { unitRun s u.val with grace := none } (atTime τ s))) := by
  have hwork : ¬ (!unitBusy (setUnitRun u.val { unitRun s u.val with grace := none } (atTime τ s)) u.val ||
      (setUnitRun u.val { unitRun s u.val with grace := none } (atTime τ s)).job.held) = true := by
    rw [show unitBusy (setUnitRun u.val { unitRun s u.val with grace := none } (atTime τ s)) u.val = true from hbusy,
      show (setUnitRun u.val { unitRun s u.val with grace := none } (atTime τ s)).job.held = false from hheld]
    exact Bool.false_ne_true
  refine (next_of_ready (s := s) hready rfl).trans (congrArg Host.Outcome.next ?_)
  dsimp only
  rw [show (unitRun (atTime τ s) u.val).grace = some e from hgrace]
  exact (if_neg (Nat.not_lt.mpr hover)).trans ((if_neg hwork).trans (if_neg (ne_true_of_eq_false hmember)))

theorem overrunReport_jobLead {member : MemberId} {u : UnitId} {slot : BitVec 24} (hready : Ready s) (hlead : isJobLead s = true)
    (hstarted : s.job.started = true) (hheld : s.job.held = false) : exec (.overrunReport τ member u slot) s =
      .next { atTime τ s with lead := { s.lead with overruns := s.lead.overruns ++
        [{ member := member.val, unit := u.val, slot := slot.toNat, at_ := (atTime τ s).now }] } } := by
  have htaken : (isLead (atTime τ s) && (atTime τ s).job.started) = true :=
    Bool.and_eq_true_iff.mpr ⟨(Bool.and_eq_true_iff.mp hlead).1, hstarted⟩
  have hkept : (isJobLead (atTime τ s) || !(atTime τ s).lead.overruns.isEmpty) = true := by
    rw [show isJobLead (atTime τ s) = true from hlead, Bool.true_or]
  exact (next_of_ready (s := s) hready rfl).trans (congrArg Host.Outcome.next
    ((if_pos htaken).trans ((if_neg (ne_true_of_eq_false hheld)).trans (if_pos hkept))))

theorem groupSlipForward_kept {g : GroupId} (hready : Ready s) (hissues : issues s = true) (hheld : s.job.held = false)
    (hgroup : g.val ≠ 0) : exec (.groupSlipForward τ g) s =
      .next { atTime τ s with lead := { s.lead with groupSlip := s.lead.groupSlip ++ [(atTime τ s).now] } } := by
  have hkept : (issues (atTime τ s) && !(atTime τ s).job.held && decide (g.val ≠ 0)) = true := by
    rw [show issues (atTime τ s) = true from hissues, show (atTime τ s).job.held = false from hheld, decide_eq_true hgroup]
    rfl
  exact (next_of_ready (s := s) hready rfl).trans (congrArg Host.Outcome.next (if_pos hkept))

/-! ## A lost lead (R20 to R22) -/

/-- The loss of the tick told once. -/
def lossTold (s : State) : State :=
  if s.tick.lossReported then s else event 0x8007 0 { s with tick := { s.tick with lossReported := true } }

theorem lossTold_job : (lossTold s).job = s.job := by
  unfold lossTold
  split
  · rfl
  · exact (event_grows 0x8007 0 { s with tick := { s.tick with lossReported := true } }).same .job rfl

theorem tickLoss_standby (hready : Ready s) (hstarted : s.job.started = true) (hstandby : s.job.role = .standby)
    (hsilent : s.tick.lastValidAt.getD 0 + silenceBound s ≤ max s.now τ) :
    exec (.tickLoss τ) s = .next (takeLead (lossTold (atTime τ s))) := by
  have hnot : ¬ (!(atTime τ s).job.started ||
      decide ((atTime τ s).now < (atTime τ s).tick.lastValidAt.getD 0 + silenceBound (atTime τ s))) = true := by
    rw [show (atTime τ s).job.started = true from hstarted,
      decide_eq_false (show ¬ (atTime τ s).now < (atTime τ s).tick.lastValidAt.getD 0 + silenceBound (atTime τ s)
        from Nat.not_lt.mpr hsilent)]
    exact Bool.false_ne_true
  have hrole : (lossTold (atTime τ s)).job.role = .standby := by
    rw [lossTold_job]
    exact hstandby
  exact (next_of_ready (s := s) hready rfl).trans (congrArg Host.Outcome.next ((if_neg hnot).trans (if_pos hrole)))

/-- The state in which the standby lead has taken the role, before it is told. -/
def leadTaken (s : State) : State :=
  let m : TickMsg := { decodeTick 0 with tickCount := s.tick.tickCount, step := s.tick.step, slot := s.tick.slot
                                         epoch := s.tick.epoch, hold := true }
  let taken := { s with
    job := { s.job with role := .lead, leadMember := s.job.member, standbyMember := none, held := true }
    lead := { issued := some m, issuedAt := s.now + 2000 - periodNs s, expected := s.now + periodNs s, restartStep := true
              graceLate := s.lead.news.graceLate }
    power := { s.power with requests := s.lead.news.grants }
    grp := { s.grp with standbyLost := true } }
  setMemberState (64 * s.job.group + s.job.leadMember) .lost (each s.lead.news.late (fun e st =>
    setMember (64 * st.job.group + e.1) { memberS st (64 * st.job.group + e.1) with late := e.2 } st) taken)

theorem leadTaken_job :
    (leadTaken s).job = { s.job with role := .lead, leadMember := s.job.member, standbyMember := none, held := true } := by
  have hlate (l : List (Nat × List Bool)) (u : State) : Only [.grp] u (each l (fun e st =>
      setMember (64 * st.job.group + e.1) { memberS st (64 * st.job.group + e.1) with late := e.2 } st) u) :=
    each_only (fun _ _ => setMember_only) l u
  unfold leadTaken
  exact (setMemberState_job _ _ _).trans (hlate _ _ .job (by decide))

theorem takeLead_eq : takeLead s = requestRollback 13 (emit (.roles (leadTaken s).job.member none)
    (faultEvent { cls := 10, code := 2, detail := selfIndex s } (memberEvent (selfIndex s) (leadTaken s)))) := rfl

/-- The new lead's roles, which it tells its group. -/
theorem takeLead_spec : (takeLead s).job = { s.job with role := .lead, leadMember := s.job.member, standbyMember := none, held := true } ∧
    Msg.roles s.job.member none ∈ (takeLead s).sent := by
  have hjob := leadTaken_job (s := s)
  have hmember : (leadTaken s).job.member = s.job.member := congrArg (·.member) hjob
  have htold := (memberEvent_grows (selfIndex s) (leadTaken s)).same .job rfl
  obtain ⟨u, hu⟩ : ∃ u,
    u = faultEvent { cls := 10, code := 2, detail := selfIndex s } (memberEvent (selfIndex s) (leadTaken s)) := ⟨_, rfl⟩
  have hfault : u.job = (leadTaken s).job := hu ▸ (faultEvent_job _ _).trans htold
  rw [takeLead_eq, ← hu, hmember]
  have hgrows := requestRollback_grows 13 (emit (.roles s.job.member none) u)
  refine ⟨?_, mem_sent_of_grows hgrows (List.mem_append_right _ List.mem_cons_self)⟩
  exact (hgrows.same .job rfl).trans (hfault.trans hjob)

theorem nameStandby_found {m : Nat} (hready : Ready s) (hlead : isLead s = true) (hstarted : s.job.started = true)
    (hlost : s.grp.standbyLost = true) (hheld : s.job.held = true)
    (hpick : (activeMembers s).find? (fun k => decide (k ≠ s.job.member) && bitAt s.job.straps k) = some m) :
    exec .nameStandby s = .next (memberEvent (64 * s.job.group + m) (emit (.roles s.job.member (some m))
      { s with job := { s.job with standbyMember := some m }, grp := { s.grp with standbyLost := false } })) := by
  have hnot : ¬ (!isLead s || !s.job.started || !s.grp.standbyLost || !(s.job.held || decide (s.tick.slot = 0))) = true := by
    rw [hlead, hstarted, hlost, hheld, Bool.true_or]
    exact Bool.false_ne_true
  refine (next_of_ready hready rfl).trans (congrArg Host.Outcome.next ((if_neg hnot).trans ?_))
  dsimp only
  rw [hpick]

end

/-- Settles O7: the TICK page's record, which what follows a held tick leaves, and one equation for each report and role. -/
theorem modulesTakeTicks : Obligations.ModulesTakeTicks := by
  unfold Obligations.ModulesTakeTicks
  refine ⟨?_, ?_, ?_, ?_, ?_, ?_, ?_, ?_⟩
  · intro τ raw news s m hready hstarted hcheck hm hhold
    have heq := tickReceived_valid (τ := τ) (news := news) hready hstarted hcheck
    rw [← hm, takeTick_held hhold] at heq
    have hnews := takeNews_only (s := atTime τ s) news
    obtain ⟨u, hu⟩ : ∃ u, u = takeNews news (atTime τ s) := ⟨_, rfl⟩
    rw [← hu] at heq hnews
    obtain ⟨hunits, hout, htimed⟩ := noteTiming_spec (s := u) m
    obtain ⟨hcount, hstep, hslot, hepoch, hflags, hmissed, hkept, hpulse⟩ := recordTick_spec (s := noteTiming m u) m
    have hlast := heldTickDone_tick (s := recordTick m (noteTiming m u)) m
    have htick : u.tick = s.tick := hnews .tick (by decide)
    refine ⟨_, heq, ?_⟩
    rw [hlast]
    refine ⟨hcount, hstep, hslot, hepoch, hflags, hmissed, hkept.trans (hunits.trans (by rw [htick])), fun hmember hroles => ?_⟩
    have hrole : isLead (noteTiming m u) = false := by
      have hjob : (noteTiming m u).job = u.job := htimed .job (by decide)
      have hnewsRole : isLead u = isLead s := hu ▸ isLead_takeNews hroles
      unfold isLead at hnewsRole hmember ⊢
      rw [hjob, hnewsRole, hmember]
    obtain ⟨hat, hpulsed⟩ := hpulse hrole
    have hnow : (noteTiming m u).now = max s.now τ := (htimed .now (by decide)).trans (hnews .now (by decide))
    exact ⟨by rw [hat, hnow], by rw [hpulsed, hout, htick]⟩
  · intro τ raw news s hready hstarted hcheck
    obtain ⟨hcount, htick, honly⟩ := tickLost_counted (s := atTime τ s) cBadTick
    have htime : Only [.now] s (atTime τ s) := only_of_patch rfl
    exact ⟨_, tickReceived_bad hready hstarted hcheck, hcount, htick, htime.trans honly⟩
  · intro τ s p hready hstarted hpredicted hlate
    obtain ⟨hcount, htick, honly⟩ := tickLost_counted (s := atTime τ s) cMissTick
    have htime : Only [.now] s (atTime τ s) := only_of_patch rfl
    exact ⟨_, tickMissed_late hready hstarted hpredicted hlate, hcount, htick, htime.trans honly⟩
  · intro τ u s e hready hheld hmember hgrace hover hbusy
    exact ⟨_, graceExpired_reported hready hheld hmember hgrace hover hbusy, rfl,
      congrArg (·.grace) (mapGet_mapSet_same (d := ({} : UnitRun)) (m := s.tick.units)), only_of_patch rfl⟩
  · intro τ member u slot s hready hlead hstarted hheld
    exact ⟨_, overrunReport_jobLead hready hlead hstarted hheld, rfl, only_of_patch rfl⟩
  · intro τ g s hready hissues hheld hgroup
    exact ⟨_, groupSlipForward_kept hready hissues hheld hgroup, rfl, only_of_patch rfl⟩
  · intro τ s hready hstarted hstandby hsilent
    obtain ⟨hjob, htold⟩ := takeLead_spec (s := lossTold (atTime τ s))
    rw [lossTold_job] at hjob htold
    exact ⟨_, tickLoss_standby hready hstarted hstandby hsilent, by rw [hjob], by rw [hjob]; rfl, by rw [hjob], by rw [hjob], htold⟩
  · intro s m hready hlead hstarted hlost hheld hpick
    have heq := nameStandby_found hready hlead hstarted hlost hheld hpick
    obtain ⟨u, hu⟩ : ∃ u, u = emit (.roles s.job.member (some m))
      { s with job := { s.job with standbyMember := some m }, grp := { s.grp with standbyLost := false } } := ⟨_, rfl⟩
    obtain ⟨hjob, hsent, honly⟩ : u.job = { s.job with standbyMember := some m } ∧ Msg.roles s.job.member (some m) ∈ u.sent ∧
        Only [.sent, .job, .grp] s u := by
      rw [hu]
      exact ⟨rfl, List.mem_append_right _ List.mem_cons_self, only_of_patch rfl⟩
    rw [← hu] at heq
    have hevent := memberEvent_grows (64 * s.job.group + m) u
    exact ⟨_, heq, (hevent.same .job rfl).trans hjob, mem_sent_of_grows hevent hsent,
      (honly.trans (eventCtx_only _ _ _ _)).mono (by decide)⟩

end Sys2Proof.Machine
